-- ==== Sys2Proof/Word.lean ====
section
/-! DEFINITION. The words of the model: octets, 32-bit action-engine words, and the plainest arithmetic on numbers
that stand for words of a given width. -/

namespace Sys2Proof

/-- An octet of a frame, a structure or a key. -/
abbrev Byte := BitVec 8

/-- A 32-bit word of an action engine or a header vector (R204). -/
abbrev Word := BitVec 32

/-- The number `n` cut to `w` bits. -/
def low (w n : Nat) : Nat := n % 2 ^ w

/-- Bits `hi` down to `lo` of `n` (R4: bit 0 is the least significant). -/
def bits (n hi lo : Nat) : Nat := (n / 2 ^ lo) % 2 ^ (hi + 1 - lo)

/-- Bit `i` of `n`. -/
def bitOf (n i : Nat) : Bool := (n / 2 ^ i) % 2 == 1

/-- `n` with bit `i` written. -/
def setBit (n i : Nat) (b : Bool) : Nat :=
  if bitOf n i = b then n else if b then n + 2 ^ i else n - 2 ^ i

/-- 0 or 1. -/
def b2n (b : Bool) : Nat := if b then 1 else 0

/-- The signed value of an `w`-bit two's complement number. -/
def toSigned (w n : Nat) : Int :=
  if n % 2 ^ w < 2 ^ (w - 1) then (n % 2 ^ w : Nat) else ((n % 2 ^ w : Nat) : Int) - (2 ^ w : Nat)

/-- The `w`-bit two's complement code of an integer. -/
def ofSigned (w : Nat) (i : Int) : Nat := (i % ((2 ^ w : Nat) : Int)).toNat

/-- A big-endian number from octets, byte 0 most significant (R5). -/
def beNat (l : List Byte) : Nat := l.foldl (fun a b => a * 256 + b.toNat) 0

/-- A little-endian number from octets (R5). -/
def leNat (l : List Byte) : Nat := l.foldr (fun b a => a * 256 + b.toNat) 0

/-- `n` octets of a number, most significant first. -/
def beBytes : Nat → Nat → List Byte
  | 0, _ => []
  | n + 1, v => BitVec.ofNat 8 (v / 256 ^ n) :: beBytes n v

/-- `n` octets of a number, least significant first. -/
def leBytes : Nat → Nat → List Byte
  | 0, _ => []
  | n + 1, v => BitVec.ofNat 8 v :: leBytes n (v / 256)

/-- Octet `i` of a list, 0 beyond its end. -/
def byteAt (l : List Byte) (i : Nat) : Byte := l.getD i 0

/-- `n` octets from position `i`, 0 beyond the end. -/
def slice (l : List Byte) (i n : Nat) : List Byte :=
  let part := (l.drop i).take n
  part ++ List.replicate (n - part.length) 0

/-- `l` with the octets from position `i` replaced by `v`, as far as `l` reaches. -/
def overlay (l : List Byte) (i : Nat) (v : List Byte) : List Byte :=
  (l.take i ++ v.take (l.length - i)) ++ l.drop (i + v.length)

/-- The number of 1 bits among the low `w` bits. -/
def popcount : Nat → Nat → Nat
  | 0, _ => 0
  | w + 1, n => n % 2 + popcount w (n / 2)

end Sys2Proof
end

