-- ==== Sys2Proof/Config.lean ====
section
/-! DEFINITION. What a part fixes (R1 to R3) and the values the spec leaves open. -/

namespace Sys2Proof

/-- The parts, by ordering code (R1). -/
inductive Part where
  | sh2048lq | sh1024lq | sh0512lq | sh0512af
  deriving DecidableEq, Repr

/-- Die positions populated (R1, R2). -/
def Part.dies : Part → List Nat
  | .sh2048lq => [0, 1, 2, 3, 4, 5, 6, 7]
  | .sh1024lq => [0, 1, 4, 5]
  | .sh0512lq => [0, 1]
  | .sh0512af => [0, 1]

/-- The second host die (R3). -/
def Part.secondHost : Part → Nat
  | .sh2048lq => 4
  | .sh1024lq => 4
  | .sh0512lq => 1
  | .sh0512af => 1

/-- Ordering code as a STRING[16] value (R1, 0x1000.02). -/
def Part.code : Part → Nat
  | .sh2048lq => 0x53482D323034382D4C51000000000000
  | .sh1024lq => 0x53482D313032342D4C51000000000000
  | .sh0512lq => 0x53482D303531322D4C51000000000000
  | .sh0512af => 0x53482D303531322D4146000000000000

/-- Maximum package power in watts (R1). -/
def Part.maxPower : Part → Nat
  | .sh2048lq => 1900
  | .sh1024lq => 980
  | .sh0512lq => 520
  | .sh0512af => 520

/-- A value that the spec leaves open, by number: nothing is known of it (DESIGN CHOICE, log 7). -/
opaque Config.freeValue : Nat → Nat

/-- The per-part values the spec does not state (serial number, stepping, ROM version, and so on), by object key (DESIGN CHOICE, log 8). -/
opaque Config.perPart : Nat → Nat

/-- Tile and row that hold a table entry, as fault records name them (R403): the engine allocates tiles as it likes (R153), by
entry key (DESIGN CHOICE, log 12). -/
opaque Config.tableRow : Nat → Nat

/-- The microwords of the Dechus region (R198), which the signed image holds: version, direction (1 egress), address (DESIGN CHOICE, log 13). -/
opaque Config.dechusWord : Nat → Nat → Nat → Nat

/-- The dispatch entries of the Dechus image (R211, R213): version, direction, opcode (DESIGN CHOICE, log 13). -/
opaque Config.dechusEntry : Nat → Nat → Nat → Nat

/-- The value that R307 resets a lane's scrambler to (DESIGN CHOICE, log 145). -/
opaque Config.scramblerReset : BitVec 58

end Sys2Proof
end

