-- ==== Sys2Proof/Syntax.lean ====
section
/-! DEFINITION. The commands of the block and their operands: one constructor of `Instr` per row of the opcode table. -/

namespace Sys2Proof

/-- Who sends a dictionary request (R335). `h` is the host-die index, `f` the PCIe function; a KDP session is named by its
number and nonce; `keeper` is a feature of the engine. -/
inductive Session where
  | pcie (h f : Nat)
  | kdp (number nonce : Nat)
  | smbus
  | jtag
  | keeper (feature : Nat)
  deriving DecidableEq, Repr

/-- What a dictionary request carries beside its operation (R331): the session, the key slot (none is 0xFF), the 16-octet
check as a big-endian number, the counter, the CRITICAL flag and the tag. -/
structure Req where
  session : Session
  keySlot : Option Nat
  check : Nat
  counter : Nat
  critical : Bool
  tag : Nat
  deriving DecidableEq, Repr

/-- A dictionary address `inst:index.sub` (R8). -/
structure Address where
  inst : Nat
  index : Nat
  sub : Nat
  deriving DecidableEq, Repr

/-- An error reported to the FCU (R399, R403): class 0 CE, 1 DE, 2 UCC, 3 FATAL; whether a repair by spare runs. -/
structure FaultError where
  die : Nat
  source : Nat
  cls : Nat
  location : Nat
  detail0 : Nat
  detail1 : Nat
  spareUsed : Bool
  repairing : Bool
  deriving DecidableEq, Repr

/-- The thread that takes an item, and what ECC finds in the first word that it fetches: 0 nothing, 1 an error that is corrected, 2 one that is not
(R196, R200). -/
structure FirstFetch where
  thread : Nat
  ecc : Nat
  deriving DecidableEq, Repr

/-- What the scrub finds wrong in a row of a search array (R142, R143). -/
inductive RowError where
  /-- A single-bit error of the result record, which is corrected. -/
  | corrected
  /-- Parity, or an uncorrectable error of the result record: a search that the row wins misses. -/
  | parity
  /-- A bit error that stops the row from matching. -/
  | hidden
  deriving DecidableEq, Repr

/-- What Kindling finds of one image (R476 to R481): whether the host die's self-test passed and its flash could be read; the
first 544 octets of the header and whether the rest is zero; whether the signature verifies under a key that is not revoked,
the section digests match and the patches decrypt; SHA-384 of the signed octets, the patch list version and the Dechus version
with its patches. -/
structure ImageFacts where
  selfTest : Bool
  readable : Bool
  header : List Byte
  restZero : Bool
  signature : Bool
  digests : Bool
  decrypts : Bool
  digest : Nat
  patchLevel : Nat
  deriving DecidableEq, Repr


/-- The commands: one constructor per row of the opcode table. -/
inductive Instr where
  /-- RESET_N (R472): Assertion of RESET_N causes an ENGINE reset of every domain except the Ember and the fuse domain; an assertion during Kindling restarts it. -/
  | resetN (lowUs : Nat)
  /-- BOOT_ATTEMPT (R481): Kindling reads and checks one image slot in order FLASH_READ to DECRYPT, logs the result in BOOT_LOG, and boots the image or moves to the next attempt. -/
  | bootAttempt (facts : ImageFacts)
  /-- HOST_READY (R483): The Keeper has loaded the defaults and opened sessions; MBX_STATUS.READY becomes 1 and BOOT_STAGE reads HOST_READY. -/
  | hostReady (defaults : List (Address × Nat))
  /-- PERST_N (R475): PERST_N on a host-interface die resets its four functions and retrains the link, with failover first when the functions are paired. -/
  | perstN (h : Nat)
  /-- FUNCTION_LEVEL_RESET (R379): A PCIe function-level reset disables every WQ and CQ of the function, discards its held work and pushed copies, and resets its pools. -/
  | functionLevelReset (h f : Nat)
  /-- PPS_IN_EDGE (R42): A rising edge on 1PPS_IN is timed, applies a pending TOD_SET, and drives acquisition or source-loss counting in PPS_TOD mode. -/
  | ppsInEdge (h : Nat)
  /-- PTP_MESSAGE_RX (R41): A PTP event message received on a port is timestamped and passed to the Keeper over its reserved control path. -/
  | ptpMessageRx (n : Nat) (masterSelected : Bool)
  /-- TIME_OFFSET_MEASURE (R43): The servo measures the offset from the source, moves ACQUIRING to LOCKED after 16 measurements within 50 ns, and slews or decides a step. -/
  | timeOffsetMeasure (offset : Int)
  /-- FLIGHT_IDLE (R252): Fabric message by which each die reports at a boundary which generations have no packets in flight. -/
  | flightIdle (d : Nat) (idle : Nat)
  /-- DIE_ACK_TIMEOUT (R49): A die that has not acknowledged a scheduled change within 24 µs is treated as faulted and fenced. -/
  | dieAckTimeout (d : Nat)
  /-- LINK_RETRAIN_START (R87): A DOWN port with automatic retrain enters TRAINING within 1 ms, from stored coefficients where R76 allows. -/
  | linkRetrainStart (n : Nat)
  /-- TRAINING_FRAME_RX (R73): An L400 training frame is received: the marker is locked, partner requests are answered and phase conditions are judged. -/
  | trainingFrameRx (n : Nat) (control : Nat) (status : Nat) (targetMet : Bool)
  /-- L400_TRAIN_STEP_TIMEOUT (R74): An L400 bring-up step exceeds its limit; training restarts from step 1 with INIT = 1 and L400_TRAIN_RESTARTS increments. -/
  | l400TrainStepTimeout (n : Nat)
  /-- L400_NO_PARTNER (R75): No marker lock within 500 ms, or a partner profile other than 1, raises the event once and restarts training each second. -/
  | l400NoPartner (n : Nat)
  /-- ALIGNMENT_BLOCK_RX (R72): An L400 alignment block is received; alignment lock or loss is judged and skew is removed. -/
  | alignmentBlockRx (n : Nat) (block : Option Nat)
  /-- LINK_UP (R88): Training ends with alignment lock on every lane; the port enters UP and LINK_UP is raised. -/
  | linkUp (n : Nat)
  /-- LINK_DOWN (R88): Loss of alignment, a fault ordered set or too many uncorrectable codewords moves an UP port to DOWN within 20 µs and raises LINK_DOWN. -/
  | linkDown (n : Nat)
  /-- PORT_DRAIN_END (R90): A drain ends when the egress queues empty or PORT_DRAIN_LIMIT expires; transmit is squelched and the port becomes DISABLED or starts TRAINING. -/
  | portDrainEnd (n : Nat) (expired : Bool)
  /-- SPARE_SLICE_LISTEN (R79): A 100 ms Seasoning period of the spare slice on one lane ends; it stores a coefficient set and moves to the next UP lane. -/
  | spareSliceListen (n : Nat) (marginOk : Bool)
  /-- LANE_REPAIR_TRIGGER (R80): A slice self-check failure or an excess of corrected symbols in a 1 ms window starts a repair of the lane. -/
  | laneRepairTrigger (n : Nat) (trigger : Nat) (heavy : Nat) (lost : Nat)
  /-- RX_CHANGEOVER (R81): After adaptation and shadow-decoder confirmation, the FEC decoder input switches to the spare at a codeword boundary. -/
  | rxChangeover (n : Nat)
  /-- TX_CHANGEOVER (R83): After phase alignment the output stage switches source to the spare driver at a codeword boundary; LANE_SWITCHOVER is raised. -/
  | txChangeover (n : Nat)
  /-- FRAME_RECEIVE (R260): A frame starts on an octet: the MAC assigns a PG, admission and the octet reserve are judged, and cells are taken; runts and bad frames are discarded. -/
  | frameReceive (n : Nat) (frame : List Byte)
  /-- PFC_XOFF_REFRESH (R284): Every 0x8000 quanta while the condition holds, the XOFF is sent again. -/
  | pfcXoffRefresh (n : Nat) (g : Nat)
  /-- PARSE (R108): The parser takes in the first 516 bytes, walks the parse graph with the length checks and builds the HV, or fails the parse and punts. -/
  | parse (p : Nat)
  /-- FRAME_END (R111): The end of a frame longer than the intake arrives; L3_END, FCS and truncation are checked and bad copies are ended or discarded. -/
  | frameEnd (p : Nat) (truncated : Bool)
  /-- INGRESS_LOOKUPS (R158): The ingress lookup stages run in order, writing HV fields, applying miss actions and sending learn requests. -/
  | ingressLookups (p : Nat)
  /-- ASA_SEARCH_SLOT (R147): In each pipeline clock the enabled search slots serve queued lookups in rotating order, and the results enter the HV. -/
  | asaSearchSlot (d : Nat)
  /-- RC_SWEEP (R146): Every 100 µs the sweeper removes RC entries whose generation is older than the oldest one kept. -/
  | rcSweep (p : Nat)
  /-- PLACE_CREDIT_REFILL (R187): Each pipeline earns 15 placement credits every 64 clocks, lending the overflow of a full bucket to waiting pipelines. -/
  | placeCreditRefill (d : Nat)
  /-- PLACEMENT_LOOKUP (R187): A packet with a complete key takes a credit and issues the HBM read, or takes OVER_ACTION or waits in the placement queue. -/
  | placementLookup (p : Nat)
  /-- PLACE_READ_RETURN (R181): The bucket read returns; the ring lookup selects a node set and the stage hits or applies MISS_ACTION. -/
  | placeReadReturn (p : Nat)
  /-- AE_DISPATCH (R196): A packet with a complete HV is dispatched to a free thread through the dispatch table, with its log room reserved, or is dropped with no routine. -/
  | aeDispatch (p : Nat) (egress : Bool) (item : Nat) (t : FirstFetch)
  /-- CONT (R202): Microword sequencing CONT: the next word is pc + 1. -/
  | contWord (p : Nat) (egress : Bool) (t : Nat) (wait : Nat) (ecc : Nat)
  /-- JUMP (R202): Microword sequencing JUMP to TARGET. -/
  | jumpWord (p : Nat) (egress : Bool) (t : Nat) (wait : Nat) (ecc : Nat)
  /-- BRANCH (R202): Microword sequencing BRANCH to TARGET when COND holds. -/
  | branchWord (p : Nat) (egress : Bool) (t : Nat) (wait : Nat) (ecc : Nat)
  /-- CALL (R202): Microword CALL: pushes pc + 1 and goes to TARGET when COND holds; a fifth entry traps. -/
  | callWord (p : Nat) (egress : Bool) (t : Nat) (wait : Nat) (ecc : Nat)
  /-- RETURN (R202): Microword RETURN: pops the call stack when COND holds; an empty stack traps. -/
  | returnWord (p : Nat) (egress : Bool) (t : Nat) (wait : Nat) (ecc : Nat)
  /-- DISPATCH (R202): Microword DISPATCH: jumps to TARGET + A0[3:0]. -/
  | dispatchWord (p : Nat) (egress : Bool) (t : Nat) (wait : Nat) (ecc : Nat)
  /-- END (R202): Microword END: the routine ends, committing staged writes, and goes to the exit check. -/
  | endWord (p : Nat) (egress : Bool) (t : Nat)
  /-- TRAP (R223): Microword TRAP: the packet is punted with USER_TRAP and its staging and log are discarded. -/
  | trapWord (p : Nat) (egress : Bool) (t : Nat)
  /-- ALU_NOP (R205): ALU operation NOP leaves its latch and flags unchanged. -/
  | aluNop (p : Nat) (egress : Bool) (t : Nat) (u : Nat)
  /-- ALU_ADD (R205): ALU operation ADD. -/
  | aluAdd (p : Nat) (egress : Bool) (t : Nat) (u : Nat)
  /-- ALU_SUB (R205): ALU operation SUB. -/
  | aluSub (p : Nat) (egress : Bool) (t : Nat) (u : Nat)
  /-- ALU_AND (R205): ALU operation AND. -/
  | aluAnd (p : Nat) (egress : Bool) (t : Nat) (u : Nat)
  /-- ALU_OR (R205): ALU operation OR. -/
  | aluOr (p : Nat) (egress : Bool) (t : Nat) (u : Nat)
  /-- ALU_XOR (R205): ALU operation XOR. -/
  | aluXor (p : Nat) (egress : Bool) (t : Nat) (u : Nat)
  /-- ALU_SHL (R205): ALU operation SHL. -/
  | aluShl (p : Nat) (egress : Bool) (t : Nat) (u : Nat)
  /-- ALU_SHR (R205): ALU operation SHR with zero fill. -/
  | aluShr (p : Nat) (egress : Bool) (t : Nat) (u : Nat)
  /-- ALU_SAR (R205): ALU operation SAR with sign fill. -/
  | aluSar (p : Nat) (egress : Bool) (t : Nat) (u : Nat)
  /-- ALU_MIN (R205): ALU operation MIN, unsigned. -/
  | aluMin (p : Nat) (egress : Bool) (t : Nat) (u : Nat)
  /-- ALU_MAX (R205): ALU operation MAX, unsigned. -/
  | aluMax (p : Nat) (egress : Bool) (t : Nat) (u : Nat)
  /-- ALU_CMP (R205): ALU operation CMP: result A, flags from A − B. -/
  | aluCmp (p : Nat) (egress : Bool) (t : Nat) (u : Nat)
  /-- ALU_PASS (R205): ALU operation PASS. -/
  | aluPass (p : Nat) (egress : Bool) (t : Nat) (u : Nat)
  /-- ALU_EXTRACT (R205): ALU operation EXTRACT of a bit field. -/
  | aluExtract (p : Nat) (egress : Bool) (t : Nat) (u : Nat)
  /-- ALU_ADDOC (R205): ALU operation ADDOC: ones'-complement sum of 16-bit halves. -/
  | aluAddoc (p : Nat) (egress : Bool) (t : Nat) (u : Nat)
  /-- ALU_BSWAP (R205): ALU operation BSWAP. -/
  | aluBswap (p : Nat) (egress : Bool) (t : Nat) (u : Nat)
  /-- ALU_MUL16 (R205): ALU operation MUL16, two cycles. -/
  | aluMul16 (p : Nat) (egress : Bool) (t : Nat) (u : Nat)
  /-- ALU_CRC32C (R205): ALU operation CRC32C over four bytes, two cycles. -/
  | aluCrc32c (p : Nat) (egress : Bool) (t : Nat) (u : Nat)
  /-- MOVE (R207): The move unit copies an operand to a G register or a flow-context window word. -/
  | moveWord (p : Nat) (egress : Bool) (t : Nat)
  /-- HVW (R207): The header vector writer stages a write of selected bytes of an HV word. -/
  | hvw (p : Nat) (egress : Bool) (t : Nat)
  /-- CTX_READ (R208): Requests the context lock and loads the context into CW0 to CW15. -/
  | ctxRead (p : Nat) (egress : Bool) (t : Nat) (ecc : Nat) (bad : Nat)
  /-- CTX_LOCK_GRANT (R218): A waiting context lock is granted in issue order and the context is loaded. -/
  | ctxLockGrant (d : Nat) (context : Nat) (waited : Nat) (ecc : Nat) (bad : Nat)
  /-- CTX_WRITE (R208): Makes the window the context's new value at release. -/
  | ctxWrite (p : Nat) (egress : Bool) (t : Nat)
  /-- CTX_INIT (R208): Clears the window and acts as WRITE. -/
  | ctxInit (p : Nat) (egress : Bool) (t : Nat)
  /-- CNT_INC (R208): Logs +1 to a packet counter and the frame length to its byte counter. -/
  | cntInc (p : Nat) (egress : Bool) (t : Nat)
  /-- CNT_ADD (R208): Logs A1 added to a counter. -/
  | cntAdd (p : Nat) (egress : Bool) (t : Nat)
  /-- MET_BLIND (R217): Colour-blind meter charge, reserved at once, with the colour to the latch. -/
  | metBlind (p : Nat) (egress : Bool) (t : Nat)
  /-- MET_AWARE (R217): Colour-aware meter charge, with DP as the pre-colour. -/
  | metAware (p : Nat) (egress : Bool) (t : Nat)
  /-- EMIT_ENCAP (R209): Appends an ENCAP instruction to the rewrite list. -/
  | emitEncap (p : Nat) (egress : Bool) (t : Nat)
  /-- EMIT_DECAP (R209): Appends a DECAP instruction to the rewrite list. -/
  | emitDecap (p : Nat) (egress : Bool) (t : Nat)
  /-- EMIT_SET_NEXTHOP (R209): Appends a SET_NEXTHOP instruction to the rewrite list. -/
  | emitSetNexthop (p : Nat) (egress : Bool) (t : Nat)
  /-- EMIT_TTL_DEC (R209): Appends a TTL_DEC instruction to the rewrite list. -/
  | emitTtlDec (p : Nat) (egress : Bool) (t : Nat)
  /-- REPL_RECIRC (R249): Logs a RECIRC fate with the next-pass profile. -/
  | replRecirc (p : Nat) (egress : Bool) (t : Nat)
  /-- REPL_MIRROR (R252): Logs a mirror copy through a mirror session. -/
  | replMirror (p : Nat) (egress : Bool) (t : Nat)
  /-- REPL_DROP (R209): Logs a DROP fate and stages DEST_KIND DROP. -/
  | replDrop (p : Nat) (egress : Bool) (t : Nat)
  /-- REPL_PUNT (R209): Logs a PUNT fate and stages DEST_KIND PUNT and the reason. -/
  | replPunt (p : Nat) (egress : Bool) (t : Nat)
  /-- COPY_TO_HOST (R209): Logs a copy to the punt path while the packet continues. -/
  | copyToHost (p : Nat) (egress : Bool) (t : Nat)
  /-- PERF_MARK (R448): Records this word and its occupancy in the packet's sample record. -/
  | perfMark (p : Nat) (egress : Bool) (t : Nat)
  /-- PERF_SAMPLE (R447): Selects the packet for a sample record at release. -/
  | perfSample (p : Nat) (egress : Bool) (t : Nat)
  /-- THREAD_FAULT (R220): A parity error, control-store failure or reclaim reaches a thread: before commit the packet restarts, after commit it is marked for replay. -/
  | threadFault (p : Nat) (egress : Bool) (t : Nat) (kind : Nat)
  /-- THREAD_RETIRE (R224): The Keeper retires a thread after two restarts within 1 s or a failed self-check, and a spare takes its number. -/
  | threadRetire (p : Nat) (egress : Bool) (t : Nat) (selfCheckFailed : Bool)
  /-- EXIT_CHECK (R410): After the last microword the HV and effect log are checked; on a pass the log is released, and on a failure the packet is replayed. -/
  | exitCheck (egress : Bool) (item : Nat) (failed : Nat)
  /-- SPARE_TAKEOVER_CHECK_DONE (R411): The take-over check of a Cold or Seasoning spare pipeline ends; the move takes effect or the spare is Retired. -/
  | spareTakeoverCheckDone (d : Nat) (egress : Bool) (pass : Bool)
  /-- AE_EXIT (R196): A packet that has passed its check leaves the exit buffer in dispatch order. -/
  | aeExit (p : Nat) (egress : Bool)
  /-- TM_ENQUEUE (R290): The TM resolves the destination, decides ECN, and admits the packet on die, to spill staging or to a drop. -/
  | tmEnqueue (p : Nat)
  /-- REQUEST (R277): Fabric control message by which an ingress die requests a grant for one packet of a VOQ or fan-out queue. -/
  | request (d source v cells : Nat)
  /-- ARBITER_GRANT (R277): In a TM clock the egress arbiter grants the next request in deficit order while the window has room, reserving class 8 cells. -/
  | arbiterGrant (v : Nat)
  /-- GRANT (R277): Fabric control message naming a granted packet; the ingress die sends its cells. -/
  | grant (d v : Nat)
  /-- STANDING_RESTORE (R278): Fabric control message restoring standing-grant cells as they leave the transmit queue. -/
  | standingRestore (d n cells : Nat)
  /-- DIE_COPY_ARRIVAL (R245): An egress die receives a die copy and makes port copies from the group's die list and its extra targets. -/
  | dieCopyArrival (i : Nat)
  /-- EGRESS_ENTRY (R236): A copy enters its egress pipeline with its egress HV, runs stages 16 to 18, and is dispatched to the egress AE. -/
  | egressEntry (i : Nat)
  /-- REWRITE (R240): After the egress AE, the rewrite unit builds the output frame in six steps, or drops or punts the copy by DEST_KIND, TTL or MTU. -/
  | rewriteCopy (i : Nat)
  /-- PORT_FRAME_START (R293): At a frame start the port scheduler picks an eligible class by strict priority and then deficit round robin, and charges the shapers. -/
  | portFrameStart (n : Nat)
  /-- TRANSMIT_DONE (R262): The last byte of a port copy is passed to the transmit PCS, and the copy frees or releases its cells. -/
  | transmitDone (n : Nat)
  /-- LOOPBACK_SLOT (R247): In a loopback slot the share behind its fraction is served and the looped packet enters new cells. -/
  | loopbackSlot (d : Nat)
  /-- LOOPBACK_INJECT (R248): A looped packet re-enters the ingress pipeline on a free clock, or takes a clock after waiting 1 µs. -/
  | loopbackInject (p : Nat) (free : Bool)
  /-- LATE_REMOVAL (R250): A packet that reaches 36 µs in a loopback queue, or 40 µs before its last ingress pass ends, is removed and dropped. -/
  | lateRemoval (d : Nat)
  /-- CELL_ALLOCATE (R258): In each pipeline clock the BPM serves allocation requests in rotating order from the bitmap banks, or returns NO_BUFFER. -/
  | cellAllocate (d : Nat) (reqs : List (Nat × Nat × Bool))
  /-- CLASS_WAIT_EXPIRE (R261): A WAIT request reaches BPM_CLASS_WAIT_LIMIT and its frame is dropped or its inject completes with NO_BUFFER. -/
  | classWaitExpire (d : Nat) (octet : Nat)
  /-- CELL_FREE (R262): The last owner frees a packet: its cells return now, or wait under FREE_PENDING; contradictions are refused. -/
  | cellFree (d : Nat) (head : Nat) (tag : Nat) (kind : Nat) (id : Nat)
  /-- CELL_RELEASE (R262): A copy that is not the last owner releases, decrementing USERS, or decrements a REFCOUNT packet. -/
  | cellRelease (d : Nat) (head : Nat) (kind : Nat) (id : Nat)
  /-- BITMAP_PARITY_FAIL (R265): A bitmap word fails parity, is taken out of allocation and is rebuilt by the Keeper from the packet records. -/
  | bitmapParityFail (d : Nat) (bank : Nat) (word : Nat)
  /-- BPM_SWEEP (R265): Every 100 ms the Keeper returns cells that belong to no packet record to the bitmaps. -/
  | bpmSweep (d : Nat)
  /-- POOL_ALLOCATE (R268): A pool allocates one buffer per PCIe-core clock in rotating order, incrementing its tag, or returns NO_BUFFER.
  Bit `d` of `asking` says whether a request of die `d` reaches the pool in this clock. -/
  | poolAllocate (pool asking : Nat)
  /-- POOL_WAIT_EXPIRE (R268): A delivery waiting for a buffer reaches POOL_WAIT_LIMIT and is dropped. -/
  | poolWaitExpire (p : Nat)
  /-- SPILL_WRITE (R291): The spill writer serves staged packets by deficit round robin into HBM pages, and stops when pages run out. -/
  | spillWrite (d : Nat)
  /-- SPILL_WRITE_DONE (R290): An HBM write completes; the packet becomes owned by SPILL and its on-die cells are freed. -/
  | spillWriteDone (i : Nat)
  /-- SPILL_READ (R292): The spill reader reserves class 10 cells and reads spilled cells of VOQs below SPILL_RETURN. -/
  | spillRead (d : Nat)
  /-- SPILL_READ_DONE (R292): Spilled cells arrive back on die, join the on-die part and free the page when it is emptied. -/
  | spillReadDone (i : Nat) (lost : Bool) (channel : Nat)
  /-- HBM_CHANNEL_REPAIR (R273): A failing pseudo-channel is shadowed by a spare and copied, or mapped out when no spare remains. -/
  | hbmChannelRepair (d channel trigger : Nat)
  /-- HBM_CHANNEL_COPY_DONE (R273): The channel copy ends; the spare becomes the logical channel and HBM_CHANNEL_SPARED is raised. -/
  | hbmChannelCopyDone (d channel : Nat)
  /-- PFC_FRAME_RX (R285): A received PFC frame pauses or resumes egress classes; other MAC control frames are discarded. -/
  | pfcFrameRx (n opcode vector : Nat) (times : List Nat)
  /-- PFC_PAUSE_EXPIRE (R285): The pause time of a class runs out and the class may start frames again. -/
  | pfcPauseExpire (n t : Nat)
  /-- PFC_WATCHDOG_EXPIRE (R286): A class paused for PFC_WATCHDOG is in a storm; PFC_STORM is raised and the pause is ignored. -/
  | pfcWatchdogExpire (n t : Nat)
  /-- PFC_STORM_END (R286): After a zero pause time, or 100 ms without PFC for the priority, the storm handling ends. -/
  | pfcStormEnd (n t : Nat)
  /-- GATE_ENTRY_CHANGE (R296): The operational gate control list moves to its next entry, or starts a new cycle, at package time. -/
  | gateEntryChange (n : Nat)
  /-- GCL_SWAP_APPLY (R297): At the cycle start the shadow list becomes operational and the old list is later released. -/
  | gclSwapApply (n : Nat)
  /-- FLOW_CONTEXT_APPLY (R219): A host context write due at its boundary takes the lock after any holder, writes the record and posts the completion. -/
  | flowContextApply (d : Nat) (context : Nat)
  /-- PUNT (R300): A punt is judged by its reason's token bucket and the punt queue, or dropped. -/
  | punt (p : Nat)
  /-- PUNT_DELIVER (R375): The punt path reserves ring slots, takes buffers, writes the header and frame, and posts a completion for each buffer. -/
  | puntDeliver (d : Nat)
  /-- TRAINING_BLOCK_RX (R306): A fabric training block is received on a lane, driving lock, map and echo through the steps of group training. -/
  | trainingBlockRx (d : Nat) (g : Nat) (block : List Byte)
  /-- FABRIC_TRAIN_TIMEOUT (R306): Group training exceeds its limit, or too few lanes lock, and training restarts every 10 ms. -/
  | fabricTrainTimeout (d : Nat) (g : Nat)
  /-- SUPERFRAME_RX (R307): A superframe is decoded; the control block, credits and cells are taken in, or a NAK is sent for an uncorrectable superframe. -/
  | superframeRx (d : Nat) (g : Nat) (corrected : Nat) (ok : Bool) (crcBad : List Nat)
  /-- FABRIC_CELL_SEND (R316): A cell is sent on a direct group or through an intermediate die when credits allow, or waits. -/
  | fabricCellSend (d : Nat) (dst : Nat) (v : Nat)
  /-- RESEQ_TIMEOUT (R318): A SEQ gap lasts FABRIC_RESEQ_TIMEOUT; held cells are discarded to the next prefix and the packets are lost. -/
  | reseqTimeout (d : Nat) (src : Nat) (v : Nat)
  /-- FABRIC_LANE_TRIGGER (R321): A lane loses lock, fails its self-check or exceeds the corrected-symbol rate, and a replacement begins. -/
  | fabricLaneTrigger (d : Nat) (g : Nat) (lane : Nat) (cause : Nat)
  /-- LANE_CMD_MIRROR (R321): Lane command MIRROR: the sender drives the spare with the logical lane's bytes. -/
  | laneCmdMirror (d : Nat) (g : Nat) (spare : Nat) (lane : Nat)
  /-- LANE_CMD_READY (R321): Lane command READY: the receiver has checked the spare, and the sender begins SWITCH. -/
  | laneCmdReady (d : Nat) (g : Nat) (spare : Nat) (lane : Nat)
  /-- LANE_CMD_SWITCH (R321): Lane command SWITCH: the receiver reads the logical lane from the spare and updates FABRIC_LANE_MAP. -/
  | laneCmdSwitch (d : Nat) (g : Nat) (spare : Nat) (lane : Nat)
  /-- LANE_CMD_RELEASE (R321): Lane command RELEASE: returns a lane to its own physical lane by the same steps. -/
  | laneCmdRelease (d : Nat) (g : Nat) (spare : Nat) (lane : Nat)
  /-- FABRIC_TIME_EXCHANGE (R322): Every 1,024 superframes each die sends a time STAMP on each routed group. -/
  | fabricTimeExchange (d : Nat)
  /-- TIME_STAMP_RX (R322): A received STAMP records the arrival time, which is echoed in the next control block. -/
  | timeStampRx (d : Nat) (g : Nat) (value : Nat) (arrival : Nat)
  /-- TIME_ECHO_RX (R322): A received ECHO completes the four times; the die computes its offset and slews, raising FABRIC_TIME_ALIGN if needed. -/
  | timeEchoRx (d : Nat) (g : Nat) (value : Nat)
  /-- FABRIC_TABLE_WRITE (R367): TABLE_WRITE control message carrying a sequenced table write or delete to a die's table writer. -/
  | fabricTableWrite (d seq : Nat)
  /-- TABLE_ACK (R26): Control message returning a die's outcome for a table write; differing outcomes mark the bank DISAGREE. -/
  | tableAck (d seq : Nat) (bad : Option Nat)
  /-- SCHEDULE_MSG (R49): SCHEDULE control message delivering an accepted change with its unwrapped epoch to a die. -/
  | scheduleMsg (d : Nat) (order : Nat)
  /-- LEARN (R170): Control message carrying a learn request to the learning die's queue. -/
  | learn (bd : Nat) (mac : Nat) (lport : Nat) (stamp : Nat) (port : Nat)
  /-- KEEPER (R422): Keeper cluster control message between dies. -/
  | keeperMsg (d : Nat) (toDie : Nat)
  /-- ECMP_REBALANCE (R169): Every ECMP_INTERVAL in AUTO the Keeper moves unused buckets toward target weights and schedules ECMP_SWAP.
  The target weights of each group of the interval are given. -/
  | ecmpRebalance (group : Nat) (targets : List Nat) (others : List (Nat × List Nat))
  /-- TABLE_SCRUB (R175): Every 100 ms every table SRAM row is read and checked, and failing rows are rewritten from the Keeper image. -/
  | tableScrub (d : Nat) (bad : List (Nat × Nat × Nat × Bool))
  /-- ASA_SCRUB (R143): Every 2 ms every ASA row is checked; failing rows are rewritten, and a bank is replaced by its spare on repeated failure. -/
  | asaScrub (d : Nat) (bad : List (Nat × RowError))
  /-- ASA_BANK_SPARE_SWITCH (R143): The copy into the spare bank completes and the array switches to it at a pipeline-clock boundary. -/
  | asaBankSpareSwitch (d : Nat) (array : Nat) (bank : Nat)
  /-- AE_CS_SCRUB (R200): Every 10 ms every control-store word of every copy is read and checked. -/
  | aeCsScrub (d : Nat) (bad : List (Nat × Nat × Bool))
  /-- COUNTER_SCRUB (R440): Every 100 ms every counter is checked; an uncorrectable counter is set to 0. -/
  | counterScrub (d : Nat) (bad : List (Nat × Bool))
  /-- SRAM_ROW_REPAIR (R426): A row corrected twice within 24 hours is copied to a spare row and remapped, and a tile is replaced when its rows fail. -/
  | sramRowRepair (d : Nat) (kind : Nat) (mac : Nat) (row : Nat)
  /-- TABLE_WRITE (R367): Descriptor that sequences a record write and sends it to every die's shadow bank, completing with the agreed status. -/
  | tableWrite (h f w : Nat) (desc : Option Nat)
  /-- TABLE_DELETE (R513): Descriptor that deletes a key from a hash or LPM table, gates out an ASA row, or writes the zero record of a direct table. -/
  | tableDelete (h f w : Nat) (desc : Option Nat)
  /-- TABLE_READ (R369): Descriptor that writes a record, or a counter value with its capture time, to RESP_ADDR. -/
  | tableRead (h f w : Nat) (desc : Option Nat)
  /-- CONT_DESCRIPTOR (R364): A CONT descriptor carries the next 48 record bytes of an open chain, applying the chain at LAST. -/
  | contDescriptor (h f w : Nat) (desc : Option Nat)
  /-- NOP (R362): NOP descriptor, completing with OK. -/
  | nopDescriptor (h f w : Nat) (desc : Option Nat)
  /-- DICT (R368): Descriptor that executes a dictionary request block from host memory and writes the response block. -/
  | dictDescriptor (h f w : Nat) (desc : Option Nat) (block : List Byte)
  /-- SCHEDULE (R370): Descriptor form of WRITE_EPOCH or RW WRITE, passing checks 4 to 13 with its own keyed check and counter. -/
  | scheduleDescriptor (h f w : Nat) (desc : Option Nat)
  /-- INJECT (R371): Descriptor that reads a frame into cells and injects it at ingress or enqueues it at egress. -/
  | injectDescriptor (h f w : Nat) (desc : Option Nat) (data : List Byte) (free : Bool)
  /-- BUFFER_FREE (R269): Descriptor returning a host pool buffer after the ordered range, alignment, double-free and owner checks. -/
  | bufferFree (h f w : Nat) (desc : Option Nat)
  /-- BUFFER_REF_ADD (R269): Descriptor adding a hold to a buffer of a REFCOUNT pool. -/
  | bufferRefAdd (h f w : Nat) (desc : Option Nat)
  /-- WQ_DOORBELL (R358): A write of a new PI is accepted or counted as a doorbell error; fetching proceeds from WQ_CI. -/
  | wqDoorbell (h f w value : Nat)
  /-- WQ_PUSH (R360): A write into the push window holds a descriptor copy for a slot ahead of PI. -/
  | wqPush (h f w offset : Nat) (bytes : List Byte)
  /-- CQ_DOORBELL (R358): A write of a new CI returns slots, optionally ARMs the CQ, and lets held completions and reports be posted. -/
  | cqDoorbell (h f c value : Nat)
  /-- WQ_DRAIN_END (R377): The last operation in flight finishes; a forced completion covers batched descriptors and the WQ becomes DISABLED or ENABLED. -/
  | wqDrainEnd (h f w : Nat)
  /-- MBX_DOORBELL (R347): A write of 1 submits the request block in MBX_BUFFER; DONE is set when the response replaces it. -/
  | mbxDoorbell (h : Nat) (f : Nat) (v : Nat) (block : List Byte)
  /-- KDP_REQUEST (R348): A KDP datagram carrying a request block is received and judged by the checks of R337. -/
  | kdpRequest (d : Nat) (block : List Byte)
  /-- OPEN (R349): A KDP OPEN block with a keyed check opens a session and is answered with OPEN_ACK, or TABLE_FULL at 32 sessions. -/
  | openSession (d : Nat) (block : List Byte)
  /-- CLOSE (R349): A KDP CLOSE block closes the session. -/
  | closeSession (d : Nat) (block : List Byte)
  /-- KDP_SESSION_IDLE_EXPIRE (R349): A KDP session without a request for KDP_SESSION_IDLE closes. -/
  | kdpSessionIdleExpire (n : Nat)
  /-- SMBUS_SELECT (R350): SMBus SELECT command naming an object for a following READ or WRITE. -/
  | smbusSelect (o : Address)
  /-- SMBUS_WRITE (R350): SMBus WRITE command executed after its stop condition, for KEY_PROVISION, SEAL and SESSION_RESET. -/
  | smbusWrite (data : List Byte)
  /-- EVENT_FIRE (R386): An event source fires: the event becomes PENDING, is lost, or is ignored, and may wake a sleeping core or the package. -/
  | eventFire (d : Nat) (source : Nat)
  /-- EVC_CORE_CLAIM (R389): A read that claims the best-ranked qualifying event for a Keeper core, or returns 0x0FFF. -/
  | evcCoreClaim (d : Nat) (core : Nat)
  /-- EVC_CORE_EOI (R390): A write that ends the core's most recent active event and re-ranks pending events. -/
  | evcCoreEoi (d : Nat) (core : Nat) (code : Nat)
  /-- EVC_VEC_EOI (R391): A write that ends a vector's most recent active event. -/
  | evcVecEoi (h : Nat) (f : Nat) (vector : Nat) (code : Nat)
  /-- MSIX_UNMASK (R391): A vector is unmasked in the MSI-X table and its best-ranked pending event is sent. -/
  | msixUnmask (h : Nat) (f : Nat) (vector : Nat)
  /-- TIMER_EXPIRE (R398): A timer unit reaches its expiry and fires its source. -/
  | timerExpire (d : Nat) (t : Nat)
  /-- FAULT_RECORD_OPEN (R401): An FCU error opens a fault record or merges into an open one, and the reactions of its class are applied. -/
  | faultRecordOpen (e : FaultError)
  /-- FAULT_RECORD_CLOSE (R401): A record closes at the later of its repair end and FAULT_MERGE_WINDOW after its last merged error. -/
  | faultRecordClose (d : Nat) (source : Nat) (location : Nat)
  /-- SPARE_TEST_START (R414): The Keeper starts the Seasoning test of a Cold spare within 1 s of forwarding ready. -/
  | spareTestStart (cls : Nat) (d : Nat) (group : Nat) (unit : Nat)
  /-- SPARE_TEST_DONE (R414): A spare's test passes, making it Seasoned, or fails, making it Retired. -/
  | spareTestDone (cls : Nat) (d : Nat) (group : Nat) (unit : Nat) (pass : Bool)
  /-- SPARE_RETEST (R417): The periodic retest of a Seasoned spare begins. -/
  | spareRetest (cls : Nat) (d : Nat) (group : Nat) (unit : Nat)
  /-- MIGRATE_DRAIN_END (R419): The old pipeline pair empties and becomes the die's spare in Seasoning. -/
  | migrateDrainEnd (d : Nat)
  /-- KEEPER_CORE_FAULT (R422): A Keeper core fault or watchdog expiry hands the core's number to the spare, which resumes from the checkpoint. -/
  | keeperCoreFault (d : Nat) (core : Nat) (cause : Nat)
  /-- KEEPER_CHECKPOINT (R422): Every 1 ms each core's state is checkpointed into cluster SRAM. -/
  | keeperCheckpoint (d : Nat)
  /-- PLL_FAULT (R423): A core PLL loses lock or departs by 500 ppm and the die changes to the other PLL, or is fenced. -/
  | pllFault (d : Nat) (pll : Nat) (ppm : Nat)
  /-- TIME_MASTER_FAIL (R424): The master time unit fails and the second host die's time unit becomes master within 10 µs. -/
  | timeMasterFail (offset : Nat)
  /-- PCIE_FAILOVER (R425): The active paired link fails and the pair moves to the other interface, reissuing outstanding DMA. -/
  | pcieFailover (h : Nat) (f : Nat) (aer : Nat) (address : Nat)
  /-- DIE_FENCE (R428): A silent, unacknowledging or FATAL die is fenced and its roles move to the other host die. -/
  | dieFence (d : Nat) (cause : Nat)
  /-- WEAR_FORECAST (R430): Once a day the Keeper forecasts spare exhaustion per class and raises the event on thresholds. -/
  | wearForecast (months : List Nat)
  /-- WEAR_SAMPLE (R429): Once per month of service an aging-monitor sample is written to the NVS. -/
  | wearSample (d : Nat) (readings : List Nat)
  /-- CWIN_VALUE_READ (R445): A BAR3 read of byte 0 of a window slot reads a counter and latches its value and capture time. -/
  | cwinValueRead (h : Nat) (f : Nat) (w : Nat) (j : Nat)
  /-- BW_WINDOW_END (R446): At each window end the port bandwidth averages and peaks are updated. -/
  | bwWindowEnd (n : Nat)
  /-- SAMPLE_DRAIN (R450): The oldest record is written to the sample area and a SAMPLE completion is posted. -/
  | sampleDrain (d : Nat)
  /-- THERMAL_SAMPLE (R457): Every 20 µs the sensor controller samples every junction sensor and the Keeper decides the throttle step. -/
  | thermalSample (d : Nat) (temps : List Int)
  /-- THROTTLE_STEP (R458): A new throttle step takes effect at the next four-clock window. -/
  | throttleStep (d : Nat)
  /-- THROTTLE_RELAX_EXPIRE (R458): After 10 ms below the relaxation temperature the step relaxes by one. -/
  | throttleRelaxExpire (d : Nat)
  /-- JUNCTION_TRIP (R460): A sensor reaches 110 °C: PIN and INT are applied, transmit is squelched, clocks stop and a FATAL record is written. -/
  | junctionTrip (d : Nat) (sensor : Nat) (temp : Nat)
  /-- RAIL_WARNING (R455): A rail outside ±2 % for 1 ms raises RAIL_WARNING. -/
  | railWarning (d : Nat) (rail : Nat)
  /-- RAIL_FAULT (R455): A rail leaving ±5 % is a FATAL fault and the engine holds itself in reset. -/
  | railFault (rail : Nat)
  /-- WAKE_N (R466): WAKE_N held low for at least 1 ms starts a wake from Smoulder or Banked. -/
  | wakeN (lowUs : Nat)
  /-- BANKED_WAKE (R468): Wake from Banked runs Kindling, restores the state image, trains PCIe and restarts time and ports. -/
  | bankedWake (emberSeconds : Nat)
  /-- FW_VERIFY_DONE (R486): Verification ends and FW_SLOT_STATE reads VALID or INVALID. -/
  | fwVerifyDone (slot : Nat) (code : Nat) (version : Nat) (svn : Nat) (keeperOnly : Bool)
  /-- JTAG_BYPASS (R499): JTAG instruction BYPASS. -/
  | jtagBypass (tdi : Nat)
  /-- SAMPLE_PRELOAD (R499): JTAG instruction SAMPLE/PRELOAD of the boundary register. -/
  | samplePreload (value : Nat)
  /-- EXTEST (R499): JTAG EXTEST, holding the engine in reset while selected. -/
  | extest (value : Nat)
  /-- EXTEST_PULSE (R499): JTAG IEEE 1149.6 EXTEST_PULSE. -/
  | extestPulse (value : Nat)
  /-- EXTEST_TRAIN (R499): JTAG IEEE 1149.6 EXTEST_TRAIN. -/
  | extestTrain (value : Nat)
  /-- JTAG_PROVISION_KEY (R500): PROVISION command 0x01 writing the slot 1 key as principal JTAG. -/
  | jtagProvisionKey (rsvd : Nat) (key : Nat)
  /-- JTAG_PROVISION_SEAL (R500): PROVISION command 0x02 writing SEAL as principal JTAG. -/
  | jtagProvisionSeal (rsvd : Nat) (key : Nat)
  /-- RESET_ENGINE (R499): JTAG instruction whose Update-DR with 1 causes an ENGINE reset with cause JTAG. -/
  | resetEngine (bit : Nat)
  /-- RAIL_IN_TOLERANCE (R427): A rail that was out of limits comes back within tolerance, ending the reset hold the engine keeps while the rail is out. -/
  | railInTolerance (rail : Nat)
  /-- PCIE_POWER_STATE_CHANGE (R397): A host function enters or leaves D0, or its link enters or leaves a low-power state, which decides whether its pending events are held, signalled by PM_PME, or sent. -/
  | pciePowerStateChange (h : Nat) (f : Nat) (d0 : Bool) (linkLow : Bool) (pmeEnable : Bool) (msixEnable : Bool)
  /-- ROW_REWRITE_DONE (R175): The Keeper finishes rewriting a failing table, search, placement or control-store row from its image, up to 1 ms after detection, and the row is good again. -/
  | rowRewriteDone (d : Nat) (kind : Nat) (index : Nat)
  /-- BITMAP_REBUILD_DONE (R265): The Keeper finishes rebuilding a bitmap word that failed parity, and the word returns to allocation. -/
  | bitmapRebuildDone (d : Nat) (bank : Nat) (word : Nat)
  /-- COPY_LIVE_DONE (R156): A copy of a live bank into the shadow on every die finishes (170 µs per 16 MiB, 8 ms per GiB, or within 1 or 2 ms), and the write returns OK. -/
  | copyLiveDone (f : Nat)
  /-- SRAM_SPARE_SWITCH (R426): The copy into a spare row or spare tile ends and the macro or tile is switched to it at a pipeline-clock boundary, within 100 µs for a tile. -/
  | sramSpareSwitch (d : Nat) (kind : Nat) (mac : Nat)
  /-- ENGINE_RESET (R474): A critical write of ENGINE_RESET = 1 commits its counter and stored response and causes an ENGINE reset 10 ms after the response is sent. -/
  | engineReset (r : Req) (v : Nat)
  /-- TOD_SET (R42): A write of the TAI time of the next 1PPS_IN edge, applied at that edge, or at the edge after next with TOD_LATE raised when it arrives late. -/
  | todSet (r : Req) (v : Nat)
  /-- TIME_SOURCE (R43): A write of TIME_SOURCE selects the time source; the value NONE moves the time unit to FREERUN. -/
  | timeSource (r : Req) (v : Nat)
  /-- TIME_STEP_ACCEPT (R45): A critical write that applies the refused step, returning STATE when no step is pending. -/
  | timeStepAccept (r : Req) (v : Nat)
  /-- SCHED_CANCEL (R52): A critical write that cancels every change pending for a target and epoch, and posts a CHANGE_CANCELLED report for each. -/
  | schedCancel (r : Req) (v : Nat)
  /-- PPS_OUT_FUNCTION (R63): A holder-claim write of the 1PPS_OUT function; it returns RESOURCE_BUSY while another principal holds the pin. -/
  | ppsOutFunction (r : Req) (v : Nat)
  /-- OCTET_RATE_GROUP (R65): A write that sets an octet's rate group while all its ports are DISABLED, resetting the port modes of the other group. -/
  | octetRateGroup (r : Req) (n : Nat) (v : Nat)
  /-- PORT_MODE (R66): A write that creates or removes a port on its start lane after the alignment, group and overlap checks, and resets the port objects. -/
  | portMode (r : Req) (n : Nat) (v : Nat)
  /-- PORT_ENABLE (R91): A write that enables or disables a port according to its state: training, draining, pending enable or no effect. -/
  | portEnable (r : Req) (n : Nat) (v : Nat)
  /-- LINK_RETRAIN_AUTO (R87): A write of 1 while the port is DOWN starts TRAINING within 1 ms. -/
  | linkRetrainAuto (r : Req) (n : Nat) (v : Nat)
  /-- SPARE_CHANGEOVER (R86): A critical RWE write that schedules a planned changeover of a lane to the spare slice at a named epoch. -/
  | spareChangeover (r : Req) (n : Nat) (v : Nat) (epoch : Nat)
  /-- SPARE_RELEASE (R86): A critical RWE write that schedules the return of a lane to its own slice at a named epoch. -/
  | spareRelease (r : Req) (n : Nat) (v : Nat) (epoch : Nat)
  /-- LOOPBACK_CLAIM (R246): A holder-claim write that sets the use of the loopback path on every die. -/
  | loopbackClaim (r : Req) (v : Nat)
  /-- POOL_ENABLE (R267): A write that enables, drains or re-enables a host pool according to its state. -/
  | poolEnable (r : Req) (pool v : Nat)
  /-- GCL_SWAP (R297): A critical RWE write that makes the shadow gate list operational at the first cycle start after the named epoch. -/
  | gclSwap (r : Req) (n v epoch : Nat)
  /-- WQ_ENABLE (R377): A write that enables a WQ or starts its drain according to WQ_STATE. -/
  | wqEnable (r : Req) (w v : Nat)
  /-- CQ_ENABLE (R378): A write that enables or disables a CQ under its binding and hold conditions. -/
  | cqEnable (r : Req) (c v : Nat)
  /-- READ (R334): Dictionary operation returning the value in force of an object. -/
  | readObj (r : Req) (o : Address)
  /-- WRITE (R329): Dictionary WRITE of an object that has no row of its own, after checks 7 to 13. -/
  | writeObj (r : Req) (o : Address) (len : Nat) (v : Nat)
  /-- WRITE_EPOCH (R345): Dictionary operation scheduling a value of an RWE object for a named epoch, answered DEFERRED or TOO_LATE. -/
  | writeEpoch (r : Req) (o : Address) (len : Nat) (v : Nat) (epoch : Nat)
  /-- READ_PENDING (R334): Dictionary operation returning the newest pending value of an RWE object and its epoch, or STATE. -/
  | readPending (r : Req) (o : Address)
  /-- SESSION_RESET (R336): A write of 1 resets the writing session: a function reset for PCIe, a close for KDP. -/
  | sessionReset (r : Req) (v : Nat)
  /-- KEY_SET (R343): A critical write installing an AES-wrapped key in a slot. -/
  | keySet (r : Req) (v : Nat)
  /-- KEY_CLEAR (R342): A critical write that empties key slot 2 to 7. -/
  | keyClear (r : Req) (v : Nat)
  /-- KEY_PROVISION (R344): A write of slot 1's key in clear, allowed in PROVISION over SMBus or JTAG. -/
  | keyProvision (r : Req) (v : Nat)
  /-- SEAL (R344): A write of 1 that moves the engine to SEALED, which cannot be undone. -/
  | sealWrite (r : Req) (v : Nat)
  /-- TABLE_SWAP (R155): A critical RWE write that makes a table's shadow bank live at the named epoch. -/
  | tableSwap (r : Req) (k v epoch : Nat)
  /-- TABLE_COPY_LIVE (R156): A write that copies the live bank into the shadow on every die. -/
  | tableCopyLive (r : Req) (k v : Nat)
  /-- TABLE_SHADOW_SEED (R157): A write of a new seed, which empties the shadow bank. -/
  | tableShadowSeed (r : Req) (k v : Nat)
  /-- TABLE_SHADOW_TILES (R157): A write of a new shadow bank size, which empties the shadow bank, subject to the tile limit. -/
  | tableShadowTiles (r : Req) (k v : Nat)
  /-- ECMP_SWAP (R155): A critical RWE write that swaps the ECMP family at the named epoch, cancelling a pending Keeper swap. -/
  | ecmpSwap (r : Req) (v epoch : Nat)
  /-- PARSER_SWAP (R99): A critical RWE write that makes the shadow parser bank live at the named epoch. -/
  | parserSwap (r : Req) (v epoch : Nat)
  /-- PARSER_COPY_LIVE (R122): A write that copies the live parser bank into the shadow on every die. -/
  | parserCopyLive (r : Req) (v : Nat)
  /-- ASA_SET_SWAP (R136): A critical RWE write exchanging a rule set's live and shadow groups at the named epoch. -/
  | asaSetSwap (r : Req) (set v epoch : Nat)
  /-- ASA_SET_COMMIT (R137): A critical RWE write converting the pending gates of a set to the named epoch. -/
  | asaSetCommit (r : Req) (set v epoch : Nat)
  /-- PLACE_SWAP (R191): A critical RWE write that makes the placement family live at the named epoch. -/
  | placeSwap (r : Req) (v epoch : Nat)
  /-- PLACE_COPY_LIVE (R192): A write that copies the live placement family into the shadow. -/
  | placeCopyLive (r : Req) (v : Nat)
  /-- REWRITE_SWAP (R237): A critical RWE write that makes the rewrite family live at the named epoch. -/
  | rewriteSwap (r : Req) (v epoch : Nat)
  /-- REWRITE_COPY_LIVE (R254): A write that copies the live rewrite family into the shadow. -/
  | rewriteCopyLive (r : Req) (v : Nat)
  /-- AE_CODE_CLEAR (R225): A critical write that zeroes the shadow customer bank and its dispatch entries. -/
  | aeCodeClear (r : Req) (i v : Nat)
  /-- AE_CODE_BLOCK (R226): A critical write of microwords to the shadow customer bank, checked word by word. -/
  | aeCodeBlock (r : Req) (i v : Nat)
  /-- AE_DISPATCH_ENTRY (R225): A critical write of one shadow customer dispatch entry. -/
  | aeDispatchEntry (r : Req) (i v : Nat)
  /-- AE_CODE_SWAP (R228): A critical RWE write naming the expected digest that makes the shadow customer bank live at the epoch. -/
  | aeCodeSwap (r : Req) (i v epoch : Nat)
  /-- AE_CODE_COPY_LIVE (R228): A write that copies the live customer bank into the shadow. -/
  | aeCodeCopyLive (r : Req) (i v : Nat)
  /-- EVC_CLAIM (R391): A polled claim over a function's masked vectors. -/
  | evcClaim (r : Req)
  /-- EVC_EOI (R391): A dictionary write that ends an ACTIVE event of the function. -/
  | evcEoi (r : Req) (v : Nat)
  /-- EVC_SOURCE (R393): A write of a source record that retargets, enables or disables the source, withdrawing presented events. -/
  | evcSource (r : Req) (d : Nat) (source : Nat) (v : Nat)
  /-- TIMER_CLAIM (R398): A holder-claim write that takes or releases a timer unit. -/
  | timerClaim (r : Req) (d : Nat) (t : Nat) (v : Nat)
  /-- TIMER_ARM (R398): A write that arms a timer, firing at once if TIMER_START has passed. -/
  | timerArm (r : Req) (d : Nat) (t : Nat) (v : Nat)
  /-- FAULT_N_RELEASE (R409): A critical write that releases FAULT_N and restarts the Lamp, or returns STATE. -/
  | faultNRelease (r : Req) (v : Nat)
  /-- SPARE_PIPELINE_CLAIM (R418): A holder-claim write of SEASON or NONE on a die's spare pipeline pair. -/
  | sparePipelineClaim (r : Req) (d : Nat) (v : Nat)
  /-- PIPELINE_MIGRATE (R419): A critical RWE write that moves an octet's pipelines to the spare pair at the named epoch. -/
  | pipelineMigrate (r : Req) (d : Nat) (octet : Nat) (epoch : Nat)
  /-- RECOVERY_CANCEL (R434): A critical write that cancels every pending change at least four epochs ahead. -/
  | recoveryCancel (r : Req) (v : Nat)
  /-- RECOVERY_CLEAR_SHADOWS (R434): A critical write that empties every shadow bank, or returns STATE. -/
  | recoveryClearShadows (r : Req) (v : Nat)
  /-- THROTTLE_STEP_LIMIT (R459): A write of the deepest permitted step brings the step within it within 200 µs. -/
  | throttleStepLimit (r : Req) (v : Nat)
  /-- THROTTLE_STEP_SET (R459): A write of the step in MANUAL mode. -/
  | throttleStepSet (r : Req) (d : Nat) (v : Nat)
  /-- POWER_REQUEST (R463): A critical write starting entry to Smoulder or Banked. -/
  | powerRequest (r : Req) (v : Nat)
  /-- POWER_WAKE (R466): A write of 1 that wakes the engine from Smoulder. -/
  | powerWake (r : Req) (v : Nat)
  /-- FW_FLASH_BLOCK (R485): A critical write programming 1,024 bytes of the non-running slot in both flashes. -/
  | fwFlashBlock (r : Req) (v : Nat)
  /-- FW_VERIFY (R486): A critical write starting verification of a slot. -/
  | fwVerify (r : Req) (v : Nat)
  /-- FW_ACTIVATE_NEXT_RESET (R487): FW_ACTIVATE NEXT_RESET makes a valid slot PREFERRED for the next start. -/
  | fwActivateNextReset (r : Req) (slot : Nat)
  /-- FW_ACTIVATE_KEEPER_NOW (R487): FW_ACTIVATE KEEPER_NOW restarts the Keeper clusters on the slot's firmware without an engine reset. -/
  | fwActivateKeeperNow (r : Req) (slot : Nat)
  /-- FW_SVN_COMMIT (R488): A critical write that burns FUSED_SVN up to the running image's SVN. -/
  | fwSvnCommit (r : Req) (v : Nat)
  /-- POWER_ON (R493): Rails ramp up in sequence, the Ember starts and latches POWER_ON, and the engine holds in reset until the rails have been in tolerance for 10 ms. -/
  | powerOn
  /-- KINDLING_START (R483): After reset release Kindling reads the fuses, trains the fabric, reconciles the NVS, boots an image and brings the engine to HOST_READY and FORWARDING_READY. -/
  | kindlingStart
  /-- BOOT_CLAIM (R480): Message from die 0's Kindling over the fabric that it has booted an image. -/
  | bootClaim
  /-- BOOT_YIELD (R480): Message from die 0's Kindling that it has nothing to boot, which starts the second host die's attempts. -/
  | bootYield
  /-- BOOT_CLAIM_TIMEOUT (R480): With no message from die 0 within 1.5 s of reset release, the second host die starts its own boot attempts. -/
  | bootClaimTimeout
  /-- FORWARDING_READY (R483): HBM is trained, SerDes are calibrated, Retired units are replaced and the default banks are loaded; BOOT_STAGE reads FORWARDING_READY. -/
  | forwardingReady
  /-- ENGINE_RESET_DELAY_END (R474): The 10 ms delay after the ENGINE_RESET response ends and the ENGINE reset begins. -/
  | engineResetDelayEnd
  /-- PPS_IN_MISSED (R43): Three missed 1PPS_IN edges count as loss of the source and move a LOCKED time unit to HOLDOVER. -/
  | ppsInMissed
  /-- PTP_ANNOUNCE_TIMEOUT (R43): The PTP announce receipt timeout expires, the source is lost and the time unit moves to HOLDOVER or FREERUN. -/
  | ptpAnnounceTimeout
  /-- TIME_STEP (R60): A decided step is applied on all dies at the first boundary at least two epochs later, with forward and backward epoch handling. -/
  | timeStep
  /-- EPOCH_HOLD_END (R62): After a backward step, package time reaches the start of the next epoch and the held epoch counter resumes counting. -/
  | epochHoldEnd
  /-- EPOCH_BOUNDARY (R51): At an epoch boundary every die applies the changes named for that epoch in acceptance order, advances G, resolves gates, releases held banks and posts the reports. -/
  | epochBoundary
  /-- PPS_OUT_PULSE (R63): 1PPS_OUT is driven on each whole second, or on every n-th epoch boundary, shifted by PPS_OUT_OFFSET. -/
  | ppsOutPulse
  /-- THRESH_ADJUST (R288): Every THRESH_INTERVAL in AUTO the Keeper schedules new THRESH_ALPHA values within their bounds. -/
  | threshAdjust
  /-- METER_APPLY (R299): A meter write accepted in epoch C takes effect at the boundary of C + 4 with full buckets, and its completion is posted. -/
  | meterApply
  /-- LEARN_APPLY (R172): At stamp plus 2 µs the learning die applies a learn request: merge, refuse, wait, move, limit or insert, with a learn report. -/
  | learnApply
  /-- MAC_AGE_VISIT (R174): Every MAC_AGE_PERIOD the learning die reads and clears HIT bits and ages entries found idle twice. -/
  | macAgeVisit
  /-- NVS_COMMIT (R340): The NVS transaction committing the counter, stored response and non-volatile values completes and the response is sent. -/
  | nvsCommit
  /-- SMBUS_READ (R350): SMBus READ command returning the status, type and value of the selected object. -/
  | smbusRead
  /-- SMBUS_LAST_STATUS (R350): SMBus LAST_STATUS command returning the status of the last WRITE. -/
  | smbusLastStatus
  /-- LAMP_REFRESH (R407): The lead Keeper refreshes the Lamp, restarting the pattern after a lapse. -/
  | lampRefresh
  /-- LAMP_REFRESH_LAPSE (R407): No refresh within max(LAMP_PERIOD, 200 ms) stops the Lamp at its last level. -/
  | lampRefreshLapse
  /-- KEEPER_TAKEOVER (R422): The standby cluster becomes lead within 150 ms and LEAD_DIE changes. -/
  | keeperTakeover
  /-- POWER_ENTRY_STEP (R464): An entry step completes after its drains, and the next step begins, until Smoulder or Banked is reached. -/
  | powerEntryStep
  /-- SMOULDER_WAKE (R467): Wake from Smoulder ungates the dies, retrains the fabric, resumes the clusters and re-enables the ports. -/
  | smoulderWake
  /-- KEEPER_NOW_RESTART_DONE (R487): The cluster restarts and handovers of KEEPER_NOW end and KEEPER_FW_VERSION changes. -/
  | keeperNowRestartDone
  /-- IDCODE (R499): JTAG instruction returning the 32-bit identity code. -/
  | idcode
  /-- FREQ_SOURCE_LOST (R43): The frequency source (REF_IN or the SyncE recovered clock) moves more than ±50 ppm from nominal or disappears, so a LOCKED time unit goes to HOLDOVER. -/
  | freqSourceLost
  deriving DecidableEq, Repr

end Sys2Proof
end

