-- ==== Sys2Proof/Decode.lean ====
section
/-! DEFINITION. Commands by the bits of the opcode table. -/

namespace Sys2Proof

/-- The command that a word of `_nbits` bits spells: no row of the table gives bits (its rows have no fields), so none. -/
def decodeTableWord (_nbits _w : Nat) : Option Instr := none

end Sys2Proof
end

