-- ==== Sys2Proof/Machine/LineCoding.lean ====
section
/-! DEFINITION. The line coding of L400: PAM6 symbols, 64b/66b and 256b/257b blocks, alignment blocks, RS(544,514) codewords and training
frames (R70 to R73). The block formats, the code and the patterns that R70 and R73 name are those of IEEE 802.3 (PRESUMED, log 124). -/

namespace Sys2Proof.Machine

/-! PAM6 (R71). -/

/-- The pair of levels of a 5-bit group. -/
def pamPair (v : Nat) : Nat × Nat :=
  if v < 4 then (0, v + 1) else if v < 10 then (1, v - 4) else if v < 16 then (2, v - 10) else if v < 22 then (3, v - 16)
  else if v < 28 then (4, v - 22) else (5, v - 27)

/-- A pair that is never sent. -/
def pamCorner (p : Nat × Nat) : Bool := (p.1 = 0 || p.1 = 5) && (p.2 = 0 || p.2 = 5)

/-- Square of the distance of two pairs, in steps of a level. -/
def pamDistance (p q : Nat × Nat) : Nat := (p.1 - q.1 + (q.1 - p.1)) ^ 2 + (p.2 - q.2 + (q.2 - p.2)) ^ 2

/-- What a receiver makes of a pair: the group of the nearest valid pair, a tie going to the lower `b`, and whether both symbols are erasures. -/
def pamDecide (p : Nat × Nat) : Nat × Bool :=
  let better := fun (v w : Nat) =>
    decide (pamDistance p (pamPair v) < pamDistance p (pamPair w)) ||
      (pamDistance p (pamPair v) = pamDistance p (pamPair w) && decide ((pamPair v).2 < (pamPair w).2))
  ((List.range 32).foldl (fun w v => if better v w then v else w) 0, pamCorner p)

/-- Bits to pairs of levels, five bits to a pair, the first bit sent being the most significant. -/
def pamPairs : Nat → List Bool → List (Nat × Nat)
  | 0, _ => []
  | n + 1, l => pamPair ((l.take 5).foldl (fun a b => 2 * a + b2n b) 0) :: pamPairs n (l.drop 5)

/-! Blocks. Bits of a word are sent from bit 0 on. -/

/-- A 64b/66b block: whether it is a control block, and its 64 bits. -/
abbrev Block66 := Bool × Nat

/-- A block of idle. -/
def idleBlock : Block66 := (true, 0x1E)

/-- Types of the blocks that end a frame after 0 to 7 octets. -/
def endTypes : List Nat := [0x87, 0x99, 0xAA, 0xB4, 0xCC, 0xD2, 0xE1, 0xFF]

/-- Blocks of the octets of a frame that remain. -/
def frameBlocks : Nat → List Byte → List Block66
  | 0, _ => []
  | n + 1, l =>
    if 8 ≤ l.length then (false, leNat (l.take 8)) :: frameBlocks n (l.drop 8)
    else [(true, endTypes.getD l.length 0 + leNat l * 256)]

/-- 64b/66b encoding of a frame with its preamble (R70 step 1). -/
def encode66 (frame : List Byte) : List Block66 := (true, 0xD5555555555555 * 256 + 0x78) :: frameBlocks (frame.length / 8 + 1) frame

/-- 256b/257b transcoding of four blocks (R70 step 2): the first bit says that all are data; else four bits say which are, and the first control block
gives up the upper half of its type. -/
def transcode (l : List Block66) : Nat :=
  let word := l.foldr (fun b a => a * 2 ^ 64 + b.2 % 2 ^ 64) 0
  match l.findIdx? (·.1) with
  | none => 1 + 2 * word
  | some c =>
    let flags := l.foldr (fun b a => a * 2 + b2n (!b.1)) 0
    let at_ := 64 * c + 4
    2 * flags + 2 ^ 5 * (word % 2 ^ at_ + word / 2 ^ (at_ + 4) * 2 ^ at_)

/-- The alignment block of a lane (R72): bit 256 is sent first. -/
def alignmentBlock (lane count bip : Nat) : Nat :=
  2 ^ 256 + 0xD3A65C * 2 ^ 232 + 2 ^ 228 + lane * 2 ^ 225 + count % 65536 * 2 ^ 192 + bip * 2 ^ 184

/-- Bits of a word in the order in which they are sent, from bit 0 or from the top. -/
def bitsUp (w n : Nat) : List Bool := (List.range w).map (bitOf n)
def bitsDown (w n : Nat) : List Bool := (bitsUp w n).reverse

/-- 257-bit blocks of a list of 66-bit blocks. -/
def transcodeAll : Nat → List Block66 → List Bool
  | 0, _ => []
  | n + 1, l => bitsUp 257 (transcode (l.take 4)) ++ transcodeAll n (l.drop 4)

/-! Reed-Solomon codes: RS(544,514) of R70 step 4, and RS(240,228) of R308. -/

/-- Product in the field of 2^`w` elements with the polynomial `poly`. -/
def gfMul (w poly a b : Nat) : Nat :=
  (List.range w).foldl (fun r i =>
    let d := r * 2
    let e := if 2 ^ w ≤ d then d ^^^ poly else d
    if bitOf b (w - 1 - i) then e ^^^ a else e) 0

/-- Powers of the primitive element. -/
def gfExp (w poly : Nat) : Nat → Nat
  | 0 => 1
  | n + 1 => gfMul w poly (gfExp w poly n) 2

/-- The generator polynomial with `n` roots, without its leading 1, highest power first: the product of x - a^j, j from 0 to n - 1. -/
def rsGenerator (w poly n : Nat) : List Nat :=
  ((List.range n).foldl (fun (g : List Nat) j =>
    (g ++ [0]).zipWith (fun x y => x ^^^ gfMul w poly y (gfExp w poly j)) (0 :: g)) [1]).drop 1

/-- The `n` parity symbols of a message, the first sent first. -/
def rsParity (w poly n : Nat) (message : List Nat) : List Nat :=
  message.foldl (fun (r : List Nat) m =>
    let f := m ^^^ r.headD 0
    (r.drop 1 ++ [0]).zipWith (fun x g => x ^^^ gfMul w poly f g) (rsGenerator w poly n)) (List.replicate n 0)

/-- Symbols of ten bits, the first bit sent being the least significant. -/
def symbols10 : Nat → List Bool → List Nat
  | 0, _ => []
  | n + 1, l => (l.take 10).foldr (fun b a => 2 * a + b2n b) 0 :: symbols10 n (l.drop 10)

/-- The 5,440 bits of the codeword of 5,140 message bits. -/
def codewordBits (message : List Bool) : List Bool := message ++ (rsParity 10 0x409 30 (symbols10 514 message)).flatMap (bitsUp 10)

/-- Parity of each of the eight bit positions of a stretch of a lane's bits (R72). -/
def bipOf : List Bool → Nat → Nat → Nat
  | [], _, p => p
  | b :: rest, i, p => bipOf rest (i + 1) (if b then p ^^^ 2 ^ (i % 8) else p)

/-! Training frames (R73). Levels 0 and 5 are -5 and +5. -/

/-- Each bit of a word, most significant first, four times in PAM2. -/
def wordLevels (word : Nat) : List Nat := (bitsDown 16 word).flatMap fun b => List.replicate 4 (if b then 5 else 0)

/-- `n` bits of a pseudo-random sequence whose register has `w` bits and feeds back the bits of `taps`, with the register after them. -/
def prbsBits (w taps : Nat) : Nat → Nat → List Bool × Nat
  | 0, r => ([], r)
  | n + 1, r =>
    let b := popcount w (r &&& taps) % 2
    let x := prbsBits w taps n (r * 2 % 2 ^ w + b)
    ((b == 1) :: x.1, x.2)

/-- The training pattern of 4,096 symbols from a register, and the register after it: PRBS13 in PAM2, or PRBS31 in PAM6. -/
def trainingPattern (pam6 : Bool) (register : Nat) : List Nat × Nat :=
  if pam6 then
    let x := prbsBits 31 0x48000000 10240 register
    ((pamPairs 2048 x.1).flatMap fun p => [p.1, p.2], x.2)
  else
    let x := prbsBits 13 0x1803 4096 register
    (x.1.map fun b => if b then 5 else 0, x.2)

/-- The 4,256 symbols of a training frame, as levels. -/
def trainingFrame (control status : Nat) (pattern : List Nat) : List Nat :=
  List.replicate 16 5 ++ List.replicate 16 0 ++ wordLevels control ++ wordLevels status ++ pattern

end Sys2Proof.Machine
end

