-- ==== Sys2Proof/Machine/Sparse.lean ====
section
/-! DEFINITION. Sparse memories: lists of (key, value) pairs with strictly rising keys. `sparseGet` and `sparseSet` give the
canonical form in which no entry equals what an unlisted key reads as. -/

namespace Sys2Proof.Machine

/-- A sparse memory, keys strictly rising. -/
abbrev Sparse (α : Type) := List (Nat × α)

/-- The value listed at a key. -/
def sparseFind? {α : Type} : Sparse α → Nat → Option α
  | [], _ => none
  | (a, v) :: rest, k => if a = k then some v else if k < a then none else sparseFind? rest k

/-- List a value at a key, keeping the keys rising. -/
def sparsePut {α : Type} : Sparse α → Nat → α → Sparse α
  | [], k, w => [(k, w)]
  | (a, v) :: rest, k, w =>
    if a = k then (k, w) :: rest else if k < a then (k, w) :: (a, v) :: rest else (a, v) :: sparsePut rest k w

/-- Remove the value at a key. -/
def sparseErase {α : Type} : Sparse α → Nat → Sparse α
  | [], _ => []
  | (a, v) :: rest, k => if a = k then rest else if k < a then (a, v) :: rest else (a, v) :: sparseErase rest k

/-- Read a key; an unlisted key reads as its default. -/
def sparseGet {α : Type} (dflt : Nat → α) (m : Sparse α) (k : Nat) : α := (sparseFind? m k).getD (dflt k)

/-- Write a key; writing the default removes the entry. -/
def sparseSet {α : Type} [DecidableEq α] (dflt : Nat → α) (m : Sparse α) (k : Nat) (v : α) : Sparse α :=
  if v = dflt k then sparseErase m k else sparsePut m k v

/-- The keys rise strictly, above `lo` when one is given. -/
def sparseRising {α : Type} : Option Nat → Sparse α → Bool
  | _, [] => true
  | none, (a, _) :: rest => sparseRising (some a) rest
  | some lo, (a, _) :: rest => decide (lo < a) && sparseRising (some a) rest

/-- The canonical form: keys strictly rising, no entry at its default. -/
def sparseWf {α : Type} [DecidableEq α] (dflt : Nat → α) (m : Sparse α) : Bool :=
  sparseRising none m && m.all fun e => decide (e.2 ≠ dflt e.1)

/-- `x` put into an ordered list, before the entries that it does not come after. -/
def insertBy {α : Type} (le : α → α → Bool) (x : α) : List α → List α
  | [] => [x]
  | y :: l => if le x y then x :: y :: l else y :: insertBy le x l

/-- A list in order; entries that compare equal keep their places. -/
def sortBy {α : Type} (le : α → α → Bool) (l : List α) : List α := l.foldr (insertBy le) []

end Sys2Proof.Machine
end

