-- ==== Sys2Proof/Machine/Dict.lean ====
section
/-! DEFINITION. The shape of the object dictionary: types, access classes, permitted values, instances and the objects'
records (R8, R326, R327, R329). -/

namespace Sys2Proof.Machine

/-- Status codes of responses and completions (R12). -/
inductive Status where
  | ok | deferred | retry | noObject | badType | range | access | auth | staleCounter | resourceBusy | tooLate
  | notClaimed | state | malformed | badChain | tableFull | bankBusy | bufferRange | bufferAlign | doubleFree
  | notOwner | noBuffer | abortedReset
  deriving DecidableEq, Repr

/-- The 8-bit code of a status (R12). -/
def Status.code : Status → Nat
  | .ok => 0x00 | .deferred => 0x01 | .retry => 0x02 | .noObject => 0x10 | .badType => 0x11 | .range => 0x12
  | .access => 0x13 | .auth => 0x14 | .staleCounter => 0x15 | .resourceBusy => 0x16 | .tooLate => 0x17
  | .notClaimed => 0x18 | .state => 0x1A | .malformed => 0x20 | .badChain => 0x21 | .tableFull => 0x22
  | .bankBusy => 0x23 | .bufferRange => 0x24 | .bufferAlign => 0x25 | .doubleFree => 0x26 | .notOwner => 0x27
  | .noBuffer => 0x28 | .abortedReset => 0x30

/-- Object types (R327). -/
inductive ObjType where
  | bool | u8 | u16 | u32 | u64 | i32 | i64 | enum8 | bits32 | time96 | epoch32
  | octets (n : Nat) | string (n : Nat) | tableref
  deriving DecidableEq, Repr

/-- Size of a value in octets (R327). -/
def ObjType.size : ObjType → Nat
  | .bool => 1 | .u8 => 1 | .u16 => 2 | .u32 => 4 | .u64 => 8 | .i32 => 4 | .i64 => 8 | .enum8 => 1 | .bits32 => 4
  | .time96 => 12 | .epoch32 => 4 | .octets n => n | .string n => n | .tableref => 8

/-- Type code (R327). -/
def ObjType.code : ObjType → Nat
  | .bool => 1 | .u8 => 2 | .u16 => 3 | .u32 => 4 | .u64 => 5 | .i32 => 6 | .i64 => 7 | .enum8 => 8 | .bits32 => 9
  | .time96 => 0x0A | .epoch32 => 0x0B | .octets _ => 0x0C | .string _ => 0x0D | .tableref => 0x0E

/-- Types that travel byte 0 first on every transport (R328). -/
def ObjType.bytewise : ObjType → Bool
  | .octets _ => true
  | .string _ => true
  | _ => false

/-- Base access classes (R329). -/
inductive Access where
  | ro | wo | rw | rwe
  deriving DecidableEq, Repr

/-- Permitted values of a writable object (check 11 of R337). -/
inductive Permit where
  | any
  | span (lo hi : Nat)
  | spanOr (lo hi other : Nat)
  | oneOf (l : List Nat)
  | mask (m : Nat)
  | within (bound : Nat)
  | multipleOf (n : Nat)
  | pow2 (lo hi : Nat)
  deriving DecidableEq, Repr

/-- Which instances carry an object (R8, R67, R353). -/
inductive InstKind where
  | package | die | hostDie | port | lanePort | lane | octet | pipeline | pipelineBoth | wq | cq | logicalPort
  deriving DecidableEq, Repr

/-- What an instance number names (R8). Queue instances carry the function in the bits above 15 inside the model. -/
inductive InstClass where
  | package | die | lanePort | logicalPort | wq | cq | pipeline | none
  deriving DecidableEq, Repr

/-- The class of an instance number (R8, R353). -/
def InstKind.ofInst (inst : Nat) : InstClass :=
  let i := inst % 65536
  if i = 0 then .package
  else if 0x0100 ≤ i ∧ i < 0x0108 then .die
  else if 0x1000 ≤ i ∧ i < 0x1200 then .lanePort
  else if 0x1200 ≤ i ∧ i < 0x2000 then .logicalPort
  else if 0x2000 ≤ i ∧ i < 0x2400 then .wq
  else if 0x2400 ≤ i ∧ i < 0x2800 then .cq
  else if 0x3000 ≤ i ∧ i < 0x3080 ∧ i % 16 ≤ 8 then .pipeline
  else .none

/-- One object, or a family of like objects at consecutive indices. -/
structure Obj where
  name : String
  inst : InstKind
  index : Nat
  first : Nat
  count : Nat
  stride : Nat
  sub : Nat
  subs : Nat
  type : ObjType
  access : Access
  critical : Bool
  permit : Permit
  dflts : List Nat
  deriving DecidableEq, Repr

/-- Whether the object stands on instances of a class. -/
def Obj.kindFits (o : Obj) (c : InstClass) : Bool :=
  match o.inst, c with
  | .package, .package => true
  | .die, .die => true
  | .hostDie, .die => true
  | .port, .lanePort => true
  | .lanePort, .lanePort => true
  | .lane, .lanePort => true
  | .octet, .lanePort => true
  | .pipeline, .pipeline => true
  | .pipelineBoth, .pipeline => true
  | .wq, .wq => true
  | .cq, .cq => true
  | .logicalPort, .logicalPort => true
  | _, _ => false

/-- The index brought to the ingress direction (R10). -/
def Obj.foldIndex (o : Obj) (index : Nat) : Nat :=
  if o.inst = .pipelineBoth ∧ o.index + 0x80 ≤ index then index - 0x80 else index

/-- Whether `index.sub` is an address of the object. -/
def Obj.covers (o : Obj) (index sub : Nat) : Bool :=
  let i := o.foldIndex index
  decide (o.index ≤ i) && decide ((i - o.index) % o.stride = 0)
    && decide (o.first ≤ (i - o.index) / o.stride) && decide ((i - o.index) / o.stride < o.first + o.count)
    && decide (o.sub ≤ sub) && decide (sub < o.sub + o.subs)

/-- The number of the family member at `index.sub`. -/
def Obj.member (o : Obj) (index sub : Nat) : Nat :=
  ((o.foldIndex index - o.index) / o.stride) * o.subs + (sub - o.sub)

/-- The default of member `k` (R326). -/
def Obj.dfltAt (o : Obj) (k : Nat) : Nat := o.dflts.getD k (o.dflts.getLastD 0)

/-- The key of an address in the register store. -/
def dictKey (inst index sub : Nat) : Nat := inst * 16777216 + index * 256 + sub

/-- The key of member `k` of an object on an instance. -/
def Obj.key (o : Obj) (inst k : Nat) : Nat :=
  dictKey inst (o.index + o.stride * (k / o.subs)) (o.sub + k % o.subs)

/-- The same object in the egress direction (R10). -/
def Obj.egress (o : Obj) : Obj := { o with index := o.index + 0x80 }

/-- Whether a number is a power of two up to 2^15. -/
def isPow2 (n : Nat) : Bool := (List.range 16).any fun k => n = 2 ^ k

/-- Check 11 of R337 for a value of the object's size: permitted values and reserved bits. -/
def Permit.allows (p : Permit) (t : ObjType) (v : Nat) : Bool :=
  match p with
  | .any => true
  | .span lo hi => decide (lo ≤ v) && decide (v ≤ hi)
  | .spanOr lo hi other => (decide (lo ≤ v) && decide (v ≤ hi)) || v = other
  | .oneOf l => l.contains v
  | .mask m => decide (v &&& m = v)
  | .within b => decide ((toSigned (8 * t.size) v).natAbs ≤ b)
  | .multipleOf n => v % n = 0
  | .pow2 lo hi => decide (lo ≤ v) && decide (v ≤ hi) && isPow2 v

/-- Refusals that R327 gives a type whatever the object. -/
def ObjType.allows (t : ObjType) (v : Nat) : Bool :=
  match t with
  | .bool => decide (v ≤ 1)
  | .time96 => decide (bits v 47 16 ≤ 999999999)
  | .string n =>
    let bs := beBytes n v
    (bs.dropWhile (· ≠ 0)).all (· = 0)
  | .tableref => decide (bits v 55 48 ≤ 1) && decide (bits v 47 32 = 0)
  | _ => true

end Sys2Proof.Machine
end

