-- ==== Sys2Proof/Machine/Objects.lean ====
section
/-! DEFINITION. The objects of the dictionary, one constant each, from the object tables of the chapters
(R64, R93, R122, R152, R176, R193, R230, R231, R254, R274, R303, R304, R325, R352, R380, R398, R435, R453,
R471, R489): address, type, access class, permitted values and default. -/

namespace Sys2Proof.Machine.Od

open Sys2Proof.Machine

/-- TIME_NOW, 1400.01 (R64): Package time at the read. -/
def timeNow : Obj :=
  { name := "TIME_NOW", inst := .package, index := 0x1400, first := 0, count := 1, stride := 1, sub := 0x01, subs := 1,
    type := .time96, access := .ro, critical := false, permit := .any, dflts := [0] }

/-- EPOCH_NOW, 1400.02 (R64): Current epoch counter, held value during a hold (R62). -/
def epochNow : Obj :=
  { name := "EPOCH_NOW", inst := .package, index := 0x1400, first := 0, count := 1, stride := 1, sub := 0x02, subs := 1,
    type := .epoch32, access := .ro, critical := false, permit := .any, dflts := [0] }

/-- EPOCH_LENGTH, 1401.01 (R64): Epoch length in µs for the next start (R47); a value other than 16, 32, 64, 128, 256, 512 or 1,024 returns RANGE. -/
def epochLength : Obj :=
  { name := "EPOCH_LENGTH", inst := .package, index := 0x1401, first := 0, count := 1, stride := 1, sub := 0x01, subs := 1,
    type := .u16, access := .rw, critical := true, permit := (.oneOf [16, 32, 64, 128, 256, 512, 1024]), dflts := [128] }

/-- EPOCH_LENGTH_IN_FORCE, 1401.02 (R64): Epoch length in µs now in force. -/
def epochLengthInForce : Obj :=
  { name := "EPOCH_LENGTH_IN_FORCE", inst := .package, index := 0x1401, first := 0, count := 1, stride := 1, sub := 0x02, subs := 1,
    type := .u16, access := .ro, critical := false, permit := .any, dflts := [128] }

/-- TIME_STATE, 1402.01 (R64): 0 FREERUN, 1 ACQUIRING, 2 LOCKED, 3 HOLDOVER (R43). -/
def timeState : Obj :=
  { name := "TIME_STATE", inst := .package, index := 0x1402, first := 0, count := 1, stride := 1, sub := 0x01, subs := 1,
    type := .enum8, access := .ro, critical := false, permit := .any, dflts := [0] }

/-- TIME_OFFSET, 1402.02 (R64): Last measured offset from the source, in 2^-16 ns. -/
def timeOffset : Obj :=
  { name := "TIME_OFFSET", inst := .package, index := 0x1402, first := 0, count := 1, stride := 1, sub := 0x02, subs := 1,
    type := .i64, access := .ro, critical := false, permit := .any, dflts := [0] }

/-- HOLDOVER_SINCE, 1402.03 (R64): Entry time of the current HOLDOVER; 0 if not in HOLDOVER. -/
def holdoverSince : Obj :=
  { name := "HOLDOVER_SINCE", inst := .package, index := 0x1402, first := 0, count := 1, stride := 1, sub := 0x03, subs := 1,
    type := .time96, access := .ro, critical := false, permit := .any, dflts := [0] }

/-- TIME_SOURCE, 1403.01 (R64): 0 NONE, 1 PTP, 2 PPS_TOD. -/
def timeSource : Obj :=
  { name := "TIME_SOURCE", inst := .package, index := 0x1403, first := 0, count := 1, stride := 1, sub := 0x01, subs := 1,
    type := .enum8, access := .rw, critical := true, permit := (.span 0 2), dflts := [0] }

/-- FREQ_SOURCE, 1403.02 (R64): 0 NONE, 1 PTP, 2 REF_IN, 3 SYNCE. -/
def freqSource : Obj :=
  { name := "FREQ_SOURCE", inst := .package, index := 0x1403, first := 0, count := 1, stride := 1, sub := 0x02, subs := 1,
    type := .enum8, access := .rw, critical := true, permit := (.span 0 3), dflts := [0] }

/-- TOD_SET, 1403.03 (R64): TAI time of the next 1PPS_IN edge (R42). -/
def todSet : Obj :=
  { name := "TOD_SET", inst := .package, index := 0x1403, first := 0, count := 1, stride := 1, sub := 0x03, subs := 1,
    type := .time96, access := .wo, critical := true, permit := .any, dflts := [0] }

/-- SYNCE_SOURCE_PORT, 1403.04 (R64): Lane-start port whose recovered clock is used for SYNCE. -/
def synceSourcePort : Obj :=
  { name := "SYNCE_SOURCE_PORT", inst := .package, index := 0x1403, first := 0, count := 1, stride := 1, sub := 0x04, subs := 1,
    type := .u16, access := .rw, critical := false, permit := .any, dflts := [0] }

/-- PTP_ROLE, 1404.01 (R64): 0 NONE, 1 OC, 2 BC, 3 E2E_TC, 4 P2P_TC. -/
def ptpRole : Obj :=
  { name := "PTP_ROLE", inst := .package, index := 0x1404, first := 0, count := 1, stride := 1, sub := 0x01, subs := 1,
    type := .enum8, access := .rw, critical := true, permit := (.span 0 4), dflts := [0] }

/-- PTP_PROFILE, 1404.02 (R64): 0 DEFAULT_1588, 1 G8275_1. -/
def ptpProfile : Obj :=
  { name := "PTP_PROFILE", inst := .package, index := 0x1404, first := 0, count := 1, stride := 1, sub := 0x02, subs := 1,
    type := .enum8, access := .rw, critical := true, permit := (.span 0 1), dflts := [1] }

/-- PTP_DOMAIN, 1404.03 (R64): PTP domain number: 24 to 43 under G8275_1, 0 to 127 under DEFAULT_1588, else RANGE. A write of PTP_PROFILE whose range excludes the PTP_DOMAIN in force returns RANGE. -/
def ptpDomain : Obj :=
  { name := "PTP_DOMAIN", inst := .package, index := 0x1404, first := 0, count := 1, stride := 1, sub := 0x03, subs := 1,
    type := .u8, access := .rw, critical := true, permit := (.span 0 127), dflts := [24] }

/-- STEP_THRESHOLD, 1405.01 (R64): Largest offset in ns that is slewed (R44). -/
def stepThreshold : Obj :=
  { name := "STEP_THRESHOLD", inst := .package, index := 0x1405, first := 0, count := 1, stride := 1, sub := 0x01, subs := 1,
    type := .u32, access := .rw, critical := true, permit := .any, dflts := [1000] }

/-- STEP_LIMIT, 1405.02 (R64): Largest step in ns applied without acceptance (R45). -/
def stepLimit : Obj :=
  { name := "STEP_LIMIT", inst := .package, index := 0x1405, first := 0, count := 1, stride := 1, sub := 0x02, subs := 1,
    type := .u64, access := .rw, critical := true, permit := .any, dflts := [1000000000] }

/-- TIME_STEP_ACCEPT, 1405.03 (R64): Applies the refused step (R45). -/
def timeStepAccept : Obj :=
  { name := "TIME_STEP_ACCEPT", inst := .package, index := 0x1405, first := 0, count := 1, stride := 1, sub := 0x03, subs := 1,
    type := .bool, access := .wo, critical := true, permit := (.oneOf [1]), dflts := [0] }

/-- TIME_STEP_PENDING, 1405.04 (R64): Offset of the refused step, in ns. -/
def timeStepPending : Obj :=
  { name := "TIME_STEP_PENDING", inst := .package, index := 0x1405, first := 0, count := 1, stride := 1, sub := 0x04, subs := 1,
    type := .i64, access := .ro, critical := false, permit := .any, dflts := [0] }

/-- SLEW_MAX, 1405.05 (R64): Slew rate limit in ppb, 1,000 to 500,000. -/
def slewMax : Obj :=
  { name := "SLEW_MAX", inst := .package, index := 0x1405, first := 0, count := 1, stride := 1, sub := 0x05, subs := 1,
    type := .u32, access := .rw, critical := true, permit := (.span 1000 500000), dflts := [100000] }

/-- PPS_OUT_FUNCTION, 1406.01 (R64): 0 NONE, 1 TIME, 2 EPOCH_MARKER; holder claim (R63). -/
def ppsOutFunction : Obj :=
  { name := "PPS_OUT_FUNCTION", inst := .package, index := 0x1406, first := 0, count := 1, stride := 1, sub := 0x01, subs := 1,
    type := .enum8, access := .rw, critical := false, permit := (.span 0 2), dflts := [0] }

/-- PPS_OUT_DIVIDER, 1406.02 (R64): Pulse on every n-th boundary, 1 to 65,535. -/
def ppsOutDivider : Obj :=
  { name := "PPS_OUT_DIVIDER", inst := .package, index := 0x1406, first := 0, count := 1, stride := 1, sub := 0x02, subs := 1,
    type := .u16, access := .rw, critical := false, permit := (.span 1 65535), dflts := [1] }

/-- PPS_OUT_OFFSET, 1406.03 (R64): Output shift in ns, ±500,000. -/
def ppsOutOffset : Obj :=
  { name := "PPS_OUT_OFFSET", inst := .package, index := 0x1406, first := 0, count := 1, stride := 1, sub := 0x03, subs := 1,
    type := .i32, access := .rw, critical := false, permit := (.within 500000), dflts := [0] }

/-- PPS_IN_DELAY, 1407.01 (R64): Cable delay compensation for 1PPS_IN in ns, ±500,000. -/
def ppsInDelay : Obj :=
  { name := "PPS_IN_DELAY", inst := .package, index := 0x1407, first := 0, count := 1, stride := 1, sub := 0x01, subs := 1,
    type := .i32, access := .rw, critical := false, permit := (.within 500000), dflts := [0] }

/-- SCHED_PENDING, 1408.01 (R64): Pending scheduled changes, 0 to 1,024. -/
def schedPending : Obj :=
  { name := "SCHED_PENDING", inst := .package, index := 0x1408, first := 0, count := 1, stride := 1, sub := 0x01, subs := 1,
    type := .u16, access := .ro, critical := false, permit := .any, dflts := [0] }

/-- SCHED_CANCEL, 1408.02 (R64): Instance (16 bits), index (16), sub-index (8), reserved (24, write 0), epoch (32) of the change to cancel (R52); each field big-endian, in this order, on every transport (R328). -/
def schedCancel : Obj :=
  { name := "SCHED_CANCEL", inst := .package, index := 0x1408, first := 0, count := 1, stride := 1, sub := 0x02, subs := 1,
    type := (.octets 12), access := .wo, critical := true, permit := .any, dflts := [0] }

/-- SCHED_REPORT_CQ, 1408.03 (R64): Completion queue for schedule reports; 0xFFFF for none. -/
def schedReportCq : Obj :=
  { name := "SCHED_REPORT_CQ", inst := .package, index := 0x1408, first := 0, count := 1, stride := 1, sub := 0x03, subs := 1,
    type := .u16, access := .rw, critical := false, permit := .any, dflts := [65535] }

/-- GEN_CURRENT, 1409.01 (R64): Generation G, 0 to 3 (R55). -/
def genCurrent : Obj :=
  { name := "GEN_CURRENT", inst := .package, index := 0x1409, first := 0, count := 1, stride := 1, sub := 0x01, subs := 1,
    type := .u8, access := .ro, critical := false, permit := .any, dflts := [0] }

/-- PTP_PORT_ENABLE, 1410.01 (R64): PTP on this lane-start port. -/
def ptpPortEnable : Obj :=
  { name := "PTP_PORT_ENABLE", inst := .port, index := 0x1410, first := 0, count := 1, stride := 1, sub := 0x01, subs := 1,
    type := .bool, access := .rw, critical := false, permit := (.span 0 1), dflts := [0] }

/-- PTP_ASYMMETRY, 1410.02 (R64): Link asymmetry correction in 2^-16 ns. -/
def ptpAsymmetry : Obj :=
  { name := "PTP_ASYMMETRY", inst := .port, index := 0x1410, first := 0, count := 1, stride := 1, sub := 0x02, subs := 1,
    type := .i32, access := .rw, critical := false, permit := .any, dflts := [0] }

/-- PORT_ENABLE, 2000.01 (R93): Enable or disable (R91). -/
def portEnable : Obj :=
  { name := "PORT_ENABLE", inst := .port, index := 0x2000, first := 0, count := 1, stride := 1, sub := 0x01, subs := 1,
    type := .bool, access := .rw, critical := false, permit := (.span 0 1), dflts := [0] }

/-- PORT_STATE, 2000.02 (R93): 0 DISABLED, 1 TRAINING, 2 UP, 3 DOWN, 4 DRAINING, 5 PENDING_ENABLE. -/
def portState : Obj :=
  { name := "PORT_STATE", inst := .port, index := 0x2000, first := 0, count := 1, stride := 1, sub := 0x02, subs := 1,
    type := .enum8, access := .ro, critical := false, permit := .any, dflts := [0] }

/-- LINK_RETRAIN_AUTO, 2000.03 (R93): Retrain after DOWN (R76, R87); a write of 1 while the port is DOWN starts TRAINING within 1 ms. -/
def linkRetrainAuto : Obj :=
  { name := "LINK_RETRAIN_AUTO", inst := .port, index := 0x2000, first := 0, count := 1, stride := 1, sub := 0x03, subs := 1,
    type := .bool, access := .rw, critical := false, permit := (.span 0 1), dflts := [1] }

/-- PORT_MODE, 2001.01 (R93): Port mode (R66); on any lane, valid while DISABLED. -/
def portMode : Obj :=
  { name := "PORT_MODE", inst := .lane, index := 0x2001, first := 0, count := 1, stride := 1, sub := 0x01, subs := 1,
    type := .enum8, access := .rw, critical := false, permit := (.span 0 12), dflts := [0] }

/-- PORT_MEDIUM, 2001.02 (R93): 0 C2M, 1 CR, 2 KR; IEEE only. -/
def portMedium : Obj :=
  { name := "PORT_MEDIUM", inst := .port, index := 0x2001, first := 0, count := 1, stride := 1, sub := 0x02, subs := 1,
    type := .enum8, access := .rw, critical := false, permit := (.span 0 2), dflts := [0] }

/-- PORT_AN, 2001.03 (R93): Clause 73 auto-negotiation for CR and KR. -/
def portAn : Obj :=
  { name := "PORT_AN", inst := .port, index := 0x2001, first := 0, count := 1, stride := 1, sub := 0x03, subs := 1,
    type := .bool, access := .rw, critical := false, permit := (.span 0 1), dflts := [1] }

/-- PORT_FEC, 2001.04 (R93): 0 RS544; 1 NONE, allowed only when PORT_LOOPBACK is not OFF, else STATE. -/
def portFec : Obj :=
  { name := "PORT_FEC", inst := .port, index := 0x2001, first := 0, count := 1, stride := 1, sub := 0x04, subs := 1,
    type := .enum8, access := .rw, critical := false, permit := (.span 0 1), dflts := [0] }

/-- PORT_LOOPBACK, 2001.05 (R93): 0 OFF, 1 PMA_LOCAL, 2 PCS_REMOTE. -/
def portLoopback : Obj :=
  { name := "PORT_LOOPBACK", inst := .port, index := 0x2001, first := 0, count := 1, stride := 1, sub := 0x05, subs := 1,
    type := .enum8, access := .rw, critical := false, permit := (.span 0 2), dflts := [0] }

/-- PORT_TX_PRESET, 2001.06 (R93): Transmit preset number for C2M, 1 to 5. -/
def portTxPreset : Obj :=
  { name := "PORT_TX_PRESET", inst := .port, index := 0x2001, first := 0, count := 1, stride := 1, sub := 0x06, subs := 1,
    type := .u8, access := .rw, critical := false, permit := (.span 1 5), dflts := [1] }

/-- PORT_DRAIN_LIMIT, 2002.01 (R93): Drain limit in µs, 100 to 1,000,000. -/
def portDrainLimit : Obj :=
  { name := "PORT_DRAIN_LIMIT", inst := .port, index := 0x2002, first := 0, count := 1, stride := 1, sub := 0x01, subs := 1,
    type := .u32, access := .rw, critical := false, permit := (.span 100 1000000), dflts := [10000] }

/-- PORT_DRAIN_DISCARDS, 2002.02 (R93): Cells discarded at the drain limit. -/
def portDrainDiscards : Obj :=
  { name := "PORT_DRAIN_DISCARDS", inst := .port, index := 0x2002, first := 0, count := 1, stride := 1, sub := 0x02, subs := 1,
    type := .u64, access := .ro, critical := false, permit := .any, dflts := [0] }

/-- PORT_DOWN_DISCARDS, 2002.03 (R93): Packets discarded under R89. -/
def portDownDiscards : Obj :=
  { name := "PORT_DOWN_DISCARDS", inst := .port, index := 0x2002, first := 0, count := 1, stride := 1, sub := 0x03, subs := 1,
    type := .u64, access := .ro, critical := false, permit := .any, dflts := [0] }

/-- FEC_CODEWORDS, 2003.01 (R93): Codewords received. -/
def fecCodewords : Obj :=
  { name := "FEC_CODEWORDS", inst := .port, index := 0x2003, first := 0, count := 1, stride := 1, sub := 0x01, subs := 1,
    type := .u64, access := .ro, critical := false, permit := .any, dflts := [0] }

/-- FEC_CORRECTED_SYMBOLS, 2003.02 (R93): Symbols corrected. -/
def fecCorrectedSymbols : Obj :=
  { name := "FEC_CORRECTED_SYMBOLS", inst := .port, index := 0x2003, first := 0, count := 1, stride := 1, sub := 0x02, subs := 1,
    type := .u64, access := .ro, critical := false, permit := .any, dflts := [0] }

/-- FEC_UNCORRECTED, 2003.03 (R93): Uncorrectable codewords. -/
def fecUncorrected : Obj :=
  { name := "FEC_UNCORRECTED", inst := .port, index := 0x2003, first := 0, count := 1, stride := 1, sub := 0x03, subs := 1,
    type := .u64, access := .ro, critical := false, permit := .any, dflts := [0] }

/-- L400_TRAIN_RESTARTS, 2003.04 (R93): Training restarts (R74). -/
def l400TrainRestarts : Obj :=
  { name := "L400_TRAIN_RESTARTS", inst := .port, index := 0x2003, first := 0, count := 1, stride := 1, sub := 0x04, subs := 1,
    type := .u32, access := .ro, critical := false, permit := .any, dflts := [0] }

/-- TS_RX_ADJUST, 2004.01 (R93): Receive board delay in 2^-16 ns, ±1,000 ns. -/
def tsRxAdjust : Obj :=
  { name := "TS_RX_ADJUST", inst := .port, index := 0x2004, first := 0, count := 1, stride := 1, sub := 0x01, subs := 1,
    type := .i32, access := .rw, critical := false, permit := (.within 65536000), dflts := [0] }

/-- TS_TX_ADJUST, 2004.02 (R93): Transmit board delay in 2^-16 ns, ±1,000 ns. -/
def tsTxAdjust : Obj :=
  { name := "TS_TX_ADJUST", inst := .port, index := 0x2004, first := 0, count := 1, stride := 1, sub := 0x02, subs := 1,
    type := .i32, access := .rw, critical := false, permit := (.within 65536000), dflts := [0] }

/-- LANE_SLICE, 2100.01 (R93): 0 OWN, 1 SPARE. -/
def laneSlice : Obj :=
  { name := "LANE_SLICE", inst := .lane, index := 0x2100, first := 0, count := 1, stride := 1, sub := 0x01, subs := 1,
    type := .enum8, access := .ro, critical := false, permit := .any, dflts := [0] }

/-- LANE_TX_TAPS, 2100.02 (R93): Signed steps of pre3, pre2, pre1, main and post1; then reserved (3 bytes, read 0). -/
def laneTxTaps : Obj :=
  { name := "LANE_TX_TAPS", inst := .lane, index := 0x2100, first := 0, count := 1, stride := 1, sub := 0x02, subs := 1,
    type := (.octets 8), access := .ro, critical := false, permit := .any, dflts := [0] }

/-- LANE_MARGIN, 2100.03 (R93): Receive eye margin in units of 0.01 dB. -/
def laneMargin : Obj :=
  { name := "LANE_MARGIN", inst := .lane, index := 0x2100, first := 0, count := 1, stride := 1, sub := 0x03, subs := 1,
    type := .u16, access := .ro, critical := false, permit := .any, dflts := [0] }

/-- LANE_HEAVY_CODEWORDS, 2100.04 (R93): L400: codewords on the lane with 8 or more corrected symbols in the last 1 ms window. IEEE modes: corrected symbols the lane carried in that window (R80). -/
def laneHeavyCodewords : Obj :=
  { name := "LANE_HEAVY_CODEWORDS", inst := .lane, index := 0x2100, first := 0, count := 1, stride := 1, sub := 0x04, subs := 1,
    type := .u32, access := .ro, critical := false, permit := .any, dflts := [0] }

/-- OCTET_RATE_GROUP, 2200.01 (R93): 0 IEEE, 1 L400 (R65). -/
def octetRateGroup : Obj :=
  { name := "OCTET_RATE_GROUP", inst := .octet, index := 0x2200, first := 0, count := 1, stride := 1, sub := 0x01, subs := 1,
    type := .enum8, access := .rw, critical := false, permit := (.span 0 1), dflts := [0] }

/-- SPARE_SLICE_STATE, 2200.02 (R93): 0 COLD, 1 SEASONING, 2 SEASONED, 3 IN_SERVICE, 4 RETIRED. -/
def spareSliceState : Obj :=
  { name := "SPARE_SLICE_STATE", inst := .octet, index := 0x2200, first := 0, count := 1, stride := 1, sub := 0x02, subs := 1,
    type := .enum8, access := .ro, critical := false, permit := .any, dflts := [0] }

/-- SPARE_SLICE_LANE, 2200.03 (R93): Lane served or listened to; 0xFF none. -/
def spareSliceLane : Obj :=
  { name := "SPARE_SLICE_LANE", inst := .octet, index := 0x2200, first := 0, count := 1, stride := 1, sub := 0x03, subs := 1,
    type := .u8, access := .ro, critical := false, permit := .any, dflts := [255] }

/-- SPARE_CHANGEOVER, 2200.04 (R93): Planned changeover of lane 0 to 7 (R86). -/
def spareChangeover : Obj :=
  { name := "SPARE_CHANGEOVER", inst := .octet, index := 0x2200, first := 0, count := 1, stride := 1, sub := 0x04, subs := 1,
    type := .u8, access := .rwe, critical := true, permit := (.span 0 7), dflts := [0] }

/-- SPARE_RELEASE, 2200.05 (R93): Return lane 0 to 7 to its own slice (R86). -/
def spareRelease : Obj :=
  { name := "SPARE_RELEASE", inst := .octet, index := 0x2200, first := 0, count := 1, stride := 1, sub := 0x05, subs := 1,
    type := .u8, access := .rwe, critical := true, permit := (.span 0 7), dflts := [0] }

/-- PARSER_SWAP, 3000.01 (R122): 1: make the shadow parser bank live at the named epoch (R99); 0 returns RANGE. -/
def parserSwap : Obj :=
  { name := "PARSER_SWAP", inst := .package, index := 0x3000, first := 0, count := 1, stride := 1, sub := 0x01, subs := 1,
    type := .bool, access := .rwe, critical := true, permit := (.oneOf [1]), dflts := [0] }

/-- PARSER_LIVE_BANK, 3000.02 (R122): Live bank, 0 or 1. -/
def parserLiveBank : Obj :=
  { name := "PARSER_LIVE_BANK", inst := .package, index := 0x3000, first := 0, count := 1, stride := 1, sub := 0x02, subs := 1,
    type := .u8, access := .ro, critical := false, permit := .any, dflts := [0] }

/-- PARSER_SHADOW_STATE, 3000.03 (R122): 0 WRITABLE, 1 SWAP_PENDING, 2 HELD, 3 DISAGREE. -/
def parserShadowState : Obj :=
  { name := "PARSER_SHADOW_STATE", inst := .package, index := 0x3000, first := 0, count := 1, stride := 1, sub := 0x03, subs := 1,
    type := .enum8, access := .ro, critical := false, permit := .any, dflts := [0] }

/-- PARSER_COPY_LIVE, 3000.04 (R122): Copies the live bank into the shadow on every die within 2 ms, then returns OK; STATE while SWAP_PENDING; BANK_BUSY while HELD. -/
def parserCopyLive : Obj :=
  { name := "PARSER_COPY_LIVE", inst := .package, index := 0x3000, first := 0, count := 1, stride := 1, sub := 0x04, subs := 1,
    type := .bool, access := .wo, critical := false, permit := (.oneOf [1]), dflts := [0] }

/-- PORT_PARSER_PROFILE, 3002.01 (R122): Port instance: profile 0 to 15 for frames received on the port. -/
def portParserProfile : Obj :=
  { name := "PORT_PARSER_PROFILE", inst := .lanePort, index := 0x3002, first := 0, count := 1, stride := 1, sub := 0x01, subs := 1,
    type := .u8, access := .rwe, critical := false, permit := (.span 0 15), dflts := [0] }

/-- PROFILE_START_NODE, 3010 + r, .01 (R122): Profile r (0 to 15): first node, 0x00 to 0xFD. -/
def profileStartNode : Obj :=
  { name := "PROFILE_START_NODE", inst := .package, index := 0x3010, first := 0, count := 16, stride := 1, sub := 0x01, subs := 1,
    type := .u8, access := .rw, critical := false, permit := (.span 0 253), dflts := [1] }

/-- PROFILE_PSA_MAX, 3010 + r, .02 (R122): PSA length limit in bytes, 0 to 256; 0 disables the PSA. -/
def profilePsaMax : Obj :=
  { name := "PROFILE_PSA_MAX", inst := .package, index := 0x3010, first := 0, count := 16, stride := 1, sub := 0x02, subs := 1,
    type := .u16, access := .rw, critical := false, permit := (.span 0 256), dflts := [0] }

/-- PROFILE_PATTERN_SET, 3010 + r, .03 (R122): Pattern set 0 to 15, or 0xFF for none. -/
def profilePatternSet : Obj :=
  { name := "PROFILE_PATTERN_SET", inst := .package, index := 0x3010, first := 0, count := 16, stride := 1, sub := 0x03, subs := 1,
    type := .u8, access := .rw, critical := false, permit := (.spanOr 0 15 255), dflts := [255] }

/-- KEY_PROFILE_RECORD, 3040 + k, .01 (R122): Key-extraction profile k (1 to 63), big-endian layout of R120. -/
def keyProfileRecord : Obj :=
  { name := "KEY_PROFILE_RECORD", inst := .package, index := 0x3040, first := 1, count := 63, stride := 1, sub := 0x01, subs := 1,
    type := (.octets 8), access := .rw, critical := false, permit := .any, dflts := [0] }

/-- PARSE_DEPTH_COUNT, 3100.01 (R122): Pipeline instance: PARSE_DEPTH failures. -/
def parseDepthCount : Obj :=
  { name := "PARSE_DEPTH_COUNT", inst := .pipeline, index := 0x3100, first := 0, count := 1, stride := 1, sub := 0x01, subs := 1,
    type := .u64, access := .ro, critical := false, permit := .any, dflts := [0] }

/-- PARSE_LENGTH_COUNT, 3100.02 (R122): PARSE_LENGTH failures found by the walk. -/
def parseLengthCount : Obj :=
  { name := "PARSE_LENGTH_COUNT", inst := .pipeline, index := 0x3100, first := 0, count := 1, stride := 1, sub := 0x02, subs := 1,
    type := .u64, access := .ro, critical := false, permit := .any, dflts := [0] }

/-- PARSE_UNKNOWN_COUNT, 3100.03 (R122): PARSE_UNKNOWN failures. -/
def parseUnknownCount : Obj :=
  { name := "PARSE_UNKNOWN_COUNT", inst := .pipeline, index := 0x3100, first := 0, count := 1, stride := 1, sub := 0x03, subs := 1,
    type := .u64, access := .ro, critical := false, permit := .any, dflts := [0] }

/-- PARSE_LATE_LENGTH, 3100.04 (R122): Length contradictions found at frame end (R111). -/
def parseLateLength : Obj :=
  { name := "PARSE_LATE_LENGTH", inst := .pipeline, index := 0x3100, first := 0, count := 1, stride := 1, sub := 0x04, subs := 1,
    type := .u64, access := .ro, critical := false, permit := .any, dflts := [0] }

/-- PARSE_INNER_SLACK, 3100.05 (R122): Claims short of their bound (R110). -/
def parseInnerSlack : Obj :=
  { name := "PARSE_INNER_SLACK", inst := .pipeline, index := 0x3100, first := 0, count := 1, stride := 1, sub := 0x05, subs := 1,
    type := .u64, access := .ro, critical := false, permit := .any, dflts := [0] }

/-- KEY_EXTRACT_FAIL, 3100.06 (R122): Failed key extractions (R121). -/
def keyExtractFail : Obj :=
  { name := "KEY_EXTRACT_FAIL", inst := .pipeline, index := 0x3100, first := 0, count := 1, stride := 1, sub := 0x06, subs := 1,
    type := .u64, access := .ro, critical := false, permit := .any, dflts := [0] }

/-- MATCH_OVERFLOW, 3100.07 (R122): Matches beyond the fourth (R118). -/
def matchOverflow : Obj :=
  { name := "MATCH_OVERFLOW", inst := .pipeline, index := 0x3100, first := 0, count := 1, stride := 1, sub := 0x07, subs := 1,
    type := .u64, access := .ro, critical := false, permit := .any, dflts := [0] }

/-- PATTERN_SET_BASE, 3400 + s, .01 (R122): Set s (0 to 15): first pattern, 0 to 1,023. -/
def patternSetBase : Obj :=
  { name := "PATTERN_SET_BASE", inst := .package, index := 0x3400, first := 0, count := 16, stride := 1, sub := 0x01, subs := 1,
    type := .u16, access := .rw, critical := false, permit := (.span 0 1023), dflts := [0] }

/-- PATTERN_SET_COUNT, 3400 + s, .02 (R122): Patterns in the set; base + count above 1,024 returns RANGE. -/
def patternSetCount : Obj :=
  { name := "PATTERN_SET_COUNT", inst := .package, index := 0x3400, first := 0, count := 16, stride := 1, sub := 0x02, subs := 1,
    type := .u16, access := .rw, critical := false, permit := (.span 0 1024), dflts := [0] }

/-- ASA_SET_MODE, 3800 + s, .01 (R152): 0 OFF, 1 MIRRORED, 2 PARTITIONED; PARTITIONED on sets 8 to 11 returns RANGE (R126, R128). -/
def asaSetMode : Obj :=
  { name := "ASA_SET_MODE", inst := .package, index := 0x3800, first := 0, count := 12, stride := 1, sub := 0x01, subs := 1,
    type := .enum8, access := .rw, critical := false, permit := (.span 0 2), dflts := [0] }

/-- ASA_SET_WIDTH, 3800 + s, .02 (R152): 0 W160, 1 W320, 2 W640. -/
def asaSetWidth : Obj :=
  { name := "ASA_SET_WIDTH", inst := .package, index := 0x3800, first := 0, count := 12, stride := 1, sub := 0x02, subs := 1,
    type := .enum8, access := .rw, critical := false, permit := (.span 0 2), dflts := [0] }

/-- ASA_SET_BANKS, 3800 + s, .03 (R152): Live group (R126). -/
def asaSetBanks : Obj :=
  { name := "ASA_SET_BANKS", inst := .package, index := 0x3800, first := 0, count := 12, stride := 1, sub := 0x03, subs := 1,
    type := .bits32, access := .rw, critical := false, permit := .any, dflts := [0] }

/-- ASA_SET_SHADOW_BANKS, 3800 + s, .04 (R152): Shadow group; STATE while SWAP_PENDING or HELD. -/
def asaSetShadowBanks : Obj :=
  { name := "ASA_SET_SHADOW_BANKS", inst := .package, index := 0x3800, first := 0, count := 12, stride := 1, sub := 0x04, subs := 1,
    type := .bits32, access := .rw, critical := false, permit := .any, dflts := [0] }

/-- ASA_SET_SWAP, 3800 + s, .05 (R152): 1: swap the groups at the named epoch (R136); 0 returns RANGE. -/
def asaSetSwap : Obj :=
  { name := "ASA_SET_SWAP", inst := .package, index := 0x3800, first := 0, count := 12, stride := 1, sub := 0x05, subs := 1,
    type := .bool, access := .rwe, critical := true, permit := (.oneOf [1]), dflts := [0] }

/-- ASA_SET_COMMIT, 3800 + s, .06 (R152): 1: commit pending gates at the named epoch (R137); 0 returns RANGE. -/
def asaSetCommit : Obj :=
  { name := "ASA_SET_COMMIT", inst := .package, index := 0x3800, first := 0, count := 12, stride := 1, sub := 0x06, subs := 1,
    type := .bool, access := .rwe, critical := true, permit := (.oneOf [1]), dflts := [0] }

/-- ASA_SET_STATE, 3800 + s, .07 (R152): 0 IDLE, 1 SWAP_PENDING, 2 COMMIT_PENDING, 3 HELD, 4 DISAGREE. -/
def asaSetState : Obj :=
  { name := "ASA_SET_STATE", inst := .package, index := 0x3800, first := 0, count := 12, stride := 1, sub := 0x07, subs := 1,
    type := .enum8, access := .ro, critical := false, permit := .any, dflts := [0] }

/-- ASA_MISS_ACTION, 3800 + s, .08 (R152): 0 NONE, 1 DROP, 2 PUNT (R135); side as for the set's swap (R136). -/
def asaMissAction : Obj :=
  { name := "ASA_MISS_ACTION", inst := .package, index := 0x3800, first := 0, count := 12, stride := 1, sub := 0x08, subs := 1,
    type := .enum8, access := .rwe, critical := false, permit := (.span 0 2), dflts := [0] }

/-- ASA_PARITY_PUNT, 3800 + s, .09 (R152): Punt parity misses with TABLE_PARITY (R142); side as for the set's swap (R136). -/
def asaParityPunt : Obj :=
  { name := "ASA_PARITY_PUNT", inst := .package, index := 0x3800, first := 0, count := 12, stride := 1, sub := 0x09, subs := 1,
    type := .bool, access := .rwe, critical := false, permit := (.span 0 1), dflts := [0] }

/-- ASA_HOLE_INTERVAL, 3800 + s, .0A (R152): H: 4, 8, 16, 32 or 64, else RANGE; 0: no kept holes; written while the set is unreferenced (R128). -/
def asaHoleInterval : Obj :=
  { name := "ASA_HOLE_INTERVAL", inst := .package, index := 0x3800, first := 0, count := 12, stride := 1, sub := 0x0A, subs := 1,
    type := .u8, access := .rw, critical := false, permit := (.oneOf [0, 4, 8, 16, 32, 64]), dflts := [16] }

/-- ASA_SET_ENTRIES, 3800 + s, .0B (R152): Entries in the live group, gated rows included. -/
def asaSetEntries : Obj :=
  { name := "ASA_SET_ENTRIES", inst := .package, index := 0x3800, first := 0, count := 12, stride := 1, sub := 0x0B, subs := 1,
    type := .u32, access := .ro, critical := false, permit := .any, dflts := [0] }

/-- ASA_SET_FREE, 3800 + s, .0C (R152): Free rows in the live group, kept holes included. -/
def asaSetFree : Obj :=
  { name := "ASA_SET_FREE", inst := .package, index := 0x3800, first := 0, count := 12, stride := 1, sub := 0x0C, subs := 1,
    type := .u32, access := .ro, critical := false, permit := .any, dflts := [0] }

/-- ASA_KEY_MAP, 3800 + s, .0D (R152): Key segments (R132). -/
def asaKeyMap : Obj :=
  { name := "ASA_KEY_MAP", inst := .package, index := 0x3800, first := 0, count := 12, stride := 1, sub := 0x0D, subs := 1,
    type := (.octets 64), access := .rw, critical := false, permit := .any, dflts := [0] }

/-- ASA_LOOKUP0_SET, 3820 + r, .01 (R152): Mirrored ingress set, or 0xFF for none. -/
def asaLookup0Set : Obj :=
  { name := "ASA_LOOKUP0_SET", inst := .package, index := 0x3820, first := 0, count := 16, stride := 1, sub := 0x01, subs := 1,
    type := .u8, access := .rwe, critical := false, permit := (.spanOr 0 7 255), dflts := [255] }

/-- ASA_LOOKUP1_SET, 3820 + r, .02 (R152): Ingress set 0 to 7, or 0xFF for none. -/
def asaLookup1Set : Obj :=
  { name := "ASA_LOOKUP1_SET", inst := .package, index := 0x3820, first := 0, count := 16, stride := 1, sub := 0x02, subs := 1,
    type := .u8, access := .rwe, critical := false, permit := (.spanOr 0 7 255), dflts := [255] }

/-- RC_ENABLE, 3820 + r, .03 (R152): Use the RC for this profile. -/
def rcEnable : Obj :=
  { name := "RC_ENABLE", inst := .package, index := 0x3820, first := 0, count := 16, stride := 1, sub := 0x03, subs := 1,
    type := .bool, access := .rw, critical := false, permit := (.span 0 1), dflts := [1] }

/-- EGRESS_ASA_SET, 3830.01 (R152): Port instance: set 8 to 11, or 0xFF for none. -/
def egressAsaSet : Obj :=
  { name := "EGRESS_ASA_SET", inst := .lanePort, index := 0x3830, first := 0, count := 1, stride := 1, sub := 0x01, subs := 1,
    type := .u8, access := .rwe, critical := false, permit := (.spanOr 8 11 255), dflts := [255] }

/-- SEARCH_DEFER_ACTION, 3840.01 (R152): 0 FORWARD_EXACT, 1 DROP, 2 PUNT (R151); side by ingress stamp. -/
def searchDeferAction : Obj :=
  { name := "SEARCH_DEFER_ACTION", inst := .package, index := 0x3840, first := 0, count := 1, stride := 1, sub := 0x01, subs := 1,
    type := .enum8, access := .rwe, critical := false, permit := (.span 0 2), dflts := [0] }

/-- SEARCH_DEFER_TC_MASK, 3840.02 (R152): Bit t set: TC t may be deferred (R150); side by ingress stamp. -/
def searchDeferTcMask : Obj :=
  { name := "SEARCH_DEFER_TC_MASK", inst := .package, index := 0x3840, first := 0, count := 1, stride := 1, sub := 0x02, subs := 1,
    type := .u8, access := .rwe, critical := false, permit := .any, dflts := [3] }

/-- SEARCH_DEFER_SAMPLE, 3840.03 (R152): 1 to 1,048,576; 0: no samples. -/
def searchDeferSample : Obj :=
  { name := "SEARCH_DEFER_SAMPLE", inst := .package, index := 0x3840, first := 0, count := 1, stride := 1, sub := 0x03, subs := 1,
    type := .u32, access := .rw, critical := false, permit := (.span 0 1048576), dflts := [1024] }

/-- SEARCH_THROTTLE_STEP, 3841.01 (R152): Die instance: step 0 to 3 (R148). -/
def searchThrottleStep : Obj :=
  { name := "SEARCH_THROTTLE_STEP", inst := .die, index := 0x3841, first := 0, count := 1, stride := 1, sub := 0x01, subs := 1,
    type := .enum8, access := .ro, critical := false, permit := .any, dflts := [0] }

/-- EGRESS_ASA_PARITY_MISS, 3841.02 (R152): Die instance: egress parity misses. -/
def egressAsaParityMiss : Obj :=
  { name := "EGRESS_ASA_PARITY_MISS", inst := .die, index := 0x3841, first := 0, count := 1, stride := 1, sub := 0x02, subs := 1,
    type := .u64, access := .ro, critical := false, permit := .any, dflts := [0] }

/-- RC_HITS, 3880.01 (R152): Pipeline instance: packets served by the RC, followers included. -/
def rcHits : Obj :=
  { name := "RC_HITS", inst := .pipeline, index := 0x3880, first := 0, count := 1, stride := 1, sub := 0x01, subs := 1,
    type := .u64, access := .ro, critical := false, permit := .any, dflts := [0] }

/-- RC_MISSES, 3880.02 (R152): Packets that searched. -/
def rcMisses : Obj :=
  { name := "RC_MISSES", inst := .pipeline, index := 0x3880, first := 0, count := 1, stride := 1, sub := 0x02, subs := 1,
    type := .u64, access := .ro, critical := false, permit := .any, dflts := [0] }

/-- RC_UNCACHEABLE, 3880.03 (R152): Packets not cacheable (R145). -/
def rcUncacheable : Obj :=
  { name := "RC_UNCACHEABLE", inst := .pipeline, index := 0x3880, first := 0, count := 1, stride := 1, sub := 0x03, subs := 1,
    type := .u64, access := .ro, critical := false, permit := .any, dflts := [0] }

/-- SEARCH_WAITS, 3880.04 (R152): Packets that took a wait-queue entry. -/
def searchWaits : Obj :=
  { name := "SEARCH_WAITS", inst := .pipeline, index := 0x3880, first := 0, count := 1, stride := 1, sub := 0x04, subs := 1,
    type := .u64, access := .ro, critical := false, permit := .any, dflts := [0] }

/-- SEARCH_DEFERRED_COUNT, 3880.05 (R152): Packets that took the search-deferred action. -/
def searchDeferredCount : Obj :=
  { name := "SEARCH_DEFERRED_COUNT", inst := .pipeline, index := 0x3880, first := 0, count := 1, stride := 1, sub := 0x05, subs := 1,
    type := .u64, access := .ro, critical := false, permit := .any, dflts := [0] }

/-- SEARCH_STALL_CLOCKS, 3880.06 (R152): Pipeline clocks stopped under R150. -/
def searchStallClocks : Obj :=
  { name := "SEARCH_STALL_CLOCKS", inst := .pipeline, index := 0x3880, first := 0, count := 1, stride := 1, sub := 0x06, subs := 1,
    type := .u64, access := .ro, critical := false, permit := .any, dflts := [0] }

/-- ASA_PARITY_MISS, 3880.07 (R152): Ingress parity misses (R142). -/
def asaParityMiss : Obj :=
  { name := "ASA_PARITY_MISS", inst := .pipeline, index := 0x3880, first := 0, count := 1, stride := 1, sub := 0x07, subs := 1,
    type := .u64, access := .ro, critical := false, permit := .any, dflts := [0] }

/-- TABLE_SHADOW_TILES, 4000 + k, .01 (R176): Shadow bank size; a power of two within R154, else RANGE (R157); TABLE_FULL under R153. -/
def tableShadowTiles : Obj :=
  { name := "TABLE_SHADOW_TILES", inst := .package, index := 0x4000, first := 0, count := 15, stride := 1, sub := 0x01, subs := 1,
    type := .u16, access := .rw, critical := false, permit := .any, dflts := [1, 1, 1, 16, 1, 2, 4, 4, 16, 8, 4, 1, 2, 2, 1] }

/-- TABLE_LIVE_TILES, 4000 + k, .02 (R176): Live bank size. -/
def tableLiveTiles : Obj :=
  { name := "TABLE_LIVE_TILES", inst := .package, index := 0x4000, first := 0, count := 15, stride := 1, sub := 0x02, subs := 1,
    type := .u16, access := .ro, critical := false, permit := .any, dflts := [1, 1, 1, 16, 1, 2, 4, 4, 16, 8, 4, 1, 2, 2, 1] }

/-- TABLE_SHADOW_SEED, 4000 + k, .03 (R176): Shadow seed (R164, R157). -/
def tableShadowSeed : Obj :=
  { name := "TABLE_SHADOW_SEED", inst := .package, index := 0x4000, first := 0, count := 15, stride := 1, sub := 0x03, subs := 1,
    type := .u32, access := .rw, critical := false, permit := .any, dflts := [1] }

/-- TABLE_SWAP, 4000 + k, .04 (R176): 1: swap at the named epoch (R155); 0 returns RANGE. -/
def tableSwap : Obj :=
  { name := "TABLE_SWAP", inst := .package, index := 0x4000, first := 0, count := 15, stride := 1, sub := 0x04, subs := 1,
    type := .bool, access := .rwe, critical := true, permit := (.oneOf [1]), dflts := [0] }

/-- TABLE_STATE, 4000 + k, .05 (R176): 0 WRITABLE, 1 SWAP_PENDING, 2 HELD, 3 DISAGREE, 4 STALE. -/
def tableState : Obj :=
  { name := "TABLE_STATE", inst := .package, index := 0x4000, first := 0, count := 15, stride := 1, sub := 0x05, subs := 1,
    type := .enum8, access := .ro, critical := false, permit := .any, dflts := [0] }

/-- TABLE_COPY_LIVE, 4000 + k, .06 (R176): Copy live to shadow (R156); STATE while SWAP_PENDING; BANK_BUSY while HELD. -/
def tableCopyLive : Obj :=
  { name := "TABLE_COPY_LIVE", inst := .package, index := 0x4000, first := 0, count := 15, stride := 1, sub := 0x06, subs := 1,
    type := .bool, access := .wo, critical := false, permit := (.oneOf [1]), dflts := [0] }

/-- TABLE_SYNC, 4000 + k, .07 (R176): Replay into the released bank (R156). -/
def tableSync : Obj :=
  { name := "TABLE_SYNC", inst := .package, index := 0x4000, first := 0, count := 15, stride := 1, sub := 0x07, subs := 1,
    type := .bool, access := .rw, critical := false, permit := (.span 0 1), dflts := [1] }

/-- TABLE_LIVE_ENTRIES, 4000 + k, .08 (R176): Entries in the live bank, markers included. -/
def tableLiveEntries : Obj :=
  { name := "TABLE_LIVE_ENTRIES", inst := .package, index := 0x4000, first := 0, count := 15, stride := 1, sub := 0x08, subs := 1,
    type := .u32, access := .ro, critical := false, permit := .any, dflts := [0] }

/-- TABLE_MISS_ACTION, 4000 + k, .09 (R176): LABEL only: 0 DROP, 1 PUNT with NO_MATCH; side by ingress stamp. At the index of any other table it does not exist, and every access returns NO_OBJECT. -/
def tableMissAction : Obj :=
  { name := "TABLE_MISS_ACTION", inst := .package, index := 0x4000, first := 0, count := 15, stride := 1, sub := 0x09, subs := 1,
    type := .enum8, access := .rwe, critical := false, permit := (.span 0 1), dflts := [0] }

/-- TABLE_PARITY_PUNT, 4000 + k, .0A (R176): R175; side as for the table's swap (R155). -/
def tableParityPunt : Obj :=
  { name := "TABLE_PARITY_PUNT", inst := .package, index := 0x4000, first := 0, count := 15, stride := 1, sub := 0x0A, subs := 1,
    type := .bool, access := .rwe, critical := false, permit := (.span 0 1), dflts := [0] }

/-- TABLE_PARITY_MISS, 4000 + k, .0B (R176): R175. -/
def tableParityMiss : Obj :=
  { name := "TABLE_PARITY_MISS", inst := .package, index := 0x4000, first := 0, count := 15, stride := 1, sub := 0x0B, subs := 1,
    type := .u64, access := .ro, critical := false, permit := .any, dflts := [0] }

/-- TABLE_REHASH_REQUESTS, 4000 + k, .0C (R176): REHASH_REQUEST raised. -/
def tableRehashRequests : Obj :=
  { name := "TABLE_REHASH_REQUESTS", inst := .package, index := 0x4000, first := 0, count := 15, stride := 1, sub := 0x0C, subs := 1,
    type := .u32, access := .ro, critical := false, permit := .any, dflts := [0] }

/-- MOVE_GUARD, 4100.01 (R176): µs, 10 to 1,000. -/
def moveGuard : Obj :=
  { name := "MOVE_GUARD", inst := .package, index := 0x4100, first := 0, count := 1, stride := 1, sub := 0x01, subs := 1,
    type := .u32, access := .rw, critical := false, permit := (.span 10 1000), dflts := [100] }

/-- MAC_AGE_PERIOD, 4100.02 (R176): s, 1 to 65,535; 0: aging off. -/
def macAgePeriod : Obj :=
  { name := "MAC_AGE_PERIOD", inst := .package, index := 0x4100, first := 0, count := 1, stride := 1, sub := 0x02, subs := 1,
    type := .u16, access := .rw, critical := false, permit := .any, dflts := [150] }

/-- LEARN_REPORT_CQ, 4100.03 (R176): Completion queue for learn reports (R173). -/
def learnReportCq : Obj :=
  { name := "LEARN_REPORT_CQ", inst := .package, index := 0x4100, first := 0, count := 1, stride := 1, sub := 0x03, subs := 1,
    type := .u16, access := .rw, critical := false, permit := .any, dflts := [65535] }

/-- MOVE_CONTENTION, 4101.01 (R176): R172. -/
def moveContention : Obj :=
  { name := "MOVE_CONTENTION", inst := .package, index := 0x4101, first := 0, count := 1, stride := 1, sub := 0x01, subs := 1,
    type := .u64, access := .ro, critical := false, permit := .any, dflts := [0] }

/-- STATIC_MOVE_REFUSED, 4101.02 (R176): R172. -/
def staticMoveRefused : Obj :=
  { name := "STATIC_MOVE_REFUSED", inst := .package, index := 0x4101, first := 0, count := 1, stride := 1, sub := 0x02, subs := 1,
    type := .u64, access := .ro, critical := false, permit := .any, dflts := [0] }

/-- LEARN_LIMIT_HITS, 4101.03 (R176): R172. -/
def learnLimitHits : Obj :=
  { name := "LEARN_LIMIT_HITS", inst := .package, index := 0x4101, first := 0, count := 1, stride := 1, sub := 0x03, subs := 1,
    type := .u64, access := .ro, critical := false, permit := .any, dflts := [0] }

/-- LEARN_TABLE_FULL, 4101.04 (R176): R172. -/
def learnTableFull : Obj :=
  { name := "LEARN_TABLE_FULL", inst := .package, index := 0x4101, first := 0, count := 1, stride := 1, sub := 0x04, subs := 1,
    type := .u64, access := .ro, critical := false, permit := .any, dflts := [0] }

/-- LEARN_QUEUE_DROP, 4101.05 (R176): R172. -/
def learnQueueDrop : Obj :=
  { name := "LEARN_QUEUE_DROP", inst := .package, index := 0x4101, first := 0, count := 1, stride := 1, sub := 0x05, subs := 1,
    type := .u64, access := .ro, critical := false, permit := .any, dflts := [0] }

/-- AGED_OUT, 4101.06 (R176): R174. -/
def agedOut : Obj :=
  { name := "AGED_OUT", inst := .package, index := 0x4101, first := 0, count := 1, stride := 1, sub := 0x06, subs := 1,
    type := .u64, access := .ro, critical := false, permit := .any, dflts := [0] }

/-- PORT_BLOCK_DROPS, 4102.01 (R176): Lane-start port instance (0x1000 + n): frames received on port n and dropped for BLOCK (R158, R160). -/
def portBlockDrops : Obj :=
  { name := "PORT_BLOCK_DROPS", inst := .lanePort, index := 0x4102, first := 0, count := 1, stride := 1, sub := 0x01, subs := 1,
    type := .u64, access := .ro, critical := false, permit := .any, dflts := [0] }

/-- ECMP_HASH_FIELDS, 4200 + r, .01 (R176): Profile r: fields of R169; bits 31:9 write 0. -/
def ecmpHashFields : Obj :=
  { name := "ECMP_HASH_FIELDS", inst := .package, index := 0x4200, first := 0, count := 16, stride := 1, sub := 0x01, subs := 1,
    type := .bits32, access := .rwe, critical := false, permit := (.mask 0x1FF), dflts := [123] }

/-- ECMP_MODE, 6A00.01 (R176): 0 AUTO, 1 MANUAL; reads 2 AUTO_CLAMPING under "The engine as one part: dies, paths and budgets". -/
def ecmpMode : Obj :=
  { name := "ECMP_MODE", inst := .package, index := 0x6A00, first := 0, count := 1, stride := 1, sub := 0x01, subs := 1,
    type := .enum8, access := .rw, critical := false, permit := (.span 0 1), dflts := [0] }

/-- ECMP_INTERVAL, 6A00.02 (R176): µs, 1,000 to 10,000,000. -/
def ecmpInterval : Obj :=
  { name := "ECMP_INTERVAL", inst := .package, index := 0x6A00, first := 0, count := 1, stride := 1, sub := 0x02, subs := 1,
    type := .u32, access := .rw, critical := false, permit := (.span 1000 10000000), dflts := [10000] }

/-- ECMP_SWAP, 6A00.03 (R176): Swap the ECMP family (R155, R169). -/
def ecmpSwap : Obj :=
  { name := "ECMP_SWAP", inst := .package, index := 0x6A00, first := 0, count := 1, stride := 1, sub := 0x03, subs := 1,
    type := .bool, access := .rwe, critical := true, permit := (.oneOf [1]), dflts := [0] }

/-- ECMP_SEED, 6A00.04 (R176): Flow hash seed. -/
def ecmpSeed : Obj :=
  { name := "ECMP_SEED", inst := .package, index := 0x6A00, first := 0, count := 1, stride := 1, sub := 0x04, subs := 1,
    type := .u32, access := .rwe, critical := false, permit := .any, dflts := [0] }

/-- ECMP_BAD_MEMBER, 6A00.05 (R176): R169. -/
def ecmpBadMember : Obj :=
  { name := "ECMP_BAD_MEMBER", inst := .package, index := 0x6A00, first := 0, count := 1, stride := 1, sub := 0x05, subs := 1,
    type := .u64, access := .ro, critical := false, permit := .any, dflts := [0] }

/-- PLACE_SWAP, 4800.01 (R193): 1: swap the placement family (R191); 0 returns RANGE. -/
def placeSwap : Obj :=
  { name := "PLACE_SWAP", inst := .package, index := 0x4800, first := 0, count := 1, stride := 1, sub := 0x01, subs := 1,
    type := .bool, access := .rwe, critical := true, permit := (.oneOf [1]), dflts := [0] }

/-- PLACE_STATE, 4800.02 (R193): 0 WRITABLE, 1 SWAP_PENDING, 2 HELD, 3 DISAGREE, 4 STALE. -/
def placeState : Obj :=
  { name := "PLACE_STATE", inst := .package, index := 0x4800, first := 0, count := 1, stride := 1, sub := 0x02, subs := 1,
    type := .enum8, access := .ro, critical := false, permit := .any, dflts := [0] }

/-- PLACE_COPY_LIVE, 4800.03 (R193): R192; STATE while SWAP_PENDING; BANK_BUSY while HELD. -/
def placeCopyLive : Obj :=
  { name := "PLACE_COPY_LIVE", inst := .package, index := 0x4800, first := 0, count := 1, stride := 1, sub := 0x03, subs := 1,
    type := .bool, access := .wo, critical := false, permit := (.oneOf [1]), dflts := [0] }

/-- PLACE_SYNC, 4800.04 (R193): R192. -/
def placeSync : Obj :=
  { name := "PLACE_SYNC", inst := .package, index := 0x4800, first := 0, count := 1, stride := 1, sub := 0x04, subs := 1,
    type := .bool, access := .rw, critical := false, permit := (.span 0 1), dflts := [1] }

/-- PLACE_NODESET_SHADOW_TILES, 4800.05 (R193): R182. -/
def placeNodesetShadowTiles : Obj :=
  { name := "PLACE_NODESET_SHADOW_TILES", inst := .package, index := 0x4800, first := 0, count := 1, stride := 1, sub := 0x05, subs := 1,
    type := .u16, access := .rw, critical := false, permit := .any, dflts := [1] }

/-- PLACE_NODESET_LIVE_TILES, 4800.06 (R193): Live node-set bank size. -/
def placeNodesetLiveTiles : Obj :=
  { name := "PLACE_NODESET_LIVE_TILES", inst := .package, index := 0x4800, first := 0, count := 1, stride := 1, sub := 0x06, subs := 1,
    type := .u16, access := .ro, critical := false, permit := .any, dflts := [1] }

/-- PLACE_RING_POINTS, 4800.07 (R193): Points in use in the live bank. -/
def placeRingPoints : Obj :=
  { name := "PLACE_RING_POINTS", inst := .package, index := 0x4800, first := 0, count := 1, stride := 1, sub := 0x07, subs := 1,
    type := .u32, access := .ro, critical := false, permit := .any, dflts := [0] }

/-- PLACE_OVER_TC_MASK, 4801.01 (R193): Bit t set: TC t takes OVER_ACTION (R188); side by ingress stamp. -/
def placeOverTcMask : Obj :=
  { name := "PLACE_OVER_TC_MASK", inst := .package, index := 0x4801, first := 0, count := 1, stride := 1, sub := 0x01, subs := 1,
    type := .u8, access := .rwe, critical := false, permit := .any, dflts := [3] }

/-- PLACE_PARITY_PUNT, 4801.02 (R193): R190; side by ingress stamp. -/
def placeParityPunt : Obj :=
  { name := "PLACE_PARITY_PUNT", inst := .package, index := 0x4801, first := 0, count := 1, stride := 1, sub := 0x02, subs := 1,
    type := .bool, access := .rwe, critical := false, permit := (.span 0 1), dflts := [0] }

/-- PLACE_LOOKUPS, 4810.01 (R193): Pipeline: lookups made. -/
def placeLookups : Obj :=
  { name := "PLACE_LOOKUPS", inst := .pipeline, index := 0x4810, first := 0, count := 1, stride := 1, sub := 0x01, subs := 1,
    type := .u64, access := .ro, critical := false, permit := .any, dflts := [0] }

/-- PLACE_MISSES, 4810.02 (R193): Pipeline: R185. -/
def placeMisses : Obj :=
  { name := "PLACE_MISSES", inst := .pipeline, index := 0x4810, first := 0, count := 1, stride := 1, sub := 0x02, subs := 1,
    type := .u64, access := .ro, critical := false, permit := .any, dflts := [0] }

/-- PLACE_OVER_COUNT, 4810.03 (R193): Pipeline: R188. -/
def placeOverCount : Obj :=
  { name := "PLACE_OVER_COUNT", inst := .pipeline, index := 0x4810, first := 0, count := 1, stride := 1, sub := 0x03, subs := 1,
    type := .u64, access := .ro, critical := false, permit := .any, dflts := [0] }

/-- PLACE_STALL_CLOCKS, 4810.04 (R193): Pipeline: R188. -/
def placeStallClocks : Obj :=
  { name := "PLACE_STALL_CLOCKS", inst := .pipeline, index := 0x4810, first := 0, count := 1, stride := 1, sub := 0x04, subs := 1,
    type := .u64, access := .ro, critical := false, permit := .any, dflts := [0] }

/-- PLACE_PARITY_MISS, 4810.05 (R193): Pipeline: R190. -/
def placeParityMiss : Obj :=
  { name := "PLACE_PARITY_MISS", inst := .pipeline, index := 0x4810, first := 0, count := 1, stride := 1, sub := 0x05, subs := 1,
    type := .u64, access := .ro, critical := false, permit := .any, dflts := [0] }

/-- PLACE_COPY_DOWN, 4811.01 (R193): Die: R186. -/
def placeCopyDown : Obj :=
  { name := "PLACE_COPY_DOWN", inst := .die, index := 0x4811, first := 0, count := 1, stride := 1, sub := 0x01, subs := 1,
    type := .u64, access := .ro, critical := false, permit := .any, dflts := [0] }

/-- PLACE_NO_LIVE_NODE, 4811.02 (R193): Die: R186. -/
def placeNoLiveNode : Obj :=
  { name := "PLACE_NO_LIVE_NODE", inst := .die, index := 0x4811, first := 0, count := 1, stride := 1, sub := 0x02, subs := 1,
    type := .u64, access := .ro, critical := false, permit := .any, dflts := [0] }

/-- PLACE_BAD_NODE, 4811.03 (R193): Die: R186. -/
def placeBadNode : Obj :=
  { name := "PLACE_BAD_NODE", inst := .die, index := 0x4811, first := 0, count := 1, stride := 1, sub := 0x03, subs := 1,
    type := .u64, access := .ro, critical := false, permit := .any, dflts := [0] }

/-- AE_DECHUS_VERSION, B010.01 (R230): Version of the Dechus region and Dechus dispatch entries, patches included. -/
def aeDechusVersion : Obj :=
  { name := "AE_DECHUS_VERSION", inst := .package, index := 0xB010, first := 0, count := 1, stride := 1, sub := 0x01, subs := 1,
    type := .u32, access := .ro, critical := false, permit := .any, dflts := [0] }

/-- AE_DECHUS_DIGEST, B010.02 (R230): SHA-256 of the Dechus region and entries 0x00 to 0xBF as loaded, in the form of R225. -/
def aeDechusDigest : Obj :=
  { name := "AE_DECHUS_DIGEST", inst := .package, index := 0xB010, first := 0, count := 1, stride := 1, sub := 0x02, subs := 1,
    type := (.octets 32), access := .ro, critical := false, permit := .any, dflts := [0] }

/-- AE_EXPORTS, B010.03 (R230): 64 exported call targets, 16 bits each, big-endian; 0x0000 marks an unused slot. -/
def aeExports : Obj :=
  { name := "AE_EXPORTS", inst := .package, index := 0xB010, first := 0, count := 1, stride := 1, sub := 0x03, subs := 1,
    type := (.octets 128), access := .ro, critical := false, permit := .any, dflts := [0] }

/-- AE_CODE_BLOCK, 5000 + 20i, .01 (R231): Writes words to the shadow bank (R225, R226). -/
def aeCodeBlock : Obj :=
  { name := "AE_CODE_BLOCK", inst := .package, index := 0x5000, first := 0, count := 2, stride := 32, sub := 0x01, subs := 1,
    type := (.octets 1012), access := .wo, critical := true, permit := .any, dflts := [0] }

/-- AE_DISPATCH_ENTRY, 5000 + 20i, .02 (R231): Writes a shadow customer entry. -/
def aeDispatchEntry : Obj :=
  { name := "AE_DISPATCH_ENTRY", inst := .package, index := 0x5000, first := 0, count := 2, stride := 32, sub := 0x02, subs := 1,
    type := (.octets 8), access := .wo, critical := true, permit := .any, dflts := [0] }

/-- AE_CODE_CLEAR, 5000 + 20i, .03 (R231): Zeroes the shadow bank and its entries; BANK_BUSY while HELD. -/
def aeCodeClear : Obj :=
  { name := "AE_CODE_CLEAR", inst := .package, index := 0x5000, first := 0, count := 2, stride := 32, sub := 0x03, subs := 1,
    type := .bool, access := .wo, critical := true, permit := (.oneOf [1]), dflts := [0] }

/-- AE_CODE_COPY_LIVE, 5000 + 20i, .04 (R231): R228; STATE while SWAP_PENDING; BANK_BUSY while HELD. -/
def aeCodeCopyLive : Obj :=
  { name := "AE_CODE_COPY_LIVE", inst := .package, index := 0x5000, first := 0, count := 2, stride := 32, sub := 0x04, subs := 1,
    type := .bool, access := .wo, critical := false, permit := (.oneOf [1]), dflts := [0] }

/-- AE_CODE_LINKED_VERSION, 5000 + 20i, .05 (R231): Dechus version the shadow image was linked against. -/
def aeCodeLinkedVersion : Obj :=
  { name := "AE_CODE_LINKED_VERSION", inst := .package, index := 0x5000, first := 0, count := 2, stride := 32, sub := 0x05, subs := 1,
    type := .u32, access := .rw, critical := true, permit := .any, dflts := [0] }

/-- AE_CODE_DIGEST, 5000 + 20i, .06 (R231): Shadow digest (R225). -/
def aeCodeDigest : Obj :=
  { name := "AE_CODE_DIGEST", inst := .package, index := 0x5000, first := 0, count := 2, stride := 32, sub := 0x06, subs := 1,
    type := (.octets 32), access := .ro, critical := false, permit := .any, dflts := [0] }

/-- AE_LIVE_DIGEST, 5000 + 20i, .07 (R231): Live digest. -/
def aeLiveDigest : Obj :=
  { name := "AE_LIVE_DIGEST", inst := .package, index := 0x5000, first := 0, count := 2, stride := 32, sub := 0x07, subs := 1,
    type := (.octets 32), access := .ro, critical := false, permit := .any, dflts := [0] }

/-- AE_CODE_SWAP, 5000 + 20i, .08 (R231): R228. -/
def aeCodeSwap : Obj :=
  { name := "AE_CODE_SWAP", inst := .package, index := 0x5000, first := 0, count := 2, stride := 32, sub := 0x08, subs := 1,
    type := (.octets 32), access := .rwe, critical := true, permit := .any, dflts := [0] }

/-- AE_CODE_STATE, 5000 + 20i, .09 (R231): 0 WRITABLE, 1 SWAP_PENDING, 2 HELD, 3 DISAGREE. -/
def aeCodeState : Obj :=
  { name := "AE_CODE_STATE", inst := .package, index := 0x5000, first := 0, count := 2, stride := 32, sub := 0x09, subs := 1,
    type := .enum8, access := .ro, critical := false, permit := .any, dflts := [0] }

/-- AE_CODE_LAST_ERROR, 5000 + 20i, .0A (R231): R226. -/
def aeCodeLastError : Obj :=
  { name := "AE_CODE_LAST_ERROR", inst := .package, index := 0x5000, first := 0, count := 2, stride := 32, sub := 0x0A, subs := 1,
    type := .u32, access := .ro, critical := false, permit := .any, dflts := [0] }

/-- AE_CUST_COUNTER_BASE, 5040.01 (R231): R227; 0 to 0x001F_FFFF. -/
def aeCustCounterBase : Obj :=
  { name := "AE_CUST_COUNTER_BASE", inst := .package, index := 0x5040, first := 0, count := 1, stride := 1, sub := 0x01, subs := 1,
    type := .u32, access := .rw, critical := true, permit := (.span 0 0x1FFFFF), dflts := [2031616] }

/-- AE_CUST_COUNTER_LIMIT, 5040.02 (R231): Below the base: no counters. -/
def aeCustCounterLimit : Obj :=
  { name := "AE_CUST_COUNTER_LIMIT", inst := .package, index := 0x5040, first := 0, count := 1, stride := 1, sub := 0x02, subs := 1,
    type := .u32, access := .rw, critical := true, permit := (.span 0 0x1FFFFF), dflts := [2097151] }

/-- AE_CUST_METER_BASE, 5040.03 (R231): R227. -/
def aeCustMeterBase : Obj :=
  { name := "AE_CUST_METER_BASE", inst := .package, index := 0x5040, first := 0, count := 1, stride := 1, sub := 0x03, subs := 1,
    type := .u16, access := .rw, critical := true, permit := .any, dflts := [61440] }

/-- AE_CUST_METER_LIMIT, 5040.04 (R231): Below the base: no meters. -/
def aeCustMeterLimit : Obj :=
  { name := "AE_CUST_METER_LIMIT", inst := .package, index := 0x5040, first := 0, count := 1, stride := 1, sub := 0x04, subs := 1,
    type := .u16, access := .rw, critical := true, permit := .any, dflts := [65535] }

/-- AE_CTX_PARITY_PUNT, 5041.01 (R231): R219; side by ingress stamp. -/
def aeCtxParityPunt : Obj :=
  { name := "AE_CTX_PARITY_PUNT", inst := .package, index := 0x5041, first := 0, count := 1, stride := 1, sub := 0x01, subs := 1,
    type := .bool, access := .rwe, critical := false, permit := (.span 0 1), dflts := [0] }

/-- AE_PACKETS, 5100.01 (R231): Packets dispatched. -/
def aePackets : Obj :=
  { name := "AE_PACKETS", inst := .pipelineBoth, index := 0x5100, first := 0, count := 1, stride := 1, sub := 0x01, subs := 1,
    type := .u64, access := .ro, critical := false, permit := .any, dflts := [0] }

/-- AE_CYCLES, 5100.02 (R231): Occupancy summed over packets. -/
def aeCycles : Obj :=
  { name := "AE_CYCLES", inst := .pipelineBoth, index := 0x5100, first := 0, count := 1, stride := 1, sub := 0x02, subs := 1,
    type := .u64, access := .ro, critical := false, permit := .any, dflts := [0] }

/-- AE_STALL_CLOCKS, 5100.03 (R231): R195, R196. -/
def aeStallClocks : Obj :=
  { name := "AE_STALL_CLOCKS", inst := .pipelineBoth, index := 0x5100, first := 0, count := 1, stride := 1, sub := 0x03, subs := 1,
    type := .u64, access := .ro, critical := false, permit := .any, dflts := [0] }

/-- AE_RESTARTS, 5100.04 (R231): R221. -/
def aeRestarts : Obj :=
  { name := "AE_RESTARTS", inst := .pipelineBoth, index := 0x5100, first := 0, count := 1, stride := 1, sub := 0x04, subs := 1,
    type := .u64, access := .ro, critical := false, permit := .any, dflts := [0] }

/-- AE_RESTART_LIMIT_PUNTS, 5100.05 (R231): R221. -/
def aeRestartLimitPunts : Obj :=
  { name := "AE_RESTART_LIMIT_PUNTS", inst := .pipelineBoth, index := 0x5100, first := 0, count := 1, stride := 1, sub := 0x05, subs := 1,
    type := .u64, access := .ro, critical := false, permit := .any, dflts := [0] }

/-- AE_WATCHDOG, 5100.06 (R231): R222. -/
def aeWatchdog : Obj :=
  { name := "AE_WATCHDOG", inst := .pipelineBoth, index := 0x5100, first := 0, count := 1, stride := 1, sub := 0x06, subs := 1,
    type := .u64, access := .ro, critical := false, permit := .any, dflts := [0] }

/-- AE_TRAPS, 5100.07 (R231): R223. -/
def aeTraps : Obj :=
  { name := "AE_TRAPS", inst := .pipelineBoth, index := 0x5100, first := 0, count := 1, stride := 1, sub := 0x07, subs := 1,
    type := .u64, access := .ro, critical := false, permit := .any, dflts := [0] }

/-- AE_PROFILE_VIOLATION, 5100.08 (R231): R212. -/
def aeProfileViolation : Obj :=
  { name := "AE_PROFILE_VIOLATION", inst := .pipelineBoth, index := 0x5100, first := 0, count := 1, stride := 1, sub := 0x08, subs := 1,
    type := .u64, access := .ro, critical := false, permit := .any, dflts := [0] }

/-- AE_LIMIT_TRAPS, 5100.09 (R231): R223. -/
def aeLimitTraps : Obj :=
  { name := "AE_LIMIT_TRAPS", inst := .pipelineBoth, index := 0x5100, first := 0, count := 1, stride := 1, sub := 0x09, subs := 1,
    type := .u64, access := .ro, critical := false, permit := .any, dflts := [0] }

/-- AE_NO_ROUTINE, 5100.0A (R231): R213. -/
def aeNoRoutine : Obj :=
  { name := "AE_NO_ROUTINE", inst := .pipelineBoth, index := 0x5100, first := 0, count := 1, stride := 1, sub := 0x0A, subs := 1,
    type := .u64, access := .ro, critical := false, permit := .any, dflts := [0] }

/-- AE_CS_CORRECTED, 5100.0B (R231): R200. -/
def aeCsCorrected : Obj :=
  { name := "AE_CS_CORRECTED", inst := .pipelineBoth, index := 0x5100, first := 0, count := 1, stride := 1, sub := 0x0B, subs := 1,
    type := .u64, access := .ro, critical := false, permit := .any, dflts := [0] }

/-- AE_CTX_PARITY, 5100.0C (R231): R219. -/
def aeCtxParity : Obj :=
  { name := "AE_CTX_PARITY", inst := .pipelineBoth, index := 0x5100, first := 0, count := 1, stride := 1, sub := 0x0C, subs := 1,
    type := .u64, access := .ro, critical := false, permit := .any, dflts := [0] }

/-- AE_LOCK_WAIT_CYCLES, 5100.0D (R231): R218. -/
def aeLockWaitCycles : Obj :=
  { name := "AE_LOCK_WAIT_CYCLES", inst := .pipelineBoth, index := 0x5100, first := 0, count := 1, stride := 1, sub := 0x0D, subs := 1,
    type := .u64, access := .ro, critical := false, permit := .any, dflts := [0] }

/-- AE_THREADS_IN_SERVICE, 5101.01 (R231): R224. -/
def aeThreadsInService : Obj :=
  { name := "AE_THREADS_IN_SERVICE", inst := .pipelineBoth, index := 0x5101, first := 0, count := 1, stride := 1, sub := 0x01, subs := 1,
    type := .u8, access := .ro, critical := false, permit := .any, dflts := [32] }

/-- AE_THREAD_STATE, 5101.02 (R231): Byte t: thread t, 0 COLD, 1 SEASONING, 2 SEASONED, 3 IN_SERVICE, 4 RETIRED (R414). -/
def aeThreadState : Obj :=
  { name := "AE_THREAD_STATE", inst := .pipelineBoth, index := 0x5101, first := 0, count := 1, stride := 1, sub := 0x02, subs := 1,
    type := (.octets 36), access := .ro, critical := false, permit := .any, dflts := [0x30303030303030303030303030303030303030303030303030303030303030300000000] }

/-- REWRITE_SWAP, 5400.01 (R254): 1: swap the rewrite family (R237); 0 returns RANGE. -/
def rewriteSwap : Obj :=
  { name := "REWRITE_SWAP", inst := .package, index := 0x5400, first := 0, count := 1, stride := 1, sub := 0x01, subs := 1,
    type := .bool, access := .rwe, critical := true, permit := (.oneOf [1]), dflts := [0] }

/-- REWRITE_STATE, 5400.02 (R254): 0 WRITABLE, 1 SWAP_PENDING, 2 HELD, 3 DISAGREE, 4 STALE. -/
def rewriteState : Obj :=
  { name := "REWRITE_STATE", inst := .package, index := 0x5400, first := 0, count := 1, stride := 1, sub := 0x02, subs := 1,
    type := .enum8, access := .ro, critical := false, permit := .any, dflts := [0] }

/-- REWRITE_COPY_LIVE, 5400.03 (R254): As TABLE_COPY_LIVE (R156). -/
def rewriteCopyLive : Obj :=
  { name := "REWRITE_COPY_LIVE", inst := .package, index := 0x5400, first := 0, count := 1, stride := 1, sub := 0x03, subs := 1,
    type := .bool, access := .wo, critical := false, permit := (.oneOf [1]), dflts := [0] }

/-- REWRITE_SYNC, 5400.04 (R254): As TABLE_SYNC (R156). -/
def rewriteSync : Obj :=
  { name := "REWRITE_SYNC", inst := .package, index := 0x5400, first := 0, count := 1, stride := 1, sub := 0x04, subs := 1,
    type := .bool, access := .rw, critical := false, permit := (.span 0 1), dflts := [1] }

/-- EGRESS_TAGGING, 5401.01 (R254): 0 UNTAGGED, 1 TAGGED (R240); side by egress entry (R53). -/
def egressTagging : Obj :=
  { name := "EGRESS_TAGGING", inst := .lanePort, index := 0x5401, first := 0, count := 1, stride := 1, sub := 0x01, subs := 1,
    type := .enum8, access := .rwe, critical := false, permit := (.span 0 1), dflts := [0] }

/-- EGRESS_MTU, 5401.02 (R254): Bytes, FCS included, 64 to 10,240 (R242); side by egress entry (R53). -/
def egressMtu : Obj :=
  { name := "EGRESS_MTU", inst := .lanePort, index := 0x5401, first := 0, count := 1, stride := 1, sub := 0x02, subs := 1,
    type := .u16, access := .rwe, critical := false, permit := (.span 64 10240), dflts := [10240] }

/-- REWRITE_SHADOW_TILES, 5410 + k, .01 (R254): Instance 0x0000; k = 0 ENCAP, 1 REPL_GROUP, 2 REPL_MEMBER, 3 MIRROR_SESSION: shadow bank size, a power of two within R237, else RANGE; TABLE_FULL under R153. -/
def rewriteShadowTiles : Obj :=
  { name := "REWRITE_SHADOW_TILES", inst := .package, index := 0x5410, first := 0, count := 4, stride := 1, sub := 0x01, subs := 1,
    type := .u16, access := .rw, critical := false, permit := .any, dflts := [2, 1, 2, 1] }

/-- REWRITE_LIVE_TILES, 5410 + k, .02 (R254): Instance 0x0000: live bank size. -/
def rewriteLiveTiles : Obj :=
  { name := "REWRITE_LIVE_TILES", inst := .package, index := 0x5410, first := 0, count := 4, stride := 1, sub := 0x02, subs := 1,
    type := .u16, access := .ro, critical := false, permit := .any, dflts := [2, 1, 2, 1] }

/-- LOOPBACK_CLAIM, 5420.01 (R254): 0 NONE, 1 RECIRC, 2 MIRROR, 3 PARTITIONED; holder claim (R246). -/
def loopbackClaim : Obj :=
  { name := "LOOPBACK_CLAIM", inst := .package, index := 0x5420, first := 0, count := 1, stride := 1, sub := 0x01, subs := 1,
    type := .enum8, access := .rw, critical := false, permit := (.span 0 3), dflts := [0] }

/-- LOOPBACK_RECIRC_SHARE, 5420.02 (R254): Sixteenths, 1 to 15. -/
def loopbackRecircShare : Obj :=
  { name := "LOOPBACK_RECIRC_SHARE", inst := .package, index := 0x5420, first := 0, count := 1, stride := 1, sub := 0x02, subs := 1,
    type := .u8, access := .rw, critical := false, permit := (.span 1 15), dflts := [8] }

/-- PAD_TRIM_PACKETS, 5480.01 (R254): R242. -/
def padTrimPackets : Obj :=
  { name := "PAD_TRIM_PACKETS", inst := .die, index := 0x5480, first := 0, count := 1, stride := 1, sub := 0x01, subs := 1,
    type := .u64, access := .ro, critical := false, permit := .any, dflts := [0] }

/-- PAD_TRIM_BYTES, 5480.02 (R254): R242. -/
def padTrimBytes : Obj :=
  { name := "PAD_TRIM_BYTES", inst := .die, index := 0x5480, first := 0, count := 1, stride := 1, sub := 0x02, subs := 1,
    type := .u64, access := .ro, critical := false, permit := .any, dflts := [0] }

/-- REWRITE_BAD_RECORD, 5480.03 (R254): R240. -/
def rewriteBadRecord : Obj :=
  { name := "REWRITE_BAD_RECORD", inst := .die, index := 0x5480, first := 0, count := 1, stride := 1, sub := 0x03, subs := 1,
    type := .u64, access := .ro, critical := false, permit := .any, dflts := [0] }

/-- REWRITE_MTU_DROP, 5480.04 (R254): R242. -/
def rewriteMtuDrop : Obj :=
  { name := "REWRITE_MTU_DROP", inst := .die, index := 0x5480, first := 0, count := 1, stride := 1, sub := 0x04, subs := 1,
    type := .u64, access := .ro, critical := false, permit := .any, dflts := [0] }

/-- TTL_EXPIRED_COUNT, 5480.05 (R254): R241. -/
def ttlExpiredCount : Obj :=
  { name := "TTL_EXPIRED_COUNT", inst := .die, index := 0x5480, first := 0, count := 1, stride := 1, sub := 0x05, subs := 1,
    type := .u64, access := .ro, critical := false, permit := .any, dflts := [0] }

/-- TM_BAD_DEST, 5480.06 (R254): R233. -/
def tmBadDest : Obj :=
  { name := "TM_BAD_DEST", inst := .die, index := 0x5480, first := 0, count := 1, stride := 1, sub := 0x06, subs := 1,
    type := .u64, access := .ro, critical := false, permit := .any, dflts := [0] }

/-- EGRESS_DROPS, 5480.07 (R254): R236. -/
def egressDrops : Obj :=
  { name := "EGRESS_DROPS", inst := .die, index := 0x5480, first := 0, count := 1, stride := 1, sub := 0x07, subs := 1,
    type := .u64, access := .ro, critical := false, permit := .any, dflts := [0] }

/-- EGRESS_BAD_DEST, 5480.08 (R254): R236. -/
def egressBadDest : Obj :=
  { name := "EGRESS_BAD_DEST", inst := .die, index := 0x5480, first := 0, count := 1, stride := 1, sub := 0x08, subs := 1,
    type := .u64, access := .ro, critical := false, permit := .any, dflts := [0] }

/-- REPL_PORT_COPIES, 5480.09 (R254): Port copies made (R245). -/
def replPortCopies : Obj :=
  { name := "REPL_PORT_COPIES", inst := .die, index := 0x5480, first := 0, count := 1, stride := 1, sub := 0x09, subs := 1,
    type := .u64, access := .ro, critical := false, permit := .any, dflts := [0] }

/-- REPL_EMPTY_DIE_COPY, 5480.0A (R254): R245. -/
def replEmptyDieCopy : Obj :=
  { name := "REPL_EMPTY_DIE_COPY", inst := .die, index := 0x5480, first := 0, count := 1, stride := 1, sub := 0x0A, subs := 1,
    type := .u64, access := .ro, critical := false, permit := .any, dflts := [0] }

/-- REPL_BAD_MEMBER, 5480.0B (R254): R244. -/
def replBadMember : Obj :=
  { name := "REPL_BAD_MEMBER", inst := .die, index := 0x5480, first := 0, count := 1, stride := 1, sub := 0x0B, subs := 1,
    type := .u64, access := .ro, critical := false, permit := .any, dflts := [0] }

/-- RECIRC_PASSES, 5480.0C (R254): R249. -/
def recircPasses : Obj :=
  { name := "RECIRC_PASSES", inst := .die, index := 0x5480, first := 0, count := 1, stride := 1, sub := 0x0C, subs := 1,
    type := .u64, access := .ro, critical := false, permit := .any, dflts := [0] }

/-- RECIRC_LIMIT_COUNT, 5480.0D (R254): R249. -/
def recircLimitCount : Obj :=
  { name := "RECIRC_LIMIT_COUNT", inst := .die, index := 0x5480, first := 0, count := 1, stride := 1, sub := 0x0D, subs := 1,
    type := .u64, access := .ro, critical := false, permit := .any, dflts := [0] }

/-- RECIRC_DROP_FULL, 5480.0E (R254): R247. -/
def recircDropFull : Obj :=
  { name := "RECIRC_DROP_FULL", inst := .die, index := 0x5480, first := 0, count := 1, stride := 1, sub := 0x0E, subs := 1,
    type := .u64, access := .ro, critical := false, permit := .any, dflts := [0] }

/-- RECIRC_DROP_LATE, 5480.0F (R254): R250. -/
def recircDropLate : Obj :=
  { name := "RECIRC_DROP_LATE", inst := .die, index := 0x5480, first := 0, count := 1, stride := 1, sub := 0x0F, subs := 1,
    type := .u64, access := .ro, critical := false, permit := .any, dflts := [0] }

/-- LOOPBACK_NO_PATH, 5480.10 (R254): R246. -/
def loopbackNoPath : Obj :=
  { name := "LOOPBACK_NO_PATH", inst := .die, index := 0x5480, first := 0, count := 1, stride := 1, sub := 0x10, subs := 1,
    type := .u64, access := .ro, critical := false, permit := .any, dflts := [0] }

/-- LOOPBACK_INJECT_CLOCKS, 5480.11 (R254): R248. -/
def loopbackInjectClocks : Obj :=
  { name := "LOOPBACK_INJECT_CLOCKS", inst := .die, index := 0x5480, first := 0, count := 1, stride := 1, sub := 0x11, subs := 1,
    type := .u64, access := .ro, critical := false, permit := .any, dflts := [0] }

/-- MIRROR_COPIES, 5480.12 (R254): R252. -/
def mirrorCopies : Obj :=
  { name := "MIRROR_COPIES", inst := .die, index := 0x5480, first := 0, count := 1, stride := 1, sub := 0x12, subs := 1,
    type := .u64, access := .ro, critical := false, permit := .any, dflts := [0] }

/-- MIRROR_DROP_FULL, 5480.13 (R254): R247. -/
def mirrorDropFull : Obj :=
  { name := "MIRROR_DROP_FULL", inst := .die, index := 0x5480, first := 0, count := 1, stride := 1, sub := 0x13, subs := 1,
    type := .u64, access := .ro, critical := false, permit := .any, dflts := [0] }

/-- MIRROR_REFUSED, 5480.14 (R254): R252. -/
def mirrorRefused : Obj :=
  { name := "MIRROR_REFUSED", inst := .die, index := 0x5480, first := 0, count := 1, stride := 1, sub := 0x14, subs := 1,
    type := .u64, access := .ro, critical := false, permit := .any, dflts := [0] }

/-- EGRESS_RECIRC_DROP, 5480.15 (R254): R236. -/
def egressRecircDrop : Obj :=
  { name := "EGRESS_RECIRC_DROP", inst := .die, index := 0x5480, first := 0, count := 1, stride := 1, sub := 0x15, subs := 1,
    type := .u64, access := .ro, critical := false, permit := .any, dflts := [0] }

/-- INGRESS_DROP_LATE, 5480.16 (R254): First-pass packets removed at 40 µs (R250). -/
def ingressDropLate : Obj :=
  { name := "INGRESS_DROP_LATE", inst := .die, index := 0x5480, first := 0, count := 1, stride := 1, sub := 0x16, subs := 1,
    type := .u64, access := .ro, critical := false, permit := .any, dflts := [0] }

/-- BPM_CELLS_FREE, 6000.01 (R274): Die: free cells, reserves excluded. -/
def bpmCellsFree : Obj :=
  { name := "BPM_CELLS_FREE", inst := .die, index := 0x6000, first := 0, count := 1, stride := 1, sub := 0x01, subs := 1,
    type := .u32, access := .ro, critical := false, permit := .any, dflts := [524288] }

/-- BPM_CELLS_RESERVED, 6000.02 (R274): Die: cells held under R260. -/
def bpmCellsReserved : Obj :=
  { name := "BPM_CELLS_RESERVED", inst := .die, index := 0x6000, first := 0, count := 1, stride := 1, sub := 0x02, subs := 1,
    type := .u32, access := .ro, critical := false, permit := .any, dflts := [0] }

/-- BPM_DOUBLE_FREE, 6001.01 (R274): Die: R263. -/
def bpmDoubleFree : Obj :=
  { name := "BPM_DOUBLE_FREE", inst := .die, index := 0x6001, first := 0, count := 1, stride := 1, sub := 0x01, subs := 1,
    type := .u64, access := .ro, critical := false, permit := .any, dflts := [0] }

/-- BPM_NOT_OWNER, 6001.02 (R274): Die: R263. -/
def bpmNotOwner : Obj :=
  { name := "BPM_NOT_OWNER", inst := .die, index := 0x6001, first := 0, count := 1, stride := 1, sub := 0x02, subs := 1,
    type := .u64, access := .ro, critical := false, permit := .any, dflts := [0] }

/-- BPM_REFCOUNT_UNDERFLOW, 6001.03 (R274): Die: R264. -/
def bpmRefcountUnderflow : Obj :=
  { name := "BPM_REFCOUNT_UNDERFLOW", inst := .die, index := 0x6001, first := 0, count := 1, stride := 1, sub := 0x03, subs := 1,
    type := .u64, access := .ro, critical := false, permit := .any, dflts := [0] }

/-- BPM_CELL_ECC_LOSS, 6001.04 (R274): Die: R257. -/
def bpmCellEccLoss : Obj :=
  { name := "BPM_CELL_ECC_LOSS", inst := .die, index := 0x6001, first := 0, count := 1, stride := 1, sub := 0x04, subs := 1,
    type := .u64, access := .ro, critical := false, permit := .any, dflts := [0] }

/-- BPM_CELLS_RECOVERED, 6001.05 (R274): Die: R265. -/
def bpmCellsRecovered : Obj :=
  { name := "BPM_CELLS_RECOVERED", inst := .die, index := 0x6001, first := 0, count := 1, stride := 1, sub := 0x05, subs := 1,
    type := .u64, access := .ro, critical := false, permit := .any, dflts := [0] }

/-- BPM_CLASS_POLICY, 6010 + c, .01 (R274): 0 WAIT, 1 DROP; classes 0 to 7 and 11; other classes return RANGE (R261). -/
def bpmClassPolicy : Obj :=
  { name := "BPM_CLASS_POLICY", inst := .package, index := 0x6010, first := 0, count := 16, stride := 1, sub := 0x01, subs := 1,
    type := .enum8, access := .rw, critical := false, permit := (.span 0 1), dflts := [1] }

/-- BPM_CLASS_WAIT_LIMIT, 6010 + c, .02 (R274): ns, 100 to 100,000. -/
def bpmClassWaitLimit : Obj :=
  { name := "BPM_CLASS_WAIT_LIMIT", inst := .package, index := 0x6010, first := 0, count := 16, stride := 1, sub := 0x02, subs := 1,
    type := .u32, access := .rw, critical := false, permit := (.span 100 100000), dflts := [1000] }

/-- BPM_CLASS_MODE, 6010 + c, .03 (R274): 0 NATIVE, 1 REFCOUNT (R264). -/
def bpmClassMode : Obj :=
  { name := "BPM_CLASS_MODE", inst := .package, index := 0x6010, first := 0, count := 16, stride := 1, sub := 0x03, subs := 1,
    type := .enum8, access := .rw, critical := false, permit := (.span 0 1), dflts := [0] }

/-- BPM_CLASS_CELLS, 6010 + c, .04 (R274): Die instance: cells charged to class c. -/
def bpmClassCells : Obj :=
  { name := "BPM_CLASS_CELLS", inst := .die, index := 0x6010, first := 0, count := 16, stride := 1, sub := 0x04, subs := 1,
    type := .u32, access := .ro, critical := false, permit := .any, dflts := [0] }

/-- BPM_CLASS_NO_BUFFER, 6010 + c, .05 (R274): Die instance: NO_BUFFER results (R258). -/
def bpmClassNoBuffer : Obj :=
  { name := "BPM_CLASS_NO_BUFFER", inst := .die, index := 0x6010, first := 0, count := 16, stride := 1, sub := 0x05, subs := 1,
    type := .u64, access := .ro, critical := false, permit := .any, dflts := [0] }

/-- BPM_CLASS_DROPS, 6010 + c, .06 (R274): Die instance: frames dropped (R261). -/
def bpmClassDrops : Obj :=
  { name := "BPM_CLASS_DROPS", inst := .die, index := 0x6010, first := 0, count := 16, stride := 1, sub := 0x06, subs := 1,
    type := .u64, access := .ro, critical := false, permit := .any, dflts := [0] }

/-- POOL_BASE, 6100 + k, .01 (R274): R266. -/
def poolBase : Obj :=
  { name := "POOL_BASE", inst := .package, index := 0x6100, first := 0, count := 64, stride := 1, sub := 0x01, subs := 1,
    type := .u64, access := .rw, critical := false, permit := .any, dflts := [0] }

/-- POOL_BUFFER_SIZE, 6100 + k, .02 (R274): Bytes (R266). -/
def poolBufferSize : Obj :=
  { name := "POOL_BUFFER_SIZE", inst := .package, index := 0x6100, first := 0, count := 64, stride := 1, sub := 0x02, subs := 1,
    type := .u32, access := .rw, critical := false, permit := .any, dflts := [2048] }

/-- POOL_COUNT, 6100 + k, .03 (R274): R266. -/
def poolCount : Obj :=
  { name := "POOL_COUNT", inst := .package, index := 0x6100, first := 0, count := 64, stride := 1, sub := 0x03, subs := 1,
    type := .u32, access := .rw, critical := false, permit := .any, dflts := [0] }

/-- POOL_MODE, 6100 + k, .04 (R274): 0 NATIVE, 1 REFCOUNT. -/
def poolMode : Obj :=
  { name := "POOL_MODE", inst := .package, index := 0x6100, first := 0, count := 64, stride := 1, sub := 0x04, subs := 1,
    type := .enum8, access := .rw, critical := false, permit := (.span 0 1), dflts := [0] }

/-- POOL_ENABLE, 6100 + k, .05 (R274): R267. -/
def poolEnable : Obj :=
  { name := "POOL_ENABLE", inst := .package, index := 0x6100, first := 0, count := 64, stride := 1, sub := 0x05, subs := 1,
    type := .bool, access := .rw, critical := false, permit := (.span 0 1), dflts := [0] }

/-- POOL_STATE, 6100 + k, .06 (R274): 0 DISABLED, 1 ENABLED, 2 DRAINING, 3 PENDING_ENABLE. -/
def poolState : Obj :=
  { name := "POOL_STATE", inst := .package, index := 0x6100, first := 0, count := 64, stride := 1, sub := 0x06, subs := 1,
    type := .enum8, access := .ro, critical := false, permit := .any, dflts := [0] }

/-- POOL_FUNCTION, 6100 + k, .07 (R274): Owning host function; 0xFF none. -/
def poolFunction : Obj :=
  { name := "POOL_FUNCTION", inst := .package, index := 0x6100, first := 0, count := 64, stride := 1, sub := 0x07, subs := 1,
    type := .u8, access := .ro, critical := false, permit := .any, dflts := [255] }

/-- POOL_POLICY, 6100 + k, .08 (R274): 0 WAIT, 1 DROP (R268). -/
def poolPolicy : Obj :=
  { name := "POOL_POLICY", inst := .package, index := 0x6100, first := 0, count := 64, stride := 1, sub := 0x08, subs := 1,
    type := .enum8, access := .rw, critical := false, permit := (.span 0 1), dflts := [0] }

/-- POOL_WAIT_LIMIT, 6100 + k, .09 (R274): µs, 1 to 1,000. -/
def poolWaitLimit : Obj :=
  { name := "POOL_WAIT_LIMIT", inst := .package, index := 0x6100, first := 0, count := 64, stride := 1, sub := 0x09, subs := 1,
    type := .u32, access := .rw, critical := false, permit := (.span 1 1000), dflts := [10] }

/-- POOL_FREE, 6100 + k, .0A (R274): Free buffers. -/
def poolFree : Obj :=
  { name := "POOL_FREE", inst := .package, index := 0x6100, first := 0, count := 64, stride := 1, sub := 0x0A, subs := 1,
    type := .u32, access := .ro, critical := false, permit := .any, dflts := [0] }

/-- POOL_NO_BUFFER, 6100 + k, .0B (R274): R268. -/
def poolNoBuffer : Obj :=
  { name := "POOL_NO_BUFFER", inst := .package, index := 0x6100, first := 0, count := 64, stride := 1, sub := 0x0B, subs := 1,
    type := .u64, access := .ro, critical := false, permit := .any, dflts := [0] }

/-- POOL_DROPS, 6100 + k, .0C (R274): R268. -/
def poolDrops : Obj :=
  { name := "POOL_DROPS", inst := .package, index := 0x6100, first := 0, count := 64, stride := 1, sub := 0x0C, subs := 1,
    type := .u64, access := .ro, critical := false, permit := .any, dflts := [0] }

/-- POOL_DOUBLE_FREE, 6100 + k, .0D (R274): R269. -/
def poolDoubleFree : Obj :=
  { name := "POOL_DOUBLE_FREE", inst := .package, index := 0x6100, first := 0, count := 64, stride := 1, sub := 0x0D, subs := 1,
    type := .u64, access := .ro, critical := false, permit := .any, dflts := [0] }

/-- POOL_NOT_OWNER, 6100 + k, .0E (R274): R269. -/
def poolNotOwner : Obj :=
  { name := "POOL_NOT_OWNER", inst := .package, index := 0x6100, first := 0, count := 64, stride := 1, sub := 0x0E, subs := 1,
    type := .u64, access := .ro, critical := false, permit := .any, dflts := [0] }

/-- POOL_UNDERFLOW, 6100 + k, .0F (R274): R269. -/
def poolUnderflow : Obj :=
  { name := "POOL_UNDERFLOW", inst := .package, index := 0x6100, first := 0, count := 64, stride := 1, sub := 0x0F, subs := 1,
    type := .u64, access := .ro, critical := false, permit := .any, dflts := [0] }

/-- SPILL_REGION_GIB, 6180.01 (R274): GiB, 0 to 20 (R271). -/
def spillRegionGib : Obj :=
  { name := "SPILL_REGION_GIB", inst := .die, index := 0x6180, first := 0, count := 1, stride := 1, sub := 0x01, subs := 1,
    type := .u8, access := .rw, critical := false, permit := (.span 0 20), dflts := [20] }

/-- SPILL_PAGES_FREE, 6180.02 (R274): Free spill pages. -/
def spillPagesFree : Obj :=
  { name := "SPILL_PAGES_FREE", inst := .die, index := 0x6180, first := 0, count := 1, stride := 1, sub := 0x02, subs := 1,
    type := .u32, access := .ro, critical := false, permit := .any, dflts := [1310720] }

/-- SPILL_ECC_LOSS, 6180.03 (R274): R273. -/
def spillEccLoss : Obj :=
  { name := "SPILL_ECC_LOSS", inst := .die, index := 0x6180, first := 0, count := 1, stride := 1, sub := 0x03, subs := 1,
    type := .u64, access := .ro, critical := false, permit := .any, dflts := [0] }

/-- HBM_CHANNELS_ACTIVE, 6181.01 (R274): Logical channels in service. -/
def hbmChannelsActive : Obj :=
  { name := "HBM_CHANNELS_ACTIVE", inst := .die, index := 0x6181, first := 0, count := 1, stride := 1, sub := 0x01, subs := 1,
    type := .u8, access := .ro, critical := false, permit := .any, dflts := [30] }

/-- HBM_CHANNEL_STATE, 6181.02 (R274): Byte p: physical channel p, 0 COLD, 1 SEASONING, 2 SEASONED, 3 IN_SERVICE, 4 RETIRED (R414). -/
def hbmChannelState : Obj :=
  { name := "HBM_CHANNEL_STATE", inst := .die, index := 0x6181, first := 0, count := 1, stride := 1, sub := 0x02, subs := 1,
    type := (.octets 32), access := .ro, critical := false, permit := .any, dflts := [0x303030303030303030303030303030303030303030303030303030303030000] }

/-- TC_LOSSLESS, 6400 + t, .01 (R303): Never dropped at enqueue (R287). -/
def tcLossless : Obj :=
  { name := "TC_LOSSLESS", inst := .package, index := 0x6400, first := 0, count := 8, stride := 1, sub := 0x01, subs := 1,
    type := .bool, access := .rwe, critical := false, permit := (.span 0 1), dflts := [0] }

/-- THRESH_ALPHA, 6400 + t, .02 (R303): α_t = 2^(k − 8), k from 0 to 12; STATE in AUTO (R288). -/
def threshAlpha : Obj :=
  { name := "THRESH_ALPHA", inst := .package, index := 0x6400, first := 0, count := 8, stride := 1, sub := 0x02, subs := 1,
    type := .u8, access := .rwe, critical := false, permit := (.span 0 12), dflts := [5] }

/-- THRESH_ALPHA_MIN, 6400 + t, .03 (R303): Floor for AUTO. -/
def threshAlphaMin : Obj :=
  { name := "THRESH_ALPHA_MIN", inst := .package, index := 0x6400, first := 0, count := 8, stride := 1, sub := 0x03, subs := 1,
    type := .u8, access := .rw, critical := false, permit := (.span 0 12), dflts := [1] }

/-- THRESH_ALPHA_MAX, 6400 + t, .04 (R303): Ceiling for AUTO; below MIN returns RANGE. -/
def threshAlphaMax : Obj :=
  { name := "THRESH_ALPHA_MAX", inst := .package, index := 0x6400, first := 0, count := 8, stride := 1, sub := 0x04, subs := 1,
    type := .u8, access := .rw, critical := false, permit := (.span 0 12), dflts := [9] }

/-- SPILL_ENABLE, 6400 + t, .05 (R303): Class may spill (R290). -/
def spillEnable : Obj :=
  { name := "SPILL_ENABLE", inst := .package, index := 0x6400, first := 0, count := 8, stride := 1, sub := 0x05, subs := 1,
    type := .bool, access := .rwe, critical := false, permit := (.span 0 1), dflts := [1] }

/-- SPILL_WEIGHT, 6400 + t, .06 (R303): 1 to 255 (R291, R292). -/
def spillWeight : Obj :=
  { name := "SPILL_WEIGHT", inst := .package, index := 0x6400, first := 0, count := 8, stride := 1, sub := 0x06, subs := 1,
    type := .u8, access := .rwe, critical := false, permit := (.span 1 255), dflts := [1] }

/-- SPILL_START, 6400 + t, .07 (R303): Cells on die before spilling, 40 to 262,144. -/
def spillStart : Obj :=
  { name := "SPILL_START", inst := .package, index := 0x6400, first := 0, count := 8, stride := 1, sub := 0x07, subs := 1,
    type := .u32, access := .rwe, critical := false, permit := (.span 40 262144), dflts := [8192] }

/-- ECN_KMIN, 6400 + t, .08 (R303): Cells (R289). -/
def ecnKmin : Obj :=
  { name := "ECN_KMIN", inst := .package, index := 0x6400, first := 0, count := 8, stride := 1, sub := 0x08, subs := 1,
    type := .u32, access := .rwe, critical := false, permit := .any, dflts := [16384] }

/-- ECN_KMAX, 6400 + t, .09 (R303): Cells; not above KMIN returns RANGE. -/
def ecnKmax : Obj :=
  { name := "ECN_KMAX", inst := .package, index := 0x6400, first := 0, count := 8, stride := 1, sub := 0x09, subs := 1,
    type := .u32, access := .rwe, critical := false, permit := .any, dflts := [65536] }

/-- ECN_PMAX, 6400 + t, .0A (R303): Probability at KMAX less one, in 1/256. -/
def ecnPmax : Obj :=
  { name := "ECN_PMAX", inst := .package, index := 0x6400, first := 0, count := 8, stride := 1, sub := 0x0A, subs := 1,
    type := .u8, access := .rwe, critical := false, permit := .any, dflts := [26] }

/-- ECN_DROP_NONECT, 6400 + t, .0B (R303): R289. -/
def ecnDropNonect : Obj :=
  { name := "ECN_DROP_NONECT", inst := .package, index := 0x6400, first := 0, count := 8, stride := 1, sub := 0x0B, subs := 1,
    type := .bool, access := .rwe, critical := false, permit := (.span 0 1), dflts := [0] }

/-- PG_ALPHA, 6410 + g, .01 (R303): α_PG = 2^(k − 8), k from 0 to 12 (R283). -/
def pgAlpha : Obj :=
  { name := "PG_ALPHA", inst := .package, index := 0x6410, first := 0, count := 8, stride := 1, sub := 0x01, subs := 1,
    type := .u8, access := .rwe, critical := false, permit := (.span 0 12), dflts := [6] }

/-- THRESH_MODE, 6420.01 (R303): 0 AUTO, 1 MANUAL; reads 2 AUTO_CLAMPING. -/
def threshMode : Obj :=
  { name := "THRESH_MODE", inst := .package, index := 0x6420, first := 0, count := 1, stride := 1, sub := 0x01, subs := 1,
    type := .enum8, access := .rw, critical := false, permit := (.span 0 1), dflts := [0] }

/-- THRESH_INTERVAL, 6420.02 (R303): µs, 100 to 1,000,000. -/
def threshInterval : Obj :=
  { name := "THRESH_INTERVAL", inst := .package, index := 0x6420, first := 0, count := 1, stride := 1, sub := 0x02, subs := 1,
    type := .u32, access := .rw, critical := false, permit := (.span 100 1000000), dflts := [1000] }

/-- SPILL_STAGE, 6421.01 (R303): Lossy staged cells per die (R290). -/
def spillStage : Obj :=
  { name := "SPILL_STAGE", inst := .package, index := 0x6421, first := 0, count := 1, stride := 1, sub := 0x01, subs := 1,
    type := .u32, access := .rw, critical := false, permit := .any, dflts := [16384] }

/-- SPILL_RETURN, 6421.02 (R303): Cells (R292). -/
def spillReturn : Obj :=
  { name := "SPILL_RETURN", inst := .package, index := 0x6421, first := 0, count := 1, stride := 1, sub := 0x02, subs := 1,
    type := .u32, access := .rw, critical := false, permit := .any, dflts := [4096] }

/-- SPILL_VOQ_MAX, 6421.03 (R303): Spilled and staged cells per VOQ. -/
def spillVoqMax : Obj :=
  { name := "SPILL_VOQ_MAX", inst := .package, index := 0x6421, first := 0, count := 1, stride := 1, sub := 0x03, subs := 1,
    type := .u32, access := .rw, critical := false, permit := .any, dflts := [4194304] }

/-- STANDING_GRANT, 6421.04 (R303): Cells per port per die, 40 to 320; written only while every port is DISABLED, else STATE. -/
def standingGrant : Obj :=
  { name := "STANDING_GRANT", inst := .package, index := 0x6421, first := 0, count := 1, stride := 1, sub := 0x04, subs := 1,
    type := .u16, access := .rw, critical := false, permit := (.span 40 320), dflts := [40] }

/-- REPL_CELL_LIMIT, 6421.05 (R303): Cells per die (R281). -/
def replCellLimit : Obj :=
  { name := "REPL_CELL_LIMIT", inst := .package, index := 0x6421, first := 0, count := 1, stride := 1, sub := 0x05, subs := 1,
    type := .u32, access := .rw, critical := false, permit := .any, dflts := [32768] }

/-- PUNT_DROP_QUEUE_FULL, 6422.01 (R303): Die instance (R300). -/
def puntDropQueueFull : Obj :=
  { name := "PUNT_DROP_QUEUE_FULL", inst := .die, index := 0x6422, first := 0, count := 1, stride := 1, sub := 0x01, subs := 1,
    type := .u64, access := .ro, critical := false, permit := .any, dflts := [0] }

/-- PUNT_DELIVERED, 6422.02 (R303): Die instance. -/
def puntDelivered : Obj :=
  { name := "PUNT_DELIVERED", inst := .die, index := 0x6422, first := 0, count := 1, stride := 1, sub := 0x02, subs := 1,
    type := .u64, access := .ro, critical := false, permit := .any, dflts := [0] }

/-- SPILL_STAGE_DROPS, 6422.03 (R303): Die instance (R290). -/
def spillStageDrops : Obj :=
  { name := "SPILL_STAGE_DROPS", inst := .die, index := 0x6422, first := 0, count := 1, stride := 1, sub := 0x03, subs := 1,
    type := .u64, access := .ro, critical := false, permit := .any, dflts := [0] }

/-- REPL_TX_DROPS, 6422.04 (R303): Die instance (R281). -/
def replTxDrops : Obj :=
  { name := "REPL_TX_DROPS", inst := .die, index := 0x6422, first := 0, count := 1, stride := 1, sub := 0x04, subs := 1,
    type := .u64, access := .ro, critical := false, permit := .any, dflts := [0] }

/-- PUNT_RATE, 6440 + r, .01 (R303): kpps, 0 to 50,000. -/
def puntRate : Obj :=
  { name := "PUNT_RATE", inst := .package, index := 0x6440, first := 1, count := 64, stride := 1, sub := 0x01, subs := 1,
    type := .u32, access := .rw, critical := false, permit := (.span 0 50000), dflts := [0, 4000, 1000, 1000, 1000, 100, 1000, 1000, 2000, 100, 2000, 100, 20000, 5000, 0, 0, 1000] }

/-- PUNT_BURST, 6440 + r, .02 (R303): Packets, 1 to 4,096. -/
def puntBurst : Obj :=
  { name := "PUNT_BURST", inst := .package, index := 0x6440, first := 1, count := 64, stride := 1, sub := 0x02, subs := 1,
    type := .u16, access := .rw, critical := false, permit := (.span 1 4096), dflts := [0, 1024, 256, 256, 256, 64, 256, 256, 512, 64, 512, 64, 4096, 1024, 0, 0, 256] }

/-- PUNT_PRIORITY, 6440 + r, .03 (R303): 0 to 3. -/
def puntPriority : Obj :=
  { name := "PUNT_PRIORITY", inst := .package, index := 0x6440, first := 1, count := 64, stride := 1, sub := 0x03, subs := 1,
    type := .u8, access := .rw, critical := false, permit := (.span 0 3), dflts := [0, 2, 3, 3, 3, 1, 2, 2, 2, 1, 1, 1, 3, 3, 0, 0, 2] }

/-- PUNT_DROP_RATE, 6440 + r, .04 (R303): Die instance (R300). -/
def puntDropRate : Obj :=
  { name := "PUNT_DROP_RATE", inst := .die, index := 0x6440, first := 1, count := 64, stride := 1, sub := 0x04, subs := 1,
    type := .u64, access := .ro, critical := false, permit := .any, dflts := [0] }

/-- PG_PFC, 6480 + g, .01 (R304): Lossless PG; sends PFC (R284). -/
def pgPfc : Obj :=
  { name := "PG_PFC", inst := .lanePort, index := 0x6480, first := 0, count := 8, stride := 1, sub := 0x01, subs := 1,
    type := .bool, access := .rw, critical := false, permit := (.span 0 1), dflts := [0] }

/-- PG_MIN, 6480 + g, .02 (R304): Guaranteed cells. -/
def pgMin : Obj :=
  { name := "PG_MIN", inst := .lanePort, index := 0x6480, first := 0, count := 8, stride := 1, sub := 0x02, subs := 1,
    type := .u32, access := .rw, critical := false, permit := .any, dflts := [80] }

/-- PG_HEADROOM, 6480 + g, .03 (R304): Cells beyond the XOFF level. -/
def pgHeadroom : Obj :=
  { name := "PG_HEADROOM", inst := .lanePort, index := 0x6480, first := 0, count := 8, stride := 1, sub := 0x03, subs := 1,
    type := .u32, access := .rw, critical := false, permit := .any, dflts := [0] }

/-- PG_CELLS, 6480 + g, .04 (R304): Cells charged now. -/
def pgCells : Obj :=
  { name := "PG_CELLS", inst := .lanePort, index := 0x6480, first := 0, count := 8, stride := 1, sub := 0x04, subs := 1,
    type := .u32, access := .ro, critical := false, permit := .any, dflts := [0] }

/-- PG_DROPS, 6480 + g, .05 (R304): R283. -/
def pgDrops : Obj :=
  { name := "PG_DROPS", inst := .lanePort, index := 0x6480, first := 0, count := 8, stride := 1, sub := 0x05, subs := 1,
    type := .u64, access := .ro, critical := false, permit := .any, dflts := [0] }

/-- PFC_XOFF_SENT, 6480 + g, .06 (R304): R284. -/
def pfcXoffSent : Obj :=
  { name := "PFC_XOFF_SENT", inst := .lanePort, index := 0x6480, first := 0, count := 8, stride := 1, sub := 0x06, subs := 1,
    type := .u64, access := .ro, critical := false, permit := .any, dflts := [0] }

/-- PFC_HEADROOM_DROPS, 6480 + g, .07 (R304): R284. -/
def pfcHeadroomDrops : Obj :=
  { name := "PFC_HEADROOM_DROPS", inst := .lanePort, index := 0x6480, first := 0, count := 8, stride := 1, sub := 0x07, subs := 1,
    type := .u64, access := .ro, critical := false, permit := .any, dflts := [0] }

/-- PORT_PG_MAP, 6490.01 (R304): Byte p: PG of PCP p (R282). -/
def portPgMap : Obj :=
  { name := "PORT_PG_MAP", inst := .lanePort, index := 0x6490, first := 0, count := 1, stride := 1, sub := 0x01, subs := 1,
    type := (.octets 8), access := .rw, critical := false, permit := .any, dflts := [0x0001020304050607] }

/-- PORT_DEFAULT_PG, 6490.02 (R304): PG of untagged frames. -/
def portDefaultPg : Obj :=
  { name := "PORT_DEFAULT_PG", inst := .lanePort, index := 0x6490, first := 0, count := 1, stride := 1, sub := 0x02, subs := 1,
    type := .u8, access := .rw, critical := false, permit := (.span 0 7), dflts := [0] }

/-- PFC_RX_ENABLE, 6490.03 (R304): Bit t: honour pause for priority t; bits 31:8 write 0. -/
def pfcRxEnable : Obj :=
  { name := "PFC_RX_ENABLE", inst := .lanePort, index := 0x6490, first := 0, count := 1, stride := 1, sub := 0x03, subs := 1,
    type := .bits32, access := .rw, critical := false, permit := (.mask 0xFF), dflts := [0] }

/-- PFC_WATCHDOG, 6490.04 (R304): µs; 0 off (R286). -/
def pfcWatchdog : Obj :=
  { name := "PFC_WATCHDOG", inst := .lanePort, index := 0x6490, first := 0, count := 1, stride := 1, sub := 0x04, subs := 1,
    type := .u32, access := .rw, critical := false, permit := .any, dflts := [100000] }

/-- PFC_XON_DELTA, 6490.05 (R304): Cells. -/
def pfcXonDelta : Obj :=
  { name := "PFC_XON_DELTA", inst := .lanePort, index := 0x6490, first := 0, count := 1, stride := 1, sub := 0x05, subs := 1,
    type := .u16, access := .rw, critical := false, permit := .any, dflts := [64] }

/-- TX_WINDOW, 6490.06 (R304): Cells, 40 to 4,096. -/
def txWindow : Obj :=
  { name := "TX_WINDOW", inst := .lanePort, index := 0x6490, first := 0, count := 1, stride := 1, sub := 0x06, subs := 1,
    type := .u16, access := .rw, critical := false, permit := (.span 40 4096), dflts := [0] }

/-- PAUSE_FRAMES_DISCARDED, 6490.07 (R304): R285. -/
def pauseFramesDiscarded : Obj :=
  { name := "PAUSE_FRAMES_DISCARDED", inst := .lanePort, index := 0x6490, first := 0, count := 1, stride := 1, sub := 0x07, subs := 1,
    type := .u64, access := .ro, critical := false, permit := .any, dflts := [0] }

/-- SCHED_MODE, 64A0 + t, .01 (R304): 0 STRICT, 1 WEIGHTED. -/
def schedMode : Obj :=
  { name := "SCHED_MODE", inst := .lanePort, index := 0x64A0, first := 0, count := 8, stride := 1, sub := 0x01, subs := 1,
    type := .enum8, access := .rwe, critical := false, permit := (.span 0 1), dflts := [1] }

/-- SCHED_WEIGHT, 64A0 + t, .02 (R304): 1 to 255. -/
def schedWeight : Obj :=
  { name := "SCHED_WEIGHT", inst := .lanePort, index := 0x64A0, first := 0, count := 8, stride := 1, sub := 0x02, subs := 1,
    type := .u8, access := .rwe, critical := false, permit := (.span 1 255), dflts := [1] }

/-- SHAPE_RATE, 64A0 + t, .03 (R304): Mbit/s; 0 off. -/
def shapeRate : Obj :=
  { name := "SHAPE_RATE", inst := .lanePort, index := 0x64A0, first := 0, count := 8, stride := 1, sub := 0x03, subs := 1,
    type := .u32, access := .rwe, critical := false, permit := .any, dflts := [0] }

/-- SHAPE_BURST, 64A0 + t, .04 (R304): Bytes, 10,240 to 16,777,215. -/
def shapeBurst : Obj :=
  { name := "SHAPE_BURST", inst := .lanePort, index := 0x64A0, first := 0, count := 8, stride := 1, sub := 0x04, subs := 1,
    type := .u32, access := .rwe, critical := false, permit := (.span 10240 16777215), dflts := [16384] }

/-- VOQ_CELLS, 64A0 + t, .05 (R304): Q summed over dies. -/
def voqCells : Obj :=
  { name := "VOQ_CELLS", inst := .lanePort, index := 0x64A0, first := 0, count := 8, stride := 1, sub := 0x05, subs := 1,
    type := .u32, access := .ro, critical := false, permit := .any, dflts := [0] }

/-- SPILL_CELLS, 64A0 + t, .06 (R304): Spilled and staged cells summed over dies. -/
def spillCells : Obj :=
  { name := "SPILL_CELLS", inst := .lanePort, index := 0x64A0, first := 0, count := 8, stride := 1, sub := 0x06, subs := 1,
    type := .u32, access := .ro, critical := false, permit := .any, dflts := [0] }

/-- VOQ_ADMIT_DROPS, 64A0 + t, .07 (R304): R290. -/
def voqAdmitDrops : Obj :=
  { name := "VOQ_ADMIT_DROPS", inst := .lanePort, index := 0x64A0, first := 0, count := 8, stride := 1, sub := 0x07, subs := 1,
    type := .u64, access := .ro, critical := false, permit := .any, dflts := [0] }

/-- ECN_MARKED, 64A0 + t, .08 (R304): R289. -/
def ecnMarked : Obj :=
  { name := "ECN_MARKED", inst := .lanePort, index := 0x64A0, first := 0, count := 8, stride := 1, sub := 0x08, subs := 1,
    type := .u64, access := .ro, critical := false, permit := .any, dflts := [0] }

/-- ECN_NONECT_DROPS, 64A0 + t, .09 (R304): R289. -/
def ecnNonectDrops : Obj :=
  { name := "ECN_NONECT_DROPS", inst := .lanePort, index := 0x64A0, first := 0, count := 8, stride := 1, sub := 0x09, subs := 1,
    type := .u64, access := .ro, critical := false, permit := .any, dflts := [0] }

/-- PFC_RX_PAUSED, 64A0 + t, .0A (R304): R285. -/
def pfcRxPaused : Obj :=
  { name := "PFC_RX_PAUSED", inst := .lanePort, index := 0x64A0, first := 0, count := 8, stride := 1, sub := 0x0A, subs := 1,
    type := .bool, access := .ro, critical := false, permit := (.span 0 1), dflts := [0] }

/-- PFC_STORM_DROPS, 64A0 + t, .0B (R304): R286. -/
def pfcStormDrops : Obj :=
  { name := "PFC_STORM_DROPS", inst := .lanePort, index := 0x64A0, first := 0, count := 8, stride := 1, sub := 0x0B, subs := 1,
    type := .u64, access := .ro, critical := false, permit := .any, dflts := [0] }

/-- PORT_SHAPE_RATE, 64B0.01 (R304): Mbit/s; 0 off. -/
def portShapeRate : Obj :=
  { name := "PORT_SHAPE_RATE", inst := .lanePort, index := 0x64B0, first := 0, count := 1, stride := 1, sub := 0x01, subs := 1,
    type := .u32, access := .rwe, critical := false, permit := .any, dflts := [0] }

/-- PORT_SHAPE_BURST, 64B0.02 (R304): Bytes. -/
def portShapeBurst : Obj :=
  { name := "PORT_SHAPE_BURST", inst := .lanePort, index := 0x64B0, first := 0, count := 1, stride := 1, sub := 0x02, subs := 1,
    type := .u32, access := .rwe, critical := false, permit := (.span 10240 16777215), dflts := [16384] }

/-- SHAPE_OVERHEAD, 64B0.03 (R304): Bytes added per frame (R294). -/
def shapeOverhead : Obj :=
  { name := "SHAPE_OVERHEAD", inst := .lanePort, index := 0x64B0, first := 0, count := 1, stride := 1, sub := 0x03, subs := 1,
    type := .u8, access := .rwe, critical := false, permit := .any, dflts := [20] }

/-- GCL_SWAP, 6800.01 (R304): R297; 0 returns RANGE. -/
def gclSwap : Obj :=
  { name := "GCL_SWAP", inst := .lanePort, index := 0x6800, first := 0, count := 1, stride := 1, sub := 0x01, subs := 1,
    type := .bool, access := .rwe, critical := true, permit := (.oneOf [1]), dflts := [0] }

/-- GCL_BASE_TIME, 6800.02 (R304): Shadow base time. -/
def gclBaseTime : Obj :=
  { name := "GCL_BASE_TIME", inst := .lanePort, index := 0x6800, first := 0, count := 1, stride := 1, sub := 0x02, subs := 1,
    type := .time96, access := .rw, critical := false, permit := .any, dflts := [0] }

/-- GCL_CYCLE_TIME, 6800.03 (R304): Shadow cycle in ns, 1,000 to 1,000,000,000. -/
def gclCycleTime : Obj :=
  { name := "GCL_CYCLE_TIME", inst := .lanePort, index := 0x6800, first := 0, count := 1, stride := 1, sub := 0x03, subs := 1,
    type := .u32, access := .rw, critical := false, permit := (.span 1000 1000000000), dflts := [1000000] }

/-- GCL_LENGTH, 6800.04 (R304): Shadow entries, 0 to 256. -/
def gclLength : Obj :=
  { name := "GCL_LENGTH", inst := .lanePort, index := 0x6800, first := 0, count := 1, stride := 1, sub := 0x04, subs := 1,
    type := .u16, access := .rw, critical := false, permit := (.span 0 256), dflts := [0] }

/-- GCL_STATE, 6800.05 (R304): 0 WRITABLE, 1 SWAP_PENDING, 2 HELD, 3 DISAGREE. -/
def gclState : Obj :=
  { name := "GCL_STATE", inst := .lanePort, index := 0x6800, first := 0, count := 1, stride := 1, sub := 0x05, subs := 1,
    type := .enum8, access := .ro, critical := false, permit := .any, dflts := [0] }

/-- GCL_OPER_BASE, 6800.06 (R304): Operational base time. -/
def gclOperBase : Obj :=
  { name := "GCL_OPER_BASE", inst := .lanePort, index := 0x6800, first := 0, count := 1, stride := 1, sub := 0x06, subs := 1,
    type := .time96, access := .ro, critical := false, permit := .any, dflts := [0] }

/-- GCL_OVERRUN_HOLDS, 6800.07 (R304): R296. -/
def gclOverrunHolds : Obj :=
  { name := "GCL_OVERRUN_HOLDS", inst := .lanePort, index := 0x6800, first := 0, count := 1, stride := 1, sub := 0x07, subs := 1,
    type := .u64, access := .ro, critical := false, permit := .any, dflts := [0] }

/-- FABRIC_TRANSIT_SHARE, 2800.01 (R325): Sixteenths, 1 to 16 (R315). -/
def fabricTransitShare : Obj :=
  { name := "FABRIC_TRANSIT_SHARE", inst := .package, index := 0x2800, first := 0, count := 1, stride := 1, sub := 0x01, subs := 1,
    type := .u8, access := .rw, critical := false, permit := (.span 1 16), dflts := [4] }

/-- FABRIC_RESEQ_TIMEOUT, 2800.02 (R325): ns, 200 to 100,000 (R318). -/
def fabricReseqTimeout : Obj :=
  { name := "FABRIC_RESEQ_TIMEOUT", inst := .package, index := 0x2800, first := 0, count := 1, stride := 1, sub := 0x02, subs := 1,
    type := .u32, access := .rw, critical := false, permit := (.span 200 100000), dflts := [2000] }

/-- FABRIC_CTRL_SLOTS, 2800.03 (R325): Slots per superframe, 1 to 10 (R315). -/
def fabricCtrlSlots : Obj :=
  { name := "FABRIC_CTRL_SLOTS", inst := .package, index := 0x2800, first := 0, count := 1, stride := 1, sub := 0x03, subs := 1,
    type := .u8, access := .rw, critical := false, permit := (.span 1 10), dflts := [3] }

/-- FABRIC_TIME_OFFSET, 2801.01 (R325): Offset from the master in 2^-16 ns (R322). -/
def fabricTimeOffset : Obj :=
  { name := "FABRIC_TIME_OFFSET", inst := .die, index := 0x2801, first := 0, count := 1, stride := 1, sub := 0x01, subs := 1,
    type := .i32, access := .ro, critical := false, permit := .any, dflts := [0] }

/-- FABRIC_TIME_RELAYED, 2801.02 (R325): R323. -/
def fabricTimeRelayed : Obj :=
  { name := "FABRIC_TIME_RELAYED", inst := .die, index := 0x2801, first := 0, count := 1, stride := 1, sub := 0x02, subs := 1,
    type := .bool, access := .ro, critical := false, permit := (.span 0 1), dflts := [0] }

/-- FABRIC_RESEQ_LOSS, 2801.03 (R325): R318. -/
def fabricReseqLoss : Obj :=
  { name := "FABRIC_RESEQ_LOSS", inst := .die, index := 0x2801, first := 0, count := 1, stride := 1, sub := 0x03, subs := 1,
    type := .u64, access := .ro, critical := false, permit := .any, dflts := [0] }

/-- FABRIC_CELL_CRC, 2801.04 (R325): R318. -/
def fabricCellCrc : Obj :=
  { name := "FABRIC_CELL_CRC", inst := .die, index := 0x2801, first := 0, count := 1, stride := 1, sub := 0x04, subs := 1,
    type := .u64, access := .ro, critical := false, permit := .any, dflts := [0] }

/-- FABRIC_INDIRECT_CELLS, 2801.05 (R325): Cells sent through an intermediate die. -/
def fabricIndirectCells : Obj :=
  { name := "FABRIC_INDIRECT_CELLS", inst := .die, index := 0x2801, first := 0, count := 1, stride := 1, sub := 0x05, subs := 1,
    type := .u64, access := .ro, critical := false, permit := .any, dflts := [0] }

/-- FABRIC_TRANSIT_CELLS, 2801.06 (R325): Cells relayed for other dies. -/
def fabricTransitCells : Obj :=
  { name := "FABRIC_TRANSIT_CELLS", inst := .die, index := 0x2801, first := 0, count := 1, stride := 1, sub := 0x06, subs := 1,
    type := .u64, access := .ro, critical := false, permit := .any, dflts := [0] }

/-- FABRIC_GROUP_STATE, 2810 + g, .01 (R325): 0 UNROUTED, 1 TRAINING, 2 UP, 3 DOWN. -/
def fabricGroupState : Obj :=
  { name := "FABRIC_GROUP_STATE", inst := .die, index := 0x2810, first := 0, count := 7, stride := 1, sub := 0x01, subs := 1,
    type := .enum8, access := .ro, critical := false, permit := .any, dflts := [0] }

/-- FABRIC_GROUP_PEER, 2810 + g, .02 (R325): Peer die; 0xFF unrouted. -/
def fabricGroupPeer : Obj :=
  { name := "FABRIC_GROUP_PEER", inst := .die, index := 0x2810, first := 0, count := 7, stride := 1, sub := 0x02, subs := 1,
    type := .u8, access := .ro, critical := false, permit := .any, dflts := [0] }

/-- FABRIC_LANE_MAP, 2810 + g, .03 (R325): Physical lane of logical lane l. -/
def fabricLaneMap : Obj :=
  { name := "FABRIC_LANE_MAP", inst := .die, index := 0x2810, first := 0, count := 7, stride := 1, sub := 0x03, subs := 1,
    type := (.octets 40), access := .ro, critical := false, permit := .any, dflts := [0x102030405060708090a0b0c0d0e0f101112131415161718191a1b1c1d1e1f2021222324252627] }

/-- FABRIC_SPARE_STATE, 2810 + g, .04 (R325): Spare 40 + i: 0 COLD, 1 SEASONING, 2 SEASONED, 3 IN_SERVICE, 4 RETIRED (R414). -/
def fabricSpareState : Obj :=
  { name := "FABRIC_SPARE_STATE", inst := .die, index := 0x2810, first := 0, count := 7, stride := 1, sub := 0x04, subs := 1,
    type := (.octets 4), access := .ro, critical := false, permit := .any, dflts := [0] }

/-- FABRIC_CORRECTED_SYMBOLS, 2810 + g, .05 (R325): R324. -/
def fabricCorrectedSymbols : Obj :=
  { name := "FABRIC_CORRECTED_SYMBOLS", inst := .die, index := 0x2810, first := 0, count := 7, stride := 1, sub := 0x05, subs := 1,
    type := .u64, access := .ro, critical := false, permit := .any, dflts := [0] }

/-- FABRIC_RETRIES, 2810 + g, .06 (R325): R319. -/
def fabricRetries : Obj :=
  { name := "FABRIC_RETRIES", inst := .die, index := 0x2810, first := 0, count := 7, stride := 1, sub := 0x06, subs := 1,
    type := .u64, access := .ro, critical := false, permit := .any, dflts := [0] }

/-- FABRIC_LANE_SWITCHOVERS, 2810 + g, .07 (R325): R321. -/
def fabricLaneSwitchovers : Obj :=
  { name := "FABRIC_LANE_SWITCHOVERS", inst := .die, index := 0x2810, first := 0, count := 7, stride := 1, sub := 0x07, subs := 1,
    type := .u32, access := .ro, critical := false, permit := .any, dflts := [0] }

/-- VENDOR_NAME, 1000.01 (R352): STRING[16]. -/
def vendorName : Obj :=
  { name := "VENDOR_NAME", inst := .package, index := 0x1000, first := 0, count := 1, stride := 1, sub := 0x01, subs := 1,
    type := (.string 16), access := .ro, critical := false, permit := .any, dflts := [0x4465636875732053696c69636f6e0000] }

/-- PART_NUMBER, 1000.02 (R352): STRING[16]. -/
def partNumber : Obj :=
  { name := "PART_NUMBER", inst := .package, index := 0x1000, first := 0, count := 1, stride := 1, sub := 0x02, subs := 1,
    type := (.string 16), access := .ro, critical := false, permit := .any, dflts := [0] }

/-- SERIAL_NUMBER, 1000.03 (R352): STRING[16]. -/
def serialNumber : Obj :=
  { name := "SERIAL_NUMBER", inst := .package, index := 0x1000, first := 0, count := 1, stride := 1, sub := 0x03, subs := 1,
    type := (.string 16), access := .ro, critical := false, permit := .any, dflts := [0] }

/-- DIES_POPULATED, 1000.04 (R352): Bit d: die d present. -/
def diesPopulated : Obj :=
  { name := "DIES_POPULATED", inst := .package, index := 0x1000, first := 0, count := 1, stride := 1, sub := 0x04, subs := 1,
    type := .bits32, access := .ro, critical := false, permit := .any, dflts := [0] }

/-- SILICON_STEPPING, 1000.05 (R352): Die stepping. -/
def siliconStepping : Obj :=
  { name := "SILICON_STEPPING", inst := .package, index := 0x1000, first := 0, count := 1, stride := 1, sub := 0x05, subs := 1,
    type := .u16, access := .ro, critical := false, permit := .any, dflts := [0] }

/-- DICTIONARY_VERSION, 1000.06 (R352): Major in bits 31:16, minor in bits 15:0. -/
def dictionaryVersion : Obj :=
  { name := "DICTIONARY_VERSION", inst := .package, index := 0x1000, first := 0, count := 1, stride := 1, sub := 0x06, subs := 1,
    type := .u32, access := .ro, critical := false, permit := .any, dflts := [65536] }

/-- LEAD_DIE, 1001.01 (R352): Die whose Keeper cluster leads. -/
def leadDie : Obj :=
  { name := "LEAD_DIE", inst := .package, index := 0x1001, first := 0, count := 1, stride := 1, sub := 0x01, subs := 1,
    type := .u8, access := .ro, critical := false, permit := .any, dflts := [0] }

/-- NAME_OF_HOLDER, 1010.01 (R352): Holder record of this session's last RESOURCE_BUSY (R346). -/
def nameOfHolder : Obj :=
  { name := "NAME_OF_HOLDER", inst := .package, index := 0x1010, first := 0, count := 1, stride := 1, sub := 0x01, subs := 1,
    type := (.octets 16), access := .ro, critical := false, permit := .any, dflts := [0] }

/-- SESSION_ID, 1011.01 (R352): The reading session. -/
def sessionId : Obj :=
  { name := "SESSION_ID", inst := .package, index := 0x1011, first := 0, count := 1, stride := 1, sub := 0x01, subs := 1,
    type := .u32, access := .ro, critical := false, permit := .any, dflts := [0] }

/-- SESSION_PRINCIPAL, 1011.02 (R352): Kind (1), reserved (1), ID (2). -/
def sessionPrincipal : Obj :=
  { name := "SESSION_PRINCIPAL", inst := .package, index := 0x1011, first := 0, count := 1, stride := 1, sub := 0x02, subs := 1,
    type := (.octets 4), access := .ro, critical := false, permit := .any, dflts := [0] }

/-- SESSION_RESET, 1011.03 (R352): R336. -/
def sessionReset : Obj :=
  { name := "SESSION_RESET", inst := .package, index := 0x1011, first := 0, count := 1, stride := 1, sub := 0x03, subs := 1,
    type := .bool, access := .wo, critical := false, permit := (.oneOf [1]), dflts := [0] }

/-- KDP_SESSIONS_OPEN, 1011.04 (R352): 0 to 32. -/
def kdpSessionsOpen : Obj :=
  { name := "KDP_SESSIONS_OPEN", inst := .package, index := 0x1011, first := 0, count := 1, stride := 1, sub := 0x04, subs := 1,
    type := .u8, access := .ro, critical := false, permit := .any, dflts := [0] }

/-- KDP_UDP_PORT, 1020.01 (R352): NV; 1,024 to 65,535. -/
def kdpUdpPort : Obj :=
  { name := "KDP_UDP_PORT", inst := .package, index := 0x1020, first := 0, count := 1, stride := 1, sub := 0x01, subs := 1,
    type := .u16, access := .rw, critical := true, permit := (.span 1024 65535), dflts := [48752] }

/-- KDP_INBAND_ENABLE, 1020.02 (R352): NV (R348). -/
def kdpInbandEnable : Obj :=
  { name := "KDP_INBAND_ENABLE", inst := .package, index := 0x1020, first := 0, count := 1, stride := 1, sub := 0x02, subs := 1,
    type := .bool, access := .rw, critical := true, permit := (.span 0 1), dflts := [0] }

/-- KDP_INBAND_REASON, 1020.03 (R352): 0x10 to 0x3F. -/
def kdpInbandReason : Obj :=
  { name := "KDP_INBAND_REASON", inst := .package, index := 0x1020, first := 0, count := 1, stride := 1, sub := 0x03, subs := 1,
    type := .u8, access := .rw, critical := true, permit := (.span 0x10 0x3F), dflts := [63] }

/-- KDP_SESSION_IDLE, 1020.04 (R352): s, 10 to 86,400. -/
def kdpSessionIdle : Obj :=
  { name := "KDP_SESSION_IDLE", inst := .package, index := 0x1020, first := 0, count := 1, stride := 1, sub := 0x04, subs := 1,
    type := .u32, access := .rw, critical := false, permit := (.span 10 86400), dflts := [300] }

/-- MGMT_MODE, 1021.01 (R352): Host-die instance (0x0100 + d); NV; 0 10GBASE-R, 1 1000BASE-X. -/
def mgmtMode : Obj :=
  { name := "MGMT_MODE", inst := .hostDie, index := 0x1021, first := 0, count := 1, stride := 1, sub := 0x01, subs := 1,
    type := .enum8, access := .rw, critical := true, permit := (.span 0 1), dflts := [0] }

/-- MGMT_IPV4, 1021.02 (R352): Host-die instance; NV; address, mask, gateway; 0: no KDP on the port. -/
def mgmtIpv4 : Obj :=
  { name := "MGMT_IPV4", inst := .hostDie, index := 0x1021, first := 0, count := 1, stride := 1, sub := 0x02, subs := 1,
    type := (.octets 12), access := .rw, critical := true, permit := .any, dflts := [0] }

/-- KDP_DISCARDS, 1030.01 (R352): R337 check 1. -/
def kdpDiscards : Obj :=
  { name := "KDP_DISCARDS", inst := .package, index := 0x1030, first := 0, count := 1, stride := 1, sub := 0x01, subs := 1,
    type := .u64, access := .ro, critical := false, permit := .any, dflts := [0] }

/-- AUTH_FAILS, 1030.02 (R352): Check 4; the first in each second raises AUTH_FAILURE. -/
def authFails : Obj :=
  { name := "AUTH_FAILS", inst := .package, index := 0x1030, first := 0, count := 1, stride := 1, sub := 0x02, subs := 1,
    type := .u64, access := .ro, critical := false, permit := .any, dflts := [0] }

/-- STALE_COUNTERS, 1030.03 (R352): R339. -/
def staleCounters : Obj :=
  { name := "STALE_COUNTERS", inst := .package, index := 0x1030, first := 0, count := 1, stride := 1, sub := 0x03, subs := 1,
    type := .u64, access := .ro, critical := false, permit := .any, dflts := [0] }

/-- CRIT_WRITES, 1030.04 (R352): Critical requests accepted. -/
def critWrites : Obj :=
  { name := "CRIT_WRITES", inst := .package, index := 0x1030, first := 0, count := 1, stride := 1, sub := 0x04, subs := 1,
    type := .u64, access := .ro, critical := false, permit := .any, dflts := [0] }

/-- CRIT_RETRIES, 1030.05 (R352): Check 6. -/
def critRetries : Obj :=
  { name := "CRIT_RETRIES", inst := .package, index := 0x1030, first := 0, count := 1, stride := 1, sub := 0x05, subs := 1,
    type := .u64, access := .ro, critical := false, permit := .any, dflts := [0] }

/-- REPEATS_ANSWERED, 1030.06 (R352): R339. -/
def repeatsAnswered : Obj :=
  { name := "REPEATS_ANSWERED", inst := .package, index := 0x1030, first := 0, count := 1, stride := 1, sub := 0x06, subs := 1,
    type := .u64, access := .ro, critical := false, permit := .any, dflts := [0] }

/-- SECURITY_STATE, 1100.01 (R352): NV; 0 PROVISION, 1 SEALED. -/
def securityState : Obj :=
  { name := "SECURITY_STATE", inst := .package, index := 0x1100, first := 0, count := 1, stride := 1, sub := 0x01, subs := 1,
    type := .enum8, access := .ro, critical := false, permit := .any, dflts := [0] }

/-- SEAL, 1100.02 (R352): R344; a critical write needs slot 1. -/
def sealObj : Obj :=
  { name := "SEAL", inst := .package, index := 0x1100, first := 0, count := 1, stride := 1, sub := 0x02, subs := 1,
    type := .bool, access := .wo, critical := true, permit := (.oneOf [1]), dflts := [0] }

/-- KEY_PROVISION, 1100.03 (R352): Slot 1 key in clear; PROVISION, SMBus or JTAG only (R344). -/
def keyProvision : Obj :=
  { name := "KEY_PROVISION", inst := .package, index := 0x1100, first := 0, count := 1, stride := 1, sub := 0x03, subs := 1,
    type := (.octets 32), access := .wo, critical := false, permit := .any, dflts := [0] }

/-- KEY_SET, 1100.04 (R352): R343. -/
def keySet : Obj :=
  { name := "KEY_SET", inst := .package, index := 0x1100, first := 0, count := 1, stride := 1, sub := 0x04, subs := 1,
    type := (.octets 48), access := .wo, critical := true, permit := .any, dflts := [0] }

/-- KEY_CLEAR, 1100.05 (R352): Slot 2 to 7 becomes EMPTY; other values RANGE. -/
def keyClear : Obj :=
  { name := "KEY_CLEAR", inst := .package, index := 0x1100, first := 0, count := 1, stride := 1, sub := 0x05, subs := 1,
    type := .u8, access := .wo, critical := true, permit := (.span 2 7), dflts := [0] }

/-- KEY_SLOT_STATE, 1100.06 (R352): NV; byte s: 0 EMPTY, 1 SET, 2 DISABLED. -/
def keySlotState : Obj :=
  { name := "KEY_SLOT_STATE", inst := .package, index := 0x1100, first := 0, count := 1, stride := 1, sub := 0x06, subs := 1,
    type := (.octets 8), access := .ro, critical := false, permit := .any, dflts := [0x0100000000000000] }

/-- KEY_SLOT0_ENABLE, 1100.07 (R352): NV (R342). -/
def keySlot0Enable : Obj :=
  { name := "KEY_SLOT0_ENABLE", inst := .package, index := 0x1100, first := 0, count := 1, stride := 1, sub := 0x07, subs := 1,
    type := .bool, access := .rw, critical := true, permit := (.span 0 1), dflts := [1] }

/-- KEY_RIGHTS, 1110 + s, .01 (R352): NV; RO for slots 0 and 1; bits 1:0 and 31:28 write 0. -/
def keyRights : Obj :=
  { name := "KEY_RIGHTS", inst := .package, index := 0x1110, first := 0, count := 8, stride := 1, sub := 0x01, subs := 1,
    type := .bits32, access := .rw, critical := true, permit := (.mask 0x0FFFFFFC), dflts := [0x00404000, 0x0FFFFFFC, 0] }

/-- COUNTER_LAST, 1110 + s, .02 (R352): NV (R339). -/
def counterLast : Obj :=
  { name := "COUNTER_LAST", inst := .package, index := 0x1110, first := 0, count := 8, stride := 1, sub := 0x02, subs := 1,
    type := .u64, access := .ro, critical := false, permit := .any, dflts := [0] }

/-- KEY_FINGERPRINT, 1110 + s, .03 (R352): First 8 bytes of SHA-256 of the slot's key; 0 if EMPTY. -/
def keyFingerprint : Obj :=
  { name := "KEY_FINGERPRINT", inst := .package, index := 0x1110, first := 0, count := 8, stride := 1, sub := 0x03, subs := 1,
    type := (.octets 8), access := .ro, critical := false, permit := .any, dflts := [0] }

/-- WQ_KIND, A010.01 (R380): 0 ADMIN, 1 TABLE, 2 INJECT, 3 BUFFER (R355). -/
def wqKind : Obj :=
  { name := "WQ_KIND", inst := .wq, index := 0xA010, first := 0, count := 1, stride := 1, sub := 0x01, subs := 1,
    type := .enum8, access := .rw, critical := false, permit := (.span 0 3), dflts := [0] }

/-- WQ_BASE, A010.02 (R380): Multiple of 4,096. -/
def wqBase : Obj :=
  { name := "WQ_BASE", inst := .wq, index := 0xA010, first := 0, count := 1, stride := 1, sub := 0x02, subs := 1,
    type := .u64, access := .rw, critical := false, permit := (.multipleOf 4096), dflts := [0] }

/-- WQ_SIZE, A010.03 (R380): Power of two, 64 to 32,768. -/
def wqSize : Obj :=
  { name := "WQ_SIZE", inst := .wq, index := 0xA010, first := 0, count := 1, stride := 1, sub := 0x03, subs := 1,
    type := .u32, access := .rw, critical := false, permit := (.pow2 64 32768), dflts := [64] }

/-- WQ_CQ, A010.04 (R380): Bound CQ, 0 to 1,023. -/
def wqCq : Obj :=
  { name := "WQ_CQ", inst := .wq, index := 0xA010, first := 0, count := 1, stride := 1, sub := 0x04, subs := 1,
    type := .u16, access := .rw, critical := false, permit := (.span 0 1023), dflts := [0] }

/-- WQ_ENABLE, A010.05 (R380): R377. -/
def wqEnable : Obj :=
  { name := "WQ_ENABLE", inst := .wq, index := 0xA010, first := 0, count := 1, stride := 1, sub := 0x05, subs := 1,
    type := .bool, access := .rw, critical := false, permit := (.span 0 1), dflts := [0] }

/-- WQ_STATE, A010.06 (R380): 0 DISABLED, 1 ENABLED, 2 DRAINING, 3 PENDING_ENABLE. -/
def wqState : Obj :=
  { name := "WQ_STATE", inst := .wq, index := 0xA010, first := 0, count := 1, stride := 1, sub := 0x06, subs := 1,
    type := .enum8, access := .ro, critical := false, permit := .any, dflts := [0] }

/-- WQ_PI, A010.07 (R380): Last accepted PI. -/
def wqPi : Obj :=
  { name := "WQ_PI", inst := .wq, index := 0xA010, first := 0, count := 1, stride := 1, sub := 0x07, subs := 1,
    type := .u16, access := .ro, critical := false, permit := .any, dflts := [0] }

/-- WQ_CI, A010.08 (R380): R357. -/
def wqCi : Obj :=
  { name := "WQ_CI", inst := .wq, index := 0xA010, first := 0, count := 1, stride := 1, sub := 0x08, subs := 1,
    type := .u16, access := .ro, critical := false, permit := .any, dflts := [0] }

/-- WQ_DOORBELL_ERRORS, A010.09 (R380): R358. -/
def wqDoorbellErrors : Obj :=
  { name := "WQ_DOORBELL_ERRORS", inst := .wq, index := 0xA010, first := 0, count := 1, stride := 1, sub := 0x09, subs := 1,
    type := .u64, access := .ro, critical := false, permit := .any, dflts := [0] }

/-- WQ_PUSH_ERRORS, A010.0A (R380): R360. -/
def wqPushErrors : Obj :=
  { name := "WQ_PUSH_ERRORS", inst := .wq, index := 0xA010, first := 0, count := 1, stride := 1, sub := 0x0A, subs := 1,
    type := .u64, access := .ro, critical := false, permit := .any, dflts := [0] }

/-- CQ_KIND, A020.01 (R380): 0 WORK, 1 PUNT, 2 SAMPLE. -/
def cqKind : Obj :=
  { name := "CQ_KIND", inst := .cq, index := 0xA020, first := 0, count := 1, stride := 1, sub := 0x01, subs := 1,
    type := .enum8, access := .rw, critical := false, permit := (.span 0 2), dflts := [0] }

/-- CQ_BASE, A020.02 (R380): Multiple of 4,096. -/
def cqBase : Obj :=
  { name := "CQ_BASE", inst := .cq, index := 0xA020, first := 0, count := 1, stride := 1, sub := 0x02, subs := 1,
    type := .u64, access := .rw, critical := false, permit := (.multipleOf 4096), dflts := [0] }

/-- CQ_SIZE, A020.03 (R380): Power of two, 64 to 32,768. -/
def cqSize : Obj :=
  { name := "CQ_SIZE", inst := .cq, index := 0xA020, first := 0, count := 1, stride := 1, sub := 0x03, subs := 1,
    type := .u32, access := .rw, critical := false, permit := (.pow2 64 32768), dflts := [64] }

/-- CQ_POOL, A020.04 (R380): PUNT: pool 0 to 63 (R374). -/
def cqPool : Obj :=
  { name := "CQ_POOL", inst := .cq, index := 0xA020, first := 0, count := 1, stride := 1, sub := 0x04, subs := 1,
    type := .u8, access := .rw, critical := false, permit := (.span 0 63), dflts := [0] }

/-- CQ_ENABLE, A020.05 (R380): R378. -/
def cqEnable : Obj :=
  { name := "CQ_ENABLE", inst := .cq, index := 0xA020, first := 0, count := 1, stride := 1, sub := 0x05, subs := 1,
    type := .bool, access := .rw, critical := false, permit := (.span 0 1), dflts := [0] }

/-- CQ_STATE, A020.06 (R380): 0 DISABLED, 1 ENABLED. -/
def cqState : Obj :=
  { name := "CQ_STATE", inst := .cq, index := 0xA020, first := 0, count := 1, stride := 1, sub := 0x06, subs := 1,
    type := .enum8, access := .ro, critical := false, permit := .any, dflts := [0] }

/-- CQ_PI, A020.07 (R380): R357. -/
def cqPi : Obj :=
  { name := "CQ_PI", inst := .cq, index := 0xA020, first := 0, count := 1, stride := 1, sub := 0x07, subs := 1,
    type := .u16, access := .ro, critical := false, permit := .any, dflts := [0] }

/-- CQ_CI, A020.08 (R380): Last accepted CI. -/
def cqCi : Obj :=
  { name := "CQ_CI", inst := .cq, index := 0xA020, first := 0, count := 1, stride := 1, sub := 0x08, subs := 1,
    type := .u16, access := .ro, critical := false, permit := .any, dflts := [0] }

/-- CQ_HELD, A020.09 (R380): Completions in the hold, 0 to 32. -/
def cqHeld : Obj :=
  { name := "CQ_HELD", inst := .cq, index := 0xA020, first := 0, count := 1, stride := 1, sub := 0x09, subs := 1,
    type := .u8, access := .ro, critical := false, permit := .any, dflts := [0] }

/-- CQ_FULL_EPISODES, A020.0A (R380): R372. -/
def cqFullEpisodes : Obj :=
  { name := "CQ_FULL_EPISODES", inst := .cq, index := 0xA020, first := 0, count := 1, stride := 1, sub := 0x0A, subs := 1,
    type := .u64, access := .ro, critical := false, permit := .any, dflts := [0] }

/-- CQ_DOORBELL_ERRORS, A020.0B (R380): R358. -/
def cqDoorbellErrors : Obj :=
  { name := "CQ_DOORBELL_ERRORS", inst := .cq, index := 0xA020, first := 0, count := 1, stride := 1, sub := 0x0B, subs := 1,
    type := .u64, access := .ro, critical := false, permit := .any, dflts := [0] }

/-- REPORT_DROPS, A020.0C (R380): R373. -/
def reportDrops : Obj :=
  { name := "REPORT_DROPS", inst := .cq, index := 0xA020, first := 0, count := 1, stride := 1, sub := 0x0C, subs := 1,
    type := .u64, access := .ro, critical := false, permit := .any, dflts := [0] }

/-- PUNT_DROP_RING_FULL, A020.0D (R380): R375. -/
def puntDropRingFull : Obj :=
  { name := "PUNT_DROP_RING_FULL", inst := .cq, index := 0xA020, first := 0, count := 1, stride := 1, sub := 0x0D, subs := 1,
    type := .u64, access := .ro, critical := false, permit := .any, dflts := [0] }

/-- PUNT_DELIVERED, A020.0E (R380): Packets delivered on this ring. -/
def cqPuntDelivered : Obj :=
  { name := "PUNT_DELIVERED", inst := .cq, index := 0xA020, first := 0, count := 1, stride := 1, sub := 0x0E, subs := 1,
    type := .u64, access := .ro, critical := false, permit := .any, dflts := [0] }

/-- PUNT_RING, A100 + r, .01 (R380): CQ for reason r (R356, R374). -/
def puntRing : Obj :=
  { name := "PUNT_RING", inst := .package, index := 0xA100, first := 1, count := 64, stride := 1, sub := 0x01, subs := 1,
    type := .u16, access := .rw, critical := false, permit := .any, dflts := [65535] }

/-- PUNT_DROP_NO_RING, A0F0.01 (R380): R374. -/
def puntDropNoRing : Obj :=
  { name := "PUNT_DROP_NO_RING", inst := .package, index := 0xA0F0, first := 0, count := 1, stride := 1, sub := 0x01, subs := 1,
    type := .u64, access := .ro, critical := false, permit := .any, dflts := [0] }

/-- EVC_SOURCE, A200 + (s >> 4), .01 to .10 (R398): Source record (R383). -/
def evcSource : Obj :=
  { name := "EVC_SOURCE", inst := .package, index := 0xA200, first := 0, count := 256, stride := 1, sub := 0x01, subs := 16,
    type := (.octets 8), access := .rw, critical := false, permit := .any, dflts := [0] }

/-- TIMER_CLAIM, A300 + t, .01 (R398): Holder claim (R398). -/
def timerClaim : Obj :=
  { name := "TIMER_CLAIM", inst := .die, index := 0xA300, first := 0, count := 16, stride := 1, sub := 0x01, subs := 1,
    type := .bool, access := .rw, critical := false, permit := (.span 0 1), dflts := [0] }

/-- TIMER_START, A300 + t, .02 (R398): First expiry. -/
def timerStart : Obj :=
  { name := "TIMER_START", inst := .die, index := 0xA300, first := 0, count := 16, stride := 1, sub := 0x02, subs := 1,
    type := .time96, access := .rw, critical := false, permit := .any, dflts := [0] }

/-- TIMER_PERIOD, A300 + t, .03 (R398): ns; 0 one-shot, else 1,000 to 4,000,000,000. -/
def timerPeriod : Obj :=
  { name := "TIMER_PERIOD", inst := .die, index := 0xA300, first := 0, count := 16, stride := 1, sub := 0x03, subs := 1,
    type := .u32, access := .rw, critical := false, permit := (.spanOr 1000 4000000000 0), dflts := [0] }

/-- TIMER_ARM, A300 + t, .04 (R398): 1: armed; reads 0 after a one-shot fires. -/
def timerArm : Obj :=
  { name := "TIMER_ARM", inst := .die, index := 0xA300, first := 0, count := 16, stride := 1, sub := 0x04, subs := 1,
    type := .bool, access := .rw, critical := false, permit := (.span 0 1), dflts := [0] }

/-- EVC_PGS, A380.01 (R398): 0 to 7 (R385). -/
def evcPgs : Obj :=
  { name := "EVC_PGS", inst := .package, index := 0xA380, first := 0, count := 1, stride := 1, sub := 0x01, subs := 1,
    type := .u8, access := .rw, critical := false, permit := (.span 0 7), dflts := [4] }

/-- EVC_WAKE_COUNT, A380.02 (R398): 0 to 16 (R396). -/
def evcWakeCount : Obj :=
  { name := "EVC_WAKE_COUNT", inst := .package, index := 0xA380, first := 0, count := 1, stride := 1, sub := 0x02, subs := 1,
    type := .u8, access := .ro, critical := false, permit := .any, dflts := [0] }

/-- EVC_CLAIM, A390.01 (R398): Polled claim over masked vectors (R391). -/
def evcClaim : Obj :=
  { name := "EVC_CLAIM", inst := .package, index := 0xA390, first := 0, count := 1, stride := 1, sub := 0x01, subs := 1,
    type := .u16, access := .ro, critical := false, permit := .any, dflts := [0] }

/-- EVC_EOI, A390.02 (R398): Ends an ACTIVE event of the function; another code returns RANGE. -/
def evcEoi : Obj :=
  { name := "EVC_EOI", inst := .package, index := 0xA390, first := 0, count := 1, stride := 1, sub := 0x02, subs := 1,
    type := .u16, access := .wo, critical := false, permit := .any, dflts := [0] }

/-- EVC_LOST_TOTAL, A391.01 (R398): R387. -/
def evcLostTotal : Obj :=
  { name := "EVC_LOST_TOTAL", inst := .die, index := 0xA391, first := 0, count := 1, stride := 1, sub := 0x01, subs := 1,
    type := .u64, access := .ro, critical := false, permit := .any, dflts := [0] }

/-- EVC_BAD_EOI, A391.02 (R398): R390, R391. -/
def evcBadEoi : Obj :=
  { name := "EVC_BAD_EOI", inst := .die, index := 0xA391, first := 0, count := 1, stride := 1, sub := 0x02, subs := 1,
    type := .u64, access := .ro, critical := false, permit := .any, dflts := [0] }

/-- FAULT_LOG_NEWEST, 7000.01 (R435): SEQ of the newest record; 0 if none. -/
def faultLogNewest : Obj :=
  { name := "FAULT_LOG_NEWEST", inst := .package, index := 0x7000, first := 0, count := 1, stride := 1, sub := 0x01, subs := 1,
    type := .u32, access := .ro, critical := false, permit := .any, dflts := [0] }

/-- FAULT_LOG_OVERWRITTEN, 7000.02 (R435): R400. -/
def faultLogOverwritten : Obj :=
  { name := "FAULT_LOG_OVERWRITTEN", inst := .package, index := 0x7000, first := 0, count := 1, stride := 1, sub := 0x02, subs := 1,
    type := .u64, access := .ro, critical := false, permit := .any, dflts := [0] }

/-- FAULT_SELECT, 7000.03 (R435): Per session (R400). -/
def faultSelect : Obj :=
  { name := "FAULT_SELECT", inst := .package, index := 0x7000, first := 0, count := 1, stride := 1, sub := 0x03, subs := 1,
    type := .u32, access := .rw, critical := false, permit := .any, dflts := [0] }

/-- FAULT_RECORD, 7000.04 (R435): R399, R400. -/
def faultRecord : Obj :=
  { name := "FAULT_RECORD", inst := .package, index := 0x7000, first := 0, count := 1, stride := 1, sub := 0x04, subs := 1,
    type := (.octets 32), access := .ro, critical := false, permit := .any, dflts := [0] }

/-- FAULT_MERGE_WINDOW, 7000.05 (R435): µs, 100 to 100,000 (R401). -/
def faultMergeWindow : Obj :=
  { name := "FAULT_MERGE_WINDOW", inst := .package, index := 0x7000, first := 0, count := 1, stride := 1, sub := 0x05, subs := 1,
    type := .u32, access := .rw, critical := false, permit := (.span 100 100000), dflts := [1000] }

/-- FAULT_OVERFLOW, 7001.01 (R435): Die (R402). -/
def faultOverflow : Obj :=
  { name := "FAULT_OVERFLOW", inst := .die, index := 0x7001, first := 0, count := 1, stride := 1, sub := 0x01, subs := 1,
    type := .u64, access := .ro, critical := false, permit := .any, dflts := [0] }

/-- FAULT_REACTION, 7010 + (s >> 4), .(s AND F) + 1 (R435): R404. -/
def faultReaction : Obj :=
  { name := "FAULT_REACTION", inst := .package, index := 0x7010, first := 0, count := 4, stride := 1, sub := 0x01, subs := 16,
    type := .bits32, access := .rw, critical := true, permit := (.mask 0x1F1F1F1F), dflts := [285278464] }

/-- LAMP_PERIOD, 7040.01 (R435): ms, 100 to 10,000 (R406). -/
def lampPeriod : Obj :=
  { name := "LAMP_PERIOD", inst := .package, index := 0x7040, first := 0, count := 1, stride := 1, sub := 0x01, subs := 1,
    type := .u32, access := .rw, critical := false, permit := (.span 100 10000), dflts := [1000] }

/-- LAMP_STATE, 7040.02 (R435): 0 KINDLING, 1 HEALTHY, 2 LOW_SPARES, 3 STOPPED. -/
def lampState : Obj :=
  { name := "LAMP_STATE", inst := .package, index := 0x7040, first := 0, count := 1, stride := 1, sub := 0x02, subs := 1,
    type := .enum8, access := .ro, critical := false, permit := .any, dflts := [0] }

/-- FAULT_N_RELEASE, 7040.03 (R435): R409. -/
def faultNRelease : Obj :=
  { name := "FAULT_N_RELEASE", inst := .package, index := 0x7040, first := 0, count := 1, stride := 1, sub := 0x03, subs := 1,
    type := .bool, access := .wo, critical := true, permit := (.oneOf [1]), dflts := [0] }

/-- FAULT_N_ASSERTED, 7040.04 (R435): R409. -/
def faultNAsserted : Obj :=
  { name := "FAULT_N_ASSERTED", inst := .package, index := 0x7040, first := 0, count := 1, stride := 1, sub := 0x04, subs := 1,
    type := .bool, access := .ro, critical := false, permit := (.span 0 1), dflts := [0] }

/-- ORPHANED, 7050.01 (R435): R433. -/
def orphaned : Obj :=
  { name := "ORPHANED", inst := .package, index := 0x7050, first := 0, count := 1, stride := 1, sub := 0x01, subs := 1,
    type := .bits32, access := .ro, critical := false, permit := .any, dflts := [0] }

/-- RECOVERY_CANCEL, 7050.02 (R435): R434. -/
def recoveryCancel : Obj :=
  { name := "RECOVERY_CANCEL", inst := .package, index := 0x7050, first := 0, count := 1, stride := 1, sub := 0x02, subs := 1,
    type := .bool, access := .wo, critical := true, permit := (.oneOf [1]), dflts := [0] }

/-- RECOVERY_CLEAR_SHADOWS, 7050.03 (R435): R434. -/
def recoveryClearShadows : Obj :=
  { name := "RECOVERY_CLEAR_SHADOWS", inst := .package, index := 0x7050, first := 0, count := 1, stride := 1, sub := 0x03, subs := 1,
    type := .bool, access := .wo, critical := true, permit := (.oneOf [1]), dflts := [0] }

/-- PIPELINE_REPLAYS, 7100.01 (R435): Pipeline: replays run here (R411). -/
def pipelineReplays : Obj :=
  { name := "PIPELINE_REPLAYS", inst := .pipelineBoth, index := 0x7100, first := 0, count := 1, stride := 1, sub := 0x01, subs := 1,
    type := .u64, access := .ro, critical := false, permit := .any, dflts := [0] }

/-- REPLAY_DROPS, 7100.02 (R435): Pipeline (R413). -/
def replayDrops : Obj :=
  { name := "REPLAY_DROPS", inst := .pipelineBoth, index := 0x7100, first := 0, count := 1, stride := 1, sub := 0x02, subs := 1,
    type := .u64, access := .ro, critical := false, permit := .any, dflts := [0] }

/-- SPARES_SUMMARY, 7400.01 (R435): Die: byte c, usable spares of the weakest group of class c (R417). -/
def sparesSummary : Obj :=
  { name := "SPARES_SUMMARY", inst := .die, index := 0x7400, first := 0, count := 1, stride := 1, sub := 0x01, subs := 1,
    type := (.octets 12), access := .ro, critical := false, permit := .any, dflts := [0] }

/-- SPARES_LOW, 7400.02 (R435): Bit c: a group of class c is LOW (R416). -/
def sparesLow : Obj :=
  { name := "SPARES_LOW", inst := .package, index := 0x7400, first := 0, count := 1, stride := 1, sub := 0x02, subs := 1,
    type := .bits32, access := .ro, critical := false, permit := .any, dflts := [0] }

/-- SPARE_PIPELINE_CLAIM, 7401.01 (R435): Die: 0 NONE, 1 SEASON, 2 REPAIR, 3 MIGRATE; holder claim (R418); a host write of 2 or 3 returns RANGE. -/
def sparePipelineClaim : Obj :=
  { name := "SPARE_PIPELINE_CLAIM", inst := .die, index := 0x7401, first := 0, count := 1, stride := 1, sub := 0x01, subs := 1,
    type := .enum8, access := .rw, critical := false, permit := (.span 0 1), dflts := [0] }

/-- SPARE_PIPELINE_STATE, 7401.02 (R435): Die: byte 0 ingress spare, byte 1 egress spare; 0 COLD, 1 SEASONING, 2 SEASONED, 3 IN_SERVICE, 4 RETIRED. -/
def sparePipelineState : Obj :=
  { name := "SPARE_PIPELINE_STATE", inst := .die, index := 0x7401, first := 0, count := 1, stride := 1, sub := 0x02, subs := 1,
    type := (.octets 2), access := .ro, critical := false, permit := .any, dflts := [0] }

/-- PIPELINE_MIGRATE, 7401.03 (R435): Die: octet 0 to 7 (R419). -/
def pipelineMigrate : Obj :=
  { name := "PIPELINE_MIGRATE", inst := .die, index := 0x7401, first := 0, count := 1, stride := 1, sub := 0x03, subs := 1,
    type := .u8, access := .rwe, critical := true, permit := (.span 0 7), dflts := [0] }

/-- PIPELINE_MAP, 7401.04 (R435): Die: byte o ingress pipeline of octet o; byte 8 + o egress pipeline. -/
def pipelineMap : Obj :=
  { name := "PIPELINE_MAP", inst := .die, index := 0x7401, first := 0, count := 1, stride := 1, sub := 0x04, subs := 1,
    type := (.octets 16), access := .ro, critical := false, permit := .any, dflts := [0x10203040506070001020304050607] }

/-- KEEPER_CORE_STATE, 7402.01 (R435): Die: byte k core slot k, slot 4 the spare; states as above. -/
def keeperCoreState : Obj :=
  { name := "KEEPER_CORE_STATE", inst := .die, index := 0x7402, first := 0, count := 1, stride := 1, sub := 0x01, subs := 1,
    type := (.octets 5), access := .ro, critical := false, permit := .any, dflts := [0x0303030300] }

/-- PLL_IN_USE, 7402.02 (R435): Die: 0 or 1 (R423). -/
def pllInUse : Obj :=
  { name := "PLL_IN_USE", inst := .die, index := 0x7402, first := 0, count := 1, stride := 1, sub := 0x02, subs := 1,
    type := .u8, access := .ro, critical := false, permit := .any, dflts := [0] }

/-- WEAR_SERVICE_HOURS, 7480.01 (R435): NV (R430). -/
def wearServiceHours : Obj :=
  { name := "WEAR_SERVICE_HOURS", inst := .package, index := 0x7480, first := 0, count := 1, stride := 1, sub := 0x01, subs := 1,
    type := .u32, access := .ro, critical := false, permit := .any, dflts := [0] }

/-- WEAR_FORECAST, 7480.02 (R435): NV; class c in bytes 2c and 2c + 1, big-endian, months (R430). -/
def wearForecast : Obj :=
  { name := "WEAR_FORECAST", inst := .package, index := 0x7480, first := 0, count := 1, stride := 1, sub := 0x02, subs := 1,
    type := (.octets 24), access := .ro, critical := false, permit := .any, dflts := [0xffffffffffffffffffffffffffffffffffffffffffffffff] }

/-- WEAR_RETIRED, 7480.03 (R435): NV; class c: retirements in the package, 16 bits big-endian. -/
def wearRetired : Obj :=
  { name := "WEAR_RETIRED", inst := .package, index := 0x7480, first := 0, count := 1, stride := 1, sub := 0x03, subs := 1,
    type := (.octets 24), access := .ro, critical := false, permit := .any, dflts := [0] }

/-- PCIE_PAIRING, A001.01 (R435): 0 SINGLE, 1 PAIRED (R425). -/
def pciePairing : Obj :=
  { name := "PCIE_PAIRING", inst := .package, index := 0xA001, first := 0, count := 1, stride := 1, sub := 0x01, subs := 1,
    type := .enum8, access := .rw, critical := true, permit := (.span 0 1), dflts := [0] }

/-- PCIE_ACTIVE_DIE, A001.02 (R435): Die number of the host die carrying paired DMA: 0, or the number of the second host die (R425). -/
def pcieActiveDie : Obj :=
  { name := "PCIE_ACTIVE_DIE", inst := .package, index := 0xA001, first := 0, count := 1, stride := 1, sub := 0x02, subs := 1,
    type := .u8, access := .ro, critical := false, permit := .any, dflts := [0] }

/-- COUNTER_ECC_RESETS, 8000.01 (R453): Die (R440). -/
def counterEccResets : Obj :=
  { name := "COUNTER_ECC_RESETS", inst := .die, index := 0x8000, first := 0, count := 1, stride := 1, sub := 0x01, subs := 1,
    type := .u64, access := .ro, critical := false, permit := .any, dflts := [0] }

/-- COUNTER_READS, 8000.02 (R453): Die: TABLE_READs of COUNTER served. -/
def counterReads : Obj :=
  { name := "COUNTER_READS", inst := .die, index := 0x8000, first := 0, count := 1, stride := 1, sub := 0x02, subs := 1,
    type := .u64, access := .ro, critical := false, permit := .any, dflts := [0] }

/-- CWIN_FUNCTION_ENABLE, 8010.01 (R453): Bit h × 4 + function, with h the host-die index (R3), may define windows; bits 31:8 write 0 (R444). -/
def cwinFunctionEnable : Obj :=
  { name := "CWIN_FUNCTION_ENABLE", inst := .package, index := 0x8010, first := 0, count := 1, stride := 1, sub := 0x01, subs := 1,
    type := .bits32, access := .rw, critical := true, permit := (.mask 0xFF), dflts := [1] }

/-- CWIN_DIE, 8100 + w, .01 (R453): Die of window w. -/
def cwinDie : Obj :=
  { name := "CWIN_DIE", inst := .package, index := 0x8100, first := 0, count := 256, stride := 1, sub := 0x01, subs := 1,
    type := .u8, access := .rw, critical := false, permit := .any, dflts := [0] }

/-- CWIN_BASE, 8100 + w, .02 (R453): First counter, 0 to 0x1F_FFFF. -/
def cwinBase : Obj :=
  { name := "CWIN_BASE", inst := .package, index := 0x8100, first := 0, count := 256, stride := 1, sub := 0x02, subs := 1,
    type := .u32, access := .rw, critical := false, permit := (.span 0 0x1FFFFF), dflts := [0] }

/-- CWIN_COUNT, 8100 + w, .03 (R453): Counters, 1 to 256; 0 disables the window. -/
def cwinCount : Obj :=
  { name := "CWIN_COUNT", inst := .package, index := 0x8100, first := 0, count := 256, stride := 1, sub := 0x03, subs := 1,
    type := .u16, access := .rw, critical := false, permit := (.span 0 256), dflts := [0] }

/-- BW_TICK, 8200.01 (R453): µs, 1 to 1,000 (R446). -/
def bwTick : Obj :=
  { name := "BW_TICK", inst := .package, index := 0x8200, first := 0, count := 1, stride := 1, sub := 0x01, subs := 1,
    type := .u16, access := .rw, critical := false, permit := (.span 1 1000), dflts := [10] }

/-- BW_WINDOW_TICKS, 8200.02 (R453): Ticks per window, 1 to 10,000. -/
def bwWindowTicks : Obj :=
  { name := "BW_WINDOW_TICKS", inst := .package, index := 0x8200, first := 0, count := 1, stride := 1, sub := 0x02, subs := 1,
    type := .u16, access := .rw, critical := false, permit := (.span 1 10000), dflts := [100] }

/-- BW_RX_AVG, 8210.01 (R453): Port: Mbit/s. -/
def bwRxAvg : Obj :=
  { name := "BW_RX_AVG", inst := .lanePort, index := 0x8210, first := 0, count := 1, stride := 1, sub := 0x01, subs := 1,
    type := .u32, access := .ro, critical := false, permit := .any, dflts := [0] }

/-- BW_RX_PEAK, 8210.02 (R453): Port: Mbit/s. -/
def bwRxPeak : Obj :=
  { name := "BW_RX_PEAK", inst := .lanePort, index := 0x8210, first := 0, count := 1, stride := 1, sub := 0x02, subs := 1,
    type := .u32, access := .ro, critical := false, permit := .any, dflts := [0] }

/-- BW_TX_AVG, 8210.03 (R453): Port: Mbit/s. -/
def bwTxAvg : Obj :=
  { name := "BW_TX_AVG", inst := .lanePort, index := 0x8210, first := 0, count := 1, stride := 1, sub := 0x03, subs := 1,
    type := .u32, access := .ro, critical := false, permit := .any, dflts := [0] }

/-- BW_TX_PEAK, 8210.04 (R453): Port: Mbit/s. -/
def bwTxPeak : Obj :=
  { name := "BW_TX_PEAK", inst := .lanePort, index := 0x8210, first := 0, count := 1, stride := 1, sub := 0x04, subs := 1,
    type := .u32, access := .ro, critical := false, permit := .any, dflts := [0] }

/-- BW_WINDOW_END, 8210.05 (R453): Port: end of the window reported. -/
def bwWindowEnd : Obj :=
  { name := "BW_WINDOW_END", inst := .lanePort, index := 0x8210, first := 0, count := 1, stride := 1, sub := 0x05, subs := 1,
    type := .time96, access := .ro, critical := false, permit := .any, dflts := [0] }

/-- SAMPLE_MODE, 8400.01 (R453): Pipeline: 0 OFF, 1 ROUTINE, 2 INTERVAL, 3 BOTH (R447). -/
def sampleMode : Obj :=
  { name := "SAMPLE_MODE", inst := .pipelineBoth, index := 0x8400, first := 0, count := 1, stride := 1, sub := 0x01, subs := 1,
    type := .enum8, access := .rw, critical := false, permit := (.span 0 3), dflts := [1] }

/-- SAMPLE_INTERVAL, 8400.02 (R453): Pipeline: mean interval, 1 to 16,777,216. -/
def sampleInterval : Obj :=
  { name := "SAMPLE_INTERVAL", inst := .pipelineBoth, index := 0x8400, first := 0, count := 1, stride := 1, sub := 0x02, subs := 1,
    type := .u32, access := .rw, critical := false, permit := (.span 1 16777216), dflts := [65536] }

/-- SAMPLE_SELECTED, 8400.03 (R453): Pipeline: packets selected by INTERVAL. -/
def sampleSelected : Obj :=
  { name := "SAMPLE_SELECTED", inst := .pipelineBoth, index := 0x8400, first := 0, count := 1, stride := 1, sub := 0x03, subs := 1,
    type := .u64, access := .ro, critical := false, permit := .any, dflts := [0] }

/-- SAMPLE_RING, 8410.01 (R453): Die: SAMPLE CQ (R450). -/
def sampleRing : Obj :=
  { name := "SAMPLE_RING", inst := .die, index := 0x8410, first := 0, count := 1, stride := 1, sub := 0x01, subs := 1,
    type := .u16, access := .rw, critical := false, permit := .any, dflts := [65535] }

/-- SAMPLE_AREA_BASE, 8410.02 (R453): Die: record area (R450). -/
def sampleAreaBase : Obj :=
  { name := "SAMPLE_AREA_BASE", inst := .die, index := 0x8410, first := 0, count := 1, stride := 1, sub := 0x02, subs := 1,
    type := .u64, access := .rw, critical := false, permit := .any, dflts := [0] }

/-- SAMPLE_BUFFERED, 8410.03 (R453): Die: records waiting, 0 to 4,096. -/
def sampleBuffered : Obj :=
  { name := "SAMPLE_BUFFERED", inst := .die, index := 0x8410, first := 0, count := 1, stride := 1, sub := 0x03, subs := 1,
    type := .u16, access := .ro, critical := false, permit := .any, dflts := [0] }

/-- SAMPLE_RECORDS, 8410.04 (R453): Die: records drained. -/
def sampleRecords : Obj :=
  { name := "SAMPLE_RECORDS", inst := .die, index := 0x8410, first := 0, count := 1, stride := 1, sub := 0x04, subs := 1,
    type := .u64, access := .ro, critical := false, permit := .any, dflts := [0] }

/-- SAMPLE_LOST, 8410.05 (R453): Die (R452). -/
def sampleLost : Obj :=
  { name := "SAMPLE_LOST", inst := .die, index := 0x8410, first := 0, count := 1, stride := 1, sub := 0x05, subs := 1,
    type := .u64, access := .ro, critical := false, permit := .any, dflts := [0] }

/-- POWER_STATE, 9000.01 (R471): 0 RUN, 1 ENTERING_SMOULDER, 2 SMOULDER, 3 ENTERING_BANKED, 4 BANKED, 5 WAKING (R461). -/
def powerState : Obj :=
  { name := "POWER_STATE", inst := .package, index := 0x9000, first := 0, count := 1, stride := 1, sub := 0x01, subs := 1,
    type := .enum8, access := .ro, critical := false, permit := .any, dflts := [0] }

/-- POWER_REQUEST, 9000.02 (R471): 1 SMOULDER, 2 BANKED (R463). -/
def powerRequest : Obj :=
  { name := "POWER_REQUEST", inst := .package, index := 0x9000, first := 0, count := 1, stride := 1, sub := 0x02, subs := 1,
    type := .enum8, access := .wo, critical := true, permit := (.span 1 2), dflts := [0] }

/-- POWER_WAKE, 9000.03 (R471): 1: wake from Smoulder (R466). -/
def powerWake : Obj :=
  { name := "POWER_WAKE", inst := .package, index := 0x9000, first := 0, count := 1, stride := 1, sub := 0x03, subs := 1,
    type := .bool, access := .wo, critical := false, permit := (.oneOf [1]), dflts := [0] }

/-- WAKE_REASON, 9000.04 (R471): 0 NONE, 1 WAKE_N, 2 EVENT, 3 POWER_WAKE, 4 POWER_CYCLE. -/
def wakeReason : Obj :=
  { name := "WAKE_REASON", inst := .package, index := 0x9000, first := 0, count := 1, stride := 1, sub := 0x04, subs := 1,
    type := .enum8, access := .ro, critical := false, permit := .any, dflts := [0] }

/-- WAKE_SOURCE, 9000.05 (R471): Event code of the waking source; 0x0FFF if none. -/
def wakeSource : Obj :=
  { name := "WAKE_SOURCE", inst := .package, index := 0x9000, first := 0, count := 1, stride := 1, sub := 0x05, subs := 1,
    type := .u16, access := .ro, critical := false, permit := .any, dflts := [4095] }

/-- POWER_PACKAGE, 9001.01 (R471): W (R455). -/
def powerPackage : Obj :=
  { name := "POWER_PACKAGE", inst := .package, index := 0x9001, first := 0, count := 1, stride := 1, sub := 0x01, subs := 1,
    type := .u32, access := .ro, critical := false, permit := .any, dflts := [0] }

/-- RAIL_VOLTAGE, 9001.02 (R471): mV per rail in the order of R454, 16 bits big-endian. -/
def railVoltage : Obj :=
  { name := "RAIL_VOLTAGE", inst := .package, index := 0x9001, first := 0, count := 1, stride := 1, sub := 0x02, subs := 1,
    type := (.octets 16), access := .ro, critical := false, permit := .any, dflts := [0] }

/-- RAIL_CURRENT, 9001.03 (R471): A per rail, as RAIL_VOLTAGE. -/
def railCurrent : Obj :=
  { name := "RAIL_CURRENT", inst := .package, index := 0x9001, first := 0, count := 1, stride := 1, sub := 0x03, subs := 1,
    type := (.octets 16), access := .ro, critical := false, permit := .any, dflts := [0] }

/-- TJ_MAX, 9002.01 (R471): Die: hottest sensor in 0.1 °C (R457). -/
def tjMax : Obj :=
  { name := "TJ_MAX", inst := .die, index := 0x9002, first := 0, count := 1, stride := 1, sub := 0x01, subs := 1,
    type := .i32, access := .ro, critical := false, permit := .any, dflts := [0] }

/-- TJ_PEAK, 9002.02 (R471): Die: highest since reset, in 0.1 °C. -/
def tjPeak : Obj :=
  { name := "TJ_PEAK", inst := .die, index := 0x9002, first := 0, count := 1, stride := 1, sub := 0x02, subs := 1,
    type := .i32, access := .ro, critical := false, permit := .any, dflts := [0] }

/-- THERMAL_OVER_LIMIT_TIME, 9002.03 (R471): Die: µs above 105 °C (R456). -/
def thermalOverLimitTime : Obj :=
  { name := "THERMAL_OVER_LIMIT_TIME", inst := .die, index := 0x9002, first := 0, count := 1, stride := 1, sub := 0x03, subs := 1,
    type := .u64, access := .ro, critical := false, permit := .any, dflts := [0] }

/-- THROTTLE_MODE, 9010.01 (R471): 0 AUTO, 1 MANUAL (R459). -/
def throttleMode : Obj :=
  { name := "THROTTLE_MODE", inst := .package, index := 0x9010, first := 0, count := 1, stride := 1, sub := 0x01, subs := 1,
    type := .enum8, access := .rw, critical := false, permit := (.span 0 1), dflts := [0] }

/-- THROTTLE_STEP_LIMIT, 9010.02 (R471): Deepest step applied, 0 to 3 (R458). -/
def throttleStepLimit : Obj :=
  { name := "THROTTLE_STEP_LIMIT", inst := .package, index := 0x9010, first := 0, count := 1, stride := 1, sub := 0x02, subs := 1,
    type := .u8, access := .rw, critical := false, permit := (.span 0 3), dflts := [3] }

/-- THROTTLE_STEP_SET, 9010.03 (R471): Die: step in MANUAL, 0 to 3 (R459). -/
def throttleStepSet : Obj :=
  { name := "THROTTLE_STEP_SET", inst := .die, index := 0x9010, first := 0, count := 1, stride := 1, sub := 0x03, subs := 1,
    type := .u8, access := .rw, critical := false, permit := (.span 0 3), dflts := [0] }

/-- THROTTLE_CHANGES, 9010.04 (R471): Die (R458). -/
def throttleChanges : Obj :=
  { name := "THROTTLE_CHANGES", inst := .die, index := 0x9010, first := 0, count := 1, stride := 1, sub := 0x04, subs := 1,
    type := .u64, access := .ro, critical := false, permit := .any, dflts := [0] }

/-- KINDLING_VERSION, B000.01 (R489): ROM version. -/
def kindlingVersion : Obj :=
  { name := "KINDLING_VERSION", inst := .package, index := 0xB000, first := 0, count := 1, stride := 1, sub := 0x01, subs := 1,
    type := .u32, access := .ro, critical := false, permit := .any, dflts := [0] }

/-- KEEPER_FW_VERSION, B000.02 (R489): IMAGE_VERSION running, patches included. -/
def keeperFwVersion : Obj :=
  { name := "KEEPER_FW_VERSION", inst := .package, index := 0xB000, first := 0, count := 1, stride := 1, sub := 0x02, subs := 1,
    type := .u32, access := .ro, critical := false, permit := .any, dflts := [0] }

/-- PATCH_LEVEL, B000.03 (R489): Patch list version, from the first 4 bytes of PATCHES plaintext; 0 if none. -/
def patchLevel : Obj :=
  { name := "PATCH_LEVEL", inst := .package, index := 0xB000, first := 0, count := 1, stride := 1, sub := 0x03, subs := 1,
    type := .u32, access := .ro, critical := false, permit := .any, dflts := [0] }

/-- IMAGE_SVN, B000.04 (R489): SVN of the running image. -/
def imageSvn : Obj :=
  { name := "IMAGE_SVN", inst := .package, index := 0xB000, first := 0, count := 1, stride := 1, sub := 0x04, subs := 1,
    type := .u32, access := .ro, critical := false, permit := .any, dflts := [0] }

/-- FUSED_SVN, B000.05 (R489): R488. -/
def fusedSvn : Obj :=
  { name := "FUSED_SVN", inst := .package, index := 0xB000, first := 0, count := 1, stride := 1, sub := 0x05, subs := 1,
    type := .u32, access := .ro, critical := false, permit := .any, dflts := [0] }

/-- BOOT_DIE, B000.06 (R489): Die whose flash was booted (R480). -/
def bootDie : Obj :=
  { name := "BOOT_DIE", inst := .package, index := 0xB000, first := 0, count := 1, stride := 1, sub := 0x06, subs := 1,
    type := .u8, access := .ro, critical := false, permit := .any, dflts := [0] }

/-- BOOT_SLOT, B000.07 (R489): 0 A, 1 B. -/
def bootSlot : Obj :=
  { name := "BOOT_SLOT", inst := .package, index := 0xB000, first := 0, count := 1, stride := 1, sub := 0x07, subs := 1,
    type := .enum8, access := .ro, critical := false, permit := .any, dflts := [0] }

/-- BOOT_STAGE, B000.08 (R489): 0 KINDLING, 1 KEEPER, 2 HOST_READY, 3 FORWARDING_READY, 4 FAILED (R483). -/
def bootStage : Obj :=
  { name := "BOOT_STAGE", inst := .package, index := 0xB000, first := 0, count := 1, stride := 1, sub := 0x08, subs := 1,
    type := .enum8, access := .ro, critical := false, permit := .any, dflts := [0] }

/-- BOOT_FALLBACKS, B000.09 (R489): Images rejected before the one booted. -/
def bootFallbacks : Obj :=
  { name := "BOOT_FALLBACKS", inst := .package, index := 0xB000, first := 0, count := 1, stride := 1, sub := 0x09, subs := 1,
    type := .u8, access := .ro, critical := false, permit := .any, dflts := [0] }

/-- BOOT_LOG, B000.0A (R489): Attempt i in bytes 8i to 8i + 7: die, slot, code (R481), reserved, IMAGE_VERSION big-endian; unused attempts 0xFF, 0xFF, 0xFF, 0, 0. -/
def bootLog : Obj :=
  { name := "BOOT_LOG", inst := .package, index := 0xB000, first := 0, count := 1, stride := 1, sub := 0x0A, subs := 1,
    type := (.octets 32), access := .ro, critical := false, permit := .any, dflts := [0] }

/-- IMAGE_DIGEST, B000.0B (R489): SHA-384 of header bytes 0 to 543 of the running image. -/
def imageDigest : Obj :=
  { name := "IMAGE_DIGEST", inst := .package, index := 0xB000, first := 0, count := 1, stride := 1, sub := 0x0B, subs := 1,
    type := (.octets 48), access := .ro, critical := false, permit := .any, dflts := [0] }

/-- RESET_CAUSE, B001.01 (R489): 0 POWER_ON, 1 RESET_N, 2 ENGINE_RESET, 3 CHIP_RESET, 4 JTAG, 5 TRIP (R473). -/
def resetCause : Obj :=
  { name := "RESET_CAUSE", inst := .package, index := 0xB001, first := 0, count := 1, stride := 1, sub := 0x01, subs := 1,
    type := .enum8, access := .ro, critical := false, permit := .any, dflts := [0] }

/-- RESET_CAUSE_DETAIL, B001.02 (R489): R473. -/
def resetCauseDetail : Obj :=
  { name := "RESET_CAUSE_DETAIL", inst := .package, index := 0xB001, first := 0, count := 1, stride := 1, sub := 0x02, subs := 1,
    type := .u16, access := .ro, critical := false, permit := .any, dflts := [0] }

/-- ENGINE_RESET, B001.03 (R489): R474; 0 returns RANGE. -/
def engineReset : Obj :=
  { name := "ENGINE_RESET", inst := .package, index := 0xB001, first := 0, count := 1, stride := 1, sub := 0x03, subs := 1,
    type := .bool, access := .wo, critical := true, permit := (.oneOf [1]), dflts := [0] }

/-- RESET_COUNT, B001.04 (R489): R473. -/
def resetCount : Obj :=
  { name := "RESET_COUNT", inst := .package, index := 0xB001, first := 0, count := 1, stride := 1, sub := 0x04, subs := 1,
    type := .u32, access := .ro, critical := false, permit := .any, dflts := [1] }

/-- FW_FLASH_BLOCK, B020.01 (R489): R485. -/
def fwFlashBlock : Obj :=
  { name := "FW_FLASH_BLOCK", inst := .package, index := 0xB020, first := 0, count := 1, stride := 1, sub := 0x01, subs := 1,
    type := (.octets 1032), access := .wo, critical := true, permit := .any, dflts := [0] }

/-- FW_VERIFY, B020.02 (R489): Slot 0 or 1 (R486). -/
def fwVerify : Obj :=
  { name := "FW_VERIFY", inst := .package, index := 0xB020, first := 0, count := 1, stride := 1, sub := 0x02, subs := 1,
    type := .u8, access := .wo, critical := true, permit := (.span 0 1), dflts := [0] }

/-- FW_ACTIVATE, B020.03 (R489): Byte 0 slot; byte 1: 1 NEXT_RESET, 2 KEEPER_NOW (R487). -/
def fwActivate : Obj :=
  { name := "FW_ACTIVATE", inst := .package, index := 0xB020, first := 0, count := 1, stride := 1, sub := 0x03, subs := 1,
    type := (.octets 2), access := .wo, critical := true, permit := .any, dflts := [0] }

/-- FW_SLOT_STATE, B020.04 (R489): Byte s: 0 EMPTY, 1 WRITING, 2 VERIFYING, 3 VALID, 4 INVALID, 5 RUNNING. -/
def fwSlotState : Obj :=
  { name := "FW_SLOT_STATE", inst := .package, index := 0xB020, first := 0, count := 1, stride := 1, sub := 0x04, subs := 1,
    type := (.octets 2), access := .ro, critical := false, permit := .any, dflts := [0] }

/-- FW_SLOT_VERSION, B020.05 (R489): Slot s in bytes 8s to 8s + 7: IMAGE_VERSION then SVN, big-endian. -/
def fwSlotVersion : Obj :=
  { name := "FW_SLOT_VERSION", inst := .package, index := 0xB020, first := 0, count := 1, stride := 1, sub := 0x05, subs := 1,
    type := (.octets 16), access := .ro, critical := false, permit := .any, dflts := [0] }

/-- FW_VERIFY_CODE, B020.06 (R489): Code of R481 from the last FW_VERIFY. -/
def fwVerifyCode : Obj :=
  { name := "FW_VERIFY_CODE", inst := .package, index := 0xB020, first := 0, count := 1, stride := 1, sub := 0x06, subs := 1,
    type := .u8, access := .ro, critical := false, permit := .any, dflts := [0] }

/-- FW_SVN_COMMIT, B020.07 (R489): R488. -/
def fwSvnCommit : Obj :=
  { name := "FW_SVN_COMMIT", inst := .package, index := 0xB020, first := 0, count := 1, stride := 1, sub := 0x07, subs := 1,
    type := .bool, access := .wo, critical := true, permit := (.oneOf [1]), dflts := [0] }

/-- FW_PREFERRED_SLOT, B020.08 (R489): PREFERRED of the booting die's directory. -/
def fwPreferredSlot : Obj :=
  { name := "FW_PREFERRED_SLOT", inst := .package, index := 0xB020, first := 0, count := 1, stride := 1, sub := 0x08, subs := 1,
    type := .enum8, access := .ro, critical := false, permit := .any, dflts := [0] }

/-- CQ_VECTOR, A020.0F (R392): vector of a CQ. -/
def cqVector : Obj :=
  { name := "CQ_VECTOR", inst := .cq, index := 0xA020, first := 0, count := 1, stride := 1, sub := 0x0F, subs := 1,
    type := .u8, access := .rw, critical := false, permit := .any, dflts := [0] }

/-- The objects with indices 0x1000 to 0x10FF. -/
def area10 : List Obj :=
  [vendorName, partNumber, serialNumber, diesPopulated, siliconStepping, dictionaryVersion, leadDie, nameOfHolder, sessionId, sessionPrincipal, sessionReset, kdpSessionsOpen, kdpUdpPort, kdpInbandEnable, kdpInbandReason, kdpSessionIdle, mgmtMode, mgmtIpv4, kdpDiscards, authFails, staleCounters, critWrites, critRetries, repeatsAnswered]

/-- The objects with indices 0x1100 to 0x11FF. -/
def area11 : List Obj :=
  [securityState, sealObj, keyProvision, keySet, keyClear, keySlotState, keySlot0Enable, keyRights, counterLast, keyFingerprint]

/-- The objects with indices 0x1400 to 0x14FF. -/
def area14 : List Obj :=
  [timeNow, epochNow, epochLength, epochLengthInForce, timeState, timeOffset, holdoverSince, timeSource, freqSource, todSet, synceSourcePort, ptpRole, ptpProfile, ptpDomain, stepThreshold, stepLimit, timeStepAccept, timeStepPending, slewMax, ppsOutFunction, ppsOutDivider, ppsOutOffset, ppsInDelay, schedPending, schedCancel, schedReportCq, genCurrent, ptpPortEnable, ptpAsymmetry]

/-- The objects with indices 0x2000 to 0x20FF. -/
def area20 : List Obj :=
  [portEnable, portState, linkRetrainAuto, portMode, portMedium, portAn, portFec, portLoopback, portTxPreset, portDrainLimit, portDrainDiscards, portDownDiscards, fecCodewords, fecCorrectedSymbols, fecUncorrected, l400TrainRestarts, tsRxAdjust, tsTxAdjust]

/-- The objects with indices 0x2100 to 0x21FF. -/
def area21 : List Obj :=
  [laneSlice, laneTxTaps, laneMargin, laneHeavyCodewords]

/-- The objects with indices 0x2200 to 0x22FF. -/
def area22 : List Obj :=
  [octetRateGroup, spareSliceState, spareSliceLane, spareChangeover, spareRelease]

/-- The objects with indices 0x2800 to 0x28FF. -/
def area28 : List Obj :=
  [fabricTransitShare, fabricReseqTimeout, fabricCtrlSlots, fabricTimeOffset, fabricTimeRelayed, fabricReseqLoss, fabricCellCrc, fabricIndirectCells, fabricTransitCells, fabricGroupState, fabricGroupPeer, fabricLaneMap, fabricSpareState, fabricCorrectedSymbols, fabricRetries, fabricLaneSwitchovers]

/-- The objects with indices 0x3000 to 0x30FF. -/
def area30 : List Obj :=
  [parserSwap, parserLiveBank, parserShadowState, parserCopyLive, portParserProfile, profileStartNode, profilePsaMax, profilePatternSet, keyProfileRecord]

/-- The objects with indices 0x3100 to 0x31FF. -/
def area31 : List Obj :=
  [parseDepthCount, parseLengthCount, parseUnknownCount, parseLateLength, parseInnerSlack, keyExtractFail, matchOverflow]

/-- The objects with indices 0x3400 to 0x34FF. -/
def area34 : List Obj :=
  [patternSetBase, patternSetCount]

/-- The objects with indices 0x3800 to 0x38FF. -/
def area38 : List Obj :=
  [asaSetMode, asaSetWidth, asaSetBanks, asaSetShadowBanks, asaSetSwap, asaSetCommit, asaSetState, asaMissAction, asaParityPunt, asaHoleInterval, asaSetEntries, asaSetFree, asaKeyMap, asaLookup0Set, asaLookup1Set, rcEnable, egressAsaSet, searchDeferAction, searchDeferTcMask, searchDeferSample, searchThrottleStep, egressAsaParityMiss, rcHits, rcMisses, rcUncacheable, searchWaits, searchDeferredCount, searchStallClocks, asaParityMiss]

/-- The objects with indices 0x4000 to 0x40FF. -/
def area40 : List Obj :=
  [tableShadowTiles, tableLiveTiles, tableShadowSeed, tableSwap, tableState, tableCopyLive, tableSync, tableLiveEntries, tableMissAction, tableParityPunt, tableParityMiss, tableRehashRequests]

/-- The objects with indices 0x4100 to 0x41FF. -/
def area41 : List Obj :=
  [moveGuard, macAgePeriod, learnReportCq, moveContention, staticMoveRefused, learnLimitHits, learnTableFull, learnQueueDrop, agedOut, portBlockDrops]

/-- The objects with indices 0x4200 to 0x42FF. -/
def area42 : List Obj :=
  [ecmpHashFields]

/-- The objects with indices 0x4800 to 0x48FF. -/
def area48 : List Obj :=
  [placeSwap, placeState, placeCopyLive, placeSync, placeNodesetShadowTiles, placeNodesetLiveTiles, placeRingPoints, placeOverTcMask, placeParityPunt, placeLookups, placeMisses, placeOverCount, placeStallClocks, placeParityMiss, placeCopyDown, placeNoLiveNode, placeBadNode]

/-- The objects with indices 0x5000 to 0x50FF. -/
def area50 : List Obj :=
  [aeCodeBlock, aeDispatchEntry, aeCodeClear, aeCodeCopyLive, aeCodeLinkedVersion, aeCodeDigest, aeLiveDigest, aeCodeSwap, aeCodeState, aeCodeLastError, aeCustCounterBase, aeCustCounterLimit, aeCustMeterBase, aeCustMeterLimit, aeCtxParityPunt]

/-- The objects with indices 0x5100 to 0x51FF. -/
def area51 : List Obj :=
  [aePackets, aeCycles, aeStallClocks, aeRestarts, aeRestartLimitPunts, aeWatchdog, aeTraps, aeProfileViolation, aeLimitTraps, aeNoRoutine, aeCsCorrected, aeCtxParity, aeLockWaitCycles, aeThreadsInService, aeThreadState]

/-- The objects with indices 0x5400 to 0x54FF. -/
def area54 : List Obj :=
  [rewriteSwap, rewriteState, rewriteCopyLive, rewriteSync, egressTagging, egressMtu, rewriteShadowTiles, rewriteLiveTiles, loopbackClaim, loopbackRecircShare, padTrimPackets, padTrimBytes, rewriteBadRecord, rewriteMtuDrop, ttlExpiredCount, tmBadDest, egressDrops, egressBadDest, replPortCopies, replEmptyDieCopy, replBadMember, recircPasses, recircLimitCount, recircDropFull, recircDropLate, loopbackNoPath, loopbackInjectClocks, mirrorCopies, mirrorDropFull, mirrorRefused, egressRecircDrop, ingressDropLate]

/-- The objects with indices 0x6000 to 0x60FF. -/
def area60 : List Obj :=
  [bpmCellsFree, bpmCellsReserved, bpmDoubleFree, bpmNotOwner, bpmRefcountUnderflow, bpmCellEccLoss, bpmCellsRecovered, bpmClassPolicy, bpmClassWaitLimit, bpmClassMode, bpmClassCells, bpmClassNoBuffer, bpmClassDrops]

/-- The objects with indices 0x6100 to 0x61FF. -/
def area61 : List Obj :=
  [poolBase, poolBufferSize, poolCount, poolMode, poolEnable, poolState, poolFunction, poolPolicy, poolWaitLimit, poolFree, poolNoBuffer, poolDrops, poolDoubleFree, poolNotOwner, poolUnderflow, spillRegionGib, spillPagesFree, spillEccLoss, hbmChannelsActive, hbmChannelState]

/-- The objects with indices 0x6400 to 0x64FF. -/
def area64 : List Obj :=
  [tcLossless, threshAlpha, threshAlphaMin, threshAlphaMax, spillEnable, spillWeight, spillStart, ecnKmin, ecnKmax, ecnPmax, ecnDropNonect, pgAlpha, threshMode, threshInterval, spillStage, spillReturn, spillVoqMax, standingGrant, replCellLimit, puntDropQueueFull, puntDelivered, spillStageDrops, replTxDrops, puntRate, puntBurst, puntPriority, puntDropRate, pgPfc, pgMin, pgHeadroom, pgCells, pgDrops, pfcXoffSent, pfcHeadroomDrops, portPgMap, portDefaultPg, pfcRxEnable, pfcWatchdog, pfcXonDelta, txWindow, pauseFramesDiscarded, schedMode, schedWeight, shapeRate, shapeBurst, voqCells, spillCells, voqAdmitDrops, ecnMarked, ecnNonectDrops, pfcRxPaused, pfcStormDrops, portShapeRate, portShapeBurst, shapeOverhead]

/-- The objects with indices 0x6800 to 0x68FF. -/
def area68 : List Obj :=
  [gclSwap, gclBaseTime, gclCycleTime, gclLength, gclState, gclOperBase, gclOverrunHolds]

/-- The objects with indices 0x6A00 to 0x6AFF. -/
def area6A : List Obj :=
  [ecmpMode, ecmpInterval, ecmpSwap, ecmpSeed, ecmpBadMember]

/-- The objects with indices 0x7000 to 0x70FF. -/
def area70 : List Obj :=
  [faultLogNewest, faultLogOverwritten, faultSelect, faultRecord, faultMergeWindow, faultOverflow, faultReaction, lampPeriod, lampState, faultNRelease, faultNAsserted, orphaned, recoveryCancel, recoveryClearShadows]

/-- The objects with indices 0x7100 to 0x71FF. -/
def area71 : List Obj :=
  [pipelineReplays, replayDrops]

/-- The objects with indices 0x7400 to 0x74FF. -/
def area74 : List Obj :=
  [sparesSummary, sparesLow, sparePipelineClaim, sparePipelineState, pipelineMigrate, pipelineMap, keeperCoreState, pllInUse, wearServiceHours, wearForecast, wearRetired]

/-- The objects with indices 0x8000 to 0x80FF. -/
def area80 : List Obj :=
  [counterEccResets, counterReads, cwinFunctionEnable]

/-- The objects with indices 0x8100 to 0x81FF. -/
def area81 : List Obj :=
  [cwinDie, cwinBase, cwinCount]

/-- The objects with indices 0x8200 to 0x82FF. -/
def area82 : List Obj :=
  [bwTick, bwWindowTicks, bwRxAvg, bwRxPeak, bwTxAvg, bwTxPeak, bwWindowEnd]

/-- The objects with indices 0x8400 to 0x84FF. -/
def area84 : List Obj :=
  [sampleMode, sampleInterval, sampleSelected, sampleRing, sampleAreaBase, sampleBuffered, sampleRecords, sampleLost]

/-- The objects with indices 0x9000 to 0x90FF. -/
def area90 : List Obj :=
  [powerState, powerRequest, powerWake, wakeReason, wakeSource, powerPackage, railVoltage, railCurrent, tjMax, tjPeak, thermalOverLimitTime, throttleMode, throttleStepLimit, throttleStepSet, throttleChanges]

/-- The objects with indices 0xA000 to 0xA0FF. -/
def areaA0 : List Obj :=
  [wqKind, wqBase, wqSize, wqCq, wqEnable, wqState, wqPi, wqCi, wqDoorbellErrors, wqPushErrors, cqKind, cqBase, cqSize, cqPool, cqEnable, cqState, cqPi, cqCi, cqHeld, cqFullEpisodes, cqDoorbellErrors, reportDrops, puntDropRingFull, cqPuntDelivered, puntDropNoRing, pciePairing, pcieActiveDie, cqVector]

/-- The objects with indices 0xA100 to 0xA1FF. -/
def areaA1 : List Obj :=
  [puntRing]

/-- The objects with indices 0xA200 to 0xA2FF. -/
def areaA2 : List Obj :=
  [evcSource]

/-- The objects with indices 0xA300 to 0xA3FF. -/
def areaA3 : List Obj :=
  [timerClaim, timerStart, timerPeriod, timerArm, evcPgs, evcWakeCount, evcClaim, evcEoi, evcLostTotal, evcBadEoi]

/-- The objects with indices 0xB000 to 0xB0FF. -/
def areaB0 : List Obj :=
  [aeDechusVersion, aeDechusDigest, aeExports, kindlingVersion, keeperFwVersion, patchLevel, imageSvn, fusedSvn, bootDie, bootSlot, bootStage, bootFallbacks, bootLog, imageDigest, resetCause, resetCauseDetail, engineReset, resetCount, fwFlashBlock, fwVerify, fwActivate, fwSlotState, fwSlotVersion, fwVerifyCode, fwSvnCommit, fwPreferredSlot]

/-- The objects of one area, by the high byte of the index (R330). -/
def areaOf (hi : Nat) : List Obj :=
  if hi = 0x10 then area10
  else if hi = 0x11 then area11
  else if hi = 0x14 then area14
  else if hi = 0x20 then area20
  else if hi = 0x21 then area21
  else if hi = 0x22 then area22
  else if hi = 0x28 then area28
  else if hi = 0x30 then area30
  else if hi = 0x31 then area31
  else if hi = 0x34 then area34
  else if hi = 0x38 then area38
  else if hi = 0x40 then area40
  else if hi = 0x41 then area41
  else if hi = 0x42 then area42
  else if hi = 0x48 then area48
  else if hi = 0x50 then area50
  else if hi = 0x51 then area51
  else if hi = 0x54 then area54
  else if hi = 0x60 then area60
  else if hi = 0x61 then area61
  else if hi = 0x64 then area64
  else if hi = 0x68 then area68
  else if hi = 0x6A then area6A
  else if hi = 0x70 then area70
  else if hi = 0x71 then area71
  else if hi = 0x74 then area74
  else if hi = 0x80 then area80
  else if hi = 0x81 then area81
  else if hi = 0x82 then area82
  else if hi = 0x84 then area84
  else if hi = 0x90 then area90
  else if hi = 0xA0 then areaA0
  else if hi = 0xA1 then areaA1
  else if hi = 0xA2 then areaA2
  else if hi = 0xA3 then areaA3
  else if hi = 0xB0 then areaB0
  else []

/-- The object whose range of addresses holds `index.sub`, with the number of the family member, if the dictionary
has one at an instance of kind `kind` (R330, R10: an egress pipeline's objects stand 0x80 higher). -/
def find? (kind : InstClass) (index sub : Nat) : Option Obj :=
  (areaOf (index / 256)).find? fun o => o.kindFits kind && o.covers index sub

/-- The default of the value stored at a key of the register store (R326). -/
def defaultAt (key : Nat) : Nat :=
  let index := (key / 256) % 65536
  match (areaOf (index / 256)).find? fun o => o.covers index (key % 256) && o.kindFits (InstKind.ofInst (key / 16777216)) with
  | some o => o.dfltAt (o.member index (key % 256))
  | none => 0

end Sys2Proof.Machine.Od
end

