-- ==== Sys2Proof/Machine/State.lean ====
section
/-! DEFINITION. The state of the block as plain data, and the state right after reset. -/

namespace Sys2Proof.Machine

/-- What the block sends out, newest first in `State.out` (DESIGN CHOICE, log 6). -/
inductive Out where
  /-- A dictionary response (R332): session, tag, status, type code, epoch, length and value. -/
  | response (session : Session) (tag : Nat) (status : Status) (type epoch len value : Nat)
  /-- A response block or datagram of octets on a transport: die, kind (0 mailbox, 1 KDP, 3 SMBus). -/
  | octets (die kind : Nat) (bytes : List Byte)
  /-- An MSI-X message (R391): function h * 4 + f, vector, event code. -/
  | msix (fn vector code : Nat)
  /-- PM_PME of a function (R397). -/
  | pme (fn : Nat)
  /-- The event line of a Keeper core asserted for an event (R386). -/
  | present (die core code : Nat)
  /-- A wake of a sleeping Keeper core (R395). -/
  | wakeCore (die core : Nat)
  /-- A DMA write: host-die index, function, address and octets (R359). -/
  | dma (h f address : Nat) (bytes : List Byte)
  /-- The signed offset of an applied time step, in 2^-16 ns (R60). -/
  | timeStep (offset : Int)
  /-- A fabric control message: from die, to die, kind, contents. -/
  | control (src dst kind : Nat) (contents : List Nat)
  /-- A unit reset by BLOCK_RESET (R405): die, source, location. -/
  | blockReset (die source location : Nat)
  /-- A Keeper core stopped by TRAP (R405). -/
  | coreTrap (die core : Nat)
  /-- A PTP message handed to the Keeper: port, time stamp and asymmetry correction of the link in 2^-16 ns (R41, R64). -/
  | ptp (n stamp : Nat) (asymmetry : Int)
  /-- The transmit timestamp of a PTP event message handed to the Keeper: port, stamp (R41). -/
  | ptpSent (n stamp : Nat)
  /-- A pin driven: number of the pin, level. -/
  | pin (pin level : Nat)
  /-- A frame sent on a port. -/
  | frame (n : Nat) (bytes : List Byte)
  /-- A MAC control frame sent on a port: priorities, pause quanta for each (R284). -/
  | pfc (n : Nat) (priorities quanta : Nat)
  /-- A training frame of a lane, as its symbols, with its control and status words (R73). -/
  | training (n control status : Nat) (levels : List Nat)
  /-- A codeword of a lane, as pairs of levels (R70, R71). -/
  | codeword (n : Nat) (pairs : List (Nat × Nat))
  /-- What a direction of a group sends on physical lanes: sending die, group, lanes with their octets (R306, R307). -/
  | lanes (die group : Nat) (octets : List (Nat × List Byte))
  /-- A line symbol action of a lane or group: kind, unit, contents. -/
  | link (kind unit : Nat) (contents : List Nat)
  /-- What a register read returns: bus (0 Keeper core, 1 BAR0, 2 BAR2, 3 BAR3, 4 SMBus), unit, value. -/
  | readData (bus unit value : Nat)
  /-- Bits shifted out of the JTAG port. -/
  | tdo (len value : Nat)
  deriving DecidableEq, Repr

/-- A source record (R383) with the target that claimed it. -/
structure EventSource where
  enable : Bool
  wake : Bool
  priority : Nat
  targetKind : Nat
  target : Nat
  state : Nat
  lost : Nat
  takenKind : Nat
  takenBy : Nat
  deriving DecidableEq, Repr

/-- An active event of a target: its code and the group recorded at the claim (R385). -/
structure ActiveEvent where
  code : Nat
  group : Nat
  deriving DecidableEq, Repr

/-- Power management of a host function (R397). -/
structure FunctionPower where
  d0 : Bool
  linkLow : Bool
  pmeEnable : Bool
  msixEnable : Bool
  deriving DecidableEq, Repr

/-- The event controllers of all dies (R381 to R398). -/
structure Events where
  /-- Source records, key die * 4096 + source. -/
  sources : Sparse EventSource
  /-- Active events of a target, most recent first, key kind * 2^14 + target. -/
  active : Sparse (List ActiveEvent)
  /-- EVC_CORE_MASK, key die * 8 + core. -/
  coreMask : Sparse Bool
  /-- Keeper cores in their sleep state (R395), key die * 8 + core. -/
  asleep : Sparse Bool
  /-- Vectors unmasked in the MSI-X tables, key function * 256 + vector. -/
  unmasked : Sparse Bool
  /-- Power management of the functions, key h * 4 + f. -/
  power : Sparse FunctionPower
  /-- Next expiry of a timer in package nanoseconds, key die * 16 + timer. -/
  timers : Sparse Nat
  deriving DecidableEq, Repr

/-- The time unit (R38 to R46, R60 to R63). Package time is counted in units of 2^-16 ns. -/
structure TimeUnit where
  now : Nat
  /-- Nanoseconds of the time-unit clock since power-on: what every wait is measured by. A time step or a slew does not move it (DESIGN CHOICE, log 5). -/
  up : Nat
  /-- The unwrapped epoch counter (R46). -/
  epoch : Nat
  /-- The counter holds after a backward step (R62). -/
  held : Bool
  lockedOnce : Bool
  /-- A step has been decided since reset (R45). -/
  steppedOnce : Bool
  /-- ACQUIRING was entered from FREERUN (R45). -/
  fromFreerun : Bool
  goodCount : Nat
  missedPps : Nat
  /-- Offset still to be slewed, in 2^-16 ns (R44), and the part of 2^-16 ns that slewing at SLEW_MAX has earned, in 10^-9. -/
  slew : Int
  slewPart : Nat
  /-- Corrections made while LOCKED in the last 60 s: the instant in ns and the offset in 2^-16 ns, newest first; and the instant of the lock (R59). -/
  corrections : List (Nat × Int)
  lockedAt : Nat
  /-- Frequency correction of HOLDOVER: 2^-16 ns in so many ns; and what it has earned, in 2^-16 ns over that span (R59). -/
  drift : Int
  driftSpan : Nat
  driftPart : Int
  /-- Instant in ns of the last 1PPS_IN edge, if any, and whether TAI seconds are known (R42). -/
  lastEdge : Option Nat
  todKnown : Bool
  /-- A written TOD_SET and the edges left before it applies. -/
  tod : Option (Nat × Nat)
  /-- The refused step, in 2^-16 ns (R45). -/
  refused : Option Int
  /-- A decided step and the boundary at which it applies (R60). -/
  decided : Option (Int × Nat)
  /-- Instant in ns at which the 1PPS_OUT pulse ends, if high, and the last boundary that an EPOCH_MARKER was made for (R63). -/
  ppsHigh : Option Nat
  ppsMark : Nat
  /-- Host-die index of the master time unit (R39, R424). -/
  master : Nat
  deriving DecidableEq, Repr

/-- A pending scheduled change (R48 to R52, R345). -/
structure Change where
  order : Nat
  /-- Unwrapped epoch. -/
  epoch : Nat
  inst : Nat
  index : Nat
  sub : Nat
  value : Nat
  /-- Scheduled by the Keeper itself (R37). -/
  keeper : Bool
  /-- Principal of the writer, kind * 65536 + ID (R335). -/
  writer : Nat
  /-- Instant in ns of its acceptance, and the dies that have acknowledged (R49). -/
  accepted : Nat
  acked : List Nat
  deriving DecidableEq, Repr

/-- A held old bank (R57): family, bank, the epoch of the swap, the scheduling object, and the generations that select it, as die * 4 +
generation while the die has not reported them idle (R252). -/
structure Hold where
  fam : Nat
  bank : Nat
  epoch : Nat
  inst : Nat
  index : Nat
  sub : Nat
  gens : List Nat
  /-- The LAST_SEQ of the swap's report (R58). -/
  lastSeq : Nat
  deriving DecidableEq, Repr

/-- Scheduling and generations (R50 to R57). -/
structure Sched where
  changes : List Change
  nextOrder : Nat
  gen : Nat
  /-- Values that older generations still use, key generation * 2^48 + register key (R54). -/
  genRegs : Sparse Nat
  holds : List Hold
  /-- Packets in flight, key die * 4 + generation (R252). -/
  flight : Sparse Nat
  deriving DecidableEq, Repr

/-- A write or delete of a shadow record kept for replay (R156). -/
structure LoggedWrite where
  table : Nat
  index : Nat
  record : Nat
  delete : Bool
  deriving DecidableEq, Repr

/-- Bank bookkeeping of a family that swaps as one (R26, R54, R155, R156). -/
structure Family where
  live : Nat
  /-- Entries on whose outcome the dies disagree (R26). -/
  disagree : List Nat
  stale : Bool
  /-- Sequence number of the last completed table update (R58). -/
  lastSeq : Nat
  /-- Principal that last wrote the family, for ORPHANED (R433). -/
  lastWriter : Option Nat
  /-- That principal was reset or closed, and no swap has followed (R433). -/
  orphaned : Bool
  /-- Logged shadow writes since the last swap or copy, newest first (R156). -/
  log : List LoggedWrite
  /-- The shadow was re-seeded or resized, or its log overran, since the last swap. -/
  spoiled : Bool
  /-- Writes that the last swap carried, newest first, and whether its old bank is to become STALE. -/
  carried : List LoggedWrite
  carriedSpoiled : Bool
  /-- Writes submitted before the last swap and acknowledged after it: they land in the old bank once it is released, newest first (R26). -/
  landing : List LoggedWrite
  deriving DecidableEq, Repr

/-- A holder record (R346): principal kind and ID, the holder object's address, the epoch of the claim. -/
structure Holder where
  kind : Nat
  id : Nat
  inst : Nat
  index : Nat
  sub : Nat
  since : Nat
  deriving DecidableEq, Repr

/-- A decoded operation (R332). -/
structure DictOp where
  /-- 1 READ, 2 WRITE, 3 WRITE_EPOCH, 4 READ_PENDING. -/
  op : Nat
  addr : Address
  len : Nat
  value : Nat
  epoch : Nat
  deriving DecidableEq, Repr

/-- The outcome of one operation (R332). -/
structure OpResult where
  status : Status
  type : Nat
  len : Nat
  value : Nat
  epoch : Nat
  deriving DecidableEq, Repr

/-- A KDP session (R338, R349). -/
structure KdpSession where
  slot : Nat
  nonce : Nat
  counter : Nat
  lastOps : List DictOp
  lastResults : List OpResult
  /-- Die on whose management port it was opened, and the time of its last request in ns (R349). -/
  die : Nat
  heard : Nat
  deriving DecidableEq, Repr

/-- A stored response of a key slot (R339, R341). -/
structure StoredResponse where
  op : DictOp
  result : OpResult
  deriving DecidableEq, Repr

/-- A key slot (R341, R342): 0 EMPTY, 1 SET, 2 DISABLED. -/
structure KeySlot where
  key : Nat
  state : Nat
  deriving DecidableEq, Repr

/-- The contents of the non-volatile store that R341 and R429 list. -/
structure NvsBody where
  counters : Sparse Nat
  stored : Sparse StoredResponse
  keys : Sparse KeySlot
  rights : Sparse Nat
  security : Nat
  slot0Enable : Nat
  /-- Non-volatile objects, by register key. -/
  objects : Sparse Nat
  deriving DecidableEq, Repr

/-- One copy of the NVS: whether it can be written and read back, its generation and contents (R341). -/
structure NvsCopy where
  writable : Bool
  valid : Bool
  generation : Nat
  body : NvsBody
  deriving DecidableEq, Repr

/-- Where a request block is answered: a row of the table, a mailbox, a KDP datagram, an admin work queue, a SCHEDULE
descriptor, SMBus or JTAG; with the 32 header octets of the request. -/
inductive Reply where
  | row
  | mailbox (fn : Nat) (head : List Byte)
  | kdp (die : Nat) (head : List Byte)
  | queue (fn wq token address : Nat) (head : List Byte)
  | schedule (fn wq token : Nat)
  | smbus
  | jtag
  deriving DecidableEq, Repr

/-- A block that has passed checks 1 to 4 of R337: the operations left, and those done with their results. -/
structure Job where
  session : Session
  /-- Key slot, 255 for none, and its key when the block arrived. -/
  slot : Nat
  key : Nat
  counter : Nat
  tag : Nat
  critical : Bool
  reply : Reply
  ops : List DictOp
  done : List (DictOp × OpResult)
  deriving DecidableEq, Repr

/-- A request in the critical queue (R340): once it is accepted, its result. -/
structure CritJob where
  job : Job
  result : Option OpResult
  /-- The session was reset: no response is sent (R336). -/
  mute : Bool
  deriving DecidableEq, Repr

/-- A mailbox (R347). -/
structure Mailbox where
  buffer : List Byte
  busy : Bool
  done : Bool
  deriving DecidableEq, Repr

/-- The dictionary's sessions, keys and transports (R326 to R352). -/
structure Dictionary where
  /-- The key store in force; the NVS copies hold what was committed. -/
  live : NvsBody
  nvs0 : NvsCopy
  nvs1 : NvsCopy
  kdp : Sparse KdpSession
  /-- NAME_OF_HOLDER and FAULT_SELECT of each session, key session * 2 + (0 or 1). -/
  sessionRegs : Sparse Nat
  /-- Holders of holder objects, by register key. -/
  holders : Sparse Holder
  critQueue : List CritJob
  /-- Mailboxes, key h * 4 + f. -/
  mailboxes : Sparse Mailbox
  mbxReady : Bool
  smbusSelected : Option Address
  smbusLast : Status
  /-- Second of package time in which AUTH_FAILURE was last raised. -/
  authSecond : Option Nat
  deriving DecidableEq, Repr

/-- A fault record (R399). -/
structure FaultRecord where
  seq : Nat
  time : Nat
  die : Nat
  cls : Nat
  spareUsed : Bool
  /-- Bits 0 INT, 1 TRAP, 2 BLOCK_RESET, 3 CHIP_RESET, 4 PIN. -/
  reacted : Nat
  overflowBefore : Bool
  source : Nat
  merged : Nat
  location : Nat
  detail0 : Nat
  detail1 : Nat
  /-- Instant of the last error, in ns since the start, and NANOSECONDS of package time then (R399). -/
  last : Nat
  lastTime : Nat
  /-- Still open, and its repair still running (R401). -/
  isOpen : Bool
  repairing : Bool
  deriving DecidableEq, Repr

/-- A retirement kept in the NVS (R429). -/
structure Retirement where
  cls : Nat
  die : Nat
  group : Nat
  unit : Nat
  seconds : Nat
  source : Nat
  deriving DecidableEq, Repr

/-- Faults, spares and recovery (R399 to R436). -/
structure Recovery where
  /-- Records, newest first: the open ones and the log of 4,096. -/
  log : List FaultRecord
  seq : Nat
  /-- Dies with errors lost since their last record (R402). -/
  overflow : List Nat
  fenced : List Nat
  /-- Fenced dies whose packets and contexts have been lost (R428). -/
  lost : List Nat
  /-- Handover in progress: critical requests receive RETRY (R422). -/
  takeover : Bool
  /-- A PIN reaction is in force, and whether by a junction trip (R409, R460). -/
  pin : Bool
  trip : Bool
  lampRunning : Bool
  /-- Instant of the last refresh (R407). -/
  lampRefreshed : Nat
  /-- The LAMP output: start and length in ns of the period in progress, and its level (R406). -/
  lampFrom : Nat
  lampLength : Nat
  lampHigh : Bool
  /-- Spares of classes whose state no object shows, key class * 2^32 + group * 256 + unit (R414). -/
  spares : Sparse Nat
  /-- NVS history: retirements, fault history, wear samples (R429). -/
  retired : List Retirement
  history : List (List Nat)
  samples : List (List Nat)
  /-- Unit that logical unit maps to, where a spare has replaced it, key as `spares`. -/
  replaced : Sparse Nat
  /-- WEAR_FORECAST values at the last event, by class (R430). -/
  forecastAt : List Nat
  /-- Checkpoints taken, key die * 8 + core (R422). -/
  checkpoints : Sparse Nat
  /-- Instant in ns at which a die's Keeper was last heard (R428). -/
  heard : Sparse Nat
  /-- Take-over checks running: die * 2 + direction (1 egress), octet (R411). -/
  checks : List (Nat × Nat)
  /-- Rows that have been replaced: die, memory kind, macro, row, seconds (R426). -/
  rowFails : List (List Nat)
  /-- Pipelines (0x04) and threads (0x05) that a BLOCK_RESET is about to reset, with their LOCATION (R405). -/
  resets : List (Nat × Nat)
  /-- Copies into a spare row or tile under way: die, kind, macro, row, spare unit, 1 for a tile (R426). -/
  copying : List (List Nat)
  /-- Nanoseconds in Run and Smoulder since manufacture, kept in the NVS (R430). -/
  serviceNs : Nat
  deriving DecidableEq, Repr

/-- L400 training and alignment of one lane (R72 to R74): the step, 0 when it does not train, and the instant in ns at which this attempt began. -/
structure LaneLink where
  step : Nat
  since : Nat
  /-- Consecutive frames of the partner with MODULATION PAM6, up to 16. -/
  pamSeen : Nat
  partnerReady : Bool
  /-- Frames since both ends have shown RX_READY; the PCS stream starts after 32. -/
  bothReady : Nat
  /-- Alignment blocks found and missed in a row, and lock. -/
  found : Nat
  missed : Nat
  aligned : Bool
  /-- COUNT of the last alignment block, and the instant in ns at which it came. -/
  count : Nat
  foundAt : Nat
  /-- Register of the training pattern (R73), and parity of the bits sent since the last alignment block (R72). -/
  prbs : Nat
  bip : Nat
  deriving DecidableEq, Repr

/-- Bring-up and line coding of a port (R70 to R76, R90). -/
structure PortLink where
  /-- L400_NO_PARTNER has been raised since the port was last UP or enabled; the partner has shown another profile; and the instant in ns at which the
  want of a partner is judged next (R75). -/
  noPartner : Bool
  badProfile : Bool
  judgeAt : Nat
  /-- Coefficients stored at the last UP, as the taps of each lane; the retrain under way starts from them (R76). -/
  stored : Option (List Nat)
  quick : Bool
  /-- Instant in ns at which a drain began (R90). -/
  drainFrom : Nat
  /-- Blocks waiting to be sent, codewords sent, and the part of the next codeword that has passed, in 512ths (R70). -/
  blocks : List (Bool × Nat)
  index : Nat
  part : Nat
  deriving DecidableEq, Repr

/-- A changeover under way in an octet (R81 to R86): the lane (0 to 7), whether a repair, whether back to its own slice, whether
receive has changed, its beginning in ns, whether a stored set was loaded, and the trigger and the codewords lost. -/
structure SliceJob where
  lane : Nat
  repair : Bool
  back : Bool
  rxDone : Bool
  began : Nat
  loaded : Bool
  trigger : Nat
  lost : Nat
  deriving DecidableEq, Repr

/-- The spare slice of an octet (R79 to R86). -/
structure Slice where
  /-- Lane, time of the stored set in ns, and whether its margin is within 1 dB. -/
  sets : List (Nat × Nat × Bool)
  /-- Transmit test and self-check passed. -/
  tested : Bool
  /-- Instant in ns since which the spare listens on SPARE_SLICE_LANE. -/
  listening : Nat
  job : Option SliceJob
  /-- Repair that waits for a planned changeover to be undone. -/
  next : Option SliceJob
  /-- Lane served by a planned changeover. -/
  planned : Option Nat
  deriving DecidableEq, Repr

/-- Links of the ports (R65 to R92). -/
structure Links where
  /-- Key lane. -/
  lanes : Sparse LaneLink
  /-- Key lane-start port. -/
  ports : Sparse PortLink
  /-- Key die * 8 + octet. -/
  slices : Sparse Slice
  deriving DecidableEq, Repr

/-- A row of a search array (R129, R138): gate 0 NONE, 1 FROM_PENDING, 2 UNTIL_PENDING, 3 FROM E, 4 UNTIL E. -/
structure AsaRow where
  key : Nat
  mask : Nat
  priority : Nat
  result : Nat
  gate : Nat
  /-- The unwrapped epoch of a FROM or UNTIL gate. -/
  epoch : Nat
  deriving DecidableEq, Repr

/-- The outcome of one search: hit, winning address and result record, or a parity miss (R133, R142). -/
structure SearchOutcome where
  hit : Bool
  address : Nat
  result : Nat
  parity : Bool
  deriving DecidableEq, Repr

/-- An entry of a result cache (R145, R146), by profile, joined key and the two generations; PENDING until it has outcomes. -/
structure RcEntry where
  profile : Nat
  key : Nat
  g0 : Nat
  g1 : Nat
  /-- Number of the packet that searches for a PENDING entry. -/
  leader : Nat
  outcome : Option (Option SearchOutcome × Option SearchOutcome)
  deriving DecidableEq, Repr

/-- An entry of a pipeline's wait queue (R149): the packet, whether it follows another, and the outcomes so far. -/
structure AsaWait where
  packet : Nat
  follows : Option Nat
  set0 : Option Nat
  set1 : Option Nat
  done0 : Option SearchOutcome
  done1 : Option SearchOutcome
  deriving DecidableEq, Repr

/-- Search arrays and result caches (R124 to R151). -/
structure Asa where
  /-- Rows, key (array * 16 + bank) * 4096 + entry; array 0 to 3 for partitioned sets, 4 for mirrored sets, 5 for egress. -/
  rows : Sparse AsaRow
  /-- RC generations of a set with their epochs, newest first (R146). -/
  gens : Sparse (List (Nat × Nat))
  /-- Result cache of a pipeline, most recently used first. -/
  rc : Sparse (List RcEntry)
  /-- Wait queue of an octet, oldest first, and the entry that waits for room in it with its pipeline stopped (R150). -/
  queues : Sparse (List AsaWait)
  stalled : Sparse AsaWait
  /-- Clock of a die modulo 4, and the step of the running window (R148). -/
  clock : Sparse Nat
  step : Sparse Nat
  /-- Pipeline last served by the partitioned rotation, key die * 2 + parity. -/
  turn : Sparse Nat
  /-- Instant of the last deferral of a die, in ns (R151). -/
  lastDefer : Sparse Nat
  /-- Commits waiting for their release (R139): set and unwrapped epoch. -/
  commits : List (Nat × Nat)
  /-- Failing banks: die, array, bank, seconds (R143), and bank copies into the spare under way. -/
  rowFails : List (List Nat)
  copying : List (List Nat)
  deriving DecidableEq, Repr

/-- A learn request (R170). -/
structure LearnRequest where
  bd : Nat
  mac : Nat
  lport : Nat
  stamp : Nat
  port : Nat
  /-- Judged, and waiting for the PEND of its entry (R172). -/
  waits : Bool
  deriving DecidableEq, Repr

/-- Learning and aging (R170 to R174), and the buckets in use (R169). -/
structure Learning where
  /-- Requests kept by the learning die. -/
  queue : List LearnRequest
  /-- Stamp of the last applied learn or move of a key, kept for MOVE_GUARD. -/
  guards : Sparse Nat
  /-- HIT bits set, key die * 2^62 + MAC key. -/
  hits : List (Nat × Nat)
  /-- Keys found idle at their last visit. -/
  idle : List Nat
  /-- MAC keys whose PEND is set: key, unwrapped FROM epoch, and whether the entry is being aged. -/
  pend : List (Nat × Nat × Bool)
  /-- ECMP buckets that packets have used since the last ECMP_REBALANCE, group * 4096 + bucket (R169). -/
  buckets : List Nat
  deriving DecidableEq, Repr

/-- A copy of a live bank into its shadow under way (R156): the family, and the request that waits for it. -/
structure CopyJob where
  fam : Nat
  /-- The block that waits for the copy, with the write of the COPY_LIVE object as its next operation. -/
  job : Job
  deriving DecidableEq, Repr

/-- A word of table SRAM, search row, HBM bucket or control store that fails uncorrectably until it is rewritten: die, kind (the
table identifier; 0x38 search rows, 0x39 search rows that a bit error stops from matching, both by (array * 16 + bank) * 4096 + row with
array 4 the egress array; 0x60 and 0x61 control stores), and index. -/
structure BadRow where
  die : Nat
  kind : Nat
  index : Nat
  deriving DecidableEq, Repr

/-- Where a packet stands: received, parsed, waiting for searches and placement, ready for dispatch, on a thread, at its exit check,
passed, out of the engine and to be enqueued, waiting for its spare pipeline, in a loopback queue, in new cells and to be injected,
to be judged by the punt path, in the punt queue. -/
inductive PStage where
  | received | parsed | searching | ready | running | checking | passed | left | spare | looping | renewed | punting | punted
  deriving DecidableEq, Repr

/-- Placement of a packet (R184 to R190): not needed, credit to be sought, waiting in the queue, read issued, OVER_ACTION taken,
node set found with its record, or missed (true: for an ECC error). -/
inductive PlaceStage where
  | none | needed | waiting | issued | overBudget | found (nodeset : Nat) | missed (parity : Bool)
  deriving DecidableEq, Repr

/-- A meter that a packet has charged (R217): meter, colour, and what was taken from the two buckets. -/
structure MeterHold where
  meter : Nat
  colour : Nat
  fromC : Nat
  fromE : Nat
  deriving DecidableEq, Repr

/-- An operation in the effect log of a packet (R214, R215). -/
inductive LogOp where
  | inc (counter : Nat)
  | add (counter value : Nat)
  | ctx (context : Nat)
  | emit (op arg : Nat)
  | recirc (profile : Nat)
  | mirror (session : Nat)
  | drop
  | punt (reason : Nat)
  | copyToHost (reason : Nat)
  | sample
  deriving DecidableEq, Repr

/-- A packet of the ingress side, until it is enqueued, punted or dropped. -/
structure Packet where
  stage : PStage
  port : Nat
  /-- Pipeline of this pass, die * 16 + k. -/
  pipe : Nat
  /-- The whole frame with its FCS. -/
  frame : List Byte
  /-- The frame end has arrived; the packet is bad at its end (R111). -/
  ended : Bool
  bad : Bool
  hv : Nat
  /-- HV as it stood at the start of the pass, from which a replay begins (R98, R411). -/
  hv0 : Nat
  /-- Instant in ns of its first byte (R56, R250). -/
  born : Nat
  /-- Ingress logical port and bridge domain after stages 0 to 2. -/
  lport : Nat
  bd : Nat
  /-- Action at the learning limit: 0 none, 1 DROP, 2 PUNT (R172). -/
  limit : Nat
  /-- TC left by stages 0 to 9 (R150, R188). -/
  tcEarly : Nat
  place : PlaceStage
  /-- The searches are over. -/
  searched : Bool
  /-- Match IDs of every match (R118, R184). -/
  matchIds : List Nat
  /-- Cells: first cell, TAG and priority group (R257, R282). -/
  head : Nat
  tag : Nat
  pg : Nat
  restarts : Nat
  replays : Nat
  meters : List MeterHold
  /-- Context whose lock is held or asked for. -/
  lock : Option Nat
  log : List LogOp
  /-- Context window to be written at release, its words as one number. -/
  ctxNew : Option Nat
  /-- Selected for sampling by INTERVAL (R447), and the fields that the last attempt gives its sample record (R449). -/
  picked : Bool
  record : Nat
  /-- The exit check is to fail (R220): thread, word address and opcode of the fault. -/
  marked : Option (Nat × Nat × Nat)
  /-- Thread on which the last restart began (R221). -/
  avoid : Option Nat
  /-- Cells charged to its priority group (R283), and the packet counted in flight (R252). -/
  charged : Bool
  flying : Bool
  /-- Session of a mirror copy (R252). -/
  mirror : Option Nat
  /-- Instant in ns at which it entered the queue in which it waits. -/
  since : Nat
  /-- Last owner of its cells on the loopback path (R262), and the packet of whose frame it is a copy (0 none). -/
  owns : Bool
  origin : Nat
  /-- A punt copy that was cut to TRUNCATE (R251), and one taken at egress (R376). -/
  cut : Bool
  atEgress : Bool
  deriving DecidableEq, Repr

/-- A frame longer than the parser's intake whose end has not arrived (R111): its port, its octets, and its packet as the parse left it. -/
structure Tail where
  port : Nat
  frame : List Byte
  parsed : Option Packet
  deriving DecidableEq, Repr

/-- A microword thread (R194, R214). -/
structure Thread where
  /-- Number of the packet or copy. -/
  item : Nat
  /-- Customer bank from which it fetches (R211). -/
  bank : Nat
  pc : Nat
  profile : Nat
  opcode : Nat
  start : Nat
  g : List Nat
  a0 : Nat
  a1 : Nat
  z : Bool
  n : Bool
  c : Bool
  z1 : Bool
  colour : Nat
  stack : List Nat
  cw : List Nat
  hv : Nat
  log : List LogOp
  committed : Bool
  /-- Cycles so far, and the waits among them. -/
  occupancy : Nat
  fenceWait : Nat
  fetchWait : Nat
  lockWait : Nat
  /-- Units of the current word already run: 0 ALU0, 1 ALU1, 2 MOVE, 3 HVW, 4 CTX, 5 CNT, 6 MET, 7 EMIT, 8 REPL, 9 PERF. -/
  unitsRun : List Nat
  /-- Results that take effect at the end of the word. -/
  nextA0 : Option (Nat × Nat × Bool)
  nextA1 : Option (Nat × Nat)
  nextMove : Option (Nat × Nat)
  /-- Fields of the HV to be written: high bit, low bit, value. -/
  nextHv : List (Nat × Nat × Nat)
  /-- The window is to be cleared (INIT), and to be written at release. -/
  nextInit : Bool
  writes : Bool
  /-- A trap that the word has met: 1 profile, 2 limit. -/
  trap : Nat
  /-- Colour that a MET operation will return, and the cycle from which it stands. -/
  metReady : Option (Nat × Nat)
  /-- Context window to be loaded, and the cycle from which it stands; none while the lock is awaited. -/
  ctxReady : Option (List Nat × Nat)
  ctxWaiting : Bool
  /-- The thread is to be retired after END (R220). -/
  reclaim : Bool
  /-- Marks, newest first, word and occupancy; all marks counted. -/
  marks : List (Nat × Nat)
  markCount : Nat
  lastWord : Nat
  /-- Package time at dispatch. -/
  began : Nat
  deriving DecidableEq, Repr

/-- Action engines (R194 to R224). Keys: engine pipeline * 2 + direction; thread engine * 64 + thread. -/
structure Engines where
  threads : Sparse Thread
  /-- Packets in the order of dispatch that have not left (R196), by engine. -/
  order : Sparse (List Nat)
  /-- Packets to be dispatched again, ahead of others (R221). -/
  restarted : Sparse (List Nat)
  /-- Contexts, key die * 2^16 + context, as 64-byte numbers; lock holders and waiting packets (R218). -/
  contexts : Sparse Nat
  holders : Sparse Nat
  /-- Waiting for a lock: packet * 2, or token * 2 + 1 of a host write (R219). -/
  waiters : Sparse (List Nat)
  /-- Instants (ns) of the restarts that each thread caused (R224). -/
  faults : Sparse (List Nat)
  /-- Byte adds to be made when a frame has ended (R208): packet, counter key. -/
  late : List (Nat × Nat)
  deriving DecidableEq, Repr

/-- Placement lookups (R187, R188), by octet (die * 8 + octet). -/
structure Placing where
  credits : Sparse Nat
  /-- Packets that wait for a credit, oldest first. -/
  queues : Sparse (List Nat)
  /-- A packet that finds the queue full and stops its pipeline, and since when (ns). -/
  stalled : Sparse (Nat × Nat)
  /-- Octet last given a lent credit, by die. -/
  turn : Sparse Nat
  deriving DecidableEq, Repr

/-- A cell in use: its link word (R256). -/
structure Cell where
  next : Nat
  eop : Bool
  bytes : Nat
  deriving DecidableEq, Repr

/-- A packet record (R257). It stands beside the head cell, with OWNER_KIND NONE once the packet is free. -/
structure PacketRecord where
  kind : Nat
  id : Nat
  users : Nat
  refcount : Bool
  freePending : Bool
  cls : Nat
  cells : Nat
  tag : Nat
  loc : Nat
  deriving DecidableEq, Repr

/-- A received frame that waits for room in its octet's staging (R261): port, frame, group, the instant in ns, and the HV of its first byte (R40, R55). -/
structure FrameWait where
  port : Nat
  frame : List Byte
  pg : Nat
  since : Nat
  hv : Nat
  deriving DecidableEq, Repr

/-- A request at an allocation port (R258): port, cell class, whether for a pair, and the instant in ns at which it was first presented. -/
structure CellRequest where
  port : Nat
  cls : Nat
  pair : Bool
  since : Nat
  deriving DecidableEq, Repr

/-- A host pool buffer in use or used before (R268): owner tag, whether allocated, and the count of a REFCOUNT pool. -/
structure PoolBuffer where
  tag : Nat
  used : Bool
  owner : Nat
  count : Nat
  deriving DecidableEq, Repr

/-- A packet record in a page header (R272), with the copy it is of and the head of the cells that the packet had on die. -/
structure SpillRecord where
  copy : Nat
  head : Nat
  record : PacketRecord
  deriving DecidableEq, Repr

/-- A spill page in use (R271, R272): NEXT_PAGE once the chain goes on, VOQ, the slots from 1 on as runs of cells of one copy (copy, cells,
whether they have been read back), RECORD0 on, and whether the page is closed. The model adds the logical channels over which the
page's addresses were spread when it was begun (R273). -/
structure SpillPage where
  next : Option Nat
  voq : Nat
  parts : List (Nat × Nat × Bool)
  records : List SpillRecord
  closed : Bool
  channels : List Nat
  deriving DecidableEq, Repr

/-- Cells, host pools and spill pages (R255 to R273). -/
structure Buffers where
  /-- Cells in use, key die * 2^19 + address. -/
  cells : Sparse Cell
  /-- Packet records, key die * 2^19 + first cell. -/
  records : Sparse PacketRecord
  /-- Cells that an allocation port holds for its next use, with their class (R258, R259), key die * 32 + port. -/
  held : Sparse (List (Nat × Nat))
  /-- Cells reserved (R260), key die * 32 + path: 0 to 7 octets, 8 and 9 the loopback shares, 10 class 8, 11 class 10, 12 standing grants. -/
  reserve : Sparse Nat
  /-- Octets whose reserve is to be refilled as cells come free (R260), as die * 8 + octet. -/
  refill : List Nat
  /-- Port that begins the next clock's order, and the requests that stay at their ports (R258, R261). -/
  order : Sparse (Nat × List CellRequest)
  /-- Last allocation tag of a die. -/
  tags : Sparse Nat
  /-- Bitmap words taken out of allocation (R265): die, bank, word. -/
  badWords : List (Nat × Nat × Nat)
  /-- Frames that wait at frame start, key die * 8 + octet. -/
  waiting : Sparse (List FrameWait)
  /-- Frames longer than the parser's intake whose end has not arrived: port and frame, by packet number (R111). -/
  tails : Sparse Tail
  /-- Pairs of port and PG in XOFF (R284), with the instant of the last XOFF in ns, key port * 8 + PG. -/
  xoff : Sparse Nat
  /-- Buffers of host pools, key pool * 2^20 + buffer. -/
  pool : Sparse PoolBuffer
  /-- Spill pages in use, key die * 2^24 + page. -/
  pages : Sparse SpillPage
  /-- Channel copies under way (R273): die, channel, spare. -/
  channels : List (Nat × Nat × Nat)
  /-- Logical channels mapped out (R273): die, channel. -/
  lostChannels : List (Nat × Nat)
  /-- Die that begins a pool's rotating order (R268), and the function whose enable is pending (R267), by pool. -/
  poolTurn : Sparse Nat
  enabling : Sparse Nat
  deriving DecidableEq, Repr

/-- A meter (R298, R299): its record, its buckets in 1/8000 byte, and the instant in ns to which they are filled. -/
structure Meter where
  record : Nat
  c : Nat
  e : Nat
  at_ : Nat
  deriving DecidableEq, Repr

/-- A token bucket: its level, and the instant in ns to which it is filled. -/
structure Bucket where
  level : Int
  at_ : Nat
  deriving DecidableEq, Repr

/-- A target of a die copy (R245): lane-start port, next hop, logical port, replica. -/
structure Target where
  port : Nat
  nh : Nat
  lport : Nat
  replica : Nat
  deriving DecidableEq, Repr

/-- Where a copy stands: in the on-die part of its queue, with a request out, in the staged part, being written to HBM, in a spill
page, being read back; crossing the fabric; arrived on its egress die; in its egress pipeline; in its transmit queue; being sent. -/
inductive CopyStage where
  | onDie | requested | staged | writing | spilled | reading | crossing | arrived | egress | queued | sending
  deriving DecidableEq, Repr

/-- A copy of an enqueued packet (R245, R262): a die copy or a port copy. -/
structure Copy where
  stage : CopyStage
  /-- The packet with its egress HV (R234), its cells, and its pipeline once it has entered one. -/
  k : Packet
  /-- Packet of the ingress die that it is a copy of while the frame may still be arriving; 0 none. -/
  origin : Nat
  /-- Die whose cells hold it, and the die it is bound for; once arrived, the die it came from. -/
  die : Nat
  dest : Nat
  /-- Owner kind and identity (R257), and whether it is the named last owner. -/
  kind : Nat
  id : Nat
  last : Bool
  cells : Nat
  /-- Crossed, or is to cross, on the standing grant (R278). -/
  standing : Bool
  /-- Die copies: group, and extra targets. -/
  group : Option Nat
  extra : List Target
  /-- What egress entry found (R53, R136, R138): the banks of LPORT, rewrite family, NEXTHOP, action-engine code, VLAN_XLATE and BD, then
  the port's rule set, its live side, the epoch counter, and the set's miss action and parity punt. -/
  banks : List Nat
  /-- VID of the tag to be inserted (0 none) and EGRESS_MTU, as egress entry found them (R236, R240). -/
  vid : Nat
  mtu : Nat
  /-- Counted in GCL_OVERRUN_HOLDS (R296). -/
  heldBack : Bool
  /-- The output frame with its FCS, once built. -/
  out : List Byte
  /-- Transmit timestamp in 2^-16 ns, once it is being sent (R40), and the octets then charged to the shapers (R294). -/
  stamp : Nat
  charged : Nat
  deriving DecidableEq, Repr

/-- A swap of a gate list that waits for its cycle start (R297): that instant in ns, the new base, cycle and length, the epoch at whose
boundary it was taken up, and the epoch it named. -/
structure GateSwap where
  start : Nat
  base : Nat
  cycle : Nat
  length : Nat
  epoch : Nat
  named : Nat
  deriving DecidableEq, Repr

/-- Operational gate control list of a port (R296, R297): cycle and length, the entry in force, and a swap that waits. -/
structure Gate where
  cycle : Nat
  length : Nat
  entry : Nat
  swap : Option GateSwap
  deriving DecidableEq, Repr

/-- Pause of an egress class (R285, R286): its end, the start of the unbroken pause, the last PFC frame for it, and a storm. -/
structure Pause where
  until_ : Nat
  from_ : Nat
  heard : Nat
  storm : Bool
  deriving DecidableEq, Repr

/-- The traffic managers, port schedulers, meters and punt paths (R232 to R304). Keys: queue die * 8192 + v; port class
port * 8 + class. -/
structure Traffic where
  copies : Sparse Copy
  nextCopy : Nat
  /-- Copies of a VOQ or fan-out queue in order, by queue. -/
  queues : Sparse (List Nat)
  /-- Standing-grant cells out, key source die * 512 + port. -/
  standing : Sparse Nat
  /-- Requests at the arbiter of a port class: source die, stream, cells; and of the replication admission, by die. -/
  requests : Sparse (List (Nat × Nat × Nat))
  fanRequests : Sparse (List (Nat × Nat × Nat))
  /-- Deficits of source dies, key port class * 8 + die. -/
  deficits : Sparse Int
  /-- Cells granted to a port class and not yet arrived. -/
  inFlight : Sparse Nat
  /-- Copies rewritten and waiting for the port, in order, by port class; the copy being sent, by port. -/
  txq : Sparse (List Nat)
  sending : Sparse Nat
  /-- Scheduler deficits and shapers, by port class; port shapers, by port. -/
  weights : Sparse Int
  shapers : Sparse Bucket
  portShapers : Sparse Bucket
  pauses : Sparse Pause
  gates : Sparse Gate
  meters : Sparse Meter
  /-- Punt queues by die, and buckets of the reasons, key die * 64 + reason. -/
  punts : Sparse (List Nat)
  puntBuckets : Sparse Bucket
  /-- Invocations of mirror sessions, key die * 256 + session (R252). -/
  mirrored : Sparse Nat
  /-- Loopback queues, key die * 2 + share (1 mirror), and sixteenths served to each (R247). -/
  loops : Sparse (List Nat)
  loopServed : Sparse Nat
  /-- Deficits of the spill writer and reader, key die * 16 + class (+ 8 for the reader), and VOQs in the order in which they fell
  below SPILL_RETURN, by die (R291, R292). -/
  spillDeficit : Sparse Int
  returning : Sparse (List Nat)
  /-- Dies in a SPILL_FULL episode (R291). -/
  full : List Nat
  /-- In the running interval (R288), as bit masks: classes that dropped, bit die * 8 + class; dies whose F fell below 25 %; and classes whose
  queues held cells on a die while its F was below 12.5 %. -/
  dropped : Nat
  lowF : Nat
  squeezed : Nat
  deriving DecidableEq, Repr

/-- A cell on the fabric (R311): its header as a number, its payload, and the copies whose octets it carries with how many: the last is
the model's own, for the receiver reads them from the prefixes (R312). -/
structure FabricCell where
  header : Nat
  payload : List Byte
  parts : List (Nat × Nat)
  deriving DecidableEq, Repr

/-- The sending side of a stream from one die to another (R312, R316): the next SEQ, and the copies granted and not yet sent whole,
with the octets of each already in cells. -/
structure SendStream where
  seq : Nat
  packets : List (Nat × Nat)
  deriving DecidableEq, Repr

/-- The receiving side of a stream (R317, R318): the SEQ expected, the cells held, the instant in ns since which a gap has stood, and
the copies of which octets have come, with how many. -/
structure RecvStream where
  expected : Nat
  held : List (Nat × FabricCell)
  since : Nat
  got : List (Nat × Nat)
  deriving DecidableEq, Repr

/-- Replacement of a logical lane in the receive direction of a group (R321): lane, spare, alignment superframes seen since it began
(at 2 the check is over), and whether it is a release. -/
structure LaneJob where
  lane : Nat
  spare : Nat
  step : Nat
  back : Bool
  deriving DecidableEq, Repr

/-- A superframe sent (R307, R310, R319): SF_SEQ, cells, the FIFO slots and, for one destination, the transit slots that its control block gives
back, TIME_KIND with TIME_VALUE, and whether it is a resend. -/
structure Superframe where
  seq : Nat
  cells : List FabricCell
  fifo : Nat
  onward : Nat
  slots : Nat
  time : Nat × Nat
  again : Bool
  deriving DecidableEq, Repr

/-- One group of a die (R305 to R324): its sending side (credits used of the peer's FIFO, transit slots used by destination, own
cells and transit cells waiting for a superframe, the latter with the group on which they came, superframes sent, and the lane, spare
and superframes left of a replacement on which it drives both), and its receiving side (retries in the running millisecond with its
start, in ns). -/
structure Group where
  fifoUsed : Nat
  transitUsed : Sparse Nat
  own : List FabricCell
  transit : List (Nat × FabricCell)
  sfSeq : Nat
  mirror : Option (Nat × Nat × Nat)
  retries : Nat
  retryFrom : Nat
  /-- Training step, 0 when not in training, and its start in ns; lanes locked; lanes on which the partner shows LOCKED; own map,
  and blocks in a row that echo it; the map that the partner has sent. -/
  step : Nat
  since : Nat
  locked : List Nat
  peerLocked : List Nat
  map : List Nat
  echoes : Nat
  peerMap : List Nat
  /-- Logical lanes erased; the replacement under way, and lanes that wait for theirs (R321). -/
  erased : List Nat
  job : Option LaneJob
  waiting : List Nat
  /-- Superframes sent and not acknowledged, and those to be sent again, oldest first (R319). -/
  window : List Superframe
  resend : List Superframe
  /-- ACK_SEQ and NAK of the receiving side (R310). -/
  acked : Nat
  nak : Bool
  /-- FIFO slots freed and, by destination, transit slots freed that no control block has given back; the destination last named (R314, R315). -/
  fifoFreed : Nat
  slotsFreed : Sparse Nat
  onward : Nat
  /-- TIME_KIND and TIME_VALUE that wait for a control block (R322). -/
  times : List (Nat × Nat)
  /-- Count of alignment superframes, register of the scrambler, and parity of each logical lane since the last alignment (R307, R309). -/
  aligns : Nat
  scrambler : Nat
  bips : List Nat
  deriving DecidableEq, Repr

/-- Alignment of a die's time unit to the master (R322): the four times, and exchanges in a row above 1 ns. -/
structure TimeExchange where
  t1 : Nat
  t2 : Nat
  t3 : Nat
  offCount : Nat
  deriving DecidableEq, Repr

/-- The Olilos fabric (R305 to R325). -/
structure Fabric where
  /-- Key die * 8 + group. -/
  groups : Sparse Group
  /-- Key (source * 8 + destination) * 8192 + stream. -/
  sends : Sparse SendStream
  recvs : Sparse RecvStream
  /-- Group last used from a die to a peer, and intermediate die last used, key die * 8 + peer. -/
  turn : Sparse Nat
  via : Sparse Nat
  /-- Key die. -/
  times : Sparse TimeExchange
  deriving DecidableEq, Repr

/-- A pushed copy of a WQ slot: its 64 octets as a little-endian number and the octets written (R360). -/
structure PushCopy where
  bytes : Nat
  mask : Nat
  deriving DecidableEq, Repr

/-- An open chain (R364): the first descriptor, the bodies so far, and the index of its first descriptor. -/
structure Chain where
  head : Nat
  bodies : List Nat
  start : Nat
  deriving DecidableEq, Repr

/-- An operation fetched and not yet covered by a posted completion in order (R365): its last index, BATCH, USER, what it
waits for (0 nothing, else a token), and its result with AUX once it has one. -/
structure Inflight where
  last : Nat
  batch : Bool
  user : Nat
  token : Nat
  result : Option (Status × Nat)
  deriving DecidableEq, Repr

/-- The engine's side of a work queue (R357 to R365, R377). -/
structure WqRun where
  fetch : Nat
  /-- Index after the last operation finished in order. -/
  doneTo : Nat
  copies : Sparse PushCopy
  chain : Option Chain
  inflight : List Inflight
  /-- USER and AUX of the last operation finished in order. -/
  tail : Nat × Nat
  deriving DecidableEq, Repr

/-- The engine's side of a completion queue (R358, R372, R373, R375). -/
structure CqRun where
  /-- Completions waiting, oldest first, without PHASE. -/
  hold : List Nat
  /-- Reports waiting, oldest first: kind 0 schedule, 1 learn. -/
  reports : List (Nat × Nat)
  arm : Bool
  episode : Bool
  /-- Packets lost for want of room since the last delivery (R376). -/
  lost : Nat
  deriving DecidableEq, Repr

/-- A sequenced table write or delete (R367): the dies that received it, and those that have acknowledged it, each with the
status it reports where its outcome is not the common one (R26). -/
structure TableOp where
  seq : Nat
  table : Nat
  index : Nat
  record : Nat
  delete : Bool
  fn : Nat
  wq : Nat
  token : Nat
  received : List Nat
  acks : List (Nat × Option Status)
  /-- A swap of its family was pending when it was submitted (R26). -/
  beforeSwap : Bool
  deriving DecidableEq, Repr

/-- A meter or flow-context write waiting for its boundary (R219, R299). -/
structure TimedWrite where
  seq : Nat
  table : Nat
  die : Nat
  index : Nat
  record : List Byte
  epoch : Nat
  fn : Nat
  wq : Nat
  token : Nat
  deriving DecidableEq, Repr

/-- An inject that waits for cells under WAIT (R261, R371). -/
structure InjectWait where
  die : Nat
  fn : Nat
  wq : Nat
  token : Nat
  egress : Bool
  port : Nat
  tc : Nat
  frame : List Byte
  free : Bool
  since : Nat
  deriving DecidableEq, Repr

/-- Rings and work queues (R353 to R380). -/
structure Rings where
  /-- Key function * 1024 + queue. -/
  wqs : Sparse WqRun
  cqs : Sparse CqRun
  /-- Function recorded with a CQ number, by register key (R356). -/
  cqOwner : Sparse Nat
  /-- Last SEQ given (R367). -/
  seq : Nat
  ops : List TableOp
  timed : List TimedWrite
  injects : List InjectWait
  nextToken : Nat
  deriving DecidableEq, Repr

/-- Bandwidth accumulators of a port (R446): bytes of the window, the number of the tick and its bytes, highest tick. -/
structure Bandwidth where
  rx : Nat
  tx : Nat
  tick : Nat
  rxTick : Nat
  txTick : Nat
  rxMax : Nat
  txMax : Nat
  deriving DecidableEq, Repr

/-- Counters, windows and sampling (R437 to R453). -/
structure Counters where
  /-- Counter memory, key die * 2^21 + counter. -/
  mem : Sparse Nat
  /-- Latched value and capture of a window slot, key function * 65536 + window * 256 + slot. -/
  latch : Sparse (Nat × Nat)
  /-- Key lane-start port. -/
  bw : Sparse Bandwidth
  /-- BW_TICK and BW_WINDOW_TICKS before the last write, and the boundary in ns from which the written values hold (R446). -/
  bwOld : Nat × Nat
  bwFrom : Nat
  /-- Package nanoseconds after the last time step (R446). -/
  stepAt : Option Nat
  /-- Sample records waiting with their SEQ, oldest first, key die. -/
  samples : Sparse (List (Nat × Nat))
  /-- SEQ of the last record made or lost, and records lost since the last completion, key die. -/
  sampleSeq : Sparse Nat
  sampleLost : Sparse Nat
  /-- Sampling countdown, key pipeline * 2 + direction; 0 until first loaded. -/
  countdown : Sparse Nat
  deriving DecidableEq, Repr

/-- Power and heat (R455 to R470). -/
structure Power where
  /-- Entry step of R464 reached, and the state aimed at: 2 Smoulder, 4 Banked; 0 none. -/
  entryStep : Nat
  target : Nat
  /-- Throttle step decided and not yet in force, key die (R458). -/
  decided : Sparse Nat
  /-- Instant since which the hottest sensor has been below the relaxation temperature, key die. -/
  coolSince : Sparse Nat
  /-- Die in an episode above 105 °C (R456). -/
  tooHot : Sparse Bool
  /-- Hottest sensor of a die at the last sample, in 0.1 °C, key die (R457). -/
  hottest : Sparse Int
  /-- Highest reading of a die since the last engine reset, in 0.1 °C, key die (R457). -/
  peak : Sparse Int
  /-- Rails out of limits (R455, R427), and those whose fault during Banked is still to be recorded. -/
  railsOut : List Nat
  railsLate : List Nat
  /-- Sensor of the junction trip (R460, R473). -/
  tripSensor : Nat
  deriving DecidableEq, Repr

/-- One boot flash (R476): directory and image slots. -/
structure Flash where
  preferred : Nat
  /-- 0 EMPTY, 1 WRITING, 2 VALID. -/
  slotA : Nat
  slotB : Nat
  generation : Nat
  /-- Blocks of 1,024 octets programmed, key slot * 32768 + block. -/
  blocks : Sparse Nat
  deriving DecidableEq, Repr

/-- Boot and firmware (R472 to R489). -/
structure Boot where
  flash0 : Flash
  flash1 : Flash
  /-- Next attempt, 0 to 3; 4 when none is left (R480). -/
  attempt : Nat
  /-- The second host die has heard that die 0 booted, or is to make its own attempts (R480). -/
  claimed : Bool
  second : Bool
  /-- Kindling has been started since reset, and the instant of reset release in ns. -/
  started : Bool
  released : Nat
  /-- Held in reset by a test instruction (R499). -/
  held : Bool
  /-- State of each slot since it was written or verified, by slot: as FW_SLOT_STATE. -/
  slotState : Sparse Nat
  slotVersion : Sparse Nat
  slotSvn : Sparse Nat
  /-- Slots whose parts other than KEEPER_FW equal those loaded (R487). -/
  keeperOnly : Sparse Bool
  activating : Option Nat
  /-- An ENGINE reset follows 10 ms after a response (R474). -/
  resetDue : Bool
  deriving DecidableEq, Repr

/-- The JTAG port (R499, R500). -/
structure Jtag where
  ir : Nat
  boundary : Nat
  provisionStatus : Nat
  deriving DecidableEq, Repr

/-- Reasons for which the block stops. -/
inductive Fault where
  /-- A command names a die, port, pipeline or unit that the part does not have (R2, R9). Raised by every meaning that
  takes a unit number. Safe: no such unit exists, so nothing is claimed of it. -/
  | absentUnit
  deriving DecidableEq, Repr

/-- Reasons for which a command is not run. -/
inductive Refusal where
  /-- The command has no meaning yet; raised by the dispatcher alone. Safe: nothing is claimed of it. -/
  | notModelled (mnemonic : String)
  deriving DecidableEq, Repr

/-- The state of the block. -/
structure State where
  /-- The commands waiting, first in, first out. -/
  pending : List Instr
  part : Part
  /-- The dictionary's registers, by address (R326). -/
  regs : Sparse Nat
  /-- Index of the next free value: the model's own field (DESIGN CHOICE, log 7). -/
  freeCount : Nat
  /-- Commands due at an instant in ns of the time-unit clock: the model's own field (DESIGN CHOICE, log 5). -/
  agenda : List (Nat × Instr)
  /-- What the block has sent, newest first: the model's own field (DESIGN CHOICE, log 6). -/
  out : List Out
  time : TimeUnit
  sched : Sched
  /-- Bank bookkeeping, by family number. -/
  fams : Sparse Family
  events : Events
  dict : Dictionary
  rings : Rings
  recov : Recovery
  ctrs : Counters
  power : Power
  boot : Boot
  jtag : Jtag
  links : Links
  /-- Table records, key (bank * 4096 + table) * 2^48 + index. -/
  tables : Sparse Nat
  badRows : List BadRow
  copies : List CopyJob
  asa : Asa
  placing : Placing
  learning : Learning
  /-- Packets of the ingress side, by number: the model's own numbering. -/
  packets : Sparse Packet
  nextPacket : Nat
  ae : Engines
  bufs : Buffers
  tm : Traffic
  fabric : Fabric
  deriving DecidableEq, Repr

/-- Time unit right after reset (R43: package time starts at SECONDS = 0). -/
def TimeUnit.reset : TimeUnit :=
  { now := 0, up := 0, epoch := 0, held := false, lockedOnce := false, steppedOnce := false, fromFreerun := false, goodCount := 0,
    missedPps := 0, slew := 0, slewPart := 0, corrections := [], lockedAt := 0, drift := 0, driftSpan := 0, driftPart := 0,
    lastEdge := none, todKnown := false, tod := none, refused := none, decided := none,
    ppsHigh := none, ppsMark := 0, master := 0 }

/-- The NVS as it leaves the factory (R341, R344): slot 0 SET with a key the spec does not give (DESIGN CHOICE, log 8). -/
def NvsBody.factory : NvsBody :=
  { counters := [], stored := [], keys := [], rights := [], security := 0, slot0Enable := 1,
    objects := [] }

/-- A copy of the NVS as it leaves the factory. -/
def NvsCopy.factory : NvsCopy := { writable := true, valid := true, generation := 0, body := NvsBody.factory }

/-- A flash as the model takes it to be programmed (DESIGN CHOICE, log 8): slot A preferred, both slots VALID. -/
def Flash.factory : Flash := { preferred := 0, slotA := 2, slotB := 2, generation := 0, blocks := [] }

/-- The block right after reset. -/
def State.reset : State :=
  { pending := []
    part := .sh2048lq
    regs := []
    freeCount := 0
    agenda := []
    out := []
    time := TimeUnit.reset
    sched := { changes := [], nextOrder := 0, gen := 0, genRegs := [], holds := [], flight := [] }
    fams := []
    events := { sources := [], active := [], coreMask := [], asleep := [], unmasked := [], power := [], timers := [] }
    dict := { live := NvsBody.factory, nvs0 := NvsCopy.factory, nvs1 := NvsCopy.factory, kdp := [], sessionRegs := [],
              holders := [], critQueue := [], mailboxes := [], mbxReady := false, smbusSelected := none, smbusLast := .ok,
              authSecond := none }
    rings := { wqs := [], cqs := [], cqOwner := [], seq := 0, ops := [], timed := [], injects := [], nextToken := 1 }
    recov := { log := [], seq := 0, overflow := [], fenced := [], lost := [], takeover := false, pin := false, trip := false,
               lampRunning := true, lampRefreshed := 0, lampFrom := 0, lampLength := 0, lampHigh := false, spares := [], retired := [], history := [], samples := [],
               replaced := [], forecastAt := [], checkpoints := [], heard := [], checks := [], rowFails := [], resets := [], copying := [],
               serviceNs := 0 }
    ctrs := { mem := [], latch := [], bw := [], bwOld := (10, 100), bwFrom := 0, stepAt := none, samples := [], sampleSeq := [],
              sampleLost := [], countdown := [] }
    power := { entryStep := 0, target := 0, decided := [], coolSince := [], tooHot := [], hottest := [], peak := [], railsOut := [], railsLate := [],
               tripSensor := 0 }
    boot := { flash0 := Flash.factory, flash1 := Flash.factory, attempt := 0, claimed := false, second := false, started := false, released := 0, held := false,
              slotState := [], slotVersion := [], slotSvn := [], keeperOnly := [], activating := none, resetDue := false }
    jtag := { ir := 1, boundary := 0, provisionStatus := 0 }
    links := { lanes := [], ports := [], slices := [] }
    tables := []
    badRows := []
    copies := []
    asa := { rows := [], gens := [], rc := [], queues := [], stalled := [], clock := [], step := [], turn := [], lastDefer := [],
             commits := [], rowFails := [], copying := [] }
    placing := { credits := [], queues := [], stalled := [], turn := [] }
    learning := { queue := [], guards := [], hits := [], idle := [], pend := [], buckets := [] }
    packets := []
    nextPacket := 1
    ae := { threads := [], order := [], restarted := [], contexts := [], holders := [], waiters := [], faults := [], late := [] }
    bufs := { cells := [], records := [], held := [], reserve := [], refill := [], order := [], tags := [], badWords := [], waiting := [], tails := [],
              xoff := [], pool := [], pages := [], channels := [], lostChannels := [], poolTurn := [],
              enabling := [] }
    tm := { copies := [], nextCopy := 1, queues := [], standing := [], requests := [], fanRequests := [], deficits := [], inFlight := [],
            txq := [], sending := [], weights := [], shapers := [], portShapers := [], pauses := [], gates := [], meters := [],
            punts := [], puntBuckets := [], mirrored := [], loops := [], loopServed := [], spillDeficit := [], returning := [], full := [],
            dropped := 0, lowF := 0, squeezed := 0 }
    fabric := { groups := [], sends := [], recvs := [], turn := [], via := [], times := [] } }

end Sys2Proof.Machine
end

