-- ==== Sys2Proof/Machine/Ops.lean ====
section
/-! DEFINITION. Named operations over the state: registers, counters, free values, time, units present, and the engine
reset that many rules share. -/

namespace Sys2Proof.Machine

/-- An outcome that is always a next state. -/
abbrev Answer := Host.Outcome State Fault Refusal

/-- Value in force of member `k` of a register on an instance (R329). -/
def State.rd (s : State) (o : Obj) (inst : Nat := 0) (k : Nat := 0) : Nat := sparseGet Od.defaultAt s.regs (o.key inst k)

/-- Write a register. -/
def State.wr (s : State) (o : Obj) (v : Nat) (inst : Nat := 0) (k : Nat := 0) : State :=
  { s with regs := sparseSet Od.defaultAt s.regs (o.key inst k) v }

/-- Add to a counter of the dictionary, cut to its width (R327). -/
def State.bump (s : State) (o : Obj) (inst : Nat := 0) (k : Nat := 0) (n : Nat := 1) : State :=
  s.wr o (low (8 * o.type.size) (s.rd o inst k + n)) inst k

/-- The next free value, cut to `w` bits (DESIGN CHOICE, log 7). -/
def State.freeBits (s : State) (w : Nat) : Nat := low w (Config.freeValue s.freeCount)

/-- The state after a free value has been used. -/
def State.useFree (s : State) : State := { s with freeCount := s.freeCount + 1 }

/-- Send something out (DESIGN CHOICE, log 6). -/
def State.emit (s : State) (o : Out) : State := { s with out := o :: s.out }

/-- Put a command on the agenda, `ns` nanoseconds from now (DESIGN CHOICE, log 5). -/
def State.later (s : State) (ns : Nat) (i : Instr) : State :=
  { s with agenda := s.agenda ++ [(s.time.up + ns, i)] }

/-- Instance of die `d` (R8). -/
def dieInst (d : Nat) : Nat := 0x0100 + d
/-- Instance of lane or port `n` (R8). -/
def portInst (n : Nat) : Nat := 0x1000 + n
/-- Instance of pipeline `p` (R8). -/
def pipeInst (p : Nat) : Nat := 0x3000 + p

/-- Whether the part has die `d` (R2). -/
def State.hasDie (s : State) (d : Nat) : Bool := s.part.dies.contains d

/-- Host-interface die of index `h` (R3). -/
def State.hostDie (s : State) (h : Nat) : Nat := if h = 0 then 0 else s.part.secondHost

/-- Whether `d` is a host-interface die (R3). -/
def State.isHostDie (s : State) (d : Nat) : Bool := d = 0 || d = s.part.secondHost

/-- Host-die index of a host-interface die (R3). -/
def State.hostIndex (_s : State) (d : Nat) : Nat := if d = 0 then 0 else 1

/-- Whether the engine is stopped: by a junction trip (R460), or held in reset by a test instruction (R499) or a rail (R494).
Only a reset is heard then. -/
def State.stopped (s : State) : Bool := s.recov.trip || s.boot.held

/-- Run a meaning while the engine is not stopped. -/
def running (s f : State) : Answer := .next (if s.stopped then s else f)

/-- Run a meaning on a die the part has (R2). -/
def withDie (s : State) (d : Nat) (f : State) : Answer := if s.hasDie d then running s f else .fault .absentUnit

/-- Run a meaning on a lane or lane-start port of a die the part has (R67). -/
def withLane (s : State) (n : Nat) (f : State) : Answer :=
  if n < 512 ∧ s.hasDie (n / 64) then running s f else .fault .absentUnit

/-- Run a meaning on a pipeline of a die the part has (R8, R9). -/
def withPipe (s : State) (p : Nat) (f : State) : Answer :=
  if p % 16 ≤ 8 ∧ s.hasDie (p / 16) then running s f else .fault .absentUnit

/-- Nanoseconds of the time-unit clock since power-on: the measure of waits (DESIGN CHOICE, log 5). -/
def State.up (s : State) : Nat := s.time.up

/-- Package time in nanoseconds, the fraction dropped (R46). -/
def State.ns (s : State) : Nat := s.time.now / 65536

/-- A package time as a TIME96 value (R38). -/
def time96 (now : Nat) : Nat :=
  let n := now / 65536
  (n / 1000000000) * 2 ^ 48 + (n % 1000000000) * 65536 + now % 65536

/-- Package time of a TIME96 value, in 2^-16 ns (R38). -/
def ofTime96 (v : Nat) : Nat := ((v / 2 ^ 48) * 1000000000 + bits v 47 16) * 65536 + v % 65536

/-- Epoch length in force, in nanoseconds (R46). -/
def State.epochNs (s : State) : Nat := s.rd Od.epochLengthInForce * 1000

/-- The current epoch number (R46, R62). -/
def State.epoch32 (s : State) : Nat := low 32 s.time.epoch

/-- Octet `i` of an OCTETS[n] value, byte 0 first (R327). -/
def octetOf (n i v : Nat) : Nat := (v / 256 ^ (n - 1 - i)) % 256

/-- An OCTETS[n] value with octet `i` written. -/
def setOctet (n i b v : Nat) : Nat := v - octetOf n i v * 256 ^ (n - 1 - i) + (b % 256) * 256 ^ (n - 1 - i)

/-- Octet `i` of an OCTETS register. -/
def State.rdOctet (s : State) (o : Obj) (inst k i : Nat) : Nat := octetOf o.type.size i (s.rd o inst k)

/-- Write octet `i` of an OCTETS register. -/
def State.wrOctet (s : State) (o : Obj) (inst k i b : Nat) : State :=
  s.wr o (setOctet o.type.size i b (s.rd o inst k)) inst k

/-- Bookkeeping of a family not yet touched. -/
def Family.fresh : Family :=
  { live := 0, disagree := [], stale := false, lastSeq := 0xFFFFFFFF, lastWriter := none, orphaned := false, log := [], spoiled := false,
    carried := [], carriedSpoiled := false, landing := [] }

/-- Bookkeeping of family `f`. -/
def State.fam (s : State) (f : Nat) : Family := sparseGet (fun _ => Family.fresh) s.fams f

/-- Write the bookkeeping of a family. -/
def State.setFam (s : State) (f : Nat) (x : Family) : State :=
  { s with fams := sparseSet (fun _ => Family.fresh) s.fams f x }

/-- Family numbers: tables 0x40 to 0x4A by identifier, the ECMP family 0x4B, LAG_MEMBER 0x4E, rewrite 0x54, placement
0x58, parser 0x30, rule set 0x100 + s, image 0x200 + i, gate list of port 0x1000 + n. -/
def famOfTable (t : Nat) : Nat :=
  if 0x4B ≤ t ∧ t ≤ 0x4D then 0x4B else if 0x54 ≤ t ∧ t ≤ 0x57 then 0x54 else if 0x58 ≤ t ∧ t ≤ 0x5A then 0x58 else t

/-- The object whose write swaps a family (R155, R99, R136, R191, R237, R228, R297), as instance, index and sub-index. -/
def swapObject (f : Nat) : Address :=
  if f = 0x30 then { inst := 0, index := 0x3000, sub := 1 }
  else if f = 0x4B then { inst := 0, index := 0x6A00, sub := 3 }
  else if 0x40 ≤ f ∧ f ≤ 0x4E then { inst := 0, index := 0x4000 + (f - 0x40), sub := 4 }
  else if f = 0x54 then { inst := 0, index := 0x5400, sub := 1 }
  else if f = 0x58 then { inst := 0, index := 0x4800, sub := 1 }
  else if 0x100 ≤ f ∧ f < 0x10C then { inst := 0, index := 0x3800 + (f - 0x100), sub := 5 }
  else if 0x200 ≤ f ∧ f < 0x202 then { inst := 0, index := 0x5000 + 0x20 * (f - 0x200), sub := 8 }
  else { inst := f, index := 0x6800, sub := 1 }

/-- The family that a write of an object swaps, if it is a swap object. -/
def swapFamily (a : Address) : Option Nat :=
  if a.index = 0x3000 ∧ a.sub = 1 then some 0x30
  else if a.index = 0x6A00 ∧ a.sub = 3 then some 0x4B
  else if 0x4000 ≤ a.index ∧ a.index ≤ 0x400E ∧ a.sub = 4 then some (famOfTable (a.index - 0x4000 + 0x40))
  else if a.index = 0x5400 ∧ a.sub = 1 then some 0x54
  else if a.index = 0x4800 ∧ a.sub = 1 then some 0x58
  else if 0x3800 ≤ a.index ∧ a.index ≤ 0x380B ∧ a.sub = 5 then some (0x100 + (a.index - 0x3800))
  else if (a.index = 0x5000 ∨ a.index = 0x5020) ∧ a.sub = 8 then some (0x200 + (a.index - 0x5000) / 0x20)
  else if a.index = 0x6800 ∧ a.sub = 1 then some a.inst
  else none

/-- Whether a swap of family `f` is pending (R51). -/
def State.swapPending (s : State) (f : Nat) : Bool :=
  s.sched.changes.any fun c => swapFamily { inst := c.inst, index := c.index, sub := c.sub } == some f

/-- Whether the old bank of family `f` is held (R57). -/
def State.famHeld (s : State) (f : Nat) : Bool := s.sched.holds.any fun h => h.fam == f

/-- State of a shadow bank as the objects show it: 0 WRITABLE, 1 SWAP_PENDING, 2 HELD, 3 DISAGREE, 4 STALE (R155). -/
def State.bankState (s : State) (f : Nat) : Nat :=
  if (s.fam f).disagree ≠ [] then 3
  else if s.swapPending f then 1
  else if s.famHeld f then 2
  else if (s.fam f).stale then 4
  else 0

/-- Live bank of a family for a packet whose tag is `g` (R54, R55). -/
def State.liveFor (s : State) (f g : Nat) : Nat :=
  (sparseFind? s.sched.genRegs (g * 2 ^ 48 + 2 ^ 47 + f)).getD (s.fam f).live

/-- Value of a register for a packet whose tag is `g` (R54). -/
def State.rdFor (s : State) (o : Obj) (inst k g : Nat) : Nat :=
  (sparseFind? s.sched.genRegs (g * 2 ^ 48 + o.key inst k)).getD (s.rd o inst k)

/-- Key of a function among the eight. -/
def fnKey (h f : Nat) : Nat := h * 4 + f

/-- Number of a session for its registers (R335): functions 0 to 7, SMBus 12, JTAG 13, KDP 16 on. -/
def sessionKey : Session → Nat
  | .pcie h f => fnKey h f
  | .smbus => 12
  | .jtag => 13
  | .keeper _ => 14
  | .kdp n _ => 16 + n

/-- Principal of a session, kind * 65536 + ID (R335). -/
def State.principal (s : State) : Session → Nat
  | .pcie h f => 1 * 65536 + (h * 256 + f)
  | .kdp n _ => 2 * 65536 + ((sparseFind? s.dict.kdp n).map (·.slot)).getD 0
  | .smbus => 3 * 65536
  | .jtag => 5 * 65536
  | .keeper f => 4 * 65536 + f

/-- The valid NVS copy with the higher generation (R341). -/
def Dictionary.bestNvs (d : Dictionary) : NvsBody :=
  if d.nvs0.valid && (!d.nvs1.valid || d.nvs1.generation ≤ d.nvs0.generation) then d.nvs0.body
  else if d.nvs1.valid then d.nvs1.body
  else d.live

/-- Key of slot `k` (R342); slot 0's is not in the spec (DESIGN CHOICE, log 8). -/
def State.slotKey (s : State) (k : Nat) : Nat :=
  if k = 0 then Config.perPart 0x1110 else ((sparseFind? s.dict.live.keys k).map (·.key)).getD 0

/-- State of slot `k`: 0 EMPTY, 1 SET, 2 DISABLED (R342). -/
def State.slotState (s : State) (k : Nat) : Nat :=
  if k = 0 then (if s.dict.live.slot0Enable = 1 then 1 else 2) else ((sparseFind? s.dict.live.keys k).map (·.state)).getD 0

/-- Key of a spare or unit without an object of its own. -/
def spareKey (cls d group unit : Nat) : Nat := ((cls * 8 + d) * 65536 + group) * 65536 + unit

/-! Threads of the action engines (R194, R224). -/

/-- Number of an engine: pipeline * 2 + direction. -/
def engineOf (p : Nat) (eg : Bool) : Nat := p * 2 + b2n eg

/-- The object of a direction (R10). -/
def dirObj (eg : Bool) (o : Obj) : Obj := if eg then o.egress else o

/-- A thread's routine. -/
def State.thread? (s : State) (p : Nat) (eg : Bool) (t : Nat) : Option Thread := sparseFind? s.ae.threads (engineOf p eg * 64 + t)

/-- Group of an engine's threads among the spares (R417). -/
def threadGroup (p : Nat) (eg : Bool) : Nat := p % 16 + (if eg then 16 else 0)

/-- The physical thread that bears a thread number (R224): its own, or the spare that has taken the number of a retired one (log 139). -/
def State.threadUnit (s : State) (p : Nat) (eg : Bool) (t : Nat) : Nat :=
  (sparseFind? s.recov.replaced (spareKey 4 (p / 16) (threadGroup p eg) t)).getD t

/-- Whether a thread number is in service (R194, R224, R231). -/
def State.threadInService (s : State) (p : Nat) (eg : Bool) (t : Nat) : Bool :=
  decide (t < 32) && s.rdOctet (dirObj eg Od.aeThreadState) (pipeInst p) 0 (s.threadUnit p eg t) = 3

/-- Whether every thread of an engine that is in service is busy (R195). -/
def State.threadsBusy (s : State) (p : Nat) (eg : Bool) : Bool :=
  (List.range 32).all fun t => (s.thread? p eg t).isSome || !s.threadInService p eg t

/-! Fabric groups (R305). -/

/-- Peer die of group `g` of die `d` (R305): none for an unrouted group. -/
def groupPeer (p : Part) (d g : Nat) : Option Nat :=
  match p with
  | .sh2048lq => if g < 7 then some (d ^^^ (g + 1)) else none
  | .sh1024lq => if g < 2 then some (d ^^^ 1) else if g < 4 then some (d ^^^ 4) else if g < 6 then some (d ^^^ 5) else none
  | .sh0512lq => if g < 6 then some (1 - d) else none
  | .sh0512af => if g < 6 then some (1 - d) else none

/-- A group about to train from step 1 (R306). -/
def Group.fresh : Group :=
  { fifoUsed := 0, transitUsed := [], own := [], transit := [], sfSeq := 0, mirror := none, retries := 0, retryFrom := 0, step := 1,
    since := 0, locked := [], peerLocked := [], map := [], echoes := 0, peerMap := [], erased := [], job := none, waiting := [], window := [], resend := [],
    acked := 4095, nak := false, fifoFreed := 0, slotsFreed := [], onward := 7, times := [], aligns := 0, scrambler := 0, bips := [] }

/-- Group `g` of die `d`. -/
def State.group (s : State) (d g : Nat) : Group := sparseGet (fun _ => Group.fresh) s.fabric.groups (d * 8 + g)

/-- Write a group. -/
def State.setGroup (s : State) (d g : Nat) (x : Group) : State :=
  { s with fabric := { s.fabric with groups := sparseSet (fun _ => Group.fresh) s.fabric.groups (d * 8 + g) x } }

/-- FABRIC_GROUP_STATE (R305, R306): a routed group trains from the start. -/
def State.groupState (s : State) (d g : Nat) : Nat :=
  if (groupPeer s.part d g).isNone then 0
  else if s.rd Od.fabricGroupState (dieInst d) g = 0 then 1
  else s.rd Od.fabricGroupState (dieInst d) g

/-- The transit slot that a cell held on an intermediate die is free again: a control block gives it back to the first leg's sender (R315). -/
def State.freeTransit (s : State) (d : Nat) (c : Nat × FabricCell) : State :=
  let x := s.group d c.1
  let dst := bits c.2.header 121 119
  s.setGroup d c.1 { x with slotsFreed := sparseSet (fun _ => 0) x.slotsFreed dst (sparseGet (fun _ => 0) x.slotsFreed dst + 1) }

/-- A direction of a group loses the cells in flight on it (R324), and stands at step 1 of its training. -/
def State.emptyGroup (s : State) (d g : Nat) : State :=
  let s1 := (s.group d g).transit.foldl (fun (a : State) c => a.freeTransit d c) s
  s1.setGroup d g { Group.fresh with since := s.up }

/-- A group of two dies goes into a state: 1 TRAINING, from step 1 (R306), or 3 DOWN (R324). -/
def State.breakGroup (s : State) (d g v : Nat) : State :=
  match groupPeer s.part d g with
  | none => s
  | some p =>
    (((((s.emptyGroup d g).emptyGroup p g).wr Od.fabricGroupState v (dieInst d) g).wr Od.fabricGroupState v (dieInst p) g).later
      (if v = 1 then 2000000 else 10000000) (.fabricTrainTimeout d g)).later (if v = 1 then 2000000 else 10000000) (.fabricTrainTimeout p g)

/-- Result cache of a pipeline, keyed by die * 16 + pipeline (R145); a spare that takes over starts with it empty (R125, R146). -/
def State.rcOf (s : State) (pipe : Nat) : List RcEntry := sparseGet (fun _ => []) s.asa.rc pipe
def State.setRc (s : State) (pipe : Nat) (l : List RcEntry) : State :=
  { s with asa := { s.asa with rc := sparseSet (fun _ => []) s.asa.rc pipe l } }

/-- Clocks that an octet's pipeline has stood for its placement queue since the last count (R188). -/
def State.placeStall (s : State) (o : Nat) : Nat :=
  match sparseFind? s.placing.stalled o with
  | some (_, since) => (s.up - since) * 8 / 5
  | none => 0

/-- The shadow bank of a family. -/
def State.shadowOf (s : State) (f : Nat) : Nat := 1 - (s.fam f).live

end Sys2Proof.Machine
end

