-- ==== Sys2Proof/Machine/EventOps.lean ====
section
/-! DEFINITION. The event controller's shared operations: ranking, presentation, messages and firing (R381 to R397). -/

namespace Sys2Proof.Machine

/-- Source record at reset (R383; log 9 for the sources that only the Keeper writes). -/
def State.sourceReset (s : State) (key : Nat) : EventSource :=
  let d := key / 4096
  let n := key % 4096
  let base : EventSource :=
    { enable := false, wake := false, priority := 0x80, targetKind := 0, target := 0, state := 0, lost := 0,
      takenKind := 0, takenBy := 0 }
  if 0x200 ≤ n ∧ n < 0x600 ∧ s.isHostDie d then
    { base with enable := true, targetKind := 2, target := s.hostIndex d * 1024 + (n - 0x200) }
  else base

/-- Whether source `n` exists on die `d` (R381). -/
def State.sourceExists (s : State) (d n : Nat) : Bool :=
  s.hasDie d && (decide (n < 0x158) || (decide (0x160 ≤ n) && decide (n < 0x17C)) || (decide (0x180 ≤ n) && decide (n < 0x190))
    || (decide (0x200 ≤ n) && decide (n < 0x600) && s.isHostDie d))

/-- Record of a source. -/
def State.source (s : State) (key : Nat) : EventSource := sparseGet s.sourceReset s.events.sources key

/-- Write the record of a source. -/
def State.setSource (s : State) (key : Nat) (e : EventSource) : State :=
  { s with events := { s.events with sources := sparseSet s.sourceReset s.events.sources key e } }

/-- Event code of a source (R384): die in 14:12, source in 11:0. -/
def eventCode (d n : Nat) : Nat := (d * 4096 + n) % 32768

/-- Group of a priority (R385). -/
def State.groupOf (s : State) (priority : Nat) : Nat := priority >>> s.rd Od.evcPgs

/-- Key of a target: kind 1 Keeper (die * 8 + core), 2 host (h * 1024 + function * 256 + vector). -/
def targetKey (kind target : Nat) : Nat := kind * 16384 + target

/-- The function whose queues, pools, session and vectors a PCIe function uses: with PCIE_PAIRING = PAIRED, function `f` of both host dies acts as
one (R425). -/
def State.fnOf (s : State) (h f : Nat) : Nat := if s.rd Od.pciePairing = 1 then f else fnKey h f

/-- Host-die index of the interface that carries a function's DMA and messages: the active one of a pair (R425). -/
def State.dmaHost (s : State) (fn : Nat) : Nat := if s.rd Od.pciePairing = 1 then s.hostIndex (s.rd Od.pcieActiveDie) else fn / 4

/-- Function of the interface in use for a function (R425). -/
def State.activeFn (s : State) (fn : Nat) : Nat := s.dmaHost fn * 4 + fn % 4

/-- A target as it is shared between paired functions (R425). -/
def State.targetOf (s : State) (kind target : Nat) : Nat :=
  if kind = 2 then s.fnOf (target / 1024) (target / 256 % 4) * 256 + target % 256 else target

/-- Active events of a target, most recent first. -/
def State.activeOf (s : State) (kind target : Nat) : List ActiveEvent :=
  sparseGet (fun _ => []) s.events.active (targetKey kind target)

/-- Write the active events of a target. -/
def State.setActive (s : State) (kind target : Nat) (l : List ActiveEvent) : State :=
  { s with events := { s.events with active := sparseSet (fun _ => []) s.events.active (targetKey kind target) l } }

/-- Group of the most recent active event of a target; 256 where there is none (R388). -/
def State.topGroup (s : State) (kind target : Nat) : Nat :=
  match s.activeOf kind target with
  | [] => 256
  | a :: _ => a.group

/-- Rank of a waiting event: PRIORITY, then die, then source (R385). -/
def eventRank (e : Nat × EventSource) : Nat := e.2.priority * 65536 + e.1

/-- The best-ranked of two. -/
def betterEvent (a : Option (Nat × EventSource)) (b : Nat × EventSource) : Option (Nat × EventSource) :=
  match a with
  | none => some b
  | some x => if eventRank b < eventRank x then some b else some x

/-- The best-ranked event waiting for a target that beats the target's active event (R388, R391). -/
def State.bestFor (s : State) (kind target : Nat) : Option (Nat × EventSource) :=
  if (s.activeOf kind target).length < 8 then
    (s.events.sources.filter fun e =>
      (e.2.state = 1 || e.2.state = 2) && e.2.targetKind = kind && s.targetOf kind e.2.target = target
        && decide (s.groupOf e.2.priority < s.topGroup kind target)).foldl betterEvent none
  else none

/-- Make an event active on a target (R386). -/
def State.activate (s : State) (key kind target : Nat) : State :=
  let e := s.source key
  (s.setSource key { e with state := 3, takenKind := kind, takenBy := target }).setActive kind target
    ({ code := eventCode (key / 4096) (key % 4096), group := s.groupOf e.priority } :: s.activeOf kind target)

/-- Return every presented event of a core but one to PENDING (R386, R389). -/
def State.unpresent (s : State) (target : Nat) (keep : Option Nat) : State :=
  { s with events := { s.events with sources := s.events.sources.map fun e =>
      if e.2.state = 2 ∧ e.2.targetKind = 1 ∧ e.2.target = target ∧ some e.1 ≠ keep then (e.1, { e.2 with state := 1 }) else e } }

/-- Power state in which events are presented and sent: not in Smoulder, Banked or waking (R396). -/
def State.awake (s : State) : Bool :=
  let p := s.rd Od.powerState
  p ≠ 2 && p ≠ 4 && p ≠ 5

/-- Whether a Keeper core's number has a core in service: its own, or the spare (R422). -/
def State.coreServed (s : State) (target : Nat) : Bool :=
  let i := dieInst (target / 8)
  s.rdOctet Od.keeperCoreState i 0 (target % 8) ≠ 4
    || ((sparseFind? s.recov.replaced (spareKey 9 (target / 8) 0 (target % 8))).isSome && s.rdOctet Od.keeperCoreState i 0 4 ≠ 4)

/-- Present the best qualifying event to a Keeper core (R388). -/
def State.presentCore (s : State) (target : Nat) : State :=
  if s.awake && s.coreServed target && !(sparseGet (fun _ => false) s.events.coreMask target) then
    match s.bestFor 1 target with
    | some (key, e) =>
      let s1 := s.unpresent target (some key)
      if e.state = 2 then s1
      else (s1.setSource key { e with state := 2 }).emit (.present (target / 8) (target % 8) (eventCode (key / 4096) (key % 4096)))
    | none => s.unpresent target none
  else s.unpresent target none

/-- Power management of a function; at reset D0 with PME and MSI-X disabled (PRESUMED, log 10). -/
def State.fnPower (s : State) (fn : Nat) : FunctionPower :=
  sparseGet (fun _ => { d0 := true, linkLow := false, pmeEnable := false, msixEnable := false }) s.events.power fn

/-- Whether vector `v` of function `fn` may send now (R391, R397). -/
def State.vectorReady (s : State) (target : Nat) : Bool :=
  let p := s.fnPower (s.activeFn (target / 256))
  s.awake && p.d0 && !p.linkLow && p.msixEnable && sparseGet (fun _ => false) s.events.unmasked target

/-- Send the best-ranked events of a host vector, at most `n` of them (R391). -/
def State.sendVector : Nat → State → Nat → State
  | 0, s, _ => s
  | n + 1, s, target =>
    if s.vectorReady target then
      match s.bestFor 2 target with
      | some (key, _) =>
        State.sendVector n ((s.activate key 2 target).emit
          (.msix (s.activeFn (target / 256)) (target % 256) (eventCode (key / 4096) (key % 4096)))) target
      | none => s
    else s

/-- Let a target take what qualifies (R388, R391). -/
def State.serveTarget (s : State) (kind target : Nat) : State :=
  if kind = 1 then s.presentCore target else if kind = 2 then State.sendVector 8 s target else s

/-- Wake of a sleeping Keeper core (R395). -/
def State.wakeTarget (s : State) (kind target : Nat) : State :=
  if kind = 1 ∧ sparseGet (fun _ => false) s.events.asleep target then
    ({ s with events := { s.events with asleep := sparseSet (fun _ => false) s.events.asleep target false } }).emit
      (.wakeCore (target / 8) (target % 8))
  else s

/-- PM_PME of a function that cannot take a message, when PME is enabled for it (R397). -/
def State.signalPme (s : State) (kind target : Nat) : State :=
  let fn := s.activeFn (target / 256)
  let p := s.fnPower fn
  if kind = 2 ∧ (!p.d0 || p.linkLow) = true ∧ p.pmeEnable = true then s.emit (.pme fn) else s

/-- A wake starts (R466): from Smoulder, Banked, or an entry, whose current step still ends; POWER_STATE_CHANGE is raised (R461). From
Smoulder it completes within 300 ms (R467). -/
def State.startWake (s : State) (reason source : Nat) : State :=
  if s.rd Od.powerState = 0 ∨ s.rd Od.powerState = 5 then s
  else
    let s1 := (((s.wr Od.powerState 5).wr Od.wakeReason reason).wr Od.wakeSource source).later 0 (.eventFire (s.rd Od.leadDie) 0x162)
    if s.rd Od.powerState = 2 then s1.later 300000000 .smoulderWake else s1

/-- Whether the package can be woken by an event: in Smoulder and on the way into it (R466). -/
def State.lightSleep (s : State) : Bool :=
  let p := s.rd Od.powerState
  p = 2 || ((p = 1 || p = 3) && decide (s.power.entryStep < 5))

/-- Start of the wake to Run by a WAKE source (R396, R466). -/
def State.wakePackage (s : State) (wake : Bool) (code : Nat) : State := if wake && s.lightSleep then s.startWake 2 code else s

/-- A fault of a unit that runs in Smoulder is a wake source, whatever its WAKE (R462). -/
def State.wakeFault (s : State) (d source : Nat) : State := if s.rd Od.powerState = 2 then s.startWake 2 (eventCode d source) else s

/-- Whether a source can fire in the power state (R466). -/
def State.canFire (s : State) (d n : Nat) : Bool :=
  if s.rd Od.powerState = 4 then false
  else if s.rd Od.powerState = 2 then
    decide (n < 0x100) || (decide (0x160 ≤ n) && decide (n < 0x164))
      || (d = s.rd Od.leadDie && ((decide (0x180 ≤ n) && decide (n < 0x190)) || (decide (0x140 ≤ n) && decide (n < 0x144)) || n = 0x156))
  else true

/-- An event source fires (R386, R387). -/
def State.fire (s : State) (d n : Nat) : State :=
  let key := d * 4096 + n
  let e := s.source key
  if !s.sourceExists d n || !s.canFire d n || !e.enable || e.targetKind = 0 then s
  else if e.state ≠ 0 then
    (s.setSource key { e with lost := min 255 (e.lost + 1) }).bump Od.evcLostTotal (dieInst d)
  else
    let t := s.targetOf e.targetKind e.target
    ((((s.setSource key { e with state := 1 }).wakePackage e.wake (eventCode d n)).wakeTarget e.targetKind t).signalPme e.targetKind t).serveTarget
      e.targetKind t

/-- Fire a package event on the lead die (R382, R436). -/
def State.fireLead (s : State) (n : Nat) : State := s.fire (s.rd Od.leadDie) n

/-- End an active event of a target: the source becomes IDLE and the next is taken (R390, R391). -/
def State.endEvent (s : State) (kind target code : Nat) : State :=
  let key := code
  let e := s.source key
  let s1 := s.setActive kind target ((s.activeOf kind target).filter fun a => a.code ≠ code)
  (s1.setSource key { e with state := 0, takenKind := 0, takenBy := 0 }).serveTarget kind target

/-- The next active or waiting event of a source that has just become IDLE after a retarget (R393) is taken by its target. -/
def State.serveSource (s : State) (key : Nat) : State :=
  let e := s.source key
  s.serveTarget e.targetKind (s.targetOf e.targetKind e.target)

end Sys2Proof.Machine
end

