-- ==== Sys2Proof/Machine/LinkOps.lean ====
section
/-! DEFINITION. Port layouts, the links of ports and lanes, the start of training and the codewords that a port sends (R65 to R76, R90, R93). -/

namespace Sys2Proof.Machine

/-- Lanes of a port mode (R66). -/
def modeLanes (m : Nat) : Nat :=
  if m = 1 ∨ m = 5 ∨ m = 9 then 1 else if m = 2 ∨ m = 6 ∨ m = 10 then 2 else if m = 3 ∨ m = 7 ∨ m = 11 then 4
  else if m = 4 ∨ m = 8 ∨ m = 12 then 8 else 0

/-- Rate of a port mode in Gb/s (R66). -/
def modeRate (m : Nat) : Nat :=
  if m ≤ 4 then 100 * modeLanes m else if m ≤ 8 then 200 * modeLanes m else 400 * modeLanes m

/-- Rate group of a port mode: 0 IEEE, 1 L400 (R66). -/
def modeGroup (m : Nat) : Nat := if m ≤ 8 then 0 else 1

/-- PORT_MODE of lane `n`. -/
def State.portModeOf (s : State) (n : Nat) : Nat := s.rd Od.portMode (portInst n)

/-- PORT_STATE of port `n`; a lane with no port counts as DISABLED (R67). -/
def State.portStateOf (s : State) (n : Nat) : Nat := if s.portModeOf n = 0 then 0 else s.rd Od.portState (portInst n)

/-- Lane 0 of the octet of lane `n`. -/
def octetLane (n : Nat) : Nat := n / 8 * 8

/-- The port that a lane starts or belongs to (R66). -/
def State.portOfLane (s : State) (n : Nat) : Option Nat :=
  ((List.range 8).map (octetLane n + ·)).find? fun m =>
    s.portModeOf m ≠ 0 && decide (m ≤ n) && decide (n < m + modeLanes (s.portModeOf m))

/-- Whether a lane belongs to a port that is UP. -/
def State.laneUp (s : State) (n : Nat) : Bool :=
  match s.portOfLane n with
  | some p => s.portStateOf p = 2
  | none => false

/-- Training of a lane at rest. -/
def LaneLink.fresh : LaneLink :=
  { step := 0, since := 0, pamSeen := 0, partnerReady := false, bothReady := 0, found := 0, missed := 0, aligned := false, count := 0, foundAt := 0,
    prbs := 0, bip := 0 }

/-- A port's link before it has been enabled. -/
def PortLink.fresh : PortLink :=
  { noPartner := false, badProfile := false, judgeAt := 0, stored := none, quick := false, drainFrom := 0, blocks := [], index := 0, part := 0 }

def State.laneLink (s : State) (n : Nat) : LaneLink := sparseGet (fun _ => LaneLink.fresh) s.links.lanes n
def State.setLaneLink (s : State) (n : Nat) (x : LaneLink) : State :=
  { s with links := { s.links with lanes := sparseSet (fun _ => LaneLink.fresh) s.links.lanes n x } }
def State.portLink (s : State) (n : Nat) : PortLink := sparseGet (fun _ => PortLink.fresh) s.links.ports n
def State.setPortLink (s : State) (n : Nat) (x : PortLink) : State :=
  { s with links := { s.links with ports := sparseSet (fun _ => PortLink.fresh) s.links.ports n x } }

/-- Lanes of port `n`. -/
def State.lanesOf (s : State) (n : Nat) : List Nat := (List.range (modeLanes (s.portModeOf n))).map (n + ·)

/-! Training (R73 to R76). -/

/-- A lane sends a training frame (R73), and its pattern register moves on. -/
def State.sendTraining (s : State) (n control status : Nat) : State :=
  let x := s.laneLink n
  let p := trainingPattern (bits control 6 5 = 1) x.prbs
  (s.setLaneLink n { x with prbs := p.2 }).emit (.training n control status (trainingFrame control status p.1))

/-- A lane begins an attempt at step 1 of R74 with PRESET frames, with INIT where it begins again. Its pattern register starts at a free value
(DESIGN CHOICE, log 7). -/
def State.beginLane (s : State) (p : Nat) (again : Bool) (n : Nat) : State :=
  ((s.setLaneLink n { LaneLink.fresh with step := 1, since := s.up, prbs := s.freeBits 31 }).useFree).sendTraining n
    (0x1000 + 3 * 128 + 16 * b2n again) (0x1000 + (n - p) * 8)

/-- Training begins, in L400 on every lane at step 1, from the coefficients stored at the last UP where `quick` says so (R74, R76); in IEEE modes with
auto-negotiation where the medium is CR or KR and PORT_AN asks for it, and for C2M with the transmit preset (R69, R93). Lane n's taps are those stored. -/
def State.startTraining (s : State) (n : Nat) (quick : Bool) : State :=
  let i := portInst n
  let l := s.portLink n
  let taps := if quick then l.stored.getD [] else []
  let s1 := (s.setPortLink n { l with quick := quick && l.stored.isSome, badProfile := false, judgeAt := s.up + 500000000 }).wr Od.portState 1 i
  let s2 := ((s.lanesOf n).zip taps).foldl (fun (a : State) e => a.wr Od.laneTxTaps e.2 (portInst e.1)) s1
  if modeGroup (s.portModeOf n) = 1 then (s.lanesOf n).foldl (fun (a : State) m => a.beginLane n false m) s2
  else
    let medium := s.rd Od.portMedium i
    ((s.lanesOf n).foldl (fun (a : State) m => a.setLaneLink m { LaneLink.fresh with since := s.up }) s2).emit
      (.link 4 n ([medium, if medium = 0 then s.rd Od.portTxPreset i else s.rd Od.portAn i] ++ taps))

/-- Training restarts from step 1 with INIT = 1, in full, and the restart is counted (R74). -/
def State.restartTraining (s : State) (n : Nat) : State :=
  (s.lanesOf n).foldl (fun (a : State) m => a.beginLane n true m)
    ((s.setPortLink n { s.portLink n with quick := false }).bump Od.l400TrainRestarts (portInst n))

/-- Limit in ns of a step of R74 from the start of the attempt; a retrain from stored coefficients has 100 ms in all (R76). -/
def trainStepLimit (quick : Bool) (step : Nat) : Nat :=
  let t := if step = 1 then 20000000 else if step = 2 then 120000000 else if step = 3 then 200000000 else 250000000
  if quick then min t 100000000 else t

/-- Whether lane `m` of a port has finished its steps: ready with alignment lock. -/
def LaneLink.done (x : LaneLink) : Bool := x.step = 4 && x.aligned

/-- Whether a step of a training port has gone over its limit, or a whole attempt over 1 s (R74). While the partner is known to be missing the attempts
are those of R75. -/
def State.stepOverdue (s : State) (n : Nat) : Bool :=
  let l := s.portLink n
  s.portStateOf n = 1 && modeGroup (s.portModeOf n) = 1 && (s.lanesOf n).any fun m =>
    let x := s.laneLink m
    !(l.noPartner && x.step = 1) && !x.done && decide (x.since + trainStepLimit l.quick x.step ≤ s.up) || decide (x.since + 1000000000 ≤ s.up)

/-- Whether the want of a partner is to be judged now: no lane has locked to a marker, or the partner has shown another profile (R75). -/
def State.partnerMissing (s : State) (n : Nat) : Bool :=
  let l := s.portLink n
  s.portStateOf n = 1 && modeGroup (s.portModeOf n) = 1 && (l.badProfile || (s.lanesOf n).all fun m => (s.laneLink m).step ≤ 1)
    && (decide (l.judgeAt ≤ s.up) || (l.badProfile && !l.noPartner))

/-- A port becomes DISABLED: transmit is squelched. -/
def State.squelch (s : State) (n : Nat) : State :=
  (s.lanesOf n).foldl (fun a m => a.setLaneLink m LaneLink.fresh) ((s.wr Od.portState 0 (portInst n)).emit (.link 2 n []))

/-- A port begins to drain (R90). -/
def State.beginDrain (s : State) (n : Nat) : State := (s.setPortLink n { s.portLink n with drainFrom := s.up }).wr Od.portState 4 (portInst n)

/-- Whether PORT_DRAIN_LIMIT has passed since a drain began (R90). -/
def State.drainExpired (s : State) (n : Nat) : Bool :=
  decide ((s.portLink n).drainFrom + s.rd Od.portDrainLimit (portInst n) * 1000 ≤ s.up)

/-! Codewords (R70 to R72, R93). -/

/-- The octets of a frame that a port sends are coded in L400 (R70 step 1). -/
def State.codeFrame (s : State) (n : Nat) (frame : List Byte) : State :=
  let x := s.portLink n
  if modeGroup (s.portModeOf n) = 1 then s.setPortLink n { x with blocks := x.blocks ++ encode66 frame } else s

/-- The next codeword of an L400 port (R70 steps 2 to 6, R72): codeword i goes whole on lane i mod k, and the first block of every 4,096th of a lane is an
alignment block. Where no block waits, idle is sent. -/
def State.sendCodeword (s : State) (n : Nat) : State :=
  let x := s.portLink n
  let k := max 1 (modeLanes (s.portModeOf n))
  let lane := x.index % k
  let j := x.index / k
  let y := s.laneLink (n + lane)
  let first := decide (j % 4096 = 0)
  let blocks := x.blocks ++ List.replicate 80 idleBlock
  let count := if first then 19 else 20
  let head := if first then bitsDown 257 (alignmentBlock lane (j / 4096) y.bip) else []
  let word := codewordBits (head ++ transcodeAll count blocks)
  let bip := if first then bipOf (word.drop 257) 0 0 else bipOf word 7 y.bip
  ((s.setPortLink n { x with blocks := x.blocks.drop (4 * count), index := x.index + 1 }).setLaneLink (n + lane) { y with bip := bip }).emit
    (.codeword (n + lane) (pamPairs 1088 word))

/-- One nanosecond of the lines of a port that is UP: a codeword for each 51.2 ns at 100 Gb/s passes in each direction (R69, R70). -/
def State.linePort (s : State) (n : Nat) : State :=
  if s.portStateOf n ≠ 2 then s
  else
    let x := s.portLink n
    let part := x.part + modeRate (s.portModeOf n) / 10
    let s1 := s.setPortLink n { x with part := part % 512 }
    if part < 512 then s1
    else
      let s2 := if s.rd Od.portFec (portInst n) = 0 then s1.bump Od.fecCodewords (portInst n) else s1
      if modeGroup (s.portModeOf n) = 1 then s2.sendCodeword n else s2

/-- One nanosecond of the lines of every port. -/
def State.lineClock (s : State) : State := s.links.ports.foldl (fun (a : State) e => a.linePort e.1) s

end Sys2Proof.Machine
end

