-- ==== Sys2Proof/Machine/FaultOps.lean ====
section
/-! DEFINITION. Shared operations of faults and recovery: the engine reset, recording an error with its reactions, spares
and retirement, role handovers (R399 to R436, R472, R473). -/

namespace Sys2Proof.Machine

/-- The registers an engine reset leaves: the non-volatile objects (R326, R341, R429), the fuses and the Ember's records of the reset (R473). -/
def State.resetRegs (s : State) (cause detail : Nat) : Sparse Nat :=
  let nv := s.dict.bestNvs.objects
  let put := fun (m : Sparse Nat) (o : Obj) (v : Nat) => sparseSet Od.defaultAt m (o.key 0 0) v
  let nv := put nv Od.fusedSvn (s.rd Od.fusedSvn)
  let nv := put (put nv Od.wearForecast (s.rd Od.wearForecast)) Od.wearRetired (s.rd Od.wearRetired)
  put (put (put nv Od.resetCause cause) Od.resetCauseDetail detail) Od.resetCount (low 32 (s.rd Od.resetCount + 1))

/-- THERM_ALERT_N is low while any die is at step 3 or above 105 °C, or after a trip (R492). -/
def State.thermAlert (s : State) : Bool :=
  s.recov.trip || s.part.dies.any fun d => s.rd Od.searchThrottleStep (dieInst d) = 3 || sparseGet (fun _ => false) s.power.tooHot d

/-- The pins that an engine reset releases: FAULT_N (R409) and THERM_ALERT_N (R492). -/
def State.resetPins (s : State) : List Out := (if s.recov.pin then [.pin 4 1] else []) ++ (if s.thermAlert then [.pin 5 1] else [])

/-- An engine reset (R472): everything volatile returns to its reset value; the NVS, the part and what has been sent stay. -/
def State.engineReset (s : State) (cause detail : Nat) : State :=
  { State.reset with
    pending := s.pending
    part := s.part
    time := { TimeUnit.reset with up := s.up }
    freeCount := s.freeCount
    out := s.resetPins ++ s.out
    regs := s.resetRegs cause detail
    dict := { State.reset.dict with live := s.dict.bestNvs, nvs0 := s.dict.nvs0, nvs1 := s.dict.nvs1 }
    recov := { State.reset.recov with retired := s.recov.retired, history := s.recov.history, samples := s.recov.samples,
                                      replaced := s.recov.replaced, serviceNs := s.recov.serviceNs }
    power := { State.reset.power with hottest := s.power.hottest, railsOut := s.power.railsOut, railsLate := s.power.railsLate }
    boot := { State.reset.boot with flash0 := s.boot.flash0, flash1 := s.boot.flash1, held := s.boot.held }
    jtag := s.jtag }

/-- Seconds of package time. -/
def State.seconds (s : State) : Nat := s.ns / 1000000000

/-- NANOSECONDS of package time, bits 47:16 of it (R38). -/
def State.nanoseconds (s : State) : Nat := bits (time96 s.time.now) 47 16

/-- Reaction mask of a source and class (R404); the junction trip's is fixed to INT and PIN (R460). -/
def State.reactionMask (s : State) (source cls : Nat) : Nat :=
  if source = 0x18 then 0x11 else (s.rd Od.faultReaction 0 source / 256 ^ cls) % 32

/-- The PIN reaction: the Lamp stops at its last level and FAULT_N is asserted low (R405, R409). -/
def State.pinReaction (s : State) : State :=
  (({ s with recov := { s.recov with pin := true, lampRunning := false } }.wr Od.faultNAsserted 1).wr Od.lampState 3).emit
    (.pin 4 0)

/-! Spares: class, die, group and unit as R417 numbers them. States 0 COLD, 1 SEASONING, 2 SEASONED, 3 IN_SERVICE,
4 RETIRED (R414). -/

/-- State of a spare, read from its object where it has one. Units: lane slice: group octet; fabric lane: group, spare
0 to 3; pipelines: class 2 or 3; thread: group pipeline (egress at 16 on), unit 0 to 35; tile: 0 to 7; row: group macro,
0 to 15; search bank: group array; channel: physical channel; core: slot; PLL: number; PCIe: host-die index. -/
def State.spareState (s : State) (cls d group unit : Nat) : Nat :=
  if cls = 0 then s.rd Od.spareSliceState (portInst (d * 64 + group * 8))
  else if cls = 1 then s.rdOctet Od.fabricSpareState (dieInst d) group unit
  else if cls = 2 then s.rdOctet Od.sparePipelineState (dieInst d) 0 0
  else if cls = 3 then s.rdOctet Od.sparePipelineState (dieInst d) 0 1
  else if cls = 4 then
    if group < 16 then s.rdOctet Od.aeThreadState (pipeInst (d * 16 + group)) 0 unit
    else s.rdOctet Od.aeThreadState.egress (pipeInst (d * 16 + (group - 16))) 0 unit
  else if cls = 8 then s.rdOctet Od.hbmChannelState (dieInst d) 0 unit
  else if cls = 9 then s.rdOctet Od.keeperCoreState (dieInst d) 0 unit
  else sparseGet (fun _ => 0) s.recov.spares (spareKey cls d group unit)

/-- Write the state of a spare where `spareState` reads it. -/
def State.setSpare (s : State) (cls d group unit v : Nat) : State :=
  if cls = 0 then s.wr Od.spareSliceState v (portInst (d * 64 + group * 8))
  else if cls = 1 then s.wrOctet Od.fabricSpareState (dieInst d) group unit v
  else if cls = 2 then s.wrOctet Od.sparePipelineState (dieInst d) 0 0 v
  else if cls = 3 then s.wrOctet Od.sparePipelineState (dieInst d) 0 1 v
  else if cls = 4 then
    if group < 16 then s.wrOctet Od.aeThreadState (pipeInst (d * 16 + group)) 0 unit v
    else s.wrOctet Od.aeThreadState.egress (pipeInst (d * 16 + (group - 16))) 0 unit v
  else if cls = 8 then s.wrOctet Od.hbmChannelState (dieInst d) 0 unit v
  else if cls = 9 then s.wrOctet Od.keeperCoreState (dieInst d) 0 unit v
  else { s with recov := { s.recov with spares := sparseSet (fun _ => 0) s.recov.spares (spareKey cls d group unit) v } }

/-- Spare units of a group, by class (R417). -/
def spareUnits (cls : Nat) : List Nat :=
  if cls = 1 then [0, 1, 2, 3]
  else if cls = 4 then List.range 36
  else if cls = 5 then List.range 8
  else if cls = 6 then List.range 16
  else if cls = 8 then List.range 32
  else if cls = 9 then List.range 5
  else if cls = 10 then [0, 1]
  else [0]

/-- Whether a class has a spare at all now: PCIe interfaces count only when paired (R416). -/
def State.classInUse (s : State) (cls : Nat) : Bool := cls ≠ 11 || s.rd Od.pciePairing = 1

/-- Usable spares of a group: Cold, Seasoning or Seasoned (R416). Of the pair of PLLs the one not in use counts, of the
paired interfaces the idle one. -/
def State.usableSpares (s : State) (cls d group : Nat) : Nat :=
  if !s.classInUse cls then 0
  else if cls = 10 then if s.spareState 10 d group (1 - s.rd Od.pllInUse (dieInst d)) = 4 then 0 else 1
  else if cls = 11 then
    if s.spareState 11 0 0 (1 - s.hostIndex (s.rd Od.pcieActiveDie)) = 4 then 0 else 1
  else ((spareUnits cls).filter fun u => s.spareState cls d group u < 3).length

/-- Whether a group is LOW (R416). -/
def State.groupLow (s : State) (cls d group : Nat) : Bool :=
  s.classInUse cls && (s.recov.retired.any fun r => r.cls = cls && r.die = d && r.group = group)
    && decide (s.usableSpares cls d group ≤ 1)

/-- SPARES_LOW: bit c set when a group of class c is LOW anywhere (R416). Only groups with a retirement can be LOW. -/
def State.sparesLow (s : State) : Nat :=
  s.recov.retired.foldl (fun m r => if s.groupLow r.cls r.die r.group then m ||| 2 ^ r.cls else m) 0

/-- Bring LAMP_STATE up to date with the spares (R406). -/
def State.lampUpdate (s : State) : State :=
  if s.recov.lampRunning ∧ (s.rd Od.lampState = 1 ∨ s.rd Od.lampState = 2) then
    s.wr Od.lampState (if s.sparesLow = 0 then 1 else 2)
  else s

/-- Add one to the count of retirements of a class (0x7480.03). -/
def State.countRetired (s : State) (cls : Nat) : State :=
  let v := s.rd Od.wearRetired
  let n := (v / 65536 ^ (11 - cls)) % 65536
  s.wr Od.wearRetired (v - n * 65536 ^ (11 - cls) + ((n + 1) % 65536) * 65536 ^ (11 - cls))

/-- Retire a unit (R415, R416, R429): kept in the NVS, SPARE_RETIRED raised, SPARES_LOW and the Lamp when its group becomes
LOW. -/
def State.retire (s : State) (cls d group unit source : Nat) : State :=
  let was := s.groupLow cls d group
  let r : Retirement := { cls := cls, die := d, group := group, unit := unit, seconds := s.seconds, source := source }
  let kept := if s.recov.retired.length < 1024 then s.recov.retired ++ [r] else s.recov.retired
  let s1 := ({ s with recov := { s.recov with retired := kept } }.countRetired cls).fireLead 0x171
  if !was && s1.groupLow cls d group then (s1.fireLead 0x172).lampUpdate else s1

/-- The events of a core that has been replaced or reset (R390): those active are ended by the firmware, those presented are presented
again. -/
def State.handCore (s : State) (t : Nat) : State :=
  ((s.activeOf 1 t).foldl (fun a e => a.endEvent 1 t e.code) (s.unpresent t none)).presentCore t

/-- Keeper cores of a die that have been taken out of service. -/
def State.coresOut (s : State) (d : Nat) : Nat :=
  ((List.range 5).filter fun k => s.rdOctet Od.keeperCoreState (dieInst d) 0 k = 4).length

/-- The physical core that has a core's number: its own, or the spare. -/
def State.coreUnit (s : State) (d core : Nat) : Nat := if s.rdOctet Od.keeperCoreState (dieInst d) 0 core = 4 then 4 else core

/-- A core is taken out of service (R422): the spare takes the number of one of 0 to 3, and raises KEEPER_CORE_SPARED; core 4 is the idle spare itself, which
nothing replaces. When the lead cluster has two cores out of service, the handover to the standby begins. -/
def State.takeCore (s : State) (d core : Nat) : State :=
  let u := s.coreUnit d core
  if s.rdOctet Od.keeperCoreState (dieInst d) 0 u = 4 then s else
  let s1 := s.wrOctet Od.keeperCoreState (dieInst d) 0 u 4
  let s2 : State :=
    if u < 4 ∧ s1.rdOctet Od.keeperCoreState (dieInst d) 0 4 < 3 then
      ({ s1 with recov := { s1.recov with replaced := sparsePut s1.recov.replaced (spareKey 9 d 0 core) 4 } }.wrOctet Od.keeperCoreState (dieInst d) 0 4
        3).fire d 0x175
    else s1
  let s3 := (s2.retire 9 d 0 u 0x11).handCore (d * 8 + core)
  if s3.rd Od.leadDie = d ∧ 2 ≤ s3.coresOut d then { s3 with recov := { s3.recov with takeover := true } } else s3

/-- The TRAP reaction (R405): the faulted core stops at the fault and its work passes to the spare core. -/
def State.trapCore (s : State) (d core : Nat) : State := (s.takeCore d core).emit (.coreTrap d core)

/-- A Keeper core is reset (R405): its mask and its sleep end, and its events are those of a core that begins anew. -/
def State.resetCore (s : State) (d core : Nat) : State :=
  let k := d * 8 + core
  ({ s with events := { s.events with coreMask := sparseErase s.events.coreMask k, asleep := sparseErase s.events.asleep k } }).handCore k

/-- A port is reset (R403): it retrains, in full; one that was UP has lost its link (R88). -/
def State.resetPort (s : State) (n : Nat) : State :=
  match s.portOfLane n with
  | none => s
  | some p =>
    if s.portStateOf p = 0 then s
    else (if s.portStateOf p = 2 then s.fire (p / 64) (0x100 + p % 64) else s).startTraining p false

/-- The BLOCK_RESET reaction (R403, R405): a port or group retrains, a core begins anew, a PCIe link retrains; a pipeline or a thread is reset within the
next nanosecond (DESIGN CHOICE, log 127). -/
def State.blockReset (s : State) (die source location : Nat) : State :=
  let s1 : State :=
    if source = 0x00 then s.resetPort location
    else if source = 0x01 then s.breakGroup die (location / 256) 1
    else if source = 0x02 then s.breakGroup die location 1
    else if source = 0x04 ∨ source = 0x05 then { s with recov := { s.recov with resets := s.recov.resets ++ [(source, location)] } }
    else if source = 0x11 then s.resetCore die location
    else s
  s1.emit (.blockReset die source location)

/-- Apply the reactions of a mask in the order PIN, INT, TRAP, BLOCK_RESET, CHIP_RESET (R405). -/
def State.react (s : State) (mask die source location : Nat) : State :=
  let s1 := if bitOf mask 4 then s.pinReaction else s
  let s2 := if bitOf mask 0 then s1.fire die source else s1
  let s3 := if bitOf mask 1 then s2.trapCore die location else s2
  let s4 := if bitOf mask 2 then s3.blockReset die source location else s3
  if bitOf mask 3 then s4.engineReset 3 (die * 256 + source) else s4

/-- Whether an error belongs to an open record (R401). -/
def FaultRecord.sameFault (r : FaultRecord) (e : FaultError) : Bool :=
  r.isOpen && r.source = e.source && r.die = e.die && r.location = e.location

/-- Merge an error into a record (R401). -/
def FaultRecord.mergeError (r : FaultRecord) (e : FaultError) (now ns mask : Nat) : FaultRecord :=
  { r with merged := min 255 (r.merged + 1), last := now, lastTime := ns, cls := max r.cls e.cls,
           reacted := r.reacted ||| (if r.cls < e.cls then mask else 0), spareUsed := r.spareUsed || e.spareUsed,
           repairing := r.repairing || e.repairing }

/-- Bits of `a` that are not in `b`. -/
def bitsMinus (a b : Nat) : Nat := a ^^^ (a &&& b)

/-- Keep the NVS fault history of R429: every DE and FATAL record, the first UCC record of each source on each day, the
oldest replaced when 2,048 are kept. -/
def State.keepHistory (s : State) (e : FaultError) : State :=
  let day := s.seconds / 86400
  let first := !(s.recov.history.any fun h => h.getD 2 0 = 2 && h.getD 3 0 = e.source && h.getD 0 0 / 86400 = day)
  if e.cls = 1 ∨ e.cls = 3 ∨ (e.cls = 2 ∧ first = true) then
    { s with recov := { s.recov with history := ([s.seconds, e.die, e.cls, e.source, e.location] :: s.recov.history).take 2048 } }
  else s

/-- Open a new record for an error (R399 to R402). -/
def State.newRecord (s : State) (e : FaultError) (mask : Nat) : State :=
  let seq := if (s.recov.seq + 1) % 2 ^ 32 = 0 then s.recov.seq + 2 else s.recov.seq + 1
  let r : FaultRecord :=
    { seq := seq, time := low 64 (time96 s.time.now), die := e.die, cls := e.cls, spareUsed := e.spareUsed, reacted := mask,
      overflowBefore := s.recov.overflow.contains e.die, source := e.source, merged := 0, location := e.location,
      detail0 := e.detail0, detail1 := e.detail1, last := s.up, lastTime := s.nanoseconds, isOpen := true, repairing := e.repairing }
  let s1 : State :=
    { s with recov := { s.recov with seq := seq, overflow := s.recov.overflow.filter (· ≠ e.die),
                                     log := (r :: s.recov.log).take 4096 } }
  let s2 := if 4096 ≤ s.recov.log.length then s1.bump Od.faultLogOverwritten else s1
  ((s2.wr Od.faultLogNewest (low 32 seq)).keepHistory e).react mask e.die e.source e.location

/-- Records whose repair has ended close once FAULT_MERGE_WINDOW has passed since their last error (R401). -/
def State.closeRecords (s : State) : State :=
  let window := s.rd Od.faultMergeWindow * 1000
  { s with recov := { s.recov with log := s.recov.log.map fun (r : FaultRecord) =>
      { r with isOpen := r.isOpen && (r.repairing || decide (s.up < r.last + window)) } } }

/-- An error reaches the FCU of its die (R401, R402). -/
def State.recordFault (s0 : State) (e : FaultError) : State :=
  let s := (s0.wakeFault e.die e.source).closeRecords
  let mask := s.reactionMask e.source e.cls
  match s.recov.log.find? fun r => r.sameFault e with
  | some r =>
    let fresh := if r.cls < e.cls then bitsMinus mask r.reacted else 0
    let s1 : State :=
      { s with recov := { s.recov with log := s.recov.log.map fun x => if x.sameFault e then x.mergeError e s.up s.nanoseconds mask else x } }
    s1.react fresh e.die e.source e.location
  | none =>
    if 16 ≤ (s.recov.log.filter fun r => r.isOpen && r.die = e.die).length then
      let s1 := { s with recov := { s.recov with overflow := e.die :: s.recov.overflow.filter (· ≠ e.die) } }
      (s1.bump Od.faultOverflow (dieInst e.die)).react mask e.die e.source e.location
    else s.newRecord e mask

/-- Record an error given by its parts, with no repair running. -/
def State.fault (s : State) (die source cls location : Nat) (d0 : Nat := 0) (d1 : Nat := 0) : State :=
  s.recordFault { die := die, source := source, cls := cls, location := location, detail0 := d0, detail1 := d1,
                  spareUsed := false, repairing := false }

/-- Record an error that a spare repairs (class DE in its caller's choice). -/
def State.faultSpare (s : State) (die source cls location : Nat) (d0 : Nat := 0) (d1 : Nat := 0) : State :=
  s.recordFault { die := die, source := source, cls := cls, location := location, detail0 := d0, detail1 := d1,
                  spareUsed := true, repairing := false }

/-- Whether die `d` is fenced (R428). -/
def State.isFenced (s : State) (d : Nat) : Bool := s.recov.fenced.contains d

/-- The lead cluster's role moves to the other host die (R422): LEAD_DIE changes and KEEPER_TAKEOVER is raised there. -/
def State.takeLead (s : State) : State :=
  let old := s.rd Od.leadDie
  let new := if old = 0 then s.part.secondHost else 0
  (({ s with recov := { s.recov with takeover := false } }.wr Od.leadDie new).fault new 0x1A 1 old).fire new 0x176

/-- Number of the pipeline that serves octet `o` in a direction (R411, 0x7401.04). -/
def State.pipeOf (s : State) (d : Nat) (egress : Bool) (o : Nat) : Nat :=
  s.rdOctet Od.pipelineMap (dieInst d) 0 (if egress then 8 + o else o)

/-- The die's spare pipeline of a direction: the number from 0 to 8 that serves no octet. -/
def State.sparePipe (s : State) (d : Nat) (egress : Bool) : Nat :=
  ((List.range 9).filter fun p => !((List.range 8).any fun o => s.pipeOf d egress o = p)).headD 8

/-- Whether a pipeline is Retired. -/
def State.pipeRetired (s : State) (d : Nat) (egress : Bool) (p : Nat) : Bool :=
  s.recov.retired.any fun r => r.cls = (if egress then 3 else 2) && r.die = d && r.unit = p

/-- Octet served by pipeline `p`, if it serves one and is not Retired. -/
def State.octetOf (s : State) (d : Nat) (egress : Bool) (p : Nat) : Option Nat :=
  if s.pipeRetired d egress p then none else (List.range 8).find? fun o => s.pipeOf d egress o = p

/-- The master time unit moves to the other host die (R39, R424); a pulse that the old master drives ends at once (R496). -/
def State.takeTime (s : State) : State :=
  let s1 : State := { s with time := { s.time with master := 1 - s.time.master, ppsHigh := none } }
  (if s.time.ppsHigh.isSome then s1.emit (.pin 1 0) else s1).fireLead 0x179

/-- Put every port of a die DOWN (R428). -/
def State.portsDown (s : State) (d : Nat) : State :=
  (List.range 64).foldl (fun a i =>
    let n := d * 64 + i
    if a.rd Od.portState (portInst n) = 2 ∨ a.rd Od.portState (portInst n) = 1 then a.wr Od.portState 3 (portInst n) else a) s

/-- Take every fabric group of a die's peers towards it DOWN, and its own (R428). -/
def State.groupsDown (s : State) (d : Nat) : State :=
  s.part.dies.foldl (fun a x => (List.range 7).foldl (fun b g =>
    if (x = d ∨ groupPeer s.part x g = some d) ∧ b.groupState x g ≠ 0 then
      (b.emptyGroup x g).wr Od.fabricGroupState 3 (dieInst x) g
    else b) a) s

/-- Fence a die (R428): its groups and ports go DOWN, its roles move to the other host die, FATAL is recorded on source 0x17
and DIE_FENCED raised; the lead role moves when the handover ends (R422). A fenced die stays fenced. -/
def State.fence (s : State) (d cause : Nat) : State :=
  if s.isFenced d then s
  else
    let s1 := ({ s with recov := { s.recov with fenced := d :: s.recov.fenced } }.portsDown d).groupsDown d
    let lead := s1.rd Od.leadDie = d
    let s2 : State := if lead then { s1 with recov := { s1.recov with takeover := true } } else s1
    let s3 := if s2.hostDie s2.time.master = d then s2.takeTime else s2
    (s3.fault d 0x17 3 d cause).fire (if lead then (if d = 0 then s.part.secondHost else 0) else s3.rd Od.leadDie) 0x178

end Sys2Proof.Machine
end

