-- ==== Sys2Proof/Machine/RingOps.lean ====
section
/-! DEFINITION. Shared operations of the rings: index arithmetic, posting entries, completions and reports (R357 to R366,
R372, R373). -/

namespace Sys2Proof.Machine

/-- Instance of WQ `w` of function `fn` inside the model (R353). -/
def wqInst (fn w : Nat) : Nat := fn * 65536 + 0x2000 + w
/-- Instance of CQ `c` of function `fn` inside the model. -/
def cqInst (fn c : Nat) : Nat := fn * 65536 + 0x2400 + c

/-- A work queue at rest. -/
def WqRun.fresh : WqRun := { fetch := 0, doneTo := 0, copies := [], chain := none, inflight := [], tail := (0, 0) }
/-- A completion queue at rest. -/
def CqRun.fresh : CqRun := { hold := [], reports := [], arm := false, episode := false, lost := 0 }

def State.wq (s : State) (fn w : Nat) : WqRun := sparseGet (fun _ => WqRun.fresh) s.rings.wqs (fn * 1024 + w)
def State.cq (s : State) (fn c : Nat) : CqRun := sparseGet (fun _ => CqRun.fresh) s.rings.cqs (fn * 1024 + c)
def State.setWq (s : State) (fn w : Nat) (x : WqRun) : State :=
  { s with rings := { s.rings with wqs := sparseSet (fun _ => WqRun.fresh) s.rings.wqs (fn * 1024 + w) x } }
def State.setCq (s : State) (fn c : Nat) (x : CqRun) : State :=
  { s with rings := { s.rings with cqs := sparseSet (fun _ => CqRun.fresh) s.rings.cqs (fn * 1024 + c) x } }

/-- `(a - b) mod 2N` of ring indices (R357). -/
def ringDiff (n a b : Nat) : Nat := (a + 2 * n - b % (2 * n)) % (2 * n)

/-- Whether CQ `c` is full (R357). -/
def State.cqFull (s : State) (fn c : Nat) : Bool :=
  let n := s.rd Od.cqSize (cqInst fn c)
  ringDiff n (s.rd Od.cqPi (cqInst fn c)) (s.rd Od.cqCi (cqInst fn c)) = n

/-- Free slots of CQ `c`. -/
def State.cqRoom (s : State) (fn c : Nat) : Nat :=
  let n := s.rd Od.cqSize (cqInst fn c)
  n - ringDiff n (s.rd Od.cqPi (cqInst fn c)) (s.rd Od.cqCi (cqInst fn c))

/-- The CQ's event source fires and uses up its ARM (R358, R392). -/
def State.fireCq (s : State) (fn c : Nat) : State :=
  let q := s.cq fn c
  if q.arm then
    (s.setCq fn c { q with arm := false }).fire (s.hostDie (fn / 4)) (0x200 + (fn % 4) * 256 + s.rd Od.cqVector (cqInst fn c))
  else s

/-- Post one entry, given without PHASE, in the next slot of a CQ (R357, R359). -/
def State.postEntry (s : State) (fn c entry : Nat) : State :=
  let i := cqInst fn c
  let n := s.rd Od.cqSize i
  let pi := s.rd Od.cqPi i
  let phase := if pi < n then 1 else 0
  let s1 := s.emit (.dma (s.dmaHost fn) (fn % 4) (s.rd Od.cqBase i + (pi % n) * 16) (leBytes 16 (low 127 entry + phase * 2 ^ 127)))
  (s1.wr Od.cqPi ((pi + 1) % (2 * n)) i).fireCq fn c

/-- Post what waits in the hold and the report holds, oldest first, completions before reports, at most `k` entries (R372,
R373). -/
def State.pumpCq : Nat → State → Nat → Nat → State
  | 0, s, _, _ => s
  | k + 1, s, fn, c =>
    let q := s.cq fn c
    if s.cqFull fn c then s
    else
      match q.hold, q.reports with
      | e :: rest, _ => State.pumpCq k ((s.setCq fn c { q with hold := rest, episode := q.episode && !rest.isEmpty }).postEntry fn c e) fn c
      | [], r :: rest => State.pumpCq k ((s.setCq fn c { q with reports := rest }).postEntry fn c r.2) fn c
      | [], [] => s

/-- Everything that waits for CQ `c` is posted as far as there is room (R372). -/
def State.serveCq (s : State) (fn c : Nat) : State :=
  let q := s.cq fn c
  let s1 := State.pumpCq (q.hold.length + q.reports.length) s fn c
  s1.wr Od.cqHeld (s1.cq fn c).hold.length (cqInst fn c)

/-- A completion is made for CQ `c`: posted, or held with CQ_FULL once per episode (R372). -/
def State.giveCompletion (s : State) (fn c entry : Nat) : State :=
  let q := s.cq fn c
  let s1 := (s.setCq fn c { q with hold := q.hold ++ [entry] }).serveCq fn c
  let q1 := s1.cq fn c
  if q1.hold ≠ [] ∧ q1.episode = false then
    ((s1.setCq fn c { q1 with episode := true }).bump Od.cqFullEpisodes (cqInst fn c)).fire (s1.hostDie (fn / 4)) 0x157
  else s1

/-- A report is made for CQ `c` (R373): schedule reports are never dropped, a learn report is when 2,048 wait. -/
def State.giveReport (s : State) (fn c kind entry : Nat) : State :=
  let q := s.cq fn c
  if kind = 1 ∧ 2048 ≤ (q.reports.filter fun r => r.1 = 1).length then s.bump Od.reportDrops (cqInst fn c)
  else (s.setCq fn c { q with reports := q.reports ++ [(kind, entry)] }).serveCq fn c

/-- Function recorded with the CQ number in a register (R356). -/
def State.cqOwnerOf (s : State) (o : Obj) (inst : Nat := 0) (k : Nat := 0) : Nat :=
  sparseGet (fun _ => 0) s.rings.cqOwner (o.key inst k)

/-- A WORK completion without PHASE (R366). -/
def workEntry (status w forced last count aux user : Nat) : Nat :=
  low 32 user + low 32 aux * 2 ^ 32 + low 16 count * 2 ^ 64 + low 16 last * 2 ^ 80 + forced * 2 ^ 96 + low 10 w * 2 ^ 102
    + status * 2 ^ 112 + 0x20 * 2 ^ 120

/-- Post a completion of WQ `w` that covers every descriptor from WQ_CI to `last` (R365). -/
def State.coverTo (s : State) (fn w last : Nat) (st : Status) (forced aux user : Nat) : State :=
  let i := wqInst fn w
  let n := s.rd Od.wqSize i
  let ci := s.rd Od.wqCi i
  let count := ringDiff n (last + 1) ci
  (s.wr Od.wqCi ((last + 1) % (2 * n)) i).giveCompletion fn (s.rd Od.wqCq i) (workEntry st.code w forced last count aux user)

/-- The operations at the front of a WQ that have a result finish in ring order, at most `k` of them (R365). -/
def State.finishOps : Nat → State → Nat → Nat → State
  | 0, s, _, _ => s
  | k + 1, s, fn, w =>
    let q := s.wq fn w
    match q.inflight with
    | [] => s
    | op :: rest =>
      match op.result with
      | none => s
      | some (st, aux) =>
        let n := s.rd Od.wqSize (wqInst fn w)
        let s1 := s.setWq fn w { q with inflight := rest, doneTo := (op.last + 1) % (2 * n), tail := (op.user, aux) }
        let s2 :=
          if st ≠ .ok ∨ op.batch = false then s1.coverTo fn w op.last st 0 aux op.user
          else if n / 2 ≤ ringDiff n (op.last + 1) (s1.rd Od.wqCi (wqInst fn w)) then s1.coverTo fn w op.last .ok 1 aux op.user
          else s1
        State.finishOps k s2 fn w

/-- An operation waiting under a token gets its result (R365). -/
def State.completeToken (s : State) (fn w token : Nat) (st : Status) (aux : Nat) : State :=
  let q := s.wq fn w
  let ops := q.inflight.map fun o => if o.token = token ∧ token ≠ 0 then { o with result := some (st, aux), token := 0 } else o
  State.finishOps ops.length (s.setWq fn w { q with inflight := ops }) fn w

/-- Operations in flight of every WQ bound to CQ `c`, and the completions it holds (R372). -/
def State.cqLoad (s : State) (fn c : Nat) : Nat :=
  (s.cq fn c).hold.length +
    (s.rings.wqs.foldl (fun a e => if e.1 / 1024 = fn ∧ s.rd Od.wqCq (wqInst fn (e.1 % 1024)) = c then a + e.2.inflight.length else a) 0)

/-! Schedule reports (R58). -/

/-- A schedule report without PHASE (R58). -/
def schedEntry (kind status stepped held gen inst index sub epoch lastSeq : Nat) : Nat :=
  low 32 lastSeq + low 32 epoch * 2 ^ 32 + low 8 sub * 2 ^ 64 + low 16 index * 2 ^ 72 + low 16 inst * 2 ^ 88
    + low 2 gen * 2 ^ 104 + held * 2 ^ 110 + stepped * 2 ^ 111 + status * 2 ^ 112 + kind * 2 ^ 120

/-- Post a schedule report on SCHED_REPORT_CQ, if one is named (R58). -/
def State.schedReport (s : State) (entry : Nat) : State :=
  let c := s.rd Od.schedReportCq
  if c = 0xFFFF then s else s.giveReport (s.cqOwnerOf Od.schedReportCq) c 0 entry

/-- Report slots the pending changes may still need, two each (R373). -/
def State.schedRoom (s : State) : Bool :=
  let c := s.rd Od.schedReportCq
  if c = 0xFFFF then true
  else
    decide (((s.cq (s.cqOwnerOf Od.schedReportCq) c).reports.filter fun r => r.1 = 0).length
      + 2 * (s.sched.changes.length + 1) + s.sched.holds.length ≤ 2048)

end Sys2Proof.Machine
end

