-- ==== Sys2Proof/Machine/Sched.lean ====
section
/-! DEFINITION. Scheduled changes: acceptance, cancelling, generations, holds and their release (R48 to R58, R61, R345). -/

namespace Sys2Proof.Machine

/-- The lead rule of R48: the resolved unwrapped epoch of a request that names `e`, if its lead allows. -/
def State.resolveEpoch (s : State) (e : Nat) : Option Nat :=
  let d := low 32 (e + 2 ^ 32 - s.epoch32)
  if 4 ≤ d ∧ d ≤ 0x7FFFFFFF then some (s.time.epoch + d) else none

/-- Accept a change into the pending list (R49, R345) and deliver it to every populated die. -/
def State.addChange (s : State) (epoch : Nat) (a : Address) (value : Nat) (keeper : Bool) (writer : Nat) : State :=
  let c : Change :=
    { order := s.sched.nextOrder, epoch := epoch, inst := a.inst, index := a.index, sub := a.sub, value := value,
      keeper := keeper, writer := writer, accepted := s.up, acked := [] }
  let s1 : State := { s with sched := { s.sched with changes := s.sched.changes ++ [c], nextOrder := s.sched.nextOrder + 1 } }
  s.part.dies.foldl (fun t d =>
    let t1 := t.emit (.control (s.rd Od.leadDie) d 1 [c.order, epoch, a.inst, a.index, a.sub, value])
    if s.isFenced d then t1 else t1.later 0 (.scheduleMsg d c.order)) s1

/-- Whether one more change fits the limit of 1,024 and the report hold (R50, R373). -/
def State.changeRoom (s : State) : Bool := decide (s.sched.changes.length < 1024) && s.schedRoom

/-- Whether a change is of the object at an address. -/
def Change.isFor (c : Change) (a : Address) : Bool := c.inst = a.inst && c.index = a.index && c.sub = a.sub

/-- The newest value pending for an object (R334): the one accepted last. -/
def State.newestPending (s : State) (a : Address) : Option Change := (s.sched.changes.filter (·.isFor a)).getLast?

/-- Banks named by a group mask of a rule set, in order (R126, R127): array * 16 + bank, mirrored sets under array 4, egress sets under 5. -/
def groupBanks (set mode mask : Nat) : List Nat :=
  if mode = 2 then ((List.range 32).filter fun i => bitOf mask i).map fun i => i / 8 * 16 + i % 8
  else if set < 8 then ((List.range 8).filter fun i => bitOf mask i).map fun i => 64 + i
  else ((List.range 4).filter fun i => bitOf mask i).map fun i => 80 + i

/-- Banks of the live or the shadow group of a set. -/
def State.setBanks (s : State) (set : Nat) (shadow : Bool) : List Nat :=
  groupBanks set (s.rd Od.asaSetMode 0 set) (s.rd (if shadow then Od.asaSetShadowBanks else Od.asaSetBanks) 0 set)

/-- The pending gates of a set take the epoch of an accepted commit, or lose it again when the commit is cancelled (R137). -/
def State.gateEpoch (s : State) (set old : Nat) (epoch : Option Nat) : State :=
  let banks := s.setBanks set false
  let f := fun (e : Nat × AsaRow) =>
    if banks.contains (e.1 / 4096) then
      match epoch with
      | some x => if e.2.gate = 1 ∨ e.2.gate = 2 then (e.1, { e.2 with gate := e.2.gate + 2, epoch := x }) else e
      | none => if (e.2.gate = 3 ∨ e.2.gate = 4) ∧ e.2.epoch = old then (e.1, { e.2 with gate := e.2.gate - 2, epoch := 0 }) else e
    else e
  { s with asa := { s.asa with rows := s.asa.rows.map f } }

/-- Gates of a commit take another epoch. -/
def State.moveGates (s : State) (set old new : Nat) : State :=
  let banks := s.setBanks set false
  let f := fun (e : Nat × AsaRow) =>
    if banks.contains (e.1 / 4096) = true ∧ e.2.epoch = old ∧ 3 ≤ e.2.gate then (e.1, { e.2 with epoch := new }) else e
  { s with asa := { s.asa with rows := s.asa.rows.map f } }

/-- The rule set that a change commits (R137), if it is a commit. -/
def Change.commits (c : Change) : Option Nat := if 0x3800 ≤ c.index ∧ c.index < 0x380C ∧ c.sub = 6 then some (c.index - 0x3800) else none

/-- Remove the changes that `p` selects and post CHANGE_CANCELLED for each with a status (R26, R52, R434). The gates of a commit wait for
another. -/
def State.cancelChanges (s : State) (p : Change → Bool) (st : Status) : State :=
  let gone := s.sched.changes.filter p
  let s0 : State := { s with sched := { s.sched with changes := s.sched.changes.filter fun c => !p c } }
  let s1 := gone.foldl (fun (t : State) c => match c.commits with
    | some set => t.gateEpoch set c.epoch none
    | none => t) s0
  gone.foldl (fun t c => t.schedReport (schedEntry 4 st.code 0 0 t.sched.gen c.inst c.index c.sub c.epoch 0xFFFFFFFF)) s1

/-- Package events of a change's kind. -/
def evSwapDone : Nat := 0x144
/-- Event BANK_RELEASED. -/
def evBankReleased : Nat := 0x145

/-- Keep a value for the generations that still use it, when `slot` changes at a boundary where G has become `gen` (R54). -/
def keepForOlder (m : Sparse Nat) (gen slot old : Nat) : Sparse Nat :=
  ([0, 1, 2, 3].filter (· ≠ gen)).foldl (fun a g =>
    match sparseFind? a (g * 2 ^ 48 + slot) with
    | some _ => a
    | none => sparsePut a (g * 2 ^ 48 + slot) old) m

/-- G advances by one, modulo 4; what the reused generation kept is forgotten (R55, R56). -/
def State.advanceGen (s : State) : State :=
  let g := (s.sched.gen + 1) % 4
  { (s.wr Od.genCurrent g) with
    sched := { s.sched with gen := g, genRegs := s.sched.genRegs.filter fun e => e.1 / 2 ^ 48 ≠ g } }

/-- A register changes at a boundary; with `tagged` the older generations keep the old value (R54, R345). -/
def State.changeReg (s : State) (key value : Nat) (tagged : Bool) : State :=
  let old := sparseGet Od.defaultAt s.regs key
  { s with regs := sparseSet Od.defaultAt s.regs key value,
           sched := { s.sched with genRegs := if tagged then keepForOlder s.sched.genRegs s.sched.gen key old else s.sched.genRegs } }

/-- A family's shadow bank becomes live; with `tagged` the older generations keep the old bank, which is held (R54, R57). -/
def State.flipBank (s : State) (f : Nat) (a : Address) (epoch : Nat) (tagged : Bool) : State :=
  let x := s.fam f
  let h : Hold := { fam := f, bank := x.live, epoch := epoch, inst := a.inst, index := a.index, sub := a.sub,
                    gens := (if tagged then [0, 1, 2, 3].filter (· ≠ s.sched.gen) else []).flatMap fun g =>
                      s.part.dies.map fun d => d * 4 + g,
                    lastSeq := x.lastSeq }
  let s1 := s.setFam f { x with live := 1 - x.live, disagree := [] }
  { s1 with sched := { s1.sched with
      genRegs := if tagged then keepForOlder s1.sched.genRegs s1.sched.gen (2 ^ 47 + f) x.live else s1.sched.genRegs,
      holds := s1.sched.holds ++ [h] } }

/-- A die reports the generations with no packets in flight (R252); a generation with packets in flight there is not idle. -/
def State.reportIdle (s : State) (d mask : Nat) : State :=
  let idle := fun (p : Nat) => p / 4 = d && bitOf mask (p % 4) && decide (sparseGet (fun _ => 0) s.sched.flight p = 0)
  { s with sched := { s.sched with holds := s.sched.holds.map fun h => { h with gens := h.gens.filter fun p => !idle p } } }

/-- Whether a held bank may be released at the boundary of the current epoch (R57); a fenced die counts as drained. -/
def State.holdDone (s : State) (h : Hold) : Bool :=
  (h.gens.all fun p => s.isFenced (p / 4)) && decide (h.epoch + 2 ≤ s.time.epoch)

/-- Report and event of a released bank (R57, R58). -/
def State.announceRelease (s : State) (h : Hold) : State :=
  (s.schedReport (schedEntry 2 0 0 0 s.sched.gen h.inst h.index h.sub s.time.epoch h.lastSeq)).fireLead evBankReleased

/-- Family bit of ORPHANED (R433). -/
def orphanBit (f : Nat) : Nat :=
  if f = 0x30 then 0
  else if 0x100 ≤ f ∧ f < 0x10C then 1
  else if f = 0x4B then 3
  else if f = 0x54 then 6
  else if f = 0x58 then 4
  else if 0x200 ≤ f ∧ f < 0x202 then 5
  else if f < 0x100 then 2
  else 7

/-- Record who last wrote a family (R433). -/
def State.touchFam (s : State) (f writer : Nat) : State := s.setFam f { s.fam f with lastWriter := some writer }

/-- Families whose last writer has been reset or closed are marked in ORPHANED; ORPHANED_SET is raised when a bit is set
(R433). -/
def State.orphan (s : State) (writer : Nat) : State :=
  let hit := s.fams.filter fun e => e.2.lastWriter = some writer
  let m := hit.foldl (fun a e => a ||| 2 ^ orphanBit e.1) (s.rd Od.orphaned)
  let s1 := hit.foldl (fun t e => t.setFam e.1 { t.fam e.1 with lastWriter := none, orphaned := true }) s
  if m = s.rd Od.orphaned then s1 else (s1.wr Od.orphaned m).fireLead 0x17A

/-- A SWAP_DONE of a family: its orphan mark ends, and the bit clears when no orphaned member is left (R433). -/
def State.adopt (s : State) (f : Nat) : State :=
  let s1 := s.setFam f { s.fam f with orphaned := false }
  if s1.fams.any fun e => e.2.orphaned && orphanBit e.1 = orphanBit f then s1
  else s1.wr Od.orphaned (setBit (s1.rd Od.orphaned) (orphanBit f) false)

end Sys2Proof.Machine
end

