-- ==== Sys2Proof/Machine/Time.lean ====
section
/-! DEFINITION. External time: the tick, the servo, sources, steps and 1PPS (R38 to R47, R59 to R63). -/

namespace Sys2Proof.Machine

/-- The corrections of the last 60 s (R59). -/
def TimeUnit.recent (t : TimeUnit) : List (Nat × Int) := t.corrections.filter fun e => decide (t.up < e.1 + 60000000000)

/-- On a loss of lock the frequency correction of HOLDOVER is the average of what was corrected over the last 60 s of lock, or over the lock where it was
shorter (R59; DESIGN CHOICE, log 122). -/
def TimeUnit.averaged (t : TimeUnit) : TimeUnit :=
  { t with drift := t.recent.foldl (fun a e => a + e.2) 0, driftSpan := min 60000000000 (t.up - t.lockedAt), driftPart := 0 }

/-- A transition of TIME_STATE with its event and HOLDOVER_SINCE (R43, R59). -/
def State.toTimeState (s : State) (v : Nat) : State :=
  if s.rd Od.timeState = v then s
  else
    let s1 := (s.wr Od.timeState v).wr Od.holdoverSince (if v = 3 then time96 s.time.now else 0)
    let t := if v = 3 ∧ s.rd Od.timeState = 2 then s1.time.averaged
      else if v = 2 then { s1.time with lockedOnce := true, lockedAt := s.up, corrections := [] }
      else s1.time
    ({ s1 with time := { t with goodCount := 0, fromFreerun := if v = 1 then s.rd Od.timeState = 0 else t.fromFreerun } }).fireLead 0x140

/-- A source qualifies (R43): FREERUN and HOLDOVER go to ACQUIRING. -/
def State.sourceQualifies (s : State) : State :=
  if s.rd Od.timeState = 0 ∨ s.rd Od.timeState = 3 then s.toTimeState 1 else s

/-- The source is lost (R43). -/
def State.sourceLost (s : State) : State :=
  if s.rd Od.timeState = 2 then s.toTimeState 3
  else if s.rd Od.timeState = 1 then s.toTimeState (if s.time.lockedOnce then 3 else 0)
  else s

/-- The boundary at which a step decided now applies: the first at least two epochs later (R60). -/
def State.stepBoundary (s : State) : Nat :=
  let l := s.epochNs
  (s.ns + 2 * l + (l - 1)) / l

/-- Decide a step (R60). -/
def State.decideStep (s : State) (offset : Int) : State :=
  { s with time := { s.time with decided := some (offset, s.stepBoundary), refused := none, steppedOnce := true, goodCount := 0 } }

/-- Refuse a step beyond STEP_LIMIT (R45): shown in TIME_STEP_PENDING, the time unit back in HOLDOVER or FREERUN. R45 does not say how long the step
may be accepted: it stays pending until another step is decided or refused, whatever is measured in between (DESIGN CHOICE, log 22). -/
def State.refuseStep (s : State) (offset : Int) : State :=
  let back := if s.time.lockedOnce then 3 else 0
  let s1 : State := { s with time := { s.time with refused := some offset, goodCount := 0 } }
  let s2 := (s1.wr Od.timeStepPending (ofSigned 64 (offset / 65536))).wr Od.timeState back
  (if back = 3 ∧ s.rd Od.timeState ≠ 3 then s2.wr Od.holdoverSince (time96 s.time.now) else s2).fireLead 0x142

/-- One measurement of the offset, in 2^-16 ns, by the servo (R43 to R45). -/
def State.measure (s : State) (offset : Int) : State :=
  let s1 := s.wr Od.timeOffset (ofSigned 64 offset)
  let size := offset.natAbs
  if s1.rd Od.timeState = 1 then
    if s1.rd Od.stepThreshold * 65536 < size then
      if s1.rd Od.stepLimit * 65536 < size ∧ ¬ (s1.time.fromFreerun = true ∧ s1.time.steppedOnce = false) then s1.refuseStep offset
      else s1.decideStep offset
    else
      let good := if size ≤ 50 * 65536 then s1.time.goodCount + 1 else 0
      let s2 : State := { s1 with time := { s1.time with slew := offset, goodCount := good } }
      if 16 ≤ good then s2.toTimeState 2 else s2
  else if s1.rd Od.timeState = 2 then
    { s1 with time := { s1.time with slew := offset, corrections := (s1.up, offset) :: s1.time.recent } }
  else s1

/-- What slewing at SLEW_MAX has earned after one more nanosecond, in 2^-16 ns over 10^9 (R44). -/
def State.slewEarned (s : State) : Nat := s.time.slewPart + s.rd Od.slewMax * 65536

/-- Part of an offset that one nanosecond of slewing at SLEW_MAX takes in, in 2^-16 ns (R44). -/
def State.slewPart (s : State) : Int :=
  let most : Int := ((s.slewEarned / 1000000000 : Nat) : Int)
  if s.time.slew < 0 then max s.time.slew (-most) else min s.time.slew most

/-- What the frequency correction of HOLDOVER has earned after one more nanosecond, over its span (R59). -/
def State.driftEarned (s : State) : Int := if s.rd Od.timeState = 3 ∧ s.time.driftSpan ≠ 0 then s.time.driftPart + s.time.drift else s.time.driftPart

/-- One nanosecond of the time-unit clock (DESIGN CHOICE, log 5): once Kindling has started the time unit package time advances, with slewing and in HOLDOVER
with the averaged frequency correction (R43, R44, R59); the hours of service count in Run and Smoulder (R430). -/
def State.advance (s : State) : State :=
  let p := s.slewPart
  let span : Int := (s.time.driftSpan : Int)
  let d := if span = 0 then 0 else s.driftEarned / span
  let moved : TimeUnit :=
    if s.boot.started then
      { s.time with now := (((s.time.now + 65536 : Nat) : Int) + p + d).toNat, slew := s.time.slew - p,
                    slewPart := if s.time.slew = 0 then 0 else s.slewEarned % 1000000000, driftPart := s.driftEarned - d * span }
    else s.time
  { s with time := { moved with up := s.time.up + 1 }
           recov := { s.recov with serviceNs := s.recov.serviceNs + b2n (s.rd Od.powerState ≠ 4) } }

/-- TIME_OFFSET_MEASURE (R43, R44, R45). -/
def execTimeOffsetMeasure (offset : Int) (s : State) : Answer := .next (s.measure offset)

/-- Seconds part of the offset seen at a 1PPS_IN edge whose TAI time is known to be a whole second (R42): the nearest
second, with PPS_IN_DELAY taken off. -/
def State.edgeOffset (s : State) : Int :=
  let delay := toSigned 32 (s.rd Od.ppsInDelay) * 65536
  let sec : Nat := 1000000000 * 65536
  let near := (s.time.now + sec / 2) / sec * sec
  (near : Int) + delay - (s.time.now : Int)

/-- The written time of day applies at an edge (R42): it gives the offset and qualifies the source. -/
def State.applyTod (s : State) (v : Nat) : State :=
  let s1 : State := { s with time := { s.time with tod := none, todKnown := true } }
  s1.sourceQualifies.measure ((ofTime96 v : Int) + toSigned 32 (s.rd Od.ppsInDelay) * 65536 - (s.time.now : Int))

/-- PPS_IN_EDGE (R42, R43): the edge on the host die whose inputs the master uses is timed; a pending TOD_SET whose edges have
come applies; otherwise a known time of day gives a measurement. -/
def execPpsInEdge (h : Nat) (s : State) : Answer :=
  if h ≠ s.time.master then .next s
  else
    let s1 : State := { s with time := { s.time with lastEdge := some s.up, missedPps := 0 } }
    if s.rd Od.timeSource ≠ 2 then .next s1
    else
      match s.time.tod with
      | some (v, edges) =>
        if edges ≤ 1 then .next (s1.applyTod v)
        else .next { s1 with time := { s1.time with tod := some (v, edges - 1) } }
      | none => if s.time.todKnown then .next (s1.sourceQualifies.measure s1.edgeOffset) else .next s1

/-- PPS_IN_MISSED (R43): the third missed edge in a row is the loss of the source. -/
def execPpsInMissed (s : State) : Answer :=
  if s.rd Od.timeSource ≠ 2 then .next s
  else
    let n := s.time.missedPps + 1
    let s1 : State := { s with time := { s.time with missedPps := n } }
    if 3 ≤ n then .next s1.sourceLost else .next s1

/-- Package time of the first byte of a frame that arrives on port `n` now, with TS_RX_ADJUST added (R38, R78). -/
def State.rxStamp (s : State) (n : Nat) : Nat := ((s.time.now : Int) + toSigned 32 (s.rd Od.tsRxAdjust (portInst n))).toNat

/-- PTP_MESSAGE_RX (R41, R43, R64, R78): the message is time-stamped and passed to the Keeper on its own path, with the asymmetry correction of its link;
when the Keeper has a PTP master selected, the source qualifies. -/
def execPtpMessageRx (n : Nat) (masterSelected : Bool) (s : State) : Answer :=
  withLane s n <|
    if s.rd Od.ptpPortEnable (portInst n) = 0 then s
    else
      let s1 := s.emit (.ptp n (time96 (s.rxStamp n)) (toSigned 32 (s.rd Od.ptpAsymmetry (portInst n))))
      if masterSelected ∧ s.rd Od.timeSource = 1 then s1.sourceQualifies else s1

/-- PTP_ANNOUNCE_TIMEOUT (R43, R59). -/
def execPtpAnnounceTimeout (s : State) : Answer :=
  if s.rd Od.timeSource = 1 then .next s.sourceLost else .next s

/-- FREQ_SOURCE_LOST (R43): the frequency source is gone or beyond 50 ppm. -/
def execFreqSourceLost (s : State) : Answer :=
  if s.rd Od.freqSource ≠ 0 then .next s.sourceLost else .next s

/-- Timers after a change of package time (R398): the next expiry is the first START + k * PERIOD after the new time; a forward
step fires each armed timer once for what it skipped. -/
def State.retimeTimers (s : State) (forward : Bool) : State :=
  s.events.timers.foldl (fun t e =>
    let d := e.1 / 16
    let k := e.1 % 16
    let start := ofTime96 (s.rd Od.timerStart (dieInst d) k) / 65536
    let period := s.rd Od.timerPeriod (dieInst d) k
    let ns := t.ns
    let t1 := if forward ∧ e.2 ≤ ns then t.fire d (0x180 + k) else t
    if period = 0 then
      if e.2 ≤ ns then
        ({ t1 with events := { t1.events with timers := sparseErase t1.events.timers e.1 } }).wr Od.timerArm 0 (dieInst d) k
      else t1
    else
      let next := if ns < start then start else start + ((ns - start) / period + 1) * period
      { t1 with events := { t1.events with timers := sparsePut t1.events.timers e.1 next } }) s

/-- TIME_STEP (R60 to R62): at its boundary a decided step moves package time on all dies; forward the counter jumps, backward
it is held. The gates of a commit whose epoch is skipped show their rows from the next boundary on (R61). -/
def execTimeStep (s : State) : Answer :=
  match s.time.decided with
  | none => .next s
  | some (offset, b) =>
    if s.time.epoch < b then .next s
    else
      let now := ((s.time.now : Int) + offset).toNat
      let e := now / 65536 / s.epochNs
      let back := decide (e < s.time.epoch)
      let late := s.sched.changes.filter fun c => decide (c.epoch ≤ e)
      let s0 := late.foldl (fun (t : State) c => match c.commits with
        | some set => t.moveGates set c.epoch (e + 1)
        | none => t) s
      let s1 : State :=
        { s0 with time := { s.time with now := now, epoch := max e s.time.epoch, held := back, decided := none, slew := 0 },
                  ctrs := { s.ctrs with stepAt := some (now / 65536) } }
      .next (((s1.wr Od.timeStepPending 0).emit (.timeStep offset)).retimeTimers (decide (0 < offset)) |>.fireLead 0x143)

/-- SCHEDULE_MSG (R49): a die has taken an accepted change and acknowledges it. -/
def execScheduleMsg (d order : Nat) (s : State) : Answer :=
  withDie s d
    ({ s with sched := { s.sched with changes := s.sched.changes.map fun (c : Change) =>
        if c.order = order ∧ ¬ d ∈ c.acked then { c with acked := c.acked ++ [d] } else c } }.emit
      (.control d (s.rd Od.leadDie) 2 [order]))

/-- Whether a die has not acknowledged a pending change that was accepted 24 µs ago or longer (R49). -/
def State.ackOverdue (s : State) (d : Nat) : Bool :=
  s.sched.changes.any fun c => !c.acked.contains d && decide (c.accepted + 24000 ≤ s.up)

/-- DIE_ACK_TIMEOUT (R49, R428): a die that has not acknowledged a change within 24 µs of its acceptance is fenced. -/
def execDieAckTimeout (d : Nat) (s : State) : Answer := withDie s d (if s.ackOverdue d then s.fence d 1 else s)

/-- The instant in ns that the 1PPS_OUT functions see: package time less PPS_OUT_OFFSET (R63). -/
def State.ppsInstant (s : State) : Nat := ((s.ns : Int) - toSigned 32 (s.rd Od.ppsOutOffset)).toNat

/-- The epoch whose boundary EPOCH_MARKER sees (R63). -/
def State.ppsEpoch (s : State) : Nat := s.ppsInstant / s.epochNs

/-- PPS_OUT_PULSE (R63, R496): the pin goes high on the holder's function, for 100 ms or 1 µs. R63 does not say from where the n-th boundaries are counted:
they are those whose epoch number PPS_OUT_DIVIDER divides (DESIGN CHOICE, log 123). -/
def execPpsOutPulse (s : State) : Answer :=
  let f := s.rd Od.ppsOutFunction
  let high := fun (ns : Nat) (t : State) => ({ t with time := { t.time with ppsHigh := some (t.up + ns) } }).emit (.pin 1 1)
  if f = 1 then .next (high 100000000 s)
  else if f = 2 then
    let s1 : State := { s with time := { s.time with ppsMark := s.ppsEpoch } }
    .next (if s.ppsEpoch % s.rd Od.ppsOutDivider = 0 then high 1000 s1 else s1)
  else .next s

end Sys2Proof.Machine
end

