-- ==== Sys2Proof/Machine/Requests.lean ====
section
/-! DEFINITION. What a write of an object is given and answers, the holder objects (R346), and the writes of the time
objects (R42 to R63). -/

namespace Sys2Proof.Machine

/-- A dictionary write that has passed checks 1 to 11 of R337. -/
structure WriteCtx where
  session : Session
  /-- Kind * 65536 + ID (R335). -/
  principal : Nat
  addr : Address
  value : Nat
  slot : Option Nat
  counter : Nat

/-- Who ORPHANED takes a writer to be: the PCIe function or the KDP session (R433). -/
def sessionWriter (s : State) : Session → Nat
  | .kdp n _ => 0x60000 + n
  | x => s.principal x

/-- The writer of a request. -/
def WriteCtx.writer (c : WriteCtx) : Nat :=
  match c.session with
  | .kdp n _ => 0x60000 + n
  | _ => c.principal

/-- The outcome of check 13 and of execution: the status, the state, and the 16-octet holder record of a RESOURCE_BUSY. -/
structure WriteRes where
  status : Status
  state : State
  record : Nat

/-- A write that succeeded. -/
def WriteRes.good (s : State) : WriteRes := { status := .ok, state := s, record := 0 }

/-- A write refused with nothing changed. -/
def WriteRes.refuse (s : State) (st : Status) : WriteRes := { status := st, state := s, record := 0 }

/-- Register key of an address. -/
def addrKey (a : Address) : Nat := dictKey a.inst a.index a.sub

/-- Octets of a holder record as a number (R346). -/
def Holder.record (h : Holder) : Nat :=
  h.kind * 2 ^ 120 + h.id * 2 ^ 96 + h.inst * 2 ^ 80 + h.index * 2 ^ 64 + h.sub * 2 ^ 56 + h.since

/-- Holder of a unit, by the register key of its holder object. -/
def State.holder (s : State) (key : Nat) : Option Holder := sparseFind? s.dict.holders key

/-- Make a principal the holder. -/
def State.setHolder (s : State) (a : Address) (principal : Nat) : State :=
  let h : Holder :=
    { kind := principal / 65536, id := principal % 65536, inst := a.inst, index := a.index, sub := a.sub, since := s.epoch32 }
  { s with dict := { s.dict with holders := sparsePut s.dict.holders (addrKey a) h } }

/-- Release a unit. -/
def State.dropHolder (s : State) (key : Nat) : State :=
  { s with dict := { s.dict with holders := sparseErase s.dict.holders key } }

/-- Whether a principal other than `p` holds a unit. -/
def State.heldByOther (s : State) (key p : Nat) : Bool :=
  match s.holder key with
  | some h => decide (h.kind * 65536 + h.id ≠ p)
  | none => false

/-- RESOURCE_BUSY with the holder record (R346). -/
def WriteRes.busy (s : State) (key : Nat) : WriteRes :=
  { status := .resourceBusy, state := s, record := ((s.holder key).map (·.record)).getD 0 }

/-- A write of a holder object (R346): the releasing value is 0; a claim or a release by another principal is refused. -/
def State.claim (s : State) (c : WriteCtx) : WriteRes :=
  let key := (addrKey c.addr)
  if s.heldByOther key c.principal then WriteRes.busy s key
  else
    let s1 : State := { s with regs := sparseSet Od.defaultAt s.regs key c.value }
    if c.value = 0 then WriteRes.good (s1.dropHolder key)
    else if (s.holder key).isSome then WriteRes.good s1
    else WriteRes.good (s1.setHolder c.addr c.principal)

/-- The plain write of a register. -/
def State.store (s : State) (c : WriteCtx) : WriteRes :=
  WriteRes.good { s with regs := sparseSet Od.defaultAt s.regs (addrKey c.addr) c.value }

/-- A write of a CQ number into an object that names a CQ of the writing function (R356): the CQ ENABLED and of the kind
needed; from another session only 0xFFFF. -/
def State.storeCq (s : State) (c : WriteCtx) (kind : Nat) : WriteRes :=
  match c.session with
  | .pcie h f =>
    let fn := fnKey h f
    if c.value = 0xFFFF then s.store c
    else if 1024 ≤ c.value ∨ s.rd Od.cqState (cqInst fn c.value) ≠ 1 ∨ s.rd Od.cqKind (cqInst fn c.value) ≠ kind then
      WriteRes.refuse s .state
    else
      WriteRes.good { (s.store c).state with rings := { s.rings with cqOwner := sparseSet (fun _ => 0) s.rings.cqOwner (addrKey c.addr) fn } }
  | _ => if c.value = 0xFFFF then s.store c else WriteRes.refuse s .access

/-- TOD_SET (R42): pending for the next edge; less than 100 ms before it, for the edge after, with TOD_LATE. The next edge is taken to come 1 s
after the last one; before a first edge no TOD_SET is late (DESIGN CHOICE, log 121). -/
def State.setTod (s : State) (v : Nat) : State :=
  let late := match s.time.lastEdge with
    | some e => decide (e + 1000000000 < s.up + 100000000)
    | none => false
  let s1 : State := { s with time := { s.time with tod := some (v, if late then 2 else 1) } }
  if late then s1.fireLead 0x141 else s1

/-- SCHED_CANCEL (R52): the lead of the named epoch is check 12, then the pending changes of the target and epoch. -/
def State.schedCancel (s : State) (v : Nat) : WriteRes :=
  let a : Address := { inst := bits v 95 80, index := bits v 79 64, sub := bits v 63 56 }
  if bits v 55 32 ≠ 0 then WriteRes.refuse s .range
  else
    match s.resolveEpoch (low 32 v) with
    | none => WriteRes.refuse s .tooLate
    | some e =>
      if s.sched.changes.any fun c => c.isFor a && c.epoch = e then
        WriteRes.good (s.cancelChanges (fun c => c.isFor a && c.epoch = e) .ok)
      else WriteRes.refuse s .noObject

/-- Writes of the time objects (indices 0x1400 to 0x17FF). -/
def State.writeTime (s : State) (c : WriteCtx) : WriteRes :=
  let i := c.addr.index
  let b := c.addr.sub
  if i = 0x1403 ∧ b = 1 then
    let s1 := (s.store c).state
    if c.value = 0 then WriteRes.good ({ s1 with time := { s1.time with todKnown := false, tod := none } }.toTimeState 0)
    else WriteRes.good s1
  else if i = 0x1403 ∧ b = 3 then WriteRes.good (s.setTod c.value)
  else if i = 0x1404 ∧ b = 2 then
    let d := s.rd Od.ptpDomain
    if c.value = 1 ∧ ¬ (24 ≤ d ∧ d ≤ 43) then WriteRes.refuse s .range else s.store c
  else if i = 0x1404 ∧ b = 3 then
    if s.rd Od.ptpProfile = 1 ∧ ¬ (24 ≤ c.value ∧ c.value ≤ 43) then WriteRes.refuse s .range else s.store c
  else if i = 0x1405 ∧ b = 3 then
    match s.time.refused with
    | none => WriteRes.refuse s .state
    | some o => WriteRes.good (s.decideStep o)
  else if i = 0x1406 ∧ b = 1 then s.claim c
  else if i = 0x1408 ∧ b = 2 then s.schedCancel c.value
  else if i = 0x1408 ∧ b = 3 then s.storeCq c 0
  else s.store c

end Sys2Proof.Machine
end

