-- ==== Sys2Proof/Machine/Events.lean ====
section
/-! DEFINITION. The commands of the event controller and the writes of its objects (R381 to R398). -/

namespace Sys2Proof.Machine

/-- EVENT_FIRE (R386, R387). -/
def execEventFire (d source : Nat) (s : State) : Answer := withDie s d (s.fire d source)

/-- EVC_CORE_CLAIM (R389): the best-ranked qualifying event becomes ACTIVE, whatever MASK; 0x0FFF if there is none. -/
def execEvcCoreClaim (d core : Nat) (s : State) : Answer :=
  let t := d * 8 + core
  withDie s d <|
    match s.bestFor 1 t with
    | some (key, _) =>
      (((s.unpresent t none).activate key 1 t).presentCore t).emit (.readData 0 t (eventCode (key / 4096) (key % 4096)))
    | none => s.emit (.readData 0 t 0x0FFF)

/-- EVC_CORE_EOI (R390): ends the most recent active event, or counts a bad EOI and records a CE fault. -/
def execEvcCoreEoi (d core code : Nat) (s : State) : Answer :=
  let t := d * 8 + core
  withDie s d <|
    match s.activeOf 1 t with
    | a :: _ => if a.code = code then s.endEvent 1 t code else (s.bump Od.evcBadEoi (dieInst d)).fault d 0x16 0 core code
    | [] => (s.bump Od.evcBadEoi (dieInst d)).fault d 0x16 0 core code

/-- EVC_VEC_EOI (R391): ends the vector's most recent active event, or counts a bad EOI. -/
def execEvcVecEoi (h f vector code : Nat) (s : State) : Answer :=
  let t := s.fnOf h f * 256 + vector
  match s.activeOf 2 t with
  | a :: _ => if a.code = code then .next (s.endEvent 2 t code) else .next (s.bump Od.evcBadEoi (dieInst (s.hostDie h)))
  | [] => .next (s.bump Od.evcBadEoi (dieInst (s.hostDie h)))

/-- MSIX_UNMASK (R391): the vector is unmasked and its best-ranked pending event is sent. -/
def execMsixUnmask (h f vector : Nat) (s : State) : Answer :=
  let t := s.fnOf h f * 256 + vector
  .next (({ s with events := { s.events with unmasked := sparseSet (fun _ => false) s.events.unmasked t true } }).serveTarget 2 t)

/-- The targets of function `fn` for which an event waits. -/
def State.waitingVectors (s : State) (fn : Nat) : List Nat :=
  ((s.events.sources.filter fun e => e.2.state = 1 && e.2.targetKind = 2).map fun e => s.targetOf 2 e.2.target).filter (· / 256 = fn)

/-- PCIE_POWER_STATE_CHANGE (R397): pending events are sent when the function can take them, or signalled by PM_PME. Of a pair, the interface in use
carries them (R425). -/
def execPciePowerStateChange (h f : Nat) (d0 linkLow pmeEnable msixEnable : Bool) (s : State) : Answer :=
  let fn := fnKey h f
  let p : FunctionPower := { d0 := d0, linkLow := linkLow, pmeEnable := pmeEnable, msixEnable := msixEnable }
  let s1 : State :=
    { s with events := { s.events with
        power := sparseSet (fun _ => { d0 := true, linkLow := false, pmeEnable := false, msixEnable := false }) s.events.power fn p } }
  let vs := if s1.activeFn (s1.fnOf h f) = fn then s1.waitingVectors (s1.fnOf h f) else []
  let s2 := if (!d0 || linkLow) && pmeEnable && !vs.isEmpty then s1.emit (.pme fn) else s1
  .next (vs.foldl (fun t v => t.serveTarget 2 v) s2)

/-- Arm a timer (R398): a start already past fires at once. -/
def State.armTimer (s : State) (d t : Nat) : State :=
  let i := dieInst d
  let start := ofTime96 (s.rd Od.timerStart i t) / 65536
  let period := s.rd Od.timerPeriod i t
  let s1 := s.wr Od.timerArm 1 i t
  if s.ns < start then { s1 with events := { s1.events with timers := sparsePut s1.events.timers (d * 16 + t) start } }
  else
    let s2 := s1.fire d (0x180 + t)
    if period = 0 then s2.wr Od.timerArm 0 i t
    else
      { s2 with events := { s2.events with
          timers := sparsePut s2.events.timers (d * 16 + t) (start + ((s.ns - start) / period + 1) * period) } }

/-- Disarm a timer. -/
def State.disarmTimer (s : State) (d t : Nat) : State :=
  ({ s with events := { s.events with timers := sparseErase s.events.timers (d * 16 + t) } }).wr Od.timerArm 0 (dieInst d) t

/-- TIMER_EXPIRE (R398): an armed timer fires; a periodic one is set to its next expiry, a one-shot disarmed. -/
def execTimerExpire (d t : Nat) (s : State) : Answer :=
  withDie s d <|
    match sparseFind? s.events.timers (d * 16 + t) with
    | none => s
    | some e =>
      let period := s.rd Od.timerPeriod (dieInst d) t
      let s1 := s.fire d (0x180 + t)
      if period = 0 then s1.disarmTimer d t
      else { s1 with events := { s1.events with timers := sparsePut s1.events.timers (d * 16 + t) (e + period) } }

/-- A source record as its 64-bit value (R383). -/
def EventSource.word (e : EventSource) : Nat :=
  b2n e.enable * 2 ^ 63 + b2n e.wake * 2 ^ 62 + e.priority * 2 ^ 48 + e.targetKind * 2 ^ 46 + e.target * 2 ^ 32 + e.state * 2 ^ 29
    + e.lost * 2 ^ 16

/-- The session is the function that owns a queue source (R383). -/
def State.ownsQueueSource (s : State) (session : Session) (d n : Nat) : Bool :=
  match session with
  | .pcie h f => s.fnOf h f = s.fnOf (s.hostIndex d) ((n - 0x200) / 256)
  | _ => false

/-- RANGE conditions of a source record (R383). -/
def State.badSource (s : State) (d n v : Nat) : Bool :=
  let kind := bits v 47 46
  let target := bits v 45 32
  bits v 61 56 ≠ 0 || bits v 28 24 ≠ 0 || bits v 14 0 ≠ 0 || bits v 31 29 ≠ 0 || bits v 23 16 ≠ 0 || kind = 3
    || (kind = 1 && (decide (64 ≤ target) || !s.hasDie (target / 8) || decide (3 < target % 8)))
    || (kind = 2 && decide (2048 ≤ target))
    || (decide (0x200 ≤ n) && (kind = 1 || target ≠ s.hostIndex d * 1024 + (n - 0x200)))

/-- A write of a source record (R383, R393, R394). -/
def State.writeSource (s : State) (c : WriteCtx) (d n : Nat) : WriteRes :=
  let key := d * 4096 + n
  let e := s.source key
  let v := c.value
  let wake := bitOf v 62
  let wakes := (s.events.sources.filter fun x => x.2.wake && x.1 ≠ key).length
  if !s.sourceExists d n then WriteRes.refuse s .noObject
  else if n < 0x100 ∨ (0x160 ≤ n ∧ n < 0x180) then WriteRes.refuse s .access
  else if 0x200 ≤ n ∧ s.ownsQueueSource c.session d n = false then WriteRes.refuse s .access
  else if s.badSource d n v then WriteRes.refuse s .range
  else if wake = true ∧ 16 ≤ wakes then WriteRes.refuse s .tableFull
  else
    let enable := bitOf v 63
    let st := if e.state = 3 then 3 else if enable = false then 0 else if e.state = 2 then 1 else e.state
    let e1 : EventSource :=
      { e with enable := enable, wake := wake, priority := bits v 55 48, targetKind := bits v 47 46, target := bits v 45 32,
               state := st, lost := if bitOf v 15 then 0 else e.lost }
    let s1 := (s.setSource key e1).wr Od.evcWakeCount (wakes + b2n wake)
    WriteRes.good ((s1.serveTarget e.targetKind (s1.targetOf e.targetKind e.target)).serveSource key)

/-- The best-ranked event that a function may claim over its masked vectors (R391). -/
def State.bestMasked (s : State) (fn : Nat) : Option (Nat × EventSource) :=
  ((s.waitingVectors fn).filter fun t => !(sparseGet (fun _ => false) s.events.unmasked t)).foldl
    (fun a t => match s.bestFor 2 t with
      | some e => betterEvent a e
      | none => a) none

/-- Source of a die instance's EVC_SOURCE address (R383). -/
def sourceOfAddr (a : Address) : Nat := (a.index - 0xA200) * 16 + (a.sub - 1)

/-- Writes of the event controller's objects (0xA200 to 0xA391). -/
def State.writeEvents (s : State) (c : WriteCtx) : WriteRes :=
  let i := c.addr.index
  let b := c.addr.sub
  let d := c.addr.inst % 65536 - 0x0100
  if 0xA200 ≤ i ∧ i < 0xA300 then s.writeSource c d (sourceOfAddr c.addr)
  else if 0xA300 ≤ i ∧ i < 0xA310 then
    let t := i - 0xA300
    let unit := Od.timerClaim.key c.addr.inst t
    if b = 1 then
      let r := s.claim c
      if r.status = .ok ∧ c.value = 0 ∧ (s.holder unit).isSome then { r with state := r.state.disarmTimer d t } else r
    else if s.heldByOther unit c.principal then WriteRes.busy s unit
    else if (s.holder unit).isNone then WriteRes.refuse s .state
    else if b = 4 then WriteRes.good (if c.value = 1 then s.armTimer d t else s.disarmTimer d t)
    else s.store c
  else if i = 0xA390 ∧ b = 2 then
    match c.session with
    | .pcie h f =>
      let e := s.source c.value
      if c.value < 32768 ∧ e.state = 3 ∧ e.takenKind = 2 ∧ e.takenBy / 256 = s.fnOf h f then
        WriteRes.good (s.endEvent 2 e.takenBy c.value)
      else WriteRes.refuse s .range
    | _ => WriteRes.refuse s .access
  else s.store c

end Sys2Proof.Machine
end

