-- ==== Sys2Proof/Machine/SliceOps.lean ====
section
/-! DEFINITION. The spare slices: listening, the Seasoned test and the start and end of changeovers (R79 to R86). -/

namespace Sys2Proof.Machine

/-- Spare slice at rest. -/
def Slice.fresh : Slice := { sets := [], tested := false, listening := 0, job := none, next := none, planned := none }

/-- Spare slice of octet `o` (die * 8 + octet). -/
def State.spareSlice (s : State) (o : Nat) : Slice := sparseGet (fun _ => Slice.fresh) s.links.slices o

/-- Write the spare slice of an octet. -/
def State.setSlice (s : State) (o : Nat) (x : Slice) : State :=
  { s with links := { s.links with slices := sparseSet (fun _ => Slice.fresh) s.links.slices o x } }

/-- The lane source of lane `n` (R381). -/
def State.fireLane (s : State) (n : Nat) : State := s.fire (n / 64) (0x100 + n % 64)

/-- Whether the spare of an octet passes the Seasoned test (R79): both tests passed and, for every lane of an UP port, a stored
set less than 800 ms old within 1 dB. -/
def State.sliceReady (s : State) (o : Nat) : Bool :=
  let x := s.spareSlice o
  x.tested && (List.range 8).all fun l =>
    !(s.laneUp (o * 8 + l)) || x.sets.any fun e => e.1 = l && e.2.2 && decide (s.up < e.2.1 + 800000000)

/-- SPARE_SLICE_STATE of an octet. -/
def State.sliceState (s : State) (o : Nat) : Nat := s.rd Od.spareSliceState (portInst (o * 8))

/-- The lane of an octet that the spare listens on after `l`: the next lane of an UP port, 0xFF where there is none (R79). -/
def State.nextListen (s : State) (o l : Nat) : Nat :=
  (((List.range 8).map fun k => (l + 1 + k) % 8).find? fun m => s.laneUp (o * 8 + m)).getD 0xFF

/-- The spare begins to listen on a lane. -/
def State.listenOn (s : State) (o l : Nat) : State :=
  (s.setSlice o { s.spareSlice o with listening := s.up }).wr Od.spareSliceLane l (portInst (o * 8))

/-- Seasoning and Seasoned follow the test of R79 (R414); a spare that listens to no lane, or to one with no UP port, takes the next. -/
def State.judgeSlice (s : State) (o : Nat) : State :=
  let st := s.sliceState o
  if (st = 1 ∨ st = 2) ∧ (s.spareSlice o).job.isNone = true then
    let s1 := s.wr Od.spareSliceState (if s.sliceReady o then 2 else 1) (portInst (o * 8))
    let l := s.rd Od.spareSliceLane (portInst (o * 8))
    if l < 8 ∧ s.laneUp (o * 8 + l) = true ∨ s.nextListen o 7 = l then s1 else s1.listenOn o (s.nextListen o 7)
  else s

/-- Every spare is judged by the age of its sets (R79). -/
def State.judgeSlices (s : State) : State := s.links.slices.foldl (fun (a : State) e => a.judgeSlice e.1) s

/-- A spare that has listened for 100 ms on a lane ends its turn there; its margin is the line's (a free value: DESIGN CHOICE, log 7). -/
def State.turnSlices (s : State) : State :=
  s.links.slices.foldl (fun (a : State) e =>
    let l := a.rd Od.spareSliceLane (portInst (e.1 * 8))
    if (a.sliceState e.1 = 1 ∨ a.sliceState e.1 = 2) ∧ e.2.job.isNone = true ∧ l < 8 ∧ e.2.listening + 100000000 ≤ a.up then
      (a.later 0 (.spareSliceListen (e.1 * 8 + l) (a.freeBits 1 = 1))).useFree
    else a) s

/-- The spare takes a lane (R81): Seasoning stops, and a stored set of the lane is loaded. -/
def State.startJob (s : State) (o : Nat) (j : SliceJob) : State :=
  let x := s.spareSlice o
  (s.setSlice o { x with job := some { j with began := s.up, loaded := x.sets.any fun e => e.1 = j.lane } }).wr Od.spareSliceLane j.lane
    (portInst (o * 8))

/-- Whether the spare of an octet may be taken (R414): Cold, Seasoning or Seasoned and in no changeover. -/
def State.sliceFree (s : State) (o : Nat) : Bool := decide (s.sliceState o < 3) && (s.spareSlice o).job.isNone

/-- A changeover has ended (R83, R85, R86): the lane runs on the spare, or back on its own slice. -/
def State.endJob (s : State) (o : Nat) (j : SliceJob) : State :=
  let n := o * 8 + j.lane
  let oi := portInst (o * 8)
  let x := s.spareSlice o
  if j.back then
    let s1 := (((s.setSlice o { x with job := none, next := none, planned := none }).wr Od.laneSlice 0 (portInst n)).wr
      Od.spareSliceState 1 oi).wr Od.spareSliceLane 0xFF oi
    (match x.next with
      | some k => s1.startJob o k
      | none => s1.judgeSlice o).fireLane n
  else
    let s1 := (((s.setSlice o { x with job := none, planned := if j.repair then none else some j.lane }).wr Od.laneSlice 1
      (portInst n)).wr Od.spareSliceState 3 oi).wr Od.spareSliceLane j.lane oi
    let s2 := s1.fireLane n
    if j.repair then
      ((s2.recordFault { die := n / 64, source := 0x00, cls := if j.lost = 0 then 1 else 2, location := n, detail0 := j.trigger,
                         detail1 := low 32 j.lost, spareUsed := true, repairing := false }).fireLead 0x170).retire 0 (n / 64) (o % 8)
        j.lane 0x00
    else s2

end Sys2Proof.Machine
end

