-- ==== Sys2Proof/Machine/Faults.lean ====
section
/-! DEFINITION. The commands of faults, spares and recovery (R399 to R436), but for the writes that touch every family. -/

namespace Sys2Proof.Machine

/-- A fault of the NVS that is more than a corrected one takes its copy out of use (R341, R403: LOCATION is the host-die index). -/
def State.loseNvs (s : State) (e : FaultError) : State :=
  if e.source ≠ 0x15 ∨ e.cls = 0 then s
  else if e.location = 0 then { s with dict := { s.dict with nvs0 := { s.dict.nvs0 with writable := false } } }
  else { s with dict := { s.dict with nvs1 := { s.dict.nvs1 with writable := false } } }

/-- FAULT_RECORD_CLOSE (R401): the repair has ended; the record closes once FAULT_MERGE_WINDOW has passed since its last
error. -/
def execFaultRecordClose (d source location : Nat) (s : State) : Answer :=
  withDie s d
    ({ s with recov := { s.recov with log := s.recov.log.map fun (r : FaultRecord) =>
        if r.isOpen ∧ r.die = d ∧ r.source = source ∧ r.location = location then { r with repairing := false } else r } } : State).closeRecords

/-- LAMP_STATE of a running Lamp (R406). -/
def State.lampLevel (s : State) : Nat := if s.sparesLow = 0 then 1 else 2

/-- Whether the Lamp is driven with no refresh: by Kindling until the lead Keeper runs, by the Ember in Banked, and at 10 Hz in the wake from it (R406,
R469). -/
def State.lampAlone (s : State) : Bool :=
  s.rd Od.lampState = 0 || s.rd Od.powerState = 4 || (s.rd Od.powerState = 5 && s.power.target = 4)

/-- Length in ns of a period of the Lamp that begins now (R406, R469). -/
def State.lampSpan (s : State) : Nat :=
  if s.rd Od.powerState = 4 then 10000000000 else if s.lampAlone then 100000000 else s.rd Od.lampPeriod * 1000000

/-- Level of a running Lamp at this point of its period (R406). A new LAMP_STATE shows its pattern at once, a new length from the next period on (DESIGN
CHOICE, log 110). -/
def State.lampOn (s : State) : Bool :=
  let t := s.up - s.recov.lampFrom
  let f := min 50000000 (s.recov.lampLength / 8)
  if s.rd Od.lampState = 2 ∧ s.lampAlone = false then decide (t < f) || (decide (2 * f ≤ t) && decide (t < 3 * f))
  else decide (2 * t < s.recov.lampLength)

/-- The Lamp starts its pattern at the start of a period (R407, R409). -/
def State.startLamp (s : State) : State :=
  let r := { s.recov with lampRunning := true, lampRefreshed := s.up, lampFrom := s.up, lampLength := s.lampSpan, lampHigh := true }
  ({ s with recov := r } : State).emit (.pin 3 1)

/-- The Lamp follows its pattern; a stopped one keeps its level (R406). -/
def State.lampClock (s : State) : State :=
  if s.recov.lampRunning = false then s
  else
    let s1 : State :=
      if s.recov.lampFrom + s.recov.lampLength ≤ s.up then
        { s with recov := { s.recov with lampFrom := s.up, lampLength := s.lampSpan } }
      else s
    if s1.lampOn = s1.recov.lampHigh then s1
    else ({ s1 with recov := { s1.recov with lampHigh := s1.lampOn } } : State).emit (.pin 3 (b2n s1.lampOn))

/-- Whether the Lamp's refresh has lapsed (R407). -/
def State.lampLapsed (s : State) : Bool :=
  s.recov.lampRunning && !s.lampAlone && decide (s.recov.lampRefreshed + max (s.rd Od.lampPeriod) 200 * 1000000 ≤ s.up)

/-- LAMP_REFRESH (R407): a refresh keeps the Lamp toggling, and restarts it after a lapse; a PIN reaction keeps it stopped. -/
def execLampRefresh (s : State) : Answer :=
  if s.recov.pin then .next s
  else
    if s.recov.lampRunning ∧ s.rd Od.lampState ≠ 3 then .next { s with recov := { s.recov with lampRefreshed := s.up } }
    else .next (s.wr Od.lampState s.lampLevel).startLamp

/-- LAMP_REFRESH_LAPSE (R407): after max(LAMP_PERIOD, 200 ms) without a refresh the Lamp stops at its last level. -/
def execLampRefreshLapse (s : State) : Answer :=
  if s.lampLapsed then .next ({ s with recov := { s.recov with lampRunning := false } }.wr Od.lampState 3) else .next s

/-- FAULT_N_RELEASE's effect (R409). -/
def State.releaseFaultN (s : State) : WriteRes :=
  if s.recov.pin = false ∨ s.recov.trip = true then WriteRes.refuse s .state
  else
    let s1 : State := { s with recov := { s.recov with pin := false } }
    WriteRes.good (((s1.wr Od.faultNAsserted 0).wr Od.lampState s1.lampLevel).emit (.pin 4 1)).startLamp

/-- SPARE_TEST_START (R414): a Cold spare enters Seasoning. -/
def execSpareTestStart (cls d group unit : Nat) (s : State) : Answer :=
  withDie s d (if s.spareState cls d group unit = 0 then s.setSpare cls d group unit 1 else s)

/-- The outcome of a spare's test (R414): Seasoning becomes Seasoned on a pass, for a lane slice under R79; a failed test of a Seasoning or
Seasoned spare retires it. -/
def State.spareTested (s : State) (cls d group unit : Nat) (pass : Bool) : State :=
  let st := s.spareState cls d group unit
  if st ≠ 1 ∧ st ≠ 2 then s
  else if pass = true ∧ cls = 0 then
    let o := d * 8 + group
    (s.setSlice o { s.spareSlice o with tested := true }).judgeSlice o
  else if pass then s.setSpare cls d group unit 2
  else (s.setSpare cls d group unit 4).retire cls d group unit 0

/-- SPARE_RETEST (R414, R417): a Seasoned spare is tested again and stays Seasoned meanwhile. -/
def execSpareRetest (cls d group unit : Nat) (s : State) : Answer :=
  withDie s d (if s.spareState cls d group unit = 2 then s.emit (.link 20 (spareKey cls d group unit) []) else s)

/-- The claim of a die's spare pair becomes REPAIR or MIGRATE, held by the Keeper; a SEASON claim of another is pre-empted
(R418). -/
def State.keeperClaim (s : State) (d v : Nat) : State :=
  let key := Od.sparePipelineClaim.key (dieInst d) 0
  let a : Address := { inst := dieInst d, index := 0x7401, sub := 1 }
  let had := s.heldByOther key (4 * 65536)
  let s1 := (s.wr Od.sparePipelineClaim v (dieInst d)).setHolder a (4 * 65536)
  if had then s1.fireLead 0x17B else s1

/-- Ports of an octet go DOWN (R413, R88). -/
def State.octetDown (s : State) (d o : Nat) : State :=
  (List.range 8).foldl (fun a l =>
    let i := portInst (d * 64 + o * 8 + l)
    if a.rd Od.portState i = 2 ∨ a.rd Od.portState i = 1 then (a.wr Od.portState 3 i).fire d (0x100 + o * 8 + l) else a) s

/-- The octet moves to the spare pipeline, which is in service from now (R411). -/
def State.moveOctet (s : State) (d : Nat) (egress : Bool) (o : Nat) : State :=
  let p := s.sparePipe d egress
  let s0 := if egress then s else s.setRc (d * 16 + p) []
  (((s0.setSpare (if egress then 3 else 2) d 0 0 3).wrOctet Od.pipelineMap (dieInst d) 0 (if egress then 8 + o else o) p).fireLead
    0x170).fire d 0x174

/-- A pipeline has failed (R411, R413): its octet moves to the die's spare of the direction at once when that is Seasoned,
after a take-over check when it is Cold or Seasoning, and is left without a pipeline when it is In service or Retired. -/
def State.failOver (s : State) (d : Nat) (egress : Bool) (p items tag : Nat) : State :=
  match s.octetOf d egress p with
  | none => s
  | some o =>
    let cls := if egress then 3 else 2
    let st := s.spareState cls d 0 0
    let err : FaultError :=
      { die := d, source := 0x04, cls := if st < 3 then 1 else 2, location := d * 16 + p, detail0 := items, detail1 := tag,
        spareUsed := decide (st < 3), repairing := st = 0 || st = 1 }
    let s1 := s.recordFault err
    if st < 3 then
      let s2 := (s1.retire cls d 0 p 0x04).keeperClaim d 2
      if st = 2 then s2.moveOctet d egress o
      else { s2 with recov := { s2.recov with checks := s2.recov.checks ++ [(d * 2 + b2n egress, o)] } }
    else (s1.retire cls d 0 p 0x04).octetDown d o

/-- The take-over check of a spare ends (R411): on a pass the move takes effect; on a failure the spare is Retired and the octet is left
without a pipeline. -/
def State.takeoverDone (s : State) (d : Nat) (egress pass : Bool) : State :=
  match s.recov.checks.find? fun c => c.1 = d * 2 + b2n egress with
  | none => s
  | some (_, o) =>
    let cls := if egress then 3 else 2
    let s1 : State :=
      { s with recov := { s.recov with checks := s.recov.checks.filter fun c => c.1 ≠ d * 2 + b2n egress } }
    if pass then s1.moveOctet d egress o
    else ((s1.setSpare cls d 0 0 4).retire cls d 0 (s1.sparePipe d egress) 0x04).octetDown d o

/-- Check 13 of PIPELINE_MIGRATE (R419). -/
def State.checkMigrate (s : State) (a : Address) (principal : Nat) : Status :=
  let d := a.inst - 0x0100
  if s.rdOctet Od.sparePipelineState a.inst 0 0 ≠ 2 ∨ s.rdOctet Od.sparePipelineState a.inst 0 1 ≠ 2 then .state
  else if s.rd Od.sparePipelineClaim a.inst = 1 ∧ s.heldByOther (Od.sparePipelineClaim.key (dieInst d) 0) principal = true then
    .resourceBusy
  else if s.sched.changes.any fun c => c.isFor a then .bankBusy
  else .ok

/-- PIPELINE_MIGRATE at its boundary (R419). -/
def State.migrate (s : State) (d o : Nat) : State :=
  let pi := s.sparePipe d false
  let pe := s.sparePipe d true
  let s1 := ((s.setRc (d * 16 + pi) []).wrOctet Od.pipelineMap (dieInst d) 0 o pi).wrOctet Od.pipelineMap (dieInst d) 0 (8 + o) pe
  ((s1.setSpare 2 d 0 0 3).setSpare 3 d 0 0 3).keeperClaim d 3

/-- MIGRATE_DRAIN_END (R414, R419): the vacated pair is the die's spare, in Seasoning, and the claim ends. -/
def execMigrateDrainEnd (d : Nat) (s : State) : Answer :=
  withDie s d <|
    if s.rd Od.sparePipelineClaim (dieInst d) = 3 then
      (((s.setSpare 2 d 0 0 1).setSpare 3 d 0 0 1).wr Od.sparePipelineClaim 0 (dieInst d)).dropHolder
        (Od.sparePipelineClaim.key (dieInst d) 0)
    else s

/-- KEEPER_CORE_FAULT (R422): the fault is recorded, and the core is taken out of service, unless the TRAP reaction has done so. -/
def execKeeperCoreFault (d core cause : Nat) (s : State) : Answer :=
  withDie s d <|
    let u := s.coreUnit d core
    let usable := decide (u < 4) && decide (s.rdOctet Od.keeperCoreState (dieInst d) 0 4 < 3)
    let s1 := if usable then s.faultSpare d 0x11 1 core cause else s.fault d 0x11 (if core < 4 then 3 else 1) core cause
    if s1.coreUnit d core = u then s1.takeCore d core else s1

/-- KEEPER_CHECKPOINT (R422): every core in service of the cluster is checkpointed. -/
def execKeeperCheckpoint (d : Nat) (s : State) : Answer :=
  withDie s d
    ((List.range 4).foldl (fun a k =>
      { a with recov := { a.recov with checkpoints := sparsePut a.recov.checkpoints (d * 8 + k) s.up } }) s)

/-- KEEPER_TAKEOVER (R422): the standby becomes lead, if its die is not fenced. -/
def execKeeperTakeover (s : State) : Answer :=
  let new := if s.rd Od.leadDie = 0 then s.part.secondHost else 0
  if s.isFenced new then .next s else .next s.takeLead

/-- KEEPER (R422): a control message between Keeper clusters shows that its sender is not silent. -/
def execKeeperMsg (d toDie : Nat) (s : State) : Answer :=
  withDie s d
    ({ s with recov := { s.recov with heard := sparsePut s.recov.heard d s.up } }.emit (.control d toDie 3 []))

/-- PLL_FAULT (R28, R423): the die changes to its other PLL; with both failed it is fenced. -/
def execPllFault (d pll ppm : Nat) (s : State) : Answer :=
  withDie s d <|
    if s.spareState 10 d 0 pll = 4 then s
    else
      let s1 := s.setSpare 10 d 0 pll 4
      if s1.spareState 10 d 0 (1 - pll) = 4 then ((s1.fault d 0x12 3 pll ppm).retire 10 d 0 pll 0x12).fence d 3
      else
        let inUse := decide (s.rd Od.pllInUse (dieInst d) = pll)
        let s2 := if inUse then s1.wr Od.pllInUse (1 - pll) (dieInst d) else s1
        let s3 := s2.recordFault { die := d, source := 0x12, cls := 1, location := pll, detail0 := ppm, detail1 := 0,
                                   spareUsed := inUse, repairing := false }
        (if inUse then s3.fireLead 0x170 else s3).retire 10 d 0 pll 0x12

/-- TIME_MASTER_FAIL (R424): the second host die's time unit becomes master. -/
def execTimeMasterFail (offset : Nat) (s : State) : Answer :=
  let d := s.hostDie s.time.master
  let s1 := s.recordFault { die := d, source := 0x13, cls := 1, location := d, detail0 := offset, detail1 := 0,
                            spareUsed := s.time.master = 0, repairing := false }
  if s.time.master = 0 then .next s1.takeTime else .next s1

/-- PCIE_FAILOVER (R425): a paired interface that fails while it carries the pair hands over to the other; a single one is a
UCC fault. -/
def execPcieFailover (h f aer address : Nat) (s : State) : Answer :=
  let other := 1 - h
  if s.rd Od.pciePairing = 1 ∧ s.spareState 11 0 0 other ≠ 4 then
    let s1 := s.faultSpare (s.hostDie h) 0x14 1 (fnKey h f) aer (low 32 address)
    let s2 := if s1.rd Od.pcieActiveDie = s.hostDie h then (s1.wr Od.pcieActiveDie (s.hostDie other)).emit (.link 21 other []) else s1
    .next (((s2.setSpare 11 0 0 h 4).retire 11 0 0 h 0x14).fireLead 0x177)
  else .next (s.fault (s.hostDie h) 0x14 2 (fnKey h f) aer (low 32 address))

/-- DIE_FENCE (R428). -/
def execDieFence (d cause : Nat) (s : State) : Answer := withDie s d (s.fence d cause)

/-- WEAR_FORECAST (R430): the forecast per class is shown; the event is raised when a value falls below 24, or to half of what it was at the last
event. The operand has 0xFFFF for a group that lasts beyond 180 months of service; before a first event none falls by half (DESIGN CHOICE,
log 146). -/
def execWearForecast (months : List Nat) (s : State) : Answer :=
  let m := (List.range 12).map fun c => min 0xFFFF (months.getD c 0xFFFF)
  let shown := fun (c : Nat) => s.rd Od.wearForecast / 65536 ^ (11 - c) % 65536
  let falls := fun (c : Nat) =>
    (decide (m.getD c 0 < 24) && decide (24 ≤ shown c)) || decide (2 * m.getD c 0 ≤ s.recov.forecastAt.getD c 0 ∧ m.getD c 0 < s.recov.forecastAt.getD c 0)
  let s1 := s.wr Od.wearForecast (m.foldl (fun a x => a * 65536 + x) 0)
  if (List.range 12).any falls then
    .next ({ s1 with recov := { s1.recov with forecastAt := m } }.fireLead 0x173)
  else .next s1

/-- WEAR_SAMPLE (R429): one aging-monitor sample is kept, at most 180. -/
def execWearSample (d : Nat) (readings : List Nat) (s : State) : Answer :=
  withDie s d
    { s with recov := { s.recov with samples := if s.recov.samples.length < 180 then s.recov.samples ++ [d :: readings] else s.recov.samples } }

/-- RECOVERY_CANCEL's effect (R434): every change at least four epochs ahead is cancelled. -/
def State.recoveryCancel (s : State) : State :=
  s.cancelChanges (fun c => decide (s.time.epoch + 4 ≤ c.epoch)) .ok

/-- Fault source of a memory kind: 0 table SRAM, 1 cell buffer, 2 flow contexts, 3 counters, 4 Keeper SRAM (DEDUCED, log 11). -/
def memorySource (kind : Nat) : Nat := if kind = 1 then 0x0D else if kind = 2 then 0x08 else if kind = 4 then 0x11 else 0x09

/-- First usable spare of a group. -/
def State.pickSpare (s : State) (cls d group : Nat) : Option Nat :=
  (spareUnits cls).find? fun u => s.spareState cls d group u < 3

/-- SRAM_ROW_REPAIR (R426): the row is copied to a spare row of its macro; a table tile whose eighth row fails within 24 hours,
or whose spare rows are used up, is copied to a spare tile. -/
def execSramRowRepair (d kind mac row : Nat) (s : State) : Answer :=
  withDie s d <|
    let group := kind * 4096 + mac
    let fails := [d, kind, mac, row, s.seconds] :: s.recov.rowFails
    let recent := (fails.filter fun r => r.getD 0 0 = d && r.getD 1 0 = kind && r.getD 2 0 = mac && decide (s.seconds < r.getD 4 0 + 86400)).length
    let s1 : State := { s with recov := { s.recov with rowFails := fails } }
    let copy := fun (t : State) (unit tile : Nat) =>
      ({ t with recov := { t.recov with copying := t.recov.copying ++ [[d, kind, mac, row, unit, tile]] } }).recordFault
        { die := d, source := memorySource kind, cls := 1, location := mac * 65536 + row, detail0 := 0, detail1 := 0,
          spareUsed := true, repairing := true }
    if kind = 0 ∧ (8 ≤ recent ∨ (s.pickSpare 6 d group).isNone) then
      match s.pickSpare 5 d 0 with
      | some u => copy s1 u 1
      | none => s1
    else
      match s.pickSpare 6 d group with
      | some u => copy s1 u 0
      | none => s1

/-- SRAM_SPARE_SWITCH (R426): the copy ends; the spare row or tile is in service and the failed one Retired. -/
def execSramSpareSwitch (d kind mac : Nat) (s : State) : Answer :=
  withDie s d <|
    match s.recov.copying.find? fun c => c.getD 0 0 = d && c.getD 1 0 = kind && c.getD 2 0 = mac with
    | none => s
    | some c =>
      let tile := c.getD 5 0 = 1
      let cls := if tile then 5 else 6
      let group := if tile then 0 else kind * 4096 + mac
      let unit := c.getD 4 0
      let old := if tile then mac else c.getD 3 0
      let s1 : State :=
        { s with recov := { s.recov with copying := s.recov.copying.filter (· ≠ c),
                                         replaced := sparsePut s.recov.replaced (spareKey cls d group old) unit } }
      ((s1.setSpare cls d group unit 3).retire cls d group (1000000 + old) (memorySource kind)).fireLead 0x170

/-- The record a session reads as FAULT_RECORD (R399, R400), if it is in the log. -/
def FaultRecord.word (r : FaultRecord) : Nat :=
  low 32 r.seq * 2 ^ 224 + low 64 r.time * 2 ^ 160 + r.die * 2 ^ 157 + r.cls * 2 ^ 155 + b2n r.spareUsed * 2 ^ 154
    + low 5 r.reacted * 2 ^ 149 + b2n r.overflowBefore * 2 ^ 148 + low 8 r.source * 2 ^ 136 + low 8 r.merged * 2 ^ 128
    + low 32 r.location * 2 ^ 96 + low 32 r.detail0 * 2 ^ 64 + low 32 r.detail1 * 2 ^ 32 + low 32 r.lastTime

end Sys2Proof.Machine
end

