-- ==== Sys2Proof/Machine/Counters.lean ====
section
/-! DEFINITION. Counter memory, counter windows, bandwidth windows and sampling (R437 to R453). -/

namespace Sys2Proof.Machine

/-- Value of counter `c` of die `d` (R437). -/
def State.counter (s : State) (d c : Nat) : Nat := sparseGet (fun _ => 0) s.ctrs.mem (d * 2097152 + c)

/-- Write a counter. -/
def State.setCounter (s : State) (d c v : Nat) : State :=
  { s with ctrs := { s.ctrs with mem := sparseSet (fun _ => 0) s.ctrs.mem (d * 2097152 + c) v } }

/-- A released add, modulo 2^64 (R437, R439). -/
def State.addCounter (s : State) (d c n : Nat) : State := s.setCounter d c (low 64 (s.counter d c + n))

/-- A MAC counter of port `n` (R438, R443). -/
def macCounter (n k : Nat) : Nat := 0x1E0000 + (n % 64) * 16 + k

/-- A MAC counter counts (R443). -/
def State.macCount (s : State) (n k by_ : Nat) : State := s.addCounter (n / 64) (macCounter n k) by_

/-- Value of a counter as it is read: those of lanes that start no port, and the reserved ones, read 0 (R443). -/
def State.counterValue (s : State) (d c : Nat) : Nat :=
  if 0x1E0000 ≤ c ∧ c < 0x1E0400 ∧ (10 ≤ c % 16 ∨ s.portModeOf (d * 64 + (c - 0x1E0000) / 16) = 0) then 0 else s.counter d c

/-- The four octets 63:0 of package time that CAPTURE fields hold (R441). -/
def State.capture (s : State) : Nat := low 64 (time96 s.time.now)

/-- CWIN_VALUE_READ (R425, R445): the counter is read and latched; a slot that the window does not define reads 0. -/
def execCwinValueRead (h f w j : Nat) (s : State) : Answer :=
  let fn := s.fnOf h f
  let i := fn * 65536
  let slot := fn * 65536 + w * 256 + j
  if bitOf (s.rd Od.cwinFunctionEnable) fn = false ∨ s.rd Od.cwinCount i w ≤ j then .next (s.emit (.readData 3 slot 0))
  else
    let v := s.counterValue (s.rd Od.cwinDie i w) (s.rd Od.cwinBase i w + j)
    .next ({ s with ctrs := { s.ctrs with latch := sparsePut s.ctrs.latch slot (v, s.capture) } }.emit (.readData 3 slot v))

/-- One counter found bad by the scrub (R440): corrected, or set to 0. -/
def State.scrubCounter (s : State) (d c : Nat) (correctable : Bool) : State :=
  if correctable then s.fault d 0x09 0 c 0x80000000
  else ((s.setCounter d c 0).bump Od.counterEccResets (dieInst d)).fault d 0x09 2 c 0x80000000

/-- COUNTER_SCRUB (R440): the counters whose ECC the scrub finds wrong, and whether each can be corrected. -/
def execCounterScrub (d : Nat) (bad : List (Nat × Bool)) (s : State) : Answer :=
  withDie s d (bad.foldl (fun a e => a.scrubCounter d e.1 e.2) s)

/-! Bandwidth windows (R446). -/

/-- Accumulators at rest. -/
def Bandwidth.fresh : Bandwidth := { rx := 0, tx := 0, tick := 0, rxTick := 0, txTick := 0, rxMax := 0, txMax := 0 }

/-- Length of a tick in µs and ticks per window in force at `ns`. -/
def State.bwLength (s : State) (ns : Nat) : Nat × Nat :=
  if ns < s.ctrs.bwFrom then s.ctrs.bwOld else (s.rd Od.bwTick, s.rd Od.bwWindowTicks)

/-- Wire bytes of a frame of `bytes` octets pass the MAC of port `n`. -/
def State.bwCount (s : State) (n bytes : Nat) (tx : Bool) : State :=
  let b := sparseGet (fun _ => Bandwidth.fresh) s.ctrs.bw n
  let tick := s.ns / ((s.bwLength s.ns).1 * 1000)
  let b := if b.tick = tick then b else { b with tick := tick, rxTick := 0, txTick := 0 }
  let w := bytes + 20
  let b := if tx then { b with tx := b.tx + w, txTick := b.txTick + w, txMax := max b.txMax (b.txTick + w) }
    else { b with rx := b.rx + w, rxTick := b.rxTick + w, rxMax := max b.rxMax (b.rxTick + w) }
  { s with ctrs := { s.ctrs with bw := sparseSet (fun _ => Bandwidth.fresh) s.ctrs.bw n b } }

/-- A MAC control frame of 64 bytes passes the MAC: a good frame like others, and an IEEE 802.1Qbb frame or not (R443, R446; log 42). -/
def State.countControl (s : State) (n : Nat) (tx pfc : Bool) : State :=
  let s1 := ((s.macCount n (if tx then 6 else 0) 1).macCount n (if tx then 7 else 1) 64).bwCount n 64 tx
  if pfc then s1.macCount n (if tx then 9 else 5) 1 else s1

/-- The last window that has ended: its end in ns and its lengths; none where a write of the lengths cut it short. -/
def State.bwEnded (s : State) : Option (Nat × Nat × Nat) :=
  let l := s.bwLength s.ns
  let w := l.1 * l.2 * 1000
  let stop := s.ns / w * w
  if s.ns < s.ctrs.bwFrom ∨ s.ctrs.bwFrom < stop then some (stop, l)
  else
    let o := s.ctrs.bwOld
    if s.ctrs.bwFrom % (o.1 * o.2 * 1000) = 0 then some (s.ctrs.bwFrom, o) else none

/-- Report the window that has ended. -/
def State.bwReport (s : State) (n stop tick ticks : Nat) : State :=
  let b := sparseGet (fun _ => Bandwidth.fresh) s.ctrs.bw n
  let i := portInst n
  ((((s.wr Od.bwRxAvg (low 32 (b.rx * 8 / (tick * ticks))) i).wr Od.bwRxPeak (low 32 (b.rxMax * 8 / tick)) i).wr Od.bwTxAvg
    (low 32 (b.tx * 8 / (tick * ticks))) i).wr Od.bwTxPeak (low 32 (b.txMax * 8 / tick)) i).wr Od.bwWindowEnd (time96 (stop * 65536)) i

/-- BW_WINDOW_END (R446): the averages and peaks of the window are shown, unless package time stepped in it. -/
def execBwWindowEnd (n : Nat) (s : State) : Answer :=
  withLane s n <|
    let t := match s.bwEnded with
      | none => s
      | some (stop, tick, ticks) =>
        match s.ctrs.stepAt with
        | some at_ => if stop < at_ + tick * ticks * 1000 then s else s.bwReport n stop tick ticks
        | none => s.bwReport n stop tick ticks
    { t with ctrs := { t.ctrs with bw := sparseErase t.ctrs.bw n } }

/-! Sampling (R447 to R452). -/

/-- A record is made on die `d`, or lost when the buffer is full (R450, R452). -/
def State.addSample (s : State) (d record : Nat) : State :=
  if s.rd Od.sampleRing (dieInst d) = 0xFFFF then s
  else
    let seq := sparseGet (fun _ => 0) s.ctrs.sampleSeq d + 1
    let q := sparseGet (fun _ => []) s.ctrs.samples d
    let s1 : State := { s with ctrs := { s.ctrs with sampleSeq := sparsePut s.ctrs.sampleSeq d seq } }
    if 4096 ≤ q.length then
      ({ s1 with ctrs := { s1.ctrs with sampleLost := sparsePut s1.ctrs.sampleLost d (sparseGet (fun _ => 0) s1.ctrs.sampleLost d + 1) } }).bump
        Od.sampleLost (dieInst d)
    else
      ({ s1 with ctrs := { s1.ctrs with samples := sparsePut s1.ctrs.samples d (q ++ [(record, low 32 seq)]) } }).wr Od.sampleBuffered
        (q.length + 1) (dieInst d)

/-- A sample completion without PHASE (R451). -/
def sampleEntry (d lost seq : Nat) : Nat := seq * 2 ^ 64 + (min 255 lost) * 2 ^ 96 + d * 2 ^ 109 + 0x40 * 2 ^ 120

/-- SAMPLE_DRAIN (R450, R451): the oldest record is written to the area, then its completion is posted. -/
def execSampleDrain (d : Nat) (s : State) : Answer :=
  withDie s d <|
    let i := dieInst d
    let c := s.rd Od.sampleRing i
    let fn := s.cqOwnerOf Od.sampleRing i
    match sparseGet (fun _ => []) s.ctrs.samples d with
    | [] => s
    | (record, seq) :: rest =>
      if c = 0xFFFF ∨ s.cqFull fn c = true then s
      else
        let slot := s.rd Od.cqPi (cqInst fn c) % s.rd Od.cqSize (cqInst fn c)
        let lost := sparseGet (fun _ => 0) s.ctrs.sampleLost d
        let s1 : State :=
          { s with ctrs := { s.ctrs with samples := sparseSet (fun _ => []) s.ctrs.samples d rest,
                                         sampleLost := sparseErase s.ctrs.sampleLost d } }
        let s2 := (s1.wr Od.sampleBuffered rest.length i).bump Od.sampleRecords i
        (s2.emit (.dma (s.dmaHost fn) (fn % 4) (s.rd Od.sampleAreaBase i + slot * 64) (leBytes 64 record))).postEntry fn c
          (sampleEntry d lost seq)

/-- Next value of a sampling countdown: uniform from 1 to 2 × SAMPLE_INTERVAL − 1, drawn by the pipeline's generator, of which
the spec gives no more (R447; DESIGN CHOICE, log 7). -/
def State.nextInterval (s : State) (p : Nat) (egress : Bool) : Nat :=
  let o := if egress then Od.sampleInterval.egress else Od.sampleInterval
  s.freeBits 32 % (2 * s.rd o (pipeInst p) - 1) + 1

/-- The dispatch of a first attempt counts the pipeline's countdown down; whether the packet is selected (R447). -/
def State.sampleDispatch (s : State) (p : Nat) (egress : Bool) : State × Bool :=
  let mode := s.rd (if egress then Od.sampleMode.egress else Od.sampleMode) (pipeInst p)
  if mode < 2 then (s, false)
  else
    let key := p * 2 + b2n egress
    let left := sparseGet (fun _ => 0) s.ctrs.countdown key
    let put := fun (t : State) (v : Nat) => { t with ctrs := { t.ctrs with countdown := sparsePut t.ctrs.countdown key v } }
    if left = 0 then (put s.useFree (s.nextInterval p egress), false)
    else if left = 1 then
      ((put s.useFree (s.nextInterval p egress)).bump (if egress then Od.sampleSelected.egress else Od.sampleSelected) (pipeInst p),
        true)
    else (put s (left - 1), false)

/-- Instance of an object that acts on the function of the session. -/
def fnInst (fn inst : Nat) : Nat := fn * 65536 + inst

/-- A write of one of the three values of a counter window (R444). -/
def State.writeWindow (s : State) (c : WriteCtx) : WriteRes :=
  match c.session with
  | .pcie h f =>
    let fn := fnKey h f
    if bitOf (s.rd Od.cwinFunctionEnable) fn = false then WriteRes.refuse s .access
    else
      let r := s.store { c with addr := { c.addr with inst := fnInst fn 0 } }
      let w := c.addr.index - 0x8100
      let t := r.state
      if 0x200000 < t.rd Od.cwinBase (fnInst fn 0) w + t.rd Od.cwinCount (fnInst fn 0) w ∨
          t.hasDie (t.rd Od.cwinDie (fnInst fn 0) w) = false then WriteRes.refuse s .range
      else r
  | _ => WriteRes.refuse s .access

/-- A write of BW_TICK or BW_WINDOW_TICKS (R446): in force from the first window boundary of the new length. -/
def State.writeBw (s : State) (c : WriteCtx) : WriteRes :=
  let t := (s.store c).state
  let w := t.rd Od.bwTick * t.rd Od.bwWindowTicks * 1000
  WriteRes.good { t with ctrs := { t.ctrs with bwOld := s.bwLength s.ns, bwFrom := (s.ns / w + 1) * w } }

/-- Writes of the counter objects (indices 0x8000 to 0x87FF). -/
def State.writeCounters (s : State) (c : WriteCtx) : WriteRes :=
  let i := c.addr.index
  if 0x8100 ≤ i ∧ i < 0x8200 then s.writeWindow c
  else if i = 0x8200 then s.writeBw c
  else if i = 0x8410 ∧ c.addr.sub = 1 then s.storeCq c 2
  else if i = 0x8410 ∧ c.addr.sub = 2 then
    if s.rd Od.sampleRing c.addr.inst ≠ 0xFFFF then WriteRes.refuse s .state else s.store c
  else s.store c

end Sys2Proof.Machine
end

