-- ==== Sys2Proof/Machine/Crypto.lean ====
section
/-! DEFINITION. The published functions the spec names: SHA-256 and HMAC-SHA-256 (R333, R343), the AES-256 key wrap of
RFC 3394 (R343), and the CRCs. -/

namespace Sys2Proof.Machine

/-- Round constants of SHA-256, first half. -/
def shaK0 : List Nat :=
  [0x428A2F98, 0x71374491, 0xB5C0FBCF, 0xE9B5DBA5, 0x3956C25B, 0x59F111F1, 0x923F82A4, 0xAB1C5ED5,
   0xD807AA98, 0x12835B01, 0x243185BE, 0x550C7DC3, 0x72BE5D74, 0x80DEB1FE, 0x9BDC06A7, 0xC19BF174,
   0xE49B69C1, 0xEFBE4786, 0x0FC19DC6, 0x240CA1CC, 0x2DE92C6F, 0x4A7484AA, 0x5CB0A9DC, 0x76F988DA,
   0x983E5152, 0xA831C66D, 0xB00327C8, 0xBF597FC7, 0xC6E00BF3, 0xD5A79147, 0x06CA6351, 0x14292967]

/-- Round constants of SHA-256, second half. -/
def shaK1 : List Nat :=
  [0x27B70A85, 0x2E1B2138, 0x4D2C6DFC, 0x53380D13, 0x650A7354, 0x766A0ABB, 0x81C2C92E, 0x92722C85,
   0xA2BFE8A1, 0xA81A664B, 0xC24B8B70, 0xC76C51A3, 0xD192E819, 0xD6990624, 0xF40E3585, 0x106AA070,
   0x19A4C116, 0x1E376C08, 0x2748774C, 0x34B0BCB5, 0x391C0CB3, 0x4ED8AA4A, 0x5B9CCA4F, 0x682E6FF3,
   0x748F82EE, 0x78A5636F, 0x84C87814, 0x8CC70208, 0x90BEFFFA, 0xA4506CEB, 0xBEF9A3F7, 0xC67178F2]

/-- Initial hash value of SHA-256. -/
def shaH : List Nat :=
  [0x6A09E667, 0xBB67AE85, 0x3C6EF372, 0xA54FF53A, 0x510E527F, 0x9B05688C, 0x1F83D9AB, 0x5BE0CD19]

/-- A 32-bit word rotated right. -/
def rotr32 (n x : Nat) : Nat := (x >>> n) ||| ((x <<< (32 - n)) % 2 ^ 32)

/-- Message octets with SHA-256 padding. -/
def shaPad (m : List Byte) : List Byte :=
  m ++ [0x80] ++ List.replicate ((119 - m.length % 64) % 64) 0 ++ beBytes 8 (8 * m.length)

/-- Message schedule: the last sixteen words, newest first, extended `n` times; answers all words, newest first. -/
def shaExtend : Nat → List Nat → List Nat
  | 0, w => w
  | n + 1, w =>
    let a := w.getD 1 0
    let b := w.getD 14 0
    let s1 := rotr32 17 a ^^^ rotr32 19 a ^^^ (a >>> 10)
    let s0 := rotr32 7 b ^^^ rotr32 18 b ^^^ (b >>> 3)
    shaExtend n (((s1 + w.getD 6 0 + s0 + w.getD 15 0) % 2 ^ 32) :: w)

/-- One round of SHA-256 on the eight working words. -/
def shaRound (v : List Nat) (kw : Nat) : List Nat :=
  match v with
  | [a, b, c, d, e, f, g, h] =>
    let t1 := h + (rotr32 6 e ^^^ rotr32 11 e ^^^ rotr32 25 e) + ((e &&& f) ^^^ ((2 ^ 32 - 1 - e) &&& g)) + kw
    let t2 := (rotr32 2 a ^^^ rotr32 13 a ^^^ rotr32 22 a) + ((a &&& b) ^^^ (a &&& c) ^^^ (b &&& c))
    [(t1 + t2) % 2 ^ 32, a, b, c, (d + t1) % 2 ^ 32, e, f, g]
  | _ => v

/-- Octets as big-endian 32-bit words. -/
def beWords : Nat → List Byte → List Nat
  | 0, _ => []
  | n + 1, l => beNat (l.take 4) :: beWords n (l.drop 4)

/-- One block of SHA-256. -/
def shaBlock (h : List Nat) (block : List Byte) : List Nat :=
  let w := (shaExtend 48 (beWords 16 block).reverse).reverse
  let out := (List.zipWith (· + ·) (shaK0 ++ shaK1) w).foldl shaRound h
  List.zipWith (fun a b => (a + b) % 2 ^ 32) h out

/-- SHA-256 over `n` blocks of padded octets. -/
def shaBlocks : Nat → List Nat → List Byte → List Nat
  | 0, h, _ => h
  | n + 1, h, m => shaBlocks n (shaBlock h (m.take 64)) (m.drop 64)

/-- SHA-256, 32 octets. -/
def sha256 (m : List Byte) : List Byte :=
  let p := shaPad m
  (shaBlocks (p.length / 64) shaH p).flatMap (beBytes 4)

/-- HMAC-SHA-256 of a message under a 32-octet key (R333). -/
def hmacSha256 (key m : List Byte) : List Byte :=
  let k := key ++ List.replicate (64 - key.length) 0
  sha256 (k.map (· ^^^ 0x5C) ++ sha256 (k.map (· ^^^ 0x36) ++ m))

/-- AES substitution box, first half. -/
def aesSbox0 : List Nat :=
  [0x63, 0x7C, 0x77, 0x7B, 0xF2, 0x6B, 0x6F, 0xC5, 0x30, 0x01, 0x67, 0x2B, 0xFE, 0xD7, 0xAB, 0x76,
   0xCA, 0x82, 0xC9, 0x7D, 0xFA, 0x59, 0x47, 0xF0, 0xAD, 0xD4, 0xA2, 0xAF, 0x9C, 0xA4, 0x72, 0xC0,
   0xB7, 0xFD, 0x93, 0x26, 0x36, 0x3F, 0xF7, 0xCC, 0x34, 0xA5, 0xE5, 0xF1, 0x71, 0xD8, 0x31, 0x15,
   0x04, 0xC7, 0x23, 0xC3, 0x18, 0x96, 0x05, 0x9A, 0x07, 0x12, 0x80, 0xE2, 0xEB, 0x27, 0xB2, 0x75,
   0x09, 0x83, 0x2C, 0x1A, 0x1B, 0x6E, 0x5A, 0xA0, 0x52, 0x3B, 0xD6, 0xB3, 0x29, 0xE3, 0x2F, 0x84,
   0x53, 0xD1, 0x00, 0xED, 0x20, 0xFC, 0xB1, 0x5B, 0x6A, 0xCB, 0xBE, 0x39, 0x4A, 0x4C, 0x58, 0xCF,
   0xD0, 0xEF, 0xAA, 0xFB, 0x43, 0x4D, 0x33, 0x85, 0x45, 0xF9, 0x02, 0x7F, 0x50, 0x3C, 0x9F, 0xA8,
   0x51, 0xA3, 0x40, 0x8F, 0x92, 0x9D, 0x38, 0xF5, 0xBC, 0xB6, 0xDA, 0x21, 0x10, 0xFF, 0xF3, 0xD2]

/-- AES substitution box, second half. -/
def aesSbox1 : List Nat :=
  [0xCD, 0x0C, 0x13, 0xEC, 0x5F, 0x97, 0x44, 0x17, 0xC4, 0xA7, 0x7E, 0x3D, 0x64, 0x5D, 0x19, 0x73,
   0x60, 0x81, 0x4F, 0xDC, 0x22, 0x2A, 0x90, 0x88, 0x46, 0xEE, 0xB8, 0x14, 0xDE, 0x5E, 0x0B, 0xDB,
   0xE0, 0x32, 0x3A, 0x0A, 0x49, 0x06, 0x24, 0x5C, 0xC2, 0xD3, 0xAC, 0x62, 0x91, 0x95, 0xE4, 0x79,
   0xE7, 0xC8, 0x37, 0x6D, 0x8D, 0xD5, 0x4E, 0xA9, 0x6C, 0x56, 0xF4, 0xEA, 0x65, 0x7A, 0xAE, 0x08,
   0xBA, 0x78, 0x25, 0x2E, 0x1C, 0xA6, 0xB4, 0xC6, 0xE8, 0xDD, 0x74, 0x1F, 0x4B, 0xBD, 0x8B, 0x8A,
   0x70, 0x3E, 0xB5, 0x66, 0x48, 0x03, 0xF6, 0x0E, 0x61, 0x35, 0x57, 0xB9, 0x86, 0xC1, 0x1D, 0x9E,
   0xE1, 0xF8, 0x98, 0x11, 0x69, 0xD9, 0x8E, 0x94, 0x9B, 0x1E, 0x87, 0xE9, 0xCE, 0x55, 0x28, 0xDF,
   0x8C, 0xA1, 0x89, 0x0D, 0xBF, 0xE6, 0x42, 0x68, 0x41, 0x99, 0x2D, 0x0F, 0xB0, 0x54, 0xBB, 0x16]

/-- Inverse AES substitution box, first half. -/
def aesInv0 : List Nat :=
  [0x52, 0x09, 0x6A, 0xD5, 0x30, 0x36, 0xA5, 0x38, 0xBF, 0x40, 0xA3, 0x9E, 0x81, 0xF3, 0xD7, 0xFB,
   0x7C, 0xE3, 0x39, 0x82, 0x9B, 0x2F, 0xFF, 0x87, 0x34, 0x8E, 0x43, 0x44, 0xC4, 0xDE, 0xE9, 0xCB,
   0x54, 0x7B, 0x94, 0x32, 0xA6, 0xC2, 0x23, 0x3D, 0xEE, 0x4C, 0x95, 0x0B, 0x42, 0xFA, 0xC3, 0x4E,
   0x08, 0x2E, 0xA1, 0x66, 0x28, 0xD9, 0x24, 0xB2, 0x76, 0x5B, 0xA2, 0x49, 0x6D, 0x8B, 0xD1, 0x25,
   0x72, 0xF8, 0xF6, 0x64, 0x86, 0x68, 0x98, 0x16, 0xD4, 0xA4, 0x5C, 0xCC, 0x5D, 0x65, 0xB6, 0x92,
   0x6C, 0x70, 0x48, 0x50, 0xFD, 0xED, 0xB9, 0xDA, 0x5E, 0x15, 0x46, 0x57, 0xA7, 0x8D, 0x9D, 0x84,
   0x90, 0xD8, 0xAB, 0x00, 0x8C, 0xBC, 0xD3, 0x0A, 0xF7, 0xE4, 0x58, 0x05, 0xB8, 0xB3, 0x45, 0x06,
   0xD0, 0x2C, 0x1E, 0x8F, 0xCA, 0x3F, 0x0F, 0x02, 0xC1, 0xAF, 0xBD, 0x03, 0x01, 0x13, 0x8A, 0x6B]

/-- Inverse AES substitution box, second half. -/
def aesInv1 : List Nat :=
  [0x3A, 0x91, 0x11, 0x41, 0x4F, 0x67, 0xDC, 0xEA, 0x97, 0xF2, 0xCF, 0xCE, 0xF0, 0xB4, 0xE6, 0x73,
   0x96, 0xAC, 0x74, 0x22, 0xE7, 0xAD, 0x35, 0x85, 0xE2, 0xF9, 0x37, 0xE8, 0x1C, 0x75, 0xDF, 0x6E,
   0x47, 0xF1, 0x1A, 0x71, 0x1D, 0x29, 0xC5, 0x89, 0x6F, 0xB7, 0x62, 0x0E, 0xAA, 0x18, 0xBE, 0x1B,
   0xFC, 0x56, 0x3E, 0x4B, 0xC6, 0xD2, 0x79, 0x20, 0x9A, 0xDB, 0xC0, 0xFE, 0x78, 0xCD, 0x5A, 0xF4,
   0x1F, 0xDD, 0xA8, 0x33, 0x88, 0x07, 0xC7, 0x31, 0xB1, 0x12, 0x10, 0x59, 0x27, 0x80, 0xEC, 0x5F,
   0x60, 0x51, 0x7F, 0xA9, 0x19, 0xB5, 0x4A, 0x0D, 0x2D, 0xE5, 0x7A, 0x9F, 0x93, 0xC9, 0x9C, 0xEF,
   0xA0, 0xE0, 0x3B, 0x4D, 0xAE, 0x2A, 0xF5, 0xB0, 0xC8, 0xEB, 0xBB, 0x3C, 0x83, 0x53, 0x99, 0x61,
   0x17, 0x2B, 0x04, 0x7E, 0xBA, 0x77, 0xD6, 0x26, 0xE1, 0x69, 0x14, 0x63, 0x55, 0x21, 0x0C, 0x7D]

/-- An octet through the AES substitution box. -/
def aesSub (b : Byte) : Byte :=
  BitVec.ofNat 8 (if b.toNat < 128 then aesSbox0.getD b.toNat 0 else aesSbox1.getD (b.toNat - 128) 0)

/-- An octet through the inverse AES substitution box. -/
def aesInvSub (b : Byte) : Byte :=
  BitVec.ofNat 8 (if b.toNat < 128 then aesInv0.getD b.toNat 0 else aesInv1.getD (b.toNat - 128) 0)

/-- Doubling in the AES field. -/
def aesDouble (b : Byte) : Byte := if b.msb then (b <<< 1) ^^^ 0x1B else b <<< 1

/-- Product in the AES field by a constant below 16. -/
def aesMul (c : Nat) (b : Byte) : Byte :=
  let b2 := aesDouble b
  let b4 := aesDouble b2
  let b8 := aesDouble b4
  (if c % 2 = 1 then b else 0) ^^^ (if c / 2 % 2 = 1 then b2 else 0) ^^^ (if c / 4 % 2 = 1 then b4 else 0)
    ^^^ (if c / 8 % 2 = 1 then b8 else 0)

/-- AES-256 key expansion: `n` more words after those given, newest first, word number `i` next. -/
def aesExpand : Nat → Nat → Byte → List (List Byte) → List (List Byte)
  | 0, _, _, w => w
  | n + 1, i, rcon, w =>
    let last := w.headD []
    let old := w.getD 7 []
    let t :=
      if i % 8 = 0 then
        match last with
        | [a, b, c, d] => [aesSub b ^^^ rcon, aesSub c, aesSub d, aesSub a]
        | l => l
      else if i % 8 = 4 then last.map aesSub
      else last
    aesExpand n (i + 1) (if i % 8 = 0 then aesDouble rcon else rcon) (List.zipWith (· ^^^ ·) old t :: w)

/-- Octets cut into fours. -/
def fours : Nat → List Byte → List (List Byte)
  | 0, _ => []
  | n + 1, l => l.take 4 :: fours n (l.drop 4)

/-- The 60 round-key words of a 32-octet AES key, in order. -/
def aesKeys (key : List Byte) : List (List Byte) := (aesExpand 52 8 1 (fours 8 key).reverse).reverse

/-- Round key `r` as 16 octets. -/
def aesRoundKey (ks : List (List Byte)) (r : Nat) : List Byte := ((ks.drop (4 * r)).take 4).flatten

/-- Rows shifted back. -/
def aesInvShift (b : List Byte) : List Byte :=
  [0, 13, 10, 7, 4, 1, 14, 11, 8, 5, 2, 15, 12, 9, 6, 3].map (byteAt b)

/-- Columns mixed back. -/
def aesInvMix (b : List Byte) : List Byte :=
  (fours 4 b).flatMap fun c =>
    let a0 := byteAt c 0
    let a1 := byteAt c 1
    let a2 := byteAt c 2
    let a3 := byteAt c 3
    [aesMul 14 a0 ^^^ aesMul 11 a1 ^^^ aesMul 13 a2 ^^^ aesMul 9 a3,
     aesMul 9 a0 ^^^ aesMul 14 a1 ^^^ aesMul 11 a2 ^^^ aesMul 13 a3,
     aesMul 13 a0 ^^^ aesMul 9 a1 ^^^ aesMul 14 a2 ^^^ aesMul 11 a3,
     aesMul 11 a0 ^^^ aesMul 13 a1 ^^^ aesMul 9 a2 ^^^ aesMul 14 a3]

/-- Rounds `r` down to 1 of AES-256 decryption. -/
def aesDecRounds (ks : List (List Byte)) : Nat → List Byte → List Byte
  | 0, b => b
  | r + 1, b =>
    let c := List.zipWith (· ^^^ ·) ((aesInvShift b).map aesInvSub) (aesRoundKey ks r)
    aesDecRounds ks r (if r = 0 then c else aesInvMix c)

/-- AES-256 decryption of one block. -/
def aesDecrypt (ks : List (List Byte)) (b : List Byte) : List Byte :=
  aesDecRounds ks 14 (List.zipWith (· ^^^ ·) b (aesRoundKey ks 14))

/-- Steps `t` down to 1 of the RFC 3394 unwrap of four 64-bit words. -/
def kwSteps (ks : List (List Byte)) : Nat → List Byte → List (List Byte) → List Byte × List (List Byte)
  | 0, a, r => (a, r)
  | t + 1, a, r =>
    let i := t % 4
    let b := aesDecrypt ks (beBytes 8 (beNat a ^^^ (t + 1)) ++ r.getD i [])
    kwSteps ks t (b.take 8) (r.set i (b.drop 8))

/-- The AES key unwrap of RFC 3394 for a 32-octet key: the key, if the integrity check passes. -/
def aesKeyUnwrap (kek wrapped : List Byte) : Option (List Byte) :=
  let word := fun i => slice wrapped (8 * i) 8
  let (a, r) := kwSteps (aesKeys kek) 24 (word 0) [word 1, word 2, word 3, word 4]
  if a = List.replicate 8 0xA6 then some r.flatten else none

/-- One bit step of a reflected CRC with the reflected polynomial `poly`. -/
def crcReflStep (poly c : Nat) : Nat := if c % 2 = 1 then (c / 2) ^^^ poly else c / 2

/-- A reflected CRC over octets from a start value, without the final inversion. -/
def crcReflected (poly : Nat) (init : Nat) (m : List Byte) : Nat :=
  m.foldl (fun c b => Nat.repeat (crcReflStep poly) 8 (c ^^^ b.toNat)) init

/-- CRC-32C of octets (start and final inversion all ones). -/
def crc32c (m : List Byte) : Nat := crcReflected 0x82F63B78 0xFFFFFFFF m ^^^ 0xFFFFFFFF

/-- The Ethernet frame check sequence (IEEE 802.3 CRC-32). -/
def crc32Eth (m : List Byte) : Nat := crcReflected 0xEDB88320 0xFFFFFFFF m ^^^ 0xFFFFFFFF

/-- One octet of an unreflected CRC of width `w`. -/
def crcFwdByte (w poly : Nat) (c : Nat) (b : Byte) : Nat :=
  Nat.repeat (fun x => if x / 2 ^ (w - 1) % 2 = 1 then ((2 * x) % 2 ^ w) ^^^ poly else (2 * x) % 2 ^ w) 8 (c ^^^ (b.toNat * 2 ^ (w - 8)))

/-- An unreflected CRC of width `w` over octets. -/
def crcForward (w poly init : Nat) (m : List Byte) : Nat := m.foldl (crcFwdByte w poly) init

end Sys2Proof.Machine
end

