-- ==== Sys2Proof/Machine/Ports.lean ====
section
/-! DEFINITION. Ports, lanes and the L400 profile (R65 to R93). -/

namespace Sys2Proof.Machine

/-- Every port object but PORT_MODE returns to its default on lane `n` (R67). -/
def State.resetPortObjects (s : State) (n : Nat) : State :=
  { s with
    regs := s.regs.filter fun e =>
      !(decide (e.1 / 16777216 = portInst n) && decide (0x200000 ≤ e.1 % 16777216) && decide (e.1 % 16777216 < 0x210000)
        && decide (e.1 % 16777216 ≠ 0x200101))
    links := { s.links with ports := sparseErase s.links.ports n, lanes := sparseErase s.links.lanes n } }

/-- PORT_MODE takes a value; a value other than the one in force resets the port objects (R67). -/
def State.newMode (s : State) (n v : Nat) : State :=
  if s.portModeOf n = v then s else (s.resetPortObjects n).wr Od.portMode v (portInst n)

/-- Check 13 of a write of PORT_MODE (R66). -/
def State.checkMode (s : State) (n v : Nat) : Status :=
  let k := modeLanes v
  if v ≠ 0 ∧ n % k ≠ 0 then .range
  else if v ≠ 0 ∧ modeGroup v ≠ s.rd Od.octetRateGroup (portInst (octetLane n)) then .state
  else if (List.range k).any fun i => match s.portOfLane (n + i) with
      | some p => decide (p ≠ n)
      | none => false then .state
  else if s.portStateOf n ≠ 0 then .state
  else .ok

/-- A write of PORT_ENABLE by the state of the port (R91): 1 TRAINING, 2 UP, 3 DOWN, 4 DRAINING, 5 PENDING_ENABLE. -/
def State.enablePort (s : State) (n v : Nat) : Status × State :=
  let i := portInst n
  let s1 := s.wr Od.portEnable v i
  let st := s.portStateOf n
  if v = 1 then
    if st = 0 then (.ok, (s1.setPortLink n { s1.portLink n with noPartner := false, stored := none }).startTraining n false)
    else if st = 4 then (.deferred, s1.wr Od.portState 5 i)
    else if st = 5 then (.deferred, s1)
    else (.ok, s1)
  else if st = 1 ∨ st = 3 then (.ok, s1.squelch n)
  else if st = 2 then (.ok, s1.beginDrain n)
  else if st = 5 then (.ok, s1.wr Od.portState 4 i)
  else (.ok, s1)

/-- OCTET_RATE_GROUP (R65): the modes of the other group go. -/
def State.setRateGroup (s : State) (n v : Nat) : WriteRes :=
  let ports := (List.range 8).map (octetLane n + ·)
  if ports.any fun m => s.portStateOf m ≠ 0 then WriteRes.refuse s .state
  else
    WriteRes.good ((ports.foldl (fun a m => if a.portModeOf m ≠ 0 ∧ modeGroup (a.portModeOf m) ≠ v then a.newMode m 0 else a) s).wr
      Od.octetRateGroup v (portInst (octetLane n)))

/-- Writes of the port, lane and octet objects (indices 0x2000 to 0x22FF). -/
def State.writePorts (s : State) (c : WriteCtx) : WriteRes :=
  let i := c.addr.index
  let b := c.addr.sub
  let n := c.addr.inst % 65536 - 0x1000
  if i = 0x2001 ∧ b = 1 then
    match s.checkMode n c.value with
    | .ok => WriteRes.good (s.newMode n c.value)
    | st => WriteRes.refuse s st
  else if i < 0x2100 ∧ s.portModeOf n = 0 then WriteRes.refuse s .state
  else if i = 0x2000 ∧ b = 1 then
    let r := s.enablePort n c.value
    { status := r.1, state := r.2, record := 0 }
  else if i = 0x2000 ∧ b = 3 then
    let t := (s.store c).state
    WriteRes.good (if c.value = 1 ∧ s.portStateOf n = 3 then t.startTraining n true else t)
  else if i = 0x2001 ∧ b = 4 then
    if c.value = 1 ∧ s.rd Od.portLoopback c.addr.inst = 0 then WriteRes.refuse s .state else s.store c
  else if i = 0x2200 ∧ b = 1 then s.setRateGroup n c.value
  else s.store c

/-- LINK_RETRAIN_START (R87): a DOWN port with LINK_RETRAIN_AUTO enters TRAINING. -/
def execLinkRetrainStart (n : Nat) (s : State) : Answer :=
  withLane s n (if s.portStateOf n = 3 ∧ s.rd Od.linkRetrainAuto (portInst n) = 1 then s.startTraining n true else s)

/-! L400 training (R73, R74, R504). -/

/-- Range and preset of a transmit tap, pre3 to post1 (R504). -/
def tapLimits (t : Nat) : Int × Int × Int :=
  if t = 0 then (-8, 8, 0) else if t = 1 then (-16, 16, 0) else if t = 2 then (-48, 0, -16) else if t = 3 then (64, 128, 108)
  else (-32, 0, -4)

/-- Steps of tap `t` of lane `n`. -/
def State.tap (s : State) (n t : Nat) : Int := toSigned 8 (s.rdOctet Od.laneTxTaps (portInst n) 0 t)

/-- Set tap `t` of lane `n`. -/
def State.setTap (s : State) (n t : Nat) (v : Int) : State := s.wrOctet Od.laneTxTaps (portInst n) 0 t (ofSigned 8 v)

/-- A partner's request on one of our taps and its answer: 0 NOT_UPDATED, 1 UPDATED, 2 AT_LIMIT, 3 NOT_SUPPORTED (R73, R504). -/
def State.answerTap (s : State) (n tap request : Nat) : State × Nat :=
  if 5 ≤ tap then (s, 3)
  else if request = 0 then (s, 0)
  else if request = 3 then ([0, 1, 2, 3, 4].foldl (fun a t => a.setTap n t (tapLimits t).2.2) s, 1)
  else
    let v := s.tap n tap + (if request = 1 then 1 else -1)
    let t := s.setTap n tap v
    let sum := ([0, 1, 2, 3, 4].map fun k => (t.tap n k).natAbs).foldl (· + ·) 0
    if v < (tapLimits tap).1 ∨ (tapLimits tap).2.1 < v ∨ 128 < sum then (s, 2) else (t, 1)

/-- The control word that a lane sends in a step; the tap and the request of step 2 are its equaliser's choice among those that are not reserved
(DESIGN CHOICE, log 7). -/
def controlWord (step choice : Nat) : Nat :=
  0x1000 + (if step = 2 then choice / 4 % 5 * 512 + choice % 4 * 128 else if step = 1 then 3 * 128 else 0) + (if 3 ≤ step then 32 else 0)

/-- What a good frame of the partner makes of a lane (R74): `quick` skips step 2 (R76). A restart that the partner asks for begins the lane again. The
target of PAM6 counts once both ends may have changed, after 16 frames with PAM6. -/
def LaneLink.hear (x : LaneLink) (now control status : Nat) (targetMet quick : Bool) : LaneLink :=
  if bitOf control 4 then { LaneLink.fresh with step := 1, since := now, prbs := x.prbs }
  else
    let pam := if bits control 6 5 = 1 then min 16 (x.pamSeen + 1) else 0
    let step :=
      if x.step = 1 then (if quick then 3 else 2)
      else if x.step = 2 then (if targetMet then 3 else 2)
      else if x.step = 3 then (if targetMet = true ∧ x.pamSeen = 16 then 4 else 3)
      else x.step
    let ready := bitOf status 6
    { x with step := step, pamSeen := pam, partnerReady := ready,
             bothReady := if x.step = 4 ∧ ready = true then min 32 (x.bothReady + 1) else x.bothReady }

/-- TRAINING_FRAME_RX (R73 to R75): the steps of R74 on one lane, driven by a frame of the partner; `targetMet` says whether the receiver meets the target of
the modulation in use. A frame of another profile shows that no partner is there. -/
def execTrainingFrameRx (n control status : Nat) (targetMet : Bool) (s : State) : Answer :=
  withLane s n <|
    match s.portOfLane n with
    | none => s
    | some p =>
      let l := s.portLink p
      if s.portStateOf p ≠ 1 ∨ modeGroup (s.portModeOf p) ≠ 1 then s
      else if bits status 15 12 ≠ 1 ∨ bits control 15 12 ≠ 1 then s.setPortLink p { l with badProfile := true }
      else
        let a := s.answerTap n (bits control 11 9) (bits control 8 7)
        let x := (s.laneLink n).hear s.up control status targetMet l.quick
        let s1 := (a.1.setPortLink p { l with badProfile := false, judgeAt := s.up + 500000000 }).setLaneLink n x
        let s2 := if x.step = 2 then s1.useFree else s1
        s2.sendTraining n (controlWord x.step (s1.freeBits 5))
          (0x1000 + bits control 11 9 * 512 + a.2 * 128 + (if x.step = 4 then 64 else 0) + (n - p) * 8)

/-- L400_TRAIN_STEP_TIMEOUT (R74): a step or the attempt has gone over its limit; training restarts from step 1 with INIT = 1 and the restart is
counted. -/
def execL400TrainStepTimeout (n : Nat) (s : State) : Answer := withLane s n (if s.stepOverdue n then s.restartTraining n else s)

/-- L400_NO_PARTNER (R75): the event once, and the restart, which comes once each second. -/
def execL400NoPartner (n : Nat) (s : State) : Answer :=
  withLane s n <|
    if s.partnerMissing n then
      let x := s.portLink n
      let s1 := s.setPortLink n { x with noPartner := true, badProfile := false, judgeAt := s.up + 1000000000 }
      (if x.noPartner then s1 else s1.fireLane n).restartTraining n
    else s

/-- Training resumes after a link drop during a changeover (R86): on the spare if the own slice triggered R80, else on the own
slice; LANE_SWITCHOVER says which. -/
def State.stopJob (s : State) (o : Nat) (j : SliceJob) : State :=
  if j.repair ∨ j.back then s.endJob o j
  else
    ((((s.setSlice o { s.spareSlice o with job := none }).wr Od.spareSliceLane 0xFF (portInst (o * 8))).wr Od.spareSliceState 1
      (portInst (o * 8))).judgeSlice o).fireLane (o * 8 + j.lane)

/-- An UP port goes DOWN (R88): LINK_DOWN, the changeovers of its lanes stop, and an automatic retrain follows (R87). Where the port's recovered clock is the
frequency source, that source is lost (R43, R64; DEDUCED, log 129). -/
def State.linkLost (s : State) (n : Nat) : State :=
  if s.portStateOf n ≠ 2 then s
  else
    let o := n / 8
    let s0 := if s.rd Od.freqSource = 3 ∧ s.rd Od.synceSourcePort = n then s.sourceLost else s
    let s1 := (s0.wr Od.portState 3 (portInst n)).fireLane n
    let s2 := match (s.spareSlice o).job with
      | some j => if n ≤ o * 8 + j.lane ∧ o * 8 + j.lane < n + modeLanes (s.portModeOf n) then s1.stopJob o j else s1
      | none => s1
    let s3 := ((s.lanesOf n).foldl (fun a m => a.setLaneLink m LaneLink.fresh) s2).judgeSlice o
    if s.rd Od.linkRetrainAuto (portInst n) = 1 then s3.later 1000000 (.linkRetrainStart n) else s3

/-- Whether a block is an alignment block of lane `l` of its port (R72): every field that the layout fixes. -/
def goodAlignment (block l : Nat) : Bool :=
  bitOf block 256 && decide (bits block 255 232 = 0xD3A65C) && decide (bits block 231 228 = 1) && decide (bits block 227 225 = l)
    && decide (bits block 224 208 = 0) && decide (bits block 183 0 = 0)

/-- A block found, or none that can be read, at the place of an alignment block (R72). Blocks follow one another where COUNT goes up by one: a block whose
COUNT does not follow is the first of a new row, and, once there is lock, as good as missed (DESIGN CHOICE, log 125). -/
def LaneLink.align (x : LaneLink) (now : Nat) (block : Option Nat) : LaneLink :=
  match block with
  | some b =>
    let c := bits b 207 192
    if x.found = 0 ∨ c = (x.count + 1) % 65536 then
      { x with found := min 2 (x.found + 1), missed := 0, aligned := x.aligned || decide (1 ≤ x.found), count := c, foundAt := now }
    else { x with found := 1, missed := min 3 (x.missed + 1), aligned := x.aligned && decide (x.missed < 2), count := c, foundAt := now }
  | none => { x with found := 0, missed := min 3 (x.missed + 1), aligned := x.aligned && decide (x.missed < 2) }

/-- Whether the skew between the lanes of a port can be removed (R72): blocks of one COUNT have come within 40 ns. -/
def State.skewOk (s : State) (n : Nat) : Bool :=
  (s.lanesOf n).all fun a => (s.lanesOf n).all fun b =>
    (s.laneLink a).count ≠ (s.laneLink b).count || decide ((s.laneLink a).foundAt ≤ (s.laneLink b).foundAt + 40)

/-- ALIGNMENT_BLOCK_RX (R72): the block at the place of an alignment block, or none that can be read there. Two in a row give
lock of the lane, three missed in a row lose alignment. -/
def execAlignmentBlockRx (n : Nat) (block : Option Nat) (s : State) : Answer :=
  withLane s n <|
    match s.portOfLane n with
    | none => s
    | some p =>
      let x := (s.laneLink n).align s.up (block.filter fun b => goodAlignment b (n - p))
      let s1 := s.setLaneLink n x
      if x.missed = 3 then s1.linkLost p else s1

/-- Whether the octet of a port has both its pipelines (R413). -/
def State.octetServed (s : State) (n : Nat) : Bool :=
  let d := n / 64
  let o := n % 64 / 8
  !(s.pipeRetired d false (s.pipeOf d false o)) && !(s.pipeRetired d true (s.pipeOf d true o))

/-- Whether the steps of R74 have ended on every lane of a port: 32 frames with RX_READY on both ends, alignment lock, and skew that can be removed. IEEE
training has no steps here. -/
def State.trained (s : State) (n : Nat) : Bool :=
  modeGroup (s.portModeOf n) = 0 ||
    ((s.lanesOf n).all (fun m => (s.laneLink m).done && decide (32 ≤ (s.laneLink m).bothReady)) && s.skewOk n)

/-- LINK_UP (R74, R88): training has ended. The coefficients are stored (R76), each lane's margin has been measured (a free value: DESIGN CHOICE, log 7), and a
Seasoned spare returns to Seasoning (R79). -/
def execLinkUp (n : Nat) (s : State) : Answer :=
  withLane s n <|
    if s.portStateOf n = 1 ∧ s.octetServed n = true ∧ s.trained n = true then
      let l := s.portLink n
      let taps := (s.lanesOf n).map fun m => s.rd Od.laneTxTaps (portInst m)
      let up : PortLink := { PortLink.fresh with drainFrom := l.drainFrom, stored := some taps }
      let s1 := (s.setPortLink n up).wr Od.portState 2 (portInst n)
      let s2 := (s.lanesOf n).foldl (fun (a : State) m => (a.wr Od.laneMargin (a.freeBits 16) (portInst m)).useFree) s1
      (s2.judgeSlice (n / 8)).fireLane n
    else s

/-- LINK_DOWN (R88): a local or remote fault, lost alignment or too many uncorrectable codewords. -/
def execLinkDown (n : Nat) (s : State) : Answer := withLane s n (s.linkLost n)

/-! The spare slice (R79 to R86). -/

/-- SPARE_SLICE_LISTEN (R79): the spare has listened on lane `n` for 100 ms; its set is stored and the spare moves on. -/
def execSpareSliceListen (n : Nat) (marginOk : Bool) (s : State) : Answer :=
  withLane s n <|
    let o := n / 8
    let x := s.spareSlice o
    if (s.sliceState o = 1 ∨ s.sliceState o = 2) ∧ x.job.isNone = true ∧ s.laneUp n = true ∧ s.rd Od.spareSliceLane (portInst (o * 8)) = n % 8 ∧
        x.listening + 100000000 ≤ s.up then
      ((s.setSlice o { x with sets := (n % 8, s.up, marginOk) :: x.sets.filter fun e => e.1 ≠ n % 8 }).listenOn o (s.nextListen o (n % 8))).judgeSlice o
    else s

/-- Pending planned changeovers of an octet. -/
def Change.isChangeover (c : Change) (o : Nat) : Bool := c.inst = portInst (o * 8) && c.index = 0x2200 && (c.sub = 4 || c.sub = 5)

/-- The repair takes the spare: pending planned changes of other lanes are cancelled (R86). -/
def State.preempt (s : State) (o lane : Nat) : State :=
  let gone := s.sched.changes.filter fun c => c.isChangeover o && c.value ≠ lane
  gone.foldl (fun a c => a.fireLane (o * 8 + c.value)) (s.cancelChanges (fun c => c.isChangeover o && c.value ≠ lane) .ok)

/-- Whether the count of a 1 ms window on a lane of a port starts a repair (R80): in L400 more than 16 heavy codewords; in IEEE modes more than 1 % of the
10-bit symbols that a lane carries in 1 ms, at 106.25 Gb/s for each 100 Gb/s of its rate. -/
def State.heavyLane (s : State) (p heavy : Nat) : Bool :=
  let m := s.portModeOf p
  if modeGroup m = 1 then decide (16 < heavy) else decide (106250 * (modeRate m / (100 * modeLanes m)) < heavy)

/-- What the window of a trigger counts (R80, R93): LANE_HEAVY_CODEWORDS, the corrected symbols, and the codewords lost. Each heavy codeword of L400 has 8
corrected symbols or more: how many more is a free value (DESIGN CHOICE, log 7). -/
def State.countWindow (s : State) (n p trigger heavy lost : Nat) : State :=
  let s1 := s.bump Od.fecUncorrected (portInst p) 0 lost
  if trigger = 2 then
    let s2 := s1.wr Od.laneHeavyCodewords (low 32 heavy) (portInst n)
    if modeGroup (s.portModeOf p) = 1 then (s2.bump Od.fecCorrectedSymbols (portInst p) 0 (8 * heavy + s2.freeBits 32 % (7 * heavy + 1))).useFree
    else s2.bump Od.fecCorrectedSymbols (portInst p) 0 heavy
  else s1

/-- LANE_REPAIR_TRIGGER (R80, R85, R86): `trigger` 1 self-check, 2 codeword rate with the count `heavy` of the window; `lost` codewords were uncorrectable so
far. R86 names the case of a planned changeover that is still pending: one that is under way on another lane gives the spare up too, with no report. R85
names the case of another lane: on the lane that a planned changeover has put on the spare the trigger only counts (DESIGN CHOICE, log 126). -/
def execLaneRepairTrigger (n trigger heavy lost : Nat) (s : State) : Answer :=
  withLane s n <|
    let o := n / 8
    let x := s.spareSlice o
    let j : SliceJob := { lane := n % 8, repair := true, back := false, rxDone := false, began := s.up, loaded := false, trigger := trigger, lost := lost }
    match s.portOfLane n with
    | none => s
    | some p =>
      let s1 := s.countWindow n p trigger heavy lost
      let second := s1.fault (n / 64) 0x00 2 n trigger (low 32 lost)
      if trigger = 2 ∧ s.heavyLane p heavy = false then s1
      else if s.rd Od.laneSlice (portInst n) = 1 ∧ x.planned ≠ some (n % 8) then second
      else if x.job.any (fun k => k.lane = n % 8 && !k.back) then
        s1.setSlice o { x with job := x.job.map fun k => { k with repair := true, trigger := trigger, lost := k.lost + lost } }
      else if x.next.any (fun k => k.lane = n % 8) then
        s1.setSlice o { x with next := x.next.map fun k => { k with lost := k.lost + lost } }
      else if x.job.any (·.repair) ∨ x.next.isSome = true then second
      else if s.sliceState o < 3 then (s1.preempt o (n % 8)).startJob o j
      else
        match x.planned with
        | some l =>
          if l = n % 8 then s1
          else
            let undo : SliceJob := { lane := l, repair := false, back := true, rxDone := true, began := s.up, loaded := false, trigger := 0, lost := 0 }
            (s1.preempt o (n % 8)).setSlice o { x with job := some undo, next := some j }
        | none => second

/-- RX_CHANGEOVER (R81): after a shadow decode over one alignment interval of 52.4288 µs the FEC decoder takes the other slice. -/
def execRxChangeover (n : Nat) (s : State) : Answer :=
  withLane s n <|
    let x := s.spareSlice (n / 8)
    match x.job with
    | some j => if j.lane = n % 8 ∧ j.began + 52429 ≤ s.up then s.setSlice (n / 8) { x with job := some { j with rxDone := true } } else s
    | none => s

/-- TX_CHANGEOVER (R83, R85, R86): the output stage takes the other slice and the changeover ends. -/
def execTxChangeover (n : Nat) (s : State) : Answer :=
  withLane s n <|
    match (s.spareSlice (n / 8)).job with
    | some j => if j.lane = n % 8 ∧ j.rxDone = true then s.endJob (n / 8) j else s
    | none => s

/-- Whether lane `l`'s own slice of an octet is Retired. -/
def State.sliceRetired (s : State) (o l : Nat) : Bool :=
  s.recov.retired.any fun r => r.cls = 0 && r.die = o / 8 && r.group = o % 8 && r.unit = l

/-- Check 13 of SPARE_CHANGEOVER (sub-index 4) and SPARE_RELEASE (5) at an unwrapped epoch (R86). -/
def State.checkChangeover (s : State) (a : Address) (value epoch : Nat) : Status :=
  let o := (a.inst - 0x1000) / 8
  if epoch * s.epochNs < s.ns + 2000000 then .range
  else if a.sub = 4 ∧ (s.sliceState o ≠ 2 ∨ (s.spareSlice o).job.isSome = true) then .state
  else if a.sub = 5 ∧ s.sliceRetired o value = true then .state
  else .ok

/-- A planned changeover begins at its boundary (R86), unless the spare has been taken meanwhile: then the lane's owner is told by
SPARE_PREEMPTED. -/
def State.applyChangeover (s : State) (a : Address) (lane : Nat) : State :=
  let o := (a.inst - 0x1000) / 8
  let j : SliceJob := { lane := lane, repair := false, back := a.sub = 5, rxDone := false, began := s.up, loaded := false, trigger := 0, lost := 0 }
  if a.sub = 4 then (if s.sliceFree o then s.startJob o j else s.fireLane (o * 8 + lane))
  else if (s.spareSlice o).planned = some lane ∧ (s.spareSlice o).job.isNone = true then s.setSlice o { s.spareSlice o with job := some j }
  else s

end Sys2Proof.Machine
end

