-- ==== Sys2Proof/Machine/Header.lean ====
section
/-! DEFINITION. The header vector (R94 to R97), table banks, and the parser as a function of a bank and a frame (R99 to R121). -/

namespace Sys2Proof.Machine

/-- Write the field `hi:lo` of a number, the value cut to the field. -/
def putBits (n hi lo v : Nat) : Nat := n - bits n hi lo * 2 ^ lo + low (hi + 1 - lo) v * 2 ^ lo

/-- Byte `i` of an HV held as a number of 6,144 bits, HV byte 0 most significant: metadata bits keep their numbers (R94). -/
def hvByte (hv i : Nat) : Nat := (hv / 256 ^ (767 - i)) % 256

/-- Write HV byte `i`. -/
def hvPutByte (hv i b : Nat) : Nat := putBits hv (8 * (767 - i) + 7) (8 * (767 - i)) b

/-- Key of a record: bank, table identifier, index. -/
def tblKey (bank t index : Nat) : Nat := (bank * 4096 + t) * 2 ^ 48 + index

/-! The default parse graph (R114). -/

/-- A node record (R100). -/
def nodeRecord (type mode base foff fwid shift lmin lmax s0 w0 s1 w1 lk lkoff lkw tb tc dn : Nat) : Nat :=
  type * 2 ^ 120 + mode * 2 ^ 118 + base * 2 ^ 108 + foff * 2 ^ 99 + fwid * 2 ^ 95 + shift * 2 ^ 92 + lmin * 2 ^ 82 + lmax * 2 ^ 72
    + s0 * 2 ^ 63 + w0 * 2 ^ 58 + s1 * 2 ^ 49 + w1 * 2 ^ 44 + lk * 2 ^ 42 + lkoff * 2 ^ 33 + lkw * 2 ^ 28 + tb * 2 ^ 16 + tc * 2 ^ 9
    + dn * 2

/-- A default node of fixed length. -/
def fixedNode (type len s0 w0 lk lkoff lkw tb tc : Nat) : Nat :=
  nodeRecord type 0 len 0 0 0 len len s0 w0 0 0 lk lkoff lkw tb tc 0xFF

/-- The default nodes, index and record. -/
def defaultNodes : Sparse Nat :=
  [(0x01, fixedNode 0x01 14 96 16 0 0 0 0 7), (0x02, fixedNode 0x02 4 16 16 0 0 0 7 7),
   (0x03, nodeRecord 0x03 0 4 0 0 0 4 4 23 1 32 4 0 0 0 14 3 0xFF),
   (0x04, nodeRecord 0x04 1 0 4 4 2 20 60 72 8 51 13 1 16 16 17 5 0xFF),
   (0x05, fixedNode 0x05 40 48 8 2 32 16 22 8),
   (0x06, nodeRecord 0x06 1 8 8 8 3 8 512 0 8 0 0 0 0 0 30 8 0xFF),
   (0x07, nodeRecord 0x07 1 8 8 8 3 8 512 0 8 0 0 0 0 0 38 8 0xFF),
   (0x08, fixedNode 0x08 8 16 16 1 32 16 46 5),
   (0x09, nodeRecord 0x09 1 0 96 4 2 20 60 0 0 0 0 0 0 0 0 0 0xFF),
   (0x0A, fixedNode 0x0A 8 0 0 0 0 0 51 1),
   (0x0B, nodeRecord 0x0B 1 8 2 6 2 8 260 16 16 0 0 0 0 0 52 3 0xFF),
   (0x0C, fixedNode 0x0C 8 0 0 0 0 0 0 0), (0x0D, fixedNode 0x0D 8 0 0 0 0 0 0 0),
   (0x0E, fixedNode 0x0E 12 0 0 0 0 0 0 0), (0x0F, fixedNode 0x0F 34 0 0 0 0 0 0 0),
   (0x10, fixedNode 0x10 28 0 0 0 0 0 0 0)]

/-- A transition record (R103) without PSA_START and KEY_PROFILE. -/
def transRecord (value mask next tunnel : Nat) : Nat := value * 2 ^ 64 + mask * 2 ^ 32 + next * 2 ^ 24 + tunnel * 2 ^ 23

/-- Transitions of an EtherType (R114). -/
def etherTransitions : List Nat :=
  [transRecord 0x8100 0xFFFF 0x02 0, transRecord 0x88A8 0xFFFF 0x02 0, transRecord 0x0800 0xFFFF 0x04 0,
   transRecord 0x86DD 0xFFFF 0x05 0, transRecord 0x8847 0xFFFF 0x03 0, transRecord 0x88F7 0xFFFF 0x0F 0,
   transRecord 0x0806 0xFFFF 0x10 0]

/-- Transitions of an IPv6 next header (R114). -/
def nextHeaderTransitions : List Nat :=
  [transRecord 17 0xFF 0x08 0, transRecord 6 0xFF 0x09 0, transRecord 58 0xFF 0x0D 0, transRecord 0 0xFF 0x06 0,
   transRecord 60 0xFF 0x06 0, transRecord 43 0xFF 0x07 0, transRecord 4 0xFF 0x04 1, transRecord 41 0xFF 0x05 1]

/-- The default transitions 0 to 54. -/
def defaultTransitions : List Nat :=
  etherTransitions ++ etherTransitions ++
  [transRecord 0x00 0x10 0x03 0, transRecord 0x14 0x1F 0x04 0, transRecord 0x16 0x1F 0x05 0,
   transRecord 0x22000 0x1FFFFF 0x08 0, transRecord 0xC000 0x1FFFFF 0x09 0, transRecord 0x2000 0x1FFFFF 0x0C 0,
   transRecord 0x8000 0x1FFFFF 0x04 1, transRecord 0x52000 0x1FFFFF 0x05 1] ++
  nextHeaderTransitions ++ nextHeaderTransitions ++ nextHeaderTransitions ++
  [transRecord 4789 0xFFFF 0x0A 0, transRecord 6081 0xFFFF 0x0B 0, transRecord 4791 0xFFFF 0x0E 0, transRecord 319 0xFFFF 0x0F 0,
   transRecord 320 0xFFFF 0x0F 0, transRecord 0 0 0x01 1, transRecord 0x6558 0xFFFF 0x01 1, transRecord 0x0800 0xFFFF 0x04 1,
   transRecord 0x86DD 0xFFFF 0x05 1]

/-- What an unlisted record reads as: the default graph in both parser banks (R114), the start records of logical ports 0 to 511
(R160), zero elsewhere. -/
def tblDefault (key : Nat) : Nat :=
  let t := key / 2 ^ 48 % 4096
  let i := key % 2 ^ 48
  if t = 0x30 then (sparseFind? defaultNodes i).getD 0 else if t = 0x31 then defaultTransitions.getD i 0
  else if t = 0x40 ∧ i < 512 then 2 ^ 126 + i * 2 ^ 114 else 0

/-- A record of a table bank. -/
def State.tbl (s : State) (bank t index : Nat) : Nat := sparseGet tblDefault s.tables (tblKey bank t index)

/-- Write a record of a table bank. -/
def State.setTbl (s : State) (bank t index v : Nat) : State :=
  { s with tables := sparseSet tblDefault s.tables (tblKey bank t index) v }

/-- Instance under which a banked package object is held (R122, R157, R225). -/
def bankInst (b : Nat) : Nat := b * 1048576

/-! The walk (R100 to R113). -/

/-- Field of `w` bits at bit `q` of a 4,096-bit header copy; bits past it read 0 (R101). -/
def headerField (h q w : Nat) : Nat := (h * 2 ^ 128 / 2 ^ (4224 - q - w)) % 2 ^ w

/-- State of a walk. -/
structure Walk where
  node : Nat
  off : Nat
  level : Nat
  bound : Option Nat
  l3End : Nat
  psaFrom : Option Nat
  keyProf : Nat
  slack : Nat
  /-- Instances, newest first. -/
  insts : List Nat

/-- End of a walk: PARSE_STATUS (R95), the walk, and the payload start. -/
structure WalkEnd where
  status : Nat
  walk : Walk
  payload : Nat

/-- The frame as the walk sees it: header copy, whether complete, and the frame end less FCS. -/
structure FrameView where
  header : Nat
  complete : Bool
  stop : Nat

/-- Check of a header's end (R109): 0, or the failure. -/
def fits (f : FrameView) (bound : Option Nat) (e : Nat) : Nat :=
  if bound.any (fun b => decide (b < e)) then 3
  else if 512 < e then 2
  else if f.complete = true ∧ f.stop < e then 3
  else 0

/-- Header length of a node at an offset (R102). -/
def headerLength (f : FrameView) (node off : Nat) : Nat :=
  if bits node 119 118 = 0 then bits node 117 108
  else
    let w := if bits node 98 95 = 0 then 16 else bits node 98 95
    bits node 117 108 + headerField f.header (off * 8 + bits node 107 99) w * 2 ^ bits node 94 92

/-- Selector value of a node (R104). -/
def selectorValue (f : FrameView) (node off : Nat) : Nat :=
  headerField f.header (off * 8 + bits node 71 63) (bits node 62 58) * 2 ^ bits node 48 44
    + headerField f.header (off * 8 + bits node 57 49) (bits node 48 44)

/-- Check of a length claim (R110): 0 or PARSE_LENGTH, with the new bound, L3_END and slack. -/
def checkClaim (f : FrameView) (w : Walk) (node stop : Nat) : Nat × Walk :=
  let kind := bits node 43 42
  if kind = 0 then (0, w)
  else
    let v := headerField f.header (w.off * 8 + bits node 41 33) (bits node 32 28)
    let claim := if kind = 1 then w.off + v else stop + v
    if claim < stop then (3, w)
    else
      match w.bound with
      | none =>
        if 10236 < claim ∨ (f.complete = true ∧ f.stop < claim) then (3, w)
        else (0, { w with bound := some claim, l3End := claim })
      | some b =>
        if b < claim then (3, w)
        else (0, { w with bound := some claim, slack := w.slack + (if claim < b then 1 else 0) })

/-- The winning transition of a node (R104). -/
def winner (trans : Nat → Nat) (node sel : Nat) : Option Nat :=
  ((List.range (bits node 15 9)).map fun i => trans (bits node 27 16 + i)).find? fun t => decide (sel &&& bits t 63 32 = bits t 95 64)

/-- The walk of the parse graph; `n` instances are recorded so far (R109 to R113). -/
def walkGraph (nodes trans : Nat → Nat) (f : FrameView) : Nat → Walk → WalkEnd
  | 0, w => { status := 2, walk := w, payload := w.off }
  | fuel + 1, w =>
    let node := nodes w.node
    let fail := fun (st : Nat) (x : Walk) => ({ status := st, walk := x, payload := x.off } : WalkEnd)
    if bits node 127 120 = 0 then fail 4 w
    else if 16 ≤ w.insts.length then fail 2 w
    else
      let r0 := fits f w.bound (w.off + bits node 91 82)
      if r0 ≠ 0 then fail r0 w
      else
        let len := headerLength f node w.off
        if len < bits node 91 82 ∨ bits node 81 72 < len then fail 3 w
        else
          let stop := w.off + len
          let r1 := fits f w.bound stop
          if r1 ≠ 0 then fail r1 w
          else
            let c := checkClaim f w node stop
            if c.1 ≠ 0 then fail 3 w
            else
              let inst := bits node 127 120 * 2 ^ 24 + w.off * 2 ^ 14 + len * 16 + w.level * 4 + (if bits node 43 42 = 0 then 0 else 2)
              let x : Walk := { c.2 with insts := inst :: w.insts }
              match winner trans node (selectorValue f node w.off) with
              | none =>
                let next := bits node 8 1
                if next = 0xFE then fail 4 x
                else if next = 0xFF then { status := 0, walk := x, payload := stop }
                else walkGraph nodes trans f fuel { x with off := stop, node := next }
              | some t =>
                let y : Walk :=
                  { x with level := if bitOf t 23 then min 3 (x.level + 1) else x.level,
                           psaFrom := if bitOf t 22 then some stop else x.psaFrom,
                           keyProf := if bits t 21 14 = 0 then x.keyProf else bits t 21 14 }
                if bits t 31 24 = 0xFE then fail 4 y
                else if bits t 31 24 = 0xFF then { status := 0, walk := y, payload := stop }
                else walkGraph nodes trans f fuel { y with off := stop, node := bits t 31 24 }

/-- A walk at the first node. -/
def Walk.start (node : Nat) : Walk :=
  { node := node, off := 0, level := 0, bound := none, l3End := 0, psaFrom := none, keyProf := 0, slack := 0, insts := [] }

/-! Patterns and keys (R115 to R121). -/

/-- ASCII letters in lower case. -/
def lowerCase (b : Nat) : Nat := if 0x41 ≤ b ∧ b ≤ 0x5A then b + 32 else b

/-- Whether byte `i` of a pattern matches a PSA byte (R116, R117). -/
def patternByte (p i b : Nat) : Bool :=
  let v := (bits p 255 128 / 256 ^ (15 - i)) % 256
  let m := (bits p 127 0 / 256 ^ (15 - i)) % 256
  if bitOf p 279 = true ∧ m = 0xFF then lowerCase b = lowerCase v else b &&& m = v

/-- Whether a pattern matches at PSA offset `at_` (R117). -/
def patternAt (p : Nat) (psa : List Byte) (at_ : Nat) : Bool :=
  let len := bits p 302 298
  let anchor := bits p 297 296
  bitOf p 319 && decide (at_ + len ≤ psa.length)
    && (if anchor = 1 then decide (at_ = bits p 295 288)
        else if anchor = 2 then decide (bits p 295 288 ≤ at_) && decide (at_ ≤ bits p 287 280) else true)
    && (List.range len).all fun i => patternByte p i (byteAt psa (at_ + i)).toNat

/-- All matches in order of their end, then of pattern index: match ID and PSA offset of the last byte (R118). -/
def allMatches (pats : List Nat) (psa : List Byte) : List (Nat × Nat) :=
  (List.range psa.length).flatMap fun e =>
    (pats.filter fun p => decide (bits p 302 298 ≤ e + 1) && decide (bits p 302 298 ≠ 0) && patternAt p psa (e + 1 - bits p 302 298)).map
      fun p => (bits p 318 303, e)

/-- What key extraction reads: profile, payload start, PSA bytes and start, matches with frame offsets. -/
def keyAnchor (prof payload psaStart : Nat) (found : List (Nat × Nat)) : Option Nat :=
  if bits prof 61 60 = 0 then some payload
  else if bits prof 61 60 = 1 then some psaStart
  else ((found.find? fun m => m.1 = bits prof 59 44).map fun m => m.2 + 1)

/-- The key of a packet, if extraction succeeds (R121): bytes from `psa`, which starts at frame offset `psaStart`. -/
def extractKey (prof payload psaStart : Nat) (psa : List Byte) (found : List (Nat × Nat)) : Option (List Byte) :=
  let most := bits prof 35 29
  let mode := bits prof 63 62
  if most = 0 ∨ psa = [] then none
  else
    match keyAnchor prof payload psaStart found with
    | none => none
    | some a =>
      let p := a + bits prof 43 36
      if p < psaStart then none
      else
        let rest := psa.drop (p - psaStart)
        let cut := fun (from_ len : Nat) =>
          if len = 0 ∨ most < len ∨ rest.length < from_ + len then none else some ((rest.drop from_).take len)
        if mode = 0 then cut 0 most
        else if mode = 1 then
          let k := (rest.takeWhile fun b => b.toNat ≠ bits prof 28 21).length
          if k < rest.length ∧ k ≤ most then cut 0 k else none
        else if mode = 2 then (if rest = [] then none else cut 1 (byteAt rest 0).toNat)
        else if rest.length < 2 then none
        else cut 2 (beNat (rest.take 2))

/-! Record checks (R106, R107, R116, R120). -/

/-- Whether a set bit of VALUE lies where MASK is 0. -/
def badMask (value mask : Nat) : Bool := decide (value &&& mask ≠ value)

/-- RANGE conditions of a node record (R107). LEN_FOFF and LEN_FWID of a FIXED node, which has no length field, are not held against LEN_MIN (DESIGN
CHOICE, log 133: the rule does not say). -/
def badNode (r : Nat) : Bool :=
  let type := bits r 127 120
  let fw := if bits r 98 95 = 0 then 16 else bits r 98 95
  let lmin := bits r 91 82
  let lk := bits r 43 42
  let lkw := bits r 32 28
  (decide (0x11 ≤ type) && decide (type ≤ 0x7F)) || type = 0xFF || decide (1 < bits r 119 118) || lk = 3
    || decide (16 < bits r 62 58) || decide (16 < bits r 48 44) || decide (16 < lkw) || decide (32 < bits r 62 58 + bits r 48 44)
    || (decide (lk ≠ 0) && lkw = 0) || (lk = 0 && (decide (bits r 41 33 ≠ 0) || decide (lkw ≠ 0)))
    || (bits r 119 118 = 0 && (decide (lmin ≠ bits r 117 108) || decide (bits r 81 72 ≠ bits r 117 108)))
    || decide (bits r 81 72 < lmin) || decide (512 < bits r 81 72)
    || (bits r 119 118 = 1 && decide (lmin * 8 < bits r 107 99 + fw)) || (decide (lk ≠ 0) && decide (lmin * 8 < bits r 41 33 + lkw))
    || decide (512 < bits r 71 63 + bits r 62 58) || decide (512 < bits r 57 49 + bits r 48 44)
    || decide (64 < bits r 15 9) || decide (4096 < bits r 27 16 + bits r 15 9) || bitOf r 0

/-- RANGE conditions of a transition record (R107). -/
def badTransition (r : Nat) : Bool :=
  badMask (bits r 95 64) (bits r 63 32) || bits r 31 24 = 0xFE || decide (63 < bits r 21 14) || decide (bits r 13 0 ≠ 0)

/-- RANGE conditions of a pattern record (R116). -/
def badPattern (r : Nat) : Bool :=
  let len := bits r 302 298
  let beyond := (256 ^ (16 - len)) - 1
  len = 0 || decide (16 < len) || bits r 297 296 = 3 || (bits r 297 296 = 2 && decide (bits r 287 280 < bits r 295 288))
    || decide (bits r 278 256 ≠ 0) || decide (bits r 255 128 &&& beyond ≠ 0) || decide (bits r 127 0 &&& beyond ≠ 0)
    || badMask (bits r 255 128) (bits r 127 0)

/-- RANGE conditions of a key-extraction profile (R120). -/
def badKeyProfile (r : Nat) : Bool := decide (64 < bits r 35 29) || bits r 61 60 = 3 || decide (bits r 8 0 ≠ 0)

end Sys2Proof.Machine
end

