-- ==== Sys2Proof/Machine/Tables.lean ====
section
/-! DEFINITION. Forwarding tables: sizes, hash tables, longest-prefix match, ECMP blocks and record checks (R153 to R169, R177 to
R182, R237 to R251, R511, R513). -/

namespace Sys2Proof.Machine

/-! Shapes (R123, R154, R182, R237). -/

/-- Whether a table is found by key. -/
def isHash (t : Nat) : Bool := t = 0x41 || t = 0x43 || (decide (0x45 ≤ t) && decide (t ≤ 0x49))

/-- Ways of a hash table (R154). -/
def tableWays (t : Nat) : Nat := if t = 0x47 then 2 else if t = 0x48 then 8 else 4

/-- Record size in bytes; 0 for a table that does not exist. -/
def recordSize (t : Nat) : Nat :=
  if t = 0x30 then 16 else if t = 0x31 then 12 else if t = 0x34 then 40 else if t = 0x38 then 176
  else if t = 0x47 then 32 else if t = 0x48 ∨ (0x4B ≤ t ∧ t ≤ 0x4C) then 8 else if t = 0x4D ∨ t = 0x4E then 2
  else if 0x40 ≤ t ∧ t ≤ 0x4A then 16 else if t = 0x50 then 64 else if t = 0x54 then 128 else if t = 0x55 then 32
  else if t = 0x56 then 8 else if t = 0x57 then 16 else if t = 0x58 then 32 else if t = 0x59 ∨ t = 0x5A then 64
  else 0

/-- Entries per tile of the direct tables that have banks of several tiles. -/
def entriesPerTile (t : Nat) : Nat :=
  if t = 0x4A then 16384 else if t = 0x4C then 32768 else if t = 0x4D then 131072 else if t = 0x54 then 2048
  else if t = 0x55 then 8192 else if t = 0x56 then 32768 else if t = 0x59 then 4096 else 0

/-- Tiles of a bank (R154, R157, R182, R237). -/
def State.tiles (s : State) (t bank : Nat) : Nat :=
  if 0x40 ≤ t ∧ t ≤ 0x4E then s.rd Od.tableShadowTiles (bankInst bank) (t - 0x40)
  else if 0x54 ≤ t ∧ t ≤ 0x57 then s.rd Od.rewriteShadowTiles (bankInst bank) (t - 0x54)
  else if t = 0x59 then s.rd Od.placeNodesetShadowTiles (bankInst bank)
  else 1

/-- Entries of a direct bank. -/
def State.bankEntries (s : State) (t bank : Nat) : Nat :=
  if t = 0x30 then 254 else if t = 0x31 then 4096 else if t = 0x34 then 1024
  else if t = 0x40 ∨ t = 0x44 ∨ t = 0x58 then 4096
  else if t = 0x42 ∨ t = 0x4B ∨ t = 0x4E then 16384
  else if t = 0x4F then 8388608 else if t = 0x57 then 256 else if t = 0x5A then 16777216
  else entriesPerTile t * s.tiles t bank

/-- Buckets of a hash bank. -/
def State.buckets (s : State) (t bank : Nat) : Nat := 4096 * s.tiles t bank

/-- Key field of a record: width and value (R164, R166, R167, R511). -/
def tableKey (t r : Nat) : Nat × Nat :=
  if t = 0x41 then (27, bits r 126 100) else if t = 0x43 then (62, bits r 115 54) else if t = 0x45 then (20, bits r 126 107)
  else if t = 0x46 then (44, bits r 126 83) else if t = 0x47 then (140, bits r 254 115) else if t = 0x48 then (45, bits r 63 19)
  else (77, bits r 127 51)

/-- The key joined and padded at the low end to whole bytes (R164). -/
def keyBytes (k : Nat × Nat) : List Byte :=
  let n := (k.1 + 7) / 8
  beBytes n (k.2 * 2 ^ (8 * n - k.1))

/-- The two bucket functions (R164). -/
def hashBuckets (seed buckets : Nat) (k : Nat × Nat) : Nat × Nat :=
  (crc32c (beBytes 4 seed ++ keyBytes k) % buckets, crc32c (beBytes 4 (seed ^^^ 0xFFFFFFFF) ++ keyBytes k) % buckets)

/-- Bucket functions of a key in a bank. -/
def State.bucketsOf (s : State) (t bank : Nat) (k : Nat × Nat) : Nat × Nat :=
  hashBuckets (s.rd Od.tableShadowSeed (bankInst bank) (t - 0x40)) (s.buckets t bank) k

/-- Position of a way. -/
def wayIndex (t b w : Nat) : Nat := b * tableWays t + w

/-- The ways that a lookup of a key reads: those of both its buckets (R164). -/
def State.keyWays (s : State) (t bank : Nat) (k : Nat × Nat) : List Nat :=
  let h := s.bucketsOf t bank k
  [h.1, h.2].flatMap fun b => (List.range (tableWays t)).map fun w => wayIndex t b w

/-- The way that holds a key (R164). -/
def State.findKey (s : State) (t bank : Nat) (k : Nat × Nat) : Option Nat :=
  (s.keyWays t bank k).find? fun i => s.tbl bank t i ≠ 0 && tableKey t (s.tbl bank t i) == k

/-- The lowest free way of a bucket. -/
def State.freeWay (s : State) (t bank b : Nat) : Option Nat :=
  ((List.range (tableWays t)).map fun w => wayIndex t b w).find? fun i => s.tbl bank t i = 0

/-- The other bucket of the occupant of a way (R165). -/
def State.otherBucket (s : State) (t bank i : Nat) : Nat :=
  let h := s.bucketsOf t bank (tableKey t (s.tbl bank t i))
  if i / tableWays t = h.1 then h.2 else h.1

/-- Breadth-first search for a displacement chain (R165): the positions of a chain, free end first. -/
def State.findChain (s : State) (t bank : Nat) : Nat → List (List Nat) → Option (List Nat)
  | 0, _ => none
  | depth + 1, level =>
    match level.findSome? fun path =>
        match path with
        | i :: _ => (s.freeWay t bank (s.otherBucket t bank i)).map fun x => x :: path
        | [] => none with
    | some c => some c
    | none =>
      s.findChain t bank depth (level.flatMap fun path =>
        match path with
        | i :: _ =>
          let b := s.otherBucket t bank i
          (((List.range (tableWays t)).map fun w => wayIndex t b w).filter fun x => !path.contains x).map fun x => x :: path
        | [] => [])

/-- Move the entries of a chain, free end first; the first position is left clear. -/
def State.moveChain (s : State) (t bank : Nat) : List Nat → State
  | a :: b :: rest =>
    let s1 := s.setTbl bank t a (s.tbl bank t b)
    (s1.setTbl bank t b 0).moveChain t bank (b :: rest)
  | _ => s

/-- Insert of a record under its key (R165): `none` is TABLE_FULL. -/
def State.hashInsert (s : State) (t bank r : Nat) : Option State :=
  let k := tableKey t r
  match s.findKey t bank k with
  | some i => some (s.setTbl bank t i r)
  | none =>
    let h := s.bucketsOf t bank k
    match (s.freeWay t bank h.1).or (s.freeWay t bank h.2) with
    | some i => some (s.setTbl bank t i r)
    | none =>
      let start := [h.1, h.2].flatMap fun b => (List.range (tableWays t)).map fun w => [wayIndex t b w]
      match s.findChain t bank 4 start with
      | none => none
      | some chain => (chain.getLast?).map fun i => (s.moveChain t bank chain).setTbl bank t i r

/-! Longest-prefix match (R167, R168). A stored record has, above its own bits, one bit that marks a prefix. -/

/-- Address width: 32 or 64. -/
def lpmWidth (t : Nat) : Nat := if t = 0x48 then 32 else 64
/-- Bit that marks a prefix. -/
def lpmMark (t : Nat) : Nat := if t = 0x48 then 2 ^ 64 else 2 ^ 128
/-- Parts of a record: VRF, PREFIX, ROUTE, CONT, whether a prefix. -/
def lpmVrf (t r : Nat) : Nat := if t = 0x48 then bits r 63 52 else bits r 127 116
def lpmPrefix (t r : Nat) : Nat := if t = 0x48 then bits r 51 19 else bits r 115 51
def lpmRoute (t r : Nat) : Nat := if t = 0x48 then bits r 18 1 else bits r 50 33
def lpmCont (t r : Nat) : Bool := if t = 0x48 then bitOf r 0 else bitOf r 32
def lpmIsPrefix (t r : Nat) : Bool := if t = 0x48 then bitOf r 64 else bitOf r 128

/-- A record from its parts. -/
def lpmRecord (t vrf enc route : Nat) (cont isPrefix : Bool) : Nat :=
  (if isPrefix then lpmMark t else 0) +
  (if t = 0x48 then vrf * 2 ^ 52 + enc * 2 ^ 19 + route * 2 + b2n cont
   else vrf * 2 ^ 116 + enc * 2 ^ 51 + route * 2 ^ 33 + b2n cont * 2 ^ 32)

/-- E(p, L) (R167). -/
def lpmEncode (w p len : Nat) : Nat := (p * 2 + 1) * 2 ^ (w - len)

/-- Number of low 0 bits of an encoded prefix, at most `fuel`. -/
def lowZeros : Nat → Nat → Nat
  | 0, _ => 0
  | fuel + 1, n => if n % 2 = 0 then lowZeros fuel (n / 2) + 1 else 0

/-- Length and top bits of an encoded prefix. -/
def lpmDecode (w e : Nat) : Nat × Nat :=
  let z := lowZeros w e
  (w - z, e / 2 ^ (z + 1))

/-- Lengths that the search visits on its way to `len` (R168), shorter ones only. -/
def searchPath : Nat → Nat → Int → Int → List Nat
  | 0, _, _, _ => []
  | fuel + 1, len, lo, hi =>
    if hi < lo then []
    else
      let m := ((lo + hi) / 2).toNat
      if m = len then []
      else if m < len then m :: searchPath fuel len ((m : Int) + 1) hi
      else searchPath fuel len lo ((m : Int) - 1)

/-- Shorter lengths at which a prefix of length `len` needs markers. -/
def markerLengths (t len : Nat) : List Nat := searchPath 8 len 0 (lpmWidth t)

/-- Key of a prefix or marker. -/
def lpmKey (t vrf p len : Nat) : Nat × Nat := tableKey t (lpmRecord t vrf (lpmEncode (lpmWidth t) p len) 0 false false)

/-- The position of the record of a prefix or marker. -/
def State.lpmFind (s : State) (t bank vrf p len : Nat) : Option Nat := s.findKey t bank (lpmKey t vrf p len)

/-- The route of the longest prefix of at most `len` bits over the `len`-bit string `p`, and its length (R167). -/
def State.bestPrefix (s : State) (t bank vrf p : Nat) : Nat → Nat × Nat
  | 0 =>
    match s.lpmFind t bank vrf 0 0 with
    | some i => if lpmIsPrefix t (s.tbl bank t i) then (lpmRoute t (s.tbl bank t i), 0) else (0, 0)
    | none => (0, 0)
  | len + 1 =>
    match s.lpmFind t bank vrf p (len + 1) with
    | some i =>
      if lpmIsPrefix t (s.tbl bank t i) then (lpmRoute t (s.tbl bank t i), len + 1) else s.bestPrefix t bank vrf (p / 2) len
    | none => s.bestPrefix t bank vrf (p / 2) len

/-- Positions and records of a bank of a table. -/
def State.bankRecords (s : State) (t bank : Nat) : List (Nat × Nat) :=
  (s.tables.filter fun e => e.1 / 2 ^ 48 = bank * 4096 + t).map fun e => (e.1 % 2 ^ 48, e.2)

/-- Markers that lie strictly under a prefix: length and top bits. -/
def State.markersUnder (s : State) (t bank vrf p len : Nat) : List (Nat × Nat) :=
  (s.bankRecords t bank).filterMap fun e =>
    let d := lpmDecode (lpmWidth t) (lpmPrefix t e.2)
    if lpmVrf t e.2 = vrf ∧ lpmIsPrefix t e.2 = false ∧ len < d.1 ∧ d.2 / 2 ^ (d.1 - len) = p then some d else none

/-- Give every listed marker that still stands the route of its best prefix, wherever the inserts have moved it. -/
def State.refreshMarkers (s : State) (t bank vrf : Nat) (l : List (Nat × Nat)) : State :=
  l.foldl (fun a m =>
    match a.lpmFind t bank vrf m.2 m.1 with
    | some i =>
      let r := a.tbl bank t i
      a.setTbl bank t i (lpmRecord t vrf (lpmPrefix t r) (s.bestPrefix t bank vrf m.2 m.1).1 (lpmCont t r) false)
    | none => a) s

/-- Add the marker of one shorter length, or set CONT on the entry there; `none` is TABLE_FULL. -/
def State.addMarker (s : State) (t bank vrf p len m : Nat) : Option State :=
  let q := p / 2 ^ (len - m)
  match s.lpmFind t bank vrf q m with
  | some i =>
    let r := s.tbl bank t i
    some (s.setTbl bank t i (lpmRecord t vrf (lpmPrefix t r) (lpmRoute t r) true (lpmIsPrefix t r)))
  | none => s.hashInsert t bank (lpmRecord t vrf (lpmEncode (lpmWidth t) q m) (s.bestPrefix t bank vrf q m).1 true false)

/-- Insert a prefix (R168): `none` is TABLE_FULL and changes nothing. -/
def State.lpmInsert (s : State) (t bank r : Nat) : Option State :=
  let vrf := lpmVrf t r
  let d := lpmDecode (lpmWidth t) (lpmPrefix t r)
  let cont := match s.findKey t bank (tableKey t r) with
    | some i => lpmCont t (s.tbl bank t i)
    | none => false
  let hit := (s.markersUnder t bank vrf d.2 d.1).filter fun m => decide ((s.bestPrefix t bank vrf m.2 m.1).2 ≤ d.1)
  if 128 < hit.length then none
  else
    let placed := s.hashInsert t bank (lpmRecord t vrf (lpmPrefix t r) (lpmRoute t r) cont true)
    let marked := (markerLengths t d.1).foldl (fun a m => a.bind fun x => x.addMarker t bank vrf d.2 d.1 m) placed
    marked.map fun x => x.refreshMarkers t bank vrf hit

/-- Whether a longer prefix is reached through the entry of length `m` at top bits `q`. -/
def State.leadsOn (s : State) (t bank vrf q m : Nat) : Bool :=
  (s.bankRecords t bank).any fun e =>
    let d := lpmDecode (lpmWidth t) (lpmPrefix t e.2)
    lpmVrf t e.2 = vrf && lpmIsPrefix t e.2 && decide (m < d.1) && decide (d.2 / 2 ^ (d.1 - m) = q) && (markerLengths t d.1).contains m

/-- Clear the entry of length `m` where it no longer leads anywhere. -/
def State.trimMarker (s : State) (t bank vrf p len m : Nat) : State :=
  let q := p / 2 ^ (len - m)
  match s.lpmFind t bank vrf q m with
  | none => s
  | some i =>
    if s.leadsOn t bank vrf q m then s
    else
      let r := s.tbl bank t i
      if lpmIsPrefix t r then s.setTbl bank t i (lpmRecord t vrf (lpmPrefix t r) (lpmRoute t r) false true) else s.setTbl bank t i 0

/-- Delete a prefix (R168): status and state. -/
def State.lpmDelete (s : State) (t bank r : Nat) : Status × State :=
  let vrf := lpmVrf t r
  let d := lpmDecode (lpmWidth t) (lpmPrefix t r)
  match s.findKey t bank (tableKey t r) with
  | none => (.noObject, s)
  | some i =>
    let old := s.tbl bank t i
    if lpmIsPrefix t old = false then (.noObject, s)
    else
      let hit := (s.markersUnder t bank vrf d.2 d.1).filter fun m => decide ((s.bestPrefix t bank vrf m.2 m.1).2 = d.1)
      if 128 < hit.length then (.tableFull, s)
      else
        let bare := s.setTbl bank t i (lpmRecord t vrf (lpmPrefix t old) 0 (lpmCont t old) false)
        let s1 :=
          if lpmCont t old then
            bare.setTbl bank t i (lpmRecord t vrf (lpmPrefix t old) (bare.bestPrefix t bank vrf d.2 d.1).1 true false)
          else s.setTbl bank t i 0
        let s2 := (markerLengths t d.1).foldl (fun a m => a.trimMarker t bank vrf d.2 d.1 m) s1
        (.ok, s2.refreshMarkers t bank vrf hit)

/-- Lookup (R168): the best route of the address `a` of the table's width, and the position of a failing word, where a probe reads one
in either bucket (R175). -/
def State.lpmLookup (s : State) (t bank vrf a : Nat) (bad : Nat → Bool) : Nat → Int → Int → Nat → Nat × Option Nat
  | 0, _, _, best => (best, none)
  | fuel + 1, lo, hi, best =>
    if hi < lo then (best, none)
    else
      let m := ((lo + hi) / 2).toNat
      let p := a / 2 ^ (lpmWidth t - m)
      match (s.keyWays t bank (lpmKey t vrf p m)).find? bad with
      | some i => (0, some i)
      | none =>
        match s.lpmFind t bank vrf p m with
        | none => s.lpmLookup t bank vrf a bad fuel lo ((m : Int) - 1) best
        | some i =>
          let e := s.tbl bank t i
          let best := if lpmRoute t e = 0 then best else lpmRoute t e
          if lpmCont t e then s.lpmLookup t bank vrf a bad fuel ((m : Int) + 1) hi best else (best, none)

/-! ECMP (R169). -/

/-- Member of bucket `j` of `b`, by the weights in order. -/
def bucketMember (weights : List Nat) (b j : Nat) : Nat :=
  let total := weights.foldl (· + ·) 0
  let sums := (weights.foldl (fun (a : List Nat × Nat) w => (a.1 ++ [a.2 + w], a.2 + w)) ([], 0)).1
  sums.findIdx fun c => decide (j * total < c * b)

/-- Whether an ECMP_MEMBER record breaks its weight rules. -/
def badMember (r : Nat) : Bool :=
  bits r 45 38 = 0 || decide (bits r 45 38 < bits r 37 30) || decide (bits r 29 22 < bits r 45 38)

/-- RANGE conditions of a group record (R169). -/
def State.badGroup (s : State) (bank r : Nat) : Bool :=
  let base := bits r 63 45
  let count := bits r 44 35
  let bb := bits r 34 14
  let bl := bits r 13 10
  count = 0 || decide (512 < count) || decide (bl < 6) || decide (12 < bl) || decide (bb % 2 ^ bl ≠ 0) || decide (bits r 9 0 ≠ 0)
    || decide (s.bankEntries 0x4C bank < base + count) || decide (s.bankEntries 0x4D bank < bb + 2 ^ bl)
    || (List.range count).any fun i => badMember (s.tbl bank 0x4C (base + i))

/-- Weight in force of a member of a group in a bank (R37, R169): the one the Keeper has set, kept in the model's own table 0x4F, key
group * 512 + member, as 256 plus the weight; otherwise its BASE_WEIGHT. -/
def State.memberWeight (s : State) (bank grp i : Nat) : Nat :=
  let w := s.tbl bank 0x4F (grp * 512 + i)
  if w = 0 then bits (s.tbl bank 0x4C (bits (s.tbl bank 0x4B grp) 63 45 + i)) 45 38 else w % 256

/-- Fill the bucket block of a group from its members' weights, which take the place of those the Keeper has set. -/
def State.fillBuckets (s : State) (bank grp r : Nat) : State :=
  let count := bits r 44 35
  let weights := (List.range count).map fun i => bits (s.tbl bank 0x4C (bits r 63 45 + i)) 45 38
  let b := 2 ^ bits r 13 10
  let s1 := (List.range b).foldl (fun a j => a.setTbl bank 0x4D (bits r 34 14 + j) (bucketMember weights b j * 128)) s
  (List.range count).foldl (fun a i => if a.tbl bank 0x4F (grp * 512 + i) = 0 then a else a.setTbl bank 0x4F (grp * 512 + i) 0) s1

/-! Record checks. -/

/-- RANGE conditions of the forwarding records (R160 to R167, R511). DESIGN CHOICE (log 134): a set bit of a reserved field answers RANGE
also where its chapter names no status. -/
def badForwarding (t index r : Nat) : Bool :=
  if t = 0x40 then
    let type := bits r 127 126
    (if index < 512 then type ≠ 1 else type = 1) || (type = 3 && decide (bits r 125 123 ≠ 0)) || bits r 42 41 = 3
      || decide (bits r 38 0 ≠ 0)
      || (type = 2 && (bits r 87 81 = 0 || decide (64 < bits r 87 81) || decide (16384 < bits r 101 88 + bits r 87 81)))
  else if t = 0x41 then
    !(bitOf r 127) || decide (bits r 61 0 ≠ 0)
      || (if bitOf r 126 then decide (bits r 99 74 ≠ 0) else decide (bits r 113 112 ≠ 0) || decide (bits r 73 62 ≠ 0))
  else if t = 0x42 then bits r 28 27 = 3 || bits r 26 25 = 3 || decide (bits r 24 0 ≠ 0)
  else if t = 0x43 then bits r 53 42 = 0xFFF || decide (bits r 27 0 ≠ 0)
  else if t = 0x44 then decide (1 < bits r 125 124) || decide (bits r 123 0 ≠ 0)
  else if t = 0x45 then !(bitOf r 127) || decide (bits r 106 100 ≠ 0) || bits r 99 82 = 0 || decide (bits r 81 0 ≠ 0)
  else if t = 0x46 then !(bitOf r 127) || bits r 82 65 = 0 || decide (bits r 64 0 ≠ 0)
  else if t = 0x47 then !(bitOf r 255) || bits r 114 97 = 0 || decide (bits r 96 0 ≠ 0)
  else if t = 0x48 then lpmRoute t r = 0 || lpmPrefix t r = 0
  else if t = 0x49 then lpmRoute t r = 0 || lpmPrefix t r = 0 || decide (bits r 31 0 ≠ 0)
  else if t = 0x4A then decide (bits r 16 0 ≠ 0)
  else if t = 0x4C then badMember r || decide (bits r 21 0 ≠ 0)
  else if t = 0x4D then decide (bits r 6 0 ≠ 0)
  else if t = 0x4E then decide (bits r 14 9 ≠ 0)
  else false

/-- RANGE conditions of an ENCAP record (R238, R239). -/
def badEncap (r : Nat) : Bool :=
  let len := bits r 1014 1008
  len = 0 || decide (96 < len) || decide (bits r 1021 1015 ≠ 0) || decide (bits r 863 768 ≠ 0)
    || decide (bits r 767 0 % 256 ^ (96 - len) ≠ 0)
    || (List.range 4).any fun i =>
      let f := bits r (991 - 32 * i) (960 - 32 * i)
      decide (5 < bits f 31 28) || decide (bits f 13 0 ≠ 0)
        || decide (len ≤ bits f 27 21) || decide (len ≤ bits f 20 14)

/-- RANGE conditions of the rewrite records (R238, R243, R244, R251). -/
def State.badRewrite (s : State) (bank t r : Nat) : Bool :=
  if t = 0x54 then badEncap r
  else if t = 0x55 then
    let room := s.bankEntries 0x56 bank
    decide (bits r 253 248 ≠ 0) || decide (16 < bits r 247 243) || decide (room < bits r 242 224 + bits r 247 243)
      || (List.range 8).any fun d =>
        let f := bits r (223 - 28 * d) (196 - 28 * d)
        decide (256 < bits f 27 19) || decide (room < bits f 18 0 + bits f 27 19) || (decide (bits f 27 19 ≠ 0) && !(s.hasDie d))
  else if t = 0x56 then decide (bits r 16 0 ≠ 0)
  else decide (bits r 125 120 ≠ 0) || decide (bits r 60 0 ≠ 0) || (decide (bits r 116 103 ≠ 0) && decide (bits r 116 103 < 64))

/-- Point `i` of a placement bucket (R180). -/
def ringPoint (r i : Nat) : Nat := bits r (447 - 64 * i) (384 - 64 * i)

/-- RANGE conditions of the placement records (R177, R180, R182). -/
def badPlacement (t r : Nat) : Bool :=
  if t = 0x58 then
    bits r 252 251 = 3 || decide (bits r 240 240 ≠ 0) || decide (bits r 130 0 ≠ 0) || bits r 245 241 = 0 || decide (16 < bits r 245 241)
      || decide (24 < bits r 135 131) || decide (16777216 < bits r 159 136 + 2 ^ bits r 135 131)
  else if t = 0x59 then
    let n := bits r 511 507
    decide (16 < n) || decide (bits r 506 488 ≠ 0) || decide (bits r 199 0 ≠ 0)
      || (List.range 16).any fun i =>
        let d := bits r (487 - 18 * i) (470 - 18 * i)
        if i < n then d = 0 else decide (d ≠ 0)
  else
    let n := bits r 511 509
    decide (7 < n) || decide (bits r 508 466 ≠ 0)
      || (List.range 7).any fun i =>
        if i < n then decide (bits (ringPoint r i) 5 0 ≠ 0)
            || (decide (0 < i) && decide (bits (ringPoint r i) 63 24 ≤ bits (ringPoint r (i - 1)) 63 24))
        else decide (ringPoint r i ≠ 0)

/-- Ring points in use in a bank (R180). -/
def State.ringPoints (s : State) (bank : Nat) : Nat := (s.bankRecords 0x5A bank).foldl (fun a e => a + bits e.2 511 509) 0

/-- Whether an index of a direct table is reserved (R159, R182, R237). -/
def reservedIndex (t index : Nat) : Bool :=
  (t = 0x4A && index = 0) || (t = 0x54 && index = 0) || (t = 0x55 && index = 65535) || (t = 0x59 && index = 0)

/-- REHASH_REQUEST (R165, R172). -/
def State.rehash (s : State) (t : Nat) : State := (s.bump Od.tableRehashRequests 0 (t - 0x40)).fireLead 0x148

/-- A write or a delete of one record in a bank, whatever the bank's state: status and new state (R107, R154 to R169, R177 to R182,
R237 to R251, R511, R513). -/
def State.applyRecord (s : State) (bank t index r : Nat) (delete : Bool) : Status × State :=
  if isHash t then
    if t = 0x48 ∨ t = 0x49 then
      if delete then
        let x := s.lpmDelete t bank r
        if x.1 = .tableFull then (.tableFull, s.rehash t) else x
      else if badForwarding t index r then (.range, s)
      else
        match s.lpmInsert t bank r with
        | some x => (.ok, x)
        | none => (.tableFull, s.rehash t)
    else if delete then
      match s.findKey t bank (tableKey t r) with
      | some i => (.ok, s.setTbl bank t i 0)
      | none => (.noObject, s)
    else if badForwarding t index r then (.range, s)
    else
      let rec_ := if t = 0x43 then putBits (putBits r 127 116 0xC00) 41 30 0xFFF else r
      match s.hashInsert t bank rec_ with
      | some x => (.ok, x)
      | none => (.tableFull, s.rehash t)
  else if s.bankEntries t bank ≤ index then (.noObject, s)
  else if reservedIndex t index then (.range, s)
  else if delete then (.ok, s.setTbl bank t index (if t = 0x40 then tblDefault (tblKey bank t index) else 0))
  else
    let bad :=
      if t = 0x30 then badNode r else if t = 0x31 then badTransition r else if t = 0x34 then badPattern r
      else if t = 0x4B then s.badGroup bank r
      else if 0x54 ≤ t ∧ t ≤ 0x57 then s.badRewrite bank t r
      else if 0x58 ≤ t ∧ t ≤ 0x5A then badPlacement t r
      else badForwarding t index r
    if bad then (.range, s)
    else if t = 0x5A ∧ 16777216 < s.ringPoints bank - bits (s.tbl bank t index) 511 509 + bits r 511 509 then (.tableFull, s)
    else
      let s1 := s.setTbl bank t index r
      (.ok, if t = 0x4B then s1.fillBuckets bank index r else s1)

/-- Whether shadow writes of a table are logged: TABLE_SYNC, PLACE_SYNC, REWRITE_SYNC (R156, R192, R237). -/
def State.tableSynced (s : State) (t : Nat) : Bool :=
  if 0x40 ≤ t ∧ t ≤ 0x4E then s.rd Od.tableSync 0 (t - 0x40) = 1
  else if 0x54 ≤ t ∧ t ≤ 0x57 then s.rd Od.rewriteSync = 1
  else if 0x58 ≤ t ∧ t ≤ 0x5A then s.rd Od.placeSync = 1
  else false

/-- A write is logged for the replay; the log holds 65,536 writes per table, and of the placement family (R156, R192). -/
def State.logWrite (s : State) (f : Nat) (x : LoggedWrite) : State :=
  let y := s.fam f
  if s.tableSynced x.table = false then s
  else if 65536 ≤ (y.log.filter fun e => f = 0x58 || e.table = x.table).length then s.setFam f { y with spoiled := true }
  else s.setFam f { y with log := x :: y.log }

end Sys2Proof.Machine
end

