-- ==== Sys2Proof/Machine/Search.lean ====
section
/-! DEFINITION. Associative search arrays: groups, keys, search, and the insert, modify and delete of entries (R124 to R142). -/

namespace Sys2Proof.Machine

/-- Serial comparison of 32-bit epochs: `a` is not later than `b` (R46, R138). -/
def epochLe (a b : Nat) : Bool := decide (low 32 (b + 2 ^ 32 - low 32 a) < 2 ^ 31)

/-- Rows of an entry of a set (R127). -/
def State.setRows (s : State) (set : Nat) : Nat := 2 ^ s.rd Od.asaSetWidth 0 set

/-- Key width of a set in bits. -/
def State.setWidth (s : State) (set : Nat) : Nat := 160 * s.setRows set

/-- Entries per bank of a set (R127). -/
def State.perBank (s : State) (set : Nat) : Nat := 4096 / s.setRows set

/-- Banks of a set for a packet whose tag is `g` (R136): the held group counts as the shadow group's banks. -/
def State.setBanksFor (s : State) (set g : Nat) : List Nat := s.setBanks set (s.liveFor (0x100 + set) g ≠ (s.fam (0x100 + set)).live)

/-- Key of the row at an address of a group. -/
def rowKey (banks : List Nat) (per addr : Nat) : Nat := banks.getD (addr / per) 0 * 4096 + addr % per

/-- The rows of one bank. -/
def State.bankRows (s : State) (bank : Nat) : List (Nat × AsaRow) := s.asa.rows.filter fun e => e.1 / 4096 = bank

/-- Entries of a group with their addresses, lowest first. -/
def State.groupRows (s : State) (banks : List Nat) (per : Nat) : List (Nat × AsaRow) :=
  banks.zipIdx.flatMap fun b => (s.bankRows b.1).map fun e => (b.2 * per + e.1 % 4096, e.2)

/-- Whether a row is seen by a stamp (R138). -/
def AsaRow.visible (r : AsaRow) (stamp : Nat) : Bool :=
  if r.gate = 1 then false
  else if r.gate = 3 then epochLe r.epoch stamp
  else if r.gate = 4 then !(epochLe r.epoch stamp)
  else true

/-- Array of a die that holds a bank (R124): a mirrored bank stands in every ingress array, of which `own` is the pipeline's; the egress
array is array 4. -/
def physArray (bank own : Nat) : Nat := if bank / 16 < 4 then bank / 16 else if bank / 16 = 4 then own else 4

/-- First of the rows that hold the entry at a row key, (array * 16 + bank) * 4096 + row, in the arrays of one die (R124, R127). -/
def physRow (key own k : Nat) : Nat := (physArray (key / 4096) own * 16 + key / 4096 % 16) * 4096 + key % 4096 * k

/-- Whether one of the rows of an entry fails on a die in a way of R142 or R143: 0x38 a search of it misses, 0x39 it stops matching. -/
def State.entryBad (s : State) (die set own key kind : Nat) : Bool :=
  let k := s.setRows set
  s.badRows.any fun b => b.die = die && b.kind = kind && decide (physRow key own k ≤ b.index) && decide (b.index < physRow key own k + k)

/-- Search of a group from the array `own` (R133, R142, R143): the lowest visible match wins; a failing row or result is a parity miss,
and a row that a bit error stops from matching lets a lower entry win. -/
def State.asaSearch (s : State) (die own set : Nat) (banks : List Nat) (stamp key : Nat) : SearchOutcome :=
  let per := s.perBank set
  match (s.groupRows banks per).find? fun e => e.2.visible stamp && decide (key &&& e.2.mask = e.2.key)
      && !(s.entryBad die set own (rowKey banks per e.1) 0x39) with
  | none => { hit := false, address := 0, result := 0, parity := false }
  | some (a, r) =>
    if s.entryBad die set own (rowKey banks per a) 0x38 then { hit := false, address := a, result := 0, parity := true }
    else { hit := true, address := a, result := r.result, parity := false }

/-- LOCATION of a row in a fault record of source 0x0B (R142, R143): set, array, bank and row. -/
def rowLocation (set row : Nat) : Nat := set * 2 ^ 24 + row / 65536 * 2 ^ 16 + row / 4096 % 16 * 2 ^ 12 + row % 4096

/-- The fault record of a search that misses for parity (R142). -/
def State.searchFault (s : State) (die own set : Nat) (banks : List Nat) (o : SearchOutcome) : State :=
  if o.parity then
    s.fault die 0x0B 2 (rowLocation set (physRow (rowKey banks (s.perBank set) o.address) own (s.setRows set)))
  else s

/-- The set that holds a bank of an array (R126), in its live or its shadow group; 15 none. -/
def State.setOfBank (s : State) (array bank : Nat) : Nat :=
  let logical := if array < 4 then [array * 16 + bank, 64 + bank] else [80 + bank]
  ((List.range 12).find? fun w => s.rd Od.asaSetMode 0 w ≠ 0 &&
    logical.any fun b => (s.setBanks w false).contains b || (s.setBanks w true).contains b).getD 15

/-! Search keys (R132). -/

/-- Entry `i` of the instances of an HV (R95, R96). -/
def hvInstance (hv i : Nat) : Nat := bits hv (1759 - 32 * i) (1728 - 32 * i)

/-- Number of instances. -/
def hvCount (hv : Nat) : Nat := bits hv 1871 1867

/-- The first instance that `p` selects. -/
def firstInstance (hv : Nat) (p : Nat → Bool) : Option Nat := ((List.range (hvCount hv)).map (hvInstance hv)).find? p

/-- The first instance of a type at a tunnel level. -/
def findHeader (hv type level : Nat) : Option Nat :=
  firstInstance hv fun e => bits e 31 24 = type && bits e 3 2 = level

/-- The bytes of a key segment as a number (R132). -/
def segmentBytes (hv seg : Nat) : List Byte :=
  let kind := bits seg 31 30
  let off := bits seg 19 10
  let n := if kind = 3 then 1 else bits seg 9 4
  let h := findHeader hv (bits seg 29 22) (bits seg 21 20)
  if kind = 0 then []
  else if kind = 1 then (List.range n).map fun i => BitVec.ofNat 8 (if off + i < 768 then hvByte hv (off + i) else 0)
  else if kind = 3 then [if h.isSome then 1 else 0]
  else
    (List.range n).map fun i =>
      match h with
      | some e => BitVec.ofNat 8 (if bits e 23 14 + off + i < 512 then hvByte hv (bits e 23 14 + off + i) else 0)
      | none => 0

/-- Segment `i` of a key map. -/
def mapSegment (map i : Nat) : Nat := (map / 2 ^ (32 * (15 - i))) % 2 ^ 32

/-- The search key of a set for an HV. -/
def State.searchKey (s : State) (set hv : Nat) : Nat :=
  let map := s.rd Od.asaKeyMap 0 set
  let n := s.setWidth set / 8
  let l := (List.range 16).flatMap fun i => segmentBytes hv (mapSegment map i)
  beNat (slice l 0 n)

/-- RANGE conditions of a key map for a width in bytes (R132): of an UNUSED segment only the reserved bits are judged. -/
def badKeyMap (map width : Nat) : Bool :=
  let segs := (List.range 16).map (mapSegment map)
  let len := fun (x : Nat) => if bits x 31 30 = 0 then 0 else bits x 9 4
  decide (width < (segs.map len).foldl (· + ·) 0)
    || segs.any fun x =>
      let k := bits x 31 30
      decide (bits x 3 0 ≠ 0) || decide (k ≠ 0) && (len x = 0 || (k = 1 && decide (768 < bits x 19 10 + len x))
        || (k = 2 && decide (511 < bits x 19 10)) || (k = 3 && decide (len x ≠ 1)))

/-! Changes (R136 to R141). -/

/-- Write or clear a row. -/
def State.putRow (s : State) (key : Nat) (r : AsaRow) : State := { s with asa := { s.asa with rows := sparsePut s.asa.rows key r } }
def State.dropRow (s : State) (key : Nat) : State := { s with asa := { s.asa with rows := sparseErase s.asa.rows key } }

/-- Gated rows that an array of the die holds (R137): 0 to 3 ingress, where a mirrored row stands in all four, and 4 egress. -/
def State.gatedRows (s : State) (array : Nat) : Nat :=
  (s.asa.rows.filter fun e => decide (e.2.gate ≠ 0) &&
    (if array = 4 then e.1 / 65536 = 5 else e.1 / 65536 = array || e.1 / 65536 = 4)).length

/-- Whether every array holds its gated rows (R137). -/
def State.gatesFit (s : State) : Bool := (List.range 5).all fun a => decide (s.gatedRows a ≤ 1024)

/-- The outcome of an operation under the limit of R137 on gated rows: TABLE_FULL, with nothing changed, where the array of one does
not hold them. -/
def gated (s : State) (x : Status × State) : Status × State := if x.1 = .ok ∧ x.2.gatesFit = false then (.tableFull, s) else x

/-- Where an insert goes (R140), between the entries at `lo` (−1 for none) and `hi` (the size for none): the address to write,
and the moves to make first as (from, to). Of the free rows within 64 moves an unkept one is taken before any kept one; of these the
one with the fewest moves, and the upward one on a tie. -/
def planInsert (occupied : List Nat) (size h : Nat) (lo : Int) (hi : Nat) : Option (Nat × List (Nat × Nat)) :=
  let kept := fun (a : Nat) => decide (h ≠ 0) && a % h = h - 1
  let gap := ((List.range (hi - (lo + 1).toNat)).map fun k => (lo + 1).toNat + k)
  match (gap.find? fun a => !kept a).or gap.head? with
  | some a => some (a, [])
  | none =>
    let free := fun (a : Nat) => !(occupied.contains a)
    let up := fun (m : Nat) => (hi, (List.range m).map fun k => (hi + m - 1 - k, hi + m - k))
    let down := fun (m : Nat) => (lo.toNat, (List.range m).map fun k => (lo.toNat - m + 1 + k, lo.toNat - m + k))
    let ups := (List.range 65).filter fun m => decide (hi + m < size) && free (hi + m)
    let downs := (List.range 65).filter fun (m : Nat) => decide ((m : Int) ≤ lo) && free (lo.toNat - m)
    let best := fun (p : Bool) =>
      match ups.find? (fun m => kept (hi + m) == p), downs.find? (fun m => kept (lo.toNat - m) == p) with
      | some u, some d => some (if u ≤ d then up u else down d)
      | some u, none => some (up u)
      | none, some d => some (down d)
      | none, none => none
    (best false).or (best true)

/-- Move a row, with its result and gate. -/
def State.moveRow (s : State) (banks : List Nat) (per : Nat) (m : Nat × Nat) : State :=
  match sparseFind? s.asa.rows (rowKey banks per m.1) with
  | some r => (s.putRow (rowKey banks per m.2) r).dropRow (rowKey banks per m.1)
  | none => s

/-- Place an entry between two addresses; ASA_REPACK_REQUEST where 64 moves are not enough (R140). -/
def State.placeRow (s : State) (set : Nat) (banks : List Nat) (lo : Int) (hi : Nat) (r : AsaRow) : Status × State :=
  let per := s.perBank set
  match planInsert ((s.groupRows banks per).map (·.1)) (per * banks.length) (s.rd Od.asaHoleInterval 0 set) lo hi with
  | none => (.tableFull, s.fireLead 0x147)
  | some (a, moves) => (.ok, (moves.foldl (fun x m => x.moveRow banks per m) s).putRow (rowKey banks per a) r)

/-- Place an entry by its priority (R140). -/
def State.insertRow (s : State) (set : Nat) (banks : List Nat) (r : AsaRow) : Status × State :=
  let rows := s.groupRows banks (s.perBank set)
  let below := (rows.filter fun e => decide (e.2.priority ≤ r.priority)).getLast?
  let lo : Int := match below with
    | some e => (e.1 : Int)
    | none => -1
  let hi := ((rows.find? fun e => decide (lo < (e.1 : Int))).map (·.1)).getD (s.perBank set * banks.length)
  s.placeRow set banks lo hi r

/-- Entries of a group with a KEY and MASK: the newest version first (R131, R137). -/
def State.pairRows (s : State) (set : Nat) (banks : List Nat) (key mask : Nat) : List (Nat × AsaRow) :=
  let l := (s.groupRows banks (s.perBank set)).filter fun e => e.2.key = key && e.2.mask = mask
  (l.filter fun e => e.2.gate = 1) ++ l.filter fun e => decide (e.2.gate ≠ 1)

/-- Insert or modify (R131, R137, R140). DESIGN CHOICE (log 136): a modify in the shadow group, or of a row still FROM_PENDING, puts
the new version in the old row's place. -/
def State.asaInsert (s : State) (set : Nat) (shadow : Bool) (key mask priority result : Nat) : Status × State :=
  let banks := s.setBanks set shadow
  let per := s.perBank set
  let new : AsaRow := { key := key, mask := mask, priority := priority, result := result, gate := if shadow then 0 else 1, epoch := 0 }
  let moved := fun (x : Status × State) => if x.1 = .ok then gated s x else (x.1, s.fireLead 0x147)
  match s.pairRows set banks key mask with
  | [] => gated s (s.insertRow set banks new)
  | (a, old) :: _ =>
    let k := rowKey banks per a
    if 3 ≤ old.gate then (.bankBusy, s)
    else if shadow = true ∨ old.gate = 1 then
      if old.priority = priority then (.ok, s.putRow k { new with gate := old.gate }) else moved ((s.dropRow k).insertRow set banks new)
    else
      let s1 := s.putRow k { old with gate := 2 }
      if old.priority ≠ priority then moved (s1.insertRow set banks new)
      else if a ≠ 0 ∧ ((s.groupRows banks per).any fun e => e.1 = a - 1) = false then
        gated s (.ok, s1.putRow (rowKey banks per (a - 1)) new)
      else moved (s1.placeRow set banks ((a : Int) - 1) a new)

/-- Delete (R137). DESIGN CHOICE (log 136): a delete of a row that is UNTIL_PENDING already answers OK and changes nothing. -/
def State.asaDelete (s : State) (set : Nat) (shadow : Bool) (key mask : Nat) : Status × State :=
  let banks := s.setBanks set shadow
  match s.pairRows set banks key mask with
  | [] => (.noObject, s)
  | (a, old) :: _ =>
    let k := rowKey banks (s.perBank set) a
    if 3 ≤ old.gate then (.bankBusy, s)
    else if shadow = true ∨ old.gate = 1 then (.ok, s.dropRow k)
    else if old.gate = 2 then (.ok, s)
    else gated s (.ok, s.putRow k { old with gate := 2 })

/-- A write or delete of an ASA_ENTRY record (R129, R131, R141), where the shadow group is `held` or not. -/
def State.applyAsa (s : State) (r : Nat) (delete held : Bool) : Status × State :=
  let set := bits r 1407 1404
  let shadow := bitOf r 1401
  let w := s.setWidth set
  let key := bits r 1279 640 / 2 ^ (640 - w)
  let mask := bits r 639 0 / 2 ^ (640 - w)
  if 11 < set ∨ s.rd Od.asaSetMode 0 set = 0 then (.noObject, s)
  else if bits r 1403 1402 ≠ s.rd Od.asaSetWidth 0 set ∨ bits r 1400 1376 ≠ 0 ∨ bits r 1279 640 % 2 ^ (640 - w) ≠ 0
      ∨ bits r 639 0 % 2 ^ (640 - w) ≠ 0 ∨ badMask key mask = true then (.range, s)
  else if shadow = true ∧ s.setBanks set true = [] then (.state, s)
  else if shadow = true ∧ held = true then (.bankBusy, s)
  else if delete then s.asaDelete set shadow key mask
  else s.asaInsert set shadow key mask (bits r 1375 1344) (bits r 1343 1280)

/-! Commits (R137, R139). -/

/-- Whether a set has a pending gate. -/
def State.pendingGate (s : State) (set : Nat) : Bool :=
  (s.setBanks set false).any fun b => (s.bankRows b).any fun e => e.2.gate = 1 || e.2.gate = 2

/-- The gates of a commit's epoch are resolved at its release boundary (R138, R139), in whichever group the rows then stand. -/
def State.resolveGates (s : State) (set epoch : Nat) : State :=
  let banks := s.setBanks set false ++ s.setBanks set true
  let f := fun (e : Nat × AsaRow) =>
    if banks.contains (e.1 / 4096) = true ∧ e.2.epoch = epoch then
      if e.2.gate = 3 then some (e.1, { e.2 with gate := 0, epoch := 0 }) else if e.2.gate = 4 then none else some e
    else some e
  { s with asa := { s.asa with rows := s.asa.rows.filterMap f } }

/-- A set's RC generation rises at the epoch of a swap or commit (R146). -/
def State.newRcGen (s : State) (set epoch : Nat) : State :=
  let h := sparseGet (fun _ => [(0, 0)]) s.asa.gens set
  if 2 ≤ h.length ∧ (h.headD (0, 0)).2 = low 32 epoch then s
  else { s with asa := { s.asa with gens := sparsePut s.asa.gens set (((low 16 ((h.headD (0, 0)).1 + 1), low 32 epoch) :: h).take 4) } }

/-- RC generation of a set for a stamp (R146). -/
def State.rcGen (s : State) (set stamp : Nat) : Nat :=
  let h := sparseGet (fun _ => [(0, 0)]) s.asa.gens set
  ((h.find? fun e => epochLe e.2 stamp).map (·.1)).getD ((h.getLastD (0, 0)).1)

end Sys2Proof.Machine
end

