-- ==== Sys2Proof/Machine/Cells.lean ====
section
/-! DEFINITION. The cell buffer: allocation, ownership, release and free, and the priority groups whose cells it counts (R255 to
R265, R283, R284). -/

namespace Sys2Proof.Machine

/-- Key of a cell or of a packet record. -/
def cellKey (d c : Nat) : Nat := d * 524288 + c

/-- Cells in use on a die. -/
def State.usedCells (s : State) (d : Nat) : List Nat := ((s.bufs.cells.filter fun e => e.1 / 524288 = d).map fun e => e.1 % 524288)

/-- Reserved cells of a path (R260). -/
def State.reserved (s : State) (d path : Nat) : Nat := sparseGet (fun _ => 0) s.bufs.reserve (d * 32 + path)

/-- Set the reserved cells of a path. -/
def State.setReserved (s : State) (d path v : Nat) : State :=
  { s with bufs := { s.bufs with reserve := sparseSet (fun _ => 0) s.bufs.reserve (d * 32 + path) v } }

/-- Reserved cells of a die that no port has taken yet. -/
def State.roomReserved (s : State) (d : Nat) : Nat :=
  (s.bufs.reserve.filter fun e => e.1 / 32 = d).foldl (fun a e => a + e.2) 0

/-- BPM_CELLS_RESERVED of a die (R258, R260): with the second cells of pairs that receive ports keep in their octets' reserves. -/
def State.cellsReserved (s : State) (d : Nat) : Nat :=
  s.roomReserved d + (s.bufs.held.filter fun e => e.1 / 32 = d && decide (e.1 % 32 < 8)).foldl (fun a e => a + e.2.length) 0

/-- Free cells of a word that is out of allocation. -/
def State.lostCells (s : State) (d : Nat) : Nat :=
  let used := s.usedCells d
  (s.bufs.badWords.filter fun w => w.1 = d).foldl
    (fun a w => a + 32 - (used.filter fun c => c / 32 = w.2.1 * 1024 + w.2.2).length) 0

/-- BPM_CELLS_FREE of a die: F of R283 and R287. -/
def State.cellsFree (s : State) (d : Nat) : Nat :=
  524288 - ((s.usedCells d).length + s.roomReserved d + s.lostCells d)

/-- The lowest free cell of a bank at or above an index. -/
def freeFrom (used : List Nat) (bad : List Nat) (bank : Nat) : Nat → Nat → Option Nat
  | 0, _ => none
  | fuel + 1, i =>
    if 32768 ≤ i then none
    else if used.contains (bank * 32768 + i) || bad.contains (bank * 1024 + i / 32) then freeFrom used bad bank fuel (i + 1)
    else some (bank * 32768 + i)

/-- The `n` lowest free cells of a bank, as many as it holds. -/
def State.bankFree (s : State) (d bank n : Nat) : List Nat :=
  let used := (s.usedCells d).filter fun c => c / 32768 = bank
  let bad := (s.bufs.badWords.filter fun w => w.1 = d && w.2.1 = bank).map fun w => w.2.1 * 1024 + w.2.2
  (List.range n).foldl (fun (l : List Nat) _ =>
    match freeFrom used bad bank (used.length + 32 * bad.length + 2) ((l.getLastD (bank * 32768)) % 32768 + (if l = [] then 0 else 1)) with
    | some c => l ++ [c]
    | none => l) []

/-- One request of a clock (R258): the cells given, from a bank that has not served; none served gives the empty list. -/
def State.serveRequest (s : State) (d : Nat) (pair : Bool) (served : List Nat) : List Nat :=
  let banks := (List.range 16).filter fun b => !served.contains b
  let two := if pair then banks.find? fun b => decide ((s.bankFree d b 2).length = 2) else none
  match two with
  | some b => s.bankFree d b 2
  | none => (banks.findSome? fun b => (s.bankFree d b 1).head?).elim [] fun c => [c]

/-- A link word of which nothing is known: that of a cell in no chain yet (DESIGN CHOICE, log 7). -/
def Cell.unknown (v : Nat) : Cell := { next := low 19 v, eop := bitOf v 19, bytes := bits v 27 20 }

/-- Mark cells as in use. -/
def State.markCells (s : State) (d : Nat) (l : List Nat) : State :=
  { s.useFree with bufs := { s.bufs with
      cells := l.foldl (fun m c => sparsePut m (cellKey d c) (Cell.unknown (s.freeBits 28))) s.bufs.cells } }

/-- Cells that a port holds, with their class. -/
def State.heldCells (s : State) (d port : Nat) : List (Nat × Nat) := sparseGet (fun _ => []) s.bufs.held (d * 32 + port)
def State.setHeld (s : State) (d port : Nat) (l : List (Nat × Nat)) : State :=
  { s with bufs := { s.bufs with held := sparseSet (fun _ => []) s.bufs.held (d * 32 + port) l } }

/-- Cells in the reserve of an octet, with the second cell of a pair that its receive port keeps (R258, R260). -/
def State.octetReserve (s : State) (d o : Nat) : Nat := s.reserved d o + (s.heldCells d o).length

/-- The reserve of an octet is filled up to 40 from the free cells; an octet for which they do not suffice stays to be filled as cells come free (R260). -/
def State.refill (s : State) (d o : Nat) : State :=
  let s1 := s.setReserved d o (max (s.reserved d o) (min (40 - (s.heldCells d o).length) (s.reserved d o + s.cellsFree d)))
  let rest := s1.bufs.refill.filter (· ≠ d * 8 + o)
  { s1 with bufs := { s1.bufs with refill := if s1.octetReserve d o < 40 then rest ++ [d * 8 + o] else rest } }

/-- Cells of a die have come free: the reserves that wait for them are filled, those that have waited longest first (R260). -/
def State.refillDie (s : State) (d : Nat) : State := (s.bufs.refill.filter fun x => x / 8 = d).foldl (fun (a : State) x => a.refill d (x % 8)) s

/-! Priority groups (R282 to R284). -/

/-- The level PG_MIN plus the shared limit of a pair of port and PG. -/
def State.pgLevel (s : State) (n g : Nat) : Nat :=
  s.rd Od.pgMin (portInst n) g + s.cellsFree (n / 64) * 2 ^ s.rd Od.pgAlpha 0 g / 256

/-- The cells below which a frame of a pair may start (R283). -/
def State.pgMost (s : State) (n g : Nat) : Nat :=
  s.pgLevel n g + (if s.rd Od.pgPfc (portInst n) g = 1 then s.rd Od.pgHeadroom (portInst n) g else 0)

/-- Priorities whose PG is `g`. -/
def State.pgPriorities (s : State) (n g : Nat) : Nat :=
  (List.range 8).foldl (fun a p => if s.rdOctet Od.portPgMap (portInst n) 0 p = g then a + 2 ^ p else a) 0

/-- Time in ns of 0x8000 quanta of 512 bits on a port (R284). -/
def State.xoffTime (s : State) (n : Nat) : Nat := 0x8000 * 512 / max 1 (modeRate (s.portModeOf n))

/-- An XOFF of a pair is sent, and is to be sent again after 0x8000 quanta (R284). -/
def State.sendXoff (s : State) (n g : Nat) : State :=
  ((({ s with bufs := { s.bufs with xoff := sparsePut s.bufs.xoff (n * 8 + g) s.up } }).countControl n true true).emit
    (.pfc n (s.pgPriorities n g) 0xFFFF)).later (s.xoffTime n) (.pfcXoffRefresh n g)

/-- XOFF or XON of a pair, by its cells (R284). -/
def State.judgePfc (s : State) (n g : Nat) : State :=
  let cells := s.rd Od.pgCells (portInst n) g
  let level := s.pgLevel n g
  let k := n * 8 + g
  match sparseFind? s.bufs.xoff k with
  | none =>
    if s.rd Od.pgPfc (portInst n) g = 1 ∧ level ≤ cells then (s.sendXoff n g).bump Od.pfcXoffSent (portInst n) g else s
  | some _ =>
    if cells + s.rd Od.pfcXonDelta (portInst n) ≤ level then
      ((({ s with bufs := { s.bufs with xoff := sparseErase s.bufs.xoff k } }).countControl n true true)).emit (.pfc n (s.pgPriorities n g) 0)
    else s

/-- Cells charged to a pair, with XOFF and XON judged. -/
def State.chargePg (s : State) (n g cells : Nat) : State :=
  (s.wr Od.pgCells (s.rd Od.pgCells (portInst n) g + cells) (portInst n) g).judgePfc n g

/-- Cells no longer charged to a pair. -/
def State.dischargePg (s : State) (n g cells : Nat) : State :=
  (s.wr Od.pgCells (s.rd Od.pgCells (portInst n) g - cells) (portInst n) g).judgePfc n g

/-- PFC_XOFF_REFRESH (R284): the XOFF of a pair is sent again while its condition holds, 0x8000 quanta after the last. -/
def execPfcXoffRefresh (n g : Nat) (s : State) : Answer :=
  withLane s n <|
    let t := s.judgePfc n g
    match sparseFind? t.bufs.xoff (n * 8 + g) with
    | some at_ => if at_ + t.xoffTime n ≤ t.up then t.sendXoff n g else t
    | none => t

/-! What follows a change of F. -/

/-- Whether a copy stands in its queue on its ingress die. -/
def Copy.isQueued (c : Copy) : Bool :=
  c.stage = .onDie || c.stage = .requested || c.stage = .staged || c.stage = .writing || c.stage = .spilled || c.stage = .reading

/-- Classes whose queues hold cells on a die, as a mask. -/
def State.classesQueued (s : State) (d : Nat) : Nat :=
  (List.range 8).foldl (fun a t =>
    if s.tm.copies.any fun (e : Nat × Copy) => e.2.die = d && e.2.isQueued && bits e.2.k.hv 559 557 = t then a + 2 ^ t else a) 0

/-- F below 25 % and 12.5 % of a die's cells, and the classes whose queues hold cells meanwhile (R288). -/
def State.noteF (s : State) (d : Nat) : State :=
  let f := s.cellsFree d
  if 131072 ≤ f then s
  else { s with tm := { s.tm with lowF := setBit s.tm.lowF d true,
                                  squeezed := if f < 65536 then s.tm.squeezed ||| s.classesQueued d else s.tm.squeezed } }

/-- Pairs of a die whose cells or XOFF a change of F concerns: those with packets charged to them, and those in XOFF, as port * 8 + PG. -/
def State.pgPairs (s : State) (d : Nat) : List Nat :=
  (((s.packets.filter fun (e : Nat × Packet) => e.2.charged && e.2.port / 64 = d).map fun (e : Nat × Packet) => e.2.port * 8 + e.2.pg)
    ++ (s.bufs.xoff.filter fun (e : Nat × Nat) => e.1 / 512 = d).map fun (e : Nat × Nat) => e.1).eraseDups

/-- F of a die has moved: the reserves that wait for cells are filled (R260), the Keeper's figures follow (R288), and XOFF and XON are judged
(R284). -/
def State.fMoved (s : State) (d : Nat) : State :=
  let t := (s.refillDie d).noteF d
  (t.pgPairs d).foldl (fun (a : State) k => a.judgePfc (k / 8) (k % 8)) t

/-! Allocation (R258 to R261). -/

/-- State of a clock of allocation: the state, the banks that have served, the first port not given all, what stays at its port. -/
structure AllocClock where
  state : State
  served : List Nat
  short : Option Nat
  kept : List CellRequest

/-- Reservations that serve a request (R259, R260): its octet's for a receive port, those of its class for classes 8 to 10. -/
def CellRequest.paths (q : CellRequest) : List Nat :=
  if q.port < 8 then [q.port] else if q.cls = 8 then [10, 12] else if q.cls = 9 then [8, 9] else if q.cls = 10 then [11] else []

/-- Cells come out of reservations, the first named first. -/
def State.drawReserve (s : State) (d : Nat) : List Nat → Nat → State
  | [], _ => s
  | p :: rest, n => (s.setReserved d p (s.reserved d p - n)).drawReserve d rest (n - s.reserved d p)

/-- Whether a class is never refused a cell, for its cells are reserved (R259). -/
def CellRequest.assured (q : CellRequest) : Bool := decide (8 ≤ q.cls) && decide (q.cls ≤ 10)

/-- A request with NO_BUFFER (R258, R261): counted; under WAIT it stays at its port up to BPM_CLASS_WAIT_LIMIT, else a received frame's is a drop. -/
def AllocClock.refuse (a : AllocClock) (d : Nat) (q : CellRequest) : AllocClock :=
  let s := a.state.bump Od.bpmClassNoBuffer (dieInst d) q.cls
  let b := { a with short := a.short.or (some q.port) }
  if s.rd Od.bpmClassPolicy 0 q.cls = 0 ∧ s.up < q.since + s.rd Od.bpmClassWaitLimit 0 q.cls then { b with state := s, kept := a.kept ++ [q] }
  else { b with state := if q.cls < 8 then s.bump Od.bpmClassDrops (dieInst d) q.cls else s }

/-- One request in a clock's order (R258, R259): a class that has its cells reserved draws on the reservation, any other class on the free
cells, and a receive port with none free on its octet's reserve (R260). -/
def AllocClock.take (a : AllocClock) (d : Nat) (q : CellRequest) : AllocClock :=
  let s := a.state
  let kept := (q.paths.map fun p => s.reserved d p).foldl (· + ·) 0
  let drawn := if q.assured then decide (kept ≠ 0) else decide (s.cellsFree d = 0)
  let most := if drawn then kept else s.cellsFree d
  match (if most = 0 then [] else s.serveRequest d (q.pair && decide (2 ≤ most)) a.served) with
  | [] =>
    if most = 0 ∧ q.assured = false then a.refuse d q
    else { a with short := a.short.or (some q.port), kept := a.kept ++ [q] }
  | c :: rest =>
    let got := c :: rest
    let s1 := ((if drawn then s.drawReserve d q.paths got.length else s).markCells d got).setHeld d q.port
      (s.heldCells d q.port ++ got.map fun x => (x, q.cls))
    let b := { a with state := s1, served := c / 32768 :: a.served }
    if q.pair = true ∧ rest = [] then { b with short := a.short.or (some q.port), kept := a.kept ++ [{ q with pair := false }] } else b

/-- One clock of allocation on a die, with the requests presented (R258). -/
def State.allocClock (s : State) (d : Nat) (reqs : List CellRequest) : State :=
  let o := sparseGet (fun _ => (0, [])) s.bufs.order d
  let all := o.2 ++ reqs.filter fun q => !(o.2.any fun k => k.port = q.port)
  let order := (List.range 18).flatMap fun i => all.filter fun q => q.port = (o.1 + i) % 18
  let a := order.foldl (fun (a : AllocClock) q => a.take d q) { state := s, served := [], short := none, kept := [] }
  { a.state with bufs := { a.state.bufs with order := sparsePut a.state.bufs.order d (a.short.getD ((o.1 + 1) % 18), a.kept) } }

/-- Take `n` cells of a class for a packet whose room is assured (R258, R260): from what the port holds; from free cells, in pairs at a receive
port, and at another while two or more are needed; and from the reserve of a path when none is free. -/
def State.takeCells (s : State) (d port path cls : Nat) : Nat → Nat → State × List Nat
  | 0, _ => (s, [])
  | _, 0 => (s, [])
  | fuel + 1, n =>
    match s.heldCells d port with
    | c :: rest =>
      let x := (s.setHeld d port rest).takeCells d port path cls fuel (n - 1)
      (x.1, c.1 :: x.2)
    | [] =>
      if s.cellsFree d = 0 then
        let s1 := s.setReserved d path (s.reserved d path - 1)
        match (s1.serveRequest d false []).head? with
        | some c =>
          let x := (s1.markCells d [c]).takeCells d port path cls fuel (n - 1)
          (x.1, c :: x.2)
        | none => (s, [])
      else
        let got := s.serveRequest d ((decide (port < 8) || decide (2 ≤ n)) && decide (2 ≤ s.cellsFree d)) []
        ((s.markCells d got).setHeld d port (got.map fun x => (x, cls))).takeCells d port path cls fuel n

/-- Number of cells of a frame. -/
def cellsOf (bytes : Nat) : Nat := max 1 ((bytes + 255) / 256)

/-- Link the cells of a packet (R256). NEXT of the last cell is `last`, a free value: the rule calls it undefined (DESIGN CHOICE, log 7). -/
def linkCells (m : Sparse Cell) (d last bytes : Nat) : List Nat → Sparse Cell
  | [] => m
  | [c] => sparsePut m (cellKey d c) { next := last, eop := true, bytes := (bytes - 1) % 256 }
  | c :: n :: rest => linkCells (sparsePut m (cellKey d c) { next := n, eop := false, bytes := 255 }) d last (bytes - 256) (n :: rest)

/-- A packet of `bytes` octets takes cells and gets its record (R257, R260, R262): the state, the first cell and the TAG. -/
def State.openRecord (s : State) (d port path cls bytes kind id : Nat) : State × Nat × Nat :=
  let n := cellsOf bytes
  let x := s.takeCells d port path cls (2 * n + 2) n
  let head := x.2.headD 0
  let tag := (sparseGet (fun _ => 0) x.1.bufs.tags d + 1) % 65536
  let r : PacketRecord :=
    { kind := kind, id := id, users := s.rd Od.bpmClassMode 0 cls, refcount := s.rd Od.bpmClassMode 0 cls = 1, freePending := false, cls := cls, cells := n,
      tag := tag, loc := 0 }
  let s1 : State :=
    { x.1.useFree with bufs := { x.1.bufs with
        cells := linkCells x.1.bufs.cells d (x.1.freeBits 19) bytes x.2, records := sparsePut x.1.bufs.records (cellKey d head) r,
        tags := sparsePut x.1.bufs.tags d tag } }
  (s1.fMoved d, head, tag)

/-- The packet record beside a cell: none where the cell has never been the head of a packet. -/
def State.record? (s : State) (d head : Nat) : Option PacketRecord := sparseFind? s.bufs.records (cellKey d head)
def State.setRecord (s : State) (d head : Nat) (r : PacketRecord) : State :=
  { s with bufs := { s.bufs with records := sparsePut s.bufs.records (cellKey d head) r } }

/-- Packets in a die's cells: first cell and record. -/
def State.liveRecords (s : State) (d : Nat) : List (Nat × PacketRecord) :=
  (s.bufs.records.filter fun (e : Nat × PacketRecord) => e.1 / 524288 = d && e.2.kind ≠ 0).map fun e => (e.1 % 524288, e.2)

/-- BPM_CLASS_CELLS (R259, R274): cells of packets and cells that ports hold. -/
def State.classCells (s : State) (d cls : Nat) : Nat :=
  ((s.liveRecords d).filter fun e => e.2.cls = cls).foldl (fun a e => a + e.2.cells) 0
    + ((s.bufs.held.filter fun e => e.1 / 32 = d).flatMap (·.2) |>.filter fun c => c.2 = cls).length

/-- The chain from a cell, as far as it can be walked. -/
def State.chain (s : State) (d : Nat) : Nat → Nat → List Nat
  | 0, _ => []
  | fuel + 1, c =>
    match sparseFind? s.bufs.cells (cellKey d c) with
    | none => []
    | some x => if x.eop then [c] else c :: s.chain d fuel x.next

/-- The cells of a packet return to the bitmaps, and its record reads OWNER_KIND NONE and USERS 0 (R262, R264). -/
def State.returnCells (s : State) (d head : Nat) : State :=
  let records := match s.record? d head with
    | some r => sparsePut s.bufs.records (cellKey d head) { r with kind := 0, users := 0 }
    | none => s.bufs.records
  ({ s with bufs := { s.bufs with
      cells := (s.chain d 41 head).foldl (fun m c => sparseErase m (cellKey d c)) s.bufs.cells, records := records } } : State).fMoved d

/-- A contradiction with a packet record (R263, R264): counted on the die and recorded with the cell, its TAG and the requester; a cell with no
record has only the requester's TAG. -/
def State.cellFault (s : State) (o : Obj) (d head tag kind id : Nat) : State :=
  (s.bump o (dieInst d)).fault d 0x0E 2 head (((s.record? d head).map (·.tag)).getD tag) (kind * 65536 + id)

/-- A decrement of a REFCOUNT packet (R264). -/
def State.decrement (s : State) (d head kind id : Nat) (r : PacketRecord) : State :=
  if r.users = 0 then s.cellFault Od.bpmRefcountUnderflow d head r.tag kind id
  else if r.users = 1 then s.returnCells d head
  else s.setRecord d head { r with users := r.users - 1 }

/-- Release of a packet by a copy (R262, R263). -/
def State.releasePacket (s : State) (d head kind id : Nat) : State :=
  match s.record? d head with
  | none => s.cellFault Od.bpmNotOwner d head 0 kind id
  | some r =>
    if r.refcount then s.decrement d head kind id r
    else if r.kind = 0 then s.cellFault Od.bpmNotOwner d head r.tag kind id
    else if r.freePending = true ∧ r.kind = kind ∧ r.id = id then s.cellFault Od.bpmDoubleFree d head r.tag kind id
    else if r.users = 0 then s.cellFault Od.bpmNotOwner d head r.tag kind id
    else
      let s1 := s.setRecord d head { r with users := r.users - 1 }
      if r.users = 1 ∧ r.freePending = true then s1.returnCells d head else s1

/-- Free of a packet by its last owner (R262, R263). -/
def State.freePacket (s : State) (d head tag kind id : Nat) : State :=
  match s.record? d head with
  | none => s.cellFault Od.bpmDoubleFree d head tag kind id
  | some r =>
    if r.refcount then s.decrement d head kind id r
    else if r.kind = 0 ∨ r.tag ≠ tag ∨ r.freePending = true then s.cellFault Od.bpmDoubleFree d head tag kind id
    else if r.kind ≠ kind ∨ r.id ≠ id then s.cellFault Od.bpmNotOwner d head tag kind id
    else if r.users = 0 then s.returnCells d head
    else s.setRecord d head { r with freePending := true }

/-- A new owner of a packet, with the copies besides it (R262). -/
def State.giveTo (s : State) (d head kind id users : Nat) : State :=
  match s.record? d head with
  | none => s
  | some r => s.setRecord d head { r with kind := kind, id := id, users := if r.refcount then users + 1 else users }

/-- The first cell of the packet that holds a cell. -/
def State.headOf (s : State) (d c : Nat) : Option Nat := ((s.liveRecords d).find? fun e => (s.chain d 41 e.1).contains c).map (·.1)

/-- A cell beyond which a chain cannot be read ends it (R257). -/
def State.cutChain (s : State) (d c : Nat) : State :=
  match sparseFind? s.bufs.cells (cellKey d c) with
  | some x => { s with bufs := { s.bufs with cells := sparsePut s.bufs.cells (cellKey d c) { x with eop := true } } }
  | none => s

/-- CELL_FREE (R262, R263): a free by a requester. -/
def execCellFree (d head tag kind id : Nat) (s : State) : Answer := withDie s d (s.freePacket d head tag kind id)

/-- CELL_RELEASE (R262, R263): a release by a requester. -/
def execCellRelease (d head kind id : Nat) (s : State) : Answer := withDie s d (s.releasePacket d head kind id)

/-- BITMAP_PARITY_FAIL (R265): the word is out of allocation until the Keeper has rebuilt it, within 1 ms. -/
def execBitmapParityFail (d bank word : Nat) (s : State) : Answer :=
  withDie s d <|
    if s.bufs.badWords.contains (d, bank, word) then s
    else
      (({ s with bufs := { s.bufs with badWords := s.bufs.badWords ++ [(d, bank, word)] } }).fault d 0x0D 0 (bank * 32768 + word * 32)
        0).later 1000000 (.bitmapRebuildDone d bank word)

/-- BITMAP_REBUILD_DONE (R265). -/
def execBitmapRebuildDone (d bank word : Nat) (s : State) : Answer :=
  withDie s d <|
    ({ s with bufs := { s.bufs with badWords := s.bufs.badWords.filter fun w => w ≠ (d, bank, word) } } : State).fMoved d

/-- BPM_SWEEP (R265): cells that belong to no packet record and to no port, and are not free, return to the bitmaps. -/
def execBpmSweep (d : Nat) (s : State) : Answer :=
  withDie s d <|
    let owned := (s.liveRecords d).flatMap fun e => s.chain d 41 e.1
    let held := (s.bufs.held.filter fun e => e.1 / 32 = d).flatMap fun e => e.2.map (·.1)
    let lost := (s.usedCells d).filter fun c => !(owned.contains c) && !(held.contains c)
    let t : State := { s with bufs := { s.bufs with cells := lost.foldl (fun m c => sparseErase m (cellKey d c)) s.bufs.cells } }
    if lost = [] then s else (t.bump Od.bpmCellsRecovered (dieInst d) 0 lost.length).fMoved d

end Sys2Proof.Machine
end

