-- ==== Sys2Proof/Machine/Ingress.lean ====
section
/-! DEFINITION. Packets of the ingress side: frame start and admission (R260, R261, R282, R283), the parser (R108 to R121), and the
end of a packet's ingress life (R252, R262). -/

namespace Sys2Proof.Machine

/-- Write several fields of an HV: high bit, low bit, value. -/
def putFields (hv : Nat) (l : List (Nat × Nat × Nat)) : Nat := l.foldl (fun h f => putBits h f.1 f.2.1 f.2.2) hv

/-- Fields of the HV by name (R95). -/
def hvStamp (hv : Nat) : Nat := bits hv 1951 1920
def hvGen (hv : Nat) : Nat := bits hv 1905 1904
def hvPort (hv : Nat) : Nat := bits hv 1903 1888
def hvProfile (hv : Nat) : Nat := bits hv 1883 1880
def hvPass (hv : Nat) : Nat := bits hv 1866 1865
def hvReplay (hv : Nat) : Bool := bitOf hv 1864
def hvL3End (hv : Nat) : Nat := bits hv 1855 1842
def hvKind (hv : Nat) : Nat := bits hv 591 588
def hvDest (hv : Nat) : Nat := bits hv 587 560
def hvTc (hv : Nat) : Nat := bits hv 559 557
def hvDp (hv : Nat) : Nat := bits hv 556 555

/-- Write DEST_KIND and DEST. -/
def putDest (hv kind dest : Nat) : Nat := putFields hv [(591, 588, kind), (587, 560, dest)]
/-- Write TC. -/
def putTc (hv tc : Nat) : Nat := putBits hv 559 557 tc
/-- DEST_KIND PUNT with a reason. -/
def putPunt (hv reason : Nat) : Nat := putBits (putDest hv 5 0) 599 592 reason
/-- Set a bit of LOOKUP_HITS. -/
def putHit (hv stage : Nat) : Nat := putBits hv (512 + stage) (512 + stage) 1

/-- A packet by number. -/
def State.packet? (s : State) (p : Nat) : Option Packet := sparseFind? s.packets p
def State.setPacket (s : State) (p : Nat) (k : Packet) : State := { s with packets := sparsePut s.packets p k }

/-- Run the meaning of a step of a packet that stands at the step's stage; there is no such step for another packet. -/
def withPacket (s : State) (p : Nat) (ok : Packet → Bool) (f : Packet → State) : Answer :=
  match s.packet? p with
  | some k => running s (if ok k then f k else s)
  | none => .next s

/-- Die and pipeline instance of a packet. -/
def Packet.die (k : Packet) : Nat := k.pipe / 16
def Packet.inst (k : Packet) : Nat := pipeInst k.pipe

/-- Packets of a generation in flight on a die (R252). -/
def State.addFlight (s : State) (d g : Nat) : State :=
  { s with sched := { s.sched with
      flight := sparseSet (fun _ => 0) s.sched.flight (d * 4 + g) (sparseGet (fun _ => 0) s.sched.flight (d * 4 + g) + 1) } }
def State.dropFlight (s : State) (d g : Nat) : State :=
  { s with sched := { s.sched with
      flight := sparseSet (fun _ => 0) s.sched.flight (d * 4 + g) (sparseGet (fun _ => 0) s.sched.flight (d * 4 + g) - 1) } }

/-- The last ingress pass of a packet ends: it is counted in flight no more, nor its cells in its PG (R252, R283). -/
def State.endPass (s : State) (k : Packet) : State :=
  let s1 := if k.flying then s.dropFlight k.die (hvGen k.hv) else s
  if k.charged then s1.dischargePg k.port k.pg (((s.record? k.die k.head).map (·.cells)).getD 0) else s1

/-- A packet is no longer the ingress side's. -/
def State.removePacket (s : State) (p : Nat) : State := { s with packets := sparseErase s.packets p }

/-- The last ingress pass of a packet ends, and it leaves the ingress side. -/
def State.endIngress (s : State) (p : Nat) (k : Packet) : State := (s.removePacket p).endPass k

/-- The packet is dropped before enqueue: INGRESS frees its cells (R262). -/
def State.dropPacket (s : State) (p : Nat) (k : Packet) : State :=
  (s.endIngress p k).freePacket k.die k.head k.tag 1 k.pipe

/-- The packet goes to the punt path with a reason, from any point before its enqueue. -/
def State.toPunt (s : State) (p : Nat) (k : Packet) (reason : Nat) : State :=
  s.setPacket p { k with stage := .punting, hv := putPunt k.hv reason }

/-! Frame start. -/

/-- PG of a frame of port `n` (R282). -/
def State.framePg (s : State) (n : Nat) (frame : List Byte) : Nat :=
  if beNat (slice frame 12 2) = 0x8100 then s.rdOctet Od.portPgMap (portInst n) 0 ((byteAt frame 14).toNat / 32)
  else s.rd Od.portDefaultPg (portInst n)

/-- Whether a frame may start (R260, R283). -/
def State.mayStart (s : State) (n g : Nat) : Bool :=
  decide (s.rd Od.pgCells (portInst n) g < s.pgMost n g) && decide (40 ≤ s.octetReserve (n / 64) (n % 64 / 8))

/-- The HV of a packet at its first byte (R38, R55, R78, R95, R98): stamps, tag, port and profile. -/
def State.freshHv (s : State) (n length : Nat) : Nat :=
  let g := s.sched.gen
  putFields 0 [(2047, 1952, time96 (s.rxStamp n)), (1951, 1920, s.epoch32),
    (1919, 1906, if length ≤ 516 then length else 0), (1905, 1904, g), (1903, 1888, n),
    (1887, 1880, s.rdFor Od.portParserProfile (portInst n) 0 g), (1863, 1863, if length ≤ 516 then 1 else 0)]

/-- A frame starts (R260): its packet takes cells and begins its first pass, with the stamps and the tag of its first byte, which came at `born`
(R40, R53, R55). What is beyond 10,240 bytes is not stored; that there is more shows at its end (R69). -/
def State.startFrame (s : State) (n g hv born : Nat) (frame : List Byte) : State :=
  let d := n / 64
  let o := n % 64 / 8
  let pipe := d * 16 + s.pipeOf d false o
  let long := decide (516 < frame.length)
  let body := frame.take 10240
  let x := s.openRecord d o o g body.length 1 pipe
  let k : Packet :=
    { stage := .received, port := n, pipe := pipe, frame := body, ended := !long, bad := false, hv := hv, hv0 := hv, born := born,
      lport := n, bd := 0, limit := 0, tcEarly := 0, place := .none, searched := false, matchIds := [], head := x.2.1, tag := x.2.2,
      pg := g, restarts := 0, replays := 0, meters := [], lock := none, log := [], ctxNew := none, picked := false, record := 0,
      marked := none, avoid := none, charged := true, flying := true, mirror := none, since := 0, owns := false, origin := 0, cut := false, atEgress := false }
  let p := s.nextPacket
  let s1 : State := { x.1 with packets := sparsePut x.1.packets p k, nextPacket := p + 1 }
  let s2 : State := if long then { s1 with bufs := { s1.bufs with tails := sparsePut s1.bufs.tails p { port := n, frame := frame, parsed := none } } } else s1
  let s3 := s2.chargePg n g (cellsOf body.length)
  if long then s3 else s3.refill d o

/-- A frame that cannot start is dropped (R261, R283, R284); PFC_HEADROOM_DROPS counts one that finds the headroom exhausted. -/
def State.dropStart (s : State) (n g : Nat) : State :=
  let s1 := (s.bump Od.bpmClassDrops (dieInst (n / 64)) g).bump Od.pgDrops (portInst n) g
  if s.rd Od.pgPfc (portInst n) g = 1 ∧ s.pgMost n g ≤ s.rd Od.pgCells (portInst n) g then s1.bump Od.pfcHeadroomDrops (portInst n) g else s1

/-- A frame that waited at frame start is dropped: its tag is no longer in flight (R252, R261). -/
def State.dropWaiting (s : State) (w : FrameWait) : State := (s.dropFlight (w.port / 64) (hvGen w.hv)).dropStart w.port w.pg

/-- Frames that wait in an octet's staging. -/
def State.waitingAt (s : State) (d o : Nat) : List FrameWait := sparseGet (fun _ => []) s.bufs.waiting (d * 8 + o)
def State.setWaiting (s : State) (d o : Nat) (l : List FrameWait) : State :=
  { s with bufs := { s.bufs with waiting := sparseSet (fun _ => []) s.bufs.waiting (d * 8 + o) l } }

/-- The waiting frames of an octet are presented again, oldest first (R261): each that may start does. -/
def State.retryStarts (s : State) (d o : Nat) : State :=
  (s.waitingAt d o).foldl (fun (a : State) w =>
    if a.mayStart w.port w.pg then (a.setWaiting d o ((a.waitingAt d o).erase w)).startFrame w.port w.pg w.hv w.since w.frame
    else a.bump Od.bpmClassNoBuffer (dieInst d) w.pg) s

/-- A frame that may start does; otherwise it receives NO_BUFFER and waits in its octet's staging of 20,480 bytes, or is dropped (R261). It carries its tag
from its first byte on (R55). The frames that wait in its octet are presented first. -/
def State.tryStart (s : State) (n : Nat) (frame : List Byte) : State :=
  let d := n / 64
  let o := n % 64 / 8
  let g := s.framePg n frame
  let hv := s.freshHv n frame.length
  let s0 := (s.retryStarts d o).addFlight d (hvGen hv)
  if s0.mayStart n g then s0.startFrame n g hv s.up frame
  else
    let line := s0.waitingAt d o
    let s1 := s0.bump Od.bpmClassNoBuffer (dieInst d) g
    if s.rd Od.bpmClassPolicy 0 g = 0 ∧ (line.foldl (fun a w => a + w.frame.length) 0) + frame.length ≤ 20480 then
      (s1.setWaiting d o (line ++ [{ port := n, frame := frame, pg := g, since := s.up, hv := hv }])).later
        (s.rd Od.bpmClassWaitLimit 0 g) (.classWaitExpire d o)
    else (s1.dropFlight d (hvGen hv)).dropStart n g

/-- Whether the FCS of a frame is good. -/
def goodFcs (frame : List Byte) : Bool :=
  leNat (frame.drop (frame.length - 4)) = crc32Eth (frame.take (frame.length - 4))

/-- FRAME_RECEIVE (R40, R69, R108, R260, R282): a frame with its FCS begins on port `n`. Runts, complete frames with a bad FCS and
MAC control frames never become packets; PFC_FRAME_RX counts the latter (log 42). -/
def execFrameReceive (n : Nat) (frame : List Byte) (s : State) : Answer :=
  withLane s n <|
    if s.portStateOf n ≠ 2 then s
    else
      let s1 := s.bwCount n frame.length false
      if frame.length < 64 then s1.macCount n 3 1
      else if frame.length ≤ 516 ∧ goodFcs frame = false then s1.macCount n 2 1
      else if beNat (slice frame 12 2) = 0x8808 then s
      else
        let s2 := if frame.length ≤ 516 then (s1.macCount n 0 1).macCount n 1 frame.length else s1
        s2.tryStart n (frame.take 10241)

/-! The parser. -/

/-- HV without what the parser builds: stamps, PROFILE, PASS, REPLAY, FRAME_LENGTH, FRAME_COMPLETE and AE_SCRATCH stay (R98). -/
def hvKept (hv : Nat) : Nat :=
  let meta_ := low 2048 hv
  putFields (bits meta_ 2047 1863 * 2 ^ 1863 + low 512 meta_) [(1879, 1872, 0), (1871, 1867, 0)]

/-- A parse counter counts, unless the parse is of a replay (R98). -/
def State.parseCount (s : State) (k : Packet) (o : Obj) (n : Nat) : State :=
  if hvReplay k.hv || n == 0 then s else s.bump o k.inst 0 n

/-- What the walk gives the HV: the header copy, status and instances (R94 to R96, R110). -/
def walkHv (header hv : Nat) (e : WalkEnd) : Nat :=
  let insts := e.walk.insts.reverse
  let base := header * 2 ^ 2048 + hvKept hv
  putFields base ([(1879, 1872, e.status), (1871, 1867, insts.length), (1855, 1842, e.walk.l3End)] ++
    insts.zipIdx.map fun x => (1759 - 32 * x.2, 1728 - 32 * x.2, x.1))

/-- The payload scan area (R115): start and length. -/
def scanArea (psaMax stop : Nat) (e : WalkEnd) : Nat × Nat :=
  let start := e.walk.psaFrom.getD e.payload
  (start, min psaMax (min (1024 - start) (e.walk.bound.getD stop - start)))

/-- No cells: the head of a packet that holds none. -/
def noCells : Nat := 524288

/-- A copy of a packet goes to the punt path with a reason (R151, R300). -/
def State.puntCopy (s : State) (k : Packet) (reason : Nat) : State :=
  let c : Packet := { k with stage := .punting, hv := putBits k.hv 599 592 reason, head := noCells, meters := [], lock := none, log := [],
                             ctxNew := none, charged := false, flying := false, owns := false }
  { s with packets := sparsePut s.packets s.nextPacket c, nextPacket := s.nextPacket + 1 }

/-- A frame longer than the parser's intake claimed more than it held (R111): one copy is punted with PARSE_LENGTH. -/
def State.lateLength (s : State) (k : Packet) : State :=
  (s.puntCopy { k with ended := true, bad := false, origin := 0 } 0x03).bump Od.parseLateLength (pipeInst k.pipe)

/-- The parse of a packet whose frame's end has not arrived is kept until it does (R111). -/
def State.noteParsed (s : State) (p : Nat) (k : Packet) : State :=
  match sparseFind? s.bufs.tails p with
  | some x => { s with bufs := { s.bufs with tails := sparsePut s.bufs.tails p { x with parsed := some k } } }
  | none => s

/-- The parse of a packet (R108 to R121): its HV, matches and counters. PSA_START is 0 where no PSA is defined (DESIGN CHOICE, log 132: R95 gives no
value there). A frame that has ended already is compared with L3_END here (R111). -/
def State.parsePacket (s : State) (p : Nat) (k : Packet) : State :=
  let g := hvGen k.hv
  let bank := s.liveFor 0x30 g
  let bi := bankInst bank
  let prof := hvProfile k.hv
  let stop := k.frame.length - 4
  let body := k.frame.take stop
  let view : FrameView := { header := beNat (slice body 0 512), complete := bitOf k.hv 1863, stop := stop }
  let e := walkGraph (s.tbl bank 0x30) (s.tbl bank 0x31) view 18 (Walk.start (s.rd Od.profileStartNode bi prof))
  let hv := walkHv view.header k.hv e
  let late := k.ended && !view.complete && decide (stop < e.walk.l3End) && !hvReplay k.hv
  let s1 := s.parseCount k Od.parseInnerSlack e.walk.slack
  if e.status ≠ 0 then
    let s2 :=
      if e.status = 2 then s1.parseCount k Od.parseDepthCount 1
      else if e.status = 3 then s1.parseCount k Od.parseLengthCount 1
      else s1.parseCount k Od.parseUnknownCount 1
    let k1 : Packet := { k with stage := .punting, hv := putBits hv 599 592 e.status }
    let s3 := if late then s2.lateLength k1 else s2
    (s3.noteParsed p k1).setPacket p { k1 with bad := k.bad || late }
  else
    let area := scanArea (s.rd Od.profilePsaMax bi prof) stop e
    let psa := slice body area.1 area.2
    let set := s.rd Od.profilePatternSet bi prof
    let pats := if set = 0xFF then [] else
      (List.range (s.rd Od.patternSetCount bi set)).map fun i => s.tbl bank 0x34 (s.rd Od.patternSetBase bi set + i)
    let found := (allMatches pats psa).map fun m => (m.1, area.1 + m.2)
    let rec_ := s.rd Od.keyProfileRecord bi e.walk.keyProf
    let key := if e.walk.keyProf = 0 then none else extractKey rec_ e.payload area.1 psa found
    let hv1 := putFields hv ([(1862, 1862, if area.2 = 0 then 0 else 1), (1839, 1824, if area.2 = 0 then 0 else area.1),
      (1823, 1808, area.2), (1807, 1800, min 255 found.length)] ++
      (found.take 4).zipIdx.map (fun m => (1247 - 32 * m.2, 1216 - 32 * m.2, m.1.1 * 65536 + m.1.2)))
    let hv2 := if e.walk.keyProf = 0 then hv1 else putFields hv1 [(1791, 1776, bits rec_ 20 9), (1775, 1768, e.walk.keyProf)]
    let hv3 := match key with
      | some b => putFields hv2 [(1861, 1861, 1), (1799, 1792, b.length), (1119, 608, beNat b * 256 ^ (64 - b.length))]
      | none => hv2
    let s2 := s1.parseCount k Od.matchOverflow (found.length - 4)
    let s3 := if e.walk.keyProf ≠ 0 ∧ key.isNone = true then s2.parseCount k Od.keyExtractFail 1 else s2
    let wanted := key.isSome && bitOf (s.tbl (s.liveFor 0x58 g) 0x58 (bits rec_ 20 9)) 255
    let k1 : Packet := { k with stage := .parsed, hv := hv3, matchIds := found.map (·.1), place := if wanted then .needed else .none }
    let s4 := if late then s3.lateLength k1 else s3
    (s4.noteParsed p k1).setPacket p { k1 with bad := k.bad || late }

/-- Octet of a packet, die * 8 + octet (R125). -/
def Packet.octet (k : Packet) : Nat := k.port / 8

/-- Whether a packet's pipeline accepts no packets: its octet's search or placement queue is full, or every thread of its engine is busy
(R150, R188, R195). -/
def State.pipeStopped (s : State) (k : Packet) : Bool :=
  (sparseFind? s.asa.stalled k.octet).isSome || (sparseFind? s.placing.stalled k.octet).isSome || s.threadsBusy k.pipe false

/-- PARSE (R108 to R121): a pipeline that is stopped takes no packet, which is held in its cells. -/
def execParse (p : Nat) (s : State) : Answer := withPacket s p (fun k => k.stage = .received && !s.pipeStopped k) (s.parsePacket p)

end Sys2Proof.Machine
end

