-- ==== Sys2Proof/Machine/Lookups.lean ====
section
/-! DEFINITION. The ingress lookup stages 0 to 9, searches and the result cache, and placement (R132 to R190). -/

namespace Sys2Proof.Machine

/-- Index of a table entry among the failing rows of a kind. -/
def rowIndex (bank i : Nat) : Nat := bank * 2 ^ 48 + i

/-- Whether a row fails on a die (R142, R175, R190). -/
def State.rowBad (s : State) (d kind index : Nat) : Bool := s.badRows.any fun b => b.die = d && b.kind = kind && b.index = index

/-- A lookup reads a failing entry (R175): counted and recorded. -/
def State.tableMiss (s : State) (d t bank i : Nat) : State :=
  (s.bump Od.tableParityMiss 0 (t - 0x40)).fault d 0x09 2 (low 32 (Config.tableRow (tblKey bank t i))) (t * 2 ^ 24 + bank) i

/-- Result of reading a table: the record if found, and the failing entry if one was read. -/
def State.hashLookup (s : State) (d t bank : Nat) (k : Nat × Nat) : Option Nat × Option Nat :=
  match (s.keyWays t bank k).find? fun i => s.rowBad d t (rowIndex bank i) with
  | some i => (none, some i)
  | none => ((s.findKey t bank k).map fun i => s.tbl bank t i, none)

/-- A lookup under way: the state, the HV, what the stages have found, and whether the packet leaves the stages: 1 dropped, 2 punted
for a parity error, 3 no further stage. -/
structure Look where
  st : State
  hv : Nat
  lport : Nat
  bd : Nat
  limit : Nat
  route : Nat
  leave : Nat

/-- What a lookup needs to know of its packet: die, tag, stamp, and the frame's header copy is in the HV. -/
structure LookCtx where
  die : Nat
  gen : Nat
  stamp : Nat

/-- The failing row of a stage (R175): punted where TABLE_PARITY_PUNT is set, otherwise the stage's miss action `miss`. -/
def Look.parity (l : Look) (c : LookCtx) (t bank i : Nat) (miss : Look → Look) : Look :=
  let l1 := { l with st := l.st.tableMiss c.die t bank i }
  if l.st.rdFor Od.tableParityPunt 0 (t - 0x40) c.gen = 1 then { l1 with leave := 2 } else miss l1

/-- DEST_KIND DROP, with no later stage before the searches: the miss action of a stage that cannot miss (R175). -/
def Look.drop (l : Look) : Look := { l with hv := putDest l.hv 6 0, leave := 3 }

/-- A stage on a direct table. -/
def Look.direct (l : Look) (c : LookCtx) (t i : Nat) (hit : Nat → Look → Look) : Look :=
  if l.leave ≠ 0 then l
  else
    let bank := l.st.liveFor (famOfTable t) c.gen
    if l.st.rowBad c.die t (rowIndex bank i) then l.parity c t bank i Look.drop else hit (l.st.tbl bank t i) l

/-- A stage on a hash table: record and look on a hit, the miss action otherwise. -/
def Look.hashed (l : Look) (c : LookCtx) (t : Nat) (key : Nat × Nat) (hit : Nat → Look → Look) (miss : Look → Look) : Look :=
  if l.leave ≠ 0 then l
  else
    let bank := l.st.liveFor t c.gen
    match l.st.hashLookup c.die t bank key with
    | (_, some i) => l.parity c t bank i miss
    | (some r, none) => hit r l
    | (none, none) => miss l

/-- HV bytes from a frame offset, as a number; bytes past the header copy read 0. -/
def hvOctets (hv from_ n : Nat) : Nat :=
  (List.range n).foldl (fun a i => a * 256 + (if from_ + i < 512 then hvByte hv (from_ + i) else 0)) 0

/-- The first instance of one of some types at a tunnel level. -/
def firstOf (hv : Nat) (types : List Nat) (level : Nat) : Option Nat :=
  firstInstance hv fun e => types.contains (bits e 31 24) && bits e 3 2 = level

/-- ECT (R95): the ECN field of the first IPv4 or IPv6 header at level 0 is not 0. -/
def ecnField (hv : Nat) : Option Nat :=
  (firstOf hv [0x04, 0x05] 0).map fun e =>
    let b := hvOctets hv (bits e 23 14 + 1) 1
    if bits e 31 24 = 0x04 then b % 4 else b / 16 % 4

/-- Stage 0 (R158, R160). -/
def Look.stage0 (l : Look) (c : LookCtx) : Look :=
  l.direct c 0x40 (hvPort l.hv) fun r l =>
    let ect := match ecnField l.hv with
      | some e => if e = 0 then 0 else 1
      | none => 0
    { l with lport := bits r 125 114, bd := bits r 80 67,
             hv := putHit (putBits (putTc l.hv (bits r 66 64)) 554 554 ect) 0 }

/-- Stage 1, for a tagged frame of a port with XLATE (R158, R511). -/
def Look.stage1 (l : Look) (c : LookCtx) : Look :=
  let rec_ := l.st.tbl (l.st.liveFor 0x40 c.gen) 0x40 (hvPort l.hv)
  let etype := hvOctets l.hv 12 2
  if bitOf rec_ 40 = true ∧ (etype = 0x8100 ∨ etype = 0x88A8) then
    l.hashed c 0x41 (27, l.lport * 2 ^ 14 + hvOctets l.hv 14 2 % 4096)
      (fun r l => { l with lport := bits r 99 88, bd := bits r 87 74, hv := putHit l.hv 1 }) id
  else l

/-- A port with BLOCK drops its frames at the end of stage 1 (R158). -/
def Look.block (l : Look) (c : LookCtx) : Look :=
  if l.leave = 0 ∧ bitOf (l.st.tbl (l.st.liveFor 0x40 c.gen) 0x40 l.lport) 39 = true then
    { l with st := l.st.bump Od.portBlockDrops (portInst (hvPort l.hv)), leave := 1 }
  else l

/-- Key of a MAC entry (R164). -/
def macKey (bd mac : Nat) : Nat × Nat := (62, bd * 2 ^ 48 + mac)

/-- Logical port of a MAC entry that a stamp sees; 0xFFF none (R171). -/
def macPort (r stamp : Nat) : Nat :=
  if bitOf r 124 then (if (stamp + 256 - bits r 123 116) % 256 < 128 then bits r 53 42 else bits r 41 30) else bits r 53 42

/-- Dynamic MAC entries of a live bank that `p` selects (R172). -/
def State.dynamicMacs (s : State) (p : Nat → Bool) : Nat :=
  ((s.bankRecords 0x43 (s.fam 0x43).live).filter fun e => bitOf e.2 126 = false && p e.2).length

/-- Whether a learning limit is reached: of a BD record or a port record. -/
def State.limitReached (s : State) (limit : Nat) (p : Nat → Bool) : Bool := decide (limit ≠ 0) && decide (limit ≤ s.dynamicMacs p)

/-- Stage 3: the source lookup with its learning check and the learning limit (R158, R170, R172). -/
def Look.stage3 (l : Look) (c : LookCtx) : Look :=
  let bdr := l.st.tbl (l.st.liveFor 0x42 c.gen) 0x42 l.bd
  let pr := l.st.tbl (l.st.liveFor 0x40 c.gen) 0x40 l.lport
  let mac := hvOctets l.hv 6 6
  let learns := bitOf bdr 50 && bitOf pr 63
  let full := l.st.limitReached (bits bdr 48 29) (fun r => bits r 115 102 = l.bd)
    || l.st.limitReached (bits pr 62 43) (fun r => bits r 53 42 = l.lport)
  let ask := fun (l : Look) =>
    if learns then
      { l with st := l.st.emit (.control c.die (l.st.rd Od.leadDie) 3 [l.bd, mac, l.lport, bits l.hv 2047 1952, hvPort l.hv]) }
    else l
  let miss := fun (l : Look) =>
    ask (if learns = true ∧ full = true then { l with limit := max (bits bdr 28 27) (bits pr 42 41) } else l)
  l.hashed c 0x43 (macKey l.bd mac)
    (fun r l =>
      if macPort r c.stamp = 0xFFF then miss l
      else
        let k := (c.die * 2 ^ 62 + l.bd * 2 ^ 48 + mac)
        let st := { l.st with learning := { l.st.learning with
          hits := if l.st.learning.hits.contains (c.die, k % 2 ^ 62) then l.st.learning.hits else l.st.learning.hits ++ [(c.die, k % 2 ^ 62)] } }
        let l1 := { l with st := st, hv := putHit l.hv 3 }
        if bitOf r 126 = false ∧ macPort r c.stamp ≠ l.lport then ask l1 else l1)
    miss

/-- Whether a frame's outermost header after Ethernet and VLAN is MPLS. -/
def outerMpls (hv : Nat) : Bool :=
  (firstInstance hv fun e => decide (bits e 31 24 ≠ 0x01) && decide (bits e 31 24 ≠ 0x02)).any fun e => bits e 31 24 = 0x03

/-- Whether a frame is routed (R158). -/
def Look.routed (l : Look) (c : LookCtx) : Bool :=
  let bdr := l.st.tbl (l.st.liveFor 0x42 c.gen) 0x42 l.bd
  (bitOf bdr 51 && bits bdr 115 68 = hvOctets l.hv 0 6) || outerMpls l.hv

/-- Stage 4, for a frame that is not routed (R158, R162, R166). -/
def Look.stage4 (l : Look) (c : LookCtx) : Look :=
  let bdr := l.st.tbl (l.st.liveFor 0x42 c.gen) 0x42 l.bd
  let miss := fun (l : Look) =>
    { l with hv := if bits bdr 26 25 = 0 then putDest l.hv 3 (bits bdr 67 52) else if bits bdr 26 25 = 1 then putDest l.hv 6 0
      else putPunt l.hv 0x01 }
  l.hashed c 0x43 (macKey l.bd (hvOctets l.hv 0 6))
    (fun r l =>
      if macPort r c.stamp = 0xFFF then miss l
      else
        { l with hv := putHit (if bitOf r 29 then putDest l.hv 6 0 else if bitOf r 28 then putPunt l.hv 0x0A
          else putDest l.hv 1 (macPort r c.stamp)) 4 })
    miss

/-- Stage 6, for a frame whose outermost header is MPLS. -/
def Look.stage6 (l : Look) (c : LookCtx) : Look :=
  match firstOf l.hv [0x03] 0 with
  | none => l
  | some e =>
    l.hashed c 0x45 (20, hvOctets l.hv (bits e 23 14) 3 / 16) (fun r l => { l with route := bits r 99 82, hv := putHit l.hv 6 })
      (fun l =>
        { l with hv := if l.st.rdFor Od.tableMissAction 0 5 c.gen = 0 then putDest l.hv 6 0 else putPunt l.hv 0x01 })

/-- Stages 7 and 8 with the VRF's MISS action (R158, R167, R168, R511). -/
def Look.stage78 (l : Look) (c : LookCtx) (vrf vrec level : Nat) : Look :=
  match firstOf l.hv [0x04, 0x05] level with
  | none => l
  | some e =>
    let v4 := bits e 31 24 = 0x04
    if l.leave ≠ 0 ∨ bitOf vrec (if v4 then 127 else 126) = false then l
    else
      let dst := hvOctets l.hv (bits e 23 14 + (if v4 then 16 else 24)) (if v4 then 4 else 16)
      let t := if v4 then 0x48 else 0x49
      let bank := l.st.liveFor t c.gen
      let look := l.st.lpmLookup t bank vrf (if v4 then dst else dst / 2 ^ 64) (fun i => l.st.rowBad c.die t (rowIndex bank i)) 8 0
        (lpmWidth t) 0
      let l7 := match look.2 with
        | some i => l.parity c t bank i id
        | none => if look.1 = 0 then l else { l with route := look.1, hv := putHit l.hv 7 }
      let found := l7.hv ≠ l.hv
      let key := if v4 then (44, vrf * 2 ^ 32 + dst) else (140, vrf * 2 ^ 128 + dst)
      l7.hashed c (if v4 then 0x46 else 0x47) key
        (fun r l => { l with route := if v4 then bits r 82 65 else bits r 114 97, hv := putHit l.hv 8 })
        (fun l =>
          if found then l else { l with hv := if bits vrec 125 124 = 0 then putDest l.hv 6 0 else putPunt l.hv 0x01 })

/-- A next-hop record of a bank: 0 and beyond the bank read as DROP (R159). -/
def State.nextHop (s : State) (bank i : Nat) : Nat := if i = 0 ∨ s.bankEntries 0x4A bank ≤ i then 2 * 2 ^ 126 else s.tbl bank 0x4A i

/-- Stage 9 (R158, R159, R163, R232). -/
def Look.stage9 (l : Look) (c : LookCtx) : Look :=
  if l.route = 0 ∨ l.leave ≠ 0 then l
  else
    let bank := l.st.liveFor 0x4A c.gen
    if l.st.rowBad c.die 0x4A (rowIndex bank l.route) then l.parity c 0x4A bank l.route Look.drop
    else
      let r := l.st.nextHop bank l.route
      let kind := bits r 127 126
      { l with hv := putHit (if kind = 0 then putDest l.hv 1 (2 ^ 27 + l.route) else if kind = 1 then putDest l.hv 2 (bits r 113 100)
        else if kind = 2 then putDest l.hv 6 0 else putPunt l.hv 0x0A) 9 }

/-- Stages 0 to 9 in order (R158). -/
def Look.stages (l : Look) (c : LookCtx) : Look :=
  let l2 := (((l.stage0 c).stage1 c).block c)
  let l2 := l2.direct c 0x42 l2.bd fun _ l => { l with hv := putHit l.hv 2 }
  let l3 := if l2.leave = 0 then l2.stage3 c else l2
  if l3.leave ≠ 0 then l3
  else if l3.routed c = false then l3.stage4 c
  else
    let vrf := bits (l3.st.tbl (l3.st.liveFor 0x42 c.gen) 0x42 l3.bd) 127 116
    let l5 := l3.direct c 0x44 vrf fun _ l => { l with hv := putHit l.hv 5 }
    let l6 := if outerMpls l5.hv then l5.stage6 c else l5
    let level := if hvPass l6.hv = 0 then 0 else hvByte l6.hv 766
    (l6.stage78 c vrf (l6.st.tbl (l6.st.liveFor 0x44 c.gen) 0x44 vrf) level).stage9 c

/-! The end of the stages. -/

/-- Stage 12 and the learning limit, once the searches and the placement of a packet are over (R172, R184, R185, R188, R190). -/
def State.finishLookups (s : State) (p : Nat) : State :=
  match s.packet? p with
  | none => s
  | some k =>
    let waits := match k.place with
      | .needed => true
      | .waiting => true
      | .issued => true
      | _ => false
    if k.stage ≠ .searching ∨ k.searched = false ∨ waits = true then s
    else
      let g := hvGen k.hv
      let dom := s.tbl (s.liveFor 0x58 g) 0x58 (bits k.hv 1791 1776)
      let barred := hvKind k.hv = 6 ∨ hvKind k.hv = 5
      let invert := bitOf dom 253 && k.matchIds.contains (bits dom 239 224)
      let mode := b2n (bitOf dom 254 != invert)
      let missed := fun (parity : Bool) =>
        let s1 := (s.bump Od.placeMisses k.inst)
        if parity = true ∧ s.rdFor Od.placeParityPunt 0 0 g = 1 then (s1, k.hv, true)
        else if bits dom 252 251 = 1 then (s1, putDest k.hv 6 0, false)
        else if bits dom 252 251 = 2 then (s1, putPunt k.hv 0x08, false)
        else (s1, k.hv, false)
      let x : State × Nat × Bool :=
        if barred then (s, k.hv, false)
        else
          match k.place with
          | .found ns =>
            let hv := putHit (putDest k.hv 4 (mode * 2 ^ 23 + (if mode = 1 then bits dom 245 241 else 1) * 2 ^ 18 + ns)) 12
            (s, if bitOf dom 249 then putTc hv (bits dom 248 246) else hv, false)
          | .missed parity => missed parity
          | .overBudget => (s, if bitOf dom 250 then putDest k.hv 6 0 else k.hv, false)
          | _ => (s, k.hv, false)
      if x.2.2 then x.1.toPunt p k 0x0B
      else
        let hv := if k.limit = 1 then putDest x.2.1 6 0 else if k.limit = 2 then putPunt x.2.1 0x07 else x.2.1
        x.1.setPacket p { k with hv := hv, stage := .ready }

/-! Search (R133 to R151). -/

/-- Sets of a profile for a tag: lookups 0 and 1. -/
def State.profileSets (s : State) (prof g : Nat) : Option Nat × Option Nat :=
  let pick := fun (v : Nat) => if v < 8 ∧ s.rd Od.asaSetMode 0 v ≠ 0 then some v else none
  (pick (s.rdFor Od.asaLookup0Set 0 prof g), pick (s.rdFor Od.asaLookup1Set 0 prof g))

/-- The outcome of a lookup enters the HV (R130, R134, R135, R142): state, HV, and whether the packet is punted for parity. -/
def State.applyOutcome (s : State) (k : Packet) (i : Nat) (set : Option Nat) (o : Option SearchOutcome) (hv : Nat) : State × Nat × Bool :=
  match set, o with
  | some w, some r =>
    let g := hvGen hv
    if r.hit then
      let x := r.result
      let h1 := if bitOf x 55 then putBits hv 607 600 (bits x 63 56) else hv
      let h2 := if bits x 54 51 = 0 then h1 else putDest h1 (bits x 54 51) (bits x 50 23)
      let h3 := if bitOf x 22 then putTc h2 (bits x 21 19) else h2
      let h4 := if bitOf x 18 then putBits h3 556 555 (bits x 17 16) else h3
      (s, putHit (putBits h4 (511 - 16 * i) (496 - 16 * i) (bits x 15 0)) (10 + i), false)
    else
      let s1 := if r.parity then s.bump Od.asaParityMiss k.inst else s
      if r.parity = true ∧ s.rdFor Od.asaParityPunt 0 w g = 1 then (s1, hv, true)
      else
        let a := s.rdFor Od.asaMissAction 0 w g
        (s1, if a = 1 then putDest hv 6 0 else if a = 2 then putPunt hv 0x01 else hv, false)
  | _, _ => (s, hv, false)

/-- Both outcomes of a packet enter its HV, lookup 0 first. -/
def State.takeOutcomes (s : State) (p : Nat) (o : Option SearchOutcome × Option SearchOutcome) : State :=
  match s.packet? p with
  | none => s
  | some k =>
    let w := s.profileSets (hvProfile k.hv) (hvGen k.hv)
    let a := s.applyOutcome k 0 w.1 o.1 k.hv
    let b := a.1.applyOutcome k 1 w.2 o.2 a.2.1
    let k1 := { k with hv := b.2.1, searched := true }
    if a.2.2 || b.2.2 then b.1.toPunt p k1 0x0B else (b.1.setPacket p k1).finishLookups p

/-- Queue of an octet (R149). -/
def State.asaQueue (s : State) (o : Nat) : List AsaWait := sparseGet (fun _ => []) s.asa.queues o
def State.setAsaQueue (s : State) (o : Nat) (l : List AsaWait) : State :=
  { s with asa := { s.asa with queues := sparseSet (fun _ => []) s.asa.queues o l } }

/-- The entry of a packet whose leader `p` leaves without an outcome: it is searched itself (R146). -/
def AsaWait.freed (p : Nat) (w : AsaWait) : AsaWait := if w.follows = some p then { w with follows := none } else w

/-- Packet `p` leaves the searches without an outcome: its PENDING entry of the cache goes, and its followers are searched (R146). -/
def State.freeFollowers (s : State) (p : Nat) (k : Packet) : State :=
  let s1 := s.setAsaQueue k.octet ((s.asaQueue k.octet).map (AsaWait.freed p))
  let s2 : State := match sparseFind? s1.asa.stalled k.octet with
    | some w => { s1 with asa := { s1.asa with stalled := sparsePut s1.asa.stalled k.octet (w.freed p) } }
    | none => s1
  s2.setRc k.pipe ((s2.rcOf k.pipe).filter fun e => !(e.leader = p && e.outcome.isNone))

/-- The search-deferred action of a packet (R151). -/
def State.deferSearch (s : State) (p : Nat) : State :=
  match s.packet? p with
  | none => s
  | some k =>
    let d := k.die
    let g := hvGen k.hv
    let first := match sparseFind? s.asa.lastDefer d with
      | some t => decide (t + 1000000 ≤ s.up)
      | none => true
    let s1 := s.bump Od.searchDeferredCount k.inst
    let s2 : State := { s1 with asa := { s1.asa with lastDefer := sparsePut s1.asa.lastDefer d s.up } }
    let s3 := if first then s2.fire d 0x146 else s2
    let s4 := s3.freeFollowers p k
    let action := s.rdFor Od.searchDeferAction 0 0 g
    let every := s.rd Od.searchDeferSample
    let s5 := if action ≠ 2 ∧ every ≠ 0 ∧ s4.rd Od.searchDeferredCount k.inst % every = 0 then s4.puntCopy k 0x0D else s4
    if action = 1 then s5.dropPacket p k
    else if action = 2 then s5.toPunt p k 0x0D
    else (s5.setPacket p { k with searched := true }).finishLookups p

/-- Whether a packet may be deferred (R150). -/
def State.mayDefer (s : State) (p : Nat) : Bool :=
  match s.packet? p with
  | some k => bitOf (s.rdFor Od.searchDeferTcMask 0 0 (hvGen k.hv)) k.tcEarly
  | none => false

/-- A packet takes an entry of its octet's wait queue, or is deferred, defers another, or stops its pipeline (R149, R150). -/
def State.enterQueue (s : State) (p : Nat) (k : Packet) (w : AsaWait) : State :=
  let q := s.asaQueue k.octet
  let join := fun (t : State) => (t.setAsaQueue k.octet (t.asaQueue k.octet ++ [w])).bump Od.searchWaits k.inst
  if q.length < 64 then join s
  else if s.mayDefer p then s.deferSearch p
  else
    match q.reverse.find? fun x => s.mayDefer x.packet with
    | some x => join ((s.setAsaQueue k.octet (q.filter fun y => y.packet ≠ x.packet)).deferSearch x.packet)
    | none => { s with asa := { s.asa with stalled := sparsePut s.asa.stalled k.octet w } }

/-- Joined key of a packet's lookups, with the sets they name (R144, R145). -/
def State.joinedKey (s : State) (w : Option Nat × Option Nat) (hv : Nat) : Nat × Nat :=
  let one := fun (x : Nat × Nat) (o : Option Nat) =>
    match o with
    | some set => ((x.1 * 2 ^ s.setWidth set + s.searchKey set hv) * 16 + set, x.2 + s.setWidth set)
    | none => (x.1 * 16 + 15, x.2)
  one (one (0, 0) w.1) w.2

/-- The search of a packet begins: cached, followed or queued (R145, R146, R149). -/
def State.beginSearch (s : State) (p : Nat) (k : Packet) : State :=
  let g := hvGen k.hv
  let w := s.profileSets (hvProfile k.hv) g
  if w.1 = none ∧ w.2 = none then (s.setPacket p { k with searched := true }).finishLookups p
  else
    let key := s.joinedKey w k.hv
    let wait : AsaWait := { packet := p, follows := none, set0 := w.1, set1 := w.2, done0 := none, done1 := none }
    let s0 := s.setPacket p k
    if 320 < key.2 ∨ s.rd Od.rcEnable 0 (hvProfile k.hv) = 0 then (s0.bump Od.rcUncacheable k.inst).enterQueue p k wait
    else
      let gen := fun (o : Option Nat) => (o.map fun set => s.rcGen set (hvStamp k.hv)).getD 0
      let same := fun (e : RcEntry) => e.profile = hvProfile k.hv && e.key = key.1 && e.g0 = gen w.1 && e.g1 = gen w.2
      let rc := s.rcOf k.pipe
      match rc.find? same with
      | some e =>
        let s1 := s0.setRc k.pipe (e :: rc.filter fun x => !same x)
        match e.outcome with
        | some o => (s1.bump Od.rcHits k.inst).takeOutcomes p o
        | none => s1.enterQueue p k { wait with follows := some e.leader }
      | none =>
        let e : RcEntry := { profile := hvProfile k.hv, key := key.1, g0 := gen w.1, g1 := gen w.2, leader := p, outcome := none }
        (s0.setRc k.pipe ((e :: rc).take 65536)).enterQueue p k wait

/-- INGRESS_LOOKUPS (R53, R55, R144 to R151, R158 to R175): stages 0 to 9, then the search begins. A pipeline that is stopped takes
no packet. -/
def execIngressLookups (p : Nat) (s : State) : Answer :=
  withPacket s p (fun k => k.stage = .parsed && (sparseFind? s.asa.stalled k.octet).isNone && (sparseFind? s.placing.stalled k.octet).isNone)
    fun k =>
    let c : LookCtx := { die := k.die, gen := hvGen k.hv, stamp := hvStamp k.hv }
    let l := ({ st := s, hv := k.hv, lport := k.port, bd := 0, limit := 0, route := 0, leave := 0 } : Look).stages c
    let k1 := { k with hv := l.hv, lport := l.lport, bd := l.bd, limit := l.limit, tcEarly := hvTc l.hv, stage := .searching }
    if l.leave = 1 then l.st.dropPacket p k1
    else if l.leave = 2 then l.st.toPunt p k1 0x0B
    else l.st.beginSearch p k1

/-! Search slots (R147, R148). -/

/-- Whether a slot is enabled in a clock of the window. -/
def slotOn (b : Bool) (step clock : Nat) : Bool :=
  if step = 0 then true
  else if step = 1 then (if b then decide (clock ≠ 1) else decide (clock ≠ 3))
  else if step = 2 then decide (clock % 2 = 0)
  else (if b then clock = 2 else clock = 0)

/-- One lookup of a waiting packet is searched, with the fault record of a failing row (R133, R142). -/
def State.searchOne (s : State) (p set : Nat) : State × SearchOutcome :=
  match s.packet? p with
  | none => (s, { hit := false, address := 0, result := 0, parity := false })
  | some k =>
    let banks := s.setBanksFor set (hvGen k.hv)
    let own := k.octet % 8 / 2
    let o := s.asaSearch k.die own set banks (hvStamp k.hv) (s.searchKey set k.hv)
    (s.searchFault k.die own set banks o, o)

/-- The oldest entry of an octet that waits for a lookup that `p` accepts is searched. -/
def State.serveSlot (s : State) (o : Nat) (second : Bool) (p : Nat → Bool) : State :=
  let want := fun (w : AsaWait) => w.follows.isNone && (if second then w.set1 else w.set0).any p
  match (s.asaQueue o).find? want with
  | none => s
  | some w =>
    let set := ((if second then w.set1 else w.set0)).getD 0
    let x := s.searchOne w.packet set
    let done : AsaWait := if second then { w with set1 := none, done1 := some x.2 } else { w with set0 := none, done0 := some x.2 }
    x.1.setAsaQueue o ((x.1.asaQueue o).map fun y => if y.packet = w.packet then done else y)

/-- A packet whose searches are done leaves the queue and is counted as searched: its entry of the cache is filled, or removed for a parity
miss, and its followers leave with it, the one that waits for room included (R146, R149, R152). -/
def State.leaveQueue (s : State) (o : Nat) (w : AsaWait) : State :=
  match s.packet? w.packet with
  | none => s.setAsaQueue o ((s.asaQueue o).filter fun y => y.packet ≠ w.packet)
  | some k =>
    let parity := w.done0.any (·.parity) || w.done1.any (·.parity)
    let out := (w.done0, w.done1)
    let mine := fun (e : RcEntry) => e.leader = w.packet && e.outcome.isNone
    let rc := s.rcOf k.pipe
    let s1 := (s.setRc k.pipe (if parity then rc.filter fun e => !mine e
      else rc.map fun e => if mine e then { e with outcome := some out } else e)).bump Od.rcMisses k.inst
    let follows := fun (y : AsaWait) => y.follows = some w.packet
    let held := (sparseFind? s1.asa.stalled o).toList.filter follows
    let fol := (s1.asaQueue o).filter follows ++ held
    let s2 := s1.setAsaQueue o ((s1.asaQueue o).filter fun y => y.packet ≠ w.packet && !follows y)
    let s3 : State := if held = [] then s2 else { s2 with asa := { s2.asa with stalled := sparseErase s2.asa.stalled o } }
    fol.foldl (fun t y => (t.bump Od.rcHits k.inst).takeOutcomes y.packet out) (s3.takeOutcomes w.packet out)

/-- Every packet of an octet whose searches are done leaves; the packet that stopped the pipeline takes an entry when one is free
(R150). -/
def State.settleQueue (s : State) (o : Nat) : State :=
  let ready := (s.asaQueue o).filter fun w => w.follows = none && w.set0 = none && w.set1 = none
  let s1 := ready.foldl (fun t w => t.leaveQueue o w) s
  match sparseFind? s1.asa.stalled o with
  | none => s1
  | some w =>
    if (s1.asaQueue o).length < 64 then
      let s2 : State := { s1 with asa := { s1.asa with stalled := sparseErase s1.asa.stalled o } }
      match s2.packet? w.packet with
      | some k => s2.enterQueue w.packet k w
      | none => s2
    else s1.bump Od.searchStallClocks (pipeInst (o / 8 * 16 + s1.pipeOf (o / 8) false (o % 8)))

/-- ASA_SEARCH_SLOT (R124 to R150): one pipeline clock of the ingress arrays of a die. -/
def execAsaSearchSlot (d : Nat) (s : State) : Answer :=
  withDie s d <|
    let clock := sparseGet (fun _ => 0) s.asa.clock d
    let step := if clock = 0 then s.rd Od.searchThrottleStep (dieInst d) else sparseGet (fun _ => 0) s.asa.step d
    let octets := (List.range 8).map fun i => d * 8 + i
    let parted := fun (set : Nat) => s.rd Od.asaSetMode 0 set = 2
    let s1 := if slotOn false step clock then octets.foldl (fun t o => t.serveSlot o false fun _ => true) s else s
    let sideB := fun (t : State) (q : Nat) =>
      let last := sparseGet (fun _ => 8) t.asa.turn (d * 2 + q)
      let waits := fun (o : Nat) => (t.asaQueue (d * 8 + o)).any fun w => w.follows.isNone && w.set1.any parted
      match ((List.range 8).map fun i => (last + 1 + i) % 8).find? fun o => o % 2 = q && waits o with
      | some o => ({ t with asa := { t.asa with turn := sparsePut t.asa.turn (d * 2 + q) o } }).serveSlot (d * 8 + o) true parted
      | none => ((List.range 8).filter fun o => o % 2 = q).foldl (fun u o => u.serveSlot (d * 8 + o) true fun _ => true) t
    let s2 := if slotOn true step clock then sideB (sideB s1 0) 1 else s1
    let s3 : State := { s2 with asa := { s2.asa with clock := sparsePut s2.asa.clock d ((clock + 1) % 4), step := sparsePut s2.asa.step d step } }
    octets.foldl (fun t o => t.settleQueue o) s3

/-- RC_SWEEP (R146): entries of a pipeline whose generation of either set is no longer kept are removed. -/
def execRcSweep (p : Nat) (s : State) : Answer :=
  withPipe s p <|
    let kept := fun (set gen : Nat) => set = 15 || (sparseGet (fun _ => [(0, 0)]) s.asa.gens set).any fun h => h.1 = gen
    s.setRc p ((s.rcOf p).filter fun e =>
      kept ((e.key / 16 / 2 ^ (if e.key % 16 = 15 then 0 else s.setWidth (e.key % 16))) % 16) e.g0 && kept (e.key % 16) e.g1)

/-! Placement (R177 to R190). -/

/-- Credits and waiting packets of an octet. -/
def State.placeCredits (s : State) (o : Nat) : Nat := sparseGet (fun _ => 0) s.placing.credits o
def State.setPlaceCredits (s : State) (o v : Nat) : State :=
  { s with placing := { s.placing with credits := sparseSet (fun _ => 0) s.placing.credits o v } }
def State.placeQueue (s : State) (o : Nat) : List Nat := sparseGet (fun _ => []) s.placing.queues o
def State.setPlaceQueue (s : State) (o : Nat) (l : List Nat) : State :=
  { s with placing := { s.placing with queues := sparseSet (fun _ => []) s.placing.queues o l } }

/-- A packet's bucket read is issued (R187, R189). -/
def State.issuePlace (s : State) (p : Nat) : State :=
  match s.packet? p with
  | some k => (s.setPacket p { k with place := .issued }).bump Od.placeLookups k.inst
  | none => s

/-- A stopped pipeline goes on when an entry of its placement queue is free; the clocks it stood are counted (R188). -/
def State.resumePlace (s : State) (o : Nat) : State :=
  match sparseFind? s.placing.stalled o with
  | some (p, _) =>
    if (s.placeQueue o).length < 32 then
      let s1 : State := { s with placing := { s.placing with stalled := sparseErase s.placing.stalled o } }
      match s1.packet? p with
      | some k =>
        ((s1.setPacket p { k with place := .waiting }).setPlaceQueue o (s1.placeQueue o ++ [p])).bump Od.placeStallClocks k.inst 0
          (s.placeStall o)
      | none => s1
    else s
  | none => s

/-- Waiting packets of an octet take its credits, oldest first. -/
def State.usePlaceCredits (s : State) (o : Nat) : Nat → State
  | 0 => s
  | fuel + 1 =>
    match s.placeQueue o with
    | p :: rest =>
      if s.placeCredits o = 0 then s
      else ((((s.setPlaceCredits o (s.placeCredits o - 1)).setPlaceQueue o rest).issuePlace p).resumePlace o).usePlaceCredits o fuel
    | [] => s

/-- A credit that a full bucket cannot hold goes to the next octet in turn whose queue waits; otherwise it is lost (R187). -/
def State.lendCredit (s : State) (d : Nat) : State :=
  let last := sparseGet (fun _ => 7) s.placing.turn d
  match ((List.range 8).map fun i => (last + 1 + i) % 8).find? fun o => s.placeQueue (d * 8 + o) ≠ [] with
  | some o =>
    let s1 : State := { s with placing := { s.placing with turn := sparsePut s.placing.turn d o } }
    (s1.setPlaceCredits (d * 8 + o) (s1.placeCredits (d * 8 + o) + 1)).usePlaceCredits (d * 8 + o) 1
  | none => s

/-- PLACE_CREDIT_REFILL (R187). -/
def execPlaceCreditRefill (d : Nat) (s : State) : Answer :=
  withDie s d <|
    let octets := (List.range 8).map fun i => d * 8 + i
    let s1 := octets.foldl (fun t o =>
      let t1 := (t.setPlaceCredits o (t.placeCredits o + 15))
      t1.usePlaceCredits o (t1.placeCredits o)) s
    let spare := (octets.map fun o => s1.placeCredits o - 16).foldl (· + ·) 0
    let s2 := octets.foldl (fun t o => t.setPlaceCredits o (min 16 (t.placeCredits o))) s1
    (List.range spare).foldl (fun t _ => t.lendCredit d) s2

/-- PLACEMENT_LOOKUP (R184, R187, R188): the packet takes a credit, the domain's OVER_ACTION, a place in the queue, or stops its
pipeline. -/
def execPlacementLookup (p : Nat) (s : State) : Answer :=
  withPacket s p (fun k => k.place = .needed && k.stage = .searching) fun k =>
    let o := k.octet
    if s.placeCredits o ≠ 0 ∧ s.placeQueue o = [] then (s.setPlaceCredits o (s.placeCredits o - 1)).issuePlace p
    else if bitOf (s.rdFor Od.placeOverTcMask 0 0 (hvGen k.hv)) k.tcEarly then
      ((s.setPacket p { k with place := .overBudget }).bump Od.placeOverCount k.inst).finishLookups p
    else if (s.placeQueue o).length < 32 then
      (s.setPacket p { k with place := .waiting }).setPlaceQueue o (s.placeQueue o ++ [p])
    else if (sparseFind? s.placing.stalled o).isNone then
      { s with placing := { s.placing with stalled := sparsePut s.placing.stalled o (p, s.up) } }
    else s

/-- CRC-64 of R178. -/
def placeHash (seed : Nat) (key : List Byte) : Nat := crcForward 64 0x42F0E1EBA9EA3693 seed key

/-- The node set that owns a position in a bucket (R181). -/
def ringLookup (bucket pos : Nat) : Nat :=
  match ((List.range (bits bucket 511 509)).map (ringPoint bucket)).find? fun w => decide (pos ≤ bits w 63 24) with
  | some w => bits w 23 6
  | none => bits bucket 465 448

/-- PLACE_READ_RETURN (R178, R181, R184, R190). -/
def execPlaceReadReturn (p : Nat) (s : State) : Answer :=
  withPacket s p (fun k => k.place = .issued && k.stage = .searching) fun k =>
    let bank := s.liveFor 0x58 (hvGen k.hv)
    let dom := s.tbl bank 0x58 (bits k.hv 1791 1776)
    let n := bits k.hv 1799 1792
    let key := beBytes n (bits k.hv 1119 608 / 256 ^ (64 - n))
    let pos := placeHash (bits dom 223 160) key / 2 ^ 24
    let b := bits dom 159 136 + pos / 2 ^ (40 - bits dom 135 131)
    let ns := ringLookup (s.tbl bank 0x5A b) pos
    let bad := fun (t i : Nat) => s.rowBad k.die t (rowIndex bank i)
    let lost := fun (t i : Nat) =>
      (((s.bump Od.placeParityMiss k.inst).fault k.die 0x0C 2 i t).setPacket p { k with place := .missed true }).finishLookups p
    if bad 0x5A b then lost 0x5A b
    else if bad 0x59 ns then lost 0x59 ns
    else if s.bankEntries 0x59 bank ≤ ns ∨ bits (s.tbl bank 0x59 ns) 511 507 = 0 then
      (s.setPacket p { k with place := .missed false }).finishLookups p
    else (s.setPacket p { k with place := .found ns }).finishLookups p

end Sys2Proof.Machine
end

