-- ==== Sys2Proof/Machine/Learn.lean ====
section
/-! DEFINITION. Learning and aging (R170 to R174), ECMP rebalancing (R169), scrubs and rewritten rows (R143, R175, R190, R200). -/

namespace Sys2Proof.Machine

/-- Key of a learn request or MAC entry as one number. -/
def macNumber (bd mac : Nat) : Nat := bd * 2 ^ 48 + mac

/-- A learn report without PHASE (R173). -/
def learnEntry (kind status bd mac lport prev from_ : Nat) : Nat :=
  low 8 from_ * 2 ^ 18 + low 12 prev * 2 ^ 26 + low 12 lport * 2 ^ 38 + low 48 mac * 2 ^ 50 + low 14 bd * 2 ^ 98 + status * 2 ^ 112
    + kind * 2 ^ 120

/-- Post a learn report on LEARN_REPORT_CQ, if one is named (R173). -/
def State.learnReport (s : State) (kind status bd mac lport prev from_ : Nat) : State :=
  let c := s.rd Od.learnReportCq
  if c = 0xFFFF then s else s.giveReport (s.cqOwnerOf Od.learnReportCq) c 1 (learnEntry kind status bd mac lport prev from_)

/-- A MAC record (R166). -/
def macRecord (pend : Bool) (from_ bd mac lport prev : Nat) : Nat :=
  2 ^ 127 + b2n pend * 2 ^ 124 + low 8 from_ * 2 ^ 116 + bd * 2 ^ 102 + mac * 2 ^ 54 + lport * 2 ^ 42 + prev * 2 ^ 30

/-- The entry of a MAC key in a bank. -/
def State.macIn (s : State) (bank bd mac : Nat) : Option Nat := (s.findKey 0x43 bank (macKey bd mac)).map fun i => s.tbl bank 0x43 i

/-- The entry that a learn request is judged by (R172): the live one, or one that the host has written to the shadow, which no request moves
(DEDUCED, log 137). -/
def State.macEntry (s : State) (bd mac : Nat) : Option Nat :=
  match s.macIn (s.shadowOf 0x43) bd mac with
  | some r => if bitOf r 126 then some r else s.macIn (s.fam 0x43).live bd mac
  | none => s.macIn (s.fam 0x43).live bd mac

/-- Write a learned record into a bank, where no host's entry has its key; `none` if it is full (R170, R172). -/
def State.putMacIn (s : State) (bank r : Nat) : Option State :=
  if (s.macIn bank (bits r 115 102) (bits r 101 54)).any fun x => bitOf x 126 then some s else s.hashInsert 0x43 bank r

/-- Write a learned record into both banks; `none` if either is full (R170, R172). -/
def State.putMac (s : State) (r : Nat) : Option State := (s.putMacIn 0 r).bind fun t => t.putMacIn 1 r

/-- Rewrite the dynamic entry of a MAC key in each bank that has one; a record 0 clears it (R171, R174). -/
def State.rewriteMac (s : State) (bd mac : Nat) (f : Nat → Nat) : State :=
  [0, 1].foldl (fun t b =>
    match t.findKey 0x43 b (macKey bd mac) with
    | some i => if bitOf (t.tbl b 0x43 i) 126 then t else t.setTbl b 0x43 i (f (t.tbl b 0x43 i))
    | none => t) s

/-- A learned or moved entry is gated from the epoch C + 4; its stamp is kept for MOVE_GUARD (R170 to R172). -/
def State.noteLearn (s : State) (bd mac stamp : Nat) : State :=
  let k := macNumber bd mac
  { s with learning := { s.learning with
      guards := sparsePut s.learning.guards k stamp,
      pend := (s.learning.pend.filter fun e => e.1 ≠ k) ++ [(k, s.time.epoch + 4, false)] } }

/-- An entry that is new has neither HIT nor a visit behind it (R174). -/
def State.freshMac (s : State) (bd mac : Nat) : State :=
  let k := macNumber bd mac
  { s with learning := { s.learning with hits := s.learning.hits.filter fun h => h.2 ≠ k, idle := s.learning.idle.filter (· ≠ k) } }

/-- A learn request waits until PEND clears (R172). -/
def State.holdLearn (s : State) (q : LearnRequest) : State :=
  { s with learning := { s.learning with queue := s.learning.queue.map fun x => if x = q then { x with waits := true } else x } }

/-- A learn request leaves the queue. -/
def State.dropLearn (s : State) (q : LearnRequest) : State :=
  { s with learning := { s.learning with queue := s.learning.queue.erase q } }

/-- Whether an earlier or waiting request asks the same (R172). -/
def State.sameWaiting (s : State) (q : LearnRequest) : Bool :=
  (s.learning.queue.erase q).any fun x =>
    x.bd = q.bd && x.mac = q.mac && x.lport = q.lport && (decide (x.stamp < q.stamp) || (x.stamp = q.stamp && decide (x.port ≤ q.port)))

/-- A learn request is applied: the first row of R172 that matches decides. -/
def State.applyLearn (s : State) (q : LearnRequest) : State :=
  let from_ := s.time.epoch + 4
  let guard := match sparseFind? s.learning.guards (macNumber q.bd q.mac) with
    | some t => decide (t ≤ q.stamp) && decide (q.stamp < t + s.rd Od.moveGuard * 1000 * 65536)
    | none => false
  let bdr := s.tbl (s.fam 0x42).live 0x42 q.bd
  let pr := s.tbl (s.fam 0x40).live 0x40 q.lport
  let full := s.limitReached (bits bdr 48 29) (fun r => bits r 115 102 = q.bd)
    || s.limitReached (bits pr 62 43) (fun r => bits r 53 42 = q.lport)
  match s.macEntry q.bd q.mac with
  | some r =>
    let old := bits r 53 42
    if s.sameWaiting q = true ∨ old = q.lport then s.dropLearn q
    else if bitOf r 126 then
      ((s.dropLearn q).bump Od.staticMoveRefused).learnReport 0x16 0 q.bd q.mac q.lport old 0
    else if guard then
      (((s.dropLearn q).bump Od.moveContention).fireLead 0x149).learnReport 0x13 0 q.bd q.mac q.lport old 0
    else if bitOf r 124 then s.holdLearn q
    else
      match (s.dropLearn q).putMac (macRecord true from_ q.bd q.mac q.lport old) with
      | some t => ((t.noteLearn q.bd q.mac q.stamp).fireLead 0x14A).learnReport 0x11 0 q.bd q.mac q.lport old from_
      | none => (((s.dropLearn q).bump Od.learnTableFull).rehash 0x43).learnReport 0x15 Status.tableFull.code q.bd q.mac q.lport old 0
  | none =>
    if s.sameWaiting q then s.dropLearn q
    else if full then ((s.dropLearn q).bump Od.learnLimitHits).learnReport 0x14 0 q.bd q.mac q.lport 0xFFF 0
    else
      match (s.dropLearn q).putMac (macRecord true from_ q.bd q.mac q.lport 0xFFF) with
      | some t => ((t.freshMac q.bd q.mac).noteLearn q.bd q.mac q.stamp).learnReport 0x10 0 q.bd q.mac q.lport 0xFFF from_
      | none => (((s.dropLearn q).bump Od.learnTableFull).rehash 0x43).learnReport 0x15 Status.tableFull.code q.bd q.mac q.lport 0xFFF 0

/-- LEARN (R170): a request reaches the learning die; it is kept until its stamp plus 2 µs. -/
def execLearn (bd mac lport stamp port : Nat) (s : State) : Answer :=
  let q : LearnRequest := { bd := bd, mac := mac, lport := lport, stamp := ofTime96 stamp, port := port, waits := false }
  running s <|
    if 16384 ≤ s.learning.queue.length then s.bump Od.learnQueueDrop
    else { s with learning := { s.learning with queue := s.learning.queue ++ [q] } }

/-- The earlier of two requests, by stamp and then IN_PORT (R170). -/
def LearnRequest.before (a b : LearnRequest) : Bool := decide (a.stamp < b.stamp) || (a.stamp = b.stamp && decide (a.port ≤ b.port))

/-- The requests of a list in order of stamp. -/
def inStampOrder (l : List LearnRequest) : List LearnRequest := sortBy LearnRequest.before l

/-- The requests that are due and not yet judged (R170), in order of stamp. -/
def State.dueLearns (s : State) : List LearnRequest :=
  inStampOrder (s.learning.queue.filter fun q => decide (q.stamp + 2000 * 65536 ≤ s.time.now) && !q.waits)

/-- LEARN_APPLY (R170, R172): the earliest request that is due is applied. -/
def execLearnApply (s : State) : Answer :=
  running s <|
    match s.dueLearns with
    | q :: _ => s.applyLearn q
    | [] => s

/-- PEND clears at a boundary at least 64 µs after that of FROM; an aged entry goes, and the requests that waited are judged again
(R171, R172, R174). -/
def State.clearPend (s : State) : State :=
  let expired := fun (e : Nat × Nat × Bool) => decide (e.2.1 * s.epochNs + 64000 ≤ s.ns)
  let gone := s.learning.pend.filter expired
  let s1 : State := { s with learning := { s.learning with pend := s.learning.pend.filter fun e => !expired e } }
  let s2 := gone.foldl (fun t e => t.rewriteMac (e.1 / 2 ^ 48) (e.1 % 2 ^ 48) fun r => if e.2.2 then 0 else setBit r 124 false) s1
  let waiting := inStampOrder (s2.learning.queue.filter fun q => q.waits && gone.any fun (e : Nat × Nat × Bool) => e.1 = macNumber q.bd q.mac)
  waiting.foldl (fun t q => t.applyLearn q) s2

/-- One visit of a dynamic entry (R174): an entry that is being aged already is only read. -/
def State.ageVisit (s : State) (r : Nat) : State :=
  let bd := bits r 115 102
  let mac := bits r 101 54
  let k := macNumber bd mac
  let hit := s.learning.hits.any fun h => h.2 = k
  let s1 : State := { s with learning := { s.learning with hits := s.learning.hits.filter fun h => h.2 ≠ k } }
  let setIdle := fun (l : List Nat) => ({ s1 with learning := { s1.learning with idle := l } } : State)
  if hit then setIdle (s.learning.idle.filter (· ≠ k))
  else if s.learning.idle.contains k = false then setIdle (s.learning.idle ++ [k])
  else if bits r 53 42 = 0xFFF then s1
  else
    let from_ := s.time.epoch + 4
    let t := (setIdle (s.learning.idle.filter (· ≠ k))).rewriteMac bd mac fun _ => macRecord true from_ bd mac 0xFFF (bits r 53 42)
    (({ t with learning := { t.learning with pend := (t.learning.pend.filter fun (e : Nat × Nat × Bool) => e.1 ≠ k) ++ [(k, from_, true)] } }).bump
      Od.agedOut).learnReport 0x12 0 bd mac 0xFFF (bits r 53 42) from_

/-- MAC_AGE_VISIT (R174): the learning die visits the dynamic entries of the BDs that age. -/
def execMacAgeVisit (s : State) : Answer :=
  running s <|
    if s.rd Od.macAgePeriod = 0 then s
    else
      let entries := (s.bankRecords 0x43 (s.fam 0x43).live).filter fun e =>
        bitOf e.2 126 = false && bitOf (s.tbl (s.fam 0x42).live 0x42 (bits e.2 115 102)) 49
      entries.foldl (fun t e => t.ageVisit e.2) s

/-- One bucket of a group moves to a member (R169): to the first below its target, from one above it. -/
def moveBucket (buckets : Nat) (targets : List Nat) (l : List Nat) (j : Nat) : List Nat :=
  let total := targets.foldl (· + ·) 0
  let count := fun (i : Nat) => (l.filter (· = i)).length
  let m := l.getD j 0
  let above := decide (targets.getD m 0 * buckets < count m * total)
  match (List.range targets.length).find? fun i => decide ((count i + 1) * total ≤ targets.getD i 0 * buckets) with
  | some i => if above then l.set j i else l
  | none => l

/-- A record that the Keeper writes to the shadow of the ECMP family. -/
def State.keeperWrite (s : State) (table index record : Nat) : State :=
  (s.setTbl (s.shadowOf 0x4B) table index record).logWrite 0x4B { table := table, index := index, record := record, delete := false }

/-- What the Keeper writes when it rebalances a group towards target weights, kept within the members' limits: the buckets that it moves and the
weights that change, as (table, index, record) (R37, R169). -/
def State.rebalance (s : State) (grp : Nat) (targets : List Nat) : List (Nat × Nat × Nat) :=
  let live := (s.fam 0x4B).live
  let r := s.tbl live 0x4B grp
  let n := bits r 44 35
  let b := 2 ^ bits r 13 10
  let base := bits r 34 14
  if n = 0 ∨ targets.length ≠ n then []
  else
    let fit := targets.zipIdx.map fun w =>
      let m := s.tbl live 0x4C (bits r 63 45 + w.2)
      max (bits m 37 30) (min (bits m 29 22) w.1)
    let now := (List.range b).map fun j => bits (s.tbl live 0x4D (base + j)) 15 7
    let step := fun (x : List Nat × Nat) (j : Nat) =>
      if x.2 = 0 then x
      else
        let l := moveBucket b fit x.1 j
        (l, if l = x.1 then x.2 else x.2 - 1)
    let next := (((List.range b).filter fun j => !(s.learning.buckets.contains (grp * 4096 + j))).foldl step (now, b / 16)).1
    (next.zipIdx.filter fun m => decide (now.getD m.2 0 ≠ m.1)).map (fun m => (0x4D, base + m.2, m.1 * 128))
      ++ (fit.zipIdx.filter fun w => decide (s.memberWeight live grp w.2 ≠ w.1)).map (fun w => (0x4F, grp * 512 + w.2, 256 + w.1))

/-- ECMP_REBALANCE (R37, R169): an ECMP_INTERVAL ends. The Keeper rebalances the groups, by the target weights that it derives from the queues
of the members' ports, and schedules ECMP_SWAP if anything has changed. -/
def execEcmpRebalance (group : Nat) (targets : List Nat) (others : List (Nat × List Nat)) (s : State) : Answer :=
  running s <|
    let idle := fun (t : State) => ({ t with learning := { t.learning with buckets := [] } } : State)
    if s.rd Od.ecmpMode = 1 ∨ s.bankState 0x4B ≠ 0 ∨ s.changeRoom = false then idle s
    else
      let writes := ((group, targets) :: others).flatMap fun g => s.rebalance g.1 g.2
      let t := writes.foldl (fun (a : State) w => a.keeperWrite w.1 w.2.1 w.2.2) s
      if writes = [] then idle s
      else (((idle t).addChange (t.time.epoch + 4) (swapObject 0x4B) 1 true (4 * 65536))).fireLead 0x14C

/-! Scrubs. -/

/-- Source, location and details of a failing row of a kind (R403): tables, placement, search rows, control stores. -/
def State.rowFault (s : State) (d kind index cls : Nat) : State :=
  let bank := index / 2 ^ 48
  let i := index % 2 ^ 48
  if kind = 0x59 ∨ kind = 0x5A then s.fault d 0x0C cls i kind
  else if kind = 0x60 then s.fault d 0x06 cls (d * 16 + bank / 2) i 0
  else s.fault d 0x09 cls (low 32 (Config.tableRow (tblKey bank kind i))) (kind * 2 ^ 24 + bank) i

/-- A row fails until the Keeper has rewritten it, within 1 ms. -/
def State.markBad (s : State) (d kind index : Nat) : State :=
  let keep := s.badRows.filter fun (b : BadRow) => !(b.die = d && b.kind = kind && b.index = index)
  let s1 : State := { s with badRows := keep ++ [({ die := d, kind := kind, index := index } : BadRow)] }
  s1.later 1000000 (.rowRewriteDone d kind index)

/-- TABLE_SCRUB (R175): the rows that the scrub finds wrong, as (table, bank, entry, whether corrected). -/
def execTableScrub (d : Nat) (bad : List (Nat × Nat × Nat × Bool)) (s : State) : Answer :=
  withDie s d <|
    bad.foldl (fun t b =>
      let i := rowIndex b.2.1 b.2.2.1
      if b.2.2.2 then t.rowFault d b.1 i 0 else (t.rowFault d b.1 i 2).markBad d b.1 i) s

/-- AE_CS_SCRUB (R200): the words found wrong, as (pipeline within the die * 2 + direction, word address, whether in every copy). -/
def execAeCsScrub (d : Nat) (bad : List (Nat × Nat × Bool)) (s : State) : Answer :=
  withDie s d <|
    bad.foldl (fun t b =>
      let i := rowIndex b.1 b.2.1
      if b.2.2 then (t.fault d 0x06 2 (d * 16 + b.1 / 2) b.2.1).markBad d 0x60 i else t.fault d 0x06 0 (d * 16 + b.1 / 2) b.2.1) s

/-- ROW_REWRITE_DONE (R143, R175, R190, R200): the row is good again. -/
def execRowRewriteDone (d kind index : Nat) (s : State) : Answer :=
  withDie s d { s with badRows := s.badRows.filter fun (b : BadRow) => !(b.die = d && b.kind = kind && b.index = index) }

/-- A failing search row (R143): its die, its row key, and the bank's replacement by its array's spare when the row has failed before
within 24 hours or is the bank's eighth. -/
def State.searchRowFail (s : State) (d key : Nat) : State :=
  let array := key / 65536
  let bank := key / 4096 % 16
  let recent := s.asa.rowFails.filter fun r => r.getD 0 0 = d && decide (s.seconds < r.getD 2 0 + 86400)
  let again := recent.any fun r => r.getD 1 0 = key
  let inBank := ((recent.filter fun r => r.getD 1 0 / 4096 = key / 4096).map fun r => r.getD 1 0).eraseDups.length + 1
  let s1 : State := ({ s with asa := { s.asa with rowFails := s.asa.rowFails ++ [[d, key, s.seconds]] } }).fault d 0x0B 0
    (rowLocation (s.setOfBank array bank) key)
  let busy := s.asa.copying.any fun c => c.getD 0 0 = d && c.getD 1 0 = array
  if (again || decide (8 ≤ inBank)) && !busy then
    match s1.pickSpare 7 d array with
    | some _ => ({ s1 with asa := { s1.asa with copying := s1.asa.copying ++ [[d, array, bank]] } }).later 20000 (.asaBankSpareSwitch d array bank)
    | none => s1
  else s1

/-- ASA_SCRUB (R143): the rows that the scrub finds wrong, by row key, (array * 16 + bank) * 4096 + row, and how; a row that fails or
stops matching does so until the rewrite. -/
def execAsaScrub (d : Nat) (bad : List (Nat × RowError)) (s : State) : Answer :=
  withDie s d <|
    bad.foldl (fun t b =>
      match b.2 with
      | .corrected => t.searchRowFail d b.1
      | .parity => (t.searchRowFail d b.1).markBad d 0x38 b.1
      | .hidden => (t.searchRowFail d b.1).markBad d 0x39 b.1) s

/-- ASA_BANK_SPARE_SWITCH (R143): the array uses its spare for the bank from now on, with the same contents. -/
def execAsaBankSpareSwitch (d array bank : Nat) (s : State) : Answer :=
  withDie s d <|
    if s.asa.copying.contains [d, array, bank] then
      let s1 : State :=
        { s with asa := { s.asa with copying := s.asa.copying.filter (· ≠ [d, array, bank]) }
                 badRows := s.badRows.filter fun b => !(b.die = d && (b.kind = 0x38 || b.kind = 0x39) && b.index / 4096 = array * 16 + bank)
                 recov := { s.recov with replaced := sparsePut s.recov.replaced (spareKey 7 d array bank) 0 } }
      (((s1.setSpare 7 d array 0 3).faultSpare d 0x0B 1 (rowLocation (s.setOfBank array bank) ((array * 16 + bank) * 4096))).retire 7 d array
        (1000000 + bank) 0x0B).fireLead 0x170
    else s

end Sys2Proof.Machine
end

