-- ==== Sys2Proof/Machine/Meters.lean ====
section
/-! DEFINITION. Meters (R298, R299) and the ends of copies and packets that the action engines, the traffic managers and the rewrite
units share (R262, R263). -/

namespace Sys2Proof.Machine

/-! Meters. -/

/-- A meter not yet written: CIR 0 and CBS 0, which colours every packet RED (R299). -/
def Meter.fresh : Meter := { record := 0, c := 0, e := 0, at_ := 0 }

/-- Meter `m` of die `d`. -/
def State.meter (s : State) (d m : Nat) : Meter := sparseGet (fun _ => Meter.fresh) s.tm.meters (d * 65536 + m)
def State.setMeter (s : State) (d m : Nat) (x : Meter) : State :=
  { s with tm := { s.tm with meters := sparseSet (fun _ => Meter.fresh) s.tm.meters (d * 65536 + m) x } }

/-- Fields of a meter record (R298). -/
def meterTr (r : Nat) : Bool := bitOf r 127
def meterCir (r : Nat) : Nat := bits r 119 98
def meterPir (r : Nat) : Nat := bits r 97 76
def meterCbs (r : Nat) : Nat := bits r 75 52
def meterPbs (r : Nat) : Nat := bits r 51 28

/-- Statuses of a meter record (R298). -/
def badMeter (r : Nat) : Bool :=
  decide (0 < meterCbs r) && decide (meterCbs r < 10240) || decide (0 < meterPbs r) && decide (meterPbs r < 10240)
    || meterTr r && decide (meterPir r < meterCir r) || !meterTr r && decide (meterPir r ≠ 0) || decide (bits r 126 120 ≠ 0)
    || decide (bits r 27 0 ≠ 0)

/-- A meter filled to an instant: SRTCM fills the committed bucket and overflows into the excess bucket, TRTCM fills each at its rate
(RFC 2697, RFC 2698). Rates are in Mbit/s, so that a rate of `r` adds `r` units of 1/8000 byte in 1 ns. -/
def Meter.fill (x : Meter) (ns : Nat) : Meter :=
  let dt := ns - x.at_
  let r := x.record
  let depthC := meterCbs r * 8000
  let depthE := meterPbs r * 8000
  if meterTr r then
    { x with c := min depthC (x.c + meterCir r * dt), e := min depthE (x.e + meterPir r * dt), at_ := max ns x.at_ }
  else
    let c := x.c + meterCir r * dt
    { x with c := min depthC c, e := min depthE (x.e + (c - depthC)), at_ := max ns x.at_ }

/-- Colour of a packet of `n` units and what it takes from each bucket, with pre-colour `pre`: 0 GREEN, 1 YELLOW, 2 RED. -/
def Meter.judge (x : Meter) (n pre : Nat) : Nat × Nat × Nat :=
  let r := x.record
  if meterCir r = 0 ∧ meterCbs r = 0 then (2, 0, 0)
  else if meterTr r then
    if pre = 2 ∨ x.e < n then (2, 0, 0)
    else if pre = 1 ∨ x.c < n then (1, 0, n)
    else (0, n, n)
  else if pre = 0 ∧ n ≤ x.c then (0, n, 0)
  else if pre ≤ 1 ∧ n ≤ x.e then (1, 0, n)
  else (2, 0, 0)

/-- A charge reserved in a meter (R217). -/
def State.chargeMeter (s : State) (d m bytes pre : Nat) : State × MeterHold :=
  let x := (s.meter d m).fill s.up
  let j := x.judge (bytes * 8000) pre
  (s.setMeter d m { x with c := x.c - j.2.1, e := x.e - j.2.2 }, { meter := m, colour := j.1, fromC := j.2.1, fromE := j.2.2 })

/-- A reservation refunded, up to the bucket's depth (R217). -/
def State.refundMeter (s : State) (d : Nat) (h : MeterHold) : State :=
  let x := (s.meter d h.meter).fill s.up
  s.setMeter d h.meter
    { x with c := min (meterCbs x.record * 8000) (x.c + h.fromC), e := min (meterPbs x.record * 8000) (x.e + h.fromE) }

/-- A meter write takes effect, with full buckets (R299). -/
def State.applyMeter (s : State) (index r : Nat) : State :=
  s.setMeter (index / 65536) (index % 65536)
    { record := r, c := meterCbs r * 8000, e := meterPbs r * 8000, at_ := s.up }

/-! Copies. -/

/-- A copy by number. -/
def State.copy? (s : State) (i : Nat) : Option Copy := sparseFind? s.tm.copies i
def State.setCopy (s : State) (i : Nat) (c : Copy) : State := { s with tm := { s.tm with copies := sparsePut s.tm.copies i c } }

/-- Run the meaning of a step of a copy that stands where the step begins. -/
def withCopy (s : State) (i : Nat) (ok : Copy → Bool) (f : Copy → State) : Answer :=
  match s.copy? i with
  | some c => running s (if ok c then f c else s)
  | none => .next s

/-- Transmission port and class of a copy (R234, R95). -/
def Copy.port (c : Copy) : Nat := bits c.k.hv 799 791
def Copy.tc (c : Copy) : Nat := hvTc c.k.hv
/-- Port class of a copy. -/
def Copy.pc (c : Copy) : Nat := c.port * 8 + c.tc
/-- Whether it is a die copy for fan-out. -/
def Copy.isFan (c : Copy) : Bool := c.group.isSome || c.extra != []

/-- Standing-grant cells that leave a transmit queue are restored at their source die (R278). -/
def State.restoreStanding (s : State) (c : Copy) : State :=
  if c.standing then (if c.die = c.dest then s else s.setReserved c.die 12 (s.reserved c.die 12 + c.cells)).emit (.control c.die c.dest 2 [c.port, c.cells]) else s

/-- A copy ends: its cells are freed or released by it (R262, R264). -/
def State.endCopy (s : State) (i : Nat) (c : Copy) : State :=
  let s1 : State := { s with tm := { s.tm with copies := sparseErase s.tm.copies i } }
  if c.k.head = noCells then s1
  else if c.last then s1.freePacket c.die c.k.head c.k.tag c.kind c.id
  else s1.releasePacket c.die c.k.head c.kind c.id

end Sys2Proof.Machine
end

