-- ==== Sys2Proof/Machine/Engine.lean ====
section
/-! DEFINITION. Action engines: microwords, the units, and what the engine does with a packet or copy (R194 to R224). An item is a
packet of the ingress side, or a copy in its egress pipeline, by number. -/

namespace Sys2Proof.Machine

/-! Items. -/

/-- The packet of an item. -/
def State.item? (s : State) (eg : Bool) (i : Nat) : Option Packet := if eg then (s.copy? i).map (·.k) else s.packet? i

/-- Write the packet of an item. -/
def State.setItem (s : State) (eg : Bool) (i : Nat) (k : Packet) : State :=
  if eg then
    match s.copy? i with
    | some c => s.setCopy i { c with k := k }
    | none => s
  else s.setPacket i k

/-- Count on an engine's pipeline instance. -/
def State.aeCount (s : State) (p : Nat) (eg : Bool) (o : Obj) (n : Nat := 1) : State := s.bump (dirObj eg o) (pipeInst p) 0 n

/-- Items of an engine in exit order (R196). -/
def State.exitOrder (s : State) (e : Nat) : List Nat := sparseGet (fun _ => []) s.ae.order e
def State.setExitOrder (s : State) (e : Nat) (l : List Nat) : State :=
  { s with ae := { s.ae with order := sparseSet (fun _ => []) s.ae.order e l } }

/-- Items to be dispatched again (R221). -/
def State.restartQueue (s : State) (e : Nat) : List Nat := sparseGet (fun _ => []) s.ae.restarted e
def State.setRestartQueue (s : State) (e : Nat) (l : List Nat) : State :=
  { s with ae := { s.ae with restarted := sparseSet (fun _ => []) s.ae.restarted e l } }

/-- The item is no longer in the engine. -/
def State.outOfEngine (s : State) (e i : Nat) : State :=
  (s.setExitOrder e ((s.exitOrder e).filter (· ≠ i))).setRestartQueue e ((s.restartQueue e).filter (· ≠ i))

/-- Give a thread a routine. -/
def State.setThread (s : State) (p : Nat) (eg : Bool) (t : Nat) (th : Thread) : State :=
  { s with ae := { s.ae with threads := sparsePut s.ae.threads (engineOf p eg * 64 + t) th } }
def State.endThread (s : State) (p : Nat) (eg : Bool) (t : Nat) : State :=
  { s with ae := { s.ae with threads := sparseErase s.ae.threads (engineOf p eg * 64 + t) } }

/-- End every thread that runs an item's routine. -/
def State.endThreadsOf (s : State) (p : Nat) (eg : Bool) (i : Nat) : State :=
  { s with ae := { s.ae with
      threads := s.ae.threads.filter fun (e : Nat × Thread) => !(e.1 / 64 = engineOf p eg && e.2.item = i) } }

/-! Flow contexts (R218, R219). -/

/-- A context as last released. -/
def State.context (s : State) (d c : Nat) : Nat := sparseGet (fun _ => 0) s.ae.contexts (d * 65536 + c)
def State.setContext (s : State) (d c v : Nat) : State :=
  { s with ae := { s.ae with contexts := sparseSet (fun _ => 0) s.ae.contexts (d * 65536 + c) v } }

/-- Waiting for a context's lock. -/
def State.ctxWaiters (s : State) (key : Nat) : List Nat := sparseGet (fun _ => []) s.ae.waiters key
def State.setCtxWaiters (s : State) (key : Nat) (l : List Nat) : State :=
  { s with ae := { s.ae with waiters := sparseSet (fun _ => []) s.ae.waiters key l } }

/-- A host write of a context is made, and its completion posted (R219). -/
def State.writeContext (s : State) (w : TimedWrite) : State :=
  let s1 := s.setContext (w.index / 65536) (w.index % 65536) (beNat (slice w.record 0 64))
  ({ s1 with rings := { s1.rings with timed := s1.rings.timed.filter fun (x : TimedWrite) => x.token ≠ w.token } }).completeToken
    w.fn w.wq w.token .ok w.seq

/-- The host writes at the front of a free context's queue take the lock in turn. -/
def State.serveHosts (s : State) (key : Nat) : Nat → State
  | 0 => s
  | fuel + 1 =>
    match s.ctxWaiters key with
    | [] => s
    | x :: rest =>
      if x % 2 = 1 then
        let s1 := s.setCtxWaiters key rest
        match s1.rings.timed.find? fun (w : TimedWrite) => w.token = x / 2 with
        | some w => (s1.writeContext w).serveHosts key fuel
        | none => s1.serveHosts key fuel
      else s

/-- The lock that a packet holds or waits for is given up (R218). -/
def State.unlockCtx (s : State) (i : Nat) (k : Packet) : State :=
  match k.lock with
  | none => s
  | some c =>
    let key := k.die * 65536 + c
    let s1 := s.setCtxWaiters key ((s.ctxWaiters key).filter (· ≠ i * 2))
    if sparseFind? s1.ae.holders key = some i then
      ({ s1 with ae := { s1.ae with holders := sparseErase s1.ae.holders key } }).serveHosts key (s1.ctxWaiters key).length
    else s1

/-- A log is discarded without replay (R217, R218): reservations are refunded and the context is unlocked unchanged. -/
def State.discardLog (s : State) (i : Nat) (k : Packet) : State :=
  (k.meters.foldl (fun t h => t.refundMeter k.die h) s).unlockCtx i k

/-- The packet without its attempt. -/
def Packet.bare (k : Packet) : Packet := { k with log := [], ctxNew := none, meters := [], lock := none, marked := none }

/-- An item is dropped before its output: its attempt is discarded. -/
def State.dropItem (s : State) (eg : Bool) (i : Nat) (k : Packet) : State :=
  let s1 := ((s.endThreadsOf k.pipe eg i).outOfEngine (engineOf k.pipe eg) i).discardLog i k
  if eg then
    match s1.copy? i with
    | some c => (s1.restoreStanding c).endCopy i c
    | none => s1
  else s1.dropPacket i k.bare

/-- An item goes to the punt path with a reason: a packet as it is, a copy as a packet of its own. -/
def State.puntItem (s : State) (eg : Bool) (i : Nat) (k : Packet) (reason : Nat) : State :=
  let s1 := ((s.endThreadsOf k.pipe eg i).outOfEngine (engineOf k.pipe eg) i).discardLog i k
  if eg then
    match s1.copy? i with
    | some c => ((s1.puntCopy { k.bare with atEgress := true, origin := c.origin } reason).restoreStanding c).endCopy i c
    | none => s1
  else s1.toPunt i k.bare reason

/-! Microwords (R198 to R211). -/

/-- The word at an address, of a customer bank or of the Dechus region; words 0 to 2 are FORWARD (R213; DESIGN CHOICE, log 13). -/
def State.word (s : State) (eg : Bool) (bank pc : Nat) : Nat :=
  if 0x3000 ≤ pc then s.tbl bank (0x100 + b2n eg) (pc - 0x3000)
  else if pc < 2 then 3 * 2 ^ 187
  else if pc = 2 then 6 * 2 ^ 189 + 3 * 2 ^ 187
  else low 192 (Config.dechusWord (s.rd Od.aeDechusVersion) (b2n eg) pc)

/-- The dispatch entry of an opcode (R211, R213). -/
def State.entry (s : State) (eg : Bool) (bank op : Nat) : Nat :=
  if 0xC0 ≤ op then s.tbl bank (0x110 + b2n eg) op
  else if op = 0 then 2 ^ 31
  else low 32 (Config.dechusEntry (s.rd Od.aeDechusVersion) (b2n eg) op)

/-- Whether a word of the control store fails in every copy (R200). -/
def State.wordBad (s : State) (p : Nat) (eg : Bool) (pc : Nat) : Bool := s.rowBad (p / 16) 0x60 (rowIndex (p % 16 * 2 + b2n eg) pc)

/-- The fields of a microword (R201). -/
def wSeq (w : Nat) : Nat := bits w 191 189
def wCycles (w : Nat) : Nat := bits w 188 187 + 1
def wCommit (w : Nat) : Bool := bitOf w 186
def wFence (w : Nat) : Bool := bitOf w 185
def wTarget (w : Nat) : Nat := bits w 184 171
def wCond (w : Nat) : Nat := bits w 170 167
def wImm (w : Nat) : Nat := bits w 31 0
/-- Operation and operands of ALU0 and ALU1. -/
def wAlu (w u : Nat) : Nat × Nat × Nat := if u = 0 then (bits w 166 161, bits w 160 152, bits w 151 143) else (bits w 142 137, bits w 136 128, bits w 127 119)
def wMoveDst (w : Nat) : Nat := bits w 118 112
def wMoveSrc (w : Nat) : Nat := bits w 111 103
def wHvw (w : Nat) : Nat := bits w 102 87
def wCtxOp (w : Nat) : Nat := bits w 86 84
def wCtxReg (w : Nat) : Nat := bits w 83 79
def wCntOp (w : Nat) : Nat := bits w 78 77
def wCntReg (w : Nat) : Nat := bits w 75 71
def wMetOp (w : Nat) : Nat := bits w 70 69
def wMetReg (w : Nat) : Nat := bits w 68 65
def wEmitOp (w : Nat) : Nat := bits w 64 62
def wEmitReg (w : Nat) : Nat := bits w 61 57
def wRepl (w : Nat) : Nat := bits w 56 53
def wPerf (w : Nat) : Nat := bits w 52 51

/-- HV word `w` (R204). -/
def hvWord (hv w : Nat) : Nat := bits hv (6143 - 32 * w) (6112 - 32 * w)

/-- A G register. -/
def Thread.reg (th : Thread) (r : Nat) : Nat := th.g.getD r 0

/-- Value of an operand code at the start of a word (R204, R210). -/
def Thread.operand (th : Thread) (w code : Nat) : Nat :=
  if code < 0x20 then th.reg code
  else if code = 0x20 then wImm w
  else if code = 0x21 then th.a0
  else if code = 0x22 then th.a1
  else if code = 0x24 then low 32 th.occupancy
  else if code = 0x25 then th.colour
  else if 0x40 ≤ code ∧ code < 0x50 then th.cw.getD (code - 0x40) 0
  else if 0x80 ≤ code ∧ code < 0xC0 then code - 0x80
  else if 0x100 ≤ code ∧ code < 0x1C0 then hvWord th.hv (code - 0x100)
  else 0

/-- Whether a word's condition holds (R206). -/
def Thread.holds (th : Thread) (cond : Nat) : Bool :=
  if cond = 0 then true
  else if cond = 1 then th.z else if cond = 2 then !th.z
  else if cond = 3 then th.n else if cond = 4 then !th.n
  else if cond = 5 then th.c else if cond = 6 then !th.c
  else if cond = 7 then th.z1 else if cond = 8 then !th.z1
  else if cond = 9 then th.c || th.z else if cond = 10 then !th.c && !th.z
  else if cond = 11 then hvPass th.hv = 0
  else if cond = 12 then th.colour = 0 else if cond = 13 then th.colour = 2
  else false

/-- Result of an ALU operation: value, the value that the flags are taken from, and carry (R205). -/
def aluResult (op a b : Nat) : Nat × Nat × Bool :=
  let same := fun (v : Nat) => (low 32 v, low 32 v, false)
  let minus := low 32 (a + 2 ^ 32 - b)
  if op = 0x01 then (low 32 (a + b), low 32 (a + b), decide (2 ^ 32 ≤ a + b))
  else if op = 0x02 then (minus, minus, decide (a < b))
  else if op = 0x03 then same (a &&& b)
  else if op = 0x04 then same (a ||| b)
  else if op = 0x05 then same (a ^^^ b)
  else if op = 0x06 then same (a * 2 ^ (b % 32))
  else if op = 0x07 then same (a / 2 ^ (b % 32))
  else if op = 0x08 then same (ofSigned 32 (toSigned 32 a / ((2 ^ (b % 32) : Nat) : Int)))
  else if op = 0x09 then same (min a b)
  else if op = 0x0A then same (max a b)
  else if op = 0x0B then (a, minus, decide (a < b))
  else if op = 0x0C then same a
  else if op = 0x0D then same (a / 2 ^ (b % 32) % 2 ^ (b / 32 % 32 + 1))
  else if op = 0x0E then
    let t := a % 65536 + b % 65536
    same (if 65536 ≤ t then t - 65535 else t)
  else if op = 0x0F then same (leNat (beBytes 4 a))
  else if op = 0x10 then same (a % 65536 * (b % 65536))
  else if op = 0x11 then same (crcReflected 0x82F63B78 a (beBytes 4 b))
  else same a

/-! The units of a word: 0 ALU0, 1 ALU1, 2 MOVE, 3 HVW, 4 CTX, 5 CNT, 6 MET, 7 EMIT, 8 REPL, 9 PERF. -/

/-- Operation code that a word gives a unit; 0 where it does not drive it. -/
def unitOp (w u : Nat) : Nat :=
  if u = 0 ∨ u = 1 then (wAlu w u).1
  else if u = 2 then (if wMoveDst w = 0x7F then 0 else 1)
  else if u = 3 then b2n (bitOf (wHvw w) 15)
  else if u = 4 then wCtxOp w
  else if u = 5 then wCntOp w
  else if u = 6 then wMetOp w
  else if u = 7 then wEmitOp w
  else if u = 8 then wRepl w
  else wPerf w

/-- Operations of a kind in a log. -/
def logCount (log : List LogOp) (p : LogOp → Bool) : Nat := (log.filter p).length

def LogOp.isCnt : LogOp → Bool
  | .inc _ => true
  | .add _ _ => true
  | _ => false
def LogOp.isEmit : LogOp → Bool
  | .emit _ _ => true
  | _ => false
def LogOp.isRepl : LogOp → Bool
  | .recirc _ => true
  | .mirror _ => true
  | .drop => true
  | .punt _ => true
  | .copyToHost _ => true
  | _ => false
def LogOp.isSample : LogOp → Bool
  | .sample => true
  | _ => false

/-- Rewrite-list entries of a copy's HV (R234, R235), in order. -/
def rewriteEntries (hv : Nat) : List (Nat × Nat) :=
  ((List.range 8).map fun i => bits hv (1119 - 40 * i) (1080 - 40 * i)).filterMap fun e =>
    if bits e 39 37 = 0 then none else some (bits e 39 37, bits e 31 0)

/-- What a word breaks: 1 a unit outside PROFILE_MASK, 2 a limit of R215 or a restriction of R227, 0 nothing. -/
def State.breaks (s : State) (eg : Bool) (k : Packet) (th : Thread) (w : Nat) : Nat :=
  let cust := decide (0x3000 ≤ th.pc)
  let outside := fun (u bit : Nat) => decide (unitOp w u ≠ 0) && !bitOf th.profile bit
  let cnt := low 21 (th.reg (wCntReg w))
  let cntLo := if wCntOp w = 1 then cnt / 2 * 2 else cnt
  let cntHi := if wCntOp w = 1 then cnt / 2 * 2 + 1 else cnt
  let met := low 16 (th.reg (wMetReg w))
  let carried := if eg then (rewriteEntries k.hv).length else 0
  if outside 4 7 || outside 5 6 || outside 6 5 || outside 7 4 || outside 8 3 || outside 9 2 then 1
  else if
      (wCntOp w ≠ 0 && (decide (16 ≤ logCount th.log LogOp.isCnt)
        || cust && (decide (cntLo < s.rd Od.aeCustCounterBase) || decide (s.rd Od.aeCustCounterLimit < cntHi))))
      || (wMetOp w ≠ 0 && (decide (4 ≤ k.meters.length) && !(k.meters.any fun h => h.meter = met)
        || cust && (decide (met < s.rd Od.aeCustMeterBase) || decide (s.rd Od.aeCustMeterLimit < met))))
      || (wCtxOp w ≠ 0 && k.lock.isSome && k.lock ≠ some (low 16 (th.reg (wCtxReg w))))
      || (wEmitOp w ≠ 0 && decide (8 ≤ logCount th.log LogOp.isEmit + carried))
      || (wRepl w ≠ 0 && decide (2 ≤ logCount th.log LogOp.isRepl))
      || (cust && bitOf (wHvw w) 15 && decide (128 ≤ bits (wHvw w) 14 7) && decide (bits (wHvw w) 14 7 ≤ 136))
      || (wSeq w = 3 && th.holds (wCond w) && decide (4 ≤ th.stack.length))
      || (wSeq w = 4 && th.holds (wCond w) && th.stack.isEmpty) then 2
  else 0

/-- Bytes that a MET operation charges (R208). -/
def meterBytes (hv : Nat) : Nat :=
  if bitOf hv 1863 then bits hv 1919 1906 else if hvL3End hv = 0 then 10240 else hvL3End hv + 4

/-- The reason of a PUNT or COPY_TO_HOST of a word at `pc` (R227). -/
def puntReason (pc a1 : Nat) : Nat :=
  let r := a1 % 256
  if 0x3000 ≤ pc ∧ (r < 0x10 ∨ 0x3F < r) then 0x0A else r

/-- A thread on a word of which unit `u` has not run. -/
def Thread.mayRun (th : Thread) (u : Nat) : Bool := th.trap = 0 && !th.ctxWaiting && !th.unitsRun.contains u

/-- Mark a unit of the word as run. -/
def Thread.ran (th : Thread) (u : Nat) : Thread := { th with unitsRun := u :: th.unitsRun }

/-- Stage a log operation. -/
def Thread.logged (th : Thread) (o : LogOp) : Thread := { th with log := th.log ++ [o] }

/-- ALU0 and ALU1 (R205). -/
def Thread.alu (th : Thread) (w u : Nat) : Thread :=
  let f := wAlu w u
  let r := aluResult f.1 (th.operand w f.2.1) (th.operand w f.2.2)
  if f.1 = 0 then th.ran u
  else if u = 0 then { th.ran u with nextA0 := some r }
  else { th.ran u with nextA1 := some (r.1, r.2.1) }

/-- The move unit (R207). -/
def Thread.move (th : Thread) (w : Nat) : Thread :=
  if wMoveDst w = 0x7F then th.ran 2 else { th.ran 2 with nextMove := some (wMoveDst w, th.operand w (wMoveSrc w)) }

/-- The header vector writer (R207). -/
def Thread.hvw (th : Thread) (w : Nat) : Thread :=
  let f := wHvw w
  let src := bits f 2 0
  let v := if src = 0 then th.a0 else if src = 1 then th.a1 else if src = 2 then wImm w else th.operand w (wMoveSrc w)
  let base := 6143 - 32 * bits f 14 7
  let fields := ((List.range 4).filter fun i => bitOf f (6 - i)).map fun i => (base - 8 * i, base - 8 * i - 7, bits v (31 - 8 * i) (24 - 8 * i))
  if bitOf f 15 then { th.ran 3 with nextHv := th.nextHv ++ fields } else th.ran 3

/-- The counter unit (R208). -/
def Thread.cnt (th : Thread) (w : Nat) : Thread :=
  let i := low 21 (th.reg (wCntReg w))
  if wCntOp w = 1 then (th.ran 5).logged (.inc (i / 2 * 2))
  else if wCntOp w = 2 then (th.ran 5).logged (.add i th.a1)
  else th.ran 5

/-- The rewrite emitter (R209). -/
def Thread.emit (th : Thread) (w : Nat) : Thread :=
  if wEmitOp w = 0 then th.ran 7 else (th.ran 7).logged (.emit (wEmitOp w) (th.reg (wEmitReg w)))

/-- The replication requests (R209). -/
def Thread.repl (th : Thread) (w : Nat) : Thread :=
  let r := wRepl w
  let reason := puntReason th.pc th.a1
  if r = 1 then (th.ran 8).logged (.recirc (th.a1 % 16))
  else if r = 2 then (th.ran 8).logged (.mirror (th.a1 % 256))
  else if r = 3 then { (th.ran 8).logged .drop with nextHv := [(591, 588, 6)] ++ th.nextHv }
  else if r = 4 then { (th.ran 8).logged (.punt reason) with nextHv := [(591, 588, 5), (599, 592, reason)] ++ th.nextHv }
  else if r = 5 then (th.ran 8).logged (.copyToHost reason)
  else th.ran 8

/-- The sampling marks (R209, R448). -/
def Thread.perf (th : Thread) (w : Nat) : Thread :=
  if wPerf w = 1 then
    { th.ran 9 with markCount := th.markCount + 1, marks := if th.marks.length < 8 then th.marks ++ [(th.pc, th.occupancy)] else th.marks }
  else if wPerf w = 2 ∧ th.log.any LogOp.isSample = false then (th.ran 9).logged .sample
  else th.ran 9

/-- A meter is charged, or the reserved colour returned (R217). -/
def State.metUnit (s : State) (p : Nat) (eg : Bool) (t : Nat) (th : Thread) (k : Packet) (w : Nat) : State :=
  let m := low 16 (th.reg (wMetReg w))
  let put := fun (st : State) (c : Nat) => st.setThread p eg t { th.ran 6 with metReady := some (c, th.occupancy + 6) }
  match k.meters.find? fun h => h.meter = m with
  | some h => put s h.colour
  | none =>
    let x := s.chargeMeter k.die m (meterBytes k.hv) (if wMetOp w = 2 then min 2 (hvDp th.hv) else 0)
    put (x.1.setItem eg th.item { k with meters := k.meters ++ [x.2] }) x.2.colour

/-- Words of a context window. -/
def ctxWords (v : Nat) : List Nat := (List.range 16).map fun i => bits v (511 - 32 * i) (480 - 32 * i)
def ctxNumber (l : List Nat) : Nat := (List.range 16).foldl (fun a i => a * 2 ^ 32 + low 32 (l.getD i 0)) 0

/-- An uncorrectable error in a context that a packet reads (R219): word `bad` of it fails. -/
def State.ctxParity (s : State) (p : Nat) (eg : Bool) (i : Nat) (k : Packet) (c bad : Nat) : State :=
  let s1 := ((s.aeCount p eg Od.aeCtxParity).fault k.die 0x08 2 c bad).setContext k.die c 0
  if s.rdFor Od.aeCtxParityPunt 0 0 (hvGen k.hv) = 1 then s1.puntItem eg i k 0x0B else s1.dropItem eg i k

/-- The operation of the flow-context unit, its lock held (R208, R218): `ecc` is 0 for a clean read, 1 for a corrected one, 2 for
an uncorrectable one, of word `bad`. -/
def State.ctxOperate (s : State) (p : Nat) (eg : Bool) (t : Nat) (th : Thread) (k : Packet) (w ecc bad : Nat) : State :=
  let c := low 16 (th.reg (wCtxReg w))
  let th1 : Thread := { th.ran 4 with ctxWaiting := false }
  if wCtxOp w = 1 then
    if ecc = 2 then s.ctxParity p eg th.item k c bad
    else
      let s1 := if ecc = 1 then s.fault k.die 0x08 0 c bad else s
      s1.setThread p eg t { th1 with ctxReady := some (ctxWords (s.context k.die c), th.occupancy + 8) }
  else if wCtxOp w = 2 then s.setThread p eg t { th1.logged (.ctx c) with writes := true }
  else s.setThread p eg t { th1.logged (.ctx c) with writes := true, nextInit := true }

/-- The flow-context unit (R208, R218): the first operation of a packet asks for the lock, and the thread waits while another holds
it. -/
def State.ctxUnit (s : State) (p : Nat) (eg : Bool) (t : Nat) (th : Thread) (k : Packet) (w ecc bad : Nat) : State :=
  let c := low 16 (th.reg (wCtxReg w))
  let key := k.die * 65536 + c
  let k1 : Packet := { k with lock := some c }
  if sparseFind? s.ae.holders key = some th.item then s.ctxOperate p eg t th k w ecc bad
  else if (sparseFind? s.ae.holders key).isNone ∧ s.ctxWaiters key = [] then
    let s1 : State := { s with ae := { s.ae with holders := sparsePut s.ae.holders key th.item } }
    (s1.setItem eg th.item k1).ctxOperate p eg t th k1 w ecc bad
  else
    let line := s.ctxWaiters key
    ((s.setCtxWaiters key (if line.contains (th.item * 2) then line else line ++ [th.item * 2])).setItem eg th.item k1).setThread p eg t
      { th with ctxWaiting := true }

/-- Run a unit of the current word of a thread, if it has not run. -/
def State.runUnit (s : State) (p : Nat) (eg : Bool) (t u : Nat) : State :=
  match s.thread? p eg t with
  | none => s
  | some th =>
    match s.item? eg th.item with
    | none => s
    | some k =>
      let w := s.word eg th.bank th.pc
      if th.mayRun u = false then s
      else if u ≤ 1 then s.setThread p eg t (th.alu w u)
      else if u = 2 then s.setThread p eg t (th.move w)
      else if u = 3 then s.setThread p eg t (th.hvw w)
      else if u = 4 then (if wCtxOp w = 0 then s.setThread p eg t (th.ran 4) else s.ctxUnit p eg t th k w 0 0)
      else if u = 5 then s.setThread p eg t (th.cnt w)
      else if u = 6 then (if wMetOp w = 0 then s.setThread p eg t (th.ran 6) else s.metUnit p eg t th k w)
      else if u = 7 then s.setThread p eg t (th.emit w)
      else if u = 8 then s.setThread p eg t (th.repl w)
      else s.setThread p eg t (th.perf w)

/-- The meaning of a unit's operation row: the unit runs when the thread's word gives it that operation. -/
def State.unitRow (s : State) (p : Nat) (eg : Bool) (t u op : Nat) : Answer :=
  withPipe s p <|
    match s.thread? p eg t with
    | some th => if unitOp (s.word eg th.bank th.pc) u = op then s.runUnit p eg t u else s
    | none => s

end Sys2Proof.Machine
end

