-- ==== Sys2Proof/Machine/Threads.lean ====
section
/-! DEFINITION. Dispatch, the sequencer, faults of threads, the exit check and replay (R194 to R224, R410 to R413). -/

namespace Sys2Proof.Machine

/-- A thread at the start of its current word: a FENCE waits for what is outstanding, and the results stand from then (R201, R203);
what the word breaks is judged on the operands at its start (R210, R212). -/
def State.enterWord (s : State) (eg : Bool) (k : Packet) (th : Thread) : Thread :=
  let w := s.word eg th.bank th.pc
  let fresh : Thread := { th with unitsRun := [], nextA0 := none, nextA1 := none, nextMove := none, nextHv := [], nextInit := false }
  let ready := max ((fresh.metReady.map (·.2)).getD 0) ((fresh.ctxReady.map (·.2)).getD 0)
  let wait := ready - fresh.occupancy
  let fenced : Thread :=
    if wFence w then
      { fresh with occupancy := fresh.occupancy + wait, fenceWait := fresh.fenceWait + wait,
                   colour := (fresh.metReady.map (·.1)).getD fresh.colour, cw := (fresh.ctxReady.map (·.1)).getD fresh.cw,
                   metReady := none, ctxReady := none }
    else fresh
  { fenced with trap := s.breaks eg k fenced w }

/-- A thread at dispatch: all of its state is zero (R194). -/
def Thread.atDispatch (item bank pc profile opcode began : Nat) (hv : Nat) : Thread :=
  { item := item, bank := bank, pc := pc, profile := profile, opcode := opcode, start := pc, g := List.replicate 32 0, a0 := 0, a1 := 0,
    z := false, n := false, c := false, z1 := false, colour := 0, stack := [], cw := List.replicate 16 0, hv := hv, log := [],
    committed := false, occupancy := 0, fenceWait := 0, fetchWait := 0, lockWait := 0, unitsRun := [], nextA0 := none, nextA1 := none,
    nextMove := none, nextHv := [], nextInit := false, writes := false, trap := 0, metReady := none, ctxReady := none,
    ctxWaiting := false, reclaim := false, marks := [], markCount := 0, lastWord := pc, began := began }

/-! Faults of a thread. -/

/-- The Keeper retires a thread whose faults have caused two restarts within 1 s (R224): the restart is kept, and THREAD_RETIRE goes on the
agenda on the second. -/
def State.noteRestart (s : State) (p : Nat) (eg : Bool) (t : Nat) : State :=
  let key := engineOf p eg * 64 + t
  let l := s.up :: (sparseGet (fun _ => []) s.ae.faults key).take 1
  let s1 : State := { s with ae := { s.ae with faults := sparsePut s.ae.faults key l } }
  if 2 ≤ (l.filter fun n => decide (s.up < n + 1000000000)).length then s1.later 0 (.threadRetire p eg t false) else s1

/-- A packet restarts, or is punted on what would be its third restart (R221); `faulted` where a fault of the thread is the cause and not
its reclaim. -/
def State.restartItem (s : State) (p : Nat) (eg : Bool) (t : Nat) (th : Thread) (k : Packet) (faulted : Bool) : State :=
  let e := engineOf p eg
  let s1 := (s.endThread p eg t).aeCount p eg Od.aeCycles th.occupancy
  if 2 ≤ k.restarts then
    ((s1.aeCount p eg Od.aeRestartLimitPunts).fault (p / 16) 0x05 2 (p * 256 + t) th.pc th.opcode).puntItem eg th.item k 0x05
  else
    let s2 := if faulted then s1.noteRestart p eg t else s1
    let s3 := (s2.aeCount p eg Od.aeRestarts).fault (p / 16) 0x05 0 (p * 256 + t) th.pc th.opcode
    (s3.setItem eg th.item { k with stage := .ready, restarts := k.restarts + 1, avoid := some t, log := [], ctxNew := none }).setRestartQueue e
      (s3.restartQueue e ++ [th.item])

/-- A routine traps (R223): cause 0 SEQ TRAP, 1 watchdog, 2 PROFILE_MASK, 3 a limit. -/
def State.trapItem (s : State) (p : Nat) (eg : Bool) (t : Nat) (th : Thread) (k : Packet) (cause : Nat) : State :=
  let o := if cause = 0 then Od.aeTraps else if cause = 1 then Od.aeWatchdog else if cause = 2 then Od.aeProfileViolation
    else Od.aeLimitTraps
  let s1 := ((s.endThread p eg t).aeCount p eg Od.aeCycles th.occupancy).aeCount p eg o
  let s2 := if cause = 0 then s1 else s1.fault (p / 16) 0x07 2 p th.pc (th.opcode * 256 + cause)
  s2.puntItem eg th.item k 0x0A

/-- Threads of an engine in service. -/
def State.threadsUp (s : State) (p : Nat) (eg : Bool) : Nat :=
  ((List.range 32).filter fun t => s.threadInService p eg t).length

/-- A Seasoned spare takes the number of a thread that is out of service, with its copy and its place in fetch order (R224). -/
def State.fillThreads (s : State) (p : Nat) (eg : Bool) : State :=
  let d := p / 16
  let g := threadGroup p eg
  let s1 : State :=
    match (List.range 32).find? (fun t => !s.threadInService p eg t), (List.range 36).find? (fun u => s.spareState 4 d g u = 2) with
    | some t, some u => { (s.setSpare 4 d g u 3) with recov := { (s.setSpare 4 d g u 3).recov with
        replaced := sparsePut (s.setSpare 4 d g u 3).recov.replaced (spareKey 4 d g t) u } }
    | _, _ => s
  s1.wr (dirObj eg Od.aeThreadsInService) (s1.threadsUp p eg) (pipeInst p)

/-- A thread is retired, its routine over: DE is recorded and AE_THREAD_RETIRED raised (R224). -/
def State.retireThread (s : State) (p : Nat) (eg : Bool) (t : Nat) : State :=
  let d := p / 16
  let g := threadGroup p eg
  let u := s.threadUnit p eg t
  let spare := (List.range 36).any fun u => s.spareState 4 d g u < 3
  let e : FaultError :=
    { die := d, source := 0x05, cls := 1, location := p * 256 + t, detail0 := 0, detail1 := 0, spareUsed := spare, repairing := false }
  (((s.setSpare 4 d g u 4).retire 4 d g u 0x05).recordFault e).fire d 0x14E |>.fillThreads p eg

/-- A parity error or a failing word reaches a thread (R220): a restart before commit, a mark after it. -/
def State.threadEvent (s : State) (p : Nat) (eg : Bool) (t : Nat) (th : Thread) (k : Packet) : State :=
  if th.committed then s.setItem eg th.item { k with marked := some (t, th.pc, th.opcode) } else s.restartItem p eg t th k true

/-- A fetched word fails in every copy (R200): UCC is recorded, and the thread has an event. -/
def State.wordEvent (s : State) (p : Nat) (eg : Bool) (t : Nat) (th : Thread) (k : Packet) : State :=
  (s.fault (p / 16) 0x06 2 p th.pc).threadEvent p eg t th k

/-- THREAD_FAULT (R220): kind 0 a parity error, 1 a control-store failure, 2 a reclaim, which after commit takes effect after END. -/
def execThreadFault (p : Nat) (egress : Bool) (t kind : Nat) (s : State) : Answer :=
  withPipe s p <|
    match s.thread? p egress t with
    | none => if kind = 2 ∧ s.threadInService p egress t = true then s.retireThread p egress t else s
    | some th =>
      match s.item? egress th.item with
      | none => s
      | some k =>
        if kind = 2 then
          if th.committed then s.setThread p egress t { th with reclaim := true }
          else (s.restartItem p egress t th k false).retireThread p egress t
        else if kind = 1 then s.wordEvent p egress t th k
        else s.threadEvent p egress t th k

/-- THREAD_RETIRE (R224): after two restarts that a thread caused within 1 s, or a failed self-check. -/
def execThreadRetire (p : Nat) (egress : Bool) (t : Nat) (selfCheckFailed : Bool) (s : State) : Answer :=
  let l := sparseGet (fun _ => []) s.ae.faults (engineOf p egress * 64 + t)
  let twice := decide (2 ≤ (l.filter fun n => decide (s.up < n + 1000000000)).length)
  if selfCheckFailed || twice then
    if s.threadInService p egress t then execThreadFault p egress t 2 s else withPipe s p s
  else withPipe s p s

/-! Dispatch (R195, R196, R211 to R213). -/

/-- The bank from which an item's routine is fetched (R211, R228). -/
def State.codeBank (s : State) (eg : Bool) (i g : Nat) : Nat :=
  if eg then ((s.copy? i).map fun c => c.banks.getD 3 0).getD 0 else s.liveFor 0x200 g

/-- The record of a fetch whose word was corrected, 1, or read again from another copy, 2 (R200). -/
def State.fetchFault (s : State) (p : Nat) (eg : Bool) (pc ecc : Nat) : State :=
  if ecc = 0 then s else (if ecc = 1 then s.aeCount p eg Od.aeCsCorrected else s).fault (p / 16) 0x06 0 p pc

/-- The dispatch entry of an item's opcode, in the bank of its tag (R211). -/
def State.itemEntry (s : State) (eg : Bool) (i : Nat) (k : Packet) : Nat := s.entry eg (s.codeBank eg i (hvGen k.hv)) (bits k.hv 607 600)

/-- Whether an item is dispatched again, or replayed, and so not counted again. -/
def State.counted (s : State) (e i : Nat) (k : Packet) : Bool := !(s.restartQueue e).contains i && !hvReplay k.hv

/-- A packet whose entry is not valid is dropped before any thread is taken (R213). -/
def State.noRoutine (s : State) (p : Nat) (eg : Bool) (i : Nat) (k : Packet) : State :=
  let e := engineOf p eg
  let s0 := s.setRestartQueue e ((s.restartQueue e).filter (· ≠ i))
  (if s.counted e i k then s0.aeCount p eg Od.aeNoRoutine else s0).dropItem eg i k

/-- An item is dispatched to thread `t`; `ecc` is what ECC finds in its first word. -/
def State.dispatchItem (s : State) (p : Nat) (eg : Bool) (i t ecc : Nat) (k : Packet) : State :=
  let e := engineOf p eg
  let counts := s.counted e i k
  let bank := s.codeBank eg i (hvGen k.hv)
  let ent := s.itemEntry eg i k
  let s0 := s.setRestartQueue e ((s.restartQueue e).filter (· ≠ i))
  let x := if counts then s0.sampleDispatch p eg else (s0, k.picked)
  let s1 := if counts then x.1.aeCount p eg Od.aePackets else x.1
  let k1 : Packet := { k with stage := .running, picked := x.2 }
  let line := s1.exitOrder e
  let s2 := (s1.setExitOrder e (if line.contains i then line else line ++ [i])).setItem eg i k1
  let th := Thread.atDispatch i bank (bits ent 29 16) (bits ent 15 8) (bits k.hv 607 600) s2.time.now k.hv
  let s3 := s2.setThread p eg t (s2.enterWord eg k1 th)
  let s4 := s3.fetchFault p eg th.pc ecc
  if s4.wordBad p eg th.pc then s4.wordEvent p eg t th k1 else s4

/-- AE_DISPATCH (R195, R196, R200, R211 to R213): a packet or copy with a complete HV whose entry is valid goes to a free thread in service; when
none is free, or the exit buffer is full, the stopped clock is counted. -/
def execAeDispatch (p : Nat) (egress : Bool) (item : Nat) (t : FirstFetch) (s : State) : Answer :=
  withPipe s p <|
    let e := engineOf p egress
    let waiting := ((s.exitOrder e).filter fun i => ((s.item? egress i).map fun (k : Packet) => decide (k.stage = .passed)).getD false).length
    let busy := fun (u : Nat) => (s.thread? p egress u).isSome || !s.threadInService p egress u
    match s.item? egress item with
    | none => s
    | some k =>
      if k.stage ≠ .ready ∨ k.pipe ≠ p then s
      else if bitOf (s.itemEntry egress item k) 31 = false then s.noRoutine p egress item k
      else if 64 ≤ waiting ∨ s.threadsBusy p egress = true then s.aeCount p egress Od.aeStallClocks
      else if busy t.thread ∨ k.avoid = some t.thread ∨ ((s.restartQueue e) ≠ [] ∧ (s.restartQueue e).head? ≠ some item) then s
      else s.dispatchItem p egress item t.thread t.ecc k

/-! The sequencer (R202). -/

/-- Write to a list of words. -/
def setWord (l : List Nat) (i v : Nat) : List Nat := l.set i v

/-- A read of the context that has been made by the end of a word lies below what the word itself does to the window (R203, R208). -/
def Thread.patchRead (th : Thread) (until_ : Nat) (f : List Nat → List Nat) : Thread :=
  { th with cw := f th.cw, ctxReady := th.ctxReady.map fun r => if r.2 ≤ until_ then (f r.1, r.2) else r }

/-- The end of a word: A0, A1, the flags, the MOVE destination and the HV change, and its cycles have passed (R210). -/
def Thread.closeWord (th : Thread) (w : Nat) : Thread :=
  let until_ := th.occupancy + wCycles w
  let t1 := match th.nextA0 with
    | some r => { th with a0 := r.1, z := r.2.1 = 0, n := bitOf r.2.1 31, c := r.2.2 }
    | none => th
  let t2 := match t1.nextA1 with
    | some r => { t1 with a1 := r.1, z1 := r.2 = 0 }
    | none => t1
  let t3 := if t2.nextInit then t2.patchRead until_ fun _ => List.replicate 16 0 else t2
  let t4 := match t3.nextMove with
    | some (d, v) =>
      if d < 0x20 then { t3 with g := setWord t3.g d v } else if d < 0x30 then t3.patchRead until_ fun l => setWord l (d - 0x20) v else t3
    | none => t3
  { t4 with hv := putFields t4.hv t4.nextHv, occupancy := until_, lastWord := t4.pc,
            committed := t4.committed || wCommit w || decide (wSeq w = 6) }

/-- The fields of the sample record that an attempt gives (R449), without CAUSE and OUTCOME. -/
def Thread.sampleRecord (th : Thread) (p : Nat) (eg : Bool) (t : Nat) (k : Packet) : Nat :=
  putFields 0 ([(511, 448, low 64 (time96 th.began)), (447, 445, p / 16), (444, 441, p % 16), (440, 440, b2n eg), (439, 434, t),
    (433, 432, hvPass k.hv), (431, 431, b2n (hvReplay k.hv)), (423, 416, th.opcode), (415, 402, th.start), (401, 388, th.lastWord),
    (387, 378, min 1023 th.occupancy), (377, 368, min 1023 th.fenceWait), (367, 358, min 1023 th.fetchWait),
    (357, 342, min 65535 th.lockWait), (341, 340, k.restarts), (339, 336, min 15 th.markCount)] ++
    th.marks.zipIdx.map fun m => (319 - 40 * m.2, 280 - 40 * m.2, m.1.1 * 2 ^ 26 + min 1023 m.1.2 * 2 ^ 16))

/-- The routine ends: the item goes to its exit check (R202, R214). -/
def State.endRoutine (s : State) (p : Nat) (eg : Bool) (t : Nat) (th : Thread) (k : Packet) : State :=
  let cw := (th.ctxReady.map (·.1)).getD th.cw
  let k1 : Packet :=
    { k with stage := .checking, hv := th.hv, log := th.log, ctxNew := if th.writes then some (ctxNumber cw) else none, avoid := none,
             record := th.sampleRecord p eg t k }
  let s1 := ((s.endThread p eg t).aeCount p eg Od.aeCycles th.occupancy).setItem eg th.item k1
  if th.reclaim then s1.retireThread p eg t else s1

/-- The next word of a thread (R202); none after END or TRAP. -/
def Thread.nextPc (th : Thread) (before : Thread) (w : Nat) : Thread :=
  let seq := wSeq w
  let hold := before.holds (wCond w)
  if seq = 1 then { th with pc := wTarget w }
  else if seq = 2 then { th with pc := if hold then wTarget w else th.pc + 1 }
  else if seq = 3 then
    if hold then { th with pc := wTarget w, stack := (th.pc + 1) :: th.stack } else { th with pc := th.pc + 1 }
  else if seq = 4 then
    if hold then { th with pc := th.stack.headD 0, stack := th.stack.tail } else { th with pc := th.pc + 1 }
  else if seq = 5 then { th with pc := wTarget w + before.a0 % 16 }
  else { th with pc := th.pc + 1 }

/-- The units of a word that have not run yet run, in order. -/
def State.runWord (s : State) (p : Nat) (eg : Bool) (t : Nat) : State :=
  (List.range 10).foldl (fun a u => a.runUnit p eg t u) s

/-- The fetch of the next word (R199, R200): its wait, and what ECC found: 0 nothing, 1 corrected, 2 read again from another copy. -/
def State.fetchNext (s : State) (p : Nat) (eg : Bool) (th : Thread) (wait ecc : Nat) : State × Thread :=
  let cost := wait + (if ecc = 2 then 2 else 0)
  let th1 : Thread := { th with occupancy := th.occupancy + cost, fetchWait := th.fetchWait + cost }
  (s.fetchFault p eg th.pc ecc, th1)

/-- The end of a word of a thread (R202, R214, R220 to R223). -/
def State.stepWord (s : State) (p : Nat) (eg : Bool) (t : Nat) (w wait ecc : Nat) : State :=
  match s.thread? p eg t with
  | none => s
  | some th =>
    match s.item? eg th.item with
    | none => s
    | some k =>
      if th.ctxWaiting then s
      else
        let th1 := th.closeWord w
        if 512 < th1.occupancy - th1.lockWait then s.trapItem p eg t { th1 with pc := th.pc } k 1
        else if wSeq w = 7 then s.trapItem p eg t th1 k 0
        else if wSeq w = 6 then s.endRoutine p eg t th1 k
        else
          let k1 : Packet := if th1.committed then { k with hv := th1.hv, log := th1.log } else k
          let th2 := th1.nextPc th w
          let x := s.fetchNext p eg th2 wait ecc
          let s1 := (x.1.setItem eg th.item k1).setThread p eg t (s.enterWord eg k1 x.2)
          if s1.wordBad p eg th2.pc then
            let s2 := s1.wordEvent p eg t th2 k1
            match s2.item? eg th.item with
            | some k2 => if th2.committed then s2.endRoutine p eg t th2 k2 else s2
            | none => s2
          else s1

/-- The meaning of a sequencing row (R202): the word of thread `t`, if its SEQ is `seq`, runs to its end. `wait` is the time that the
next fetch waits (R199), `ecc` what its ECC found (R200). -/
def State.seqRow (s : State) (p : Nat) (eg : Bool) (t seq wait ecc : Nat) : Answer :=
  withPipe s p <|
    match s.thread? p eg t with
    | none => s
    | some th =>
      let w := s.word eg th.bank th.pc
      match s.item? eg th.item with
      | none => s
      | some k =>
        if wSeq w ≠ seq ∨ th.ctxWaiting = true then s
        else if th.trap ≠ 0 then s.trapItem p eg t th k (th.trap + 1)
        else (s.runWord p eg t).stepWord p eg t w wait ecc

/-- CONT (R202). -/
def execContWord (p : Nat) (egress : Bool) (t wait ecc : Nat) (s : State) : Answer := s.seqRow p egress t 0 wait ecc
/-- JUMP (R202). -/
def execJumpWord (p : Nat) (egress : Bool) (t wait ecc : Nat) (s : State) : Answer := s.seqRow p egress t 1 wait ecc
/-- BRANCH (R202, R206). -/
def execBranchWord (p : Nat) (egress : Bool) (t wait ecc : Nat) (s : State) : Answer := s.seqRow p egress t 2 wait ecc
/-- CALL (R202): a fifth stack entry traps. -/
def execCallWord (p : Nat) (egress : Bool) (t wait ecc : Nat) (s : State) : Answer := s.seqRow p egress t 3 wait ecc
/-- RETURN (R202): a pop of an empty stack traps. -/
def execReturnWord (p : Nat) (egress : Bool) (t wait ecc : Nat) (s : State) : Answer := s.seqRow p egress t 4 wait ecc
/-- DISPATCH (R202): on A0 as it stands at the start of the word. -/
def execDispatchWord (p : Nat) (egress : Bool) (t wait ecc : Nat) (s : State) : Answer := s.seqRow p egress t 5 wait ecc
/-- END (R202, R214). -/
def execEndWord (p : Nat) (egress : Bool) (t : Nat) (s : State) : Answer := s.seqRow p egress t 6 0 0
/-- TRAP (R202, R223). -/
def execTrapWord (p : Nat) (egress : Bool) (t : Nat) (s : State) : Answer := s.seqRow p egress t 7 0 0

/-! Unit rows. -/

/-- ALU_NOP (R205): unit `u`, 0 ALU0 or 1 ALU1, leaves its latch and flags unchanged. -/
def execAluNop (p : Nat) (egress : Bool) (t u : Nat) (s : State) : Answer := s.unitRow p egress t (u % 2) 0x00
/-- ALU_ADD (R205). -/
def execAluAdd (p : Nat) (egress : Bool) (t u : Nat) (s : State) : Answer := s.unitRow p egress t (u % 2) 0x01
/-- ALU_SUB (R205). -/
def execAluSub (p : Nat) (egress : Bool) (t u : Nat) (s : State) : Answer := s.unitRow p egress t (u % 2) 0x02
/-- ALU_AND (R205). -/
def execAluAnd (p : Nat) (egress : Bool) (t u : Nat) (s : State) : Answer := s.unitRow p egress t (u % 2) 0x03
/-- ALU_OR (R205). -/
def execAluOr (p : Nat) (egress : Bool) (t u : Nat) (s : State) : Answer := s.unitRow p egress t (u % 2) 0x04
/-- ALU_XOR (R205). -/
def execAluXor (p : Nat) (egress : Bool) (t u : Nat) (s : State) : Answer := s.unitRow p egress t (u % 2) 0x05
/-- ALU_SHL (R205). -/
def execAluShl (p : Nat) (egress : Bool) (t u : Nat) (s : State) : Answer := s.unitRow p egress t (u % 2) 0x06
/-- ALU_SHR (R205). -/
def execAluShr (p : Nat) (egress : Bool) (t u : Nat) (s : State) : Answer := s.unitRow p egress t (u % 2) 0x07
/-- ALU_SAR (R205). -/
def execAluSar (p : Nat) (egress : Bool) (t u : Nat) (s : State) : Answer := s.unitRow p egress t (u % 2) 0x08
/-- ALU_MIN (R205). -/
def execAluMin (p : Nat) (egress : Bool) (t u : Nat) (s : State) : Answer := s.unitRow p egress t (u % 2) 0x09
/-- ALU_MAX (R205). -/
def execAluMax (p : Nat) (egress : Bool) (t u : Nat) (s : State) : Answer := s.unitRow p egress t (u % 2) 0x0A
/-- ALU_CMP (R205). -/
def execAluCmp (p : Nat) (egress : Bool) (t u : Nat) (s : State) : Answer := s.unitRow p egress t (u % 2) 0x0B
/-- ALU_PASS (R205). -/
def execAluPass (p : Nat) (egress : Bool) (t u : Nat) (s : State) : Answer := s.unitRow p egress t (u % 2) 0x0C
/-- ALU_EXTRACT (R205). -/
def execAluExtract (p : Nat) (egress : Bool) (t u : Nat) (s : State) : Answer := s.unitRow p egress t (u % 2) 0x0D
/-- ALU_ADDOC (R205). -/
def execAluAddoc (p : Nat) (egress : Bool) (t u : Nat) (s : State) : Answer := s.unitRow p egress t (u % 2) 0x0E
/-- ALU_BSWAP (R205). -/
def execAluBswap (p : Nat) (egress : Bool) (t u : Nat) (s : State) : Answer := s.unitRow p egress t (u % 2) 0x0F
/-- ALU_MUL16 (R205). -/
def execAluMul16 (p : Nat) (egress : Bool) (t u : Nat) (s : State) : Answer := s.unitRow p egress t (u % 2) 0x10
/-- ALU_CRC32C (R205). -/
def execAluCrc32c (p : Nat) (egress : Bool) (t u : Nat) (s : State) : Answer := s.unitRow p egress t (u % 2) 0x11
/-- MOVE (R207). -/
def execMoveWord (p : Nat) (egress : Bool) (t : Nat) (s : State) : Answer := s.unitRow p egress t 2 1
/-- HVW (R207). -/
def execHvw (p : Nat) (egress : Bool) (t : Nat) (s : State) : Answer := s.unitRow p egress t 3 1

/-- CTX_READ (R208, R218, R219): `ecc` 0 clean, 1 corrected, 2 uncorrectable in word `bad` of the context. -/
def execCtxRead (p : Nat) (egress : Bool) (t ecc bad : Nat) (s : State) : Answer :=
  withPipe s p <|
    match s.thread? p egress t with
    | none => s
    | some th =>
      match s.item? egress th.item with
      | none => s
      | some k =>
        let w := s.word egress th.bank th.pc
        if wCtxOp w = 1 ∧ th.mayRun 4 = true then s.ctxUnit p egress t th k w ecc bad else s

/-- CTX_LOCK_GRANT (R218): the packet that has waited longest for a free context is granted its lock after `waited` cycles. -/
def execCtxLockGrant (d context waited ecc bad : Nat) (s : State) : Answer :=
  withDie s d <|
    let key := d * 65536 + context
    if (sparseFind? s.ae.holders key).isSome then s
    else
      match s.ctxWaiters key with
      | [] => s
      | x :: rest =>
        if x % 2 = 1 then s.serveHosts key (rest.length + 1)
        else
          let i := x / 2
          let s1 : State := { s.setCtxWaiters key rest with ae := { (s.setCtxWaiters key rest).ae with holders := sparsePut s.ae.holders key i } }
          match s1.ae.threads.find? fun (e : Nat × Thread) => e.2.item = i && e.2.ctxWaiting && e.1 / 64 % 2 = 0 with
          | none => s1
          | some (tk, th) =>
            let p := tk / 128
            let t := tk % 64
            match s1.packet? i with
            | none => s1
            | some k =>
              let th1 : Thread := { th with occupancy := th.occupancy + waited, lockWait := th.lockWait + waited }
              (s1.aeCount p false Od.aeLockWaitCycles waited).ctxOperate p false t th1 k (s1.word false th.bank th.pc) ecc bad

/-- CTX_WRITE (R208). -/
def execCtxWrite (p : Nat) (egress : Bool) (t : Nat) (s : State) : Answer := s.unitRow p egress t 4 2
/-- CTX_INIT (R208). -/
def execCtxInit (p : Nat) (egress : Bool) (t : Nat) (s : State) : Answer := s.unitRow p egress t 4 3
/-- CNT_INC (R208). -/
def execCntInc (p : Nat) (egress : Bool) (t : Nat) (s : State) : Answer := s.unitRow p egress t 5 1
/-- CNT_ADD (R208). -/
def execCntAdd (p : Nat) (egress : Bool) (t : Nat) (s : State) : Answer := s.unitRow p egress t 5 2
/-- MET_BLIND (R208, R217). -/
def execMetBlind (p : Nat) (egress : Bool) (t : Nat) (s : State) : Answer := s.unitRow p egress t 6 1
/-- MET_AWARE (R208, R217, R299). -/
def execMetAware (p : Nat) (egress : Bool) (t : Nat) (s : State) : Answer := s.unitRow p egress t 6 2
/-- EMIT_ENCAP (R209). -/
def execEmitEncap (p : Nat) (egress : Bool) (t : Nat) (s : State) : Answer := s.unitRow p egress t 7 1
/-- EMIT_DECAP (R209). -/
def execEmitDecap (p : Nat) (egress : Bool) (t : Nat) (s : State) : Answer := s.unitRow p egress t 7 2
/-- EMIT_SET_NEXTHOP (R209). -/
def execEmitSetNexthop (p : Nat) (egress : Bool) (t : Nat) (s : State) : Answer := s.unitRow p egress t 7 3
/-- EMIT_TTL_DEC (R209). -/
def execEmitTtlDec (p : Nat) (egress : Bool) (t : Nat) (s : State) : Answer := s.unitRow p egress t 7 4
/-- REPL_RECIRC (R209, R249). -/
def execReplRecirc (p : Nat) (egress : Bool) (t : Nat) (s : State) : Answer := s.unitRow p egress t 8 1
/-- REPL_MIRROR (R209, R252). -/
def execReplMirror (p : Nat) (egress : Bool) (t : Nat) (s : State) : Answer := s.unitRow p egress t 8 2
/-- REPL_DROP (R209). -/
def execReplDrop (p : Nat) (egress : Bool) (t : Nat) (s : State) : Answer := s.unitRow p egress t 8 3
/-- REPL_PUNT (R209, R227). -/
def execReplPunt (p : Nat) (egress : Bool) (t : Nat) (s : State) : Answer := s.unitRow p egress t 8 4
/-- COPY_TO_HOST (R209, R227). -/
def execCopyToHost (p : Nat) (egress : Bool) (t : Nat) (s : State) : Answer := s.unitRow p egress t 8 5
/-- PERF_MARK (R209, R448). -/
def execPerfMark (p : Nat) (egress : Bool) (t : Nat) (s : State) : Answer := s.unitRow p egress t 9 1
/-- PERF_SAMPLE (R209, R215). -/
def execPerfSample (p : Nat) (egress : Bool) (t : Nat) (s : State) : Answer := s.unitRow p egress t 9 2

/-! The exit check (R410 to R413, R216). -/

/-- Fate of a packet by its log (R249): the last of RECIRC, DROP and PUNT; 0 FORWARD, 1 DROP, 2 PUNT, 3 RECIRC with its profile. -/
def fateOf (log : List LogOp) : Nat × Nat :=
  log.foldl (fun a o =>
    match o with
    | .drop => (1, 0)
    | .punt r => (2, r)
    | .recirc q => (3, q)
    | _ => a) (0, 0)

/-- An operation of a released log that acts at once (R208, R216). -/
def State.releaseOp (s : State) (eg : Bool) (i : Nat) (k : Packet) (o : LogOp) : State :=
  match o with
  | .inc c =>
    let s1 := s.addCounter k.die c 1
    let origin := if eg then ((s.copy? i).map (·.origin)).getD 0 else i
    if k.ended then s1.addCounter k.die (c + 1) k.frame.length
    else { s1 with ae := { s1.ae with late := s1.ae.late ++ [(origin, k.die * 2097152 + c + 1)] } }
  | .add c v => s.addCounter k.die c v
  | _ => s

/-- The sample record of a released attempt (R447 to R449). -/
def State.releaseSample (s : State) (p : Nat) (eg : Bool) (k : Packet) : State :=
  let mode := s.rd (dirObj eg Od.sampleMode) (pipeInst p)
  let routine := k.log.any LogOp.isSample && (mode = 1 || mode = 3)
  if k.picked || routine then
    s.addSample (p / 16) (putFields k.record [(430, 429, if k.picked && routine then 2 else b2n routine), (428, 426, (fateOf k.log).1)])
  else s

/-- The log of an item is released (R216): counters are added, meter charges confirmed, the context written and unlocked, the sample
taken; rewrite and replication go on with the item. -/
def State.releaseLog (s : State) (p : Nat) (eg : Bool) (i : Nat) (k : Packet) : State :=
  let s1 := k.log.foldl (fun t o => t.releaseOp eg i k o) s
  let s2 := match k.lock, k.ctxNew with
    | some c, some v => s1.setContext k.die c v
    | _, _ => s1
  ((s2.unlockCtx i k).releaseSample p eg k).setItem eg i { k with stage := .passed, meters := [], lock := none, ctxNew := none }

/-- The packet as its next attempt begins it (R411): REPLAY is set, the log is gone, reservations and lock stay. -/
def Packet.again (k : Packet) (pipe : Nat) (spare : Bool) : Packet :=
  { k with stage := if spare then .spare else .received, pipe := pipe, hv := putBits k.hv0 1864 1864 1, log := [], ctxNew := none,
           marked := none, place := .none, searched := false, avoid := none }

/-- Items of an engine or pipeline that have not left it. -/
def State.itemsIn (s : State) (p : Nat) (eg : Bool) : List Nat :=
  let inside := fun (k : Packet) => k.pipe = p && (k.stage = .received || k.stage = .parsed || k.stage = .searching || k.stage = .ready
    || k.stage = .running || k.stage = .checking || k.stage = .passed)
  if eg then (s.tm.copies.filter fun (e : Nat × Copy) => e.2.stage = .egress && inside e.2.k).map (·.1)
  else (s.packets.filter fun (e : Nat × Packet) => inside e.2).map (·.1)

/-- An item is taken out of the queues of the lookups (R149, R187); the clocks that it stopped its pipeline for are counted (R188). -/
def State.leaveLookups (s : State) (i : Nat) (k : Packet) : State :=
  let s0 := s.freeFollowers i k
  let s1 := s0.setAsaQueue k.octet ((s0.asaQueue k.octet).filter fun (w : AsaWait) => w.packet ≠ i)
  let s2 := s1.setPlaceQueue k.octet ((s1.placeQueue k.octet).filter (· ≠ i))
  let s3 : State :=
    if (sparseFind? s2.asa.stalled k.octet).any (fun w => w.packet = i) then { s2 with asa := { s2.asa with stalled := sparseErase s2.asa.stalled k.octet } } else s2
  if (sparseFind? s3.placing.stalled k.octet).map (·.1) = some i then
    ({ s3 with placing := { s3.placing with stalled := sparseErase s3.placing.stalled k.octet } }).bump Od.placeStallClocks k.inst 0
      (s3.placeStall k.octet)
  else s3

/-- An item begins again on a pipeline, keeping its place in the exit order (R411); `spare` while the spare is still checked. -/
def State.replayItem (s : State) (p : Nat) (eg : Bool) (i : Nat) (k : Packet) (target : Nat) (spare : Bool) : State :=
  let s1 := if eg then s.endThreadsOf p eg i else (s.endThreadsOf p eg i).leaveLookups i k
  let e0 := engineOf p eg
  let e1 := engineOf target eg
  let s2 :=
    if e0 = e1 then s1.setRestartQueue e0 ((s1.restartQueue e0).filter (· ≠ i))
    else
      let placed := (s1.exitOrder e0).contains i
      let s' := s1.outOfEngine e0 i
      if placed then s'.setExitOrder e1 (s'.exitOrder e1 ++ [i]) else s'
  ((if eg then s2 else s2.giveTo k.die k.head 1 target 0).setItem eg i (k.again target spare)).aeCount target eg Od.pipelineReplays

/-- Every item inside a failed pipeline is replayed on its target, waits for the spare's check, or is dropped (R411, R413). -/
def State.moveItems (s : State) (p : Nat) (eg : Bool) (target : Option Nat) (spare : Bool) : State :=
  let order := s.exitOrder (engineOf p eg)
  let rest := (s.itemsIn p eg).filter fun i => !order.contains i
  (order ++ rest).foldl (fun t i =>
    match t.item? eg i with
    | none => t
    | some k =>
      match target with
      | some q => t.replayItem p eg i k q spare
      | none => t.dropItem eg i k) s

/-- An item whose third check has failed is dropped (R413). -/
def State.replayDrop (s : State) (p : Nat) (eg : Bool) (i : Nat) (k : Packet) (items : Nat) : State :=
  ((s.aeCount p eg Od.replayDrops).fault (p / 16) 0x04 2 p items k.tag).dropItem eg i k

/-- A failed exit check (R411, R413). -/
def State.failCheck (s : State) (p : Nat) (eg : Bool) (i : Nat) (k : Packet) (items : Nat) : State :=
  let d := p / 16
  if items = 16 then
    let m := k.marked.getD (0, 0, 0)
    let s1 := s.fault d 0x05 0 (p * 256 + m.1) m.2.1 m.2.2
    if 2 ≤ k.replays then s1.replayDrop p eg i k items else s1.replayItem p eg i { k with replays := k.replays + 1 } p false
  else
    let st := s.spareState (if eg then 3 else 2) d 0 0
    let o := s.octetOf d eg (p % 16)
    let s1 := if o.isSome then s.failOver d eg (p % 16) items k.tag else s.fault d 0x04 1 p items k.tag
    let s2 := if 2 ≤ k.replays then s1.replayDrop p eg i k items else s1.setItem eg i { k with replays := k.replays + 1 }
    let target := o.bind fun x => if st < 3 then some (d * 16 + (if st = 2 then s1.pipeOf d eg x else s1.sparePipe d eg)) else none
    s2.moveItems p eg target (decide (st < 2))

/-- EXIT_CHECK (R216, R410, R411): `failed` has a bit for each of the items (a) to (f) that fails; item (e) is the packet's own mark. -/
def execExitCheck (egress : Bool) (item failed : Nat) (s : State) : Answer :=
  match s.item? egress item with
  | none => .next s
  | some k =>
    let items := failed % 64 - (if bitOf (failed % 64) 4 then 16 else 0) + (if k.marked.isSome then 16 else 0)
    running s <|
      if k.stage ≠ .checking then s
      else if items = 0 then s.releaseLog k.pipe egress item k
      else s.failCheck k.pipe egress item k items

/-- AE_EXIT (R196): the earliest-dispatched item leaves the engine once it has passed its check. -/
def execAeExit (p : Nat) (egress : Bool) (s : State) : Answer :=
  withPipe s p <|
    let e := engineOf p egress
    match s.exitOrder e with
    | [] => s
    | i :: rest =>
      match s.item? egress i with
      | none => s.setExitOrder e rest
      | some k => if k.stage = .passed then (s.setExitOrder e rest).setItem egress i { k with stage := .left } else s

/-- SPARE_TAKEOVER_CHECK_DONE (R411): on a pass the move takes effect and the packets that wait are replayed on the spare; on a failure
the spare is Retired and they are dropped. -/
def execSpareTakeoverCheckDone (d : Nat) (egress pass : Bool) (s : State) : Answer :=
  withDie s d <|
    if (s.recov.checks.find? fun c => c.1 = d * 2 + b2n egress).isNone then s
    else
      let p := d * 16 + s.sparePipe d egress
      let waits := fun (k : Packet) => k.pipe = p && k.stage = .spare
      let l := if egress then (s.tm.copies.filter fun (e : Nat × Copy) => waits e.2.k).map (·.1)
        else (s.packets.filter fun (e : Nat × Packet) => waits e.2).map (·.1)
      let s1 := s.takeoverDone d egress pass
      l.foldl (fun t i =>
        match t.item? egress i with
        | none => t
        | some k => if pass then t.setItem egress i { k with stage := .received } else t.dropItem egress i k) s1

/-- SPARE_TEST_DONE (R414, R224): the outcome of a spare's test; a thread that passes comes into service where one is wanting. -/
def execSpareTestDone (cls d group unit : Nat) (pass : Bool) (s : State) : Answer :=
  withDie s d <|
    let s1 := s.spareTested cls d group unit pass
    if cls = 4 ∧ pass = true then s1.fillThreads (d * 16 + group % 16) (decide (16 ≤ group)) else s1

/-- FLOW_CONTEXT_APPLY (R219): host writes of a context that are due take the lock after any holder, write the record and post their
completions. -/
def execFlowContextApply (d context : Nat) (s : State) : Answer :=
  withDie s d <|
    let key := d * 65536 + context
    let due := s.rings.timed.filter fun (w : TimedWrite) => w.table = 0x50 && w.index = key && decide (w.epoch ≤ s.time.epoch)
    let line := s.ctxWaiters key
    let new := (due.map fun w => w.token * 2 + 1).filter fun x => !line.contains x
    let s1 := s.setCtxWaiters key (line ++ new)
    if (sparseFind? s1.ae.holders key).isSome then s1 else s1.serveHosts key (line.length + new.length)

/-- METER_APPLY (R299): meter writes that are due take effect with full buckets, and their completions are posted. -/
def execMeterApply (s : State) : Answer :=
  running s <|
    let due := s.rings.timed.filter fun (w : TimedWrite) => w.table = 0x64 && decide (w.epoch ≤ s.time.epoch)
    due.foldl (fun (t : State) (w : TimedWrite) =>
      let t1 := t.applyMeter w.index (leNat w.record)
      ({ t1 with rings := { t1.rings with timed := t1.rings.timed.filter fun (x : TimedWrite) => x.token ≠ w.token } }).completeToken
        w.fn w.wq w.token .ok w.seq) s

end Sys2Proof.Machine
end

