-- ==== Sys2Proof/Machine/Rewriting.lean ====
section
/-! DEFINITION. The rewrite unit as a function of a frame (R238 to R242). -/

namespace Sys2Proof.Machine

/-- What the unit builds an output from: the frame less FCS and its HV, the rewrite list, the next-hop record if NEXTHOP is not 0, the
router MAC, the VID of the tag to be inserted (0 none), the ENCAP records in use, and whether the frame is to loop, when steps 2 and 4 use
no next hop (R249). -/
structure RewriteJob where
  body : List Byte
  hv : Nat
  entries : List (Nat × Nat)
  hop : Option Nat
  router : Nat
  vid : Nat
  encap : Nat → Option Nat
  loops : Bool := false

/-- What comes of it: refused under R240, stopped by its TTL (R241), or an output less FCS with the bytes trimmed (R242). -/
inductive RewriteEnd where
  | bad
  | ttl
  | made (body : List Byte) (cut : Nat)

/-- Type, offset and tunnel level of an instance entry (R96). -/
def instType (e : Nat) : Nat := bits e 31 24
def instOff (e : Nat) : Nat := bits e 23 14

/-- The instances of an HV, outermost first. -/
def hvInstances (hv : Nat) : List Nat := (List.range (hvCount hv)).map (hvInstance hv)

/-- EtherType of a header that gets a new Ethernet header (R240). -/
def etherTypeOf (type : Nat) : Option Nat :=
  if type = 0x04 then some 0x0800 else if type = 0x05 then some 0x86DD else if type = 0x03 then some 0x8847 else none

/-- The next hop of steps 2 and 4. -/
def RewriteJob.outerHop (j : RewriteJob) : Option Nat := if j.loops then none else j.hop

/-- A new Ethernet header, with the addresses of the next hop. -/
def RewriteJob.newHeader (j : RewriteJob) (etype : Nat) : List Byte :=
  beBytes 6 (bits (j.hop.getD 0) 99 52) ++ beBytes 6 j.router ++ beBytes 2 etype

/-- Whether a TPID begins a VLAN tag. -/
def isTpid (v : Nat) : Bool := v = 0x8100 || v = 0x88A8

/-- Octets of the outer Ethernet header with its tags, up to its last EtherType. -/
def l2Length (out : List Byte) : Nat → Nat
  | 0 => 14
  | fuel + 1 => if isTpid (beNat (slice out 12 2)) then 4 + l2Length (out.take 12 ++ out.drop 16) fuel else 14

/-- Remove the tags directly after the outer Ethernet addresses. -/
def stripTags (out : List Byte) : Nat → List Byte
  | 0 => out
  | fuel + 1 => if isTpid (beNat (slice out 12 2)) then stripTags (out.take 12 ++ out.drop 16) fuel else out

/-- Step 2 of R240 on the outer Ethernet header. -/
def RewriteJob.layer2 (j : RewriteJob) (out : List Byte) : List Byte :=
  let bare := stripTags out out.length
  let addressed := match j.outerHop with
    | some r => beBytes 6 (bits r 99 52) ++ beBytes 6 j.router ++ bare.drop 12
    | none => bare
  if j.vid = 0 then addressed
  else addressed.take 12 ++ beBytes 2 0x8100 ++ beBytes 2 (hvTc j.hv * 8192 + j.vid) ++ addressed.drop 12

/-- Ones' complement sum of 16-bit words. -/
def onesSum (l : List Nat) : Nat :=
  let t := l.foldl (· + ·) 0
  let f := t % 65536 + t / 65536
  f % 65536 + f / 65536

/-- An IPv4 checksum after one 16-bit word has changed (RFC 1624). -/
def checksumStep (sum old new : Nat) : Nat := 65535 - onesSum [65535 - sum, 65535 - old, new]

/-- Write one octet of an IPv4 header at `off`, its checksum updated incrementally. -/
def setIpv4Octet (body : List Byte) (off i v : Nat) : List Byte :=
  let w := off + i / 2 * 2
  let old := beNat (slice body w 2)
  let b1 := overlay body (off + i) [BitVec.ofNat 8 v]
  overlay b1 (off + 10) (beBytes 2 (checksumStep (beNat (slice body (off + 10) 2)) old (beNat (slice b1 w 2))))

/-- Step 3 (R241): `none` stops the copy. -/
def decrementTtl (body : List Byte) (hv start : Nat) : Option (List Byte) :=
  match (hvInstances hv).find? fun e => decide (start ≤ instOff e) && (instType e = 0x04 || instType e = 0x05 || instType e = 0x03) with
  | none => some body
  | some e =>
    let i := if instType e = 0x04 then 8 else if instType e = 0x05 then 7 else 3
    let ttl := (byteAt body (instOff e + i)).toNat
    if ttl ≤ 1 then none
    else if instType e = 0x04 then some (setIpv4Octet body (instOff e) 8 (ttl - 1))
    else some (overlay body (instOff e + i) [BitVec.ofNat 8 (ttl - 1)])

/-- Fields of an ENCAP record (R238). -/
def encapLen (r : Nat) : Nat := bits r 1014 1008
def encapFront (r : Nat) : Bool := bitOf r 1022
def encapEtype (r : Nat) : Nat := bits r 1007 992
def encapTemplate (r : Nat) : List Byte := (beBytes 96 (bits r 767 0)).take (encapLen r)

/-- One record applied (R240 step 4): the output, and the octets from its template's first to the end. -/
def RewriteJob.applyEncap (j : RewriteJob) (out : List Byte) (r : Nat) : List Byte × Nat :=
  if encapFront r then
    (j.newHeader (encapEtype r) ++ encapTemplate r ++ out, encapLen r + out.length)
  else
    let n := l2Length out out.length
    (out.take (n - 2) ++ beBytes 2 (encapEtype r) ++ encapTemplate r ++ out.drop n, encapLen r + (out.length - n))

/-- Checksum of the 20-byte IPv4 header at `at_`, its checksum field counted as 0. -/
def ipv4Checksum (out : List Byte) (at_ : Nat) : Nat :=
  65535 - onesSum ((List.range 10).map fun i => if i = 5 then 0 else beNat (slice out (at_ + 2 * i) 2))

/-- One fixup on the template that begins at `t` (R239); `ttl` is that of the first IP header after the template. -/
def applyFixup (hash ttl : Nat) (out : List Byte) (t f : Nat) : List Byte :=
  let op := bits f 31 28
  let off := t + bits f 27 21
  let base := t + bits f 20 14
  if op = 1 then overlay out off (beBytes 2 (out.length - base))
  else if op = 2 then overlay out off (beBytes 2 (ipv4Checksum out base))
  else if op = 3 then overlay out off (beBytes 2 (0xC000 ||| bits hash 13 0))
  else if op = 4 then overlay out off [BitVec.ofNat 8 ttl]
  else if op = 5 then
    overlay out off (beBytes 3 ((beNat (slice out off 3)) / 2 ^ 20 * 2 ^ 20 + bits hash 19 0))
  else out

/-- The fixups of a record in their order, every IPV4_CSUM last. -/
def fixupsOf (r : Nat) : List Nat :=
  let l := (List.range 4).map fun i => bits r (991 - 32 * i) (960 - 32 * i)
  (l.filter fun f => bits f 31 28 ≠ 2) ++ l.filter fun f => bits f 31 28 = 2

/-- Steps 1 to 5 of R240. -/
def RewriteJob.run (j : RewriteJob) : RewriteEnd :=
  let insts := hvInstances j.hv
  let decaps := (j.entries.filter fun e => e.1 = 2).map (·.2)
  let decap := decaps.getLast?
  if decaps.any fun k => decide (insts.length ≤ k) then .bad
  else
    let first := insts.getD (decap.getD 0) (0x01 * 2 ^ 24)
    let start := match decap with
      | some _ => instOff first
      | none => 0
    let plain := instType first = 0x01
    let recs := (if bits (j.outerHop.getD 0) 37 18 = 0 then [] else [bits (j.outerHop.getD 0) 37 18])
      ++ (j.entries.filter fun e => e.1 = 1).map (·.2)
    let found := recs.map j.encap
    let built := found.filterMap id
    let needs := built.any encapFront = true
    if (plain = false ∧ (etherTypeOf (instType first) = none ∨ j.hop = none)) then .bad
    else
      let wants := bitOf (j.hop.getD 0) 17 || j.entries.any fun e => e.1 = 4
      match (if wants then decrementTtl j.body j.hv start else some j.body) with
      | none => .ttl
      | some lived =>
        if found.any Option.isNone ∨ 3 < recs.length ∨ 160 < (built.map encapLen).foldl (· + ·) 0 ∨ (needs ∧ j.outerHop = none) then .bad
        else
          let l3 := hvL3End j.hv
          let kept := if l3 = 0 ∨ lived.length ≤ l3 then lived else lived.take l3
          let base := (if plain then [] else j.newHeader ((etherTypeOf (instType first)).getD 0)) ++ kept.drop start
          let front := built.any encapFront
          let x := built.foldl (fun (a : List Byte × List (Nat × Nat)) r =>
            let y := j.applyEncap a.1 r
            (y.1, a.2 ++ [(r, y.2)])) (if front then base else j.layer2 base, [])
          let out := if front then j.layer2 x.1 else x.1
          let ip := insts.find? fun e => decide (start ≤ instOff e) && (instType e = 0x04 || instType e = 0x05)
          let ttl := (ip.map fun e => (byteAt kept (instOff e + if instType e = 0x04 then 8 else 7)).toNat).getD 255
          let done := x.2.foldl (fun o (r : Nat × Nat) =>
            (fixupsOf r.1).foldl (fun o f => applyFixup (bits j.hv 699 668) ttl o (o.length - r.2) f) o) out
          .made done (lived.length - kept.length)

/-- A frame from an output less FCS: the MAC pads it to 64 bytes and appends the FCS (R242), or the FCS's complement. -/
def frameOf (body : List Byte) (good : Bool) : List Byte :=
  let padded := body ++ List.replicate (60 - body.length) 0
  let fcs := crc32Eth padded
  padded ++ leBytes 4 (if good then fcs else 0xFFFFFFFF - fcs)

end Sys2Proof.Machine
end

