-- ==== Sys2Proof/Machine/Resolve.lean ====
section
/-! DEFINITION. What the traffic manager makes of a destination (R161, R169, R186, R232 to R234, R243 to R245). -/

namespace Sys2Proof.Machine

/-! The flow hash (R169). -/

/-- The instance that a hash field reads: the first at level 0, or the innermost. -/
def hashInstance (hv : Nat) (types : List Nat) (inner : Bool) : Option Nat :=
  if inner then (hvInstances hv).reverse.find? fun e => types.contains (instType e) else firstOf hv types 0

/-- `n` octets of an instance's header, zero octets where it is absent. -/
def hashOctets (hv : Nat) (e : Option Nat) (off n : Nat) : List Byte :=
  match e with
  | some x => beBytes n (hvOctets hv (instOff x + off) n)
  | none => List.replicate n 0

/-- The fields of a flow hash, in the order of their bits. -/
def hashFields (fields hv : Nat) : List Byte :=
  let inner := bitOf fields 8
  let eth := hashInstance hv [0x01] inner
  let ip := hashInstance hv [0x04, 0x05] inner
  let l4 := hashInstance hv [0x08, 0x09] inner
  let v6 := ip.any fun e => instType e = 0x05
  let part := fun (i : Nat) (l : List Byte) => if bitOf fields i then l else []
  part 0 (beBytes 2 (hvPort hv)) ++ part 1 (hashOctets hv eth 0 12) ++ part 2 (hashOctets hv eth 12 2)
    ++ part 3 (if v6 then hashOctets hv ip 8 16 else hashOctets hv ip 12 4)
    ++ part 4 (if v6 then hashOctets hv ip 24 16 else hashOctets hv ip 16 4)
    ++ part 5 (hashOctets hv ip (if v6 then 6 else 9) 1) ++ part 6 (hashOctets hv l4 0 4)
    ++ part 7 (if v6 then beBytes 3 (beNat (hashOctets hv ip 1 3) % 2 ^ 20) else List.replicate 3 0)

/-- Flow hash of a packet. -/
def State.flowHash (s : State) (hv : Nat) : Nat :=
  crc32c (beBytes 4 (s.rd Od.ecmpSeed) ++ hashFields (s.rd Od.ecmpHashFields 0 (hvProfile hv)) hv)

/-! Destinations (R233). -/

/-- What a destination comes to: a target, or a fate: 0 to the target, 1 dropped, 2 the punt path with USER_TRAP. -/
structure Found where
  st : State
  target : Option Target
  fate : Nat

/-- Dropped, with a count already made. -/
def Found.none_ (s : State) : Found := { st := s, target := none, fate := 1 }

/-- Whether a lane-start port is one of the part's. -/
def State.portExists (s : State) (n : Nat) : Bool := decide (n < 512) && s.hasDie (n / 64)

/-- The LAG member of a flow hash (R161): the port, or none with the port of the member first named. -/
def State.lagPick (s : State) (g rec hash : Nat) : Option Nat × Nat :=
  let count := bits rec 87 81
  let ent := fun (i : Nat) => s.tbl (s.liveFor 0x4E g) 0x4E (bits rec 101 88 + (hash % count + i) % count)
  let live := (List.range count).map ent |>.filter fun e => bitOf e 15 && s.portStateOf (bits e 8 0) = 2
  (live.head?.map fun e => bits e 8 0, bits (ent 0) 8 0)

/-- A logical port as a target (R233). -/
def State.toLport (s : State) (d g hash l nh replica : Nat) : Found :=
  let r := s.tbl (s.liveFor 0x40 g) 0x40 l
  let type := bits r 127 126
  let bad := Found.none_ (s.bump Od.tmBadDest (dieInst d))
  let give := fun (n : Nat) =>
    if s.portExists n then { st := s, target := some { port := n, nh := nh, lport := l, replica := replica }, fate := 0 } else bad
  if 4096 ≤ l ∨ type = 0 then bad
  else if type = 1 then give l
  else if type = 3 then give (bits r 122 114)
  else
    match s.lagPick g r hash with
    | (some n, _) => give n
    | (none, n) => Found.none_ (s.bump Od.portDownDiscards (portInst n))

/-- The member next hop of an ECMP group (R169); none: ECMP_BAD_MEMBER. -/
def State.ecmpMember (s : State) (g hash grp : Nat) : Option Nat :=
  let bank := (s.fam 0x4B).live
  let r := s.tbl bank 0x4B grp
  let base := bits r 63 45
  let count := bits r 44 35
  let bl := bits r 13 10
  let b := bits r 34 14 + hash / 2 ^ (32 - bl)
  if count = 0 ∨ s.bankEntries 0x4C bank < base + count ∨ s.bankEntries 0x4D bank < bits r 34 14 + 2 ^ bl then none
  else
    let m := bits (s.tbl bank 0x4D b) 15 7
    let nh := bits (s.tbl bank 0x4C (base + m)) 63 46
    if count ≤ m ∨ bits (s.nextHop (s.liveFor 0x4A g) nh) 127 126 ≠ 0 then none else some nh

/-- A packet uses its bucket of a group: the Keeper moves none that was used in the interval (R169). -/
def State.useBucket (s : State) (grp hash : Nat) : State :=
  let j := hash / 2 ^ (32 - bits (s.tbl (s.fam 0x4B).live 0x4B grp) 13 10)
  let k := grp * 4096 + j
  if s.learning.buckets.contains k then s else { s with learning := { s.learning with buckets := k :: s.learning.buckets } }

/-- An ECMP group as a target. -/
def State.toEcmp (s : State) (d g hash grp replica : Nat) : Found :=
  match s.ecmpMember g hash grp with
  | none => Found.none_ (s.bump Od.ecmpBadMember)
  | some nh => (s.useBucket grp hash).toLport d g hash (bits (s.nextHop (s.liveFor 0x4A g) nh) 125 114) nh replica

/-- A next hop as a target (R233). -/
def State.toNexthop (s : State) (d g hash nh replica : Nat) : Found :=
  let r := s.nextHop (s.liveFor 0x4A g) nh
  let kind := bits r 127 126
  if kind = 0 then s.toLport d g hash (bits r 125 114) nh replica
  else if kind = 1 then s.toEcmp d g hash (bits r 113 100) replica
  else { st := s, target := none, fate := if kind = 2 then 1 else 2 }

/-- Whether a destination of a node set is live (R186): its kind 0 to 3, and so. -/
def State.nodeLive (s : State) (g nh : Nat) : Nat × Bool :=
  let r := s.nextHop (s.liveFor 0x4A g) nh
  let kind := bits r 127 126
  let l := s.tbl (s.liveFor 0x40 g) 0x40 (bits r 125 114)
  let type := bits l 127 126
  (kind, kind = 1 ||
    (kind = 0 && (if type = 1 then s.portStateOf (bits r 125 114) = 2 else if type = 3 then s.portStateOf (bits l 122 114) = 2
      else type = 2 && (s.lagPick g l 0).1.isSome)))

/-- The targets of a placement (R186, R245): counters are those of the pipeline. -/
def State.placeTargets (s : State) (k : Packet) (hash : Nat) : State × List Target :=
  let g := hvGen k.hv
  let dest := hvDest k.hv
  let ns := s.tbl (s.liveFor 0x58 g) 0x59 (bits dest 17 0)
  let count := bits ns 511 507
  let all := bitOf dest 23
  let node := fun (i : Nat) => bits ns (487 - 18 * i) (470 - 18 * i)
  let go := fun (a : State × List Target) (i : Nat) =>
    let f := a.1.toNexthop k.die g hash (node i) i
    (f.st, a.2 ++ f.target.toList)
  let cand := List.range (if all then min (bits dest 22 18) count else count)
  let upto := if all then cand else cand.takeWhile fun i => !(s.nodeLive g (node i)).2
  let live := if all then cand.filter fun i => (s.nodeLive g (node i)).2 else (cand.find? fun i => (s.nodeLive g (node i)).2).toList
  let badOnes := (upto.filter fun i => 2 ≤ (s.nodeLive g (node i)).1).length
  let s1 := if badOnes = 0 then s else s.bump Od.placeBadNode (dieInst k.die) 0 (if all then badOnes else 1)
  let s2 := if all then s1.bump Od.placeCopyDown (dieInst k.die) 0 (cand.length - live.length) else s1
  let x := live.foldl go (s2, [])
  (if (if all then x.2 = [] else live = []) then x.1.bump Od.placeNoLiveNode (dieInst k.die) else x.1, x.2)

/-! Fan-out (R243 to R245). -/

/-- Die list of a REPL_GROUP record: count and base. -/
def dieList (r d : Nat) : Nat × Nat := (bits r (223 - 28 * d + 0) (215 - 28 * d), bits r (214 - 28 * d) (196 - 28 * d))

/-- A REPL_GROUP record of a bank; one beyond the bank reads as none. -/
def State.replGroup? (s : State) (bank grp : Nat) : Option Nat :=
  if s.bankEntries 0x55 bank ≤ grp then none else some (s.tbl bank 0x55 grp)

/-- A REPL_MEMBER entry of a bank; one beyond the bank is none. -/
def State.replMember? (s : State) (bank i : Nat) : Option Nat :=
  if s.bankEntries 0x56 bank ≤ i then none else some (s.tbl bank 0x56 i)

/-- The parts of a member. -/
def memberLport (m : Nat) : Nat := bits m 62 51
def memberNh (m : Nat) : Nat := bits m 50 33
def memberReplica (m : Nat) : Nat := bits m 32 17

/-- Whether a replication member's next hop reads as a DROP record in a bank (R159): one of KIND DROP, or beyond the bank. -/
def State.memberDrops (s : State) (bank m : Nat) : Bool := memberNh m ≠ 0 && bits (s.nextHop bank (memberNh m)) 127 126 = 2

/-- Extra targets of a group: its LAG list. -/
def State.lagTargets (s : State) (k : Packet) (bank r hash : Nat) : State × List Target :=
  (List.range (bits r 247 243)).foldl (fun (a : State × List Target) i =>
    match a.1.replMember? bank (bits r 242 224 + i) with
    | none => (a.1.bump Od.replBadMember (dieInst k.die), a.2)
    | some m =>
      if bitOf m 63 = false ∨ (bitOf r 254 = true ∧ memberLport m = k.lport) then a
      else
        let g := hvGen k.hv
        let l := a.1.tbl (a.1.liveFor 0x40 g) 0x40 (memberLport m)
        if bits l 127 126 ≠ 2 then (a.1.bump Od.replBadMember (dieInst k.die), a.2)
        else if a.1.memberDrops (a.1.liveFor 0x4A g) m then a
        else
          let f := a.1.toLport k.die g hash (memberLport m) (memberNh m) (memberReplica m)
          (f.st, a.2 ++ f.target.toList)) (s, [])

/-! The egress HV (R234, R235). -/

/-- The rewrite entries that a log leaves: OP and ARG. -/
def emitsOf (log : List LogOp) : List (Nat × Nat) :=
  log.filterMap fun o => match o with
    | .emit op arg => some (op, arg)
    | _ => none

/-- The rewrite list of an HV. -/
def hvEntries (hv : Nat) : List (Nat × Nat) :=
  ((List.range 8).map fun i => bits hv (1119 - 40 * i) (1080 - 40 * i)).filterMap fun e =>
    if bits e 39 37 = 0 then none else some (bits e 39 37, bits e 31 0)

/-- NEXTHOP after the entries of a rewrite list (R240 step 1). -/
def hopAfter (hv : Nat) (entries : List (Nat × Nat)) : Nat :=
  (((entries.filter fun e => e.1 = 3).getLast?).map fun e => bits e.2 17 0).getD (bits hv 775 758)

/-- The egress HV of a packet, without its target. -/
def egressHv (k : Packet) (hash : Nat) : Nat :=
  let header := beNat (slice (k.frame.take (k.frame.length - 4)) 0 512)
  let entries := (emitsOf k.log).zipIdx.map fun x => (1119 - 40 * x.2, 1080 - 40 * x.2, x.1.1 * 2 ^ 37 + x.1.2)
  putFields (header * 2 ^ 2048 + bits k.hv 2047 1120 * 2 ^ 1120)
    (entries ++ [(757, 744, k.bd), (711, 700, k.lport), (699, 668, hash), (559, 554, bits k.hv 559 554), (524, 512, bits k.hv 524 512)])

/-- The egress HV with a target and a COPY_KIND; LAST_OWNER is 0 until the copy is named (R234, R245). -/
def targetHv (hv : Nat) (t : Target) (kind : Nat) : Nat :=
  putFields hv [(799, 791, t.port), (787, 776, t.lport), (775, 758, t.nh), (743, 741, kind), (740, 740, 0),
    (735, 720, t.replica)]

end Sys2Proof.Machine
end

