-- ==== Sys2Proof/Machine/Enqueue.lean ====
section
/-! DEFINITION. The traffic manager at enqueue: copies and their owners, ECN, admission, mirroring and the loopback request (R245 to R252,
R262, R275 to R278, R287 to R290). -/

namespace Sys2Proof.Machine

/-! Queues (R275, R276). -/

/-- Copies of a queue of a die, in order. -/
def State.queueOf (s : State) (d v : Nat) : List Nat := sparseGet (fun _ => []) s.tm.queues (d * 8192 + v)
def State.setQueue (s : State) (d v : Nat) (l : List Nat) : State :=
  { s with tm := { s.tm with queues := sparseSet (fun _ => []) s.tm.queues (d * 8192 + v) l } }

/-- Parts of a queue. -/
def Copy.isOnDie (c : Copy) : Bool := c.stage = .onDie || c.stage = .requested
def Copy.isStaged (c : Copy) : Bool := c.stage = .staged || c.stage = .writing
def Copy.isSpilled (c : Copy) : Bool := c.stage = .spilled || c.stage = .reading

/-- Cells of the copies of a list that `p` selects. -/
def State.cellsIn (s : State) (l : List Nat) (p : Copy → Bool) : Nat :=
  l.foldl (fun a i => match s.copy? i with
    | some c => if p c then a + c.cells else a
    | none => a) 0

/-- Queue of a copy on its ingress die: VOQ or fan-out queue (R275). -/
def Copy.queue (c : Copy) : Nat := if c.isFan then 4096 + c.dest * 8 + c.tc else c.pc

/-- Cells in the transmit queue of a port class (R277). -/
def State.txCells (s : State) (pc : Nat) : Nat :=
  (s.tm.copies.filter fun (e : Nat × Copy) =>
    !e.2.isFan && (e.2.stage = .arrived || e.2.stage = .egress || e.2.stage = .queued || e.2.stage = .sending) && e.2.pc = pc).foldl
    (fun a e => a + e.2.cells) 0

/-- TX_WINDOW of a port: its default follows the port's rate (R279, R304). -/
def State.txWindow (s : State) (n : Nat) : Nat :=
  if s.rd Od.txWindow (portInst n) = 0 then max 40 ((modeRate (s.portModeOf n) * 25 + 255) / 256) else s.rd Od.txWindow (portInst n)

/-- Cells sent on the standing grant of a port from a die and not yet restored. -/
def State.standingUsed (s : State) (d n : Nat) : Nat := sparseGet (fun _ => 0) s.tm.standing (d * 512 + n)
def State.setStandingUsed (s : State) (d n v : Nat) : State :=
  { s with tm := { s.tm with standing := sparseSet (fun _ => 0) s.tm.standing (d * 512 + n) v } }

/-! Copies. -/

/-- A new copy. -/
def State.addCopy (s : State) (c : Copy) : State × Nat :=
  ({ s with tm := { s.tm with copies := sparsePut s.tm.copies s.tm.nextCopy c, nextCopy := s.tm.nextCopy + 1 } }, s.tm.nextCopy)

/-- A copy of a packet with an egress HV, before it has an owner's place. -/
def Copy.of (k : Packet) (hv origin die dest : Nat) : Copy :=
  let bare : Packet :=
    { k with hv := hv, hv0 := hv, log := [], meters := [], lock := none, ctxNew := none, restarts := 0, replays := 0, marked := none,
             avoid := none, charged := false, flying := false, picked := false }
  { stage := .onDie, k := bare, origin := origin, die := die, dest := dest, kind := 0, id := 0, last := false, cells := 0, standing := false,
    group := none, extra := [], banks := [], vid := 0, mtu := 0, heldBack := false, out := [], stamp := 0, charged := 0 }

/-- Identity of a copy as an owner (R257): a die copy is known by its destination die, a port copy by its number. -/
def Copy.named (c : Copy) (i : Nat) : Copy :=
  if c.die ≠ c.dest then { c with kind := 2, id := c.dest } else { c with kind := 3, id := i % 65536 }

/-- The copies of a packet on a die get their owner (R245, R262): the last is named, and the others are users besides it. -/
def State.nameOwner (s : State) (d head : Nat) (copies : List Nat) (users : Nat) : State :=
  match copies.getLast? with
  | none => s
  | some i =>
    match s.copy? i with
    | none => s
    | some c => (s.setCopy i { c with last := true, k := { c.k with hv := putBits c.k.hv 740 740 1 } }).giveTo d head c.kind c.id users

/-- Whether a port transmits what is queued for it: UP, DRAINING or PENDING_ENABLE (R89, R90). -/
def State.portTakes (s : State) (n : Nat) : Bool := s.portStateOf n = 2 || s.portStateOf n = 4 || s.portStateOf n = 5

/-- Whether a port class is in a PFC storm (R286). -/
def State.inStorm (s : State) (pc : Nat) : Bool := ((sparseFind? s.tm.pauses pc).map (·.storm)).getD false

/-- Cells granted to a port class and on their way (R277). -/
def State.inFlight (s : State) (pc : Nat) : Nat := sparseGet (fun _ => 0) s.tm.inFlight pc
def State.setInFlight (s : State) (pc v : Nat) : State :=
  { s with tm := { s.tm with inFlight := sparseSet (fun _ => 0) s.tm.inFlight pc v } }

/-- A copy stands on its egress die (R280, R286): one for a port that is down, or for a storming class, is discarded. -/
def State.land (s : State) (i : Nat) (c : Copy) : State :=
  if c.isFan then s.setCopy i { c with stage := .arrived }
  else
    let s1 := if c.standing then s else s.setInFlight c.pc (s.inFlight c.pc - c.cells)
    if s1.portTakes c.port = false then ((s1.bump Od.portDownDiscards (portInst c.port)).restoreStanding c).endCopy i c
    else if s1.inStorm c.pc then ((s1.bump Od.pfcStormDrops (portInst c.port) c.tc).restoreStanding c).endCopy i c
    else s1.setCopy i { c with stage := .arrived }

/-- The cells of a copy leave for their egress die (R277, R278): across the fabric, or at once on the same die. -/
def State.sendCells (s : State) (i : Nat) (c : Copy) : State :=
  if c.die = c.dest then s.land i c
  else
    let key := (c.die * 8 + c.dest) * 8192 + c.queue
    let x := sparseGet (fun _ => ({ seq := 0, packets := [] } : SendStream)) s.fabric.sends key
    { (s.setCopy i { c with stage := .crossing }) with
      fabric := { s.fabric with sends := sparsePut s.fabric.sends key { x with packets := x.packets ++ [(i, 0)] } } }

/-- Requests go out for the packets of the on-die part in order, at most 16 at once (R276, R277): none passes one that is not back on die. -/
def State.pumpRequests (s : State) (d v : Nat) : Nat → State
  | 0 => s
  | fuel + 1 =>
    let l := s.queueOf d v
    let out := (l.filter fun i => (s.copy? i).any fun c => c.stage = .requested).length
    match (l.takeWhile fun i => (s.copy? i).any Copy.isOnDie).find? fun i => (s.copy? i).any fun c => c.stage = .onDie with
    | none => s
    | some i =>
      match s.copy? i with
      | none => s
      | some c =>
        if 16 ≤ out then s
        else ((s.setCopy i { c with stage := .requested }).emit (.control d c.dest 0 [v, c.cells])).pumpRequests d v fuel

/-- Whether the VOQs of a port are granted: not while it drains (R90). -/
def State.portGrants (s : State) (n : Nat) : Bool := s.portStateOf n ≠ 4 && s.portStateOf n ≠ 5

/-- A copy joins the on-die part of its queue (R277, R278). -/
def State.enqueueOnDie (s : State) (i : Nat) (c : Copy) : State :=
  let v := c.queue
  let used := s.standingUsed c.die c.port
  if s.queueOf c.die v = [] ∧ c.isFan = false ∧ s.portGrants c.port = true ∧ used + c.cells ≤ s.rd Od.standingGrant then
    (s.setStandingUsed c.die c.port (used + c.cells)).sendCells i { c with standing := true }
  else ((s.setCopy i { c with stage := .onDie }).setQueue c.die v (s.queueOf c.die v ++ [i])).pumpRequests c.die v 16

/-! ECN and admission (R287 to R290). -/

/-- Whether ECN would mark a packet of class `t` that finds `q` cells queued (R289). The generator steps once for each enqueue. -/
def State.ecnMarks (s : State) (t q : Nat) : State × Bool :=
  let lo := s.rd Od.ecnKmin 0 t
  let hi := s.rd Od.ecnKmax 0 t
  let r := s.freeBits 32
  (s.useFree, decide (hi ≤ q) || (decide (lo < q) && decide (r * 256 * (hi - lo) < 2 ^ 32 * s.rd Od.ecnPmax 0 t * (q - lo))))

/-- CE written into the frame of a packet, where its ECN field is ECT(0) or ECT(1) (R289). -/
def markCe (hv : Nat) (frame : List Byte) : Option (List Byte) :=
  match firstOf hv [0x04, 0x05] 0 with
  | none => none
  | some e =>
    let b := (byteAt frame (instOff e + 1)).toNat
    if instType e = 0x04 then
      if b % 4 = 1 ∨ b % 4 = 2 then some (setIpv4Octet frame (instOff e) 1 (b / 4 * 4 + 3)) else none
    else if b / 16 % 4 = 1 ∨ b / 16 % 4 = 2 then some (overlay frame (instOff e + 1) [BitVec.ofNat 8 (b / 64 * 64 + 48 + b % 16)])
    else none

/-- A copy that is dropped at its queue ends (R262, R290). -/
def State.dropCopy (s : State) (i : Nat) (c : Copy) (o : Obj) (inst k : Nat) : State := (s.bump o inst k).endCopy i c

/-- A copy is staged for the spill writer (R290). -/
def State.stage (s : State) (i : Nat) (c : Copy) : State :=
  (s.setCopy i { c with stage := .staged }).setQueue c.die c.queue (s.queueOf c.die c.queue ++ [i])

/-- Spill pages of a die (R271): a channel that is mapped out takes 0.75 GiB with it (R273). -/
def State.spillPages (s : State) (d : Nat) : Nat :=
  s.rd Od.spillRegionGib (dieInst d) * 65536 - (30 - s.rd Od.hbmChannelsActive (dieInst d)) * 49152

/-- SPILL_PAGES_FREE of a die. -/
def State.spillPagesFree (s : State) (d : Nat) : Nat :=
  s.spillPages d - (s.bufs.pages.filter fun (e : Nat × SpillPage) => e.1 / 16777216 = d).length

/-- Cells staged by lossy classes on a die (R290). -/
def State.lossyStaged (s : State) (d : Nat) : Nat :=
  (s.tm.copies.filter fun (e : Nat × Copy) => e.2.die = d && e.2.isStaged && s.rd Od.tcLossless 0 e.2.tc = 0).foldl
    (fun a e => a + e.2.cells) 0

/-- Spill pages of a die have run out: SPILL_FULL is raised once for each episode (R291). -/
def State.noteFull (s : State) (d : Nat) : State :=
  if s.tm.full.contains d then s else ({ s with tm := { s.tm with full := s.tm.full ++ [d] } }).fire d 0x151

/-- Admission of a copy to its VOQ (R290). A lossy packet that a lack of pages alone keeps from the staged part shows that they have run out (R291). -/
def State.admitCopy (s : State) (i : Nat) (c : Copy) : State :=
  let d := c.die
  let t := c.tc
  let l := s.queueOf d c.queue
  let on_ := s.cellsIn l Copy.isOnDie
  let behind := s.cellsIn l Copy.isStaged + s.cellsIn l Copy.isSpilled
  let lossless := s.rd Od.tcLossless 0 t = 1
  let lim := s.cellsFree d * 2 ^ s.rd Od.threshAlpha 0 t / (256 * 2 ^ hvDp c.k.hv)
  let mark := fun (x : State) => { x with tm := { x.tm with dropped := setBit x.tm.dropped (d * 8 + t) true } }
  let fits := s.rd Od.spillEnable 0 t = 1 ∧ behind + c.cells ≤ s.rd Od.spillVoqMax
  let room := s.lossyStaged d + c.cells ≤ s.rd Od.spillStage
  if behind = 0 ∧ on_ + c.cells ≤ s.rd Od.spillStart 0 t then s.enqueueOnDie i c
  else if fits ∧ (lossless ∨ (room ∧ 0 < s.spillPagesFree d)) then s.stage i c
  else
    let s1 := if fits ∧ room ∧ lossless = false then s.noteFull d else s
    if 0 < behind then
      if lossless then s1.stage i c else (mark s1).dropCopy i c Od.spillStageDrops (dieInst d) 0
    else if lossless ∨ on_ + c.cells ≤ lim then s1.enqueueOnDie i c
    else (mark s1).dropCopy i c Od.voqAdmitDrops (portInst c.port) t

/-- The ECN decision on a copy, and its admission (R289, R290). -/
def State.decideCopy (s : State) (i : Nat) : State :=
  match s.copy? i with
  | none => s
  | some c =>
    let t := c.tc
    let x := s.ecnMarks t (s.cellsIn (s.queueOf c.die c.queue) fun _ => true)
    let s1 := x.1
    let ect := bitOf c.k.hv 554
    if x.2 = false then s1.admitCopy i c
    else if ect then
      match markCe c.k.hv c.k.frame with
      | none => s1.admitCopy i c
      | some f =>
        let hv := low 2048 c.k.hv + beNat (slice (f.take (f.length - 4)) 0 512) * 2 ^ 2048
        let c1 : Copy := { c with k := { c.k with frame := f, hv := hv } }
        ((s1.bump Od.ecnMarked (portInst c.port) t).setCopy i c1).admitCopy i c1
    else if s.rd Od.tcLossless 0 t = 0 ∧ s.rd Od.ecnDropNonect 0 t = 1 then s1.dropCopy i c Od.ecnNonectDrops (portInst c.port) t
    else s1.admitCopy i c

/-- A copy is enqueued (R289, R290); the class it may have joined is noted while F is low (R288). -/
def State.enqueueCopy (s : State) (i : Nat) : State :=
  match s.copy? i with
  | none => s
  | some c => (s.decideCopy i).noteF c.die

/-! The loopback path (R246, R247, R252). -/

/-- Whether a use of the path has a share: 0 recirculation, 1 mirroring (R246). -/
def State.loopShare (s : State) (share : Nat) : Bool :=
  let c := s.rd Od.loopbackClaim
  c = 3 || c = share + 1

/-- Queue of a share of a die. -/
def State.loopQueue (s : State) (d share : Nat) : List Nat := sparseGet (fun _ => []) s.tm.loops (d * 2 + share)
def State.setLoopQueue (s : State) (d share : Nat) (l : List Nat) : State :=
  { s with tm := { s.tm with loops := sparseSet (fun _ => []) s.tm.loops (d * 2 + share) l } }

/-- Whether a frame fits in a share's queue of 128 KiB (R247). -/
def State.loopFits (s : State) (d share bytes : Nat) : Bool :=
  decide ((s.loopQueue d share).foldl (fun a p => a + ((s.packet? p).map fun k => cellsOf k.frame.length).getD 0) (cellsOf bytes) ≤ 512)

/-- The bank of the rewrite family in force now. -/
def State.rewriteBank (s : State) : Nat := (s.fam 0x54).live

/-- An invocation of a mirror session on a die (R252): whether a copy is made. -/
def State.mirrorStep (s : State) (d sess rec : Nat) : State × Bool :=
  if bitOf rec 127 = false then (s, false)
  else
    let key := d * 256 + sess
    let n := sparseGet (fun _ => 0) s.tm.mirrored key + 1
    let due := decide (max 1 (bits rec 84 61) ≤ n)
    ({ s with tm := { s.tm with mirrored := sparseSet (fun _ => 0) s.tm.mirrored key (if due then 0 else n) } }, due)

/-- What a mirror copy carries of its packet's metadata (R252): the session's TC and the flow hash of the ingress packet. A copy made at egress
is the frame as its rewrite leaves it, already trimmed: it has no instances and no L3_END of its own (DEDUCED, log 140). -/
def State.mirrorHv (s : State) (hv tc : Nat) (atIngress : Bool) : Nat :=
  let h := putTc hv tc
  if atIngress then putBits h 699 668 (s.flowHash hv) else putFields h [(1871, 1867, 0), (1855, 1842, 0)]

/-- A mirror copy of a packet, cut under its session (R251, R252): the state, and whether a copy that shares the packet's cells has
joined the loopback queue. `shares` is set for an ingress copy. -/
def State.mirrorCopy (s : State) (bank d sess : Nat) (k : Packet) (origin : Nat) (shares : Bool) : State × Bool :=
  let rec_ := s.tbl bank 0x57 sess
  let x := s.mirrorStep d sess rec_
  let body := k.frame.take (k.frame.length - 4)
  let frame := if bits rec_ 116 103 = 0 then k.frame else body.take (bits rec_ 116 103) ++ k.frame.drop (k.frame.length - 4)
  if x.2 = false then (x.1, false)
  else if bitOf rec_ 126 then
    let punted : Packet := { k with frame := frame, origin := origin, mirror := some sess, cut := decide (frame.length < k.frame.length) }
    ((x.1.puntCopy punted 0x0C).bump Od.mirrorCopies (dieInst d), false)
  else if x.1.loopShare 1 = false then (x.1.bump Od.loopbackNoPath (dieInst d), false)
  else if x.1.loopFits d 1 frame.length = false then (x.1.bump Od.mirrorDropFull (dieInst d), false)
  else
    let m : Packet :=
      { k with stage := .looping, frame := frame, hv := s.mirrorHv k.hv (bits rec_ 119 117) shares, mirror := some sess, log := [], meters := [],
               lock := none, ctxNew := none, head := if shares then k.head else noCells, charged := false, flying := false, since := s.up,
               owns := false, origin := origin, cut := false, atEgress := false }
    let p := x.1.nextPacket
    let s1 : State := { x.1 with packets := sparsePut x.1.packets p m, nextPacket := p + 1 }
    ((s1.setLoopQueue d 1 (s1.loopQueue d 1 ++ [p])).bump Od.mirrorCopies (dieInst d), shares)

/-- Host copies, then loopback copies, of a released log (R245, R250, R252): the state, and how many share the packet's cells. -/
def State.sideCopies (s : State) (p : Nat) (k : Packet) : State × Nat :=
  let origin := if k.ended then 0 else p
  let s1 := k.log.foldl (fun (a : State) o => match o with
    | .copyToHost reason => a.puntCopy { k with origin := origin } reason
    | _ => a) s
  k.log.foldl (fun (a : State × Nat) o => match o with
    | .mirror sess =>
      let x := a.1.mirrorCopy s.rewriteBank k.die sess k origin true
      (x.1, a.2 + b2n x.2)
    | _ => a) (s1, 0)

/-- A packet that goes no further than its mirror copies: they own its cells, or INGRESS frees them (R262). -/
def State.leaveToMirrors (s : State) (p : Nat) (k : Packet) (users : Nat) : State :=
  if users = 0 then s.dropPacket p k
  else
    let s1 := (s.endIngress p k).giveTo k.die k.head 4 1 (users - 1)
    match (s1.packets.filter fun (e : Nat × Packet) => e.2.head = k.head && e.2.mirror.isSome && e.2.die = k.die).getLast? with
    | some e => s1.setPacket e.1 { e.2 with owns := true }
    | none => s1

/-- A packet goes to the punt path from its enqueue (R236, R300): its cells stay INGRESS's with the mirror copies as users. -/
def State.puntEnqueued (s : State) (p : Nat) (k : Packet) (reason users : Nat) : State :=
  let s1 := (s.endPass k).giveTo k.die k.head 1 k.pipe users
  s1.setPacket p { k with stage := .punting, hv := putPunt k.hv reason, charged := false, flying := false, owns := true }

/-- Age of a packet past its first-byte stamp, in ns. -/
def State.age (s : State) (k : Packet) : Nat := s.up - k.born

/-- The rewrite list of a packet that loops is applied, its steps 2 and 4 without a next hop (R249); the next hop of a SET_NEXTHOP and its
router MAC are read from the banks of the packet's tag (R55). -/
def State.loopRewrite (s : State) (k : Packet) : RewriteEnd :=
  let bank := s.rewriteBank
  let g := hvGen k.hv
  let nh := hopAfter 0 (emitsOf k.log)
  let hop := s.nextHop (s.liveFor 0x4A g) nh
  ({ body := k.frame.take (k.frame.length - 4), hv := egressHv k (s.flowHash k.hv), entries := emitsOf k.log,
     hop := if nh = 0 then none else some hop, router := bits (s.tbl (s.liveFor 0x42 g) 0x42 (bits hop 51 38)) 115 68, vid := 0, loops := true,
     encap := fun i => if s.bankEntries 0x54 bank ≤ i ∨ bitOf (s.tbl bank 0x54 i) 1023 = false then none
       else some (s.tbl bank 0x54 i) } : RewriteJob).run

/-- Trimmed bytes are counted (R242). -/
def State.countTrim (s : State) (d cut : Nat) : State :=
  if cut = 0 then s else (s.bump Od.padTrimPackets (dieInst d)).bump Od.padTrimBytes (dieInst d) 0 cut

/-- A RECIRC fate (R246 to R250): the pass limit, lateness and the path are judged in this order. -/
def State.recirc (s : State) (p : Nat) (k : Packet) (profile users : Nat) : State :=
  let i := dieInst k.die
  if hvPass k.hv = 3 then (s.bump Od.recircLimitCount i).puntEnqueued p k 0x09 users
  else if 32000 < s.age k then (s.bump Od.recircDropLate i).leaveToMirrors p k users
  else if s.loopShare 0 = false then (s.bump Od.loopbackNoPath i).leaveToMirrors p k users
  else
    match s.loopRewrite k with
    | .bad => (s.bump Od.rewriteBadRecord i).leaveToMirrors p k users
    | .ttl => (s.bump Od.ttlExpiredCount i).puntEnqueued p k 0x06 users
    | .made body cut =>
      if 10240 < body.length + 4 then (s.bump Od.rewriteMtuDrop i).leaveToMirrors p k users
      else if s.loopFits k.die 0 (body.length + 4) = false then (s.bump Od.recircDropFull i).leaveToMirrors p k users
      else
        let hv := putFields k.hv [(1883, 1880, profile), (1866, 1865, hvPass k.hv + 1), (1919, 1906, body.length + 4), (1864, 1863, 1)]
        let s1 := ((s.endPass { k with flying := false }).giveTo k.die k.head 4 0 users).setPacket p
          { k with stage := .looping, frame := body ++ leBytes 4 (crc32Eth body), hv := hv, hv0 := hv, log := [], charged := false,
                   since := s.up, owns := true, restarts := 0, replays := 0, searched := false, matchIds := [], place := .none }
        ((s1.setLoopQueue k.die 0 (s1.loopQueue k.die 0 ++ [p])).bump Od.recircPasses i).countTrim k.die cut

/-! Fan-out (R245). -/

/-- Cells that a packet occupies. -/
def State.cellsHeld (s : State) (k : Packet) : Nat := ((s.record? k.die k.head).map (·.cells)).getD (cellsOf k.frame.length)

/-- A port copy of a die copy for a target on its die (R244, R245, R281): none where it is dropped at the transmit queue. -/
def State.portCopy (s : State) (c : Copy) (t : Target) (kind : Nat) : State × List Nat :=
  let d := c.die
  let n : Copy :=
    { Copy.of c.k (targetHv c.k.hv t kind) c.origin d d with stage := .arrived, cells := c.cells, group := none, extra := [] }
  let m := s.tm.nextCopy
  if s.portTakes t.port = false then (s.bump Od.portDownDiscards (portInst t.port), [])
  else if 2 * s.txWindow t.port < s.txCells n.pc + c.cells then (s.bump Od.replTxDrops (dieInst d), [])
  else (((s.addCopy (n.named m)).1).bump Od.replPortCopies (dieInst d), [m])

/-- A member of a die list as a target: none for one that is unused, not on the die, or has no physical port (R244). -/
def State.memberTarget (s : State) (d m : Nat) : Option Target :=
  let r := s.tbl (s.fam 0x40).live 0x40 (memberLport m)
  let type := bits r 127 126
  let n := if type = 3 then bits r 122 114 else memberLport m
  if (type = 1 ∨ type = 3) ∧ n / 64 = d ∧ n < 512 then
    some { port := n, nh := memberNh m, lport := memberLport m, replica := memberReplica m }
  else none

/-- The port copies of a die copy's group on its die. -/
def State.groupCopies (s : State) (c : Copy) (grp : Nat) : State × List Nat :=
  let bank := s.rewriteBank
  let r := (s.replGroup? bank grp).getD 0
  let l := dieList r c.die
  (List.range l.1).foldl (fun (a : State × List Nat) i =>
    match a.1.replMember? bank (l.2 + i) with
    | none => (a.1.bump Od.replBadMember (dieInst c.die), a.2)
    | some m =>
      if bitOf m 63 = false ∨ (bitOf r 254 = true ∧ memberLport m = bits c.k.hv 711 700) then a
      else
        match a.1.memberTarget c.die m with
        | none => (a.1.bump Od.replBadMember (dieInst c.die), a.2)
        | some t =>
          if a.1.memberDrops (a.1.fam 0x4A).live m then a
          else
            let x := a.1.portCopy c t 1
            (x.1, a.2 ++ x.2)) (s, [])

/-- `port_copies` of R245 on a die copy that stands on its egress die: its cells pass to the port copies. -/
def State.portCopies (s : State) (c : Copy) (users : Nat) : State × List Nat :=
  let x := match c.group with
    | some g => s.groupCopies c g
    | none => (s, [])
  let y := c.extra.foldl (fun (a : State × List Nat) t =>
    let z := a.1.portCopy c t (if c.group.isSome then 1 else 2)
    (z.1, a.2 ++ z.2)) x
  (if y.2 = [] then y.1.bump Od.replEmptyDieCopy (dieInst c.die)
   else y.1.nameOwner c.die c.k.head y.2 (y.2.length - 1 + users), y.2)

/-- `fan_out` of R245 once its targets are known: die copies in rising order, then the port copies of the own die. -/
def State.fanOut (s : State) (p : Nat) (k : Packet) (hash : Nat) (group : Option Nat) (dies : List Nat) (extra : List Target)
    (users : Nat) : State :=
  let cells := s.cellsHeld k
  let origin := if k.ended then 0 else p
  let hv := egressHv k hash
  let wanted := fun (d : Nat) => dies.contains d || extra.any fun t => t.port / 64 = d
  let dieCopy := fun (d : Nat) =>
    ({ Copy.of k hv origin k.die d with
        cells := cells, group := group, extra := extra.filter fun t => t.port / 64 = d } : Copy)
  let s0 := s.endIngress p k
  let x := (s.part.dies.filter fun d => decide (d ≠ k.die) && wanted d).foldl (fun (a : State × List Nat) d =>
    let c := dieCopy d
    let y := a.1.addCopy (c.named a.1.tm.nextCopy)
    (y.1, a.2 ++ [y.2])) (s0, [])
  let others := x.2.length + users
  let y : State × List Nat := if wanted k.die then x.1.portCopies (dieCopy k.die) others else (x.1, [])
  let s1 :=
    if y.2 ≠ [] then y.1
    else if x.2 ≠ [] then y.1.nameOwner k.die k.head x.2 (others - 1)
    else y.1
  let s2 := x.2.foldl (fun (a : State) i => match a.copy? i with
    | some c => a.enqueueOnDie i c
    | none => a) s1
  if x.2 = [] ∧ y.2 = [] then
    if users = 0 then s2.freePacket k.die k.head k.tag 1 k.pipe else s2.leaveToMirrors p { k with charged := false, flying := false } users
  else s2

/-- A packet with one target becomes one copy, and joins the VOQ of its port and class (R275, R290). -/
def State.unicast (s : State) (p : Nat) (k : Packet) (hash : Nat) (t : Target) (kind users : Nat) : State :=
  let cells := s.cellsHeld k
  let c : Copy := { Copy.of k (putBits (targetHv (egressHv k hash) t kind) 719 712 (k.mirror.getD 0)) (if k.ended then 0 else p) k.die (t.port / 64)
                    with cells := cells }
  let x := (s.endIngress p k).addCopy (c.named s.tm.nextCopy)
  (x.1.nameOwner k.die k.head [x.2] users).enqueueCopy x.2

/-- A destination that is one target, dropped, or punted. -/
def State.toFound (s : State) (p : Nat) (k : Packet) (hash : Nat) (f : Found) (kind users : Nat) : State :=
  let s1 : State := { s with regs := f.st.regs, learning := f.st.learning }
  match f.target with
  | some t => s1.unicast p k hash t kind users
  | none => if f.fate = 2 then s1.puntEnqueued p k 0x0A users else s1.leaveToMirrors p k users

/-- TM_ENQUEUE (R233, R245, R249, R252, R275, R289, R290): a packet that has left its engine, or a mirror copy from the loopback path. -/
def State.tmEnqueue (s : State) (p : Nat) (k : Packet) : State :=
  let hash := s.flowHash k.hv
  let g := hvGen k.hv
  let dest := hvDest k.hv
  let d := k.die
  match k.mirror with
  | some sess =>
    let own := bits k.hv 699 668
    s.toFound p k own (s.toNexthop d g own (bits (s.tbl s.rewriteBank 0x57 sess) 102 85) 0) 3 0
  | none =>
    let side := s.sideCopies p k
    let s1 := side.1
    let users := side.2
    let fate := fateOf k.log
    let bad := (s1.bump Od.tmBadDest (dieInst d)).leaveToMirrors p k users
    if fate.1 = 1 then s1.leaveToMirrors p k users
    else if fate.1 = 2 then s1.puntEnqueued p k fate.2 users
    else if fate.1 = 3 then s1.recirc p k fate.2 users
    else
      match hvKind k.hv with
      | 1 =>
        if bitOf dest 27 then
          if bits dest 26 18 ≠ 0 then bad else s1.toFound p k hash (s1.toNexthop d g hash (bits dest 17 0) 0) 0 users
        else if bits dest 26 12 ≠ 0 then bad
        else s1.toFound p k hash (s1.toLport d g hash dest 0 0) 0 users
      | 2 => if bits dest 27 14 ≠ 0 then bad else s1.toFound p k hash (s1.toEcmp d g hash dest 0) 0 users
      | 3 =>
        if bits dest 27 16 ≠ 0 ∨ dest = 0xFFFF then bad
        else
          match s1.replGroup? s1.rewriteBank dest with
          | none => bad
          | some r =>
            if bitOf r 255 = false then s1.leaveToMirrors p k users
            else
              let x := s1.lagTargets k s1.rewriteBank r hash
              x.1.fanOut p k hash (some dest) (s.part.dies.filter fun e => (dieList r e).1 ≠ 0) x.2 users
      | 4 =>
        if bits dest 27 24 ≠ 0 ∨ bits dest 22 18 = 0 ∨ 16 < bits dest 22 18 then bad
        else
          let x := s1.placeTargets k hash
          x.1.fanOut p k hash none [] x.2 users
      | 5 => s1.puntEnqueued p k (bits k.hv 599 592) users
      | 6 => s1.leaveToMirrors p k users
      | _ => bad

/-- TM_ENQUEUE. -/
def execTmEnqueue (p : Nat) (s : State) : Answer := withPacket s p (fun k => k.stage = .left) (s.tmEnqueue p)

end Sys2Proof.Machine
end

