-- ==== Sys2Proof/Machine/Grants.lean ====
section
/-! DEFINITION. Request and grant between dies (R277 to R281), the arrival of die copies (R245), the egress pipeline and the rewrite of a
copy (R234, R236, R240 to R242, R252). -/

namespace Sys2Proof.Machine

/-! Requests and grants. -/

/-- Requests waiting at a port class, and at the replication admission of a die. -/
def State.requestsAt (s : State) (pc : Nat) : List (Nat × Nat × Nat) := sparseGet (fun _ => []) s.tm.requests pc
def State.setRequests (s : State) (pc : Nat) (l : List (Nat × Nat × Nat)) : State :=
  { s with tm := { s.tm with requests := sparseSet (fun _ => []) s.tm.requests pc l } }
def State.fanRequestsAt (s : State) (d : Nat) : List (Nat × Nat × Nat) := sparseGet (fun _ => []) s.tm.fanRequests d
def State.setFanRequests (s : State) (d : Nat) (l : List (Nat × Nat × Nat)) : State :=
  { s with tm := { s.tm with fanRequests := sparseSet (fun _ => []) s.tm.fanRequests d l } }

/-- REQUEST (R277, R281): the egress die takes a request of a source die for one packet of a stream. -/
def execRequest (d source v cells : Nat) (s : State) : Answer :=
  withDie s d <|
    if v < 4096 then s.setRequests v (s.requestsAt v ++ [(source, v, cells)])
    else s.setFanRequests d (s.fanRequestsAt d ++ [(source, v, cells)])

/-- Deficit of a source die at a port class. -/
def State.deficit (s : State) (pc d : Nat) : Int := sparseGet (fun _ => (0 : Int)) s.tm.deficits (pc * 8 + d)
def State.setDeficit (s : State) (pc d : Nat) (v : Int) : State :=
  { s with tm := { s.tm with deficits := sparseSet (fun _ => (0 : Int)) s.tm.deficits (pc * 8 + d) v } }

/-- A grant is given to a request: its cells are reserved in class 8, except those of the own die, which hold the packet already. -/
def State.giveGrant (s : State) (d : Nat) (q : Nat × Nat × Nat) : State :=
  let s1 := if q.1 = d then s else s.setReserved d 10 (s.reserved d 10 + q.2.2)
  s1.emit (.control d q.1 1 [q.2.1, q.2.2])

/-- The die next in deficit order among those that request, with every deficit refilled by 40 cells while none is above 0 (R277). -/
def State.deficitTurn (s : State) (pc : Nat) (dies : List Nat) : Nat → State × Option Nat
  | 0 => (s, dies.head?)
  | fuel + 1 =>
    match dies.find? fun d => decide (0 < s.deficit pc d) with
    | some d => (s, some d)
    | none => (dies.foldl (fun a d => a.setDeficit pc d (a.deficit pc d + 40)) s).deficitTurn pc dies fuel

/-- The arbiter of a port class in one TM clock (R277, R280, R286). -/
def State.arbitrate (s : State) (pc : Nat) : State :=
  let n := pc / 8
  let d := n / 64
  let l := s.requestsAt pc
  match l with
  | [] => s
  | q :: rest =>
    let st := s.portStateOf n
    if st = 4 ∨ st = 5 then s
    else if st ≠ 2 ∨ s.inStorm pc = true then
      ((s.setRequests pc rest).setInFlight pc (s.inFlight pc + q.2.2)).giveGrant d q
    else if s.txCells pc + s.inFlight pc < s.txWindow n then
      let x := s.deficitTurn pc (s.part.dies.filter fun e => l.any fun r => r.1 = e) 4
      match x.2.bind fun e => l.find? fun r => r.1 = e with
      | none => s
      | some r =>
        let s1 := x.1.setDeficit pc r.1 (x.1.deficit pc r.1 - r.2.2)
        ((s1.setRequests pc (l.erase r)).setInFlight pc (s.inFlight pc + r.2.2)).giveGrant d r
    else s

/-- Cells held on a die by port copies of fan-out that have not been transmitted (R281), counted once for a packet. -/
def State.fanHeld (s : State) (d : Nat) : Nat :=
  let l := s.tm.copies.filter fun (e : Nat × Copy) =>
    e.2.die = d && (e.2.stage = .arrived || e.2.stage = .egress || e.2.stage = .queued || e.2.stage = .sending)
      && (e.2.isFan || bits e.2.k.hv 743 741 = 1 || bits e.2.k.hv 743 741 = 2)
  (l.foldl (fun (a : List Nat × Nat) e => if a.1.contains e.2.k.head then a else (e.2.k.head :: a.1, a.2 + e.2.cells)) ([], 0)).2

/-- ARBITER_GRANT (R277, R281): one TM clock of the arbiter of VOQ number `v`, or of the replication admission of a fan-out queue's
destination die. -/
def execArbiterGrant (v : Nat) (s : State) : Answer :=
  if v < 4096 then withLane s (v / 8) (s.arbitrate v)
  else
    let d := (v - 4096) / 8
    withDie s d <|
      match s.fanRequestsAt d with
      | [] => s
      | q :: rest => if s.fanHeld d < s.rd Od.replCellLimit then (s.setFanRequests d rest).giveGrant d q else s

/-- A VOQ whose spilled part is not empty falls below SPILL_RETURN (R292): its place in the reader's order. -/
def State.noteReturn (s : State) (d v : Nat) : State :=
  let l := s.queueOf d v
  let line := sparseGet (fun _ => []) s.tm.returning d
  if line.contains v ∨ s.cellsIn l Copy.isSpilled = 0 ∨ s.rd Od.spillReturn ≤ s.cellsIn l Copy.isOnDie then s
  else { s with tm := { s.tm with returning := sparseSet (fun _ => []) s.tm.returning d (line ++ [v]) } }

/-- The staged packets at the front of a VOQ join its on-die part while the part is below SPILL_RETURN and none is spilled (R292). -/
def State.joinStaged (s : State) (d v : Nat) : Nat → State
  | 0 => s
  | fuel + 1 =>
    let l := s.queueOf d v
    if s.cellsIn l Copy.isSpilled = 0 ∧ s.cellsIn l Copy.isOnDie < s.rd Od.spillReturn then
      match l.find? fun i => (s.copy? i).any fun c => !c.isOnDie with
      | none => s
      | some i =>
        match s.copy? i with
        | none => s
        | some c => if c.stage = .staged then ((s.setCopy i { c with stage := .onDie }).pumpRequests d v 16).joinStaged d v fuel else s
    else s

/-- GRANT (R277): the first packet of the queue that has a request out is sent. -/
def execGrant (d v : Nat) (s : State) : Answer :=
  withDie s d <|
    let l := s.queueOf d v
    match l.find? fun i => (s.copy? i).any fun c => c.stage = .requested with
    | none => s
    | some i =>
      match s.copy? i with
      | none => s
      | some c =>
        ((((s.setQueue d v (l.filter (· ≠ i))).sendCells i c).pumpRequests d v 16).noteReturn d v).joinStaged d v l.length

/-- STANDING_RESTORE (R278): standing-grant cells of a port come back to a source die. -/
def execStandingRestore (d n cells : Nat) (s : State) : Answer :=
  withDie s d (s.setStandingUsed d n (s.standingUsed d n - cells))

/-- DIE_COPY_ARRIVAL (R245): port copies are made on the egress die; a die copy that makes none is freed. -/
def execDieCopyArrival (i : Nat) (s : State) : Answer :=
  withCopy s i (fun c => c.isFan && c.stage = .arrived) fun c =>
    let x := s.portCopies c 0
    if x.2 = [] then x.1.endCopy i { c with last := true }
    else { x.1 with tm := { x.1.tm with copies := sparseErase x.1.tm.copies i } }

/-! The egress pipeline (R234, R236). -/

/-- Bank of a copy by its place in the record of egress entry. -/
def Copy.bank (c : Copy) (i : Nat) : Nat := c.banks.getD i 0

/-- What a copy finds of its port's rule set at its egress entry (R128, R136, R138): the set, its live side, the epoch counter, and the
set's miss action and parity punt. -/
def State.egressSet (s : State) (n : Nat) : List Nat :=
  let w := s.rd Od.egressAsaSet (portInst n)
  [w, (s.fam (0x100 + w)).live, s.epoch32, s.rd Od.asaMissAction 0 w, s.rd Od.asaParityPunt 0 w]

/-- The egress search of a copy's set (R128, R130, R134 to R142): stage 18, on the side and with the epoch of its egress entry. -/
def State.egressSearch (s : State) (d : Nat) (c : Copy) (hv : Nat) : State × Nat × Bool :=
  let w := c.bank 6
  if 12 ≤ w ∨ s.rd Od.asaSetMode 0 w = 0 then (s, hv, false)
  else
    let banks := s.setBanks w (c.bank 7 ≠ (s.fam (0x100 + w)).live)
    let o := s.asaSearch d 4 w banks (c.bank 8) (s.searchKey w hv)
    if o.hit then
      let x := o.result
      let h1 := if bitOf x 55 then putBits hv 607 600 (bits x 63 56) else hv
      let h2 := if bits x 54 51 = 0 then h1 else putDest h1 (bits x 54 51) (bits x 50 23)
      let h3 := if bitOf x 22 then putTc h2 (bits x 21 19) else h2
      let h4 := if bitOf x 18 then putBits h3 556 555 (bits x 17 16) else h3
      (s, putHit (putBits h4 511 496 (bits x 15 0)) 18, false)
    else
      let s1 := if o.parity then (s.bump Od.egressAsaParityMiss (dieInst d)).searchFault d 4 w banks o else s
      if o.parity = true ∧ c.bank 10 = 1 then (s1, hv, true)
      else
        let a := c.bank 9
        (s1, if a = 1 then putDest hv 6 0 else if a = 2 then putPunt hv 0x01 else hv, false)

/-- Stages 16 to 18 (R158): state, HV, the egress VID, and whether a failing entry punts the copy. -/
def State.egressStages (s : State) (d : Nat) (c : Copy) (hv : Nat) : State × Nat × Nat × Bool :=
  let l := bits hv 787 776
  let bd := bits hv 757 744
  if s.rowBad d 0x40 (rowIndex (c.bank 0) l) then
    (s.tableMiss d 0x40 (c.bank 0) l, putDest hv 6 0, 0, decide (s.rd Od.tableParityPunt 0 0 = 1))
  else
    let h16 := putHit hv 16
    let look := s.hashLookup d 0x41 (c.bank 4) (27, 2 ^ 26 + l * 2 ^ 14 + bd)
    let after := fun (t : State) (h vid : Nat) =>
      let x := t.egressSearch d c h
      (x.1, x.2.1, vid, x.2.2)
    match look with
    | (_, some i) =>
      let t := s.tableMiss d 0x41 (c.bank 4) i
      if s.rd Od.tableParityPunt 0 1 = 1 then (t, h16, 0, true) else after t h16 (bits bd 11 0)
    | (some r, none) => after s (putHit h16 17) (bits r 73 62)
    | (none, none) => after s h16 (bits bd 11 0)

/-- The banks and the rule set that a copy to port `n` finds at its egress entry (R53, R136, R138, R155, R253). -/
def State.entryBanks (s : State) (n : Nat) : List Nat :=
  [(s.fam 0x40).live, (s.fam 0x54).live, (s.fam 0x4A).live, (s.fam 0x201).live, (s.fam 0x41).live, (s.fam 0x42).live] ++ s.egressSet n

/-- Egress pipeline of a copy: that of its octet when it arrives, and then its own. -/
def State.egressPipe (s : State) (c : Copy) : Nat :=
  if c.stage = .arrived then c.port / 64 * 16 + s.pipeOf (c.port / 64) true (c.port % 64 / 8) else c.k.pipe

/-- A copy enters its egress pipeline, or begins there again for a replay (R236, R411). -/
def State.egressEntry (s : State) (i : Nat) (c : Copy) : State :=
  let n := c.port
  let d := n / 64
  let first := c.stage = .arrived
  let pipe := s.egressPipe c
  let c0 : Copy := { c with stage := .egress, banks := if first then s.entryBanks n else c.banks, mtu := if first then s.rd Od.egressMtu (portInst n) else c.mtu }
  let nh := hopAfter c.k.hv (hvEntries c.k.hv)
  let bd := if nh = 0 then bits c.k.hv 757 744 else bits (s.nextHop (c0.bank 2) nh) 51 38
  let hv0 := putFields c.k.hv [(775, 758, nh), (757, 744, bd)]
  let x := s.egressStages d c0 hv0
  let tagged := decide (s.rd Od.egressTagging (portInst n) = 1)
  let c1 : Copy := { c0 with vid := if tagged then x.2.2.1 else 0, k := { c.k with stage := .ready, pipe := pipe, hv := x.2.1, hv0 := hv0 } }
  let s1 := x.1.setCopy i c1
  if x.2.2.2 then s1.puntItem true i c1.k 0x0B else s1

/-- EGRESS_ENTRY (R195, R236): a pipeline whose engine has every thread busy takes no copy. -/
def execEgressEntry (i : Nat) (s : State) : Answer :=
  withCopy s i (fun c => !c.isFan && (c.stage = .arrived || (c.stage = .egress && c.k.stage = .received))
    && !s.threadsBusy (s.egressPipe c) true) (s.egressEntry i)

/-! Rewrite (R236, R240 to R242). -/

/-- A copy is dropped and counted on its die. -/
def State.dropEgress (s : State) (i : Nat) (c : Copy) (o : Obj) : State :=
  ((s.bump o (dieInst c.die)).restoreStanding c).endCopy i c

/-- A copy goes to the punt path as a packet of its own. -/
def State.puntEgress (s : State) (i : Nat) (c : Copy) (reason : Nat) : State :=
  ((s.puntCopy { c.k with origin := c.origin, atEgress := true } reason).restoreStanding c).endCopy i c

/-- What the rewrite unit makes of a copy. -/
def State.rewriteJob (s : State) (c : Copy) : RewriteEnd :=
  let hv := c.k.hv
  let entries := hvEntries hv ++ emitsOf c.k.log
  let nh := hopAfter hv entries
  let rec_ := s.nextHop (c.bank 2) nh
  let bd := if nh = 0 then bits hv 757 744 else bits rec_ 51 38
  ({ body := c.k.frame.take (c.k.frame.length - 4), hv := hv, entries := entries, hop := if nh = 0 then none else some rec_,
     router := bits (s.tbl (c.bank 5) 0x42 bd) 115 68, vid := c.vid,
     encap := fun i => if s.bankEntries 0x54 (c.bank 1) ≤ i ∨ bitOf (s.tbl (c.bank 1) 0x54 i) 1023 = false then none
       else some (s.tbl (c.bank 1) 0x54 i) } : RewriteJob).run

/-- The transmit queue of a port class, past the rewrite. -/
def State.txQueue (s : State) (pc : Nat) : List Nat := sparseGet (fun _ => []) s.tm.txq pc
def State.setTxQueue (s : State) (pc : Nat) (l : List Nat) : State :=
  { s with tm := { s.tm with txq := sparseSet (fun _ => []) s.tm.txq pc l } }

/-- Copies to the host and mirror copies of an egress routine (R252): a mirror copy carries the copy as its rewrite leaves it. -/
def State.egressSide (s : State) (c : Copy) (output : Option (List Byte)) : State :=
  let k : Packet := { c.k with origin := c.origin, atEgress := true }
  let s1 := c.k.log.foldl (fun (a : State) o => match o with
    | .copyToHost reason => a.puntCopy k reason
    | _ => a) s
  c.k.log.foldl (fun (a : State) o => match o, output with
    | .mirror sess, made =>
      if bits c.k.hv 743 741 = 3 then a.bump Od.mirrorRefused (dieInst c.die)
      else match made with
        | none => a
        | some body => (a.mirrorCopy (c.bank 1) c.die sess { k with frame := body ++ leBytes 4 (crc32Eth body) } c.origin false).1
    | _, _ => a) s1

/-- REWRITE (R236, R240 to R242): a copy that has left its egress engine. -/
def State.rewriteStep (s : State) (i : Nat) (c : Copy) : State :=
  let made := s.rewriteJob c
  let output := match made with
    | .made body _ => some body
    | _ => none
  let s1 := s.egressSide c output
  let fate := fateOf c.k.log
  let kind := hvKind c.k.hv
  if fate.1 = 3 then s1.dropEgress i c Od.egressRecircDrop
  else if fate.1 = 1 then s1.dropEgress i c Od.egressDrops
  else if fate.1 = 2 then s1.puntEgress i c fate.2
  else if kind = 6 then s1.dropEgress i c Od.egressDrops
  else if kind = 5 then s1.puntEgress i c (bits c.k.hv 599 592)
  else if kind ≠ 0 then s1.dropEgress i c Od.egressBadDest
  else
    match made with
    | .bad => s1.dropEgress i c Od.rewriteBadRecord
    | .ttl => (s1.bump Od.ttlExpiredCount (dieInst c.die)).puntEgress i c 0x06
    | .made body cut =>
      if c.k.ended = true ∧ min 10240 c.mtu < body.length + 4 then s1.dropEgress i c Od.rewriteMtuDrop
      else
        ((s1.setCopy i { c with stage := .queued, out := body }).setTxQueue c.pc (s1.txQueue c.pc ++ [i])).countTrim c.die cut

/-- REWRITE. -/
def execRewriteCopy (i : Nat) (s : State) : Answer :=
  withCopy s i (fun c => c.stage = .egress && c.k.stage = .left) (s.rewriteStep i)

end Sys2Proof.Machine
end

