-- ==== Sys2Proof/Machine/Ptp.lean ====
section
/-! DEFINITION. Transmit timestamps, and what is written at transmit into PTP event messages (R40, R41, R64, R78). The layout of PTP messages, their
transport numbers and the direction of each correction are those of IEEE 1588-2019 (PRESUMED, log 128). -/

namespace Sys2Proof.Machine

/-- Position of the EtherType of a frame past its VLAN tags. -/
def typeAt (frame : List Byte) : Nat → Nat → Nat
  | 0, i => i
  | fuel + 1, i => if beNat (slice frame i 2) = 0x8100 ∨ beNat (slice frame i 2) = 0x88A8 then typeAt frame fuel (i + 4) else i

/-- Where the PTP header of an event message begins, over IEEE 802.3, UDP/IPv4 or UDP/IPv6, and where its UDP checksum stands, if it has one. -/
def ptpAt (frame : List Byte) : Option (Nat × Option Nat) :=
  let i := typeAt frame 2 12
  let type := beNat (slice frame i 2)
  let udp := fun (u : Nat) => if beNat (slice frame (u + 2) 2) = 319 then some (u + 8, some (u + 6)) else none
  let found : Option (Nat × Option Nat) :=
    if type = 0x88F7 then some (i + 2, none)
    else if type = 0x0800 ∧ (byteAt frame (i + 11)).toNat = 17 then udp (i + 2 + (byteAt frame (i + 2)).toNat % 16 * 4)
    else if type = 0x86DD ∧ (byteAt frame (i + 8)).toNat = 17 then udp (i + 42)
    else none
  found.filter fun x => decide ((byteAt frame x.1).toNat % 16 < 4) && decide (x.1 + 44 ≤ frame.length)

/-- The words of some octets. -/
def words16 : List Byte → List Nat
  | a :: b :: rest => (a.toNat * 256 + b.toNat) :: words16 rest
  | [a] => [a.toNat * 256]
  | [] => []

/-- Octets of a PTP message written, with its UDP checksum brought up to date where there is one. -/
def ptpWrite (frame : List Byte) (sum : Option Nat) (i : Nat) (v : List Byte) : List Byte :=
  let f := overlay frame i v
  match sum with
  | none => f
  | some c =>
    let old := beNat (slice frame c 2)
    if old = 0 then f
    else overlay f c (beBytes 2 (((words16 (slice frame i v.length)).zip (words16 v)).foldl (fun a w => checksumStep a w.1 w.2) old))

/-- correctionField of a message that a transparent clock has held, in 2^-16 ns (R41): the time it stayed, and the asymmetry of the link that it came by
for Sync and Pdelay_Resp, or leaves by for the requests (R64). -/
def State.residence (s : State) (type inPort outPort arrived stamp : Nat) : Int :=
  let asym := fun (n : Nat) => toSigned 32 (s.rd Od.ptpAsymmetry (portInst n))
  (stamp : Int) - (arrived : Int) + (if type = 0 ∨ type = 3 then asym inPort else -(asym outPort))

/-- What transmit writes into a frame of a port on which PTP runs (R41): the origin timestamp of a one-step Sync of an ordinary or a boundary clock, and the
correctionField of a transparent clock; a peer-to-peer one corrects Sync alone. -/
def State.ptpOut (s : State) (n : Nat) (c : Copy) (frame : List Byte) : List Byte :=
  let role := s.rd Od.ptpRole
  if s.rd Od.ptpPortEnable (portInst n) = 0 then frame
  else
    match ptpAt frame with
    | none => frame
    | some (i, sum) =>
      let type := (byteAt frame i).toNat % 16
      if (role = 1 ∨ role = 2) ∧ type = 0 ∧ bitOf (byteAt frame (i + 6)).toNat 1 = false then
        ptpWrite frame sum (i + 34) (beBytes 10 (time96 c.stamp / 65536))
      else if role = 3 ∨ (role = 4 ∧ type = 0) then
        let held := s.residence type (bits c.k.hv 1903 1888) n (ofTime96 (bits c.k.hv 2047 1952)) c.stamp
        ptpWrite frame sum (i + 8) (beBytes 8 (ofSigned 64 (toSigned 64 (beNat (slice frame (i + 8) 8)) + held)))
      else frame

/-- The transmit timestamp of an event message goes to the Keeper (R41). -/
def State.ptpStamp (s : State) (n : Nat) (c : Copy) (frame : List Byte) : State :=
  if s.rd Od.ptpPortEnable (portInst n) = 1 ∧ (ptpAt frame).isSome = true then s.emit (.ptpSent n (time96 c.stamp)) else s

/-- Package time of the first byte of a frame that leaves port `n` now, with TS_TX_ADJUST added (R40, R78). -/
def State.txStamp (s : State) (n : Nat) : Nat := ((s.time.now : Int) + toSigned 32 (s.rd Od.tsTxAdjust (portInst n))).toNat

end Sys2Proof.Machine
end

