-- ==== Sys2Proof/Machine/PortSched.lean ====
section
/-! DEFINITION. Transmission: the port scheduler, shapers and gates (R293 to R297), PFC (R285, R286), the end of a frame (R111), the end
of a transmission and of a drain (R90, R262), and the Keeper's thresholds (R288). -/

namespace Sys2Proof.Machine

/-! Gates (R295 to R297). -/

/-- Family number of the gate lists of a port. -/
def gateFam (n : Nat) : Nat := 0x1000 + n

/-- A port with no operational list. -/
def Gate.fresh : Gate := { cycle := 1000000, length := 0, entry := 0, swap := none }
def State.gate (s : State) (n : Nat) : Gate := sparseGet (fun _ => Gate.fresh) s.tm.gates n
def State.setGate (s : State) (n : Nat) (g : Gate) : State :=
  { s with tm := { s.tm with gates := sparseSet (fun _ => Gate.fresh) s.tm.gates n g } }

/-- The entries of one cycle as open classes and duration: the last holds to the end of the cycle, which cuts what is beyond it. -/
def gateEntries : List Nat → Nat → List (Nat × Nat)
  | [], _ => []
  | [r], left => [(bits r 63 56, left)]
  | r :: rest, left =>
    if left ≤ bits r 31 0 then [(bits r 63 56, left)] else (bits r 63 56, bits r 31 0) :: gateEntries rest (left - bits r 31 0)

/-- The entries of a gate list of a port in a bank, over one cycle. -/
def State.gateList (s : State) (n bank length cycle : Nat) : List (Nat × Nat) :=
  gateEntries ((List.range length).map fun i => s.tbl bank 0x66 (n * 256 + i)) cycle

/-- The operational entries of a port. -/
def State.operational (s : State) (n : Nat) : List (Nat × Nat) :=
  s.gateList n (s.fam (gateFam n)).live (s.gate n).length (s.gate n).cycle

/-- Instant of a port's cycle (R296). -/
def State.cyclePos (s : State) (n : Nat) : Nat :=
  (((s.ns : Int) - (ofTime96 (s.rd Od.gclOperBase (portInst n)) / 65536 : Nat)) % ((s.gate n).cycle : Int)).toNat

/-- The entry at an instant of a cycle, and what is left of it. -/
def entryAt : List (Nat × Nat) → Nat → Nat → Nat × Nat
  | [], _, i => (i, 0)
  | e :: rest, pos, i => if pos < e.2 then (i, e.2 - pos) else entryAt rest (pos - e.2) (i + 1)

/-- The gates of a port stand where package time puts them. -/
def State.settleGate (s : State) (n : Nat) : State :=
  let g := s.gate n
  if g.length = 0 then s else s.setGate n { g with entry := (entryAt (s.operational n) (s.cyclePos n) 0).1 }

/-- Time for which a class stays open over the periods of a list; none where it never closes in it. -/
def openFor (t : Nat) : List (Nat × Nat) → Option Nat
  | [] => none
  | e :: rest => if bitOf e.1 t then (openFor t rest).map (· + e.2) else some 0

/-- For how long the list in force leaves a class open, as far as it alone decides: none without end. -/
def State.listOpen (s : State) (n t : Nat) : Option Nat :=
  let g := s.gate n
  if g.length = 0 then none
  else
    let l := s.operational n
    let now := (bits ((l.getD g.entry (0, 0)).1) 7 0, (entryAt l (s.cyclePos n) 0).2)
    openFor t (now :: (l.drop (g.entry + 1) ++ l))

/-- For how long the list of a waiting swap leaves a class open from its start. -/
def State.nextOpen (s : State) (n t : Nat) (x : GateSwap) : Option Nat :=
  if x.length = 0 then none else openFor t (s.gateList n (1 - (s.fam (gateFam n)).live) x.length x.cycle)

/-- Whether the gate of a class is open, and for how long: none without end. A swap whose start is known may close it (R296, R297). -/
def State.gateOpen (s : State) (n t : Nat) : Bool × Option Nat :=
  let g := s.gate n
  let now := g.length = 0 || bitOf (((s.operational n).getD g.entry (0, 0)).1) t
  match g.swap with
  | none => (now, s.listOpen n t)
  | some x =>
    let left := x.start - s.ns
    match s.listOpen n t with
    | some c => (now, if c < left then some c else (s.nextOpen n t x).map (· + left))
    | none => (now, (s.nextOpen n t x).map (· + left))

/-- GATE_ENTRY_CHANGE (R296): the list stands where package time puts it. -/
def execGateEntryChange (n : Nat) (s : State) : Answer := withLane s n (s.settleGate n)

/-- GCL_SWAP at the boundary of its epoch (R297): the swap waits for the first cycle start at or after it. `named` is the epoch it named. -/
def State.armGates (s : State) (n epoch named : Nat) : State :=
  let i := portInst n
  let base := s.rd Od.gclBaseTime i
  let cycle := s.rd Od.gclCycleTime i
  let b := ofTime96 base / 65536
  let start := if s.ns ≤ b then b else b + ((s.ns - b + cycle - 1) / cycle) * cycle
  let x : GateSwap := { start := start, base := base, cycle := cycle, length := s.rd Od.gclLength i, epoch := epoch, named := named }
  s.setGate n { s.gate n with swap := some x }

/-- SWAP_DONE of a swap whose old bank is held (R58, R433). -/
def State.swapDone (s : State) (f : Nat) (a : Address) (stepped : Bool) (named lastSeq : Nat) : State :=
  ((s.schedReport (schedEntry 1 0 (b2n stepped) 1 s.sched.gen a.inst a.index a.sub named lastSeq)).fireLead evSwapDone).adopt f

/-- GCL_SWAP_APPLY (R297): the shadow list becomes operational; the old one is held until E + 2, if that is later. -/
def execGclSwapApply (n : Nat) (s : State) : Answer :=
  withLane s n <|
    match (s.gate n).swap with
    | none => s
    | some x =>
      if s.ns < x.start then s
      else
        let f := gateFam n
        let a : Address := { inst := portInst n, index := 0x6800, sub := 1 }
        let s1 := (s.wr Od.gclOperBase x.base (portInst n)).setGate n { cycle := x.cycle, length := x.length, entry := 0, swap := none }
        let s2 := (s1.flipBank f a x.epoch false).swapDone f a (decide (x.named < x.epoch)) x.named (s.fam f).lastSeq
        let s3 : State :=
          if x.epoch + 2 ≤ s.time.epoch then
            match s2.sched.holds.find? fun h => h.fam = f with
            | some h => ({ s2 with sched := { s2.sched with holds := s2.sched.holds.filter fun (y : Hold) => y.fam ≠ f } }).announceRelease h
            | none => s2
          else s2
        s3.settleGate n

/-! Shapers (R294). Levels are in 1/8000 byte. -/

/-- A bucket filled at a rate in Mbit/s up to a burst in bytes. -/
def Bucket.fill (b : Bucket) (rate burst ns : Nat) : Bucket :=
  { level := min ((burst * 8000 : Nat) : Int) (b.level + (rate * (ns - b.at_) : Nat)), at_ := max ns b.at_ }

/-- An unused bucket. -/
def Bucket.fresh : Bucket := { level := 0, at_ := 0 }

/-- Class and port shapers as they stand now. -/
def State.classShaper (s : State) (pc : Nat) : Bucket :=
  (sparseGet (fun _ => Bucket.fresh) s.tm.shapers pc).fill (s.rd Od.shapeRate (portInst (pc / 8)) (pc % 8))
    (s.rd Od.shapeBurst (portInst (pc / 8)) (pc % 8)) s.up
def State.portShaper (s : State) (n : Nat) : Bucket :=
  (sparseGet (fun _ => Bucket.fresh) s.tm.portShapers n).fill (s.rd Od.portShapeRate (portInst n)) (s.rd Od.portShapeBurst (portInst n)) s.up

/-- Charge of a frame to the shapers whose rate is not 0. -/
def State.chargeShapers (s : State) (pc bytes : Nat) : State :=
  let n := pc / 8
  let i := portInst n
  let units : Int := ((bytes + s.rd Od.shapeOverhead i) * 8000 : Nat)
  let b := s.classShaper pc
  let q := s.portShaper n
  let s1 : State :=
    if s.rd Od.shapeRate i (pc % 8) = 0 then s
    else { s with tm := { s.tm with shapers := sparsePut s.tm.shapers pc { b with level := b.level - units } } }
  if s.rd Od.portShapeRate i = 0 then s1
  else { s1 with tm := { s1.tm with portShapers := sparsePut s1.tm.portShapers n { q with level := q.level - units } } }

/-! The scheduler (R293). -/

/-- Octets of a copy on the wire, as far as they are known: EGRESS_MTU while the length is not (R296). -/
def Copy.wireLength (c : Copy) : Nat := if c.k.ended then max 64 (c.out.length + 4) else c.mtu

/-- Whether a class is paused (R285, R286). -/
def State.paused (s : State) (pc : Nat) : Bool :=
  match sparseFind? s.tm.pauses pc with
  | some p => !p.storm && decide (s.up < p.until_)
  | none => false

/-- Time of a frame on a port in ns. -/
def State.wireTime (s : State) (n bytes : Nat) : Nat :=
  let r := max 1 (modeRate (s.portModeOf n))
  ((bytes + s.rd Od.shapeOverhead (portInst n)) * 8 + r - 1) / r

/-- Copies at the head of a transmit queue that are bad at their end are discarded when dequeued (R111). -/
def State.dropBad (s : State) (pc : Nat) : Nat → State
  | 0 => s
  | fuel + 1 =>
    match s.txQueue pc with
    | [] => s
    | i :: rest =>
      match s.copy? i with
      | none => (s.setTxQueue pc rest).dropBad pc fuel
      | some c => if c.k.bad then (((s.setTxQueue pc rest).restoreStanding c).endCopy i c).dropBad pc fuel else s

/-- Whether a copy may begin on its port (R24): a frame whose port is slower than its ingress port is stored in full first. -/
def State.storedEnough (s : State) (n : Nat) (c : Copy) : Bool :=
  c.k.ended || decide (modeRate (s.portModeOf (bits c.k.hv 1903 1888)) ≤ modeRate (s.portModeOf n))

/-- Whether a class would be served but for the length of its gate's open period: eligible, and held back (R293, R296). -/
def State.classReady (s : State) (n t : Nat) : Bool × Bool :=
  let pc := n * 8 + t
  match (s.txQueue pc).head?.bind s.copy? with
  | none => (false, false)
  | some c =>
    let g := s.gateOpen n t
    let able := g.1 && s.storedEnough n c && !(s.paused pc) && (s.rd Od.shapeRate (portInst n) t = 0 || decide (0 ≤ (s.classShaper pc).level))
    let fits := match g.2 with
      | none => true
      | some left => decide (s.wireTime n c.wireLength ≤ left)
    (able && fits, able && !fits)

/-- A frame held back by its gate counts once (R296). -/
def State.countHeld (s : State) (n t : Nat) : State :=
  match (s.txQueue (n * 8 + t)).head? with
  | none => s
  | some i =>
    match s.copy? i with
    | none => s
    | some c => if c.heldBack then s else (s.setCopy i { c with heldBack := true }).bump Od.gclOverrunHolds (portInst n)

/-- Deficit of a weighted class. -/
def State.weight (s : State) (pc : Nat) : Int := sparseGet (fun _ => (0 : Int)) s.tm.weights pc
def State.setWeight (s : State) (pc : Nat) (v : Int) : State :=
  { s with tm := { s.tm with weights := sparseSet (fun _ => (0 : Int)) s.tm.weights pc v } }

/-- The weighted class next in deficit order, with every deficit refilled while none is above 0. -/
def State.weightTurn (s : State) (n : Nat) (classes : List Nat) : Nat → State × Option Nat
  | 0 => (s, classes.head?)
  | fuel + 1 =>
    match classes.find? fun t => decide (0 < s.weight (n * 8 + t)) with
    | some t => (s, some t)
    | none =>
      (classes.foldl (fun a t => a.setWeight (n * 8 + t) (a.weight (n * 8 + t) + (s.rd Od.schedWeight (portInst n) t * 256 : Nat))) s).weightTurn
        n classes fuel

/-- The class that is served: the highest strict one, else the weighted one in turn. -/
def State.pickClass (s : State) (n : Nat) (ready : List Nat) : State × Option Nat :=
  match (ready.filter fun t => s.rd Od.schedMode (portInst n) t = 0).getLast? with
  | some t => (s, some t)
  | none => s.weightTurn n ready 64

/-- The octets charged for a frame whose length was not known when it started give way to its own (R294). -/
def State.settleCharge (s : State) (n : Nat) (c : Copy) (bytes : Nat) : State :=
  let i := portInst n
  let t := c.pc % 8
  let more : Int := (bytes : Int) - (c.charged : Nat)
  if more = 0 then s
  else
    let b := s.classShaper c.pc
    let q := s.portShaper n
    let s1 : State :=
      if s.rd Od.shapeRate i t = 0 then s
      else { s with tm := { s.tm with shapers := sparsePut s.tm.shapers c.pc { b with level := b.level - more * 8000 } } }
    let s2 : State :=
      if s.rd Od.portShapeRate i = 0 then s1
      else { s1 with tm := { s1.tm with portShapers := sparsePut s1.tm.portShapers n { q with level := q.level - more * 8000 } } }
    if s.rd Od.schedMode i t = 0 then s2 else s2.setWeight c.pc (s2.weight c.pc - more)

/-- The buckets of a shaper stand where its old rate and burst have filled them, before a new value takes effect (R294). -/
def State.settleShapers (s : State) (a : Address) : State :=
  let n := a.inst - 0x1000
  let pc := n * 8 + (a.index - 0x64A0)
  if 0x64A0 ≤ a.index ∧ a.index < 0x64A8 ∧ (a.sub = 3 ∨ a.sub = 4) then
    { s with tm := { s.tm with shapers := sparsePut s.tm.shapers pc (s.classShaper pc) } }
  else if a.index = 0x64B0 ∧ (a.sub = 1 ∨ a.sub = 2) then
    { s with tm := { s.tm with portShapers := sparsePut s.tm.portShapers n (s.portShaper n) } }
  else s

/-- A new PFC_WATCHDOG times the pauses that last (R286). -/
def State.watchPauses (s : State) (n : Nat) : State :=
  let w := s.rd Od.pfcWatchdog (portInst n) * 1000
  if w = 0 then s
  else (List.range 8).foldl (fun (a : State) t => match sparseFind? a.tm.pauses (n * 8 + t) with
    | some p => if p.storm then a else a.later (p.from_ + w - a.up) (.pfcWatchdogExpire n t)
    | none => a) s

/-- A copy begins on its port. -/
def State.beginFrame (s : State) (n t : Nat) : State :=
  let pc := n * 8 + t
  match s.txQueue pc with
  | [] => s
  | i :: rest =>
    match s.copy? i with
    | none => s.setTxQueue pc rest
    | some c =>
      let s1 := ((s.setTxQueue pc rest).setCopy i { c with stage := .sending, stamp := s.txStamp n, charged := c.wireLength }).chargeShapers pc c.wireLength
      let s2 := if s.rd Od.schedMode (portInst n) t = 0 then s1 else s1.setWeight pc (s1.weight pc - (c.wireLength : Nat))
      { s2 with tm := { s2.tm with sending := sparsePut s2.tm.sending n i } }

/-- The transmit queues of a port that is down are discarded as they are dequeued (R89). -/
def State.discardQueues (s : State) (n : Nat) : State :=
  (List.range 8).foldl (fun a t =>
    (a.txQueue (n * 8 + t)).foldl (fun b i => match b.copy? i with
      | some c => ((b.bump Od.portDownDiscards (portInst n)).restoreStanding c).endCopy i c
      | none => b) (a.setTxQueue (n * 8 + t) [])) s

/-- PORT_FRAME_START (R293 to R296). -/
def State.frameStart (s : State) (n : Nat) : State :=
  if (sparseFind? s.tm.sending n).isSome then s
  else if s.portTakes n = false then s.discardQueues n
  else
    let s0 := (List.range 8).foldl (fun a t => a.dropBad (n * 8 + t) (a.txQueue (n * 8 + t)).length) (s.settleGate n)
    if s0.rd Od.portShapeRate (portInst n) ≠ 0 ∧ (s0.portShaper n).level < 0 then s0
    else
      let s1 := (List.range 8).foldl (fun a t => if (s0.classReady n t).2 then a.countHeld n t else a) s0
      let x := s1.pickClass n ((List.range 8).filter fun t => (s0.classReady n t).1)
      match x.2 with
      | none => s1
      | some t => x.1.beginFrame n t

/-- PORT_FRAME_START. -/
def execPortFrameStart (n : Nat) (s : State) : Answer := withLane s n (s.frameStart n)

/-- TRANSMIT_DONE (R41, R70, R111, R242, R262, R278): the last byte of a port's copy has passed to the transmit PCS. A copy that is bad at its end
carries the complement of its FCS. -/
def State.transmitDone (s : State) (n i : Nat) (c : Copy) : State :=
  let bytes := frameOf (s.ptpOut n c c.out) (!c.k.bad)
  let s0 := ((s.ptpStamp n c c.out).codeFrame n bytes).settleCharge n c bytes.length
  let s1 : State := { s0 with tm := { s0.tm with sending := sparseErase s0.tm.sending n } }
  let s2 := if c.k.bad then s1.macCount n 8 1 else (s1.macCount n 6 1).macCount n 7 bytes.length
  (((s2.bwCount n bytes.length true).emit (.frame n bytes)).restoreStanding c).endCopy i c

/-- TRANSMIT_DONE: a frame whose end has not arrived is still being sent. -/
def execTransmitDone (n : Nat) (s : State) : Answer :=
  withLane s n <|
    match sparseFind? s.tm.sending n with
    | none => s
    | some i =>
      match s.copy? i with
      | none => { s with tm := { s.tm with sending := sparseErase s.tm.sending n } }
      | some c => if c.k.ended then s.transmitDone n i c else s

/-- Copies of a port that are in its transmit queues or on their way through the egress pipeline. -/
def State.copiesAt (s : State) (n : Nat) : List (Nat × Copy) :=
  s.tm.copies.filter fun (e : Nat × Copy) =>
    !e.2.isFan && e.2.port = n && (e.2.stage = .arrived || e.2.stage = .egress || e.2.stage = .queued || e.2.stage = .sending)

/-- PORT_DRAIN_END (R90): the egress queues of the port are empty, or PORT_DRAIN_LIMIT has expired. -/
def execPortDrainEnd (n : Nat) (expired : Bool) (s : State) : Answer :=
  withLane s n <|
    let st := s.portStateOf n
    let left := s.copiesAt n
    if (st ≠ 4 ∧ st ≠ 5) ∨ (left ≠ [] ∧ (expired = false ∨ s.drainExpired n = false)) then s
    else
      let s1 := left.foldl (fun (a : State) e =>
        ((((a.endThreadsOf e.2.k.pipe true e.1).outOfEngine (engineOf e.2.k.pipe true) e.1).bump Od.portDrainDiscards (portInst n) 0
          e.2.cells).restoreStanding e.2).endCopy e.1 e.2) s
      let s2 : State := { (List.range 8).foldl (fun (a : State) t => a.setTxQueue (n * 8 + t) []) s1 with
        tm := { ((List.range 8).foldl (fun (a : State) t => a.setTxQueue (n * 8 + t) []) s1).tm with sending := sparseErase s1.tm.sending n } }
      if st = 5 then s2.startTraining n false else s2.squelch n

/-! The end of a frame (R111, R261). -/

/-- A copy of a frame learns how the frame ended. -/
def State.endCopyFrame (s : State) (i : Nat) (c : Copy) (bad : Bool) : State :=
  let c1 : Copy := { c with k := { c.k with ended := true, bad := c.k.bad || bad }, origin := 0 }
  if (c.stage = .queued ∨ c.stage = .sending) ∧ min 10240 c.mtu < c.out.length + 4 then
    let s1 := s.bump Od.rewriteMtuDrop (dieInst c.die)
    if c.stage = .sending then s1.setCopy i { c1 with k := { c1.k with bad := true } }
    else ((s1.setTxQueue c.pc ((s1.txQueue c.pc).filter (· ≠ i))).restoreStanding c1).endCopy i c1
  else s.setCopy i c1

/-- FRAME_END (R111): a frame longer than the parser's intake ends. `parsed` is its packet as the parse left it, for one that is gone. -/
def State.frameEnd (s : State) (p n : Nat) (frame : List Byte) (parsed : Option Packet) (truncated : Bool) : State :=
  let d := n / 64
  let o := n % 64 / 8
  let fcs := goodFcs frame
  let held := (s.packets.filter fun (e : Nat × Packet) => e.1 = p || e.2.origin = p).map (·.2)
  let copies := s.tm.copies.filter fun (e : Nat × Copy) => e.2.origin = p
  let whole := (held ++ copies.map fun (e : Nat × Copy) => e.2.k).head?.or parsed
  let late := (whole.map fun k => decide (frame.length - 4 < hvL3End k.hv)).getD false
  let bad := truncated || !fcs || late
  let s1 := if truncated then s.macCount n 4 1 else if fcs then (s.macCount n 0 1).macCount n 1 frame.length else s.macCount n 2 1
  let s2 := match late, whole with
    | true, some k =>
      s1.lateLength { k with frame := frame, pipe := d * 16 + s.pipeOf d false o }
    | _, _ => s1
  let s3 : State :=
    { s2 with packets := s2.packets.map fun (e : Nat × Packet) =>
        if e.1 = p || e.2.origin = p then (e.1, { e.2 with ended := true, bad := e.2.bad || bad, origin := 0 }) else e }
  let s4 := copies.foldl (fun (a : State) e => a.endCopyFrame e.1 e.2 bad) s3
  let adds := s4.ae.late.filter fun e => e.1 = p
  let s5 := adds.foldl (fun (a : State) e => a.addCounter (e.2 / 2097152) (e.2 % 2097152) frame.length)
    { s4 with ae := { s4.ae with late := s4.ae.late.filter fun e => e.1 ≠ p } }
  ({ s5 with bufs := { s5.bufs with tails := sparseErase s5.bufs.tails p } }).refill d o

/-- FRAME_END (R69): a frame of more than 10,240 bytes is truncated and counts as oversize. -/
def execFrameEnd (p : Nat) (truncated : Bool) (s : State) : Answer :=
  match sparseFind? s.bufs.tails p with
  | none => .next s
  | some x => running s (s.frameEnd p x.port (x.frame.take 10240) x.parsed (truncated || decide (10240 < x.frame.length)))

/-! PFC (R285, R286). -/

/-- Write a pause, or end it. -/
def State.setPause (s : State) (pc : Nat) (p : Option Pause) : State :=
  let l := match p with
    | some x => sparsePut s.tm.pauses pc x
    | none => sparseErase s.tm.pauses pc
  ({ s with tm := { s.tm with pauses := l } }).wr Od.pfcRxPaused (b2n (p.any fun (x : Pause) => !x.storm)) (portInst (pc / 8)) (pc % 8)

/-- A pause time for a class. -/
def State.pauseClass (s : State) (n t quanta : Nat) : State :=
  let pc := n * 8 + t
  let old := sparseFind? s.tm.pauses pc
  if quanta = 0 then s.setPause pc none
  else
    let ns := quanta * 512 / max 1 (modeRate (s.portModeOf n))
    match old with
    | some p =>
      if p.storm then (s.setPause pc (some { p with heard := s.up })).later 100000000 (.pfcStormEnd n t)
      else
        let from_ := if s.up < p.until_ then p.from_ else s.up
        (s.setPause pc (some { p with until_ := s.up + ns, from_ := from_, heard := s.up })).later ns (.pfcPauseExpire n t)
    | none =>
      let s1 := (s.setPause pc (some { until_ := s.up + ns, from_ := s.up, heard := s.up, storm := false })).later ns (.pfcPauseExpire n t)
      if s.rd Od.pfcWatchdog (portInst n) = 0 then s1 else s1.later (s.rd Od.pfcWatchdog (portInst n) * 1000) (.pfcWatchdogExpire n t)

/-- PFC_FRAME_RX (R285): a MAC control frame with its opcode, class-enable vector and eight pause times. -/
def execPfcFrameRx (n opcode vector : Nat) (times : List Nat) (s : State) : Answer :=
  withLane s n <|
    if s.portStateOf n ≠ 2 then s
    else if opcode ≠ 0x0101 then (s.countControl n false false).bump Od.pauseFramesDiscarded (portInst n)
    else
      (List.range 8).foldl (fun (a : State) t =>
        if bitOf vector t && bitOf (s.rd Od.pfcRxEnable (portInst n)) t then a.pauseClass n t (times.getD t 0 % 65536) else a)
        (s.countControl n false true)

/-- PFC_PAUSE_EXPIRE (R285). -/
def execPfcPauseExpire (n t : Nat) (s : State) : Answer :=
  withLane s n <|
    match sparseFind? s.tm.pauses (n * 8 + t) with
    | some p => if p.storm = false ∧ p.until_ ≤ s.up then s.setPause (n * 8 + t) none else s
    | none => s

/-- PFC_WATCHDOG_EXPIRE (R286): a class paused without a break for PFC_WATCHDOG is in a storm. -/
def execPfcWatchdogExpire (n t : Nat) (s : State) : Answer :=
  withLane s n <|
    let w := s.rd Od.pfcWatchdog (portInst n) * 1000
    match sparseFind? s.tm.pauses (n * 8 + t) with
    | some p =>
      if w ≠ 0 ∧ p.storm = false ∧ s.up < p.until_ then
        if p.from_ + w ≤ s.up then
          ((s.setPause (n * 8 + t) (some { p with storm := true })).fire (n / 64) 0x152).later (p.heard + 100000000 - s.up) (.pfcStormEnd n t)
        else s.later (p.from_ + w - s.up) (.pfcWatchdogExpire n t)
      else s
    | none => s

/-- PFC_STORM_END (R286): no PFC frame for the priority for 100 ms. -/
def execPfcStormEnd (n t : Nat) (s : State) : Answer :=
  withLane s n <|
    match sparseFind? s.tm.pauses (n * 8 + t) with
    | some p => if p.storm = true ∧ p.heard + 100000000 ≤ s.up then s.setPause (n * 8 + t) none else s
    | none => s

/-! Thresholds (R288). -/

/-- Address of a class's THRESH_ALPHA. -/
def alphaAddress (t : Nat) : Address := { inst := 0, index := 0x6400 + t, sub := 2 }

/-- THRESH_ADJUST (R37, R288): in AUTO the Keeper moves each class's k by one, or into its limits, at the earliest epoch it may name. -/
def execThreshAdjust (s : State) : Answer :=
  running s <|
    let next := fun (t : Nat) =>
      let k := s.rd Od.threshAlpha 0 t
      let dropped := s.part.dies.any fun d => bitOf s.tm.dropped (d * 8 + t) && !bitOf s.tm.lowF d
      let moved := if bitOf s.tm.squeezed t then k - 1 else if dropped then k + 1 else k
      min (s.rd Od.threshAlphaMax 0 t) (max (s.rd Od.threshAlphaMin 0 t) moved)
    let s1 :=
      if s.rd Od.threshMode ≠ 0 then s
      else (List.range 8).foldl (fun (a : State) t =>
        if next t = s.rd Od.threshAlpha 0 t ∨ (s.newestPending (alphaAddress t)).isSome = true ∨ a.changeRoom = false then a
        else a.addChange (s.time.epoch + 4) (alphaAddress t) (next t) true 0) s
    ({ s1 with tm := { s1.tm with dropped := 0, lowF := 0, squeezed := 0 } }).later (s.rd Od.threshInterval * 1000) .threshAdjust

end Sys2Proof.Machine
end

