-- ==== Sys2Proof/Machine/Loopback.lean ====
section
/-! DEFINITION. The loopback path: its claim, slots and injection, and the removal of late packets (R246 to R250). -/

namespace Sys2Proof.Machine

/-- A write of LOOPBACK_CLAIM (R246, R260, R346): a holder claim; each share in use holds 512 cells of every die. -/
def State.writeLoop (s : State) (c : WriteCtx) : WriteRes :=
  let r := s.claim c
  if r.status ≠ .ok then r
  else
    let room := fun (share : Nat) => if r.state.loopShare share then 512 else 0
    { r with state := s.part.dies.foldl (fun (a : State) d => (a.setReserved d 8 (room 0)).setReserved d 9 (room 1)) r.state }

/-- The share of a queue on the loopback path: 1 for a mirror copy. -/
def Packet.share (k : Packet) : Nat := b2n k.mirror.isSome

/-- A packet on the loopback path gives its old cells up (R262). -/
def State.leaveOldCells (s : State) (k : Packet) : State :=
  if k.head = noCells then s
  else if k.owns then s.freePacket k.die k.head k.tag 4 k.share
  else s.releasePacket k.die k.head 4 k.share

/-- A packet on the loopback path is dropped. -/
def State.dropLoop (s : State) (p : Nat) (k : Packet) : State :=
  let d := k.die
  let s1 := s.setLoopQueue d k.share ((s.loopQueue d k.share).filter (· ≠ p))
  (s1.endIngress p k).leaveOldCells k

/-- Sixteenths of a share (R246). -/
def State.loopFraction (s : State) (share : Nat) : Nat :=
  let c := s.rd Od.loopbackClaim
  let r := s.rd Od.loopbackRecircShare
  if c = 3 then (if share = 0 then r else 16 - r) else if c = share + 1 then 16 else 0

/-- Cells served to a share. -/
def State.loopServedOf (s : State) (d share : Nat) : Nat := sparseGet (fun _ => 0) s.tm.loopServed (d * 2 + share)

/-- A share's packet whose frame has ended. -/
def State.loopHead (s : State) (d share : Nat) : Option (Nat × Packet) :=
  match s.loopQueue d share with
  | [] => none
  | p :: _ => (s.packet? p).bind fun k => if k.ended then some (p, k) else none

/-- The share to be served: the one behind its fraction, or the other where it cannot use the slot (R247). -/
def State.loopTurn (s : State) (d : Nat) : Option (Nat × Packet) :=
  let behind := if s.loopServedOf d 0 * s.loopFraction 1 ≤ s.loopServedOf d 1 * s.loopFraction 0 then 0 else 1
  (s.loopHead d behind).or (s.loopHead d (1 - behind))

/-- A packet is served: it enters new cells of class 9 (R247, R249, R258). A mirror copy is then enqueued without a parse (R252). -/
def State.serveLoop (s : State) (d p : Nat) (k : Packet) : State :=
  let n := cellsOf k.frame.length
  let s1 : State :=
    { s.setLoopQueue d k.share ((s.loopQueue d k.share).filter (· ≠ p)) with
      tm := { (s.setLoopQueue d k.share ((s.loopQueue d k.share).filter (· ≠ p))).tm with
        loopServed := sparsePut s.tm.loopServed (d * 2 + k.share) (s.loopServedOf d k.share + n) } }
  let s2 := s1.leaveOldCells k
  if k.bad then s2.endIngress p k
  else
    let x := s2.openRecord d 15 (8 + k.share) 9 k.frame.length (if k.mirror.isSome then 1 else 4) (if k.mirror.isSome then k.pipe else 0)
    x.1.setPacket p { k with stage := if k.mirror.isSome then .left else .renewed, head := x.2.1, tag := x.2.2, owns := true, since := s.up }

/-- LOOPBACK_SLOT (R247). -/
def execLoopbackSlot (d : Nat) (s : State) : Answer :=
  withDie s d <|
    match s.loopTurn d with
    | some (p, k) => s.serveLoop d p k
    | none => s

/-- LOOPBACK_INJECT (R248, R249): on a clock that the octet leaves free, or on the next one after 1 µs of waiting. -/
def execLoopbackInject (p : Nat) (free : Bool) (s : State) : Answer :=
  withPacket s p (fun k => k.stage = .renewed && (free || decide (k.since + 1000 ≤ s.up))) fun k =>
    let pipe := k.die * 16 + s.pipeOf k.die false (k.octet % 8)
    let s1 := if free then s else s.bump Od.loopbackInjectClocks (dieInst k.die)
    (s1.giveTo k.die k.head 1 pipe 0).setPacket p { k with stage := .received, pipe := pipe, owns := false }

/-- Whether a packet is inside its ingress pass (R250). -/
def Packet.inPass (k : Packet) : Bool :=
  k.stage = .received || k.stage = .parsed || k.stage = .searching || k.stage = .ready || k.stage = .running || k.stage = .checking
    || k.stage = .passed || k.stage = .left || k.stage = .spare

/-- A packet removed for its age (R250): its log is discarded, its reservations are refunded and its context is unlocked. -/
def State.removeLate (s : State) (p : Nat) (k : Packet) : State :=
  let i := dieInst k.die
  if k.mirror.isSome then s
  else if (k.stage = .looping ∨ k.stage = .renewed) ∧ 36000 ≤ s.age k then
    let s1 := s.bump Od.recircDropLate i
    if k.stage = .looping then s1.dropLoop p k else ((s1.giveTo k.die k.head 1 k.pipe 0).dropPacket p k)
  else if k.inPass ∧ 40000 ≤ s.age k then
    ((s.bump (if hvPass k.hv = 0 then Od.ingressDropLate else Od.recircDropLate) i).leaveLookups p k).dropItem false p k
  else s

/-- Frames that have waited at frame start for 40 µs are removed (R250). -/
def State.removeLateStarts (s : State) (d o : Nat) : State :=
  let expired := fun (w : FrameWait) => decide (w.since + 40000 ≤ s.up)
  let line := s.waitingAt d o
  (line.filter expired).foldl (fun (a : State) w => (a.dropFlight d (hvGen w.hv)).bump Od.ingressDropLate (dieInst d))
    (s.setWaiting d o (line.filter fun w => !expired w))

/-- Whether a packet or a waiting frame of a die has reached its age (R250). -/
def State.packetsOld (s : State) (d : Nat) : Bool :=
  (s.packets.any fun (e : Nat × Packet) => e.2.die = d && e.2.mirror.isNone &&
    (((e.2.stage = .looping || e.2.stage = .renewed) && decide (36000 ≤ s.age e.2)) || (e.2.inPass && decide (40000 ≤ s.age e.2))))
    || (List.range 8).any fun o => (s.waitingAt d o).any fun w => decide (w.since + 40000 ≤ s.up)

/-- LATE_REMOVAL (R250): the packets of a die that have reached their age are removed at the next clock. -/
def execLateRemoval (d : Nat) (s : State) : Answer :=
  withDie s d <|
    let s1 := (List.range 8).foldl (fun (a : State) o => a.removeLateStarts d o) s
    (s1.packets.filter fun (e : Nat × Packet) => e.2.die = d).foldl (fun (a : State) e => a.removeLate e.1 e.2) s1

end Sys2Proof.Machine
end

