-- ==== Sys2Proof/Machine/Spill.lean ====
section
/-! DEFINITION. HBM spill and the pseudo-channels (R270 to R273, R291, R292). -/

namespace Sys2Proof.Machine

/-! Pages (R271, R272). -/

/-- Pages of a die in use. -/
def State.pagesOf (s : State) (d : Nat) : List (Nat × SpillPage) :=
  (s.bufs.pages.filter fun (e : Nat × SpillPage) => e.1 / 16777216 = d).map fun e => (e.1 % 16777216, e.2)
def State.setPage (s : State) (d page : Nat) (x : SpillPage) : State :=
  { s with bufs := { s.bufs with pages := sparsePut s.bufs.pages (d * 16777216 + page) x } }

/-- The page at the end of a VOQ's chain, and that page if it is open. -/
def State.lastPage (s : State) (d v : Nat) : Option (Nat × SpillPage) := (s.pagesOf d).find? fun e => e.2.voq = v && e.2.next.isNone
def State.openPage (s : State) (d v : Nat) : Option (Nat × SpillPage) := (s.lastPage d v).bind fun e => if e.2.closed then none else some e

/-- Cell slots used in a page: CELLS of its header. -/
def SpillPage.used (x : SpillPage) : Nat := x.parts.foldl (fun a e => a + e.2.1) 0

/-- The lowest free page of a die. -/
def State.freePage (s : State) (d : Nat) : Option Nat :=
  let used := (s.pagesOf d).map (·.1)
  if s.spillPagesFree d = 0 then none else (List.range (used.length + 1)).find? fun p => !used.contains p

/-- Pages besides the open one that a packet of `n` cells needs. -/
def State.pagesNeeded (s : State) (d v n : Nat) : Nat :=
  match s.openPage d v with
  | some (_, x) => (n - (63 - x.used) + 62) / 63
  | none => (n + 62) / 63

/-- Logical channels over which a die's addresses are spread: those not mapped out (R273; log 141). -/
def State.spillChannels (s : State) (d : Nat) : List Nat := (List.range 30).filter fun c => !s.bufs.lostChannels.contains (d, c)

/-- A VOQ's chain goes on with a free page. -/
def State.beginPage (s : State) (d v : Nat) : Option (State × Nat × SpillPage) :=
  (s.freePage d).map fun p =>
    let linked := match s.lastPage d v with
      | some (q, x) => s.setPage d q { x with next := some p }
      | none => s
    (linked, p, { next := none, voq := v, parts := [], records := [], closed := false, channels := s.spillChannels d })

/-- The cells of a copy are given slots in its VOQ's chain, its record in the page of its head cell; a page is closed when it is full, or when
it has its 31st record and that packet's cells (R271, R272). -/
def State.fillPages (s : State) (d v i : Nat) : Option SpillRecord → Nat → Nat → State
  | _, 0, _ => s
  | _, _, 0 => s
  | record, fuel + 1, n =>
    match ((s.openPage d v).map fun e => (s, e)).or (s.beginPage d v) with
    | none => s
    | some (t, p, x) =>
      let m := min n (63 - x.used)
      let own := record.map fun r => { r with record := { r.record with loc := x.used + 1 } }
      let y : SpillPage := { x with parts := x.parts ++ [(i, m, false)], records := x.records ++ own.toList }
      let done := decide (y.used = 63) || (m = n && decide (31 ≤ y.records.length))
      (t.setPage d p { y with closed := done }).fillPages d v i none fuel (n - m)

/-- The record of a spilled copy in its page header. -/
def State.spillRecord? (s : State) (d i : Nat) : Option SpillRecord := ((s.pagesOf d).flatMap fun e => e.2.records).find? fun r => r.copy = i

/-- A record in a page header changes. -/
def State.setSpillRecord (s : State) (d i : Nat) (f : PacketRecord → PacketRecord) : State :=
  { s with bufs := { s.bufs with pages := s.bufs.pages.map fun (e : Nat × SpillPage) =>
      if e.1 / 16777216 = d then
        (e.1, { e.2 with records := e.2.records.map fun r => if r.copy = i then { r with record := f r.record } else r })
      else e } }

/-- The last cell of a page has been read back: the page is free, and the chain passes it by. -/
def State.dropPage (s : State) (d p : Nat) : State :=
  let next := (sparseFind? s.bufs.pages (d * 16777216 + p)).bind fun (x : SpillPage) => x.next
  { s with bufs := { s.bufs with pages := (sparseErase s.bufs.pages (d * 16777216 + p)).map fun (e : Nat × SpillPage) =>
      if e.1 / 16777216 = d ∧ e.2.next = some p then (e.1, { e.2 with next := next }) else e },
           tm := { s.tm with full := s.tm.full.filter (· ≠ d) } }

/-- A copy's cells have been read back, or are lost; a page whose last cell has been is freed (R271), which ends a SPILL_FULL episode (R291). -/
def State.leavePages (s : State) (d i : Nat) : State :=
  let pages := s.bufs.pages.map fun (e : Nat × SpillPage) =>
    if e.1 / 16777216 = d then (e.1, { e.2 with parts := e.2.parts.map fun f => if f.1 = i then (f.1, f.2.1, true) else f }) else e
  let t : State := { s with bufs := { s.bufs with pages := pages } }
  ((t.pagesOf d).filter fun e => e.2.parts.all fun f => f.2.2).foldl (fun (a : State) e => a.dropPage d e.1) t

/-! The writer (R291). -/

/-- Deficit of a class at the writer (0 to 7) or the reader (8 to 15) of a die, in bytes. -/
def State.spillDeficit (s : State) (d k : Nat) : Int := sparseGet (fun _ => (0 : Int)) s.tm.spillDeficit (d * 16 + k)
def State.setSpillDeficit (s : State) (d k : Nat) (v : Int) : State :=
  { s with tm := { s.tm with spillDeficit := sparseSet (fun _ => (0 : Int)) s.tm.spillDeficit (d * 16 + k) v } }

/-- The class next in deficit order, with the quanta of SPILL_WEIGHT added while no deficit is above 0; `base` is 8 for the reader. -/
def State.spillTurn (s : State) (d base : Nat) (classes : List Nat) : Nat → State × Option Nat
  | 0 => (s, classes.head?)
  | fuel + 1 =>
    match classes.find? fun t => decide (0 < s.spillDeficit d (base + t)) with
    | some t => (s, some t)
    | none =>
      (classes.foldl (fun (a : State) t => a.setSpillDeficit d (base + t) (a.spillDeficit d (base + t) + (s.rd Od.spillWeight 0 t * 256 : Nat)))
        s).spillTurn d base classes fuel

/-- Copies of a die at the staged part, in stage order. -/
def State.stagedOn (s : State) (d : Nat) : List (Nat × Copy) :=
  s.tm.copies.filter fun (e : Nat × Copy) => e.2.die = d && e.2.stage = .staged

/-- SPILL_WRITE (R291, R292): the next staged packet in deficit order is written, or joins the on-die part where the spilled part of its VOQ is
empty; without a page the writer stops. -/
def State.spillWrite (s : State) (d : Nat) : State :=
  let l := s.stagedOn d
  let x := s.spillTurn d 0 ((List.range 8).filter fun t => l.any fun e => e.2.tc = t) 64
  match x.2.bind fun t => l.find? fun e => e.2.tc = t with
  | none => s
  | some (i, c) =>
    let v := c.queue
    let q := s.queueOf d v
    if s.cellsIn q Copy.isSpilled = 0 ∧ s.cellsIn q (fun (y : Copy) => y.stage = .writing) = 0
        ∧ s.cellsIn q Copy.isOnDie < s.rd Od.spillReturn then s.joinStaged d v q.length
    else if s.spillPagesFree d < s.pagesNeeded d v c.cells then s.noteFull d
    else
      let s1 := x.1.setSpillDeficit d c.tc (x.1.spillDeficit d c.tc - (c.cells * 256 : Nat))
      let own := (s.record? d c.k.head).map fun r => ({ copy := i, head := c.k.head, record := r } : SpillRecord)
      let s2 := (s1.fillPages d v i own 4 c.cells).setCopy i { c with stage := .writing }
      if s2.spillPagesFree d = 0 then s2.noteFull d else s2

/-- SPILL_WRITE. -/
def execSpillWrite (d : Nat) (s : State) : Answer := withDie s d (s.spillWrite d)

/-- SPILL becomes the owner of a packet, for its VOQ, and frees its on-die cells; USERS is kept in the record that has travelled to the page (R262).
Where others still use the cells, the free waits for them. -/
def State.toSpill (s : State) (d i head v : Nat) : State :=
  match s.record? d head with
  | none => s
  | some r =>
    let s1 := (s.setSpillRecord d i fun x => { x with kind := 5, id := v, users := r.users }).setRecord d head { r with kind := 5, id := v }
    s1.freePacket d head r.tag 5 v

/-- SPILL_WRITE_DONE (R262, R290): the packet is SPILL's, and its on-die cells are given up. -/
def execSpillWriteDone (i : Nat) (s : State) : Answer :=
  withCopy s i (fun c => c.stage = .writing) fun c =>
    let s1 := if c.last then s.toSpill c.die i c.k.head c.queue else s.releasePacket c.die c.k.head c.kind c.id
    (s1.setCopy i { c with stage := .spilled, k := { c.k with head := noCells } }).noteReturn c.die c.queue

/-! The reader (R292). -/

/-- VOQs of a die in the order in which they fell below SPILL_RETURN. -/
def State.returning (s : State) (d : Nat) : List Nat := sparseGet (fun _ => []) s.tm.returning d
def State.setReturning (s : State) (d : Nat) (l : List Nat) : State :=
  { s with tm := { s.tm with returning := sparseSet (fun _ => []) s.tm.returning d l } }

/-- The copy of a VOQ that follows those on die and those being read, if it is spilled (R276). -/
def State.nextSpilled (s : State) (d v : Nat) : Option (Nat × Copy) :=
  ((s.queueOf d v).find? fun i => (s.copy? i).any fun c => !(c.isOnDie || c.stage = .reading)).bind fun i =>
    (s.copy? i).bind fun c => if c.stage = .spilled then some (i, c) else none

/-- SPILL_READ (R260, R292): a VOQ whose on-die part is below SPILL_RETURN is served; cells of class 10 are reserved, and the read begins. -/
def State.spillRead (s : State) (d : Nat) : State :=
  let able := (s.returning d).filter fun v => (s.nextSpilled d v).isSome && decide (s.cellsIn (s.queueOf d v) Copy.isOnDie < s.rd Od.spillReturn)
  let x := s.spillTurn d 8 ((List.range 8).filter fun t => able.any fun v => v % 8 = t) 64
  match (x.2.bind fun t => able.find? fun v => v % 8 = t).bind fun v => s.nextSpilled d v with
  | none => s
  | some (i, c) =>
    if s.cellsFree d < c.cells then s
    else
      let s1 := x.1.setSpillDeficit d (8 + c.tc) (x.1.spillDeficit d (8 + c.tc) - (c.cells * 256 : Nat))
      (s1.setReserved d 11 (s1.reserved d 11 + c.cells)).setCopy i { c with stage := .reading }

/-- SPILL_READ. -/
def execSpillRead (d : Nat) (s : State) : Answer := withDie s d (s.spillRead d)

/-- A VOQ leaves the reader's order when nothing of it is spilled or its on-die part is large enough; its staged packets may join. -/
def State.settleReturn (s : State) (d v : Nat) : State :=
  let q := s.queueOf d v
  let s1 :=
    if s.cellsIn q Copy.isSpilled = 0 ∨ s.rd Od.spillReturn ≤ s.cellsIn q Copy.isOnDie then
      s.setReturning d ((s.returning d).filter (· ≠ v))
    else s
  s1.joinStaged d v q.length

/-- A new SPILL_RETURN: every VOQ takes or gives up its place in the reader's order (R292). -/
def State.settleReturns (s : State) : State :=
  s.tm.queues.foldl (fun (a : State) e => (a.settleReturn (e.1 / 8192) (e.1 % 8192)).noteReturn (e.1 / 8192) (e.1 % 8192)) s

/-- A spilled copy is lost, or one that was being written (R273): discarded, counted and recorded. -/
def State.loseSpilled (s : State) (i : Nat) (c : Copy) (channel : Nat) : State :=
  let d := c.die
  let v := c.queue
  let s1 := ((s.leavePages d i).setQueue d v ((s.queueOf d v).filter (· ≠ i))).bump Od.spillEccLoss (dieInst d)
  let s2 := if c.stage = .reading then s1.setReserved d 11 (s1.reserved d 11 - c.cells) else s1
  ((s2.endCopy i c).fault d 0x10 2 channel).settleReturn d v

/-- The users that a returned packet's old cells still have go over to its new ones, and the old cells are free (R262). -/
def State.moveUsers (s : State) (d old head : Nat) (r : PacketRecord) : State :=
  match s.record? d old with
  | none => s
  | some x =>
    if x.kind ≠ 5 ∨ x.tag ≠ r.tag then s
    else
      let moved := s.packets.map fun (e : Nat × Packet) =>
        if e.2.mirror.isSome ∧ e.2.die = d ∧ e.2.head = old then (e.1, { e.2 with head := head }) else e
      (({ s with packets := moved }).giveTo d head r.kind r.id x.users).returnCells d old

/-- SPILL_READ_DONE (R262, R271, R273, R292): the packet is back on die under the owner recorded before it was moved, with the users that it still
has; `lost` where a cell of it was uncorrectable, in `channel`. -/
def execSpillReadDone (i : Nat) (lost : Bool) (channel : Nat) (s : State) : Answer :=
  withCopy s i (fun c => c.stage = .reading) fun c =>
    let d := c.die
    let v := c.queue
    if lost then s.loseSpilled i c channel
    else
      let s1 := (s.leavePages d i).setReserved d 11 (s.reserved d 11 - c.cells)
      let x := s1.openRecord d 16 11 10 (max 1 (c.k.frame.length)) c.kind c.id
      let s2 := match s.spillRecord? d i with
        | some r => x.1.moveUsers d r.head x.2.1 { r.record with kind := c.kind, id := c.id }
        | none => x.1
      let c1 : Copy := { c with stage := .onDie, last := true, k := { c.k with head := x.2.1, tag := x.2.2 } }
      ((s2.setCopy i c1).pumpRequests d v 16).settleReturn d v

/-! Pseudo-channels (R273). -/

/-- Logical channel that a physical channel serves: its own, or that of the channel it has replaced. -/
def State.logicalChannel (s : State) (d channel : Nat) : Nat :=
  if channel < 30 then channel
  else ((s.recov.replaced.find? fun e => e.1 / 65536 = spareKey 8 d 0 0 / 65536 && e.2 = channel).map fun e => e.1 % 65536).getD channel

/-- Whether a copy has a cell in a logical channel: pages lie 64 units of 256 bytes apart, spread over the channels (R270, R273). -/
def State.inChannel (s : State) (d i logical : Nat) : Bool :=
  (s.pagesOf d).any fun e =>
    (e.2.parts.foldl (fun (a : Nat × Bool) f =>
      (a.1 + f.2.1, a.2 || (f.1 = i && !f.2.2 && (List.range f.2.1).any fun k =>
        e.2.channels.getD ((e.1 * 64 + a.1 + k) % e.2.channels.length) 30 = logical))) (1, false)).2

/-- HBM_CHANNEL_REPAIR (R273): a spare shadows a failing channel and is copied to; with no spare left the channel is mapped out and the
packets it holds are lost. Trigger: 0 training or self-check, 1 uncorrectable error, 2 rate of corrected errors. -/
def execHbmChannelRepair (d channel trigger : Nat) (s : State) : Answer :=
  withDie s d <|
    if 32 ≤ channel ∨ s.spareState 8 d 0 channel ≠ 3 ∨ (s.bufs.channels.any fun c => c.1 = d && c.2.1 = channel) = true then s
    else
      match (spareUnits 8).find? fun u => decide (s.spareState 8 d 0 u < 3) && !(s.bufs.channels.any fun c => c.1 = d && c.2.2 = u) with
      | some u =>
        (({ s with bufs := { s.bufs with channels := s.bufs.channels ++ [(d, channel, u)] } }).recordFault
          { die := d, source := 0x10, cls := 1, location := channel, detail0 := trigger, detail1 := 0, spareUsed := true,
            repairing := true }).later 100000000 (.hbmChannelCopyDone d channel)
      | none =>
        let l := s.logicalChannel d channel
        let lost := s.tm.copies.filter fun (e : Nat × Copy) => e.2.die = d && (e.2.isSpilled || e.2.stage = .writing) && s.inChannel d e.1 l
        let s0 : State := { s with bufs := { s.bufs with lostChannels := s.bufs.lostChannels ++ [(d, l)] } }
        let s1 := ((s0.setSpare 8 d 0 channel 4).wr Od.hbmChannelsActive (s.rd Od.hbmChannelsActive (dieInst d) - 1) (dieInst d)).retire
          8 d 0 channel 0x10
        ((lost.foldl (fun (a : State) e => a.loseSpilled e.1 e.2 channel) s1).fault d 0x10 2 channel trigger).fire d 0x150

/-- HBM_CHANNEL_COPY_DONE (R273): the spare becomes the logical channel. -/
def execHbmChannelCopyDone (d channel : Nat) (s : State) : Answer :=
  withDie s d <|
    match s.bufs.channels.find? fun c => c.1 = d && c.2.1 = channel with
    | none => s
    | some (_, _, u) =>
      let l := s.logicalChannel d channel
      let s1 := ((s.setSpare 8 d 0 channel 4).setSpare 8 d 0 u 3).retire 8 d 0 channel 0x10
      ({ s1 with bufs := { s1.bufs with channels := s1.bufs.channels.filter fun c => !(c.1 = d && c.2.1 = channel) },
                 recov := { s1.recov with replaced := sparsePut s1.recov.replaced (spareKey 8 d 0 l) u } }).fire d 0x14F

end Sys2Proof.Machine
end

