-- ==== Sys2Proof/Machine/Pools.lean ====
section
/-! DEFINITION. Host buffer pools (R266 to R269) and the punt path (R300, R301, R374 to R376). -/

namespace Sys2Proof.Machine

/-! Pools. -/

/-- A buffer never used. -/
def PoolBuffer.fresh : PoolBuffer := { tag := 0, used := false, owner := 0xFF, count := 0 }
def State.poolBuffer (s : State) (k b : Nat) : PoolBuffer := sparseGet (fun _ => PoolBuffer.fresh) s.bufs.pool (k * 1048576 + b)
def State.setPoolBuffer (s : State) (k b : Nat) (x : PoolBuffer) : State :=
  { s with bufs := { s.bufs with pool := sparseSet (fun _ => PoolBuffer.fresh) s.bufs.pool (k * 1048576 + b) x } }

/-- Buffers of a pool that are allocated. -/
def State.poolUsed (s : State) (k : Nat) : List Nat :=
  (s.bufs.pool.filter fun (e : Nat × PoolBuffer) => e.1 / 1048576 = k && e.2.used).map fun e => e.1 % 1048576

/-- POOL_FREE of a pool. -/
def State.poolFree (s : State) (k : Nat) : Nat :=
  if s.rd Od.poolState 0 k = 0 then 0 else s.rd Od.poolCount 0 k - (s.poolUsed k).length

/-- The function whose enable of a pool is pending. -/
def State.setEnabling (s : State) (k fn : Nat) : State :=
  { s with bufs := { s.bufs with enabling := sparseSet (fun _ => 0xFF) s.bufs.enabling k fn } }

/-- A pool whose last buffer is free leaves DRAINING (R267); a pending enable makes it its writer's. -/
def State.settlePool (s : State) (k : Nat) : State :=
  if s.poolUsed k ≠ [] then s
  else if s.rd Od.poolState 0 k = 2 then (s.wr Od.poolState 0 0 k).wr Od.poolFunction 0xFF 0 k
  else if s.rd Od.poolState 0 k = 3 then
    ((s.wr Od.poolState 1 0 k).wr Od.poolFunction (sparseGet (fun _ => 0xFF) s.bufs.enabling k) 0 k).setEnabling k 0xFF
  else s

/-- Checks of R266 on enabling a pool. -/
def State.poolFits (s : State) (k : Nat) : Bool :=
  let base := fun (j : Nat) => s.rd Od.poolBase 0 j
  let stop := fun (j : Nat) => base j + s.rd Od.poolCount 0 j * s.rd Od.poolBufferSize 0 j
  decide (stop k ≤ 2 ^ 64) && (List.range 64).all fun j =>
    j = k || s.rd Od.poolState 0 j = 0 || decide (stop j ≤ base k) || decide (stop k ≤ base j)

/-- A contradiction with a pool's bitmap (R269): counted and recorded. -/
def State.poolFault (s : State) (o : Obj) (k b fn : Nat) : State :=
  (s.bump o 0 k).fault (s.hostDie (fn / 4)) 0x0F 2 (k * 1048576 + b) (s.poolBuffer k b).tag fn

/-- Checks 1 to 5 of R269: the status, the state, and the buffer. -/
def State.checkBuffer (s : State) (fn k address tag : Nat) : Status × State × Nat :=
  let base := s.rd Od.poolBase 0 k
  let size := s.rd Od.poolBufferSize 0 k
  let native := s.rd Od.poolMode 0 k = 0
  if 63 < k ∨ s.rd Od.poolState 0 k = 0 then (.noObject, s, 0)
  else if address < base ∨ base + s.rd Od.poolCount 0 k * size ≤ address then (.bufferRange, s, 0)
  else if (address - base) % size ≠ 0 then (.bufferAlign, s, 0)
  else
    let b := (address - base) / size
    let x := s.poolBuffer k b
    if x.used = false then (.doubleFree, s.poolFault (if native then Od.poolDoubleFree else Od.poolUnderflow) k b fn, b)
    else if native ∧ (x.owner ≠ fn ∨ x.tag ≠ tag) then (.notOwner, s.poolFault Od.poolNotOwner k b fn, b)
    else (.ok, s, b)

/-- BUFFER_FREE by a function (R269). -/
def State.freeBuffer (s : State) (fn k address tag : Nat) : Status × State :=
  let x := s.checkBuffer fn k address tag
  if x.1 ≠ .ok then (x.1, x.2.1)
  else
    let b := s.poolBuffer k x.2.2
    if s.rd Od.poolMode 0 k = 1 ∧ 1 < b.count then (.ok, s.setPoolBuffer k x.2.2 { b with count := b.count - 1 })
    else (.ok, (s.setPoolBuffer k x.2.2 { b with used := false, count := 0 }).settlePool k)

/-- BUFFER_REF_ADD by a function (R269). -/
def State.addRefs (s : State) (fn k address tag n : Nat) : Status × State :=
  let x := s.checkBuffer fn k address tag
  let b := s.poolBuffer k x.2.2
  if x.1 ≠ .ok then (x.1, x.2.1)
  else if s.rd Od.poolMode 0 k = 0 then (.state, s)
  else if 65535 < b.count + n then (.range, s)
  else (.ok, s.setPoolBuffer k x.2.2 { b with count := b.count + n })

/-- Every buffer of a function's pools returns to free, when the function is reset (R267). -/
def State.resetPools (s : State) (fn : Nat) : State :=
  (List.range 64).foldl (fun (a : State) k =>
    if a.rd Od.poolState 0 k ≠ 0 ∧ a.rd Od.poolFunction 0 k = fn then
      ((a.poolUsed k).foldl (fun (t : State) b => t.setPoolBuffer k b { t.poolBuffer k b with used := false, count := 0 }) a).settlePool k
    else a) s

/-- The lowest `n` free buffers of a pool, or none if it has fewer. -/
def State.takeBuffers (s : State) (k n : Nat) : Option (State × List Nat) :=
  let used := s.poolUsed k
  let free := ((List.range (min (s.rd Od.poolCount 0 k) (used.length + n))).filter fun b => !used.contains b).take n
  if free.length < n then none
  else
    some (free.foldl (fun (a : State) b =>
      let x := a.poolBuffer k b
      a.setPoolBuffer k b { tag := (x.tag + 1) % 65536, used := true, owner := a.rd Od.poolFunction 0 k, count := 1 }) s, free)

/-! The punt path. -/

/-- Reason of a packet on the punt path (R15). -/
def Packet.reason (k : Packet) : Nat := bits k.hv 599 592

/-- Packets of a die's punt queue, in arrival order (R300). -/
def State.puntQueue (s : State) (d : Nat) : List Nat := sparseGet (fun _ => []) s.tm.punts d
def State.setPuntQueue (s : State) (d : Nat) (l : List Nat) : State :=
  { s with tm := { s.tm with punts := sparseSet (fun _ => []) s.tm.punts d l } }

/-- A packet is dropped before it enters the punt queue: INGRESS frees what it holds (R262). -/
def State.dropPunt (s : State) (p : Nat) (k : Packet) : State :=
  if k.head = noCells then s.endIngress p k else s.dropPacket p k

/-- The token bucket of a reason on a die as it stands now, in millionths of a packet. -/
def State.puntBucket (s : State) (d r : Nat) : Bucket :=
  let b := sparseGet (fun _ => Bucket.fresh) s.tm.puntBuckets (d * 64 + r)
  { level := min ((s.rd Od.puntBurst 0 r * 1000000 : Nat) : Int) (b.level + (s.rd Od.puntRate 0 r * (s.up - b.at_) : Nat)), at_ := max s.up b.at_ }

/-- PUNT becomes the owner of a packet's cells (R262). -/
def State.puntOwns (s : State) (p : Nat) (k : Packet) : State :=
  match s.record? k.die k.head with
  | some x => s.setRecord k.die k.head { x with kind := 6, id := p % 65536 }
  | none => s

/-- A copy for the host enters the punt queue with cells of its own, owned by PUNT (R262, R300). No allocation port is named for them: they are
free cells, charged to the class of the packet's PG; a die without them has no room in its queue (DESIGN CHOICE, log 143). -/
def State.holdPunt (s : State) (p : Nat) (k : Packet) : Option (State × Packet) :=
  if k.head ≠ noCells then some (s.puntOwns p k, k)
  else if s.cellsFree k.die < cellsOf k.frame.length then none
  else
    let x := s.openRecord k.die 18 18 k.pg k.frame.length 6 (p % 65536)
    some (x.1, { k with head := x.2.1, tag := x.2.2 })

/-- PUNT (R300 steps 1 and 2, R262). -/
def State.puntStep (s : State) (p : Nat) (k : Packet) : State :=
  let d := k.die
  let r := k.reason % 64
  let b := s.puntBucket d r
  if b.level < 1000000 then (s.bump Od.puntDropRate (dieInst d) r).dropPunt p k
  else
    let s1 : State :=
      { s with tm := { s.tm with puntBuckets := sparsePut s.tm.puntBuckets (d * 64 + r) { b with level := b.level - 1000000 } } }
    if 4096 ≤ (s1.puntQueue d).length then (s1.bump Od.puntDropQueueFull (dieInst d)).dropPunt p k
    else
      match (s1.endPass k).holdPunt p k with
      | none => (s1.bump Od.puntDropQueueFull (dieInst d)).dropPunt p k
      | some (s2, h) =>
        (s2.setPacket p { h with stage := .punted, charged := false, flying := false, since := 0 }).setPuntQueue d (s2.puntQueue d ++ [p])

/-- PUNT. -/
def execPunt (p : Nat) (s : State) : Answer := withPacket s p (fun k => k.stage = .punting) (s.puntStep p)

/-- A packet leaves the punt queue, delivered or dropped: PUNT frees its cells. -/
def State.leavePunt (s : State) (p : Nat) (k : Packet) : State :=
  let s1 := (s.setPuntQueue k.die ((s.puntQueue k.die).filter (· ≠ p))).removePacket p
  if k.head = noCells then s1 else s1.freePacket k.die k.head k.tag 6 (p % 65536)

/-- The punt header (R376). -/
def puntHeader (k : Packet) : List Byte :=
  leBytes 12 (bits k.hv 2047 1952) ++ leBytes 4 (hvStamp k.hv) ++ leBytes 2 (hvPort k.hv) ++ leBytes 1 k.reason ++ leBytes 1 k.die
    ++ leBytes 2 (k.frame.length - 4) ++ leBytes 1 (b2n k.cut + 2 * b2n k.atEgress) ++ leBytes 1 (k.mirror.getD 0)
    ++ leBytes 1 (bits k.hv 607 600) ++ leBytes 1 (k.pipe % 16) ++ leBytes 6 0

/-- A punt completion without PHASE (R376). -/
def puntEntry (pool tag buffer bytes reason lost : Nat) (first last : Bool) : Nat :=
  0x30 * 2 ^ 120 + pool * 2 ^ 106 + b2n first * 2 ^ 105 + b2n last * 2 ^ 104 + tag * 2 ^ 88 + buffer * 2 ^ 68 + (bytes - 1) * 2 ^ 54
    + reason * 2 ^ 46 + (if first then min 255 lost else 0) * 2 ^ 38

/-- The octets of a delivery go into its buffers, with one completion for each (R375 steps 3 and 4). -/
def State.fillBuffers (s : State) (fn c pool reason lost : Nat) (first : Bool) : List Nat → List Byte → State
  | [], _ => s
  | b :: rest, octets =>
    let size := s.rd Od.poolBufferSize 0 pool
    let part := octets.take size
    let s1 := s.emit (.dma (s.dmaHost fn) (fn % 4) (s.rd Od.poolBase 0 pool + b * size) part)
    (s1.postEntry fn c (puntEntry pool (s.poolBuffer pool b).tag b part.length reason lost first (rest = []))).fillBuffers fn c pool reason lost
      false rest (octets.drop size)

/-- Ring and pool of a packet on the punt path: CQ (0xFFFF none), its function, and its pool. -/
def State.ringFor (s : State) (k : Packet) : Nat × Nat :=
  (s.rd Od.puntRing 0 (k.reason % 64), s.cqOwnerOf Od.puntRing 0 (k.reason % 64))
def State.poolFor (s : State) (k : Packet) : Nat := s.rd Od.cqPool (cqInst (s.ringFor k).2 (s.ringFor k).1)

/-- Ring slots, and buffers, of a delivery (R375 step 1). -/
def State.slotsFor (s : State) (k : Packet) : Nat :=
  let size := s.rd Od.poolBufferSize 0 (s.poolFor k)
  (32 + (k.frame.length - 4) + size - 1) / size

/-- Packets of a die's punt queue in the order of service: by PUNT_PRIORITY, then arrival. -/
def State.puntOrder (s : State) (d : Nat) : List (Nat × Packet) :=
  let l := (s.puntQueue d).filterMap fun p => (s.packet? p).map fun k => (p, k)
  [0, 1, 2, 3].flatMap fun pr => l.filter fun e => s.rd Od.puntPriority 0 (e.2.reason % 64) = pr

/-- Deliveries of every die that wait for a buffer of a pool. -/
def State.poolWaits (s : State) (pool : Nat) : List (Nat × Packet) :=
  s.packets.filter fun (e : Nat × Packet) => e.2.stage = .punted && e.2.since ≠ 0 && (s.ringFor e.2).1 ≠ 0xFFFF && s.poolFor e.2 = pool

/-- Ring slots reserved by other deliveries that wait for their buffers (R375). -/
def State.slotsHeld (s : State) (p : Nat) (ring : Nat × Nat) : Nat :=
  (s.packets.filter fun (e : Nat × Packet) => e.1 ≠ p && e.2.stage = .punted && e.2.since ≠ 0 && s.ringFor e.2 = ring).foldl
    (fun a (e : Nat × Packet) => a + s.slotsFor e.2) 0

/-- A delivery waits in the punt queue for its buffers, its ring slots reserved. -/
def State.waitBuffer (s : State) (p : Nat) (k : Packet) : State :=
  if k.since ≠ 0 then s
  else (s.setPacket p { k with since := s.up + 1 }).later (s.rd Od.poolWaitLimit 0 (s.poolFor k) * 1000) (.poolWaitExpire p)

/-- A die's turn in a pool's rotating order is over (R268). -/
def State.turnPool (s : State) (pool d : Nat) : State :=
  { s with bufs := { s.bufs with poolTurn := sparseSet (fun _ => 0) s.bufs.poolTurn pool ((d + 1) % 8) } }

/-- A delivery takes its buffers (R268, R375 steps 2 to 4): without them it is dropped or waits under POOL_POLICY. -/
def State.takeDelivery (s : State) (p : Nat) (k : Packet) : State :=
  let (c, fn) := s.ringFor k
  let pool := s.poolFor k
  match s.takeBuffers pool (s.slotsFor k) with
  | none =>
    let s1 := s.bump Od.poolNoBuffer 0 pool
    if s.rd Od.poolPolicy 0 pool = 1 then (s1.bump Od.poolDrops 0 pool).leavePunt p k else s1.waitBuffer p k
  | some (s1, l) =>
    let lost := (s1.cq fn c).lost
    let s2 := (s1.setCq fn c { s1.cq fn c with lost := 0 }).fillBuffers fn c pool k.reason lost true l
      (puntHeader k ++ k.frame.take (k.frame.length - 4))
    (((s2.bump Od.puntDelivered (dieInst k.die)).bump Od.cqPuntDelivered (cqInst fn c)).leavePunt p k).turnPool pool k.die

/-- A delivery (R268, R374, R375): dropped without a ring, without ring room, or where its pool allocates nothing; behind deliveries that already
wait for the pool it waits with them; else it takes its buffers. -/
def State.deliver (s : State) (p : Nat) (k : Packet) : State :=
  let (c, fn) := s.ringFor k
  let pool := s.poolFor k
  if c = 0xFFFF then (s.bump Od.puntDropNoRing).leavePunt p k
  else if s.cqRoom fn c < s.slotsHeld p (c, fn) + s.slotsFor k then
    ((s.setCq fn c { s.cq fn c with lost := (s.cq fn c).lost + 1 }).bump Od.puntDropRingFull (cqInst fn c)).leavePunt p k
  else if s.rd Od.poolState 0 pool ≠ 1 then (s.bump Od.poolDrops 0 pool).leavePunt p k
  else if s.poolWaits pool ≠ [] then s.waitBuffer p k
  else s.takeDelivery p k

/-- Packets of a service order that no earlier packet of the same pool holds up: none overtakes another of its ring (R300). A packet with no
ring waits for nothing. -/
def State.puntHeads (s : State) : List (Nat × Packet) → List Nat → List (Nat × Packet)
  | [], _ => []
  | e :: rest, pools =>
    if (s.ringFor e.2).1 = 0xFFFF then e :: s.puntHeads rest pools
    else if pools.contains (s.poolFor e.2) then s.puntHeads rest pools
    else e :: s.puntHeads rest (s.poolFor e.2 :: pools)

/-- PUNT_DELIVER (R300 step 3, R375): the next packet that does not already wait for a buffer; one that is bad at its end is discarded, and one
whose end has not arrived keeps its place. -/
def execPuntDeliver (d : Nat) (s : State) : Answer :=
  withDie s d <|
    match (s.puntHeads (s.puntOrder d) []).find? fun e => e.2.since = 0 && e.2.ended with
    | none => s
    | some (p, k) => if k.bad then s.leavePunt p k else s.deliver p k

/-- POOL_ALLOCATE (R268): a pool serves the next delivery that waits for its buffers, the asking dies in their rotating order. A die that is not given
its buffers begins the next order. -/
def execPoolAllocate (pool asking : Nat) (s : State) : Answer :=
  running s <|
    let order := (List.range 8).map fun i => (sparseGet (fun _ => 0) s.bufs.poolTurn pool + i) % 8
    let dies := order.filter (bitOf asking)
    match (dies.flatMap fun d => s.puntOrder d).find? fun e => (s.poolWaits pool).any fun w => w.1 = e.1 with
    | none => s
    | some (p, k) => s.takeDelivery p k

/-- POOL_WAIT_EXPIRE (R268). -/
def execPoolWaitExpire (p : Nat) (s : State) : Answer :=
  withPacket s p (fun k => k.stage = .punted && k.since ≠ 0 && decide (k.since + s.rd Od.poolWaitLimit 0 (s.poolFor k) * 1000 ≤ s.up + 1))
    fun k => (s.bump Od.poolDrops 0 (s.poolFor k)).leavePunt p k

/-- The buckets of a reason stand where its old rate and depth have filled them, before a new value takes effect (R300). -/
def State.settlePunts (s : State) (r : Nat) : State :=
  { s with tm := { s.tm with puntBuckets := s.part.dies.foldl (fun m d => sparsePut m (d * 64 + r) (s.puntBucket d r)) s.tm.puntBuckets } }

/-! Writes of the pool objects (R266, R267). -/

/-- Deliveries that wait for a buffer of a pool are dropped. -/
def State.dropWaits (s : State) (pool : Nat) : State :=
  (s.poolWaits pool).foldl (fun (a : State) e => (a.bump Od.poolDrops 0 pool).leavePunt e.1 e.2) s

/-- POOL_ENABLE = 1 by a function (R266, R267). -/
def State.poolOn (s : State) (k fn : Nat) : WriteRes :=
  let on_ := s.wr Od.poolEnable 1 0 k
  let st := s.rd Od.poolState 0 k
  if st = 0 then
    if s.rd Od.poolCount 0 k = 0 then WriteRes.refuse s .range
    else if s.poolFits k = false then WriteRes.refuse s .bufferRange
    else WriteRes.good ((on_.wr Od.poolState 1 0 k).wr Od.poolFunction fn 0 k)
  else if st = 1 then WriteRes.good on_
  else if st = 2 then { WriteRes.good ((on_.wr Od.poolState 3 0 k).setEnabling k fn) with status := .deferred }
  else { WriteRes.good on_ with status := .deferred }

/-- POOL_ENABLE = 0 (R267). -/
def State.poolOff (s : State) (k : Nat) : State :=
  let off := s.wr Od.poolEnable 0 0 k
  let st := s.rd Od.poolState 0 k
  if st = 1 then ((off.wr Od.poolState 2 0 k).dropWaits k).settlePool k
  else if st = 3 then (off.wr Od.poolState 2 0 k).setEnabling k 0xFF
  else off

/-- A write of POOL_ENABLE (R267). A pool belongs to the host function that enables it: an enable that would give it an owner is refused to a session
that is no function (DESIGN CHOICE, log 144). -/
def State.enablePool (s : State) (c : WriteCtx) (k : Nat) : WriteRes :=
  if c.value ≠ 1 then WriteRes.good (s.poolOff k)
  else
    match c.session with
    | .pcie h f => s.poolOn k (fnKey h f)
    | _ => if s.rd Od.poolState 0 k = 1 ∨ s.rd Od.poolState 0 k = 3 then s.poolOn k 0xFF else WriteRes.refuse s .access

/-- Writes of the pool objects (R266, R267, R337): a value out of range is found first, then the pool's state, then the alignment (DESIGN CHOICE,
log 144). -/
def State.writePool (s : State) (c : WriteCtx) : WriteRes :=
  let k := c.addr.index - 0x6100
  if c.addr.sub = 5 then s.enablePool c k
  else if c.addr.sub = 2 ∧ (c.value < 256 ∨ 16384 < c.value) then WriteRes.refuse s .range
  else if c.addr.sub = 3 ∧ (c.value = 0 ∨ 1048576 < c.value) then WriteRes.refuse s .range
  else if s.rd Od.poolState 0 k ≠ 0 then WriteRes.refuse s .state
  else if (c.addr.sub = 1 ∨ c.addr.sub = 2) ∧ c.value % 256 ≠ 0 then WriteRes.refuse s .bufferAlign
  else s.store c

end Sys2Proof.Machine
end

