-- ==== Sys2Proof/Machine/Superframe.lean ====
section
/-! DEFINITION. The octets that a group carries: superframes with their control block, cell slots, RS(240,228) and scrambler, alignment superframes,
and training blocks (R306 to R311). Orders and widths that these rules leave open stand in log 145. -/

namespace Sys2Proof.Machine

/-- The field, the polynomial and the roots of RS(240,228) (R308). -/
def parity240 (data : List Byte) : List Byte := (rsParity 8 0x11D 12 (data.map (·.toNat))).map (BitVec.ofNat 8)

/-- The control block of a superframe (R310): its own fields, ACK_SEQ, NAK, and LANE_CMD with the spare and lane it names. -/
def controlBlock (x : Superframe) (acked : Nat) (nak : Bool) (cmd : Nat × Nat × Nat) : Nat :=
  putFields 0
    [(127, 116, x.seq), (115, 104, acked), (103, 103, b2n nak), (102, 95, x.fifo), (94, 92, x.onward), (91, 87, x.slots), (86, 83, cmd.1),
     (82, 81, cmd.2.1), (80, 75, cmd.2.2), (74, 72, x.time.1), (63, 0, x.time.2)]

/-- A cell in its slot (R308). -/
def FabricCell.octets (c : FabricCell) : List Byte := beBytes 16 c.header ++ c.payload ++ List.replicate (256 - c.payload.length) 0

/-- The 2,880 octets of a superframe (R308). -/
def superframeOctets (control : Nat) (cells : List FabricCell) : List Byte :=
  let data := beBytes 16 control ++ (cells.take 10).flatMap FabricCell.octets ++ List.replicate ((10 - cells.length) * 272) 0
  (List.range 12).flatMap fun k => slice data (228 * k) 228 ++ parity240 (slice data (228 * k) 228)

/-- The 72 octets of a logical lane (R307). -/
def laneOctets (octets : List Byte) (l : Nat) : List Byte := (List.range 72).map fun j => byteAt octets (40 * j + l)

/-- The scrambler of a lane over one superframe from its register, and the register after it (R307). -/
def scrambleBits (register : Nat) : List Byte × Nat :=
  let x := prbsBits 58 (2 ^ 57 + 2 ^ 38) 576 register
  ((List.range 72).map fun j => BitVec.ofNat 8 ((x.1.drop (8 * j)).take 8 |>.foldl (fun a b => 2 * a + b2n b) 0), x.2)

/-- The 72 octets of an alignment superframe on a lane (R309). -/
def alignmentOctets (lane count bip : Nat) : List Byte :=
  beBytes 3 0xB54E27 ++ beBytes 1 lane ++ beBytes 2 count ++ beBytes 1 bip ++ List.replicate 65 0

/-- The interleaved parity of a lane's octets (R309). -/
def laneParity (octets : List Byte) : Nat := (octets.foldl (fun a b => a ^^^ b) (0 : Byte)).toNat

/-- A training block of a lane (R306). -/
def trainingOctets (lane st die : Nat) (map echo : List Nat) : List Byte :=
  let pad := fun (l : List Nat) => (List.range 40).map fun i => BitVec.ofNat 8 (l.getD i 0xFF)
  let head := beBytes 4 0x7E1DC3A5 ++ beBytes 1 lane ++ beBytes 1 st ++ beBytes 1 die ++ [0] ++ pad map ++ pad echo ++ List.replicate 36 0
  head ++ beBytes 4 (crc32c head)

end Sys2Proof.Machine
end

