-- ==== Sys2Proof/Machine/Fabric.lean ====
section
/-! DEFINITION. The Olilos fabric: cells and their paths, superframes, resequencing, group training, spare lanes and time alignment (R305 to
R325). -/

namespace Sys2Proof.Machine

/-! Prefixes and cells (R311, R312). -/

/-- Matches carried by a prefix. -/
def hvMatches (hv : Nat) : Nat := min 4 (bits hv 1807 1800)

/-- A target of a die copy in a prefix. -/
def Target.octets (t : Target) : List Byte :=
  beBytes 8 (t.port * 2 ^ 55 + t.lport * 2 ^ 43 + t.nh * 2 ^ 25 + t.replica * 2 ^ 9)

/-- The prefix of a copy (R312). -/
def Copy.prefixOctets (c : Copy) : List Byte :=
  let hv := c.k.hv
  let n := hvCount hv
  let m := hvMatches hv
  let rew := ((List.range 8).map fun i => bits hv (1119 - 40 * i) (1080 - 40 * i)).filter fun e => decide (bits e 39 37 ≠ 0)
  let size := 60 + 4 * n + 4 * m + 5 * rew.length + 8 * c.extra.length
  let units := (size + 7) / 8
  let routing := putFields 0
    [(191, 184, units), (183, 170, c.k.frame.length - 4), (169, 167, bits hv 743 741), (166, 164, hvTc hv), (163, 162, hvDp hv),
     (161, 161, bits hv 554 554), (159, 151, if c.isFan then 0 else c.port), (150, 139, bits hv 787 776), (138, 121, bits hv 775 758),
     (120, 105, c.group.getD 0xFFFF), (104, 93, bits hv 711 700), (92, 61, bits hv 699 668), (60, 48, bits hv 524 512), (47, 43, n),
     (42, 40, m), (39, 36, rew.length), (35, 31, c.extra.length), (30, 23, bits hv 719 712), (22, 7, bits hv 735 720)]
  beBytes 24 routing ++ beBytes 36 (bits hv 2047 1760) ++ ((List.range n).map fun i => beBytes 4 (hvInstance hv i)).flatten
    ++ ((List.range m).map fun i => beBytes 4 (bits hv (1247 - 32 * i) (1216 - 32 * i))).flatten
    ++ (rew.map (beBytes 5)).flatten ++ (c.extra.map Target.octets).flatten ++ List.replicate (units * 8 - size) 0

/-- What a copy puts into its stream: its prefix and its frame without the FCS (R312). -/
def Copy.stream (c : Copy) : List Byte := c.prefixOctets ++ c.k.frame.take (c.k.frame.length - 4)

/-- A cell in the making: payload, parts, offset of the first prefix, bad bits of the packet ends, packets left with their octets. -/
structure CellDraft where
  payload : List Byte
  parts : List (Nat × Nat)
  first : Nat
  ends : List Bool
  left : List (Nat × Nat)
  deriving DecidableEq, Repr

/-- Fill a cell from the packets of a stream that have a grant (R312): none where it would hold the end of a packet whose frame has not
ended. At most three packets end in a cell. -/
def State.fillCell (s : State) : List (Nat × Nat) → CellDraft → Option CellDraft
  | [], x => some x
  | (i, done) :: rest, x =>
    if 256 ≤ x.payload.length ∨ 3 ≤ x.ends.length then some { x with left := x.left ++ (i, done) :: rest }
    else
      match s.copy? i with
      | none => s.fillCell rest x
      | some c =>
        let todo := c.stream.drop done
        let room := 256 - x.payload.length
        let first := if done = 0 ∧ x.first = 256 then x.payload.length else x.first
        if todo.length ≤ room then
          if c.k.ended then
            s.fillCell rest { x with payload := x.payload ++ todo, parts := x.parts ++ [(i, todo.length)], first := first, ends := x.ends ++ [c.k.bad] }
          else none
        else some { x with payload := x.payload ++ todo.take room, parts := x.parts ++ [(i, room)], first := first, left := x.left ++ (i, done + room) :: rest }

/-- The header of a data cell, with its CRC (R311). -/
def cellHeader (src dst via stream seq : Nat) (x : CellDraft) : Nat :=
  let bad := fun (i : Nat) => b2n (x.ends.getD i false)
  let h := putFields 0
    [(127, 127, 1), (124, 122, src), (121, 119, dst), (118, 116, via), (115, 103, stream), (102, 87, seq), (86, 79, x.payload.length - 1),
     (78, 70, x.first), (69, 69, bad 0), (68, 68, bad 1), (67, 67, bad 2)]
  let covered := beBytes 8 (bits h 127 67 * 8) ++ x.payload ++ List.replicate (256 - x.payload.length) 0
  putBits h 66 51 (crcForward 16 0x1021 0xFFFF covered)

/-- The next of a list after the one last used, in rotating order. -/
def nextOf (last : Nat) (l : List Nat) : Option Nat := (l.find? fun x => decide (last < x)).or l.head?

/-- Groups of a die to a peer that are UP and hold a credit (R314). -/
def State.openGroups (s : State) (d p : Nat) : List Nat :=
  (List.range 7).filter fun g => groupPeer s.part d g = some p && s.groupState d g = 2 && decide ((s.group d g).fifoUsed < 128)

/-- Group, intermediate die and group turn that a cell would take (R316). -/
def State.cellPath (s : State) (d dst : Nat) : Option (Nat × Nat) :=
  match nextOf (sparseGet (fun _ => 6) s.fabric.turn (d * 8 + dst)) (s.openGroups d dst) with
  | some g => some (g, d)
  | none =>
    let useful := fun (m : Nat) => (s.openGroups d m).filter fun g =>
      decide (sparseGet (fun _ => 0) (s.group d g).transitUsed dst < 16)
    match nextOf (sparseGet (fun _ => 7) s.fabric.via (d * 8 + dst))
      (s.part.dies.filter fun m => decide (m ≠ d) && decide (m ≠ dst) && decide (useful m ≠ [])) with
    | none => none
    | some m => (nextOf (sparseGet (fun _ => 6) s.fabric.turn (d * 8 + m)) (useful m)).map fun g => (g, m)

/-- A stream that has sent nothing. -/
def SendStream.fresh : SendStream := { seq := 0, packets := [] }

/-- A cell of a stream is formed and takes its path, or waits (R312, R316). -/
def State.sendCell (s : State) (d dst v : Nat) : State :=
  let key := (d * 8 + dst) * 8192 + v
  let x := sparseGet (fun _ => SendStream.fresh) s.fabric.sends key
  match s.cellPath d dst, s.fillCell x.packets { payload := [], parts := [], first := 256, ends := [], left := [] } with
  | some (g, via), some y =>
    if y.payload = [] then s
    else
      let cell : FabricCell := { header := cellHeader d dst via v x.seq y, payload := y.payload, parts := y.parts }
      let q := s.group d g
      let used := if via = d then q.transitUsed
        else sparseSet (fun _ => 0) q.transitUsed dst (sparseGet (fun _ => 0) q.transitUsed dst + 1)
      let s1 := s.setGroup d g { q with own := q.own ++ [cell], fifoUsed := q.fifoUsed + 1, transitUsed := used }
      let peer := if via = d then dst else via
      let s2 : State :=
        { s1 with fabric := { s1.fabric with
            sends := sparsePut s1.fabric.sends key { seq := (x.seq + 1) % 65536, packets := y.left },
            turn := sparsePut s1.fabric.turn (d * 8 + peer) g,
            via := if via = d then s1.fabric.via else sparsePut s1.fabric.via (d * 8 + dst) via } }
      if via = d then s2 else s2.bump Od.fabricIndirectCells (dieInst d)
  | _, _ => s

/-- FABRIC_CELL_SEND (R316). -/
def execFabricCellSend (d dst v : Nat) (s : State) : Answer :=
  withDie s d (if s.hasDie dst ∧ dst ≠ d then s.sendCell d dst v else s)

/-! Resequencing (R317, R318). -/

/-- A copy that has crossed: its ingress cells are freed or released, and it is written to the cells that its grant reserved (R23, R260,
R262). -/
def State.acceptCopy (s : State) (i : Nat) (c : Copy) : State :=
  let src := c.die
  let d := c.dest
  let s1 := if c.last then s.freePacket src c.k.head c.k.tag c.kind c.id else s.releasePacket src c.k.head c.kind c.id
  let path := if c.standing then 12 else 10
  let s2 := s1.setReserved d path (s1.reserved d path - c.cells)
  let g := ((List.range 7).find? fun g => groupPeer s.part d g = some src).getD 0
  let x := s2.openRecord d (8 + g) path 8 (c.k.frame.length) (if c.isFan then 2 else 3) (if c.isFan then d else i % 65536)
  let c1 : Copy :=
    { c with die := d, dest := src, kind := if c.isFan then 2 else 3, id := if c.isFan then d else i % 65536, last := true,
             k := { c.k with head := x.2.1, tag := x.2.2 } }
  x.1.land i c1

/-- A copy that will not cross: its reservation, grant and ingress cells are given up. -/
def State.giveUpCrossing (s : State) (i : Nat) (c : Copy) : State :=
  let d := c.dest
  let s1 :=
    if c.standing then s.emit (.control d c.die 2 [c.port, c.cells])
    else
      let s2 := s.setReserved d 10 (s.reserved d 10 - c.cells)
      if c.isFan then s2 else s2.setInFlight c.pc (s2.inFlight c.pc - c.cells)
  s1.endCopy i c

/-- A copy lost on the fabric (R318). -/
def State.loseCopy (s : State) (i : Nat) (c : Copy) : State := (s.bump Od.fabricReseqLoss (dieInst c.dest)).giveUpCrossing i c

/-- A stream of which nothing has come. -/
def RecvStream.fresh : RecvStream := { expected := 0, held := [], since := 0, got := [] }
def State.recv (s : State) (key : Nat) : RecvStream := sparseGet (fun _ => RecvStream.fresh) s.fabric.recvs key
def State.setRecv (s : State) (key : Nat) (x : RecvStream) : State :=
  { s with fabric := { s.fabric with recvs := sparsePut s.fabric.recvs key x } }

/-- Octets of a copy have come in order; a copy that has come whole is accepted. -/
def State.takePart (s : State) (key : Nat) (part : Nat × Nat) : State :=
  match s.copy? part.1 with
  | none => s
  | some c =>
    let x := s.recv key
    let n := ((x.got.find? fun e => e.1 = part.1).map (·.2)).getD 0 + part.2
    let rest := x.got.filter fun e => e.1 ≠ part.1
    if c.stream.length ≤ n then (s.setRecv key { x with got := rest }).acceptCopy part.1 c
    else s.setRecv key { x with got := rest ++ [(part.1, n)] }

/-- Cells are delivered while the one expected is held. -/
def State.deliverCells (s : State) (key : Nat) : Nat → State
  | 0 => s
  | fuel + 1 =>
    let x := s.recv key
    match x.held.find? fun e => e.1 = x.expected with
    | none => s
    | some e =>
      let s1 := s.setRecv key { x with expected := (x.expected + 1) % 65536, held := x.held.filter fun y => y.1 ≠ e.1 }
      (e.2.parts.foldl (fun (a : State) p => a.takePart key p) s1).deliverCells key fuel

/-- A gap is watched: its time begins when it is found (R318). -/
def State.watchGap (s : State) (d src v : Nat) (before : Nat) : State :=
  let key := (src * 8 + d) * 8192 + v
  let x := s.recv key
  if x.held = [] ∨ (x.expected = before ∧ x.since ≠ 0) then s
  else (s.setRecv key { x with since := s.up + 1 }).later (s.rd Od.fabricReseqTimeout) (.reseqTimeout d src v)

/-- Copies whose prefix begins in a cell at or after its FIRST_PREFIX: the parts from there on. -/
def partsFrom (first : Nat) : Nat → List (Nat × Nat) → List (Nat × Nat)
  | _, [] => []
  | off, p :: rest => if first ≤ off then p :: rest else partsFrom first (off + p.2) rest

/-- A gap is given up (R318): delivery resumes at the next prefix held; where none is, the cells held are discarded and the first prefix that comes
ends the gap. -/
def State.giveUpGap (s : State) (d src v : Nat) : State :=
  let key := (src * 8 + d) * 8192 + v
  let x := s.recv key
  let rank := fun (e : Nat × FabricCell) => (e.1 + 65536 - x.expected) % 65536
  let begins := x.held.filter fun e => decide (bits e.2.header 78 70 ≠ 256)
  match begins.find? fun e => begins.all fun f => decide (rank e ≤ rank f) with
  | none => s.setRecv key { x with held := [] }
  | some e =>
    let parts := partsFrom (bits e.2.header 78 70) 0 e.2.parts
    let next := (parts.head?.map (·.1)).getD 0
    let lost := s.tm.copies.filter fun (y : Nat × Copy) =>
      y.2.stage = .crossing && y.2.die = src && y.2.dest = d && y.2.queue = v && decide (y.1 < next)
    let held := x.held.filter fun f => decide (rank e < rank f)
    let s1 := lost.foldl (fun (a : State) y => a.loseCopy y.1 y.2)
      (s.setRecv key { expected := (e.1 + 1) % 65536, held := held, since := 0, got := [] })
    let s2 := s1.fault d 0x03 2 (src * 65536 + v) x.expected lost.length
    ((parts.foldl (fun (a : State) p => a.takePart key p) s2).deliverCells key (held.length + 1)).watchGap d src v 65536

/-- A cell reaches its destination die (R317, R318): one that fails its CRC is discarded. -/
def State.recvCell (s : State) (d : Nat) (c : FabricCell) (bad : Bool) : State :=
  if bad then s.bump Od.fabricCellCrc (dieInst d)
  else
    let src := bits c.header 124 122
    let v := bits c.header 115 103
    let key := (src * 8 + d) * 8192 + v
    let x := s.recv key
    let seq := bits c.header 102 87
    if 32768 ≤ (seq + 65536 - x.expected) % 65536 then s
    else
      let s1 := (s.setRecv key { x with held := x.held ++ [(seq, c)] }).deliverCells key (x.held.length + 1)
      let y := s1.recv key
      if y.held = [] then s1.setRecv key { y with since := 0 }
      else if y.expected = x.expected ∧ y.since ≠ 0 ∧ y.since + s.rd Od.fabricReseqTimeout ≤ s.up + 1 then s1.giveUpGap d src v
      else s1.watchGap d src v x.expected

/-- RESEQ_TIMEOUT. -/
def execReseqTimeout (d src v : Nat) (s : State) : Answer :=
  withDie s d <|
    let x := s.recv ((src * 8 + d) * 8192 + v)
    if x.held ≠ [] ∧ x.since + s.rd Od.fabricReseqTimeout ≤ s.up + 1 then s.giveUpGap d src v else s

/-! Superframes (R307 to R310, R314, R315, R319). -/

/-- Transit cells of superframe `n` while own cells wait: FABRIC_TRANSIT_SHARE sixteenths of the slots over the superframes (R315). -/
def transitSlots (share n : Nat) : Nat := 10 * share * (n + 1) / 16 - 10 * share * n / 16

/-- A transit cell leaves an intermediate die: its slot is free, and it counts (R315). -/
def State.relayed (s : State) (d : Nat) (c : Nat × FabricCell) : State := (s.freeTransit d c).bump Od.fabricTransitCells (dieInst d)

/-- The cells of a die's next superframe on a group (R315): the state without them, and the cells. Each cell that goes onward holds a credit. -/
def State.takeSlots (s : State) (d g : Nat) : State × List FabricCell :=
  let x := s.group d g
  let share := if x.own = [] then 10 else transitSlots (s.rd Od.fabricTransitShare) x.sfSeq
  let ready := x.transit.take (128 - x.fifoUsed)
  let own := x.own.take (10 - min share ready.length)
  let transit := ready.take (10 - own.length)
  let s1 := s.setGroup d g
    { x with own := x.own.drop own.length, transit := x.transit.drop transit.length, fifoUsed := x.fifoUsed + transit.length }
  (transit.foldl (fun (a : State) c => a.relayed d c) s1, own ++ transit.map (·.2))

/-- The LANE_CMD that a control block of a group carries, with its spare and lane (R310, R321): SWITCH goes before what the other direction asks for. -/
def Group.command (x : Group) : Nat × Nat × Nat :=
  match x.mirror, x.job with
  | some (l, sp, _ + 1), _ => (3, sp, l)
  | _, some j => (if 2 ≤ j.step then 2 else if j.back then 4 else 1, j.spare, j.lane)
  | _, none => (0, 0, 0)

/-- The octets of a direction's logical lanes go out on the physical lanes of its map, which is the receive map of its peer `p`; a lane being replaced
goes on its spare as well (R307, R321). -/
def State.driveLanes (s : State) (d p g : Nat) (octets : Nat → Nat → List Byte) : State :=
  let map := (List.range 40).map fun l => (s.rdOctet Od.fabricLaneMap (dieInst p) g l, l)
  let also := match (s.group d g).mirror with
    | some (l, sp, _) => [(40 + sp, l)]
    | none => []
  s.emit (.lanes d g ((map ++ also).map fun e => (e.1, octets e.1 e.2)))

/-- An alignment superframe (R309): it resets the scramblers. -/
def State.sendAlignment (s : State) (d p g : Nat) : State :=
  let x := s.group d g
  (s.driveLanes d p g fun lane l => alignmentOctets lane x.aligns (x.bips.getD l 0)).setGroup d g
    { x with aligns := (x.aligns + 1) % 65536, scrambler := Config.scramblerReset.toNat, bips := [] }

/-- A superframe with its control block (R307, R308, R310). -/
def State.sendSuperframe (s : State) (d p g : Nat) (f : Superframe) : State :=
  let x := s.group d g
  let octets := superframeOctets (controlBlock f x.acked x.nak x.command) f.cells
  let key := scrambleBits x.scrambler
  let lane := fun (l : Nat) => (laneOctets octets l).zipWith (fun a b => a ^^^ b) key.1
  let mirror := match x.mirror with
    | some (l, sp, k + 1) => if k = 0 then none else some (l, sp, k)
    | m => m
  (s.driveLanes d p g fun _ l => lane l).setGroup d g
    { x with scrambler := key.2, mirror := mirror, bips := (List.range 40).map fun l => x.bips.getD l 0 ^^^ laneParity (lane l) }

/-- A new superframe (R310, R315, R322): the cells of its slots, the credits due, of one destination in rotating order, and a time that waits. -/
def State.newSuperframe (s : State) (d g : Nat) : State × Superframe :=
  let r := s.takeSlots d g
  let x := r.1.group d g
  let fifo := min 255 x.fifoFreed
  let onward := (nextOf x.onward ((List.range 8).filter fun t => decide (0 < sparseGet (fun _ => 0) x.slotsFreed t))).getD 0
  let due := sparseGet (fun _ => 0) x.slotsFreed onward
  (r.1.setGroup d g
    { x with fifoFreed := x.fifoFreed - fifo, slotsFreed := sparseSet (fun _ => 0) x.slotsFreed onward (due - min 31 due), onward := onward,
             times := x.times.drop 1 },
   { seq := 0, cells := r.2, fifo := fifo, onward := onward, slots := min 31 due, time := x.times.headD (0, 0), again := false })

/-- A die sends its next superframe on a group (R309, R319): an alignment superframe, one that is sent again under a new SF_SEQ, or a new one;
none while 32 stand unacknowledged. -/
def State.formFrame (s : State) (d p g : Nat) : State × Option Superframe :=
  let x := s.group d g
  let n := x.sfSeq
  if x.resend = [] ∧ 32 ≤ x.window.length then (s, none)
  else
    let r : State × Superframe :=
      if n % 4096 = 0 then (s.sendAlignment d p g, { seq := n, cells := [], fifo := 0, onward := 0, slots := 0, time := (0, 0), again := false })
      else
        let e := match x.resend with
          | f :: rest => (s.setGroup d g { x with resend := rest }, f)
          | [] => s.newSuperframe d g
        (e.1.sendSuperframe d p g { e.2 with seq := n }, { e.2 with seq := n })
    let y := r.1.group d g
    (r.1.setGroup d g { y with sfSeq := (n + 1) % 4096, window := y.window ++ [r.2] }, some r.2)

/-- Group on which an intermediate die sends a cell onward: one that is UP where there is one. -/
def State.onwardGroup (s : State) (d dst : Nat) : Option Nat :=
  let l := (List.range 7).filter fun g => groupPeer s.part d g = some dst
  (l.find? fun g => s.groupState d g = 2).or l.head?

/-- A cell comes out of a superframe on a die (R314, R315). -/
def State.cellIn (s : State) (d g : Nat) (c : FabricCell) (bad : Bool) : State :=
  let dst := bits c.header 121 119
  if dst = d then s.recvCell d c bad
  else
    match s.onwardGroup d dst with
    | none => s
    | some h =>
      let x := s.group d h
      s.setGroup d h { x with transit := x.transit ++ [(g, c)] }

/-- The spares of a direction after training (R306): one that the map holds is in service, and one that it no longer holds is Seasoning. -/
def State.mapSpares (s : State) (d g : Nat) (map : List Nat) : State :=
  (List.range 4).foldl (fun (a : State) i =>
    if map.contains (40 + i) then a.setSpare 1 d g i 3 else if a.spareState 1 d g i = 3 then a.setSpare 1 d g i 1 else a) s

/-- Traffic may use a group (R306): both its directions start with full credit. -/
def State.groupUp (s : State) (d g : Nat) : State :=
  let x := s.group d g
  let map := x.map.foldl (fun a l => a * 256 + l) 0
  (((s.setGroup d g { x with step := 0, fifoUsed := 0, transitUsed := [] }).wr Od.fabricLaneMap map (dieInst d) g).wr Od.fabricGroupState 2
    (dieInst d) g).mapSpares d g x.map

/-- A resend is asked for (R319): FABRIC_RETRIES counts it, and more than 16 in a millisecond start a lane check (R320). -/
def State.countRetry (s : State) (d g seq : Nat) : State :=
  let x := s.group d g
  let fresh := decide (x.retryFrom + 1000000 ≤ s.up)
  let n := if fresh then 1 else x.retries + 1
  let s1 := ((s.setGroup d g { x with retries := n, retryFrom := if fresh then s.up else x.retryFrom, nak := true }).bump Od.fabricRetries
    (dieInst d) g).fault d 0x02 0 g seq n
  if n = 17 then s1.emit (.link 6 (d * 8 + g) [0x101]) else s1

/-- A superframe that cannot be corrected, or a gap in SF_SEQ (R319): it is discarded, and NAK is set. One of those that follow it is discarded with
it. -/
def State.superframeBad (s : State) (d p g : Nat) : State :=
  let r := s.formFrame p d g
  match r.2 with
  | none => s
  | some f => if (s.group d g).nak ∧ f.again = false then r.1 else r.1.countRetry d g f.seq

/-- An alignment superframe advances the check of a spare lane (R309, R321): when it is over, READY is sent. -/
def State.checkSpare (s : State) (d g : Nat) : State :=
  let x := s.group d g
  match x.job with
  | some j =>
    if j.step < 2 then
      let s1 := s.setGroup d g { x with job := some { j with step := j.step + 1 } }
      if j.step = 1 then s1.emit (.link 6 (d * 8 + g) [2, j.spare, j.lane]) else s1
    else s
  | none => s

/-- A control block is taken in on a die (R310, R314, R315, R319): credits, acknowledgement and NAK. -/
def State.takeControl (s : State) (d g : Nat) (f : Superframe) (acked : Nat) (nak : Bool) : State :=
  let x := s.group d g
  let open_ := x.window.filter fun w => decide (2048 ≤ (acked + 4096 - w.seq) % 4096)
  let used := sparseGet (fun _ => 0) x.transitUsed f.onward
  s.setGroup d g
    { x with fifoUsed := x.fifoUsed - f.fifo, transitUsed := sparseSet (fun _ => 0) x.transitUsed f.onward (used - f.slots),
             window := if nak then [] else open_,
             resend := if nak then open_.map (fun w => { w with again := true }) ++ x.resend else x.resend }

/-- A superframe decoded without error on a group that is UP (R307): its acknowledgement, its control block and its cells. -/
def State.superframeGood (s : State) (d p g : Nat) (crcBad : List Nat) : State :=
  let r := s.formFrame p d g
  match r.2 with
  | none => s
  | some f =>
    let x := r.1.group d g
    if x.nak ∧ f.again = false then r.1
    else
      let y := s.group p g
      let s1 := r.1.setGroup d g { x with acked := f.seq, nak := false, fifoFreed := x.fifoFreed + f.cells.length }
      let s2 := if f.seq % 4096 = 0 then s1.checkSpare d g else s1.takeControl d g f y.acked y.nak
      (f.cells.zipIdx).foldl (fun (a : State) (e : FabricCell × Nat) => a.cellIn d g e.1 (crcBad.contains e.2)) s2

/-- SUPERFRAME_RX (R307, R308, R319; R306 steps 4 and 5). -/
def State.superframe (s : State) (d p g corrected : Nat) (ok : Bool) (crcBad : List Nat) : State :=
  let s1 := s.bump Od.fabricCorrectedSymbols (dieInst d) g corrected
  let x := s.group d g
  if s.groupState d g = 2 then if ok then s1.superframeGood d p g crcBad else s1.superframeBad d p g
  else if s.groupState d g = 1 ∧ ok = true ∧ x.step = 4 then s1.setGroup d g { x with step := 5 }
  else if s.groupState d g = 1 ∧ ok = true ∧ x.step = 5 then s1.groupUp d g
  else s

/-- Run a meaning on a routed group of a die of the part. -/
def withGroup (s : State) (d g : Nat) (f : Nat → State) : Answer :=
  match groupPeer s.part d g with
  | some p => withDie s d (f p)
  | none => .fault .absentUnit

/-- SUPERFRAME_RX. -/
def execSuperframeRx (d g corrected : Nat) (ok : Bool) (crcBad : List Nat) (s : State) : Answer :=
  withGroup s d g fun p => s.superframe d p g corrected ok crcBad

/-! Training (R306). -/

/-- Limit of a step from the start of training, in ns. -/
def trainLimit (step : Nat) : Nat := [10, 2, 4, 5, 7, 8, 10].getD step 10 * 1000000

/-- A group enters a step of its training, and its limit is watched. -/
def State.trainStep (s : State) (d g step : Nat) (x : Group) : State :=
  (s.setGroup d g { x with step := step }).later (x.since + trainLimit step - s.up) (.fabricTrainTimeout d g)

/-- Whether a physical lane of a receive direction is Retired (R415). -/
def State.laneRetired (s : State) (d g lane : Nat) : Bool :=
  s.recov.retired.any fun r => r.cls = 1 && r.die = d && r.group = g && r.unit = lane

/-- Lanes that may go into service: locked at both ends and not Retired. -/
def State.goodLanes (s : State) (d g : Nat) (x : Group) : List Nat :=
  (List.range 44).filter fun l => x.locked.contains l && x.peerLocked.contains l && !s.laneRetired d g l

/-- Step 3 begins: the receive map is built. -/
def State.buildMap (s : State) (d g : Nat) (x : Group) : State :=
  s.trainStep d g 3 { x with map := (s.goodLanes d g x).take 40, echoes := 0 }

/-- The training block that a die sends on a lane (R306). -/
def State.blockOf (s : State) (d g lane : Nat) : Nat × List Byte :=
  let x := s.group d g
  let locked := x.locked.contains lane
  (lane, trainingOctets lane (if x.step ≤ 1 ∨ locked = false then 0 else if x.step = 2 then 1 else 2) d x.map x.peerMap)

/-- What a training block with a good CRC makes of a group in training. -/
def State.readBlock (s : State) (d g : Nat) (block : List Byte) : State :=
  let x := s.group d g
  let lane := (byteAt block 4).toNat
  let st := (byteAt block 5).toNat
  let octets := fun (at_ : Nat) => (slice block at_ 40).map (·.toNat)
  let y : Group :=
    { x with locked := if x.locked.contains lane then x.locked else x.locked ++ [lane],
             peerLocked := if st = 0 ∨ x.peerLocked.contains lane then x.peerLocked else x.peerLocked ++ [lane],
             peerMap := if st = 2 then octets 8 else x.peerMap }
  if y.step = 1 then if y.locked.length = 44 then s.trainStep d g 2 y else s.setGroup d g y
  else if y.step = 2 then
    if y.locked.all y.peerLocked.contains = true ∧ 40 ≤ (s.goodLanes d g y).length then s.buildMap d g y else s.setGroup d g y
  else if y.step = 3 then
    let z : Group := { y with echoes := if st = 2 ∧ octets 48 = y.map then y.echoes + 1 else 0 }
    if z.echoes = 16 then s.trainStep d g 4 z else s.setGroup d g z
  else s.setGroup d g y

/-- A training block with a good CRC on a group in training: the die's own block on that lane follows. -/
def State.trainingBlock (s : State) (d g : Nat) (block : List Byte) : State :=
  let s1 := s.readBlock d g block
  s1.emit (.lanes d g [s1.blockOf d g (byteAt block 4).toNat])

/-- TRAINING_BLOCK_RX (R306): a block whose CRC or marker fails, or that names no lane or a reserved state, is ignored. -/
def execTrainingBlockRx (d g : Nat) (block : List Byte) (s : State) : Answer :=
  withGroup s d g fun _ =>
    let good := block.length = 128 ∧ beNat (block.take 4) = 0x7E1DC3A5 ∧ (byteAt block 4).toNat < 44 ∧ (byteAt block 5).toNat ≤ 2
      ∧ beNat (slice block 124 4) = crc32c (block.take 124)
    if s.groupState d g = 1 ∧ good then s.trainingBlock d g block else s

/-- Training starts again from step 1 (R306). -/
def State.restartGroup (s : State) (d g : Nat) : State :=
  let x : Group := { Group.fresh with since := s.up }
  let s1 := (s.trainStep d g 1 x).wr Od.fabricGroupState 1 (dieInst d) g
  s1.emit (.lanes d g ((List.range 44).map (s1.blockOf d g)))

/-- FABRIC_TRAIN_TIMEOUT (R306, R324): a limit has passed, or a group that is DOWN trains again. A fenced die's groups stay DOWN. -/
def State.trainTimeout (s : State) (d p g : Nat) : State :=
  let x := s.group d g
  let st := s.groupState d g
  if s.isFenced d ∨ s.isFenced p then s
  else if st = 3 then if x.since + 10000000 ≤ s.up then s.restartGroup d g else s
  else if st ≠ 1 ∨ s.up < x.since + trainLimit x.step then s
  else if x.step = 1 ∧ 40 ≤ x.locked.length then s.trainStep d g 2 x
  else if x.step = 2 ∧ 40 ≤ (s.goodLanes d g x).length then s.buildMap d g x
  else if x.step ≤ 2 then
    let s1 := (s.fire d 0x154).fault d 0x01 0 (g * 256)
    if s.up < x.since + 10000000 then s1.later (x.since + 10000000 - s.up) (.fabricTrainTimeout d g) else s1.restartGroup d g
  else if s.up < x.since + 10000000 then s.later (x.since + 10000000 - s.up) (.fabricTrainTimeout d g)
  else s.restartGroup d g

/-- FABRIC_TRAIN_TIMEOUT. -/
def execFabricTrainTimeout (d g : Nat) (s : State) : Answer := withGroup s d g fun p => s.trainTimeout d p g

/-! Spare lanes (R321, R324). -/

/-- Physical lane of a logical lane (FABRIC_LANE_MAP). -/
def State.laneOf (s : State) (d g l : Nat) : Nat := s.rdOctet Od.fabricLaneMap (dieInst d) g l

/-- The spare that a replacement takes: a Seasoned one, else one that is Seasoning, else a Cold one. -/
def State.spareLane (s : State) (d g : Nat) : Option Nat :=
  let of_ := fun (v : Nat) => (List.range 4).find? fun i => s.spareState 1 d g i = v
  (of_ 2).or ((of_ 1).or (of_ 0))

/-- A group loses alignment with no spare left (R324). -/
def State.groupLost (s : State) (d g : Nat) : State :=
  let x := s.group d g
  (s.breakGroup d g 3).fault d 0x02 2 g x.sfSeq x.retries

/-- A replacement of a logical lane begins, or its lane stays erased for want of a spare. -/
def State.replaceLane (s : State) (d g l : Nat) : State :=
  let x := s.group d g
  match s.spareLane d g with
  | some i => (s.setGroup d g { x with job := some { lane := l, spare := i, step := 0, back := false } }).emit (.link 6 (d * 8 + g) [1, i, l])
  | none => (s.fire d 0x154).fault d 0x01 0 (g * 256 + s.laneOf d g l)

/-- FABRIC_LANE_TRIGGER (R321, R324): cause 1 loss of lock or a failed self-check, 2 more than 1,024 symbols corrected in 1 ms. -/
def State.laneTrigger (s : State) (d g l cause : Nat) : State :=
  let x := s.group d g
  let lost := cause = 1
  let stuck := x.job.isNone ∧ x.erased ≠ [] ∧ s.spareLane d g = none
  if lost ∧ stuck ∧ x.erased.contains l = false then s.groupLost d g
  else
    let s1 := s.setGroup d g { x with erased := if lost ∧ x.erased.contains l = false then x.erased ++ [l] else x.erased }
    match x.job with
    | some j =>
      if j.lane = l ∨ x.waiting.contains l then s1
      else s1.setGroup d g { s1.group d g with waiting := x.waiting ++ [l] }
    | none => s1.replaceLane d g l

/-- FABRIC_LANE_TRIGGER. -/
def execFabricLaneTrigger (d g lane cause : Nat) (s : State) : Answer :=
  withGroup s d g fun _ => if lane < 40 ∧ s.groupState d g = 2 then s.laneTrigger d g lane cause else s

/-- LANE_CMD_MIRROR (R321): the sender drives the spare with the lane's bytes, unless another replacement is in progress. -/
def execLaneCmdMirror (d g spare lane : Nat) (s : State) : Answer :=
  withGroup s d g fun _ =>
    let x := s.group d g
    if lane < 40 ∧ spare < 4 ∧ x.mirror = none then s.setGroup d g { x with mirror := some (lane, spare, 0) } else s

/-- LANE_CMD_READY (R321): the sender sends SWITCH in 64 superframes. -/
def execLaneCmdReady (d g spare lane : Nat) (s : State) : Answer :=
  withGroup s d g fun _ =>
    let x := s.group d g
    if x.mirror = some (lane, spare, 0) then
      (s.setGroup d g { x with mirror := some (lane, spare, 64) }).emit (.link 6 (d * 8 + g) [3, spare, lane])
    else s

/-- The next lane that waits for its replacement begins it. -/
def State.nextLane (s : State) (d g : Nat) : State :=
  let x := s.group d g
  match x.waiting with
  | [] => s
  | l :: rest => (s.setGroup d g { x with waiting := rest }).replaceLane d g l

/-- The receiver reads a logical lane from its new physical lane (R321 step 4). -/
def State.switchLane (s : State) (d g : Nat) (j : LaneJob) : State :=
  let x := s.group d g
  let old := s.laneOf d g j.lane
  let s1 := s.setGroup d g { x with job := none, erased := x.erased.filter (· ≠ j.lane) }
  let i := dieInst d
  if j.back then
    ((s1.wrOctet Od.fabricLaneMap i g j.lane j.lane).setSpare 1 d g j.spare 1).nextLane d g
  else
    let s2 := (((s1.wrOctet Od.fabricLaneMap i g j.lane (40 + j.spare)).setSpare 1 d g j.spare 3).bump Od.fabricLaneSwitchovers i g)
    let s3 := if 40 ≤ old then s2.setSpare 1 d g (old - 40) 4 else s2
    (((s3.faultSpare d 0x01 1 (g * 256 + old) (if x.erased.contains j.lane then 1 else 2)).fire d 0x153).retire 1 d g old 0x01).nextLane d g

/-- LANE_CMD_SWITCH (R321): a command that names another lane or spare is ignored. -/
def execLaneCmdSwitch (d g spare lane : Nat) (s : State) : Answer :=
  withGroup s d g fun _ =>
    match (s.group d g).job with
    | some j => if j.lane = lane ∧ j.spare = spare ∧ j.step = 2 then s.switchLane d g j else s
    | none => s

/-- LANE_CMD_RELEASE (R321): the sender takes a lane back to its own physical lane by the same steps, unless that lane is Retired. -/
def execLaneCmdRelease (d g spare lane : Nat) (s : State) : Answer :=
  withGroup s d g fun p =>
    let x := s.group d g
    let y := s.group p g
    if lane < 40 ∧ spare < 4 ∧ x.mirror = none ∧ y.job = none ∧ s.laneOf p g lane = 40 + spare ∧ s.laneRetired p g lane = false then
      (s.setGroup d g { x with mirror := some (lane, spare, 0) }).setGroup p g
        { y with job := some { lane := lane, spare := spare, step := 0, back := true } }
    else s

/-! Time alignment (R322, R323). -/

/-- A TIME_VALUE in 2^-16 ns (R38, R310). -/
def ofTime64 (v : Nat) : Nat := (bits v 63 48 * 1000000000 * 65536) + bits v 47 0

/-- The signed difference of two TIME_VALUEs. -/
def timeDiff (a b : Nat) : Int :=
  let span : Int := 65536 * 1000000000 * 65536
  let x : Int := ((ofTime64 a : Int) - ofTime64 b) % span
  if span / 2 ≤ x then x - span else x

/-- Whether a die has a group UP to another. -/
def State.reaches (s : State) (d p : Nat) : Bool := (List.range 7).any fun g => groupPeer s.part d g = some p && s.groupState d g = 2

/-- The die to which a die aligns (R322, R323), with FABRIC_TIME_RELAYED: the master, or the lowest die with groups to both. -/
def State.alignTo (s : State) (d : Nat) : Option (Nat × Bool) :=
  let m := s.hostDie s.time.master
  if d = m then none
  else if s.reaches d m then some (m, false)
  else (s.part.dies.find? fun x => decide (x ≠ d) && s.reaches d x && s.reaches x m).map fun x => (x, true)

/-- The time exchange of a die. -/
def State.exchange (s : State) (d : Nat) : TimeExchange := sparseGet (fun _ => { t1 := 0, t2 := 0, t3 := 0, offCount := 0 }) s.fabric.times d
def State.setExchange (s : State) (d : Nat) (x : TimeExchange) : State :=
  { s with fabric := { s.fabric with times := sparsePut s.fabric.times d x } }

/-- A time waits for the next control block of a group (R310, R322). -/
def State.sendTime (s : State) (d g kind value : Nat) : State :=
  let x := s.group d g
  s.setGroup d g { x with times := x.times ++ [(kind, value)] }

/-- FABRIC_TIME_EXCHANGE (R322): a STAMP goes out on each routed group. -/
def execFabricTimeExchange (d : Nat) (s : State) : Answer :=
  withDie s d <|
    let v := low 64 (time96 s.time.now)
    ((List.range 7).filter fun g => (groupPeer s.part d g).isSome).foldl (fun (a : State) g => a.sendTime d g 1 v)
      (s.setExchange d { s.exchange d with t3 := v })

/-- TIME_STAMP_RX (R322): the arrival time is echoed, and a stamp of the die to align to is kept. -/
def execTimeStampRx (d g value arrival : Nat) (s : State) : Answer :=
  withGroup s d g fun p =>
    let s1 := s.sendTime d g 2 (low 64 arrival)
    match s.alignTo d with
    | some (r, relayed) =>
      let s2 := s1.wr Od.fabricTimeRelayed (b2n relayed) (dieInst d)
      if r = p then s2.setExchange d { s2.exchange d with t1 := low 64 value, t2 := low 64 arrival } else s2
    | none => s1.wr Od.fabricTimeRelayed 0 (dieInst d)

/-- TIME_ECHO_RX (R322): the offset is taken; 16 in a row above 1 ns raise FABRIC_TIME_ALIGN. -/
def State.timeEcho (s : State) (d value : Nat) : State :=
  let x := s.exchange d
  let offset := (timeDiff x.t2 x.t1 - timeDiff value x.t3) / 2
  let off := if offset.natAbs ≤ 65536 then 0 else x.offCount + 1
  let s1 := (s.setExchange d { x with offCount := off }).wr Od.fabricTimeOffset (ofSigned 32 offset) (dieInst d)
  if off = 16 then (s1.fire d 0x155).fault d 0x13 0 d (ofSigned 32 (offset / 65536)) else s1

/-- TIME_ECHO_RX. -/
def execTimeEchoRx (d g value : Nat) (s : State) : Answer :=
  withGroup s d g fun p => if (s.alignTo d).map (·.1) = some p then s.timeEcho d (low 64 value) else s

end Sys2Proof.Machine
end

