-- ==== Sys2Proof/Machine/Setup.lean ====
section
/-! DEFINITION. Writes of the forwarding objects, 0x3000 to 0x6FFF: parser banks, rule sets, tables, placement, control-store images, rewrite,
buffers and queues; what a swap checks; copies of a live bank (R99 to R122, R126 to R139, R153 to R157, R176, R191 to R193, R225 to R231,
R237, R254, R303, R304, R434). -/

namespace Sys2Proof.Machine

/-! Families. -/


/-- Tables of a family, with the code store and entries of an image (R99, R155, R191, R228, R237, R297). -/
def famTables (f : Nat) : List Nat :=
  if f = 0x30 then [0x30, 0x31, 0x34]
  else if f = 0x4B then [0x4B, 0x4C, 0x4D, 0x4F]
  else if f = 0x54 then [0x54, 0x55, 0x56, 0x57]
  else if f = 0x58 then [0x58, 0x59, 0x5A]
  else if f = 0x200 ∨ f = 0x201 then [0x100 + (f - 0x200), 0x110 + (f - 0x200)]
  else if 0x40 ≤ f ∧ f ≤ 0x4E then [f]
  else []

/-- Registers that a family's banks hold beside its tables. -/
def famRegs (f : Nat) : List Obj :=
  if f = 0x30 then [Od.profileStartNode, Od.profilePsaMax, Od.profilePatternSet, Od.keyProfileRecord, Od.patternSetBase, Od.patternSetCount]
  else if f = 0x54 then [Od.rewriteShadowTiles]
  else if f = 0x58 then [Od.placeNodesetShadowTiles]
  else if f = 0x200 ∨ f = 0x201 then [Od.aeCodeLinkedVersion]
  else if 0x40 ≤ f ∧ f ≤ 0x4E then [Od.tableShadowTiles, Od.tableShadowSeed]
  else []

/-- Members of such a register that belong to the family. -/
def famMembers (f : Nat) (o : Obj) : List Nat :=
  if f = 0x4B then [11, 12, 13]
  else if 0x40 ≤ f ∧ f ≤ 0x4E then [f - 0x40]
  else if 0x200 ≤ f then [f - 0x200]
  else (List.range 64).filter fun k => decide (o.first ≤ k) && decide (k < o.first + o.count)

/-- Whether a mark of disagreement is of a table: marks are table * 2^1500 + key. -/
def markTable (m : Nat) : Nat := m / 2 ^ 1500

/-- Records of a table's bank are dropped: they read as at the start. -/
def State.emptyTable (s : State) (bank t : Nat) : State :=
  { s with tables := s.tables.filter fun e => decide (e.1 / 2 ^ 48 ≠ bank * 4096 + t) }

/-- The live bank of a table is copied into its shadow. -/
def State.copyTable (s : State) (live t : Nat) : State :=
  let src := s.tables.filter fun e => e.1 / 2 ^ 48 = live * 4096 + t
  let s1 := s.emptyTable (1 - live) t
  { s1 with tables := src.foldl (fun m e => sparsePut m (tblKey (1 - live) t (e.1 % 2 ^ 48)) e.2) s1.tables }

/-- The live bank of a family is copied into the shadow on every die, and its marks end (R26, R156). -/
def State.copyFamily (s : State) (f : Nat) : State :=
  let live := (s.fam f).live
  let s1 := (famTables f).foldl (fun (a : State) t => a.copyTable live t) s
  let s2 := (famRegs f).foldl (fun (a : State) o => (famMembers f o).foldl (fun (b : State) k =>
    b.wr o (b.rd o (bankInst live) k) (bankInst (1 - live)) k) a) s1
  s2.setFam f { s2.fam f with disagree := [], stale := false, log := [], spoiled := false }

/-- Tiles of all live and shadow banks (R153). -/
def State.tilesUsed (s : State) : Nat :=
  let both := fun (t : Nat) => s.tiles t 0 + s.tiles t 1
  (((List.range 15).map fun k => both (0x40 + k)) ++ ((List.range 4).map fun k => both (0x54 + k))).foldl (· + ·) (both 0x59 + 2)

/-! Swaps (check 13 of R337). -/

/-- Statuses of R99, R155, R191, R237 and R297 for a swap of a family. -/
def State.checkSwap (s : State) (f : Nat) : Status :=
  if s.swapPending f ∨ s.famHeld f then .bankBusy
  else if (s.fam f).disagree ≠ [] ∨ (s.fam f).stale then .state
  else .ok

/-- Commits of a set that are pending (R139). -/
def State.commitPending (s : State) (set : Nat) : Bool := s.sched.changes.any fun c => c.index = 0x3800 + set && c.sub = 6

/-- Statuses of ASA_SET_SWAP (R136). -/
def State.checkAsaSwap (s : State) (set : Nat) : Status :=
  if s.swapPending (0x100 + set) ∨ s.commitPending set ∨ s.famHeld (0x100 + set) then .bankBusy
  else if s.setBanks set true = [] ∨ (s.fam (0x100 + set)).disagree ≠ [] then .state
  else .ok

/-- Statuses of ASA_SET_COMMIT (R139). -/
def State.checkAsaCommit (s : State) (set : Nat) : Status :=
  if s.swapPending (0x100 + set) ∨ s.commitPending set then .bankBusy
  else if s.pendingGate set then .ok
  else .state

/-- Octets of a bank of an image, in the form of R225: 4,096 words of 24 octets, then entries 0xC0 to 0xFF. -/
def State.imageOctets (s : State) (i bank : Nat) : List Byte :=
  ((List.range 4096).map fun w => beBytes 24 (s.tbl bank (0x100 + i) w)).flatten
    ++ ((List.range 64).map fun e => beBytes 4 (s.tbl bank (0x110 + i) (0xC0 + e))).flatten

/-- AE_CODE_DIGEST, or AE_LIVE_DIGEST, of an image (R225). -/
def State.imageDigest (s : State) (i bank : Nat) : Nat := beNat (sha256 (s.imageOctets i bank))

/-- Statuses of AE_CODE_SWAP (R228). -/
def State.checkCodeSwap (s : State) (i value : Nat) : Status :=
  let f := 0x200 + i
  if value ≠ s.imageDigest i (s.shadowOf f) then .range
  else if s.rd Od.aeCodeLinkedVersion (bankInst (s.shadowOf f)) i ≠ s.rd Od.aeDechusVersion ∨ (s.fam f).disagree ≠ [] then .state
  else if s.swapPending f ∨ s.famHeld f then .bankBusy
  else .ok

/-- Statuses of GCL_SWAP (R297): a swap pends until its cycle start. -/
def State.checkGateSwap (s : State) (n : Nat) : Status :=
  if (s.gate n).swap.isSome then .bankBusy else s.checkSwap (gateFam n)

/-! Values of RWE objects that depend on the state (checks 11 and 13 of R337). -/

/-- Checks of a value for an RWE object of these chapters, other than the swaps. -/
def State.checkForwarding (s : State) (a : Address) (value : Nat) : Status :=
  let i := a.index
  if 0x3820 ≤ i ∧ i < 0x3830 ∧ a.sub = 1 then if value < 8 ∧ s.rd Od.asaSetMode 0 value = 2 then .range else .ok
  else if 0x6400 ≤ i ∧ i < 0x6408 ∧ a.sub = 2 then if s.rd Od.threshMode = 0 then .state else .ok
  else if 0x6400 ≤ i ∧ i < 0x6408 ∧ a.sub = 9 then if value ≤ s.rd Od.ecnKmin 0 (i - 0x6400) then .range else .ok
  else .ok

/-! Parser objects (R99, R120 to R122). -/

/-- Object, and member, of a shadow parser object. -/
def parserObj (i b : Nat) : Option (Obj × Nat) :=
  if 0x3010 ≤ i ∧ i < 0x3020 then
    if b = 1 then some (Od.profileStartNode, i - 0x3010) else if b = 2 then some (Od.profilePsaMax, i - 0x3010)
    else some (Od.profilePatternSet, i - 0x3010)
  else if 0x3040 ≤ i ∧ i < 0x3080 then some (Od.keyProfileRecord, Od.keyProfileRecord.member i b)
  else if 0x3400 ≤ i ∧ i < 0x3410 then some (if b = 1 then Od.patternSetBase else Od.patternSetCount, i - 0x3400)
  else none

/-- A write of a parser object goes to the shadow bank. -/
def State.writeParser (s : State) (c : WriteCtx) (o : Obj) (k : Nat) : WriteRes :=
  let bi := bankInst (s.shadowOf 0x30)
  let i := c.addr.index
  let base := if i < 0x3400 then 0 else if c.addr.sub = 1 then c.value else s.rd Od.patternSetBase bi k
  let count := if i < 0x3400 then 0 else if c.addr.sub = 2 then c.value else s.rd Od.patternSetCount bi k
  if 0x3040 ≤ i ∧ i < 0x3080 ∧ badKeyProfile c.value = true then WriteRes.refuse s .range
  else if 1024 < base + count then WriteRes.refuse s .range
  else if s.famHeld 0x30 then WriteRes.refuse s .bankBusy
  else WriteRes.good ((s.wr o c.value bi k).touchFam 0x30 c.writer)

/-! Rule sets (R126 to R140, R152). -/

/-- Whether any profile or port names a set, live or pending (R128). -/
def State.setNamed (s : State) (set : Nat) : Bool :=
  ((List.range 16).any fun r => s.rd Od.asaLookup0Set 0 r = set || s.rd Od.asaLookup1Set 0 r = set)
    || (decide (8 ≤ set) && (List.range 512).any fun n => s.rd Od.egressAsaSet (portInst n) = set)
    || s.sched.changes.any fun c => c.value = set && ((0x3820 ≤ c.index && c.index < 0x3830 && c.sub ≤ 2) || (c.index = 0x3830 && c.sub = 1))

/-- Banks of the arrays that a group takes, array * 8 + bank with the egress array as 4: a set that is OFF takes those its bits name. -/
def groupTakes (set mode mask : Nat) : List Nat :=
  if 8 ≤ set then ((List.range 4).filter fun i => bitOf mask i).map fun i => 32 + i
  else if mode = 1 then (List.range 32).filter fun i => bitOf mask (i % 8)
  else (List.range 32).filter fun i => bitOf mask i

/-- Whether a group of a set would share a bank with another group (R126). -/
def State.groupClash (s : State) (set mode mask : Nat) (shadow : Bool) : Bool :=
  let mine := groupTakes set mode mask
  (List.range 12).any fun t => [true, false].any fun g =>
    !(t = set && g = shadow) &&
      (groupTakes t (if t = set then mode else s.rd Od.asaSetMode 0 t) (s.rd (if g then Od.asaSetShadowBanks else Od.asaSetBanks) 0 t)).any
        mine.contains

/-- Bits that a group of a set may have. -/
def groupBits (set mode : Nat) : Nat := if 8 ≤ set then 15 else if mode = 1 then 255 else 0xFFFFFFFF

/-- Rows of listed banks are dropped. -/
def State.emptyBanks (s : State) (banks : List Nat) : State :=
  { s with asa := { s.asa with rows := s.asa.rows.filter fun e => !banks.contains (e.1 / 4096) } }

/-- Writes of the objects of a rule set (R126, R128, R132, R140, R152). -/
def State.writeSet (s : State) (c : WriteCtx) (set : Nat) : WriteRes :=
  let b := c.addr.sub
  let v := c.value
  let mode := s.rd Od.asaSetMode 0 set
  let live := s.rd Od.asaSetBanks 0 set
  let shadow := s.rd Od.asaSetShadowBanks 0 set
  if b = 1 then
    if v = 2 ∧ 8 ≤ set then WriteRes.refuse s .range
    else if s.setNamed set ∨ s.groupClash set v live false ∨ s.groupClash set v shadow true then WriteRes.refuse s .state
    else WriteRes.good (((s.emptyBanks (s.setBanks set false ++ s.setBanks set true)).store c).state)
  else if b = 2 then
    if s.setNamed set then WriteRes.refuse s .state
    else WriteRes.good (((s.emptyBanks (s.setBanks set false ++ s.setBanks set true)).store c).state)
  else if b = 3 then
    if v ||| groupBits set mode ≠ groupBits set mode then WriteRes.refuse s .range
    else if s.setNamed set ∨ s.groupClash set mode v false then WriteRes.refuse s .state
    else WriteRes.good (((s.emptyBanks (groupBanks set mode (bitsMinus v live))).store c).state)
  else if b = 4 then
    if v ||| groupBits set mode ≠ groupBits set mode then WriteRes.refuse s .range
    else if s.swapPending (0x100 + set) ∨ s.famHeld (0x100 + set) ∨ s.groupClash set mode v true then WriteRes.refuse s .state
    else WriteRes.good (((s.emptyBanks (groupBanks set mode (bitsMinus v shadow))).store c).state)
  else if b = 0x0A then if s.setNamed set then WriteRes.refuse s .state else s.store c
  else if b = 0x0D then
    if badKeyMap v (s.setWidth set / 8) then WriteRes.refuse s .range
    else if s.setNamed set then WriteRes.refuse s .state
    else s.store c
  else s.store c

/-! Table sizes and seeds (R153, R154, R157, R182, R237). -/

/-- Largest bank of a table in tiles; 1 for a fixed bank. -/
def maxTiles (t : Nat) : Nat :=
  if t = 0x41 then 8 else if t = 0x43 ∨ t = 0x48 ∨ t = 0x49 ∨ t = 0x59 then 64 else if t = 0x46 ∨ t = 0x47 then 32
  else if t = 0x45 ∨ t = 0x4A ∨ t = 0x4C ∨ t = 0x4D then 16
  else if t = 0x54 ∨ t = 0x55 ∨ t = 0x56 then 8
  else 1

/-- A shadow bank is emptied by a write of its seed or size (R157). -/
def State.emptyShadow (s : State) (f t : Nat) (o : Obj) (k v writer : Nat) : State :=
  let sh := s.shadowOf f
  let s1 := (s.emptyTable sh t).wr o v (bankInst sh) k
  let x := s1.fam f
  let x1 : Family :=
    { x with disagree := x.disagree.filter fun m => decide (markTable m ≠ t),
             stale := if (famTables f).length = 1 then false else x.stale, spoiled := true }
  (s1.setFam f x1).touchFam f writer

/-- A write of a seed. -/
def State.writeSeed (s : State) (c : WriteCtx) (t : Nat) : WriteRes :=
  let f := famOfTable t
  let st := s.bankState f
  if st = 1 ∨ st = 2 then WriteRes.refuse s .state
  else WriteRes.good (s.emptyShadow f t Od.tableShadowSeed (t - 0x40) c.value c.writer)

/-- A write of a bank size: a power of two within the table's range. -/
def State.writeTiles (s : State) (c : WriteCtx) (t most : Nat) (o : Obj) (k : Nat) : WriteRes :=
  let f := famOfTable t
  let st := s.bankState f
  if isPow2 c.value = false ∨ most < c.value then WriteRes.refuse s .range
  else if st = 1 ∨ st = 2 then WriteRes.refuse s .state
  else if 256 < s.tilesUsed + c.value - s.tiles t (s.shadowOf f) then WriteRes.refuse s .tableFull
  else WriteRes.good (s.emptyShadow f t o k c.value c.writer)

/-! Customer microcode (R225, R226). -/

/-- Whether an operand code is reserved (R204). -/
def badOperand (o : Nat) : Bool :=
  !(decide (o < 0x20) || o = 0x20 || o = 0x21 || o = 0x22 || o = 0x24 || o = 0x25 || (decide (0x40 ≤ o) && decide (o < 0x50))
    || (decide (0x80 ≤ o) && decide (o < 0xC0)) || (decide (0x100 ≤ o) && decide (o < 0x1C0)))

/-- Value of an object that the booted image fixes and the spec does not state, by the image's Dechus version (DESIGN CHOICE, log 13). -/
def imageValue (o : Obj) (k version : Nat) : Nat := low (8 * o.type.size) (Config.perPart (o.key version k + 2 ^ 200))

/-- Whether an image has been booted (R480). -/
def State.imageBooted (s : State) : Bool := s.rd Od.bootStage ≠ 0 && s.rd Od.bootStage ≠ 4

/-- AE_EXPORTS of the image that has been booted (R230). -/
def State.aeExports (s : State) : Nat := if s.imageBooted then imageValue Od.aeExports 0 (s.rd Od.aeDechusVersion) else 0

/-- Octets of the Dechus region and its entries as loaded, in the form of R225: of the ingress image, then of the egress image (R230; DESIGN
CHOICE, log 13). -/
def State.dechusOctets (s : State) : List Byte :=
  [false, true].flatMap fun eg =>
    ((List.range 0x3000).map fun w => beBytes 24 (s.word eg 0 w)).flatten ++ ((List.range 0xC0).map fun e => beBytes 4 (s.entry eg 0 e)).flatten

/-- AE_DECHUS_DIGEST (R230). -/
def State.dechusDigest (s : State) : Nat := if s.imageBooted then beNat (sha256 s.dechusOctets) else 0

/-- Call targets that the Dechus image exports (R230). -/
def State.exports (s : State) : List Nat := ((List.range 64).map fun i => (s.aeExports / 65536 ^ (63 - i)) % 65536).filter (· ≠ 0)

/-- Whether an address lies in the customer region (R198). -/
def inRegion (a : Nat) : Bool := decide (0x3000 ≤ a) && decide (a ≤ 0x3FFF)

/-- Reason for which a word is refused (R226), 0 for none: the lowest that applies. -/
def wordReason (i : Nat) (exports : List Nat) (addr w : Nat) : Nat :=
  let seq := wSeq w
  let alus := [wAlu w 0, wAlu w 1]
  if bits w 50 32 ≠ 0 ∨ bits w 76 76 ≠ 0 ∨ (bitOf (wHvw w) 15 = false ∧ wHvw w ≠ 0) ∨ (wMoveDst w = 0x7F ∧ wMoveSrc w ≠ 0) then 0x01
  else if (alus.any fun a => decide (0x12 ≤ a.1) || badOperand a.2.1 || badOperand a.2.2) ∨ wCond w = 14
      ∨ (0x30 ≤ wMoveDst w ∧ wMoveDst w ≠ 0x7F) ∨ badOperand (wMoveSrc w) ∨ 191 < bits (wHvw w) 14 7 ∨ 3 < bits (wHvw w) 2 0 ∨ 3 < wCtxOp w
      ∨ wCntOp w = 3 ∨ wMetOp w = 3 ∨ 4 < wEmitOp w ∨ 5 < wRepl w ∨ wPerf w = 3 then 0x02
  else if ((seq = 1 ∨ seq = 2 ∨ seq = 5) ∧ inRegion (wTarget w) = false) ∨ (seq = 5 ∧ inRegion (wTarget w + 15) = false) then 0x03
  else if seq = 3 ∧ inRegion (wTarget w) = false ∧ exports.contains (wTarget w) = false then 0x04
  else if (alus.any fun a => a.1 = 0x10 || a.1 = 0x11) ∧ wCycles w < 2 then 0x05
  else if seq = 1 ∧ wCond w ≠ 0 then 0x06
  else if i = 1 ∧ bits w 86 79 ≠ 0 then 0x07
  else if addr = 0x3FFF ∧ (seq = 0 ∨ seq = 3 ∨ ((seq = 2 ∨ seq = 4) ∧ wCond w ≠ 0)) then 0x08
  else 0

/-- A refused word or entry (R226). -/
def State.codeError (s : State) (i addr reason : Nat) : WriteRes :=
  WriteRes.refuse (s.wr Od.aeCodeLastError (addr * 65536 + reason * 256) 0 i) .range

/-- A write of AE_CODE_BLOCK (R225, R226). -/
def State.writeCodeBlock (s : State) (c : WriteCtx) (i : Nat) : WriteRes :=
  let v := c.value
  let f := 0x200 + i
  let addr := bits v 8095 8080
  let count := bits v 8079 8064
  let words := (List.range count).map fun j => (addr + j, bits v (8063 - 192 * j) (7872 - 192 * j))
  if inRegion addr = false ∨ count = 0 ∨ 42 < count ∨ 0x4000 < addr + count ∨ v % 2 ^ (8064 - 192 * count) ≠ 0 then s.codeError i addr 0x01
  else
    match words.find? fun w => decide (wordReason i s.exports w.1 w.2 ≠ 0) with
    | some w => s.codeError i w.1 (wordReason i s.exports w.1 w.2)
    | none =>
      if s.famHeld f then WriteRes.refuse s .bankBusy
      else WriteRes.good ((words.foldl (fun (a : State) w => a.setTbl (s.shadowOf f) (0x100 + i) (w.1 - 0x3000) w.2) s).touchFam f c.writer)

/-- A write of AE_DISPATCH_ENTRY (R225, R226). -/
def State.writeEntry (s : State) (c : WriteCtx) (i : Nat) : WriteRes :=
  let f := 0x200 + i
  let op := bits c.value 63 56
  let e := bits c.value 31 0
  if op < 0xC0 then WriteRes.refuse s .access
  else if bits c.value 55 32 ≠ 0 ∨ bitOf e 30 ∨ bits e 9 8 ≠ 0 ∨ bits e 7 0 ≠ 0 then s.codeError i (0xFF00 + op) 0x01
  else if bitOf e 31 ∧ inRegion (bits e 29 16) = false then s.codeError i (0xFF00 + op) 0x09
  else if s.famHeld f then WriteRes.refuse s .bankBusy
  else WriteRes.good ((s.setTbl (s.shadowOf f) (0x110 + i) op e).touchFam f c.writer)

/-- AE_CODE_CLEAR (R225): the shadow bank and its entries are zero, and its mark ends (R26). -/
def State.clearCode (s : State) (i : Nat) : State :=
  let f := 0x200 + i
  let sh := s.shadowOf f
  let s1 := (s.emptyTable sh (0x100 + i)).emptyTable sh (0x110 + i)
  s1.setFam f { s1.fam f with disagree := [] }

/-- Writes of the code objects of an image. -/
def State.writeCode (s : State) (c : WriteCtx) (i : Nat) : WriteRes :=
  let b := c.addr.sub
  let f := 0x200 + i
  if b = 1 then s.writeCodeBlock c i
  else if b = 2 then s.writeEntry c i
  else if b = 3 then if s.famHeld f then WriteRes.refuse s .bankBusy else WriteRes.good ((s.clearCode i).touchFam f c.writer)
  else WriteRes.good ((s.wr Od.aeCodeLinkedVersion c.value (bankInst (s.shadowOf f)) i).touchFam f c.writer)

/-- A write of the customer counter window (R227, R438): it may not overlap the MAC block. -/
def State.writeWindowBound (s : State) (c : WriteCtx) : WriteRes :=
  let lo := if c.addr.sub = 1 then c.value else s.rd Od.aeCustCounterBase
  let hi := if c.addr.sub = 2 then c.value else s.rd Od.aeCustCounterLimit
  if lo ≤ hi ∧ lo ≤ 0x1E03FF ∧ 0x1E0000 ≤ hi then WriteRes.refuse s .range else s.store c

/-! All writes of these chapters. -/

/-- A new STANDING_GRANT, once the grants are given: each die's class 8 reservation for them follows (R278). -/
def State.regrant (s : State) (old : Nat) : State :=
  if s.rd Od.bootStage ≠ 3 then s
  else
    let all := fun (v : Nat) => v * s.part.dies.length * 64
    s.part.dies.foldl (fun (a : State) d => (a.setReserved d 12 (a.reserved d 12 + all (s.rd Od.standingGrant) - all old)).fMoved d) s

/-- Writes of the queue, buffer and pool objects 0x6000 to 0x6FFF (R261, R266, R271, R278, R282, R286, R288, R292, R297, R300). -/
def State.writeQueues (s : State) (c : WriteCtx) : WriteRes :=
  let i := c.addr.index
  let b := c.addr.sub
  if 0x6010 ≤ i ∧ i < 0x6020 ∧ b = 1 then
    if 0x6018 ≤ i ∧ i ≠ 0x601B then WriteRes.refuse s .range else s.store c
  else if 0x6100 ≤ i ∧ i < 0x6140 then s.writePool c
  else if i = 0x6180 then
    if s.bufs.pages.any fun (e : Nat × SpillPage) => e.1 / 16777216 = c.addr.inst - 0x0100 then WriteRes.refuse s .state else s.store c
  else if 0x6400 ≤ i ∧ i < 0x6408 ∧ b = 4 then
    if c.value < s.rd Od.threshAlphaMin 0 (i - 0x6400) then WriteRes.refuse s .range else s.store c
  else if i = 0x6421 ∧ b = 4 then
    if (List.range 512).any fun n => decide (s.portStateOf n ≠ 0) then WriteRes.refuse s .state
    else WriteRes.good ((s.store c).state.regrant (s.rd Od.standingGrant))
  else if i = 0x6421 ∧ b = 2 then WriteRes.good (s.store c).state.settleReturns
  else if 0x6440 ≤ i ∧ i < 0x6480 ∧ b ≤ 2 then (s.settlePunts (i - 0x6440)).store c
  else if i = 0x6490 ∧ b = 4 then WriteRes.good ((s.store c).state.watchPauses (c.addr.inst - 0x1000))
  else if i = 0x6800 ∧ (b = 2 ∨ b = 3 ∨ b = 4) then
    if s.famHeld (gateFam (c.addr.inst - 0x1000)) then WriteRes.refuse s .bankBusy else s.store c
  else if i = 0x6490 ∧ b = 1 then
    if (List.range 8).any fun k => decide (7 < Sys2Proof.Machine.octetOf 8 k c.value) then WriteRes.refuse s .range else s.store c
  else s.store c

/-- Writes of the objects 0x3000 to 0x6FFF that are not RWE and not copies of a live bank. -/
def State.writeForwarding (s : State) (c : WriteCtx) : WriteRes :=
  let i := c.addr.index
  let b := c.addr.sub
  match parserObj i b with
  | some (o, k) => s.writeParser c o k
  | none =>
    if 0x3800 ≤ i ∧ i < 0x380C then s.writeSet c (i - 0x3800)
    else if 0x4000 ≤ i ∧ i < 0x400F ∧ b = 1 then s.writeTiles c (i - 0x4000 + 0x40) (maxTiles (i - 0x4000 + 0x40)) Od.tableShadowTiles (i - 0x4000)
    else if 0x4000 ≤ i ∧ i < 0x400F ∧ b = 3 then s.writeSeed c (i - 0x4000 + 0x40)
    else if i = 0x4100 ∧ b = 3 then s.storeCq c 0
    else if i = 0x4800 ∧ b = 5 then s.writeTiles c 0x59 64 Od.placeNodesetShadowTiles 0
    else if i = 0x5000 ∨ i = 0x5020 then s.writeCode c ((i - 0x5000) / 0x20)
    else if i = 0x5040 ∧ b ≤ 2 then s.writeWindowBound c
    else if 0x5410 ≤ i ∧ i < 0x5413 ∧ b = 1 then s.writeTiles c (i - 0x5410 + 0x54) (maxTiles (i - 0x5410 + 0x54)) Od.rewriteShadowTiles (i - 0x5410)
    else if i = 0x5420 ∧ b = 1 then s.writeLoop c
    else if 0x6000 ≤ i then s.writeQueues c
    else s.store c

/-! Copies of a live bank (R122, R156, R192, R228, R254). -/

/-- The family that a write of a COPY_LIVE object copies. -/
def copyFamilyOf (a : Address) : Option Nat :=
  if a.index = 0x3000 ∧ a.sub = 4 then some 0x30
  else if 0x4000 ≤ a.index ∧ a.index < 0x400F ∧ a.sub = 6 then some (famOfTable (a.index - 0x4000 + 0x40))
  else if a.index = 0x4800 ∧ a.sub = 3 then some 0x58
  else if (a.index = 0x5000 ∨ a.index = 0x5020) ∧ a.sub = 4 then some (0x200 + (a.index - 0x5000) / 0x20)
  else if a.index = 0x5400 ∧ a.sub = 3 then some 0x54
  else none

/-- Statuses of a COPY_LIVE write (R156): TABLE_FULL where the live size of a resized bank would break the limit of R153. -/
def State.checkCopy (s : State) (f : Nat) : Status :=
  let of := fun (bank : Nat) => (famTables f).foldl (fun a t => a + s.tiles t bank) 0
  if s.swapPending f then .state else if s.famHeld f then .bankBusy
  else if 256 + of (s.shadowOf f) < s.tilesUsed + of (s.fam f).live then .tableFull else .ok

/-- Time that a copy takes, in ns. -/
def State.copyTime (s : State) (f : Nat) : Nat :=
  let tiles := ((famTables f).filter fun t => t ≠ 0x5A && t ≠ 0x4F).foldl (fun a t => a + s.tiles t (s.fam f).live) 0
  if f = 0x30 then 2000000
  else if 0x200 ≤ f then 1000000
  else (170000 * tiles + 63) / 64 + (if f = 0x58 then 8000000 else 0)

/-! RECOVERY_CLEAR_SHADOWS (R434). -/

/-- Families with shadow banks: parser, tables, rewrite, placement and images. -/
def tableFamilies : List Nat := [0x30, 0x40, 0x41, 0x42, 0x43, 0x44, 0x45, 0x46, 0x47, 0x48, 0x49, 0x4A, 0x4B, 0x4E, 0x54, 0x58, 0x200, 0x201]

/-- Whether any shadow is SWAP_PENDING or HELD. -/
def State.shadowsBusy (s : State) : Bool :=
  s.sched.holds ≠ [] || (s.tm.gates.any fun (e : Nat × Gate) => e.2.swap.isSome)
    || s.sched.changes.any fun c => (swapFamily { inst := c.inst, index := c.index, sub := c.sub }).isSome

/-- Every shadow bank is emptied. -/
def State.clearShadows (s : State) : State :=
  let s1 := tableFamilies.foldl (fun (a : State) f =>
    let sh := a.shadowOf f
    let b := (famTables f).foldl (fun (t : State) id => t.emptyTable sh id) a
    let c : State :=
      if f = 0x30 then (famRegs f).foldl (fun (t : State) o => (famMembers f o).foldl (fun (u : State) k => u.wr o (o.dfltAt k) (bankInst sh) k) t) b
      else b
    c.setFam f { c.fam f with disagree := [], stale := false, spoiled := (c.fam f).spoiled || (famTables f).any c.tableSynced }) s
  let s2 := (List.range 12).foldl (fun (a : State) set =>
    let f := 0x100 + set
    (a.emptyBanks (a.setBanks set true)).setFam f { a.fam f with disagree := [] }) s1
  (List.range 512).foldl (fun (a : State) n =>
    let f := gateFam n
    let sh := a.shadowOf f
    let b : State := { a with tables := a.tables.filter fun e => !(decide (e.1 / 2 ^ 48 = sh * 4096 + 0x66) && decide (e.1 % 2 ^ 48 / 256 = n)) }
    (b.wr Od.gclLength 0 (portInst n)).setFam f { b.fam f with disagree := [] }) s2

/-- RECOVERY_CLEAR_SHADOWS. -/
def State.recoveryClear (s : State) : WriteRes :=
  if s.shadowsBusy then WriteRes.refuse s .state else WriteRes.good s.clearShadows

end Sys2Proof.Machine
end

