-- ==== Sys2Proof/Machine/Queues.lean ====
section
/-! DEFINITION. Work queues and completion queues: doorbells, the push window, descriptors and chains, table operations and their
acknowledgements, injects, buffer returns, and the queue objects (R353 to R380, R26, R219, R269, R299, R367, R441, R513). -/

namespace Sys2Proof.Machine

/-- Every status (R12). -/
def allStatus : List Status :=
  [.ok, .deferred, .retry, .noObject, .badType, .range, .access, .auth, .staleCounter, .resourceBusy, .tooLate, .notClaimed, .state,
   .malformed, .badChain, .tableFull, .bankBusy, .bufferRange, .bufferAlign, .doubleFree, .notOwner, .noBuffer, .abortedReset]

/-- The status of a code. -/
def Status.ofCode (c : Nat) : Option Status := allStatus.find? fun st => st.code = c

/-- Whether the package is in Banked, or on the way back from it (R464, R468). -/
def State.banked (s : State) : Bool := s.rd Od.powerState = 4 || (s.rd Od.powerState = 5 && s.power.target = 4 && s.power.entryStep = 0)

/-- Whether the engine serves hosts: from HOST_READY on (R483), and not in Banked (R464). -/
def State.hostUp (s : State) : Bool := (s.rd Od.bootStage = 2 || s.rd Od.bootStage = 3) && !s.banked

/-- Run a meaning on a queue of a PCIe function (R353). -/
def withQueue (s : State) (h f q : Nat) (g : State) : Answer :=
  if h < 2 ∧ f < 4 ∧ q < 1024 then running s (if s.hostUp then g else s) else .fault .absentUnit

/-! Doorbells (R358). -/

/-- WQ_DOORBELL (R358). -/
def execWqDoorbell (h f w value : Nat) (s : State) : Answer :=
  withQueue s h f w <|
    let i := wqInst (s.fnOf h f) w
    let n := s.rd Od.wqSize i
    let ci := s.rd Od.wqCi i
    let d := ringDiff n value ci
    if value < 2 * n ∧ ringDiff n (s.rd Od.wqPi i) ci ≤ d ∧ d ≤ n then s.wr Od.wqPi value i
    else (s.bump Od.wqDoorbellErrors i).fire (s.hostDie h) 0x14B

/-- CQ_DOORBELL (R358, R372, R392): slots return, and what waits is posted. An ARM accepted while entries stand unread fires at once. -/
def execCqDoorbell (h f c value : Nat) (s : State) : Answer :=
  withQueue s h f c <|
    let fn := s.fnOf h f
    let i := cqInst fn c
    let n := s.rd Od.cqSize i
    let ci := bits value 30 0
    if ci < 2 * n ∧ value < 2 ^ 32 ∧ ringDiff n (s.rd Od.cqPi i) ci ≤ ringDiff n (s.rd Od.cqPi i) (s.rd Od.cqCi i) then
      let s1 := s.wr Od.cqCi ci i
      let armed := s1.setCq fn c { s1.cq fn c with arm := true }
      (if bitOf value 31 = false then s1 else if s.rd Od.cqPi i = ci then armed else armed.fireCq fn c).serveCq fn c
    else s.bump Od.cqDoorbellErrors i

/-! The push window (R360). -/

/-- The octets of one slot of a push: those that fall on slot `k` of the window, over what the copy holds. -/
def PushCopy.laid (x : PushCopy) (offset k : Nat) (bytes : List Byte) : PushCopy :=
  bytes.zipIdx.foldl (fun (a : PushCopy) e =>
    let at_ := offset + e.2
    if at_ / 64 = k then
      let b := at_ % 64
      { bytes := a.bytes - bits a.bytes (8 * b + 7) (8 * b) * 2 ^ (8 * b) + e.1.toNat * 2 ^ (8 * b), mask := setBit a.mask b true }
    else a) x

/-- A push of one window slot: held, or discarded for want of room. -/
def State.pushSlot (s : State) (fn w offset : Nat) (bytes : List Byte) (k : Nat) : State :=
  let i := wqInst fn w
  let n := s.rd Od.wqSize i
  let pi := s.rd Od.wqPi i
  if offset + bytes.length ≤ 64 * k ∨ 64 * (k + 1) ≤ offset then s
  else if n < ringDiff n (pi + k + 1) (s.rd Od.wqCi i) then s.bump Od.wqPushErrors i
  else
    let q := s.wq fn w
    let slot := (pi + k) % n
    let old := sparseGet (fun _ => ({ bytes := 0, mask := 0 } : PushCopy)) q.copies slot
    s.setWq fn w { q with copies := sparsePut q.copies slot (old.laid offset k bytes) }

/-- WQ_PUSH (R360): octets written at an offset of the window of 256; others are ignored (R354). -/
def execWqPush (h f w offset : Nat) (bytes : List Byte) (s : State) : Answer :=
  withQueue s h f w <|
    let part := bytes.take (256 - offset)
    if part = [] then s else (List.range 4).foldl (fun (a : State) k => a.pushSlot (s.fnOf h f) w offset part k) s

/-! Descriptors (R361 to R364). -/

/-- Fields of a descriptor header (R361). -/
def dOp (d : Nat) : Nat := bits d 7 0
def dFirst (d : Nat) : Bool := bitOf d 8
def dLast (d : Nat) : Bool := bitOf d 9
def dBatch (d : Nat) : Bool := bitOf d 10
def dPushed (d : Nat) : Bool := bitOf d 11
def dTable (d : Nat) : Nat := bits d 23 16
def dIndex (d : Nat) : Nat := bits d 63 32
def dUser (d : Nat) : Nat := bits d 95 64
/-- The body, bits 511:128 of a descriptor, from its bit 0 (R363). -/
def dBody (d : Nat) : Nat := bits d 511 128

/-- Opcodes of R362. -/
def opcodes : List Nat := [0x00, 0x01, 0x0F, 0x10, 0x11, 0x12, 0x13, 0x20, 0x30, 0x31]

/-- Whether a WQ kind accepts an opcode (R362). -/
def kindAllows (kind op : Nat) : Bool :=
  op = 0x00 || (kind = 0 && op = 0x01) || (kind = 1 && [0x0F, 0x10, 0x11, 0x12, 0x13].contains op) || (kind = 2 && op = 0x20)
    || (kind = 3 && (op = 0x30 || op = 0x31))

/-- Whether the header of a descriptor other than CONT is well formed on a WQ kind (R361, R362, R368). -/
def headOk (kind d : Nat) : Bool :=
  let table := dOp d = 0x10 || dOp d = 0x11 || dOp d = 0x12
  kindAllows kind (dOp d) && dOp d ≠ 0x0F && bits d 127 96 = 0 && bits d 31 24 = 0 && bits d 15 12 = 0
    && (table || (dTable d = 0 && dIndex d = 0))

/-- Whether the header of a CONT is well formed (R364). -/
def contOk (d : Nat) : Bool :=
  bits d 127 96 = 0 && bits d 31 24 = 0 && bits d 15 12 = 0 && dTable d = 0 && dIndex d = 0 && dUser d = 0

/-- An operation of a WQ joins those in flight, with its result or the token under which it will come. -/
def State.addOp (s : State) (fn w : Nat) (o : Inflight) : State :=
  let q := s.wq fn w
  s.setWq fn w { q with inflight := q.inflight ++ [o] }

/-- An operation has its result, and finishes when those before it have (R365). -/
def State.endOp (s : State) (fn w last : Nat) (batch : Bool) (user : Nat) (st : Status) (aux : Nat) : State :=
  let s1 := s.addOp fn w { last := last, batch := batch, user := user, token := 0, result := some (st, aux) }
  State.finishOps (s1.wq fn w).inflight.length s1 fn w

/-- An operation waits for its result under a new token. -/
def State.holdOp (s : State) (fn w last : Nat) (batch : Bool) (user : Nat) : State × Nat :=
  let t := s.rings.nextToken
  ({ s with rings := { s.rings with nextToken := t + 1 } }.addOp fn w
    { last := last, batch := batch, user := user, token := t, result := none }, t)

/-- A descriptor as it was taken from its slot: its index, its 64 octets, and whether it could be read whole with the right PUSHED bit
(R360, R368). -/
structure Taken where
  at_ : Nat
  word : Nat
  sound : Bool

/-- The descriptor at the next slot: the held copy if there is one, else what host memory holds (none: the read failed). -/
def State.peekDesc (s : State) (fn w : Nat) (desc : Option Nat) : Taken :=
  let q := s.wq fn w
  match sparseFind? q.copies (q.fetch % s.rd Od.wqSize (wqInst fn w)) with
  | some c => { at_ := q.fetch, word := c.bytes, sound := c.mask = 2 ^ 64 - 1 && dPushed c.bytes }
  | none =>
    match desc with
    | some d => { at_ := q.fetch, word := low 512 d, sound := !dPushed d }
    | none => { at_ := q.fetch, word := 0, sound := false }

/-- Whether the engine fetches from a WQ (R365, R372, R377, R464). -/
def State.fetches (s : State) (fn w : Nat) : Bool :=
  let i := wqInst fn w
  s.rd Od.powerState = 0 && s.rd Od.wqState i = 1 && decide ((s.wq fn w).fetch ≠ s.rd Od.wqPi i)
    && decide (s.cqLoad fn (s.rd Od.wqCq i) < 32)

/-- Whether an operation must wait for those in flight before it, which run first (R365): table writes follow one another under their SEQ
(R367), and every other operation waits for results. -/
def State.mustWait (s : State) (fn w op : Nat) : Bool :=
  (s.wq fn w).inflight.any fun o =>
    o.result.isNone && !((op = 0x0F || op = 0x10 || op = 0x11) && s.rings.ops.any fun t => t.token = o.token)

/-- The indices of an open chain's descriptors, up to the next fetch. -/
def State.chainSlots (s : State) (fn w : Nat) (c : Chain) : List Nat :=
  let n := s.rd Od.wqSize (wqInst fn w)
  (List.range (c.bodies.length)).map fun i => (c.start + i) % (2 * n)

/-- Every descriptor of the open chain of a WQ has BAD_CHAIN (R364). -/
def State.breakChain (s : State) (fn w : Nat) : State :=
  let q := s.wq fn w
  match q.chain with
  | none => s
  | some c =>
    (s.chainSlots fn w c).zipIdx.foldl
      (fun (a : State) e => a.endOp fn w e.1 false (if e.2 = 0 then dUser c.head else 0) .badChain 0) (s.setWq fn w { q with chain := none })

/-- A descriptor row: the engine reaches the next slot of WQ `w`. Nothing happens where it does not fetch, where an earlier operation has to
run first, or where the slot holds another row's opcode. `run` gives the meaning of a sound descriptor without an open chain. -/
def State.descStep (s : State) (fn w op : Nat) (desc : Option Nat) (run : State → Taken → State) : State :=
  let t := s.peekDesc fn w desc
  let code := dOp t.word
  if s.fetches fn w = false ∨ s.mustWait fn w code = true then s
  else if t.sound = true ∧ opcodes.contains code = true ∧ code ≠ op then s
  else
    let i := wqInst fn w
    let n := s.rd Od.wqSize i
    let q := s.wq fn w
    let s1 := s.setWq fn w { q with fetch := (t.at_ + 1) % (2 * n), copies := sparseErase q.copies (t.at_ % n) }
    let joins := q.chain.isSome && code = 0x0F && !dFirst t.word
    let s2 := if joins then s1 else s1.breakChain fn w
    let bad := s2.endOp fn w t.at_ (dBatch t.word) (dUser t.word) .malformed 0
    if joins then run s2 t
    else if t.sound = false ∨ headOk (s.rd Od.wqKind i) t.word = false ∨ dFirst t.word = false then bad
    else run s2 t

/-- An operation of one descriptor (R364): LAST = 1, and its status and AUX. -/
def State.single (s : State) (fn w : Nat) (t : Taken) (f : State → Status × Nat × State) : State :=
  if dLast t.word = false then s.endOp fn w t.at_ (dBatch t.word) (dUser t.word) .malformed 0
  else
    let x := f s
    x.2.2.endOp fn w t.at_ (dBatch t.word) (dUser t.word) x.1 x.2.1

/-- NOP (R362, R363). -/
def execNopDescriptor (h f w : Nat) (desc : Option Nat) (s : State) : Answer :=
  withQueue s h f w <|
    let fn := s.fnOf h f
    s.descStep fn w 0x00 desc fun s1 t => s1.single fn w t fun x => (if dBody t.word = 0 then .ok else .malformed, 0, x)

/-! Table writes and deletes (R367 to R369, R513). -/

/-- Octets of the record of a table operation; 0 for a table that does not exist. -/
def opRecordSize (t : Nat) : Nat := if t = 0x64 then 16 else if t = 0x66 ∨ t = 0x80 then 8 else recordSize t

/-- Lowest bit of the key of a hash record. -/
def keyLsb (t : Nat) : Nat :=
  if t = 0x41 then 100 else if t = 0x43 then 54 else if t = 0x45 then 107 else if t = 0x46 then 83 else if t = 0x47 then 115
  else if t = 0x48 then 19 else 51

/-- Whether a record holds nothing but key fields. -/
def keyOnly (t r : Nat) : Bool :=
  if isHash t then r = (tableKey t r).2 * 2 ^ keyLsb t else if t = 0x38 then bits r 1375 1280 = 0 else r = 0

/-- Form of a table write or delete (R363, R367, R368, R441). -/
def tableFormOk (t index r : Nat) (delete : Bool) : Bool :=
  decide (opRecordSize t ≠ 0) && decide (r < 2 ^ (8 * opRecordSize t)) && (!(isHash t || t = 0x38) || index = 0)
    && (!delete || (keyOnly t r && t ≠ 0x80))

/-- The next SEQ (R367). -/
def nextSeq (q : Nat) : Nat := if low 32 (q + 1) = 0 ∨ low 32 (q + 1) = 0xFFFFFFFF then 1 else low 32 (q + 1)

/-- Family whose shadow bank an operation changes. -/
def famOfOp (t index r : Nat) : Nat :=
  if t = 0x38 then 0x100 + bits r 1407 1404 else if t = 0x66 then gateFam (index / 256)
  else if t = 0x31 ∨ t = 0x34 then 0x30 else famOfTable t

/-- A write or delete of a shadow gate entry (R295, R297, R513), where the shadow is `held` or not. -/
def State.applyGateEntry (s : State) (index r : Nat) (delete held : Bool) : Status × State :=
  let n := index / 256
  if 512 ≤ n ∨ s.hasDie (n / 64) = false then (.noObject, s)
  else if held then (.bankBusy, s)
  else if delete = false ∧ (bits r 31 0 < 32 ∨ bits r 55 32 ≠ 0) then (.range, s)
  else (.ok, s.setTbl (s.shadowOf (gateFam n)) 0x66 index r)

/-- The logged form of a table operation. -/
def TableOp.logged (o : TableOp) : LoggedWrite := { table := o.table, index := o.index, record := o.record, delete := o.delete }

/-- A sequenced table operation on a shadow bank that is `held` or not (R26, R155, R369); a host writes no ECMP_BUCKET in AUTO (R169). A held bank is told
before a bad index or record is (DESIGN CHOICE, log 131: R107 gives no order). -/
def State.applyNow (s : State) (o : TableOp) (held : Bool) : Status × State :=
  let f := famOfOp o.table o.index o.record
  if o.table = 0x38 then s.applyAsa o.record o.delete held
  else if o.table = 0x66 then s.applyGateEntry o.index o.record o.delete held
  else if o.table = 0x4D ∧ o.index < s.bankEntries 0x4D (s.shadowOf f) ∧ s.rd Od.ecmpMode = 0 then (.state, s)
  else if held then (.bankBusy, s)
  else if (s.fam f).stale then (.state, s)
  else
    let x := s.applyRecord (s.shadowOf f) o.table o.index o.record o.delete
    if x.1 = .ok then (.ok, x.2.logWrite f o.logged) else x

/-- The writes that wait for a released bank land in it (R26). -/
def State.landWrites (s : State) (f : Nat) : State :=
  (s.fam f).landing.reverse.foldl (fun (t : State) w =>
    if w.table = 0x38 then (t.applyAsa w.record w.delete false).2
    else if w.table = 0x66 then (t.applyGateEntry w.index w.record w.delete false).2
    else (t.applyRecord (t.shadowOf f) w.table w.index w.record w.delete).2) s

/-- The outcome of a sequenced table operation that every die reaches alike (R26). One that was submitted while the swap pended, and whose bank the swap has
made the old one, has the outcome of the bank's release, and lands there. -/
def State.applyTableOp (s : State) (o : TableOp) : Status × State :=
  let f := famOfOp o.table o.index o.record
  if s.famHeld f = true ∧ o.beforeSwap = true then
    let x := (s.landWrites f).applyNow o false
    if x.1 = .ok then
      (.ok, s.setFam f { s.fam f with landing := o.logged :: (s.fam f).landing, log := (x.2.fam f).log, spoiled := (x.2.fam f).spoiled })
    else (x.1, if x.1 = .tableFull ∧ isHash o.table then s.rehash o.table else s)
  else s.applyNow o (s.famHeld f)

/-- Name of an entry for a mark of disagreement: its table, and its key or index. -/
def TableOp.mark (o : TableOp) : Nat :=
  let key := if isHash o.table then (tableKey o.table o.record).2 else if o.table = 0x38 then low 1280 o.record else o.index
  o.table * 2 ^ 1500 + key

/-- An operation that every die has acknowledged is done (R26): the common outcome, or a disagreement. -/
def State.finishTableOp (s : State) (o : TableOp) : State :=
  let f := famOfOp o.table o.index o.record
  let x := s.applyTableOp o
  let reports := s.part.dies.filterMap fun d => (sparseFind? (o.acks.map fun a => (a.1, a.2.getD x.1)) d).map fun st => (d, st)
  let odd := reports.filter fun e => decide (e.2 ≠ x.1)
  let y := x.2.fam f
  let writer := 65536 + (o.fn / 4 * 256 + o.fn % 4)
  if odd = [] ∨ reports.all (fun e => e.2 = (reports.headD (0, .ok)).2) = true then
    let st := (reports.headD (0, x.1)).2
    let s1 := x.2.setFam f { y with disagree := y.disagree.filter (· ≠ o.mark), lastSeq := o.seq, lastWriter := some writer }
    s1.completeToken o.fn o.wq o.token st o.seq
  else
    let st := ((reports.find? fun e => decide (e.2 ≠ .ok)).map (·.2)).getD .ok
    let mask := odd.foldl (fun a e => a + 2 ^ e.1) 0
    let s1 := x.2.setFam f { y with disagree := o.mark :: y.disagree.filter (· ≠ o.mark), lastSeq := o.seq, lastWriter := some writer }
    (s1.fault (s.rd Od.leadDie) 0x0A 2 o.table o.seq mask).completeToken o.fn o.wq o.token st o.seq

/-- Operations whose acknowledgements are complete are done in the order of SEQ (R26, R367); a fenced die is not waited for. -/
def State.settleTables : Nat → State → State
  | 0, s => s
  | k + 1, s =>
    match s.rings.ops with
    | [] => s
    | o :: rest =>
      if s.part.dies.all fun d => s.isFenced d || o.acks.any fun a => a.1 = d then
        State.settleTables k ({ s with rings := { s.rings with ops := rest } }.finishTableOp o)
      else s

/-- FABRIC_TABLE_WRITE (R367): the message with SEQ reaches a die, whose table writer acknowledges it; a die takes the messages in order. -/
def execFabricTableWrite (d seq : Nat) (s : State) : Answer :=
  withDie s d <|
    match s.rings.ops.find? fun o => !o.received.contains d with
    | none => s
    | some o =>
      if o.seq ≠ seq then s
      else
        ({ s with rings := { s.rings with ops := s.rings.ops.map fun (x : TableOp) =>
            if x.seq = seq then { x with received := x.received ++ [d] } else x } }).emit (.control d (s.rd Od.leadDie) 0x11 [seq])

/-- TABLE_ACK (R26, R367): the outcome of a die. `bad` is the status of a die whose outcome is not the one that the banks' contents give;
a die that the write did not reach is such a die. -/
def execTableAck (d seq : Nat) (bad : Option Nat) (s : State) : Answer :=
  withDie s d <|
    match s.rings.ops.find? fun (o : TableOp) => o.acks.all fun a => decide (a.1 ≠ d) with
    | none => s
    | some o =>
      let st := bad.map Status.ofCode
      if o.seq ≠ seq ∨ st = some none ∨ (bad = none ∧ o.received.contains d = false) then s
      else
        let s1 : State := { s with rings := { s.rings with ops := s.rings.ops.map fun (x : TableOp) =>
          if x.seq = seq then { x with acks := x.acks ++ [(d, st.join)] } else x } }
        s1.settleTables s1.rings.ops.length

/-- A write or delete of a flow context or a meter, applied at its boundary (R219, R299, R513): the status of a refusal, or none. -/
def State.timedFault (s : State) (t index r : Nat) : Option Status :=
  if 8 ≤ index / 65536 ∨ s.hasDie (index / 65536) = false then some .noObject
  else if t = 0x64 ∧ badMeter r = true then some .range
  else none

/-- Whether a swap of a family is pending; one of a gate list is until its cycle start (R26, R297). -/
def State.swapComing (s : State) (f : Nat) : Bool := s.swapPending f || (decide (0x1000 ≤ f) && (s.gate (f - 0x1000)).swap.isSome)

/-- A table write or delete whose descriptors are complete (R363, R367 to R369). -/
def State.tableOp (s : State) (fn w last : Nat) (batch : Bool) (user t index r : Nat) (delete : Bool) : State :=
  if tableFormOk t index r delete = false then s.endOp fn w last batch user .malformed 0
  else
    let seq := nextSeq s.rings.seq
    let s1 : State := { s with rings := { s.rings with seq := seq } }
    let stop := fun (st : Status) => s1.endOp fn w last batch user st seq
    if s.rd Od.bootStage ≠ 3 then stop .state
    else if t = 0x80 then
      if 8 ≤ index / 2097152 ∨ s.hasDie (index / 2097152) = false then stop .noObject
      else (s1.setCounter (index / 2097152) (index % 2097152) r).endOp fn w last batch user .ok seq
    else if t = 0x50 ∨ t = 0x64 then
      match s.timedFault t index r with
      | some st => stop st
      | none =>
        let x := s1.holdOp fn w last batch user
        let e : TimedWrite :=
          { seq := seq, table := t, die := index / 65536, index := index, record := leBytes (opRecordSize t) r, epoch := s.time.epoch + 4, fn := fn,
            wq := w, token := x.2 }
        { x.1 with rings := { x.1.rings with timed := x.1.rings.timed ++ [e] } }
    else
      let x := s1.holdOp fn w last batch user
      let o : TableOp :=
        { seq := seq, table := t, index := index, record := r, delete := delete, fn := fn, wq := w, token := x.2, received := [], acks := [],
          beforeSwap := s.swapComing (famOfOp t index r) }
      let s2 : State := { x.1 with rings := { x.1.rings with ops := x.1.rings.ops ++ [o] } }
      s.part.dies.foldl (fun (a : State) d => a.emit (.control (s.rd Od.leadDie) d 0x10 [seq, t, index, b2n delete, r])) s2

/-- Descriptors that a record needs (R364). -/
def chainNeed (t : Nat) : Nat := (opRecordSize t + 47) / 48

/-- The record of a chain's bodies, 48 octets each. -/
def chainRecord (bodies : List Nat) : Nat := bodies.foldr (fun b a => b + a * 2 ^ 384) 0

/-- The first descriptor of a table write or delete (R364). -/
def State.tableDesc (s : State) (fn w : Nat) (t : Taken) (delete : Bool) : State :=
  let table := dTable t.word
  let bad := s.endOp fn w t.at_ (dBatch t.word) (dUser t.word) .malformed 0
  if opRecordSize table = 0 then bad
  else if dLast t.word then
    if chainNeed table ≠ 1 then bad
    else s.tableOp fn w t.at_ (dBatch t.word) (dUser t.word) table (dIndex t.word) (dBody t.word) delete
  else if chainNeed table = 1 then bad
  else s.setWq fn w { s.wq fn w with chain := some { head := t.word, bodies := [dBody t.word], start := t.at_ } }

/-- TABLE_WRITE (R362 to R369). -/
def execTableWrite (h f w : Nat) (desc : Option Nat) (s : State) : Answer :=
  withQueue s h f w <|
    let fn := s.fnOf h f
    s.descStep fn w 0x10 desc fun s1 t => s1.tableDesc fn w t false

/-- TABLE_DELETE (R362 to R369, R513). -/
def execTableDelete (h f w : Nat) (desc : Option Nat) (s : State) : Answer :=
  withQueue s h f w <|
    let fn := s.fnOf h f
    s.descStep fn w 0x11 desc fun s1 t => s1.tableDesc fn w t true

/-- A CONT of an open chain (R364): malformed, one more body, or the end of the chain. -/
def State.contDesc (s : State) (fn w : Nat) (t : Taken) : State :=
  let q := s.wq fn w
  match q.chain with
  | none => s
  | some c =>
    let bodies := c.bodies ++ [dBody t.word]
    let need := chainNeed (dTable c.head)
    let closed := s.setWq fn w { q with chain := none }
    if t.sound = false ∨ contOk t.word = false ∨ dLast t.word ≠ (bodies.length = need : Bool) then
      closed.endOp fn w t.at_ (dBatch t.word) (dUser c.head) .malformed 0
    else if dLast t.word then
      closed.tableOp fn w t.at_ (dBatch t.word) (dUser c.head) (dTable c.head) (dIndex c.head) (chainRecord bodies) (dOp c.head = 0x11)
    else s.setWq fn w { q with chain := some { c with bodies := bodies } }

/-- CONT_DESCRIPTOR (R364). A CONT outside a chain is MALFORMED. -/
def execContDescriptor (h f w : Nat) (desc : Option Nat) (s : State) : Answer :=
  withQueue s h f w <|
    let fn := s.fnOf h f
    s.descStep fn w 0x0F desc fun s1 t => s1.contDesc fn w t

/-! Table reads (R363, R369, R441). -/

/-- Record of a row of a rule set (R129). -/
def asaRecord (set width : Nat) (shadow : Bool) (bitsW : Nat) (r : AsaRow) : Nat :=
  set * 2 ^ 1404 + width * 2 ^ 1402 + b2n shadow * 2 ^ 1401 + r.priority * 2 ^ 1344 + r.result * 2 ^ 1280 + r.key * 2 ^ (1280 - bitsW)
    + r.mask * 2 ^ (640 - bitsW)

/-- What a read of an entry finds: its record, or a status. -/
def State.readEntry (s : State) (t index key die : Nat) (shadow : Bool) : Status × Nat :=
  let f := famOfOp t index 0
  let bank := if shadow then s.shadowOf f else (s.fam f).live
  let none_ : Status × Nat := (.noObject, 0)
  if t = 0x80 then
    if 8 ≤ index / 2097152 ∨ s.hasDie (index / 2097152) = false ∨ shadow = true then none_
    else (.ok, s.counterValue (index / 2097152) (index % 2097152) * 2 ^ 64 + s.capture)
  else if t = 0x50 ∨ t = 0x64 then
    if 8 ≤ index / 65536 ∨ s.hasDie (index / 65536) = false ∨ shadow = true then none_
    else if t = 0x50 then (.ok, leNat (beBytes 64 (s.context (index / 65536) (index % 65536))))
    else (.ok, (s.meter (index / 65536) (index % 65536)).record)
  else if t = 0x66 then
    if 512 ≤ index / 256 ∨ s.hasDie (index / 256 / 64) = false then none_ else (.ok, s.tbl bank 0x66 index)
  else if t = 0x38 then
    let set := index / 131072
    if 11 < set ∨ s.rd Od.asaSetMode 0 set = 0 then none_
    else
      match (s.groupRows (s.setBanks set shadow) (s.perBank set)).find? fun e => e.1 = index % 131072 with
      | some e => (.ok, asaRecord set (s.rd Od.asaSetWidth 0 set) shadow (s.setWidth set) e.2)
      | none => none_
  else if isHash t then
    match s.findKey t bank (tableKey t key) with
    | none => none_
    | some i =>
      let r := s.tbl bank t i
      if t = 0x48 ∨ t = 0x49 then if lpmIsPrefix t r then (.ok, r % lpmMark t) else none_
      else if t = 0x43 then (.ok, putBits r 125 125 (b2n (s.learning.hits.contains (die, (tableKey t r).2))))
      else (.ok, r)
  else if s.bankEntries t bank ≤ index then none_
  else if t = 0x4A then (.ok, s.nextHop bank index)
  else (.ok, s.tbl bank t index)

/-- TABLE_READ of a sound descriptor. -/
def State.tableRead (s : State) (fn w : Nat) (t : Taken) : State :=
  s.single fn w t fun x =>
    let b := dBody t.word
    let table := dTable t.word
    let index := dIndex t.word
    let key := bits b 383 128
    let die := bits b 66 64
    let addr := bits b 63 0
    let size := if table = 0x80 then 16 else opRecordSize table
    if size = 0 ∨ bits b 127 68 ≠ 0 ∨ addr % 64 ≠ 0 ∨ (isHash table = false ∧ key ≠ 0) ∨ (isHash table = true ∧ (keyOnly table key = false ∨ index ≠ 0))
        ∨ (die ≠ 0 ∧ table ≠ 0x43 ∧ table ≠ 0x50) then (.malformed, 0, x)
    else if s.hasDie die = false then (.noObject, 0, x)
    else
      let e := x.readEntry table index key die (bitOf b 67)
      if e.1 ≠ .ok then (e.1, 0, x)
      else
        let x1 := if table = 0x80 then x.bump Od.counterReads (dieInst (index / 2097152)) else x
        (.ok, size, x1.emit (.dma (s.dmaHost fn) (fn % 4) addr (leBytes size e.2)))

/-- TABLE_READ (R362, R363, R369, R441). -/
def execTableRead (h f w : Nat) (desc : Option Nat) (s : State) : Answer :=
  withQueue s h f w <|
    let fn := s.fnOf h f
    s.descStep fn w 0x12 desc fun s1 t => s1.tableRead fn w t

/-! Injects (R371) and the requests of allocation port 17 (R258, R261). -/

/-- The packet of an inject enters the ingress pipeline of its port's octet, or the VOQ of its port and class (R371). -/
def State.startInject (s : State) (x : InjectWait) : State :=
  let frame := x.frame ++ leBytes 4 (crc32Eth x.frame)
  let d := x.die
  let pipe := d * 16 + s.pipeOf d false (if x.egress then 0 else x.port % 64 / 8)
  let r := s.openRecord d 17 17 11 frame.length 1 pipe
  let hv := s.freshHv x.port frame.length
  let hv1 := if x.egress then putTc hv x.tc else hv
  let k : Packet :=
    { stage := .received, port := x.port, pipe := pipe, frame := frame, ended := true, bad := false, hv := hv1, hv0 := hv1, born := s.up, lport := x.port, bd := 0,
      limit := 0, tcEarly := 0, place := .none, searched := false, matchIds := [], head := r.2.1, tag := r.2.2, pg := 0, restarts := 0, replays := 0,
      meters := [], lock := none, log := [], ctxNew := none, picked := false, record := 0, marked := none, avoid := none, charged := false,
      flying := !x.egress, mirror := none, since := 0, owns := false, origin := 0, cut := false, atEgress := false }
  let p := r.1.nextPacket
  let s1 : State := { r.1 with packets := sparsePut r.1.packets p k, nextPacket := p + 1 }
  if x.egress then s1.unicast p k (s1.flowHash hv1) { port := x.port, nh := 0, lport := x.port, replica := 0 } 0 0
  else (if x.free then s1 else s1.bump Od.loopbackInjectClocks (dieInst d)).addFlight d (hvGen hv1)

/-- INJECT of a sound descriptor (R261, R371): its packet takes cells, waits for them, or has NO_BUFFER. -/
def State.inject (s : State) (fn w h : Nat) (t : Taken) (data : List Byte) (free : Bool) : State :=
  let b := dBody t.word
  let len := bits b 79 64
  let port := bits b 88 80
  let egress := bitOf b 92
  let stop := fun (st : Status) => s.endOp fn w t.at_ (dBatch t.word) (dUser t.word) st 0
  if dLast t.word = false ∨ bits b 91 89 ≠ 0 ∨ bits b 383 96 ≠ 0 then stop .malformed
  else if len < 60 ∨ 10236 < len ∨ s.hasDie (port / 64) = false ∨ s.portModeOf port = 0 then stop .range
  else
    let d := if egress then s.hostDie h else port / 64
    let x : InjectWait :=
      { die := d, fn := fn, wq := w, token := 0, egress := egress, port := port, tc := bits b 95 93, frame := slice data 0 len, free := free,
        since := s.up }
    if cellsOf (len + 4) ≤ s.cellsFree d then (s.startInject x).endOp fn w t.at_ (dBatch t.word) (dUser t.word) .ok 0
    else
      let s1 := s.bump Od.bpmClassNoBuffer (dieInst d) 11
      if s.rd Od.bpmClassPolicy 0 11 = 0 then
        let y := s1.holdOp fn w t.at_ (dBatch t.word) (dUser t.word)
        ({ y.1 with rings := { y.1.rings with injects := y.1.rings.injects ++ [{ x with token := y.2 }] } }).later
          (s.rd Od.bpmClassWaitLimit 0 11) (.classWaitExpire d 8)
      else s1.endOp fn w t.at_ (dBatch t.word) (dUser t.word) .noBuffer 0

/-- INJECT (R362, R363, R371): `data` is what host memory holds at DATA_ADDR, and `free` says whether the octet leaves the clock free. -/
def execInjectDescriptor (h f w : Nat) (desc : Option Nat) (data : List Byte) (free : Bool) (s : State) : Answer :=
  withQueue s h f w <|
    let fn := s.fnOf h f
    s.descStep fn w 0x20 desc fun s1 t => s1.inject fn w h t data free

/-- The injects that wait on a die are presented again, oldest first (R261). -/
def State.retryInjects (s : State) (d : Nat) : Nat → State
  | 0 => s
  | k + 1 =>
    match s.rings.injects.find? fun (x : InjectWait) => x.die = d with
    | none => s
    | some x =>
      if cellsOf (x.frame.length + 4) ≤ s.cellsFree d then
        let s1 : State := { s with rings := { s.rings with injects := s.rings.injects.erase x } }
        ((s1.startInject x).completeToken x.fn x.wq x.token .ok 0).retryInjects d k
      else s.bump Od.bpmClassNoBuffer (dieInst d) 11

/-- CELL_ALLOCATE (R255, R258, R261): the requests that ports make in a clock, as (port, class, whether a pair); frames and injects that
wait are presented again. -/
def execCellAllocate (d : Nat) (reqs : List (Nat × Nat × Bool)) (s : State) : Answer :=
  withDie s d <|
    let s0 := s.refillDie d
    let asked := (reqs.filter fun q => decide (q.1 < 18)).map fun q => ({ port := q.1, cls := q.2.1, pair := q.2.2, since := s.up } : CellRequest)
    let s1 := (s0.allocClock d asked).fMoved d
    let s2 := (List.range 8).foldl (fun (a : State) o => a.retryStarts d o) s1
    s2.retryInjects d s2.rings.injects.length

/-- Whether a frame or an inject that waits on a die may have its cells now (R261). -/
def State.waitsEnd (s : State) (d : Nat) : Bool :=
  ((List.range 8).any fun o => (s.waitingAt d o).any fun w => s.mayStart w.port w.pg)
    || ((s.rings.injects.find? fun (x : InjectWait) => x.die = d).any fun x => decide (cellsOf (x.frame.length + 4) ≤ s.cellsFree d))

/-- CLASS_WAIT_EXPIRE (R261): frames of an octet that have waited for their limit are dropped; octet 8 names the injects of the die, which
complete with NO_BUFFER. -/
def execClassWaitExpire (d octet : Nat) (s : State) : Answer :=
  withDie s d <|
    if octet = 8 then
      let expired := fun (x : InjectWait) => x.die = d && decide (x.since + s.rd Od.bpmClassWaitLimit 0 11 ≤ s.up)
      (s.rings.injects.filter expired).foldl (fun (a : State) (x : InjectWait) => a.completeToken x.fn x.wq x.token .noBuffer 0)
        { s with rings := { s.rings with injects := s.rings.injects.filter fun x => !expired x } }
    else
      let expired := fun (w : FrameWait) => decide (w.since + s.rd Od.bpmClassWaitLimit 0 w.pg ≤ s.up)
      let line := s.waitingAt d octet
      (line.filter expired).foldl (fun (a : State) w => a.dropWaiting w) (s.setWaiting d octet (line.filter fun w => !expired w))

/-! Buffer returns (R269). -/

/-- BUFFER_FREE (R269, R362, R363). -/
def execBufferFree (h f w : Nat) (desc : Option Nat) (s : State) : Answer :=
  withQueue s h f w <|
    let fn := s.fnOf h f
    s.descStep fn w 0x30 desc fun s1 t => s1.single fn w t fun x =>
      let b := dBody t.word
      if bits b 383 88 ≠ 0 then (.malformed, 0, x)
      else
        let y := x.freeBuffer fn (bits b 71 64) (bits b 63 0) (bits b 87 72)
        (y.1, 0, y.2)

/-- BUFFER_REF_ADD (R269, R362, R363): it adds 1 to 255, which no field of the descriptor gives: a free value (DESIGN CHOICE, log 7). -/
def execBufferRefAdd (h f w : Nat) (desc : Option Nat) (s : State) : Answer :=
  withQueue s h f w <|
    let fn := s.fnOf h f
    s.descStep fn w 0x31 desc fun s1 t => s1.single fn w t fun x =>
      let b := dBody t.word
      if bits b 383 88 ≠ 0 then (.malformed, 0, x)
      else
        let y := x.useFree.addRefs fn (bits b 71 64) (bits b 63 0) (bits b 87 72) (x.freeBits 8 % 255 + 1)
        (y.1, 0, y.2)

/-! Queue objects (R355, R374, R377, R378). -/

/-- The end of a drain (R365, R377): what is not covered is, and the WQ becomes DISABLED, or ENABLED from PENDING_ENABLE. -/
def State.endDrain (s : State) (fn w : Nat) : State :=
  let i := wqInst fn w
  let st := s.rd Od.wqState i
  let q := s.wq fn w
  if (st ≠ 2 ∧ st ≠ 3) ∨ q.inflight ≠ [] then s
  else
    let n := s.rd Od.wqSize i
    let s1 := if q.doneTo = s.rd Od.wqCi i then s else s.coverTo fn w ((q.doneTo + 2 * n - 1) % (2 * n)) .ok 1 q.tail.2 q.tail.1
    s1.wr Od.wqState (if st = 3 then 1 else 0) i

/-- WQ_DRAIN_END (R377). -/
def execWqDrainEnd (h f w : Nat) (s : State) : Answer := withQueue s h f w (s.endDrain (s.fnOf h f) w)

/-- A write of WQ_ENABLE (R364, R377). -/
def State.enableWq (s : State) (c : WriteCtx) (fn w : Nat) : WriteRes :=
  let i := wqInst fn w
  let st := s.rd Od.wqState i
  let s1 := s.wr Od.wqEnable c.value i
  let cq := cqInst fn (s.rd Od.wqCq i)
  if c.value = 1 then
    if st = 0 then
      if s.rd Od.cqState cq ≠ 1 ∨ s.rd Od.cqKind cq ≠ 0 then WriteRes.refuse s .state
      else
        let ci := s.rd Od.wqCi i
        WriteRes.good ((s1.setWq fn w { s1.wq fn w with fetch := ci, doneTo := ci }).wr Od.wqState 1 i)
    else if st = 1 then WriteRes.good s1
    else { WriteRes.good (s1.wr Od.wqState 3 i) with status := .deferred }
  else if st = 1 then
    let s2 := (s1.breakChain fn w).wr Od.wqState 2 i
    WriteRes.good (if (s2.wq fn w).inflight = [] then s2.later 0 (.wqDrainEnd (fn / 4) (fn % 4) w) else s2)
  else if st = 3 then WriteRes.good (s1.wr Od.wqState 2 i)
  else WriteRes.good s1

/-- Writes of the objects of WQ `w` of a function (R355). -/
def State.writeWq (s : State) (c : WriteCtx) (fn w : Nat) : WriteRes :=
  let i := wqInst fn w
  if c.addr.sub = 5 then s.enableWq c fn w
  else if s.rd Od.wqState i ≠ 0 then WriteRes.refuse s .state
  else if c.addr.sub = 2 ∨ c.addr.sub = 3 then
    WriteRes.good ((((s.store c).state.wr Od.wqPi 0 i).wr Od.wqCi 0 i).setWq fn w { s.wq fn w with fetch := 0, doneTo := 0, copies := [] })
  else s.store c

/-- Whether an object names CQ `c` of a function (R356, R378). -/
def State.cqNamed (s : State) (fn c : Nat) : Bool :=
  (s.rd Od.schedReportCq = c && s.cqOwnerOf Od.schedReportCq = fn) || (s.rd Od.learnReportCq = c && s.cqOwnerOf Od.learnReportCq = fn)
    || (List.range 64).any fun r => s.rd Od.puntRing 0 r = c && s.cqOwnerOf Od.puntRing 0 r = fn

/-- A write of CQ_ENABLE (R374, R378). -/
def State.enableCq (s : State) (v : WriteCtx) (fn c : Nat) : WriteRes :=
  let i := cqInst fn c
  let s1 := s.wr Od.cqEnable v.value i
  let q := s.cq fn c
  let pool := s.rd Od.cqPool i
  if v.value = s.rd Od.cqState i then WriteRes.good s1
  else if v.value = 1 then
    if s.rd Od.cqKind i = 1 ∧ (s.rd Od.poolState 0 pool ≠ 1 ∨ s.rd Od.poolFunction 0 pool ≠ fn) then WriteRes.refuse s .state
    else WriteRes.good (((s1.wr Od.cqPi 0 i).wr Od.cqCi 0 i).wr Od.cqState 1 i)
  else if ((List.range 1024).any fun w => s.rd Od.wqCq (wqInst fn w) = c && decide (s.rd Od.wqState (wqInst fn w) ≠ 0)) ∨ q.hold ≠ [] ∨ q.reports ≠ []
      ∨ s.cqNamed fn c = true then WriteRes.refuse s .state
  else WriteRes.good (s1.wr Od.cqState 0 i)

/-- Writes of the objects of CQ `c` of a function (R355). -/
def State.writeCq (s : State) (v : WriteCtx) (fn c : Nat) : WriteRes :=
  let i := cqInst fn c
  if v.addr.sub = 5 then s.enableCq v fn c
  else if s.rd Od.cqState i ≠ 0 then WriteRes.refuse s .state
  else if v.addr.sub = 2 ∨ v.addr.sub = 3 then WriteRes.good (((s.store v).state.wr Od.cqPi 0 i).wr Od.cqCi 0 i)
  else s.store v

/-- Writes of the ring objects, 0xA000 to 0xA1FF (R355, R356, R425). The instance of a queue object holds the function in its bits above 15. -/
def State.writeRings (s : State) (c : WriteCtx) : WriteRes :=
  let fn := c.addr.inst / 65536
  let q := c.addr.inst % 65536
  if c.addr.index = 0xA010 then s.writeWq c fn (q - 0x2000)
  else if c.addr.index = 0xA020 then s.writeCq c fn (q - 0x2400)
  else if 0xA100 ≤ c.addr.index ∧ c.addr.index < 0xA140 then s.storeCq c 1
  else if c.addr.index = 0xA001 then
    if (List.range 8).any fun fn => (List.range 1024).any fun w => decide (s.rd Od.wqState (wqInst fn w) ≠ 0) then WriteRes.refuse s .state
    else s.store c
  else s.store c

end Sys2Proof.Machine
end

