-- ==== Sys2Proof/Machine/Replies.lean ====
section
/-! DEFINITION. Responses of the dictionary: their octets and the ways they are sent (R328, R331 to R333, R347 to R350, R363, R365). -/

namespace Sys2Proof.Machine

/-! Objects by address. -/

/-- The customer objects (R11, R351): sub-index 1 only, and NO_OBJECT for any other (DESIGN CHOICE, log 135: neither rule names a sub-index). -/
def customerObj : Obj :=
  { name := "CUSTOMER", inst := .package, index := 0xC000, first := 0, count := 8192, stride := 1, sub := 1, subs := 1, type := .octets 64,
    access := .rw, critical := false, permit := .any, dflts := [0] }

/-- The object at an index and sub-index of an instance class, wherever it is defined. -/
def objectAt (c : InstClass) (index sub : Nat) : Option Obj :=
  if 0xC000 ≤ index ∧ index < 0xE000 then if c = .package ∧ sub = 1 then some customerObj else none else Od.find? c index sub

/-- Where EVC_SOURCE stands: on die instances (R383). -/
def instClassOf (a : Address) : InstClass :=
  if 0xA200 ≤ a.index ∧ a.index < 0xA300 then (if InstKind.ofInst a.inst = .die then .package else .none) else InstKind.ofInst a.inst

/-- The object at an address, wherever it is defined. -/
def definedAt (a : Address) : Option Obj := objectAt (instClassOf a) a.index a.sub

/-! Octets. -/

/-- A number in the byte order of a transport (R328): big-endian on KDP, little-endian elsewhere. -/
def wireNum (be : Bool) (n v : Nat) : List Byte := if be then beBytes n v else leBytes n v

/-- A number read in the byte order of a transport. -/
def wireNat (be : Bool) (l : List Byte) : Nat := if be then beNat l else leNat l

/-- Octets of a value: OCTETS, STRING and holder records byte 0 first, other types in the transport's order (R328, R346). -/
def wireValue (be : Bool) (r : OpResult) : List Byte :=
  if r.type = 0x0C ∨ r.type = 0x0D ∨ r.status = .resourceBusy then beBytes r.len r.value else wireNum be r.len r.value

/-- Zeros that bring a length to a multiple of 8 (R332). -/
def padTo8 (n : Nat) : List Byte := List.replicate ((8 - n % 8) % 8) 0

/-- An operation record of a response (R332). -/
def resultRecord (be : Bool) (o : DictOp) (r : OpResult) : List Byte :=
  leBytes 1 o.op ++ leBytes 1 r.type ++ wireNum be 2 r.len ++ wireNum be 2 o.addr.inst ++ wireNum be 2 o.addr.index ++ leBytes 1 o.addr.sub
    ++ leBytes 1 r.status.code ++ leBytes 2 0 ++ wireNum be 4 r.epoch ++ wireValue be r ++ padTo8 r.len

/-- A response block (R331 to R333): the header of the request with KIND RESPONSE, FRAME_STATUS and the lengths of what follows; the
records; and the check where a key slot is named. -/
def responseBlock (be : Bool) (head : List Byte) (frame : Status) (records : List (List Byte)) (key : Option Nat) : List Byte :=
  let body := records.flatten
  let h := overlay (overlay (overlay (overlay (slice head 0 32) 3 (leBytes 1 2)) 6 (leBytes 1 records.length)) 7 (leBytes 1 frame.code)) 20
    (wireNum be 2 body.length)
  let m := h ++ body
  match key with
  | some k => m ++ (hmacSha256 (beBytes 32 k) m).take 16
  | none => m

/-- The response block of a job. A failure of checks 1 to 6 carries no records (R337). -/
def Job.block (j : Job) (be : Bool) (head : List Byte) (frame : Status) : List Byte :=
  responseBlock be head frame (if frame = .ok then j.done.map fun e => resultRecord be e.1 e.2 else []) (if j.slot < 8 then some j.key else none)

/-- Mailbox of a function. -/
def State.mailbox (s : State) (fn : Nat) : Mailbox :=
  sparseGet (fun _ => ({ buffer := [], busy := false, done := false } : Mailbox)) s.dict.mailboxes fn
def State.setMailbox (s : State) (fn : Nat) (m : Mailbox) : State :=
  { s with dict := { s.dict with
      mailboxes := sparseSet (fun _ => ({ buffer := [], busy := false, done := false } : Mailbox)) s.dict.mailboxes fn m } }

/-- A response is sent on the transport of its request (R336, R347 to R350, R365). -/
def State.sendReply (s : State) (j : Job) (frame : Status) : State :=
  match j.reply with
  | .row =>
    if frame = .ok then
      j.done.foldl (fun (a : State) e => a.emit (.response j.session j.tag e.2.status e.2.type e.2.epoch e.2.len e.2.value)) s
    else s.emit (.response j.session j.tag frame 0 0 0 0)
  | .mailbox fn head =>
    let b := j.block false head frame
    (s.setMailbox fn { buffer := b, busy := false, done := true }).emit (.octets (s.hostDie (fn / 4)) 0 b)
  | .kdp die head => s.emit (.octets die 1 (j.block true head frame))
  | .queue fn wq token address head =>
    let b := j.block false head frame
    (s.emit (.dma (s.dmaHost fn) (fn % 4) address b)).completeToken fn wq token frame b.length
  | .schedule fn wq token =>
    match j.done.head? with
    | some e =>
      if frame = .ok then s.completeToken fn wq token e.2.status (if e.2.status = .ok ∨ e.2.status = .deferred then e.2.epoch else 0)
      else s.completeToken fn wq token frame 0
    | none => s.completeToken fn wq token frame 0
  | .smbus => { s with dict := { s.dict with smbusLast := if frame = .ok then (j.done.head?.map (·.2.status)).getD .ok else frame } }
  | .jtag => { s with jtag := { s.jtag with provisionStatus := (if frame = .ok then (j.done.head?.map (·.2.status)).getD .ok else frame).code } }

/-- A KDP session keeps the operations and results of its last accepted request (R338). -/
def State.keepLast (s : State) (j : Job) : State :=
  match j.session with
  | .kdp n _ =>
    match sparseFind? s.dict.kdp n with
    | some k =>
      if j.critical then s
      else { s with dict := { s.dict with kdp := sparsePut s.dict.kdp n { k with lastOps := j.done.map (·.1), lastResults := j.done.map (·.2) } } }
    | none => s
  | _ => s

/-- A block is answered: with its records, or with the status of a check that failed. -/
def State.finishJob (s : State) (j : Job) (frame : Status) : State := (if frame = .ok then s.keepLast j else s).sendReply j frame

/-- A result that carries no value. -/
def OpResult.bare (st : Status) (type : Nat) : OpResult := { status := st, type := type, len := 0, value := 0, epoch := 0 }

/-- What is left of a block is not executed and carries ABORTED_RESET (R336). -/
def Job.abort (j : Job) : Job :=
  { j with ops := [], done := j.done ++ j.ops.map fun o => (o, OpResult.bare .abortedReset ((definedAt o.addr).elim 0 fun x => x.type.code)) }

end Sys2Proof.Machine
end

