-- ==== Sys2Proof/Machine/Sessions.lean ====
section
/-! DEFINITION. Function reset and the end of sessions (R336, R349, R379, R432, R433). -/

namespace Sys2Proof.Machine

/-- An entry is posted if the CQ ring has room for it, and discarded if not (R379). -/
def State.postIfRoom (s : State) (fn c entry : Nat) : State := if s.cqFull fn c then s else s.postEntry fn c entry

/-- A completion that covers what is not yet covered up to an index, posted if there is room (R366, R379). -/
def State.coverIfRoom (s : State) (fn w last : Nat) (st : Status) (user : Nat) : State :=
  let i := wqInst fn w
  let n := s.rd Od.wqSize i
  let count := ringDiff n (last + 1) (s.rd Od.wqCi i)
  (s.wr Od.wqCi ((last + 1) % (2 * n)) i).postIfRoom fn (s.rd Od.wqCq i) (workEntry st.code w 0 last count 0 user)

/-- WQs of a function that the engine has worked on. -/
def State.wqsOf (s : State) (fn : Nat) : List Nat := (s.rings.wqs.filter fun e => e.1 / 1024 = fn).map fun e => e.1 % 1024

/-- The completions of a SESSION_RESET, as far as the CQ rings have room (R379): those held, ABORTED_RESET for each operation that was fetched
and not executed, and BAD_CHAIN for the descriptors of open chains. -/
def State.postAborts (s : State) (fn : Nat) : State :=
  let held := (s.rings.cqs.filter fun e => e.1 / 1024 = fn).foldl (fun (a : State) e =>
    e.2.hold.foldl (fun (b : State) x => b.postIfRoom fn (e.1 % 1024) x) a) s
  let aborted := (s.wqsOf fn).foldl (fun (a : State) w =>
    ((s.wq fn w).inflight.filter fun o => o.result.isNone).foldl (fun (b : State) o => b.coverIfRoom fn w o.last .abortedReset o.user) a) held
  (s.wqsOf fn).foldl (fun (a : State) w =>
    match (s.wq fn w).chain with
    | none => a
    | some c => (s.chainSlots fn w c).zipIdx.foldl (fun (b : State) e => b.coverIfRoom fn w e.1 .badChain (if e.2 = 0 then dUser c.head else 0)) a) aborted

/-- Registers that name a CQ of a function return to 0xFFFF (R379). -/
def State.dropCqNames (s : State) (fn : Nat) : State :=
  let one := fun (a : State) (o : Obj) (inst k : Nat) =>
    if a.rd o inst k ≠ 0xFFFF ∧ a.cqOwnerOf o inst k = fn then a.wr o 0xFFFF inst k else a
  let s1 := one (one s Od.schedReportCq 0 0) Od.learnReportCq 0 0
  let s2 := (List.range 64).foldl (fun (a : State) r => one a Od.puntRing 0 r) s1
  (List.range 8).foldl (fun (a : State) d => one a Od.sampleRing (dieInst d) 0) s2

/-- Every WQ and CQ of a function returns to DISABLED with its defaults, and what it holds is discarded (R379). -/
def State.clearQueues (s : State) (fn : Nat) : State :=
  let queueKey := fun (k : Nat) =>
    let inst := k / 16777216
    inst / 65536 = fn && decide (0x2000 ≤ inst % 65536) && decide (inst % 65536 < 0x2800)
  let r := s.rings
  { s with
    regs := s.regs.filter fun e => !queueKey e.1
    rings := { r with
      wqs := r.wqs.filter fun e => decide (e.1 / 1024 ≠ fn)
      cqs := r.cqs.filter fun e => decide (e.1 / 1024 ≠ fn)
      ops := r.ops.filter fun o => decide (o.fn ≠ fn)
      timed := r.timed.filter fun o => decide (o.fn ≠ fn)
      injects := r.injects.filter fun o => decide (o.fn ≠ fn) } }

/-- The pools of a function become DISABLED with every buffer free; their sizes and tags stay (R432). -/
def State.disablePools (s : State) (fn : Nat) : State :=
  (List.range 64).foldl (fun (a : State) k =>
    if a.rd Od.poolState 0 k ≠ 0 ∧ a.rd Od.poolFunction 0 k = fn then
      (((a.resetPools fn).wr Od.poolState 0 0 k).wr Od.poolEnable 0 0 k).wr Od.poolFunction 0xFF 0 k
    else a) s

/-- The ACTIVE events of a function end; its source records stay (R432). -/
def State.endEvents (s : State) (fn : Nat) : State :=
  (s.events.sources.filter fun e => e.2.state = 3 && e.2.takenKind = 2 && e.2.takenBy / 256 = fn).foldl
    (fun (a : State) e => a.endEvent 2 e.2.takenBy e.1) s

/-- The requests of a session that are not executed are discarded (R336): with `answer` those that can be answered carry ABORTED_RESET; an
accepted critical write completes without a response. -/
def State.dropRequests (s : State) (x : Session) (answer : Bool) : State :=
  let mine := fun (j : Job) => decide (sessionKey j.session = sessionKey x)
  let copying := s.copies.filter fun c => mine c.job
  let waiting := s.dict.critQueue.filter fun c => mine c.job && c.result.isNone
  let s1 : State :=
    { s with
      copies := s.copies.filter fun c => !mine c.job
      dict := { s.dict with
        critQueue := (s.dict.critQueue.filter fun c => !(mine c.job && c.result.isNone)).map fun c => if mine c.job then { c with mute := true } else c } }
  if answer then (copying.map (·.job) ++ waiting.map (·.job)).foldl (fun (a : State) j => a.finishJob j.abort .ok) s1 else s1

/-- The registers of a session return to their defaults (R336, R346). -/
def State.dropSessionRegs (s : State) (x : Session) : State :=
  { s with dict := { s.dict with sessionRegs := s.dict.sessionRegs.filter fun e => decide (e.1 / 2 ≠ sessionKey x) } }

/-- A function reset (R379, R432, R433). With `session` it is a SESSION_RESET, whose completions are still posted. -/
def State.functionReset (s : State) (fn : Nat) (session : Bool) : State :=
  let x : Session := .pcie (fn / 4) (fn % 4)
  let s1 := s.dropRequests x session
  let s2 := if session then s1.postAborts fn else s1.setMailbox fn { buffer := [], busy := false, done := false }
  (((((s2.clearQueues fn).dropCqNames fn).disablePools fn).endEvents fn).dropSessionRegs x).orphan (s.principal x)

/-- FUNCTION_LEVEL_RESET (R379, R432). -/
def execFunctionLevelReset (h f : Nat) (s : State) : Answer :=
  if h < 2 ∧ f < 4 then running s (s.functionReset (s.fnOf h f) false) else .fault .absentUnit

/-- A KDP session closes (R336, R349, R433). -/
def State.closeKdp (s : State) (n : Nat) : State :=
  match sparseFind? s.dict.kdp n with
  | none => s
  | some k =>
    let x : Session := .kdp n k.nonce
    let s1 := (s.dropRequests x true).dropSessionRegs x
    ({ s1 with dict := { s1.dict with kdp := sparseErase s1.dict.kdp n } }).orphan (0x60000 + n)

/-- KDP_SESSION_IDLE_EXPIRE (R349): KDP_SESSION_IDLE has passed since the session's last request. -/
def execKdpSessionIdleExpire (n : Nat) (s : State) : Answer :=
  running s <|
    match sparseFind? s.dict.kdp n with
    | some k => if k.heard + s.rd Od.kdpSessionIdle * 1000000000 ≤ s.up then s.closeKdp n else s
    | none => s

/-- The effect of SESSION_RESET for the session that wrote it, after its block has been answered (R336). -/
def State.resetSession (s : State) : Session → State
  | .pcie h f => s.functionReset (fnKey h f) true
  | .kdp n _ => s.closeKdp n
  | x => s.dropSessionRegs x

end Sys2Proof.Machine
end

