-- ==== Sys2Proof/Machine/Power.lean ====
section
/-! DEFINITION. Rails, the search throttle, the junction trip, and the power states (R454 to R471). Temperatures are in 0.1 °C. -/

namespace Sys2Proof.Machine

/-! The search throttle (R457 to R459). -/

/-- Temperature at which a step is entered, and that below which it is left for the step above (R458). -/
def stepEntry (k : Nat) : Int := if k = 1 then 900 else if k = 2 then 950 else 1000
def stepRelax (k : Nat) : Int := stepEntry k - 30

/-- Deepest step that a reading calls for. -/
def stepFor (temp : Int) : Nat := if stepEntry 3 ≤ temp then 3 else if stepEntry 2 ≤ temp then 2 else if stepEntry 1 ≤ temp then 1 else 0

/-- Step of a die in force, or decided and about to be. -/
def State.stepOf (s : State) (d : Nat) : Nat := (sparseFind? s.power.decided d).getD (s.rd Od.searchThrottleStep (dieInst d))

/-- A step is decided for a die; it takes effect at the next four-clock window (R458). -/
def State.decideThrottle (s : State) (d k : Nat) : State :=
  if s.stepOf d = k then s
  else ({ s with power := { s.power with decided := sparsePut s.power.decided d k, coolSince := sparseErase s.power.coolSince d } }).later 0 (.throttleStep d)

/-- The pin follows a change of the state. -/
def State.driveAlert (s old : State) : State := if s.thermAlert = old.thermAlert then s else s.emit (.pin 5 (b2n (!s.thermAlert)))

/-- THROTTLE_STEP (R458): the decided step takes effect. -/
def execThrottleStep (d : Nat) (s : State) : Answer :=
  withDie s d <|
    match sparseFind? s.power.decided d with
    | none => s
    | some k =>
      let s1 : State := { s with power := { s.power with decided := sparseErase s.power.decided d } }
      if s.rd Od.searchThrottleStep (dieInst d) = k then s1
      else (((s1.wr Od.searchThrottleStep k (dieInst d)).bump Od.throttleChanges (dieInst d)).fire d 0x160).driveAlert s

/-- The hottest reading of a sample. -/
def hottestOf : List Int → Option Int
  | [] => none
  | t :: rest => some (rest.foldl max t)

/-- AUTO: a reading deepens the step at once, within the limit, or starts or ends the count towards relaxing (R458). -/
def State.autoThrottle (s : State) (d : Nat) (temp : Int) : State :=
  let cur := s.stepOf d
  let want := min (stepFor temp) (s.rd Od.throttleStepLimit)
  if cur < want then s.decideThrottle d want
  else if cur = 0 ∨ stepRelax cur ≤ temp then { s with power := { s.power with coolSince := sparseErase s.power.coolSince d } }
  else if (sparseFind? s.power.coolSince d).isSome then s
  else ({ s with power := { s.power with coolSince := sparsePut s.power.coolSince d s.up } }).later 10000000 (.throttleRelaxExpire d)

/-- THERMAL_SAMPLE (R456 to R458): the readings of a die's sensors, every 20 µs. Until the Keepers run, nothing but the readings is kept. -/
def execThermalSample (d : Nat) (temps : List Int) (s : State) : Answer :=
  withDie s d <|
    match hottestOf temps with
    | none => s
    | some t =>
      let i := dieInst d
      let peak := max t ((sparseFind? s.power.peak d).getD t)
      let above := decide (1050 < t) && decide (s.rd Od.bootStage ≠ 0)
      let was := sparseGet (fun _ => false) s.power.tooHot d
      let s1 : State :=
        { s with power := { s.power with hottest := sparsePut s.power.hottest d t, peak := sparsePut s.power.peak d peak,
                                         tooHot := sparseSet (fun _ => false) s.power.tooHot d above } }
      let s2 := (s1.wr Od.tjMax (ofSigned 32 t) i).wr Od.tjPeak (ofSigned 32 peak) i
      let s3 := if above then s2.bump Od.thermalOverLimitTime i 0 20 else s2
      let s4 := if above && !was then s3.fire d 0x161 else s3
      (if s4.rd Od.throttleMode = 0 ∧ s4.rd Od.bootStage ≠ 0 then s4.autoThrottle d t else s4).driveAlert s

/-- THROTTLE_RELAX_EXPIRE (R458): the hottest sensor has been below the relaxation temperature for 10 ms, and the step relaxes by one. -/
def execThrottleRelaxExpire (d : Nat) (s : State) : Answer :=
  withDie s d <|
    match sparseFind? s.power.coolSince d with
    | none => s
    | some at_ =>
      if s.rd Od.throttleMode = 0 ∧ at_ + 10000000 ≤ s.up ∧ 0 < s.stepOf d then
        let k := s.stepOf d - 1
        let s1 := s.decideThrottle d k
        if 0 < k ∧ sparseGet (fun _ => 0) s1.power.hottest d < stepRelax k then
          ({ s1 with power := { s1.power with coolSince := sparsePut s1.power.coolSince d s1.up } }).later 10000000 (.throttleRelaxExpire d)
        else s1
      else s

/-! Rails and the junction trip (R455, R460, R494). -/

/-- JUNCTION_TRIP (R460): a sensor of a die reaches 110 °C. PIN and INT are applied, every port's transmit path is squelched, the clocks stop, and
the record stands in the NVS fault history. -/
def execJunctionTrip (d sensor temp : Nat) (s : State) : Answer :=
  if s.hasDie d = false then .fault .absentUnit
  else if temp < 1100 ∨ s.recov.trip = true then .next s
  else
    let s1 := s.fault d 0x18 3 sensor temp
    let s2 := (List.range 512).foldl (fun (a : State) n => if a.hasDie (n / 64) ∧ a.portModeOf n ≠ 0 then a.emit (.link 2 n []) else a) s1
    let power := { s2.power with tripSensor := sensor, hottest := sparsePut s2.power.hottest d (temp : Int) }
    .next (({ s2 with recov := { s2.recov with trip := true }, power := power }).driveAlert s)

/-- RAIL_WARNING (R455). -/
def execRailWarning (d rail : Nat) (s : State) : Answer := withDie s d (if rail < 8 then s.fire d 0x163 else s)

/-- RAIL_FAULT (R427, R455): a rail leaves ±5 %. The fault is recorded and the engine holds itself in reset; during Banked the record waits for the
next wake or start. -/
def execRailFault (rail : Nat) (s : State) : Answer :=
  if 8 ≤ rail then .fault .absentUnit
  else if s.power.railsOut.contains rail then .next s
  else
    let late := s.rd Od.powerState = 4
    let s1 := if late || s.boot.held then s else s.fault (s.rd Od.leadDie) 0x19 3 rail
    .next { s1 with
      power := { s1.power with railsOut := rail :: s1.power.railsOut,
                               railsLate := if late then s1.power.railsLate ++ [rail] else s1.power.railsLate }
      boot := { s1.boot with held := true } }

/-- Whether a JTAG test instruction holds the engine in reset (R499). -/
def State.extest (s : State) : Bool := decide (3 ≤ s.jtag.ir) && decide (s.jtag.ir ≤ 5)

/-- RAIL_IN_TOLERANCE (R427, R493, R494): a rail is back; when the last has been in tolerance for 10 ms the engine leaves reset. -/
def execRailInTolerance (rail : Nat) (s : State) : Answer :=
  if s.power.railsOut.contains rail = false then .next s
  else
    let left := s.power.railsOut.filter (· ≠ rail)
    let s1 : State := { s with power := { s.power with railsOut := left } }
    if left ≠ [] then .next s1
    else
      let s2 := s1.engineReset 0 0
      .next { s2 with boot := { s2.boot with held := s2.extest } }

/-- The rail faults of Banked are kept in the NVS fault history at the next wake or start (R455). -/
def State.keepLateRails (s : State) : State :=
  let e := fun (rail : Nat) =>
    ({ die := s.rd Od.leadDie, source := 0x19, cls := 3, location := rail, detail0 := 0, detail1 := 0, spareUsed := false, repairing := false } : FaultError)
  let s1 := s.power.railsLate.foldl (fun (a : State) r => a.keepHistory (e r)) s
  { s1 with power := { s1.power with railsLate := [] } }

/-! Power states (R461 to R468). -/

/-- POWER_STATE takes a value and POWER_STATE_CHANGE is raised (R461). -/
def State.toPower (s : State) (v : Nat) : State := (s.fireLead 0x162).wr Od.powerState v

/-- Check 13 of POWER_REQUEST (R463). -/
def State.checkPower (s : State) : Status :=
  if s.rd Od.powerState ≠ 0 ∨ s.sched.changes ≠ [] ∨ s.shadowsBusy = true ∨ s.recov.pin = true then .state else .ok

/-- Ports with PORT_ENABLE = 1. -/
def State.enabledPorts (s : State) : List Nat :=
  (List.range 512).filter fun n => s.hasDie (n / 64) && decide (s.portModeOf n ≠ 0) && s.rd Od.portEnable (portInst n) = 1

/-- Step 1 of R464: every enabled port is disabled as by R90, and PORT_ENABLE is kept. -/
def State.drainPorts (s : State) : State :=
  s.enabledPorts.foldl (fun (a : State) n =>
    (a.enablePort n 0).2.wr Od.portEnable 1 (portInst n)) s

/-- Packets still queued and in spill are discarded (R89, R464). -/
def State.dropQueued (s : State) : State :=
  let s1 := s.tm.copies.foldl (fun (a : State) (e : Nat × Copy) =>
    ((if e.2.isFan then a else a.bump Od.portDownDiscards (portInst e.2.port)).restoreStanding e.2).endCopy e.1 e.2) s
  { s1 with
    tm := { s1.tm with queues := [], requests := [], fanRequests := [], inFlight := [], txq := [], sending := [], spillDeficit := [], returning := [] }
    bufs := { s1.bufs with pages := [] }
    fabric := { s1.fabric with sends := [], recvs := [] } }

/-- Punts and samples that have not drained are dropped (R300, R452, R464). -/
def State.dropDeliveries (s : State) : State :=
  let s1 := s.part.dies.foldl (fun (a : State) d =>
    (a.puntOrder d).foldl (fun (b : State) e => (b.bump Od.puntDropRate (dieInst d) (e.2.reason % 64)).leavePunt e.1 e.2) a) s
  s1.ctrs.samples.foldl (fun (a : State) e =>
    (({ a with ctrs := { a.ctrs with samples := sparseErase a.ctrs.samples e.1 } }).bump Od.sampleLost (dieInst e.1) 0 e.2.length).wr Od.sampleBuffered 0
      (dieInst e.1)) s1

/-- Whether the drains of the current entry step are over (R464): no port drains, no operation is in flight. -/
def State.stepDrained (s : State) : Bool :=
  if s.power.entryStep = 1 then s.enabledPorts.all fun n => s.portStateOf n = 0
  else if s.power.entryStep = 2 then s.rings.wqs.all fun e => e.2.inflight.all fun o => o.result.isSome
  else true

/-- Every KDP session closes, and every host function is reset as by R379 and R432, its link down (R464 step 5). -/
def State.closeHosts (s : State) : State :=
  let s1 := s.dict.kdp.foldl (fun (a : State) e => a.closeKdp e.1) s
  let s2 := (List.range 8).foldl (fun (a : State) fn => a.functionReset fn false) s1
  { s2 with events := { s2.events with power := [], unmasked := [] } }

/-- What ends with the current entry step. -/
def State.endEntryStep (s : State) : State :=
  if s.power.entryStep = 1 then s.dropQueued
  else if s.power.entryStep = 2 then s.dropDeliveries
  else if s.power.entryStep = 5 then s.closeHosts
  else s

/-- Entry goes on with step `k`, and ends it on the agenda. -/
def State.toEntryStep (s : State) (k ns : Nat) : State := ({ s with power := { s.power with entryStep := k } }).later ns .powerEntryStep

/-- The start of an entry (R463, R464): 1 SMOULDER, 2 BANKED. -/
def State.powerEntry (s : State) (v : Nat) : State :=
  let s1 := s.toPower (if v = 1 then 1 else 3)
  let s2 : State := { s1 with power := { s1.power with target := if v = 1 then 2 else 4 } }
  s2.drainPorts.toEntryStep 1 0

/-- POWER_ENTRY_STEP (R464): a step that is drained ends and the next begins, until the state is reached; one that is not is looked at
again. A wake that came during the entry stops it here, and the return is the wake of the state whose steps have begun: from step 5 on that from Banked. -/
def execPowerEntryStep (s : State) : Answer :=
  running s <|
    let k := s.power.entryStep
    if k = 0 then s
    else if s.stepDrained = false then s.later 1000 .powerEntryStep
    else
      let s1 := s.endEntryStep
      if s1.rd Od.powerState = 5 then
        let s2 : State := { s1 with power := { s1.power with entryStep := 0, target := if k < 5 then 2 else 4 } }
        if k < 5 then s2.later 0 .smoulderWake else s2
      else if k = 3 ∧ s1.power.target = 2 then ({ s1 with power := { s1.power with entryStep := 0 } }).toPower 2
      else if k = 3 then s1.toEntryStep 5 0
      else if k = 5 then s1.toEntryStep 6 2000000000
      else if k = 6 then ({ s1 with power := { s1.power with entryStep := 0 } }).toPower 4
      else s1.toEntryStep (k + 1) (if k = 1 then 1000000 else 0)

/-- WAKE_N (R466, R495): low for at least 1 ms. Ignored in Run. -/
def execWakeN (lowUs : Nat) (s : State) : Answer := running s (if lowUs < 1000 then s else s.startWake 1 0x0FFF)

/-- Every port that was enabled before entry is enabled again; L400 ports train from their stored coefficients (R76, R467). -/
def State.reopenPorts (s : State) : State :=
  s.enabledPorts.foldl (fun (a : State) n => if a.portStateOf n = 0 then a.startTraining n true else a) s

/-- The fabric retrains (R306, R324, R467). -/
def State.retrainFabric (s : State) : State :=
  s.part.dies.foldl (fun (a : State) d => (List.range 7).foldl (fun (b : State) g =>
    match groupPeer b.part d g with
    | some p => if d < p then b.breakGroup d g 1 else b
    | none => b) a) s

/-- The events that waited for Run are presented or sent (R396). -/
def State.serveAll (s : State) : State := s.events.sources.foldl (fun (a : State) e => if e.2.state = 1 then a.serveSource e.1 else a) s

/-- The return to Run that both wakes share (R467): ports, fabric, empty result caches, and the events that waited. -/
def State.resume (s : State) : State :=
  let s1 := (s.toPower 0).retrainFabric
  let s2 : State := { s1 with asa := { s1.asa with rc := [] }, power := { s1.power with target := 0 } }
  s2.reopenPorts.serveAll

/-- SMOULDER_WAKE (R467). -/
def execSmoulderWake (s : State) : Answer :=
  running s (if s.rd Od.powerState = 5 ∧ s.power.entryStep = 0 ∧ s.power.target ≠ 4 then s.resume else s)

/-- Package time restarts from the Ember's seconds count in FREERUN (R468): the epoch number never falls. -/
def State.emberTime (s : State) (seconds : Nat) : State :=
  let now := seconds * 1000000000 * 65536
  let e := now / 65536 / s.epochNs
  { s with time := { TimeUnit.reset with now := now, up := s.up, epoch := max e s.time.epoch, held := decide (e < s.time.epoch), master := s.time.master } }.wr
    Od.timeState 0

/-- Both customer banks of each image are zero (R229). -/
def State.emptyCustomerCode (s : State) : State :=
  [0, 1].foldl (fun (a : State) i => [0, 1].foldl (fun (b : State) bank => (b.emptyTable bank (0x100 + i)).emptyTable bank (0x110 + i)) a) s

/-- BANKED_WAKE (R468): the state image is restored, time restarts from the Ember's seconds, the customer banks are zero, and the ports are enabled. The
lead Keeper runs again, and has refreshed the Lamp (R469). -/
def execBankedWake (emberSeconds : Nat) (s : State) : Answer :=
  running s <|
    if s.rd Od.powerState = 5 ∧ s.power.entryStep = 0 ∧ s.power.target = 4 then
      let s1 := ((s.keepLateRails.emberTime emberSeconds).emptyCustomerCode.resume).retimeTimers true
      { s1 with recov := { s1.recov with lampRefreshed := s1.up } }
    else s

/-- Writes of the power objects, 0x9000 to 0x93FF (R458, R459, R463, R466). -/
def State.writePower (s : State) (c : WriteCtx) : WriteRes :=
  let i := c.addr.index
  let b := c.addr.sub
  let d := c.addr.inst % 65536 - 0x0100
  if i = 0x9000 ∧ b = 2 then
    match s.checkPower with
    | .ok => WriteRes.good (s.powerEntry c.value)
    | st => WriteRes.refuse s st
  else if i = 0x9000 ∧ b = 3 then WriteRes.good (s.startWake 3 0x0FFF)
  else if i = 0x9010 ∧ b = 2 then
    WriteRes.good (s.part.dies.foldl (fun (a : State) x => if c.value < a.stepOf x then a.decideThrottle x c.value else a) (s.store c).state)
  else if i = 0x9010 ∧ b = 3 then
    if s.rd Od.throttleStepLimit < c.value then WriteRes.refuse s .range
    else if s.rd Od.throttleMode = 0 then WriteRes.refuse s .state
    else WriteRes.good ((s.store c).state.decideThrottle d c.value)
  else s.store c

end Sys2Proof.Machine
end

