-- ==== Sys2Proof/Machine/Boot.lean ====
section
/-! DEFINITION. Resets, Kindling, firmware slots and the JTAG port (R472 to R489, R493, R494, R499). -/

namespace Sys2Proof.Machine

/-! Resets (R472 to R475). -/

/-- POWER_ON (R473, R493): everything but the NVS and the fuses starts anew, RESET_COUNT is 1, and the engine holds until its rails stand. -/
def execPowerOn (s : State) : Answer :=
  let slept := decide (s.rd Od.powerState ≠ 0)
  let s1 := (s.engineReset 0 0).wr Od.resetCount 1
  let s2 : State :=
    { s1 with power := { State.reset.power with railsLate := s.power.railsLate }
              jtag := State.reset.jtag
              boot := { s1.boot with held := false } }
  .next (if slept then s2.wr Od.wakeReason 4 else s2)

/-- RESET_N low (R472, R473, R495): an engine reset, with cause TRIP where a junction trip has stopped the engine. A pulse below 10 µs is ignored. -/
def execResetN (lowUs : Nat) (s : State) : Answer :=
  if lowUs < 10 then .next s
  else if s.recov.trip then
    let s1 := (s.engineReset 5 s.power.tripSensor).wr Od.lampState 3
    .next { s1 with recov := { s1.recov with lampRunning := false } }
  else .next (s.engineReset 1 0)

/-- ENGINE_RESET_DELAY_END (R474). -/
def execEngineResetDelayEnd (s : State) : Answer := running s (if s.boot.resetDue then s.engineReset 2 0 else s)

/-- PERST_N (R475): with the interfaces paired, the active one hands over first; then the four functions of the interface are reset, and its link
retrains. -/
def execPerstN (h : Nat) (s : State) : Answer :=
  if 2 ≤ h then .fault .absentUnit
  else
    running s <|
      let s1 :=
        if s.rd Od.pciePairing = 1 ∧ s.rd Od.pcieActiveDie = s.hostDie h then
          ((s.wr Od.pcieActiveDie (s.hostDie (1 - h))).emit (.link 21 (1 - h) [])).fireLead 0x177
        else s
      let s2 := (List.range 4).foldl (fun (a : State) f => a.functionReset (a.fnOf h f) false) s1
      s2.emit (.link 22 h [])

/-! Kindling (R476 to R483). -/

/-- The NVS copies are reconciled: what the valid copy with the higher generation holds is written to each copy that can be written (R341). -/
def State.reconcileNvs (s : State) : State :=
  let best := s.dict.bestNvs
  let gen := max s.dict.nvs0.generation s.dict.nvs1.generation
  let mend := fun (c : NvsCopy) => if c.writable then { c with valid := true, generation := gen, body := best } else c
  { s with dict := { s.dict with live := best, nvs0 := mend s.dict.nvs0, nvs1 := mend s.dict.nvs1 } }

/-- BOOT_LOG with no attempt made (R489). -/
def bootLogEmpty : Nat := (List.range 4).foldl (fun a _ => a * 2 ^ 64 + 0xFFFFFF0000000000) 0

/-- Every routed group begins its training (R306). -/
def State.trainGroups (s : State) : State :=
  s.part.dies.foldl (fun (a : State) d => (List.range 7).foldl (fun (b : State) g =>
    if (groupPeer b.part d g).isSome then b.restartGroup d g else b) a) s

/-- KINDLING_START (R306, R406, R483): reset release. The Lamp begins at 10 Hz, and the fabric trains.
After a trip Kindling waits until every sensor reads below 95 °C (R460). -/
def execKindlingStart (s : State) : Answer :=
  running s <|
    if s.boot.started ∨ s.rd Od.bootStage ≠ 0 then s
    else if s.rd Od.resetCause = 5 ∧ (s.power.hottest.any fun e => decide (950 ≤ e.2)) = true then s
    else
      let s1 := ((s.reconcileNvs.wr Od.epochLengthInForce (s.rd Od.epochLength)).wr Od.bootLog bootLogEmpty).wr Od.lampState 0
      let s2 : State :=
        { s1 with time := { TimeUnit.reset with up := s1.up, master := s1.time.master }
                  boot := { s1.boot with started := true, released := s1.up } }
      (s2.keepLateRails.startLamp.trainGroups).later 1500000000 .bootClaimTimeout

/-- Bit of PART_MASK for the part (R477). -/
def maskBitOf : Part → Nat
  | .sh2048lq => 0
  | .sh1024lq => 1
  | .sh0512lq => 2
  | .sh0512af => 2

/-- A section entry is valid (R478): a known type, ENCRYPTED for PATCHES alone, zeros where they must be, and inside the image. -/
def sectionOk (header : List Byte) (i : Nat) : Bool :=
  let at_ := 32 + 32 * i
  let type := (byteAt header at_).toNat
  let offset := leNat (slice header (at_ + 4) 4)
  decide (1 ≤ type) && decide (type ≤ 7) && decide ((byteAt header (at_ + 1)).toNat = b2n (type = 4)) && decide (leNat (slice header (at_ + 2) 2) = 0)
    && decide (offset % 4096 = 0) && decide (4096 ≤ offset) && decide (offset + leNat (slice header (at_ + 8) 4) ≤ leNat (slice header 8 4))

/-- The header is valid (R477, R481 code 0x02). -/
def headerOk (f : ImageFacts) : Bool :=
  let n := leNat (slice f.header 6 2)
  let length := leNat (slice f.header 8 4)
  decide (leNat (slice f.header 0 4) = 0x4C444E4B) && decide (leNat (slice f.header 4 2) = 1) && decide (1 ≤ n) && decide (n ≤ 16)
    && decide (4096 ≤ length) && decide (length ≤ 33554432) && decide ((byteAt f.header 24).toNat < 8)
    && decide (leNat (slice f.header 26 6) = 0) && f.restZero && (List.range n).all (sectionOk f.header)
    && decide (leNat (slice f.header (32 + 32 * n) (32 * (16 - n))) = 0)

/-- Code of an attempt (R481): 0 where every check passes. The order is that of R481. -/
def State.bootCode (s : State) (slotState : Nat) (f : ImageFacts) : Nat :=
  if f.selfTest = false then 9
  else if f.readable = false then 1
  else if slotState ≠ 2 then 8
  else if headerOk f = false then 2
  else if f.signature = false ∨ 2 < (byteAt f.header 25).toNat then 3
  else if leNat (slice f.header 20 4) < s.rd Od.fusedSvn then 4
  else if bitOf (byteAt f.header 24).toNat (maskBitOf s.part) = false then 5
  else if f.digests = false then 6
  else if f.decrypts = false then 7
  else 0

/-- State of a slot in a directory (R476). -/
def Flash.slot (f : Flash) (k : Nat) : Nat := if k = 0 then f.slotA else f.slotB

/-- Attempt `i` is written into BOOT_LOG: die, slot, code, zero, IMAGE_VERSION (R489). -/
def State.logAttempt (s : State) (i die slot code version : Nat) : State :=
  (die :: slot :: code :: 0 :: (beBytes 4 version).map (·.toNat)).zipIdx.foldl
    (fun (a : State) e => a.wrOctet Od.bootLog 0 0 (8 * i + e.2) e.1) s

/-- Whether a group of die 0 has trained, so that it can send over the fabric (R480). -/
def State.canClaim (s : State) : Bool := (List.range 7).any fun g => s.groupState 0 g = 2

/-- An image is booted (R480, R483, R489): its versions are shown, the booting die's cluster leads, and the Lamp begins its pattern. -/
def State.bootImage (s : State) (i die slot : Nat) (f : ImageFacts) : State :=
  let s1 := ((s.wr Od.bootDie die).wr Od.bootSlot slot).wr Od.bootFallbacks i
  let s2 := ((s1.wr Od.keeperFwVersion (leNat (slice f.header 12 4))).wr Od.imageSvn (leNat (slice f.header 20 4))).wr Od.aeDechusVersion
    (leNat (slice f.header 16 4))
  let s3 := (((s2.wr Od.patchLevel f.patchLevel).wr Od.imageDigest f.digest).wr Od.leadDie die).wr Od.bootStage 1
  let s4 := s3.wr Od.lampState s3.lampLevel
  let s5 : State := { s4 with boot := { s4.boot with attempt := 4 }, recov := { s4.recov with lampRefreshed := s4.up } }
  if die = 0 ∧ s5.canClaim = true then s5.emit (.control 0 s5.part.secondHost 10 []) else s5

/-- All four attempts have failed (R482). -/
def State.bootFailed (s : State) : State :=
  let s1 := ((s.wr Od.bootStage 4).wr Od.faultNAsserted 1).wr Od.lampState 3
  ({ s1 with recov := { s1.recov with pin := true, lampRunning := false, lampHigh := false }, boot := { s1.boot with attempt := 4 } }.emit (.pin 4 0)).emit (.pin 3 0)

/-- An attempt has failed: the next one, BOOT_YIELD after die 0's second, or the end (R480). A die whose self-test fails makes no further attempt, and
die 0 then sends nothing, as it does while none of its groups has trained. -/
def State.bootNext (s : State) (i code : Nat) : State :=
  let n := if code = 9 then (if i < 2 then 2 else 4) else i + 1
  if n = 4 then s.bootFailed
  else
    let s1 : State := { s with boot := { s.boot with attempt := n } }
    if i < 2 ∧ n = 2 ∧ code ≠ 9 ∧ s1.canClaim = true then s1.emit (.control 0 s.part.secondHost 11 []) else s1

/-- BOOT_ATTEMPT (R480, R481): the next attempt of the sequence. -/
def execBootAttempt (f : ImageFacts) (s : State) : Answer :=
  running s <|
    let i := s.boot.attempt
    if s.boot.started = false ∨ s.rd Od.bootStage ≠ 0 ∨ 4 ≤ i ∨ (2 ≤ i ∧ s.boot.second = false) then s
    else
      let die := if i < 2 then 0 else s.part.secondHost
      let flash := if i < 2 then s.boot.flash0 else s.boot.flash1
      let slot := if i % 2 = 0 then flash.preferred else 1 - flash.preferred
      let code := s.bootCode (flash.slot slot) f
      let s1 := s.logAttempt i die slot code (if code = 9 ∨ code = 1 then 0 else leNat (slice f.header 12 4))
      if code = 0 then s1.bootImage i die slot f else s1.bootNext i code

/-- The second host die starts its own attempts (R480). -/
def State.startSecond (s : State) : State :=
  if s.boot.claimed = false ∧ s.boot.started = true ∧ s.rd Od.bootStage = 0 then
    { s with boot := { s.boot with second := true, attempt := max 2 s.boot.attempt } }
  else s

/-- BOOT_CLAIM, BOOT_YIELD and BOOT_CLAIM_TIMEOUT at the second host die (R480). -/
def execBootClaim (s : State) : Answer := running s { s with boot := { s.boot with claimed := true } }
def execBootYield (s : State) : Answer := running s s.startSecond
def execBootClaimTimeout (s : State) : Answer :=
  running s (if s.boot.released + 1500000000 ≤ s.up then s.startSecond else s)

/-- A default of the DEFAULTS section (R478): of an object that can be written, neither critical nor non-volatile. -/
def State.applyDefault (s : State) (a : Address) (v : Nat) : State :=
  match Od.find? (InstKind.ofInst a.inst) a.index a.sub with
  | none => s
  | some o =>
    if o.critical = true ∨ o.access = .ro ∨ o.access = .wo ∨ 256 ^ o.type.size ≤ v then s
    else { s with regs := sparseSet Od.defaultAt s.regs (dictKey a.inst a.index a.sub) v }

/-- HOST_READY (R483): the defaults stand, sessions open and the mailboxes answer. -/
def execHostReady (defaults : List (Address × Nat)) (s : State) : Answer :=
  running s <|
    if s.rd Od.bootStage ≠ 1 then s
    else
      let s1 := (defaults.foldl (fun (a : State) e => a.applyDefault e.1 e.2) s).wr Od.bootStage 2
      { s1 with dict := { s1.dict with mbxReady := true } }

/-- A Retired unit stays out of service at every start, and the spare that replaced it is brought in (R415). Units from 1,000,000 on are no spares
themselves. -/
def State.bringIn (s : State) (r : Retirement) : State :=
  let d := r.die
  if r.cls = 0 then ((s.wr Od.laneSlice 1 (portInst (d * 64 + r.group * 8 + r.unit))).setSpare 0 d r.group 0 3).wr Od.spareSliceLane r.unit
    (portInst (d * 64 + r.group * 8))
  else if r.cls = 1 then if 40 ≤ r.unit then s.setSpare 1 d r.group (r.unit - 40) 4 else s
  else if r.cls = 2 ∨ r.cls = 3 then
    if 8 ≤ r.unit then s.setSpare r.cls d 0 0 4
    else (s.wrOctet Od.pipelineMap (dieInst d) 0 (if r.cls = 3 then 8 + r.unit else r.unit) 8).setSpare r.cls d 0 0 3
  else if r.cls = 4 then
    let s1 := s.setSpare 4 d r.group r.unit 4
    (s1.recov.replaced.filter fun e => e.1 / 65536 = spareKey 4 d r.group 0 / 65536).foldl (fun (a : State) e =>
      if a.spareState 4 d r.group e.2 < 3 then a.setSpare 4 d r.group e.2 3 else a) s1
  else if r.cls = 8 then
    let s1 := s.setSpare 8 d 0 r.unit 4
    (s1.recov.replaced.filter fun e => e.1 / 65536 = spareKey 8 d 0 0 / 65536).foldl (fun (a : State) e =>
      if a.spareState 8 d 0 e.2 < 3 then a.setSpare 8 d 0 e.2 3 else a) s1
  else if r.cls = 9 then if r.unit < 4 then (s.setSpare 9 d 0 r.unit 4).setSpare 9 d 0 4 3 else s.setSpare 9 d 0 4 4
  else if r.cls = 10 then (s.setSpare 10 d 0 r.unit 4).wr Od.pllInUse (1 - r.unit) (dieInst d)
  else if r.cls = 11 then (s.setSpare 11 0 0 r.unit 4).wr Od.pcieActiveDie (s.hostDie (1 - r.unit))
  else if 1000000 ≤ r.unit then
    match sparseFind? s.recov.replaced (spareKey r.cls d r.group (r.unit - 1000000)) with
    | some u => s.setSpare r.cls d r.group u 3
    | none => s
  else s.setSpare r.cls d r.group r.unit 4

/-- Reserves of a die at the start of forwarding (R260, R278): 40 cells of each octet's path, and the standing grants that its copies may use. -/
def State.fillReserves (s : State) (d : Nat) : State :=
  ((List.range 8).foldl (fun (a : State) o => a.setReserved d o 40) s).setReserved d 12 (s.rd Od.standingGrant * s.part.dies.length * 64)

/-- FORWARDING_READY (R483). -/
def execForwardingReady (s : State) : Answer :=
  running s <|
    if s.rd Od.bootStage ≠ 2 then s
    else
      let s1 := s.part.dies.foldl (fun (a : State) d => a.fillReserves d) s
      (s1.recov.retired.foldl (fun (a : State) r => a.bringIn r) s1).lampUpdate.wr Od.bootStage 3

/-! Firmware update (R485 to R488). -/

/-- Directory state of a slot is written in both flashes (R476, R485, R486). -/
def State.setSlots (s : State) (k v : Nat) : State :=
  let put := fun (f : Flash) => if k = 0 then { f with slotA := v, generation := f.generation + 1 } else { f with slotB := v, generation := f.generation + 1 }
  { s with boot := { s.boot with flash0 := put s.boot.flash0, flash1 := put s.boot.flash1 } }

/-- PREFERRED is written in both flashes (R487). -/
def State.setPreferred (s : State) (k : Nat) : State :=
  let put := fun (f : Flash) => { f with preferred := k, generation := f.generation + 1 }
  { s with boot := { s.boot with flash0 := put s.boot.flash0, flash1 := put s.boot.flash1 } }

/-- The flash of the booting die. -/
def State.bootFlash (s : State) : Flash := if s.rd Od.bootDie = 0 then s.boot.flash0 else s.boot.flash1

/-- FW_SLOT_STATE of a slot (R489). -/
def State.fwSlot (s : State) (k : Nat) : Nat :=
  match sparseFind? s.boot.slotState k with
  | some v => v
  | none => if s.rd Od.bootSlot = k then 5 else if s.bootFlash.slot k = 2 then 3 else s.bootFlash.slot k

/-- State of a slot as verification leaves it. -/
def State.setFwSlot (s : State) (k v : Nat) : State := { s with boot := { s.boot with slotState := sparsePut s.boot.slotState k v } }

/-- One octet list as one number, octet 0 most significant: the key under which a programmed block is kept. -/
def State.programBlock (s : State) (k off v : Nat) : State :=
  let put := fun (f : Flash) => { f with blocks := sparsePut f.blocks (k * 32768 + off / 1024) (low 8192 v) }
  { s with boot := { s.boot with flash0 := put s.boot.flash0, flash1 := put s.boot.flash1, slotState := sparseErase s.boot.slotState k } }

/-- FW_FLASH_BLOCK (R485): RANGE, STATE and RETRY in that order; the first block sets the slot to WRITING in both directories. RETRY stands while a
verification reads the flashes. -/
def State.flashBlock (s : State) (v : Nat) : WriteRes :=
  let k := Sys2Proof.Machine.octetOf 1032 0 v
  let off := beNat ((List.range 4).map fun i => BitVec.ofNat 8 (Sys2Proof.Machine.octetOf 1032 (4 + i) v))
  if 1 < k ∨ Sys2Proof.Machine.octetOf 1032 1 v ≠ 0 ∨ Sys2Proof.Machine.octetOf 1032 2 v ≠ 0 ∨ Sys2Proof.Machine.octetOf 1032 3 v ≠ 0
      ∨ off % 1024 ≠ 0 ∨ 33554432 ≤ off then WriteRes.refuse s .range
  else if s.rd Od.bootSlot = k then WriteRes.refuse s .state
  else if s.fwSlot 0 = 2 ∨ s.fwSlot 1 = 2 then WriteRes.refuse s .retry
  else
    let s1 := if s.boot.flash0.slot k = 1 ∧ s.boot.flash1.slot k = 1 then s else s.setSlots k 1
    WriteRes.good (s1.programBlock k off v)

/-- FW_ACTIVATE (R487). What a slot that has not been verified since the start holds beside its Keeper firmware is a free value (DESIGN CHOICE, log 7). -/
def State.activate? (s : State) (v : Nat) : WriteRes :=
  let k := v / 256
  if 1 < k ∨ v % 256 = 0 ∨ 2 < v % 256 then WriteRes.refuse s .range
  else if s.fwSlot k ≠ 3 then WriteRes.refuse s .state
  else if v % 256 = 1 then WriteRes.good (s.setPreferred k)
  else if (sparseFind? s.boot.keeperOnly k).getD (s.freeBits 1 = 1) = false then WriteRes.refuse s.useFree .state
  else
    let s1 := s.useFree.setPreferred k
    WriteRes.good (({ s1 with boot := { s1.boot with activating := some k } }).later 3000000000 .keeperNowRestartDone)

/-- Writes of the boot objects, 0xB000 to 0xB3FF (R474, R485 to R488). -/
def State.writeBoot (s : State) (c : WriteCtx) : WriteRes :=
  let i := c.addr.index
  let b := c.addr.sub
  if i = 0xB020 ∧ b = 1 then s.flashBlock c.value
  else if i = 0xB020 ∧ b = 2 then if 1 < c.value then WriteRes.refuse s .range else WriteRes.good (s.setFwSlot c.value 2)
  else if i = 0xB020 ∧ b = 3 then s.activate? c.value
  else if i = 0xB020 ∧ b = 7 then
    if s.rd Od.bootFallbacks ≠ 0 then WriteRes.refuse s .state
    else WriteRes.good (s.wr Od.fusedSvn (max (s.rd Od.fusedSvn) (s.rd Od.imageSvn)))
  else WriteRes.good s

/-- FW_VERIFY_DONE (R486): the code that the checks of R481 give a slot under verification, its versions, and whether only its Keeper firmware differs
from what is loaded (R487). -/
def execFwVerifyDone (slot code version svn : Nat) (keeperOnly : Bool) (s : State) : Answer :=
  running s <|
    if s.fwSlot slot ≠ 2 ∨ 1 < slot then s
    else
      let s1 := (s.setFwSlot slot (if code = 0 then 3 else 4)).wr Od.fwVerifyCode (low 8 code)
      if code = 0 then
        { s1.setSlots slot 2 with boot := { (s1.setSlots slot 2).boot with
            slotVersion := sparsePut s1.boot.slotVersion slot (low 32 version), slotSvn := sparsePut s1.boot.slotSvn slot (low 32 svn)
            keeperOnly := sparsePut s1.boot.keeperOnly slot keeperOnly } }
      else s1

/-- KEEPER_NOW_RESTART_DONE (R487). -/
def execKeeperNowRestartDone (s : State) : Answer :=
  running s <|
    match s.boot.activating with
    | none => s
    | some k =>
      ({ s with boot := { s.boot with activating := none } }).useFree.wr Od.keeperFwVersion ((sparseFind? s.boot.slotVersion k).getD (s.freeBits 32))

/-! The JTAG port (R499). -/

/-- An instruction is selected; one that is no EXTEST lets the engine go, unless a rail holds it. -/
def State.selectIr (s : State) (ir : Nat) : State :=
  { s with jtag := { s.jtag with ir := ir }, boot := { s.boot with held := decide (s.power.railsOut ≠ []) } }

/-- EXTEST and its two AC forms: the boundary register drives the balls, and the engine is held in an ENGINE reset while one is selected. -/
def State.extestDrive (s : State) (ir value : Nat) : State :=
  let s1 := if s.extest then s else s.engineReset 4 0
  { s1 with jtag := { s1.jtag with ir := ir, boundary := value }, boot := { s1.boot with held := true } }

/-- JTAG_BYPASS: one bit, which captures 0. -/
def execJtagBypass (_tdi : Nat) (s : State) : Answer := .next ((s.selectIr 0xFFFF).emit (.tdo 1 0))

/-- Part number of IDCODE. -/
def idPartOf : Part → Nat
  | .sh2048lq => 0x2048
  | .sh1024lq => 0x1024
  | .sh0512lq => 0x0512
  | .sh0512af => 0x0512

/-- IDCODE: stepping, part, manufacturer, 1. The stepping and the manufacturer are values the spec does not give (DESIGN CHOICE, log 8). -/
def execIdcode (s : State) : Answer :=
  .next ((s.selectIr 1).emit (.tdo 32 (low 4 (Config.perPart (dictKey 0 0x1000 5)) * 2 ^ 28 + idPartOf s.part * 2 ^ 12 + low 11 (Config.perPart 1) * 2 + 1)))

/-- SAMPLE/PRELOAD: the levels of the balls, which are a free value, are shifted out, and the boundary register is loaded. -/
def execSamplePreload (value : Nat) (s : State) : Answer :=
  let s1 := s.selectIr 2
  .next (({ s1 with jtag := { s1.jtag with boundary := value } }.emit (.tdo 0 (Config.freeValue s1.freeCount))).useFree)

def execExtest (value : Nat) (s : State) : Answer := .next (s.extestDrive 3 value)
def execExtestPulse (value : Nat) (s : State) : Answer := .next (s.extestDrive 4 value)
def execExtestTrain (value : Nat) (s : State) : Answer := .next (s.extestDrive 5 value)

/-- RESET_ENGINE: Update-DR with 1 is an ENGINE reset. -/
def execResetEngine (bit : Nat) (s : State) : Answer :=
  let s1 := s.selectIr 0x0C02
  .next (if bit = 1 then s1.engineReset 4 0 else s1)

end Sys2Proof.Machine
end

