-- ==== Sys2Proof/Machine/CellFaults.lean ====
section
/-! DEFINITION. What an uncorrectable error in the cell buffer does to the packet that holds the cell (R257), with the command that reports an error. -/

namespace Sys2Proof.Machine

/-- A copy of a packet that is lost ends bad (R111): what has begun is completed, with the complement of its FCS at a port. -/
def State.spoilCopy (s : State) (i : Nat) (c : Copy) : State :=
  s.setCopy i { c with k := { c.k with ended := true, bad := true }, origin := 0 }

/-- Octets of a crossing copy that are in cells already, while it is not sent whole: with the key of its stream. -/
def State.sentOf (s : State) (i : Nat) : Option (Nat × Nat) :=
  s.fabric.sends.findSome? fun e => (e.2.packets.find? fun p => p.1 = i).map fun p => (e.1, p.2)

/-- A copy leaves the stream in which it waits to cross. -/
def State.leaveStream (s : State) (key i : Nat) : State :=
  match sparseFind? s.fabric.sends key with
  | some x => { s with fabric := { s.fabric with sends := sparsePut s.fabric.sends key { x with packets := x.packets.filter fun p => p.1 ≠ i } } }
  | none => s

/-- A copy of a lost packet (R257): one not yet begun is discarded; one that has begun, or for which a request is out, ends bad; one that has
left these cells is not touched. -/
def State.loseCellCopy (s : State) (i : Nat) (c : Copy) : State :=
  match c.stage with
  | .onDie | .staged | .writing =>
    ((s.leavePages c.die i).setQueue c.die c.queue ((s.queueOf c.die c.queue).filter (· ≠ i))).endCopy i c
  | .requested | .sending => s.spoilCopy i c
  | .crossing =>
    match s.sentOf i with
    | some (key, 0) => (s.leaveStream key i).giveUpCrossing i c
    | some _ => s.spoilCopy i c
    | none => s
  | .arrived => (s.restoreStanding c).endCopy i c
  | .egress => s.dropItem true i c.k
  | .queued => ((s.setTxQueue c.pc ((s.txQueue c.pc).filter (· ≠ i))).restoreStanding c).endCopy i c
  | .spilled | .reading => s

/-- A packet of the ingress side whose cells are lost (R257): it is dropped where it stands. -/
def State.loseCellPacket (s : State) (p : Nat) (k : Packet) : State :=
  if k.inPass ∧ k.mirror = none then (s.leaveLookups p k).dropItem false p k
  else match k.stage with
    | .looping => s.dropLoop p k
    | .renewed => (s.giveTo k.die k.head 1 k.pipe 0).dropPacket p k
    | .punting => s.dropPunt p k
    | .punted => s.leavePunt p k
    | _ => s.dropPacket p k

/-- A cell is lost (R257): the packet that holds it ends, and its cells are freed as far as the chain can be read; the sweep recovers the rest.
Whether it can be read beyond the cell is a free value: the report does not tell data from a link (DESIGN CHOICE, log 142). -/
def State.loseCell (s : State) (d c : Nat) : State :=
  match s.headOf d c with
  | none => s
  | some head =>
    let s1 := if s.freeBits 1 = 1 then s.useFree.cutChain d c else s.useFree
    let packets := s1.packets.filter fun (e : Nat × Packet) => e.2.die = d && e.2.head = head
    let copies := s1.tm.copies.filter fun (e : Nat × Copy) => e.2.die = d && e.2.k.head = head
    let s2 := copies.foldl (fun (a : State) e => match a.copy? e.1 with
      | some x => a.loseCellCopy e.1 x
      | none => a) s1
    (packets.foldl (fun (a : State) e => match a.packet? e.1 with
      | some x => a.loseCellPacket e.1 x
      | none => a) s2).bump Od.bpmCellEccLoss (dieInst d)

/-- FAULT_RECORD_OPEN (R401, R402, R405): with what the error does to the NVS (R341) and, when it is uncorrectable, to a cell's packet (R257). -/
def execFaultRecordOpen (e : FaultError) (s : State) : Answer :=
  withDie s e.die <|
    let t := (s.loseNvs e).recordFault e
    if e.source = 0x0D ∧ e.cls = 2 then t.loseCell e.die e.location else t

end Sys2Proof.Machine
end

