-- ==== Sys2Proof/Machine/Fences.lean ====
section
/-! DEFINITION. What a fence takes with its die: the packets in its cells and its spill region, its flow contexts, and what other dies hold for its
ports (R428; log 127). -/

namespace Sys2Proof.Machine

/-- A map without the keys that are gone. -/
def sparseDrop {α : Type} (m : Sparse α) (gone : Nat → Bool) : Sparse α := m.filter fun e => !gone e.1

/-- A copy that waits on another die for a port of the fenced die is discarded (R89, R428). -/
def State.discardFor (s : State) (i : Nat) (c : Copy) : State :=
  let s0 := if c.isFan then s else s.bump Od.portDownDiscards (portInst c.port)
  let s1 := (s0.leavePages c.die i).setQueue c.die c.queue ((s0.queueOf c.die c.queue).filter (· ≠ i))
  let s2 := match s1.sentOf i with
    | some (key, _) => s1.leaveStream key i
    | none => s1
  let s3 := if c.stage = .reading then s2.setReserved c.die 11 (s2.reserved c.die 11 - c.cells) else s2
  s3.endCopy i c

/-- A copy of the fenced die that is to reach another one is lost: the grant and the room that wait for it there are given back. -/
def State.loseBound (s : State) (i : Nat) (c : Copy) : State :=
  match c.stage with
  | .crossing => s.giveUpCrossing i c
  | _ => s

/-- The buffers of a die are lost. -/
def Buffers.lose (b : Buffers) (d : Nat) : Buffers :=
  { b with
    cells := sparseDrop b.cells fun k => k / 2 ^ 19 = d
    records := sparseDrop b.records fun k => k / 2 ^ 19 = d
    held := sparseDrop b.held fun k => k / 32 = d
    reserve := sparseDrop b.reserve fun k => k / 32 = d
    refill := b.refill.filter fun o => o / 8 ≠ d
    order := sparseErase b.order d
    waiting := sparseDrop b.waiting fun k => k / 8 = d
    tails := b.tails.filter fun e => e.2.port / 64 ≠ d
    xoff := sparseDrop b.xoff fun k => k / 512 = d
    pages := sparseDrop b.pages fun k => k / 2 ^ 24 = d
    channels := b.channels.filter fun c => c.1 ≠ d }

/-- What the traffic managers hold on a die, and requests of its streams, are lost. -/
def Traffic.lose (t : Traffic) (d : Nat) : Traffic :=
  let sources := fun (m : Sparse (List (Nat × Nat × Nat))) => (m.map fun e => (e.1, e.2.filter fun r => r.1 ≠ d)).filter fun e => e.2 ≠ []
  { t with
    copies := t.copies.filter fun e => e.2.die ≠ d
    queues := sparseDrop t.queues fun k => k / 8192 = d
    standing := sparseDrop t.standing fun k => k / 512 = d || k % 512 / 64 = d
    requests := sources (sparseDrop t.requests fun k => k / 512 = d)
    fanRequests := sources (sparseDrop t.fanRequests fun k => k = d)
    inFlight := sparseDrop t.inFlight fun k => k / 512 = d
    txq := sparseDrop t.txq fun k => k / 512 = d
    sending := sparseDrop t.sending fun k => k / 64 = d
    punts := sparseErase t.punts d
    loops := sparseDrop t.loops fun k => k / 2 = d
    spillDeficit := sparseDrop t.spillDeficit fun k => k / 16 = d
    returning := sparseErase t.returning d
    full := t.full.filter (· ≠ d) }

/-- The engines of a die and its flow contexts are lost. -/
def Engines.lose (e : Engines) (d : Nat) : Engines :=
  { e with
    threads := sparseDrop e.threads fun k => k / 2048 = d
    order := sparseDrop e.order fun k => k / 32 = d
    restarted := sparseDrop e.restarted fun k => k / 32 = d
    contexts := sparseDrop e.contexts fun k => k / 65536 = d
    holders := sparseDrop e.holders fun k => k / 65536 = d
    waiters := sparseDrop e.waiters fun k => k / 65536 = d }

/-- The streams from and to a die are lost. -/
def Fabric.lose (f : Fabric) (d : Nat) : Fabric :=
  let other := fun (k : Nat) => k / 65536 = d || k / 8192 % 8 = d
  { f with sends := sparseDrop f.sends other, recvs := sparseDrop f.recvs other }

/-- A fenced die's packets are lost, with its flow contexts, and so are those of other dies that were bound for its ports (R428). -/
def State.loseDie (s : State) (d : Nat) : State :=
  let s1 := s.tm.copies.foldl (fun (a : State) (e : Nat × Copy) =>
    match e.2.stage with
    | .arrived | .egress | .queued | .sending => a
    | _ => if e.2.die ≠ d ∧ e.2.dest = d then a.discardFor e.1 e.2 else if e.2.die = d ∧ e.2.dest ≠ d then a.loseBound e.1 e.2 else a) s
  { s1 with
    packets := s1.packets.filter fun (e : Nat × Packet) => e.2.die ≠ d
    tm := s1.tm.lose d
    bufs := s1.bufs.lose d
    ae := s1.ae.lose d
    fabric := s1.fabric.lose d
    asa := { s1.asa with queues := sparseDrop s1.asa.queues (fun o => o / 8 = d), stalled := sparseDrop s1.asa.stalled (fun o => o / 8 = d) }
    placing := { s1.placing with queues := sparseDrop s1.placing.queues (fun o => o / 8 = d), stalled := sparseDrop s1.placing.stalled (fun o => o / 8 = d) }
    sched := { s1.sched with flight := sparseDrop s1.sched.flight fun k => k / 4 = d }
    recov := { s1.recov with lost := d :: s1.recov.lost } }

/-- What fences take with their dies is carried out. -/
def State.performFences (s : State) : State := (s.recov.fenced.filter fun d => !s.recov.lost.contains d).foldl (fun a d => a.loseDie d) s

end Sys2Proof.Machine
end

