-- ==== Sys2Proof/Machine/Reads.lean ====
section
/-! DEFINITION. Which object an address names (R8 to R11, R330, R351, R353), and the values that reads return (R329, R334, and the object tables of
the chapters). A register that only shows something the state holds elsewhere is computed here. -/

namespace Sys2Proof.Machine

/-! Objects. -/

/-- Whether the part has the unit that an instance names (R8, R9), and the session may name it (R353). -/
def State.instPresent (s : State) (x : Session) (o : Obj) (inst : Nat) : Bool :=
  match InstKind.ofInst inst with
  | .package => true
  | .die => s.hasDie (inst - 0x0100) && (o.inst ≠ .hostDie || s.isHostDie (inst - 0x0100))
  | .lanePort => s.hasDie ((inst - 0x1000) / 64) && (o.inst ≠ .octet || inst % 8 = 0)
  | .logicalPort => true
  | .wq => match x with
    | .pcie _ _ => true
    | _ => false
  | .cq => match x with
    | .pcie _ _ => true
    | _ => false
  | .pipeline => s.hasDie ((inst - 0x3000) / 16)
  | .none => false

/-- Members of a family of objects that do not exist (R176, R383, R403). -/
def State.memberAbsent (s : State) (a : Address) : Bool :=
  (decide (0x4000 ≤ a.index) && decide (a.index < 0x400F) && a.sub = 9 && a.index ≠ 0x4005)
    || (decide (0xA200 ≤ a.index) && decide (a.index < 0xA300) && !s.sourceExists (a.inst - 0x0100) ((a.index - 0xA200) * 16 + (a.sub - 1)))
    || (decide (0x7010 ≤ a.index) && decide (a.index < 0x7014) && decide (0x1A < (a.index - 0x7010) * 16 + (a.sub - 1)))

/-- The object that an address names for a session (check 7 of R337). -/
def State.object? (s : State) (x : Session) (a : Address) : Option Obj :=
  if 65536 ≤ a.inst ∨ 65536 ≤ a.index ∨ 256 ≤ a.sub then none
  else
    match objectAt (instClassOf a) a.index a.sub with
    | none => none
    | some o => if s.instPresent x o a.inst ∧ s.memberAbsent a = false then some o else none

/-- The address as the model keeps it: a queue of the session's function carries the function above bit 15 (R353). -/
def State.scoped (s : State) (x : Session) (a : Address) : Address :=
  match x with
  | .pcie h f => if 0x2000 ≤ a.inst ∧ a.inst < 0x3000 then { a with inst := s.fnOf h f * 65536 + a.inst } else a
  | _ => a

/-- Access class of the object at an address: some members are read-only (R176, R237, R352). -/
def Obj.accessAt (o : Obj) (a : Address) : Access :=
  let k := a.index - 0x4000
  if 0x4000 ≤ a.index ∧ a.index < 0x400F ∧ a.sub = 1 ∧ (k = 0 ∨ k = 2 ∨ k = 4 ∨ k = 11 ∨ k = 14) then .ro
  else if a.index = 0x5413 ∧ a.sub = 1 then .ro
  else if (a.index = 0x1110 ∨ a.index = 0x1111) ∧ a.sub = 1 then .ro
  else o.access

/-! Computed values. -/

/-- Registers of a session: NAME_OF_HOLDER (0) and FAULT_SELECT (1). -/
def State.sessionReg (s : State) (x : Session) (k : Nat) : Nat := sparseGet (fun _ => 0) s.dict.sessionRegs (sessionKey x * 2 + k)
def State.setSessionReg (s : State) (x : Session) (k v : Nat) : State :=
  { s with dict := { s.dict with sessionRegs := sparseSet (fun _ => 0) s.dict.sessionRegs (sessionKey x * 2 + k) v } }

/-- Octets of a list of values below 256, the first most significant. -/
def packOctets (l : List Nat) : Nat := l.foldl (fun a b => a * 256 + b % 256) 0

/-- KEY_RIGHTS of a slot (R342). -/
def State.keyRights (s : State) (k : Nat) : Nat :=
  if k = 0 then 0x00404000 else if k = 1 then 0x0FFFFFFC else sparseGet (fun _ => 0) s.dict.live.rights k

/-- COUNTER_LAST of a slot (R339). -/
def State.counterLast (s : State) (k : Nat) : Nat := sparseGet (fun _ => 0) s.dict.live.counters k

/-- Identity and security, 0x1000 to 0x13FF (R352). -/
def State.readIdentity (s : State) (x : Session) (a : Address) : Option Nat :=
  let k := a.index - 0x1110
  if a.index = 0x1000 then
    if a.sub = 2 then some s.part.code
    else if a.sub = 3 then some (low 128 (Config.perPart (dictKey 0 0x1000 3)))
    else if a.sub = 4 then some (s.part.dies.foldl (fun m d => m + 2 ^ d) 0)
    else if a.sub = 5 then some (low 16 (Config.perPart (dictKey 0 0x1000 5)))
    else none
  else if a.index = 0x1010 then some (s.sessionReg x 0)
  else if a.index = 0x1011 then
    if a.sub = 1 then
      match x with
      | .kdp n _ => some n
      | _ => some 0
    else if a.sub = 2 then some (s.principal x / 65536 * 2 ^ 24 + s.principal x % 65536)
    else some s.dict.kdp.length
  else if a.index = 0x1100 then
    if a.sub = 1 then some s.dict.live.security
    else if a.sub = 6 then some (packOctets ((List.range 8).map s.slotState))
    else some s.dict.live.slot0Enable
  else if 0x1110 ≤ a.index ∧ a.index < 0x1118 then
    if a.sub = 1 then some (s.keyRights k)
    else if a.sub = 2 then some (s.counterLast k)
    else some (if s.slotState k = 0 then 0 else beNat ((sha256 (beBytes 32 (low 256 (s.slotKey k)))).take 8))
  else none

/-- Time, 0x1400 to 0x17FF (R64). -/
def State.readTime (s : State) (a : Address) : Option Nat :=
  if a.index = 0x1400 then some (if a.sub = 1 then time96 s.time.now else s.epoch32)
  else if a.index = 0x1408 ∧ a.sub = 1 then some s.sched.changes.length
  else none

/-- State of a shadow group of a search set (R152). -/
def State.asaState (s : State) (set : Nat) : Nat :=
  let f := 0x100 + set
  if (s.fam f).disagree ≠ [] then 4 else if s.swapPending f then 1 else if s.commitPending set then 2 else if s.famHeld f then 3 else 0

/-- Rows of the live group of a set, and those in use. -/
def State.asaRows (s : State) (set : Nat) : Nat := (s.setBanks set false).length * 4096
def State.asaEntries (s : State) (set : Nat) : Nat :=
  (s.asa.rows.filter fun e => (s.setBanks set false).contains (e.1 / 4096)).length

/-- Parser, search and table objects, 0x3000 to 0x4FFF (R122, R152, R176, R193). -/
def State.readTables (s : State) (a : Address) : Option Nat :=
  let i := a.index
  let b := a.sub
  match parserObj i b with
  | some (o, k) => some (s.rd o (bankInst (s.shadowOf 0x30)) k)
  | none =>
    if i = 0x3000 then if b = 2 then some (s.fam 0x30).live else if b = 3 then some (s.bankState 0x30) else none
    else if 0x3800 ≤ i ∧ i < 0x380C then
      let set := i - 0x3800
      if b = 7 then some (s.asaState set)
      else if b = 0x0B then some (s.asaEntries set)
      else if b = 0x0C then some (s.asaRows set - s.asaEntries set * s.setRows set)
      else none
    else if 0x4000 ≤ i ∧ i < 0x400F then
      let t := i - 0x4000 + 0x40
      let f := famOfTable t
      if b = 1 then some (s.tiles t (s.shadowOf f))
      else if b = 2 then some (s.tiles t (s.fam f).live)
      else if b = 3 then some (s.rd Od.tableShadowSeed (bankInst (s.shadowOf f)) (t - 0x40))
      else if b = 5 then some (s.bankState f)
      else if b = 8 then some (s.bankRecords t (s.fam f).live).length
      else none
    else if i = 0x4800 then
      if b = 2 then some (s.bankState 0x58)
      else if b = 5 then some (s.tiles 0x59 (s.shadowOf 0x58))
      else if b = 6 then some (s.tiles 0x59 (s.fam 0x58).live)
      else if b = 7 then some (s.ringPoints (s.fam 0x58).live)
      else none
    else if i = 0x4810 ∧ b = 4 then
      let p := a.inst - 0x3000
      (s.octetOf (p / 16) false (p % 16)).map fun o => s.rd Od.placeStallClocks a.inst + s.placeStall (p / 16 * 8 + o)
    else none

/-- Action-engine and rewrite objects, 0x5000 to 0x5FFF (R231, R254). -/
def State.readEngines (s : State) (a : Address) : Option Nat :=
  let i := a.index
  let b := a.sub
  if i = 0x5000 ∨ i = 0x5020 then
    let n := (i - 0x5000) / 0x20
    let f := 0x200 + n
    if b = 5 then some (s.rd Od.aeCodeLinkedVersion (bankInst (s.shadowOf f)) n)
    else if b = 6 then some (s.imageDigest n (s.shadowOf f))
    else if b = 7 then some (s.imageDigest n (s.fam f).live)
    else if b = 9 then some (s.bankState f)
    else none
  else if i = 0x5101 ∧ b = 1 then some (s.threadsUp (a.inst - 0x3000) false)
  else if i = 0x5181 ∧ b = 1 then some (s.threadsUp (a.inst - 0x3000) true)
  else if i = 0x5400 ∧ b = 2 then some (s.bankState 0x54)
  else if 0x5410 ≤ i ∧ i < 0x5414 then some (s.tiles (i - 0x5410 + 0x54) (if b = 1 then s.shadowOf 0x54 else (s.fam 0x54).live))
  else none

/-- Whether a changed limit has left the weight in force of some member outside it, so that the Keeper is to bring it within (R37). -/
def State.weightsClamping (s : State) : Bool :=
  let live := (s.fam 0x4B).live
  (s.bankRecords 0x4B live).any fun e => (List.range (bits e.2 44 35)).any fun i =>
    let m := s.tbl live 0x4C (bits e.2 63 45 + i)
    let w := s.memberWeight live e.1 i
    decide (w < bits m 37 30) || decide (bits m 29 22 < w)

/-- Cells of a port class in its queues over all dies: all of them, or those spilled and staged (R304). -/
def State.voqLoad (s : State) (pc : Nat) (spilled : Bool) : Nat :=
  (s.tm.copies.filter fun (e : Nat × Copy) =>
    !e.2.isFan && e.2.pc = pc && (e.2.isStaged || e.2.isSpilled || (!spilled && e.2.isOnDie))).foldl (fun a e => a + e.2.cells) 0

/-- Whether a host limit has left the value in force of some class outside it, so that the Keeper is to bring it within (R37). -/
def State.thresholdsClamping (s : State) : Bool :=
  (List.range 8).any fun t =>
    decide (s.rd Od.threshAlpha 0 t < s.rd Od.threshAlphaMin 0 t) || decide (s.rd Od.threshAlphaMax 0 t < s.rd Od.threshAlpha 0 t)

/-- Buffer and queue objects, 0x6000 to 0x6FFF (R274, R303, R304). -/
def State.readQueues (s : State) (a : Address) : Option Nat :=
  let i := a.index
  let b := a.sub
  let d := a.inst - 0x0100
  let n := a.inst - 0x1000
  if i = 0x6000 then some (if b = 1 then s.cellsFree d else s.cellsReserved d)
  else if 0x6010 ≤ i ∧ i < 0x6020 ∧ b = 4 then
    some (s.classCells d (i - 0x6010))
  else if 0x6100 ≤ i ∧ i < 0x6140 ∧ b = 0x0A then some (s.poolFree (i - 0x6100))
  else if i = 0x6180 ∧ b = 2 then some (s.spillPagesFree d)
  else if i = 0x6420 ∧ b = 1 then some (if s.rd Od.threshMode = 0 ∧ s.thresholdsClamping = true then 2 else s.rd Od.threshMode)
  else if i = 0x6490 ∧ b = 6 then some (s.txWindow n)
  else if 0x64A0 ≤ i ∧ i < 0x64A8 ∧ b = 5 then some (s.voqLoad (n * 8 + (i - 0x64A0)) false)
  else if 0x64A0 ≤ i ∧ i < 0x64A8 ∧ b = 6 then some (s.voqLoad (n * 8 + (i - 0x64A0)) true)
  else if i = 0x6A00 ∧ b = 1 then some (if s.rd Od.ecmpMode = 0 ∧ s.weightsClamping = true then 2 else s.rd Od.ecmpMode)
  else if i = 0x6800 ∧ b = 5 then some (if (s.gate n).swap.isSome ∧ (s.fam (gateFam n)).disagree = [] then 1 else s.bankState (gateFam n))
  else none

/-- Groups of a class on a die, as `spareState` numbers them; for SRAM macros those of which a spare has been used. -/
def State.spareGroups (s : State) (cls d : Nat) : List Nat :=
  if cls = 0 then List.range 8
  else if cls = 1 then (List.range 7).filter fun g => (groupPeer s.part d g).isSome
  else if cls = 4 then List.range 9 ++ (List.range 9).map (16 + ·)
  else if cls = 6 then 61440 :: ((s.recov.spares.filter fun e => e.1 / 2 ^ 32 = 6 * 8 + d).map fun e => e.1 / 65536 % 65536)
  else if cls = 7 then List.range 5
  else [0]

/-- Usable spares of the weakest group of a class on a die (R416, R435). -/
def State.weakest (s : State) (cls d : Nat) : Nat := ((s.spareGroups cls d).map fun g => s.usableSpares cls d g).foldl min 255

/-- Fabric and spare objects, and the wear record (R325, R435). -/
def State.readUnits (s : State) (a : Address) : Option Nat :=
  let i := a.index
  let d := a.inst - 0x0100
  if 0x2810 ≤ i ∧ i < 0x2817 then
    if a.sub = 1 then some (s.groupState d (i - 0x2810))
    else if a.sub = 2 then some ((groupPeer s.part d (i - 0x2810)).getD 0xFF)
    else none
  else if i = 0x7400 then some (if a.sub = 1 then packOctets ((List.range 12).map fun c => s.weakest c d) else s.sparesLow)
  else if i = 0x7480 ∧ a.sub = 1 then some (low 32 (s.recov.serviceNs / 3600000000000))
  else none

/-- Boot and firmware objects (R489). -/
def State.readBoot (s : State) (a : Address) : Option Nat :=
  let half := fun (k : Nat) => sparseGet (fun _ => 0) s.boot.slotVersion k * 2 ^ 32 + sparseGet (fun _ => 0) s.boot.slotSvn k
  if a.index = 0xB000 ∧ a.sub = 1 then some (low 32 (Config.perPart (dictKey 0 0xB000 1)))
  else if a.index = 0xB010 then if a.sub = 2 then some s.dechusDigest else if a.sub = 3 then some s.aeExports else none
  else if a.index = 0xB020 then
    if a.sub = 4 then some (s.fwSlot 0 * 256 + s.fwSlot 1)
    else if a.sub = 5 then some (half 0 * 2 ^ 64 + half 1)
    else if a.sub = 8 then some s.bootFlash.preferred
    else none
  else none

/-- A value that is computed from the state. -/
def State.computed? (s : State) (x : Session) (a : Address) : Option Nat :=
  let i := a.index
  if i < 0x1400 then s.readIdentity x a
  else if i < 0x1800 then s.readTime a
  else if 0x3000 ≤ i ∧ i < 0x5000 then s.readTables a
  else if 0x5000 ≤ i ∧ i < 0x6000 then s.readEngines a
  else if 0x6000 ≤ i ∧ i < 0x6800 ∨ i = 0x6800 ∨ i = 0x6A00 then s.readQueues a
  else if i = 0x7000 ∧ a.sub = 3 then some (s.sessionReg x 1)
  else if 0xA200 ≤ i ∧ i < 0xA300 then some (s.source ((a.inst - 0x0100) * 4096 + sourceOfAddr a)).word
  else if 0xB000 ≤ i ∧ i < 0xB400 then s.readBoot a
  else s.readUnits a

/-- What a read returns: status, value and state (R334). A read of EVC_CLAIM claims (R391); measurements of the rails are free values (DESIGN CHOICE, log 7). -/
def State.readValue (s : State) (x : Session) (o : Obj) (a : Address) : Status × Nat × State :=
  let i := a.index
  if 0x2000 ≤ i ∧ i < 0x2100 ∧ ¬ (i = 0x2001 ∧ a.sub = 1) ∧ s.portModeOf (a.inst - 0x1000) = 0 then (.state, 0, s)
  else if i = 0x7000 ∧ a.sub = 4 then
    match s.recov.log.find? fun r => decide (low 32 r.seq = s.sessionReg x 1) with
    | some r => (.ok, r.word, s)
    | none => (.noObject, 0, s)
  else if i = 0xA390 ∧ a.sub = 1 then
    match x with
    | .pcie h f =>
      match s.bestMasked (s.fnOf h f) with
      | some (key, e) => (.ok, eventCode (key / 4096) (key % 4096), s.activate key 2 (s.targetOf 2 e.target))
      | none => (.notClaimed, 0x0FFF, s)
    | _ => (.access, 0, s)
  else if 0x8100 ≤ i ∧ i < 0x8200 then
    match x with
    | .pcie h f =>
      if bitOf (s.rd Od.cwinFunctionEnable) (s.fnOf h f) then (.ok, sparseGet Od.defaultAt s.regs (dictKey (fnInst (s.fnOf h f) 0) i a.sub), s)
      else (.access, 0, s)
    | _ => (.access, 0, s)
  else if i = 0x9001 then (.ok, s.freeBits (8 * o.type.size), s.useFree)
  else
    match s.computed? x a with
    | some v => (.ok, v, s)
    | none => (.ok, sparseGet Od.defaultAt s.regs (addrKey (s.scoped x a)), s)

/-- Whether a value returned with an error status still travels with it: that of EVC_CLAIM does (R391). -/
def carriesValue (st : Status) : Bool := st = .ok || st = .notClaimed

end Sys2Proof.Machine
end

