-- ==== Sys2Proof/Machine/Dictionary.lean ====
section
/-! DEFINITION. The object dictionary: the order of checks, operations and their execution, critical writes with their queue and the NVS, and blocks
(R326 to R346, R370, R404, R434, R465). -/

namespace Sys2Proof.Machine

/-! Writes of the objects of this chapter and of the faults (R344, R352, R404, R434). -/

/-- The key that a KEY_SET carries, unwrapped under slot 1 (R343): slot and key. -/
def unwrapKey (k1 counter value : Nat) : Option (Nat × Nat) :=
  let slot := Sys2Proof.Machine.octetOf 48 0 value
  let kek := hmacSha256 (beBytes 32 k1) (beBytes 4 0x444B5731 ++ beBytes 8 counter)
  if slot = 0 ∨ 7 < slot ∨ bits value 375 320 ≠ 0 then none
  else (aesKeyUnwrap kek (beBytes 40 (low 320 value))).map fun k => (slot, beNat k)

/-- The key store in force. -/
def State.setLive (s : State) (b : NvsBody) : State := { s with dict := { s.dict with live := b } }

/-- Registers kept in the NVS (R341). -/
def nvRegister (key : Nat) : Bool :=
  let a := key % 16777216
  a = 0x140101 || a = 0x102001 || a = 0x102002 || a = 0x102101 || a = 0x102102

/-- What a commit makes of the copies: each that can be written holds the store in force (R340, R341). With one copy only, the FCU records it. -/
def State.commitNvs (s : State) : State :=
  let body := { s.dict.live with objects := s.regs.filter fun e => nvRegister e.1 }
  let gen := max s.dict.nvs0.generation s.dict.nvs1.generation + 1
  let put := fun (c : NvsCopy) => if c.writable then { c with valid := true, generation := gen, body := body } else c
  let s1 : State := { s with dict := { s.dict with live := body, nvs0 := put s.dict.nvs0, nvs1 := put s.dict.nvs1 } }
  if s.dict.nvs0.writable ∧ s.dict.nvs1.writable then s1
  else s1.fault (s.rd Od.leadDie) 0x15 1 (if s.dict.nvs0.writable then 1 else 0)

/-- Whether some copy of the NVS can be written. -/
def State.nvsWritable (s : State) : Bool := s.dict.nvs0.writable || s.dict.nvs1.writable

/-- SEAL (R344). -/
def State.sealEngine (s : State) : WriteRes :=
  if s.slotState 1 = 0 then WriteRes.refuse s .state
  else WriteRes.good (s.setLive { s.dict.live with security := 1 })

/-- Writes of 0x1000 to 0x13FF. -/
def State.writeIdentity (s : State) (c : WriteCtx) : WriteRes :=
  let i := c.addr.index
  let b := c.addr.sub
  let live := s.dict.live
  if i = 0x1011 then WriteRes.good s
  else if i = 0x1100 ∧ b = 2 then s.sealEngine
  else if i = 0x1100 ∧ b = 3 then
    WriteRes.good (s.setLive { live with keys := sparsePut live.keys 1 { key := c.value, state := 1 } })
  else if i = 0x1100 ∧ b = 4 then
    match unwrapKey (s.slotKey 1) c.counter c.value with
    | some _ => WriteRes.good s
    | none => WriteRes.refuse s .range
  else if i = 0x1100 ∧ b = 5 then
    if c.value < 2 ∨ 7 < c.value then WriteRes.refuse s .range
    else WriteRes.good (s.setLive { live with keys := sparseErase live.keys c.value })
  else if i = 0x1100 ∧ b = 7 then WriteRes.good (s.setLive { live with slot0Enable := c.value })
  else if 0x1110 ≤ i ∧ i < 0x1118 then
    WriteRes.good (s.setLive { live with rights := sparseSet (fun _ => 0) live.rights (i - 0x1110) c.value })
  else s.store c

/-- Sources whose units BLOCK_RESET resets (R403). -/
def resettable (source : Nat) : Bool := [0x00, 0x01, 0x02, 0x04, 0x05, 0x11, 0x14].contains source

/-- Whether a value of FAULT_REACTION is refused with RANGE (R404). -/
def badReaction (source v : Nat) : Bool :=
  let m := fun (c : Nat) => (v / 256 ^ c) % 256
  (List.range 4).any fun c =>
    decide (31 < m c) || (bitOf (m c) 1 && source ≠ 0x11) || (bitOf (m c) 3 && decide (c < 2)) || (bitOf (m c) 2 && !resettable source)

/-- Writes of the fault and spare objects, 0x7000 to 0x7FFF. -/
def State.writeFaults (s : State) (c : WriteCtx) : WriteRes :=
  let i := c.addr.index
  let b := c.addr.sub
  if i = 0x7000 ∧ b = 3 then WriteRes.good (s.setSessionReg c.session 1 c.value)
  else if 0x7010 ≤ i ∧ i < 0x7014 then
    let source := (i - 0x7010) * 16 + (b - 1)
    if source = 0x18 then WriteRes.refuse s .access
    else if badReaction source c.value then WriteRes.refuse s .range
    else s.store c
  else if i = 0x7040 ∧ b = 3 then s.releaseFaultN
  else if i = 0x7050 ∧ b = 2 then WriteRes.good s.recoveryCancel
  else if i = 0x7050 ∧ b = 3 then s.recoveryClear
  else if i = 0x7401 ∧ b = 1 then if c.value = 2 ∨ c.value = 3 then WriteRes.refuse s .range else s.claim c
  else s.store c

/-- A write of a COPY_LIVE object within a critical request, or the end of one: the live bank is copied (R122, R156, R192, R228, R254). -/
def State.writeCopy (s : State) (c : WriteCtx) (f : Nat) : WriteRes :=
  match s.checkCopy f with
  | .ok => WriteRes.good ((s.copyFamily f).touchFam f c.writer)
  | st => WriteRes.refuse s st

/-- Check 13 and the execution of a WRITE, by the chapter that owns the object (R330). -/
def State.writeObject (s : State) (c : WriteCtx) : WriteRes :=
  let i := c.addr.index
  match copyFamilyOf c.addr with
  | some f => s.writeCopy c f
  | none =>
    if i < 0x1400 then s.writeIdentity c
    else if i < 0x1800 then s.writeTime c
    else if 0x2000 ≤ i ∧ i < 0x2800 then s.writePorts c
    else if 0x3000 ≤ i ∧ i < 0x7000 then s.writeForwarding c
    else if 0x7000 ≤ i ∧ i < 0x8000 then s.writeFaults c
    else if 0x8000 ≤ i ∧ i < 0x9000 then s.writeCounters c
    else if 0x9000 ≤ i ∧ i < 0xA000 then s.writePower c
    else if 0xA000 ≤ i ∧ i < 0xA200 then s.writeRings c
    else if 0xA200 ≤ i ∧ i < 0xA400 then s.writeEvents c
    else if 0xB000 ≤ i ∧ i < 0xC000 then s.writeBoot c
    else s.store c

/-! Scheduled writes (R345, R48 to R52). -/

/-- Whether a session is of the engine itself. -/
def byKeeper : Session → Bool
  | .keeper _ => true
  | _ => false

/-- A host's ECMP swap cancels one that the Keeper has pending (R169). -/
def State.yieldEcmp (s : State) (a : Address) (keeper : Bool) : State :=
  if swapFamily a = some 0x4B ∧ keeper = false then
    s.cancelChanges (fun c => c.keeper && swapFamily { inst := c.inst, index := c.index, sub := c.sub } == some 0x4B) .ok
  else s

/-- Checks 11 and 13 of a WRITE_EPOCH that its object's chapter gives, for a resolved epoch. -/
def State.checkEpoch (s : State) (a : Address) (value epoch principal : Nat) : Status :=
  if s.changeRoom = false then .tableFull
  else
    match swapFamily a with
    | some f =>
      if 0x1000 ≤ f then s.checkGateSwap (f - 0x1000)
      else if 0x200 ≤ f then s.checkCodeSwap (f - 0x200) value
      else if 0x100 ≤ f then s.checkAsaSwap (f - 0x100)
      else s.checkSwap f
    | none =>
      if 0x3800 ≤ a.index ∧ a.index < 0x380C ∧ a.sub = 6 then s.checkAsaCommit (a.index - 0x3800)
      else if a.index = 0x2200 then s.checkChangeover a value epoch
      else if a.index = 0x7401 then s.checkMigrate a principal
      else s.checkForwarding a value

/-- A WRITE_EPOCH (R345): TOO_LATE, the statuses of the object, or DEFERRED with the resolved epoch and the change pending. The pending gates of a
rule set take the epoch of their commit (R137). -/
def State.writeEpoch (s0 : State) (c : WriteCtx) (epoch : Nat) : WriteRes × Nat :=
  let keeper := byKeeper c.session
  match s0.resolveEpoch epoch with
  | none => (WriteRes.refuse s0 .tooLate, 0)
  | some e =>
    let s := s0.yieldEcmp c.addr keeper
    match s.checkEpoch c.addr c.value e c.principal with
    | .ok =>
      let s1 := s.addChange e c.addr c.value keeper c.writer
      let commit := decide (0x3800 ≤ c.addr.index) && decide (c.addr.index < 0x380C) && c.addr.sub = 6
      ({ status := .deferred, state := if commit then s1.gateEpoch (c.addr.index - 0x3800) 0 (some e) else s1, record := 0 }, low 32 e)
    | .resourceBusy => (WriteRes.busy s0 (Od.sparePipelineClaim.key c.addr.inst 0), 0)
    | st => (WriteRes.refuse s0 st, 0)

/-! The order of checks (R337). -/

/-- Whether a slot holds the right to an index (R342). -/
def State.hasRight (s : State) (slot index : Nat) : Bool := decide (slot < 8) && bitOf (s.keyRights slot) (index / 0x800)

/-- Objects whose critical writes only slot 1 makes (R342). -/
def slot1Only (a : Address) : Bool :=
  (a.index = 0x1100 && (a.sub = 2 || a.sub = 4 || a.sub = 5 || a.sub = 7)) || (decide (0x1110 ≤ a.index) && decide (a.index < 0x1118))

/-- Whether the package serves requests as in Smoulder (R465). -/
def State.smoulder (s : State) : Bool := s.rd Od.powerState = 2 || (s.rd Od.powerState = 5 && s.power.entryStep = 0)

/-- Indices whose objects are served in Smoulder (R465). -/
def smoulderIndex (i : Nat) : Bool :=
  (decide (0x1000 ≤ i) && decide (i < 0x1800)) || (decide (0x7000 ≤ i) && decide (i < 0x7800)) || (decide (0x9000 ≤ i) && decide (i < 0x9400))
    || (decide (0xB000 ≤ i) && decide (i < 0xB400))

/-- Whether an operation is served in Smoulder (R465). -/
def smoulderServes (critical : Bool) (o : DictOp) : Bool :=
  let i := o.addr.index
  (o.op = 1 && smoulderIndex i) || (o.op = 2 && ((i = 0x9000 && o.addr.sub = 3) || (i = 0x1011 && o.addr.sub = 3) || (critical && smoulderIndex i)))

/-- Objects that SMBus reads (R350). -/
def smbusReads (ob : Obj) (i : Nat) : Bool :=
  decide (ob.type.size ≤ 64) &&
    ((decide (0x1000 ≤ i) && decide (i ≤ 0x1100)) || (decide (0x1400 ≤ i) && decide (i < 0x1410)) || (decide (0x7000 ≤ i) && decide (i < 0x7800))
      || (decide (0x9000 ≤ i) && decide (i < 0x9400)) || (decide (0xB000 ≤ i) && decide (i < 0xB400)))

/-- Checks 8 and 9 for SMBus and JTAG (R344, R350): KEY_PROVISION in PROVISION, SEAL, and over SMBus SESSION_RESET and reads. -/
def State.checkBoard (s : State) (smbus : Bool) (ob : Obj) (o : DictOp) : Status :=
  let a := o.addr
  if o.op = 1 then (if smbus ∧ smbusReads ob a.index ∧ ob.access ≠ .wo then .ok else .access)
  else if o.op ≠ 2 then .access
  else if a.index = 0x1100 ∧ a.sub = 3 then (if s.dict.live.security = 0 then .ok else .access)
  else if a.index = 0x1100 ∧ a.sub = 2 then .ok
  else if smbus ∧ a.index = 0x1011 ∧ a.sub = 3 then .ok
  else .access

/-- Checks 8 and 9: access class, transport, and the right of a critical object (R329, R342, R344). -/
def State.checkAccess (s : State) (j : Job) (ob : Obj) (o : DictOp) : Status :=
  let acc := ob.accessAt o.addr
  let denied := ob.critical && !byKeeper j.session &&
    (!j.critical || !s.hasRight j.slot o.addr.index || (slot1Only o.addr && decide (j.slot ≠ 1)))
  if j.session = .smbus then s.checkBoard true ob o
  else if j.session = .jtag then s.checkBoard false ob o
  else if o.op = 1 then (if acc = .wo then .access else .ok)
  else if o.op = 4 then (if acc = .rwe then .ok else .access)
  else if o.op = 3 then (if acc ≠ .rwe ∨ denied = true then .access else .ok)
  else if acc = .ro ∨ acc = .rwe ∨ denied = true ∨ (o.addr.index = 0x1100 ∧ o.addr.sub = 3) then .access
  else .ok

/-- Checks 8 to 11, and STATE in Smoulder (R465). -/
def State.checkOp (s : State) (j : Job) (ob : Obj) (o : DictOp) : Status :=
  match s.checkAccess j ob o with
  | .ok =>
    if (o.op = 2 ∨ o.op = 3) ∧ o.len ≠ ob.type.size then .badType
    else if (o.op = 2 ∨ o.op = 3) ∧ (256 ^ ob.type.size ≤ o.value ∨ ob.type.allows o.value = false ∨ ob.permit.allows ob.type o.value = false) then .range
    else if s.smoulder = true ∧ smoulderServes j.critical o = false ∧ j.session ≠ .smbus then .state
    else .ok
  | st => st

/-- What a write is given. -/
def State.ctxOf (s : State) (j : Job) (o : DictOp) : WriteCtx :=
  { session := match j.session with
      | .pcie h f => .pcie (s.fnOf h f / 4) (s.fnOf h f % 4)
      | x => x
    principal := s.principal j.session, addr := s.scoped j.session o.addr, value := o.value,
    slot := if j.slot < 8 then some j.slot else none, counter := j.counter }

/-- The result of a write. A RESOURCE_BUSY carries the holder record, of which the session keeps a copy (R346). -/
def WriteRes.result (r : WriteRes) (x : Session) (type epoch : Nat) : OpResult × State :=
  if r.status = .resourceBusy then
    ({ status := .resourceBusy, type := type, len := 16, value := r.record, epoch := 0 }, r.state.setSessionReg x 0 r.record)
  else ({ status := r.status, type := type, len := 0, value := 0, epoch := epoch }, r.state)

/-- One operation: checks 7 to 13, and its execution (R334, R337). -/
def State.doOp (s : State) (j : Job) (o : DictOp) : OpResult × State :=
  match s.object? j.session o.addr with
  | none => (OpResult.bare .noObject 0, s)
  | some ob =>
    let type := ob.type.code
    match s.checkOp j ob o with
    | .ok =>
      if o.op = 1 then
        let r := s.readValue j.session ob o.addr
        if carriesValue r.1 then ({ status := r.1, type := type, len := ob.type.size, value := r.2.1, epoch := 0 }, r.2.2)
        else (OpResult.bare r.1 type, r.2.2)
      else if o.op = 4 then
        match s.newestPending o.addr with
        | some c => ({ status := .ok, type := type, len := ob.type.size, value := c.value, epoch := low 32 c.epoch }, s)
        | none => (OpResult.bare .state type, s)
      else if o.op = 3 then
        let r := s.writeEpoch (s.ctxOf j o) o.epoch
        r.1.result j.session type r.2
      else (s.writeObject (s.ctxOf j o)).result j.session type 0
    | st => (OpResult.bare st type, s)

/-! Blocks that are not critical (R334, R336). -/

/-- The family that an operation is to copy, once its checks have passed. -/
def State.copying? (s : State) (j : Job) (o : DictOp) : Option Nat :=
  match s.object? j.session o.addr, copyFamilyOf o.addr with
  | some ob, some f => if o.op = 2 ∧ s.checkOp j ob o = .ok ∧ s.checkCopy f = .ok then some f else none
  | _, _ => none

/-- The operations of a block run one at a time; a copy of a live bank holds the block until it is done, and a SESSION_RESET ends it. -/
def State.runJob : Nat → State → Job → State
  | 0, s, j => s.finishJob j .ok
  | n + 1, s, j =>
    match j.ops with
    | [] => s.finishJob j .ok
    | o :: rest =>
      match s.copying? j o with
      | some f => ({ s with copies := s.copies ++ [{ fam := f, job := j }] } : State).later (s.copyTime f) (.copyLiveDone f)
      | none =>
        let r := s.doOp j o
        let j1 : Job := { j with ops := rest, done := j.done ++ [(o, r.1)] }
        if o.op = 2 ∧ o.addr.index = 0x1011 ∧ o.addr.sub = 3 ∧ r.1.status = .ok then (r.2.finishJob j1.abort .ok).resetSession (s.ctxOf j o).session
        else State.runJob n r.2 j1

/-- COPY_LIVE_DONE (R122, R156, R192, R228, R254): the copy is made, and the block that waits for it goes on. -/
def execCopyLiveDone (f : Nat) (s : State) : Answer :=
  running s <|
    match s.copies.find? fun c => c.fam = f with
    | none => s
    | some c =>
      let s1 : State := { s with copies := s.copies.erase c }
      match c.job.ops with
      | [] => s1
      | o :: rest =>
        let r := s1.doOp c.job o
        let j : Job := { c.job with ops := rest, done := c.job.done ++ [(o, r.1)] }
        State.runJob 33 r.2 j

/-! Critical requests (R338 to R341). -/

/-- Check 5 for a critical request (R339): none where the counter is fresh; else the frame status with the stored result, if any. -/
def State.judgeCounter (s : State) (j : Job) : Option (Status × Option OpResult) :=
  let last := s.counterLast j.slot
  if last < j.counter then none
  else
    match sparseFind? s.dict.live.stored j.slot with
    | some x => if j.counter = last ∧ j.ops = [x.op] then some (.ok, some x.result) else some (.staleCounter, none)
    | none => some (.staleCounter, none)

/-- The answer to a request that check 5 does not pass. -/
def State.answerCounter (s : State) (j : Job) (r : Status × Option OpResult) : State :=
  match r.2 with
  | some x => (s.bump Od.repeatsAnswered).finishJob { j with ops := [], done := j.ops.map fun o => (o, x) } .ok
  | none => (s.bump Od.staleCounters).finishJob j .staleCounter

/-- Check 6 but for the room in the queue (R337, R341, R487). -/
def State.criticalOpen (s : State) : Bool := s.nvsWritable && !s.recov.takeover && s.boot.activating.isNone

/-- The request at the front of the queue, if it has not been accepted, is judged: answered, or accepted with its outcome final (R339, R340). -/
def State.serveCritical : Nat → State → State
  | 0, s => s
  | n + 1, s =>
    match s.dict.critQueue with
    | [] => s
    | c :: rest =>
      if c.result.isSome then s
      else
        let pop : State := { s with dict := { s.dict with critQueue := rest } }
        match s.judgeCounter c.job with
        | some r => State.serveCritical n (pop.answerCounter c.job r)
        | none =>
          if s.criticalOpen = false then State.serveCritical n ((pop.bump Od.critRetries).finishJob c.job .retry)
          else
            let r := (s.bump Od.critWrites).doOp c.job (c.job.ops.headD { op := 1, addr := { inst := 0, index := 0, sub := 0 }, len := 0, value := 0, epoch := 0 })
            ({ r.2 with dict := { r.2.dict with critQueue := { c with result := some r.1 } :: rest } }).later 1900000 .nvsCommit

/-- A critical request that has passed checks 1 to 4 (R340): check 5, the room in the queue, and its place there. -/
def State.addCritical (s : State) (j : Job) : State :=
  match s.judgeCounter j with
  | some r => s.answerCounter j r
  | none =>
    if 8 ≤ s.dict.critQueue.length ∨ s.criticalOpen = false then (s.bump Od.critRetries).finishJob j .retry
    else State.serveCritical 9 { s with dict := { s.dict with critQueue := s.dict.critQueue ++ [{ job := j, result := none, mute := false }] } }

/-- What follows the response to a critical write: a session's reset (R336), an engine reset (R474). -/
def State.afterCritical (s : State) (j : Job) (o : DictOp) : State :=
  if o.op = 2 ∧ o.addr.index = 0x1011 ∧ o.addr.sub = 3 then s.resetSession (s.ctxOf j o).session
  else if o.op = 2 ∧ o.addr.index = 0xB001 ∧ o.addr.sub = 3 then
    ({ s with boot := { s.boot with resetDue := true } }).later 10000000 .engineResetDelayEnd
  else s

/-- NVS_COMMIT (R340): the counter, the stored response and what the write made non-volatile are kept, a new key takes effect (R343), the response is
sent, and the next request is judged. -/
def execNvsCommit (s : State) : Answer :=
  running s <|
    match s.dict.critQueue with
    | [] => s
    | c :: rest =>
      match c.result, c.job.ops with
      | some r, [o] =>
        let j := c.job
        let live := s.dict.live
        let key := if o.op = 2 ∧ o.addr.index = 0x1100 ∧ o.addr.sub = 4 ∧ r.status = .ok then unwrapKey j.key j.counter o.value else none
        let body : NvsBody :=
          { live with
            counters := sparseSet (fun _ => 0) live.counters j.slot j.counter
            stored := sparsePut live.stored j.slot { op := o, result := r }
            keys := match key with
              | some k => sparsePut live.keys k.1 { key := k.2, state := 1 }
              | none => live.keys }
        let s1 := ({ s with dict := { s.dict with critQueue := rest } }.setLive body).commitNvs
        let s2 := if c.mute then s1 else s1.finishJob { j with ops := [], done := [(o, r)] } .ok
        State.serveCritical 9 (if r.status = .ok then s2.afterCritical j o else s2)
      | _, _ => s

/-! Requests (R331, R333, R337). -/

/-- The time at which an AUTH failure was last announced: at most once in a second (R352). -/
def State.authFailed (s : State) : State :=
  let s1 := s.bump Od.authFails
  if s.dict.authSecond = some s.seconds then s1
  else ({ s1 with dict := { s1.dict with authSecond := some s.seconds } }).fireLead 0x156

/-- Check 4 (R333, R342): the slot is SET and the check is right; no slot only on PCIe and without CRITICAL. -/
def State.authentic (s : State) (pcie critical : Bool) (slot : Nat) (message check : List Byte) : Bool :=
  if slot = 0xFF then pcie && !critical
  else decide (slot < 8) && s.slotState slot = 1 && check = (hmacSha256 (beBytes 32 (low 256 (s.slotKey slot))) message).take 16

/-- Slot of a job whose response can carry a check. -/
def State.answerSlot (s : State) (slot : Nat) : Nat := if slot < 8 ∧ s.slotState slot = 1 then slot else 255

/-- A KDP session has heard a request: it stays open for KDP_SESSION_IDLE from now (R349). -/
def State.hear (s : State) (n : Nat) : State :=
  match sparseFind? s.dict.kdp n with
  | some k =>
    ({ s with dict := { s.dict with kdp := sparsePut s.dict.kdp n { k with heard := s.up } } }).later (s.rd Od.kdpSessionIdle * 1000000000)
      (.kdpSessionIdleExpire n)
  | none => s

/-- Check 5 for a request that is not critical, and its run (R338). On KDP the counter is judged; a repeat of the last request receives the last
response again. -/
def State.runRequest (s : State) (j : Job) : State :=
  match j.session with
  | .kdp n _ =>
    match sparseFind? s.dict.kdp n with
    | none => s.finishJob j .state
    | some k =>
      if k.counter < j.counter then
        State.runJob 33 { s with dict := { s.dict with kdp := sparsePut s.dict.kdp n { k with counter := j.counter } } } j
      else if k.counter = j.counter ∧ k.lastOps = j.ops then s.sendReply { j with ops := [], done := j.ops.zip k.lastResults } .ok
      else s.finishJob j .staleCounter
  | _ => State.runJob 33 s j

/-- Checks 3 to 13 of a block that check 2 has passed: the message that its check covers, and the check. -/
def State.request (s : State) (j : Job) (message check : List Byte) : State :=
  let pcie := match j.session with
    | .pcie _ _ => true
    | _ => false
  let gone := match j.session with
    | .kdp n nonce => !((sparseFind? s.dict.kdp n).any fun (k : KdpSession) => k.nonce = nonce)
    | _ => false
  let j1 : Job := { j with slot := s.answerSlot j.slot, key := if j.slot < 8 then low 256 (s.slotKey j.slot) else 0 }
  let s1 := match j.session with
    | .kdp n _ => if gone then s else s.hear n
    | _ => s
  if gone then s.finishJob j1 .state
  else if s.authentic pcie j.critical j.slot message check = false then s1.authFailed.finishJob j1 .auth
  else if j.critical then s1.addCritical j1
  else s1.runRequest j1

end Sys2Proof.Machine
end

