-- ==== Sys2Proof/Machine/Transports.lean ====
section
/-! DEFINITION. The transports of the dictionary: blocks on the mailbox, KDP and the admin work queue, SCHEDULE descriptors, SMBus and JTAG provisioning
(R328, R331, R332, R337, R347 to R350, R363, R368, R370, R500, R512). -/

namespace Sys2Proof.Machine

/-! Blocks. -/

/-- Octets of a value as it travels (R328). -/
def valueOctets (be : Bool) (a : Address) (len v : Nat) : List Byte :=
  if ((definedAt a).all fun o => o.type.bytewise) = true then beBytes len v else wireNum be len v

/-- A value as its octets give it. -/
def valueOf (be : Bool) (a : Address) (l : List Byte) : Nat :=
  if ((definedAt a).all fun o => o.type.bytewise) = true then beNat l else wireNat be l

/-- An operation record of a request (R332). -/
def requestRecord (be : Bool) (o : DictOp) : List Byte :=
  leBytes 1 o.op ++ leBytes 1 0 ++ wireNum be 2 o.len ++ wireNum be 2 o.addr.inst ++ wireNum be 2 o.addr.index ++ leBytes 1 o.addr.sub ++ leBytes 3 0
    ++ wireNum be 4 o.epoch ++ valueOctets be o.addr o.len o.value ++ padTo8 o.len

/-- A block header (R331). -/
def blockHeader (be : Bool) (kind flags slot count frame session nonce tag length counter : Nat) : List Byte :=
  wireNum be 2 0x4B44 ++ leBytes 1 1 ++ leBytes 1 kind ++ leBytes 1 flags ++ leBytes 1 slot ++ leBytes 1 count ++ leBytes 1 frame ++ wireNum be 4 session
    ++ wireNum be 4 nonce ++ wireNum be 4 tag ++ wireNum be 2 length ++ leBytes 2 0 ++ wireNum be 8 counter

/-- The operations of a block: `n` records that fill the octets, with every field that is to be 0 at 0 (check 2 of R337). -/
def parseOps (be : Bool) : Nat → List Byte → Option (List DictOp)
  | 0, l => if l = [] then some [] else none
  | n + 1, l =>
    let op := (byteAt l 0).toNat
    let len := wireNat be (slice l 2 2)
    let epoch := wireNat be (slice l 12 4)
    let a : Address := { inst := wireNat be (slice l 4 2), index := wireNat be (slice l 6 2), sub := (byteAt l 8).toNat }
    let pad := (8 - len % 8) % 8
    if l.length < 16 + len + pad ∨ op = 0 ∨ 4 < op ∨ byteAt l 1 ≠ 0 ∨ beNat (slice l 9 3) ≠ 0 ∨ (op ≠ 3 ∧ epoch ≠ 0) ∨ ((op = 1 ∨ op = 4) ∧ len ≠ 0)
        ∨ beNat (slice l (16 + len) pad) ≠ 0 then none
    else
      (parseOps be n (l.drop (16 + len + pad))).map fun rest =>
        ({ op := op, addr := a, len := len, value := valueOf be a (slice l 16 len), epoch := epoch } : DictOp) :: rest

/-- A block with its header fields. -/
structure Block where
  be : Bool
  bytes : List Byte

/-- Fields of the header (R331). -/
def Block.kind (b : Block) : Nat := (byteAt b.bytes 3).toNat
def Block.slot (b : Block) : Nat := (byteAt b.bytes 5).toNat
def Block.count (b : Block) : Nat := (byteAt b.bytes 6).toNat
def Block.critical (b : Block) : Bool := (byteAt b.bytes 4).msb
def Block.session (b : Block) : Nat := wireNat b.be (slice b.bytes 8 4)
def Block.nonce (b : Block) : Nat := wireNat b.be (slice b.bytes 12 4)
def Block.tag (b : Block) : Nat := wireNat b.be (slice b.bytes 16 4)
def Block.length (b : Block) : Nat := wireNat b.be (slice b.bytes 20 2)
def Block.counter (b : Block) : Nat := wireNat b.be (slice b.bytes 24 8)
def Block.head (b : Block) : List Byte := slice b.bytes 0 32

/-- Check 1 (R337), but for KIND. -/
def Block.known (b : Block) : Bool := decide (32 ≤ b.bytes.length) && wireNat b.be (slice b.bytes 0 2) = 0x4B44 && byteAt b.bytes 2 = 1

/-- Octets that the header says a block has. -/
def Block.size (b : Block) : Nat := 32 + b.length + if b.slot = 0xFF then 0 else 16

/-- What the keyed check covers, and the check (R333). -/
def Block.message (b : Block) : List Byte := b.bytes.take (32 + b.length)
def Block.check (b : Block) : List Byte := (b.bytes.drop (32 + b.length)).take 16

/-- Check 2 for the header: the fields that are to be 0, the lengths, and one operation when CRITICAL. `exact_` when nothing may follow the block. -/
def Block.shaped (b : Block) (pcie exact_ : Bool) : Bool :=
  (byteAt b.bytes 4).toNat % 128 = 0 && byteAt b.bytes 7 = 0 && beNat (slice b.bytes 22 2) = 0 && (!pcie || (b.session = 0 && b.nonce = 0))
    && decide (b.length ≤ 1400) && decide (b.size ≤ b.bytes.length) && (!exact_ || b.size = b.bytes.length) && (!b.critical || b.count = 1)
    && decide (b.count ≤ 32)

/-- Check 2 (R337): the operations of a well-formed request. -/
def Block.ops? (b : Block) (pcie exact_ : Bool) : Option (List DictOp) :=
  if b.shaped pcie exact_ ∧ 1 ≤ b.count then parseOps b.be b.count (slice b.bytes 32 b.length) else none

/-- The session that stands for a function: that of its pair, when paired (R425). -/
def State.sessionOf (s : State) : Session → Session
  | .pcie h f => .pcie (s.fnOf h f / 4) (s.fnOf h f % 4)
  | x => x

/-- A job for a block. -/
def Block.job (b : Block) (x : Session) (reply : Reply) (ops : List DictOp) : Job :=
  { session := x, slot := b.slot, key := 0, counter := b.counter, tag := b.tag, critical := b.critical, reply := reply, ops := ops, done := [] }

/-- A block that fails check 2 is answered MALFORMED, with a check where its slot is SET (R337). -/
def State.malformed (s : State) (j : Job) : State :=
  s.finishJob { j with slot := s.answerSlot j.slot, key := if j.slot < 8 then low 256 (s.slotKey j.slot) else 0 } .malformed

/-- A request block from check 2 on. -/
def State.serveBlock (s : State) (b : Block) (pcie exact_ : Bool) (x : Session) (reply : Reply) : State :=
  match b.ops? pcie exact_ with
  | none => s.malformed (b.job x reply [])
  | some ops => s.request (b.job x reply ops) b.message b.check

/-- The header that answers a block which fails check 1 on PCIe (R512). -/
def refusedHeader (bytes : List Byte) : List Byte := blockHeader false 2 0 0 0 Status.malformed.code 0 0 (leNat (slice bytes 16 4)) 0 0

/-! The mailbox (R347). -/

/-- MBX_DOORBELL: the block in MBX_BUFFER is submitted by a 1; ignored while BUSY. -/
def execMbxDoorbell (h f v : Nat) (block : List Byte) (s : State) : Answer :=
  if 2 ≤ h ∨ 4 ≤ f then .fault .absentUnit
  else
    running s <|
      let fn := s.fnOf h f
      let b : Block := { be := false, bytes := slice block 0 4096 }
      if s.hostUp = false ∨ s.dict.mbxReady = false ∨ v ≠ 1 ∨ (s.mailbox fn).busy = true then s
      else
        let s1 := s.setMailbox fn { buffer := b.bytes, busy := true, done := false }
        if b.known = false ∨ b.kind ≠ 1 then
          (s1.setMailbox fn { buffer := refusedHeader b.bytes, busy := false, done := true }).emit (.octets (s.hostDie h) 0 (refusedHeader b.bytes))
        else s1.serveBlock b true false (s.sessionOf (.pcie h f)) (.mailbox fn b.head)

/-! KDP (R337, R338, R348, R349). -/

/-- The answer to an OPEN. -/
def openAck (b : Block) (frame : Status) (session nonce : Nat) (key : Option Nat) : List Byte :=
  let m := blockHeader true 4 0 b.slot 0 frame.code session nonce b.tag 0 b.counter
  match key with
  | some k => m ++ (hmacSha256 (beBytes 32 k) m).take 16
  | none => m

/-- OPEN (R349): a session for a slot, with a free nonce (DESIGN CHOICE, log 7). -/
def State.openKdp (s : State) (d : Nat) (b : Block) : State :=
  let key := if s.answerSlot b.slot < 8 then some (low 256 (s.slotKey b.slot)) else none
  let answer := fun (t : State) (st : Status) (n nonce : Nat) => t.emit (.octets d 1 (openAck b st n nonce key))
  if b.shaped false true = false ∨ b.count ≠ 0 ∨ b.length ≠ 0 ∨ b.critical = true then answer s .malformed 0 0
  else if s.authentic false false b.slot b.message b.check = false then answer s.authFailed .auth 0 0
  else
    match (List.range 32).find? fun n => (sparseFind? s.dict.kdp (n + 1)).isNone with
    | none => answer s .tableFull 0 0
    | some n =>
      let nonce := s.freeBits 32
      let k : KdpSession := { slot := b.slot, nonce := nonce, counter := 0, lastOps := [], lastResults := [], die := d, heard := s.up }
      let s1 : State := { s.useFree with dict := { s.dict with kdp := sparsePut s.dict.kdp (n + 1) k } }
      answer (s1.later (s1.rd Od.kdpSessionIdle * 1000000000) (.kdpSessionIdleExpire (n + 1))) .ok (n + 1) nonce

/-- CLOSE (R349). -/
def State.closeBlock (s : State) (d : Nat) (b : Block) : State :=
  let j := b.job (.kdp b.session b.nonce) (.kdp d b.head) []
  let j1 : Job := { j with slot := s.answerSlot j.slot, key := if j.slot < 8 then low 256 (s.slotKey j.slot) else 0 }
  if b.shaped false true = false ∨ b.count ≠ 0 ∨ b.length ≠ 0 ∨ b.critical = true then s.malformed j
  else if ((sparseFind? s.dict.kdp b.session).any fun (k : KdpSession) => k.nonce = b.nonce) = false then s.finishJob j1 .state
  else if s.authentic false false b.slot b.message b.check = false then s.authFailed.finishJob j1 .auth
  else (s.finishJob j1 .ok).closeKdp b.session

/-- Whether KDP reaches the Keeper on die `d`: by its management port, or in band (R348, R352); in Smoulder by the lead die's port (R465). -/
def State.hearsKdp (s : State) (d : Nat) : Bool :=
  s.hostUp && ((s.isHostDie d && decide (s.rd Od.mgmtIpv4 (dieInst d) ≠ 0) && (!s.smoulder || d = s.rd Od.leadDie))
    || (s.rd Od.kdpInbandEnable = 1 && !s.smoulder))

/-- A datagram on KDP. One that fails check 1 is discarded and counted. -/
def State.kdpDatagram (s : State) (d : Nat) (block : List Byte) : State :=
  let b : Block := { be := true, bytes := block }
  if s.hearsKdp d = false then s
  else if b.known = false then s.bump Od.kdpDiscards
  else if b.kind = 1 then s.serveBlock b false true (.kdp b.session b.nonce) (.kdp d b.head)
  else if b.kind = 3 then s.openKdp d b
  else if b.kind = 5 then s.closeBlock d b
  else s.bump Od.kdpDiscards

def execKdpRequest (d : Nat) (block : List Byte) (s : State) : Answer := withDie s d (s.kdpDatagram d block)
def execOpenSession (d : Nat) (block : List Byte) (s : State) : Answer := withDie s d (s.kdpDatagram d block)
def execCloseSession (d : Nat) (block : List Byte) (s : State) : Answer := withDie s d (s.kdpDatagram d block)

/-! The admin work queue (R363, R368, R512). -/

/-- The holder objects (R346). -/
def holderObject (a : Address) : Bool :=
  (a.index = 0x1406 && a.sub = 1) || (a.index = 0x5420 && a.sub = 1) || (a.index = 0x7401 && a.sub = 1)
    || (decide (0xA300 ≤ a.index) && decide (a.index < 0xA310) && a.sub = 1)

/-- The most octets with which an operation may be answered (R368). -/
def mostOctets (o : DictOp) : Nat :=
  let size := if o.op = 1 ∨ o.op = 4 then ((definedAt o.addr).map fun x => x.type.size).getD 0 else if holderObject o.addr then 16 else 0
  16 + (size + 7) / 8 * 8

/-- The largest response that a block can produce (R368). -/
def Block.mostAnswer (b : Block) : Nat := 48 + (((b.ops? true true).getD []).map mostOctets).foldl (· + ·) 0

/-- Whether a DICT descriptor with its block is well formed (R363, R368). -/
def dictOk (body : Nat) (b : Block) : Bool :=
  let max_ := bits body 159 144
  let length := bits body 143 128
  bits body 383 160 = 0 && decide (48 ≤ max_) && decide (max_ ≤ 4096) && decide (48 ≤ length) && decide (length ≤ 4096) && bits body 127 64 % 8 = 0
    && bits body 63 0 % 8 = 0 && b.known && b.kind = 1 && b.size = length && decide (b.mostAnswer ≤ max_)

/-- DICT: `block` is what host memory holds at REQ_ADDR. -/
def execDictDescriptor (h f w : Nat) (desc : Option Nat) (block : List Byte) (s : State) : Answer :=
  withQueue s h f w <|
    let fn := s.fnOf h f
    s.descStep fn w 0x01 desc fun s1 t =>
      let body := dBody t.word
      let b : Block := { be := false, bytes := slice block 0 (bits body 143 128) }
      if dLast t.word = false ∨ dictOk body b = false then s1.endOp fn w t.at_ (dBatch t.word) (dUser t.word) .malformed 0
      else
        let x := s1.holdOp fn w t.at_ (dBatch t.word) (dUser t.word)
        x.1.serveBlock b true true (s.sessionOf (.pcie h f)) (.queue fn w x.2 (bits body 127 64) b.head)

/-- Whether a SCHEDULE body is well formed (R363, R370). -/
def scheduleOk (body : Nat) : Bool :=
  let len := bits body 55 48
  let slot := bits body 47 40
  bits body 39 0 = 0 && decide (1 ≤ len) && decide (len ≤ 8) && bits body 191 128 / 256 ^ len = 0 && (decide (slot < 8) || slot = 0xFF)
    && (slot ≠ 0xFF || (bits body 383 192 = 0))

/-- The operation of a SCHEDULE (R370): a WRITE_EPOCH of an RWE object, a WRITE of any other. -/
def scheduleOp (body : Nat) : DictOp :=
  let a : Address := { inst := bits body 71 56, index := bits body 87 72, sub := bits body 95 88 }
  let len := bits body 55 48
  let rwe := (definedAt a).any fun o => o.access = .rwe
  { op := if rwe then 3 else 2, addr := a, len := len, value := valueOf false a (leBytes len (bits body 191 128)),
    epoch := if rwe then bits body 127 96 else 0 }

/-- SCHEDULE (R370): checks 4 to 13. -/
def execScheduleDescriptor (h f w : Nat) (desc : Option Nat) (s : State) : Answer :=
  withQueue s h f w <|
    let fn := s.fnOf h f
    s.descStep fn w 0x13 desc fun s1 t =>
      let body := dBody t.word
      if dLast t.word = false ∨ scheduleOk body = false then s1.endOp fn w t.at_ (dBatch t.word) (dUser t.word) .malformed 0
      else
        let x := s1.holdOp fn w t.at_ (dBatch t.word) (dUser t.word)
        let bytes := leBytes 64 t.word
        let slot := bits body 47 40
        let j : Job :=
          { session := s.sessionOf (.pcie h f), slot := slot, key := 0, counter := bits body 255 192, tag := 0, critical := slot ≠ 0xFF,
            reply := .schedule fn w x.2, ops := [scheduleOp body], done := [] }
        x.1.request j ((overlay bytes 1 [0]).take 48) (bytes.drop 48)

/-! SMBus (R350, R465, R482). -/

/-- What SMBus reads before HOST_READY and after a failed boot, and in Banked. -/
def kindlingReads (a : Address) : Bool :=
  a.inst = 0 && ((a.index = 0x1000 && decide (1 ≤ a.sub) && decide (a.sub ≤ 5)) || (decide (0xB000 ≤ a.index) && decide (a.index < 0xB100)))
def bankedReads (a : Address) : Bool :=
  a.inst = 0 && ((a.index = 0x1000 && decide (1 ≤ a.sub) && decide (a.sub ≤ 5)) || (a.index = 0x1100 && a.sub = 1) || (a.index = 0x9000 && a.sub = 1))

/-- An operation of SMBus or JTAG (R344, R350, R500); what it changes in the key store is committed at once. -/
def State.boardOp (s : State) (x : Session) (o : DictOp) : OpResult × State :=
  let j : Job := { session := x, slot := 255, key := 0, counter := 0, tag := 0, critical := false, reply := .row, ops := [], done := [] }
  let kindling := s.rd Od.bootStage < 2 || s.rd Od.bootStage = 4
  if s.banked then
    if o.op = 1 ∧ x = .smbus then (if bankedReads o.addr then s.doOp j o else (OpResult.bare .retry 0, s)) else (OpResult.bare .access 0, s)
  else if kindling then (if o.op = 1 ∧ kindlingReads o.addr then s.doOp j o else (OpResult.bare .retry 0, s))
  else
    let r := s.doOp j o
    if o.op ≠ 2 ∨ r.1.status ≠ .ok then r
    else if o.addr.index = 0x1100 then (r.1, r.2.commitNvs)
    else if o.addr.index = 0x1011 then (r.1, r.2.resetSession x)
    else r

/-- SELECT. -/
def execSmbusSelect (a : Address) (s : State) : Answer := running s { s with dict := { s.dict with smbusSelected := some a } }

/-- READ: status, type and value of the selected object. -/
def execSmbusRead (s : State) : Answer :=
  running s <|
    match s.dict.smbusSelected with
    | none => s.emit (.octets 0 3 (leBytes 1 Status.noObject.code ++ leBytes 1 0))
    | some a =>
      let r := s.boardOp .smbus { op := 1, addr := a, len := 0, value := 0, epoch := 0 }
      r.2.emit (.octets 0 3 (leBytes 1 r.1.status.code ++ leBytes 1 r.1.type ++ wireValue false r.1))

/-- WRITE: its outcome is in LAST_STATUS. -/
def execSmbusWrite (data : List Byte) (s : State) : Answer :=
  running s <|
    let r := match s.dict.smbusSelected with
      | none => (OpResult.bare .noObject 0, s)
      | some a => s.boardOp .smbus { op := 2, addr := a, len := data.length, value := valueOf false a data, epoch := 0 }
    { r.2 with dict := { r.2.dict with smbusLast := r.1.status } }

/-- LAST_STATUS. -/
def execSmbusLastStatus (s : State) : Answer := running s (s.emit (.octets 0 3 (leBytes 1 s.dict.smbusLast.code)))

/-! JTAG provisioning (R500). -/

/-- PROVISION: the last command's status is shifted out, and the command runs at Update-DR. -/
def State.provision (s : State) (bad : Bool) (o : DictOp) : State :=
  let s1 := (s.selectIr 0x0C01).emit (.tdo 272 (s.jtag.provisionStatus * 2 ^ 264))
  let r :=
    if bad then (Status.range, s1)
    else if s1.stopped = true ∨ s1.hostUp = false then (Status.retry, s1)
    else
      let x := s1.boardOp .jtag o
      (x.1.status, x.2)
  { r.2 with jtag := { r.2.jtag with provisionStatus := r.1.code } }

/-- JTAG_PROVISION_KEY: command 0x01. -/
def execJtagProvisionKey (rsvd key : Nat) (s : State) : Answer :=
  .next (s.provision (decide (rsvd ≠ 0))
    { op := 2, addr := { inst := 0, index := 0x1100, sub := 3 }, len := 32, value := low 256 key, epoch := 0 })

/-- JTAG_PROVISION_SEAL: command 0x02. -/
def execJtagProvisionSeal (rsvd key : Nat) (s : State) : Answer :=
  .next (s.provision (decide (rsvd ≠ 0) || decide (key ≠ 0))
    { op := 2, addr := { inst := 0, index := 0x1100, sub := 2 }, len := 1, value := 1, epoch := 0 })

end Sys2Proof.Machine
end

