-- ==== Sys2Proof/Machine/Rows.lean ====
section
/-! DEFINITION. The rows of the table that are dictionary requests (R329 to R346): the request of one operation that a session sends, and the rows of
single objects. -/

namespace Sys2Proof.Machine

/-- The header fields of a row's request (R331): session and nonce are 0 on PCIe. -/
def rowHeader (be : Bool) (r : Req) (records : Nat) : List Byte :=
  let x := match r.session with
    | .kdp n nonce => (n, nonce)
    | _ => (0, 0)
  blockHeader be 1 (if r.critical then 0x80 else 0) (r.keySlot.getD 0xFF) 1 0 x.1 x.2 r.tag records r.counter

/-- The job of a row's request. -/
def rowJob (s : State) (r : Req) (o : DictOp) : Job :=
  { session := s.sessionOf r.session, slot := r.keySlot.getD 0xFF, key := 0, counter := r.counter, tag := r.tag, critical := r.critical, reply := .row,
    ops := [o], done := [] }

/-- A row's request on PCIe or KDP: checks 2 to 13 over the block that carries its operation (R337). -/
def State.rowBlock (s : State) (be : Bool) (r : Req) (o : DictOp) : State :=
  let records := requestRecord be o
  if 1400 < records.length then s.malformed (rowJob s r o)
  else s.request (rowJob s r o) (rowHeader be r records.length ++ records) (beBytes 16 r.check)

/-- A row's request on SMBus or JTAG (R350, R500). -/
def State.rowBoard (s : State) (x : Session) (r : Req) (o : DictOp) : State :=
  let p := s.boardOp x o
  p.2.emit (.response x r.tag p.1.status p.1.type p.1.epoch p.1.len p.1.value)

/-- A dictionary request of one operation. A feature of the engine makes no check of 3 to 6 (R335). -/
def State.row (s : State) (r : Req) (o : DictOp) : Answer :=
  match r.session with
  | .pcie h f => if 2 ≤ h ∨ 4 ≤ f then .fault .absentUnit else running s (if s.hostUp then s.rowBlock false r o else s)
  | .kdp _ _ => running s (if s.hostUp then s.rowBlock true r o else s)
  | .smbus => running s (s.rowBoard .smbus r o)
  | .jtag => running s (if s.hostUp then s.rowBoard .jtag r o else s.emit (.response .jtag r.tag .retry 0 0 0 0))
  | .keeper f => running s (State.runJob 33 s { rowJob s { r with session := .keeper f } o with slot := 255 })

/-! Operations. -/

/-- Address of member `k` of an object on an instance. -/
def Obj.at_ (o : Obj) (inst k : Nat) : Address := { inst := inst, index := o.index + o.stride * (k / o.subs), sub := o.sub + k % o.subs }

/-- A READ. -/
def readOp (a : Address) : DictOp := { op := 1, addr := a, len := 0, value := 0, epoch := 0 }

/-- A WRITE of the object's size. -/
def writeOp (a : Address) (v : Nat) : DictOp := { op := 2, addr := a, len := ((definedAt a).map fun o => o.type.size).getD 0, value := v, epoch := 0 }

/-- A WRITE_EPOCH of the object's size. -/
def epochOp (a : Address) (v epoch : Nat) : DictOp := { writeOp a v with op := 3, epoch := epoch }

/-! The operations on any object (R329, R334, R345). -/

/-- READ (R334). -/
def execReadObj (r : Req) (o : Address) (s : State) : Answer := s.row r (readOp o)

/-- WRITE (R329). -/
def execWriteObj (r : Req) (o : Address) (len v : Nat) (s : State) : Answer := s.row r { op := 2, addr := o, len := len, value := v, epoch := 0 }

/-- WRITE_EPOCH (R345). -/
def execWriteEpoch (r : Req) (o : Address) (len v epoch : Nat) (s : State) : Answer :=
  s.row r { op := 3, addr := o, len := len, value := v, epoch := epoch }

/-- READ_PENDING (R334). -/
def execReadPending (r : Req) (o : Address) (s : State) : Answer := s.row r { op := 4, addr := o, len := 0, value := 0, epoch := 0 }

/-! The rows of single objects. -/

/-- ENGINE_RESET (R474). -/
def execEngineReset (r : Req) (v : Nat) (s : State) : Answer := s.row r (writeOp (Obj.at_ Od.engineReset 0 0) v)

/-- TOD_SET (R42). -/
def execTodSet (r : Req) (v : Nat) (s : State) : Answer := s.row r (writeOp (Obj.at_ Od.todSet 0 0) v)

/-- TIME_SOURCE (R43). -/
def execTimeSource (r : Req) (v : Nat) (s : State) : Answer := s.row r (writeOp (Obj.at_ Od.timeSource 0 0) v)

/-- TIME_STEP_ACCEPT (R45). -/
def execTimeStepAccept (r : Req) (v : Nat) (s : State) : Answer := s.row r (writeOp (Obj.at_ Od.timeStepAccept 0 0) v)

/-- SCHED_CANCEL (R52). -/
def execSchedCancel (r : Req) (v : Nat) (s : State) : Answer := s.row r (writeOp (Obj.at_ Od.schedCancel 0 0) v)

/-- PPS_OUT_FUNCTION (R63). -/
def execPpsOutFunction (r : Req) (v : Nat) (s : State) : Answer := s.row r (writeOp (Obj.at_ Od.ppsOutFunction 0 0) v)

/-- OCTET_RATE_GROUP (R65). -/
def execOctetRateGroup (r : Req) (n v : Nat) (s : State) : Answer := s.row r (writeOp (Obj.at_ Od.octetRateGroup (0x1000 + n) 0) v)

/-- PORT_MODE (R66). -/
def execPortMode (r : Req) (n v : Nat) (s : State) : Answer := s.row r (writeOp (Obj.at_ Od.portMode (0x1000 + n) 0) v)

/-- PORT_ENABLE (R91). -/
def execPortEnable (r : Req) (n v : Nat) (s : State) : Answer := s.row r (writeOp (Obj.at_ Od.portEnable (0x1000 + n) 0) v)

/-- LINK_RETRAIN_AUTO (R87). -/
def execLinkRetrainAuto (r : Req) (n v : Nat) (s : State) : Answer := s.row r (writeOp (Obj.at_ Od.linkRetrainAuto (0x1000 + n) 0) v)

/-- SPARE_CHANGEOVER (R86). -/
def execSpareChangeover (r : Req) (n v epoch : Nat) (s : State) : Answer := s.row r (epochOp (Obj.at_ Od.spareChangeover (0x1000 + n) 0) v epoch)

/-- SPARE_RELEASE (R86). -/
def execSpareRelease (r : Req) (n v epoch : Nat) (s : State) : Answer := s.row r (epochOp (Obj.at_ Od.spareRelease (0x1000 + n) 0) v epoch)

/-- LOOPBACK_CLAIM (R246). -/
def execLoopbackClaim (r : Req) (v : Nat) (s : State) : Answer := s.row r (writeOp (Obj.at_ Od.loopbackClaim 0 0) v)

/-- POOL_ENABLE (R267). -/
def execPoolEnable (r : Req) (pool v : Nat) (s : State) : Answer := s.row r (writeOp (Obj.at_ Od.poolEnable 0 pool) v)

/-- GCL_SWAP (R297). -/
def execGclSwap (r : Req) (n v epoch : Nat) (s : State) : Answer := s.row r (epochOp (Obj.at_ Od.gclSwap (0x1000 + n) 0) v epoch)

/-- WQ_ENABLE (R377). -/
def execWqEnable (r : Req) (w v : Nat) (s : State) : Answer := s.row r (writeOp (Obj.at_ Od.wqEnable (0x2000 + w) 0) v)

/-- CQ_ENABLE (R378). -/
def execCqEnable (r : Req) (c v : Nat) (s : State) : Answer := s.row r (writeOp (Obj.at_ Od.cqEnable (0x2400 + c) 0) v)

/-- SESSION_RESET (R336). -/
def execSessionReset (r : Req) (v : Nat) (s : State) : Answer := s.row r (writeOp (Obj.at_ Od.sessionReset 0 0) v)

/-- KEY_SET (R343). -/
def execKeySet (r : Req) (v : Nat) (s : State) : Answer := s.row r (writeOp (Obj.at_ Od.keySet 0 0) v)

/-- KEY_CLEAR (R342). -/
def execKeyClear (r : Req) (v : Nat) (s : State) : Answer := s.row r (writeOp (Obj.at_ Od.keyClear 0 0) v)

/-- KEY_PROVISION (R344). -/
def execKeyProvision (r : Req) (v : Nat) (s : State) : Answer := s.row r (writeOp (Obj.at_ Od.keyProvision 0 0) v)

/-- SEAL (R344). -/
def execSealWrite (r : Req) (v : Nat) (s : State) : Answer := s.row r (writeOp (Obj.at_ Od.sealObj 0 0) v)

/-- TABLE_SWAP (R155). -/
def execTableSwap (r : Req) (k v epoch : Nat) (s : State) : Answer := s.row r (epochOp (Obj.at_ Od.tableSwap 0 k) v epoch)

/-- TABLE_COPY_LIVE (R156). -/
def execTableCopyLive (r : Req) (k v : Nat) (s : State) : Answer := s.row r (writeOp (Obj.at_ Od.tableCopyLive 0 k) v)

/-- TABLE_SHADOW_SEED (R157). -/
def execTableShadowSeed (r : Req) (k v : Nat) (s : State) : Answer := s.row r (writeOp (Obj.at_ Od.tableShadowSeed 0 k) v)

/-- TABLE_SHADOW_TILES (R157). -/
def execTableShadowTiles (r : Req) (k v : Nat) (s : State) : Answer := s.row r (writeOp (Obj.at_ Od.tableShadowTiles 0 k) v)

/-- ECMP_SWAP (R155). -/
def execEcmpSwap (r : Req) (v epoch : Nat) (s : State) : Answer := s.row r (epochOp (Obj.at_ Od.ecmpSwap 0 0) v epoch)

/-- PARSER_SWAP (R99). -/
def execParserSwap (r : Req) (v epoch : Nat) (s : State) : Answer := s.row r (epochOp (Obj.at_ Od.parserSwap 0 0) v epoch)

/-- PARSER_COPY_LIVE (R122). -/
def execParserCopyLive (r : Req) (v : Nat) (s : State) : Answer := s.row r (writeOp (Obj.at_ Od.parserCopyLive 0 0) v)

/-- ASA_SET_SWAP (R136). -/
def execAsaSetSwap (r : Req) (set v epoch : Nat) (s : State) : Answer := s.row r (epochOp (Obj.at_ Od.asaSetSwap 0 set) v epoch)

/-- ASA_SET_COMMIT (R137). -/
def execAsaSetCommit (r : Req) (set v epoch : Nat) (s : State) : Answer := s.row r (epochOp (Obj.at_ Od.asaSetCommit 0 set) v epoch)

/-- PLACE_SWAP (R191). -/
def execPlaceSwap (r : Req) (v epoch : Nat) (s : State) : Answer := s.row r (epochOp (Obj.at_ Od.placeSwap 0 0) v epoch)

/-- PLACE_COPY_LIVE (R192). -/
def execPlaceCopyLive (r : Req) (v : Nat) (s : State) : Answer := s.row r (writeOp (Obj.at_ Od.placeCopyLive 0 0) v)

/-- REWRITE_SWAP (R237). -/
def execRewriteSwap (r : Req) (v epoch : Nat) (s : State) : Answer := s.row r (epochOp (Obj.at_ Od.rewriteSwap 0 0) v epoch)

/-- REWRITE_COPY_LIVE (R254). -/
def execRewriteCopyLive (r : Req) (v : Nat) (s : State) : Answer := s.row r (writeOp (Obj.at_ Od.rewriteCopyLive 0 0) v)

/-- AE_CODE_CLEAR (R225). -/
def execAeCodeClear (r : Req) (i v : Nat) (s : State) : Answer := s.row r (writeOp (Obj.at_ Od.aeCodeClear 0 i) v)

/-- AE_CODE_BLOCK (R226). -/
def execAeCodeBlock (r : Req) (i v : Nat) (s : State) : Answer := s.row r (writeOp (Obj.at_ Od.aeCodeBlock 0 i) v)

/-- AE_DISPATCH_ENTRY (R225). -/
def execAeDispatchEntry (r : Req) (i v : Nat) (s : State) : Answer := s.row r (writeOp (Obj.at_ Od.aeDispatchEntry 0 i) v)

/-- AE_CODE_SWAP (R228). -/
def execAeCodeSwap (r : Req) (i v epoch : Nat) (s : State) : Answer := s.row r (epochOp (Obj.at_ Od.aeCodeSwap 0 i) v epoch)

/-- AE_CODE_COPY_LIVE (R228). -/
def execAeCodeCopyLive (r : Req) (i v : Nat) (s : State) : Answer := s.row r (writeOp (Obj.at_ Od.aeCodeCopyLive 0 i) v)

/-- EVC_CLAIM, by a READ (R391). -/
def execEvcClaim (r : Req) (s : State) : Answer := s.row r (readOp (Obj.at_ Od.evcClaim 0 0))

/-- EVC_EOI (R391). -/
def execEvcEoi (r : Req) (v : Nat) (s : State) : Answer := s.row r (writeOp (Obj.at_ Od.evcEoi 0 0) v)

/-- EVC_SOURCE (R393). -/
def execEvcSource (r : Req) (d source v : Nat) (s : State) : Answer := s.row r (writeOp (Obj.at_ Od.evcSource (dieInst d) source) v)

/-- TIMER_CLAIM (R398). -/
def execTimerClaim (r : Req) (d t v : Nat) (s : State) : Answer := s.row r (writeOp (Obj.at_ Od.timerClaim (dieInst d) t) v)

/-- TIMER_ARM (R398). -/
def execTimerArm (r : Req) (d t v : Nat) (s : State) : Answer := s.row r (writeOp (Obj.at_ Od.timerArm (dieInst d) t) v)

/-- FAULT_N_RELEASE (R409): after a junction trip it returns STATE, whatever else is stopped (R460). -/
def execFaultNRelease (r : Req) (v : Nat) (s : State) : Answer :=
  if s.recov.trip then .next (s.emit (.response (s.sessionOf r.session) r.tag .state 0 0 0 0))
  else s.row r (writeOp (Obj.at_ Od.faultNRelease 0 0) v)

/-- SPARE_PIPELINE_CLAIM (R418). -/
def execSparePipelineClaim (r : Req) (d v : Nat) (s : State) : Answer := s.row r (writeOp (Obj.at_ Od.sparePipelineClaim (dieInst d) 0) v)

/-- PIPELINE_MIGRATE (R419). -/
def execPipelineMigrate (r : Req) (d octet epoch : Nat) (s : State) : Answer := s.row r (epochOp (Obj.at_ Od.pipelineMigrate (dieInst d) 0) octet epoch)

/-- RECOVERY_CANCEL (R434). -/
def execRecoveryCancel (r : Req) (v : Nat) (s : State) : Answer := s.row r (writeOp (Obj.at_ Od.recoveryCancel 0 0) v)

/-- RECOVERY_CLEAR_SHADOWS (R434). -/
def execRecoveryClearShadows (r : Req) (v : Nat) (s : State) : Answer := s.row r (writeOp (Obj.at_ Od.recoveryClearShadows 0 0) v)

/-- THROTTLE_STEP_LIMIT (R459). -/
def execThrottleStepLimit (r : Req) (v : Nat) (s : State) : Answer := s.row r (writeOp (Obj.at_ Od.throttleStepLimit 0 0) v)

/-- THROTTLE_STEP_SET (R459). -/
def execThrottleStepSet (r : Req) (d v : Nat) (s : State) : Answer := s.row r (writeOp (Obj.at_ Od.throttleStepSet (dieInst d) 0) v)

/-- POWER_REQUEST (R463). -/
def execPowerRequest (r : Req) (v : Nat) (s : State) : Answer := s.row r (writeOp (Obj.at_ Od.powerRequest 0 0) v)

/-- POWER_WAKE (R466). -/
def execPowerWake (r : Req) (v : Nat) (s : State) : Answer := s.row r (writeOp (Obj.at_ Od.powerWake 0 0) v)

/-- FW_FLASH_BLOCK (R485). -/
def execFwFlashBlock (r : Req) (v : Nat) (s : State) : Answer := s.row r (writeOp (Obj.at_ Od.fwFlashBlock 0 0) v)

/-- FW_VERIFY (R486). -/
def execFwVerify (r : Req) (v : Nat) (s : State) : Answer := s.row r (writeOp (Obj.at_ Od.fwVerify 0 0) v)

/-- FW_ACTIVATE_NEXT_RESET: FW_ACTIVATE with mode 1 (R487). -/
def execFwActivateNextReset (r : Req) (slot : Nat) (s : State) : Answer := s.row r (writeOp (Obj.at_ Od.fwActivate 0 0) (slot * 256 + 1))

/-- FW_ACTIVATE_KEEPER_NOW: FW_ACTIVATE with mode 2 (R487). -/
def execFwActivateKeeperNow (r : Req) (slot : Nat) (s : State) : Answer := s.row r (writeOp (Obj.at_ Od.fwActivate 0 0) (slot * 256 + 2))

/-- FW_SVN_COMMIT (R488). -/
def execFwSvnCommit (r : Req) (v : Nat) (s : State) : Answer := s.row r (writeOp (Obj.at_ Od.fwSvnCommit 0 0) v)

end Sys2Proof.Machine
end

