-- ==== Sys2Proof/Machine/Boundary.lean ====
section
/-! DEFINITION. The epoch boundary: the changes of its epoch, the advance of G, swaps and their holds, the release of held banks with the replay of
their logs, and what else waits for a boundary (R26, R46, R51 to R58, R61, R136 to R139, R155, R156, R171, R219, R252, R253, R297, R299). -/

namespace Sys2Proof.Machine

/-! Sides. -/

/-- Address of the object that scheduled a change. -/
def Change.addr (c : Change) : Address := { inst := c.inst, index := c.index, sub := c.sub }

/-- Whether a family's side is decided by the ingress stamp (R53, R136, R155, R191, R228, R237). -/
def ingressFamily (f : Nat) : Bool :=
  f = 0x30 || (decide (0x40 ≤ f) && decide (f ≤ 0x4E) && f ≠ 0x4B) || f = 0x58 || (decide (0x100 ≤ f) && decide (f < 0x108)) || f = 0x200

/-- Whether a register's side is decided by the ingress stamp: the parser profile, what lookups name and do, punts of parity, and the
miss action (R122, R152, R176, R193, R231). -/
def ingressRegister (i : Nat) : Bool :=
  i = 0x3002 || (decide (0x3800 ≤ i) && decide (i < 0x3808)) || (decide (0x3820 ≤ i) && decide (i < 0x3830)) || i = 0x3840
    || (decide (0x4000 ≤ i) && decide (i < 0x400F) && !(decide (0x400B ≤ i) && decide (i ≤ 0x400D))) || i = 0x4801 || i = 0x5041

/-- Whether a change is ingress-affecting (R55): its side is decided by the ingress stamp, planned changeovers and migrations among them. -/
def Change.ingress (c : Change) : Bool :=
  match swapFamily c.addr with
  | some f => ingressFamily f
  | none => ingressRegister c.index || c.index = 0x2200 || c.index = 0x7401

/-- Whether a swap does not take effect, since its shadow has been marked DISAGREE (R26). -/
def State.vetoed (s : State) (c : Change) : Bool :=
  match swapFamily c.addr with
  | some f => decide ((s.fam f).disagree ≠ [])
  | none => false

/-! Changes. -/

/-- The groups of a rule set exchange their banks (R136). -/
def State.exchangeGroups (s : State) (set : Nat) : State :=
  (s.wr Od.asaSetBanks (s.rd Od.asaSetShadowBanks 0 set) 0 set).wr Od.asaSetShadowBanks (s.rd Od.asaSetBanks 0 set) 0 set

/-- A swap at the boundary of epoch `e`: the shadow is live, the old bank is held, and the swap carries the log (R54, R57, R156). -/
def State.swapBanks (s : State) (f e : Nat) (c : Change) : State :=
  let x := s.fam f
  let s1 := s.setFam f { x with log := [], spoiled := false, carried := x.log, carriedSpoiled := x.spoiled, lastWriter := some c.writer }
  let s2 := s1.flipBank f c.addr e c.ingress
  let s3 := if 0x100 ≤ f ∧ f < 0x10C then (s2.exchangeGroups (f - 0x100)).newRcGen (f - 0x100) e else s2
  s3.swapDone f c.addr (decide (c.epoch < e)) c.epoch x.lastSeq

/-- A commit at its boundary (R137 to R139, R146): the gates of its epoch are held as an old bank is, under 0x300 + set. -/
def State.commitSet (s : State) (set e : Nat) (c : Change) : State :=
  let h : Hold :=
    { fam := 0x300 + set, bank := 0, epoch := e, inst := c.inst, index := c.index, sub := c.sub,
      gens := (if c.ingress then [0, 1, 2, 3].filter (· ≠ s.sched.gen) else []).flatMap fun g => s.part.dies.map fun d => d * 4 + g
      lastSeq := 0xFFFFFFFF }
  (({ s with sched := { s.sched with holds := s.sched.holds ++ [h] } }).newRcGen set e).touchFam (0x100 + set) c.writer

/-- A new value of a register (R345); THRESHOLD_CHANGE tells of one that the Keeper has chosen (R37, R288). -/
def State.changeValue (s : State) (c : Change) : State :=
  let s1 := (s.settleShapers c.addr).changeReg (addrKey c.addr) c.value c.ingress
  if c.keeper = true ∧ 0x6400 ≤ c.index ∧ c.index < 0x6408 ∧ c.sub = 2 then s1.fireLead 0x14D else s1

/-- One change at the boundary of epoch `e`, with its report (R51, R58). A gate list waits for its cycle start (R297). -/
def State.applyChange (s : State) (e : Nat) (c : Change) : State :=
  let a := c.addr
  let report := fun (t : State) (held : Nat) =>
    t.schedReport (schedEntry 3 0 (b2n (decide (c.epoch < e))) held t.sched.gen a.inst a.index a.sub c.epoch 0xFFFFFFFF)
  match swapFamily a with
  | some f =>
    if s.vetoed c then s.schedReport (schedEntry 4 Status.state.code 0 0 s.sched.gen a.inst a.index a.sub c.epoch 0xFFFFFFFF)
    else if 0x1000 ≤ f then (s.armGates (f - 0x1000) e c.epoch).touchFam f c.writer
    else s.swapBanks f e c
  | none =>
    match c.commits with
    | some set => report (s.commitSet set e c) 1
    | none =>
      if a.index = 0x2200 then report (s.applyChangeover a c.value) 0
      else if a.index = 0x7401 then report (s.migrate (a.inst - 0x0100) c.value) 0
      else report (s.changeValue c) 0

/-! Release of held banks (R57, R139, R156, R252, R253). -/

/-- A released bank takes the writes that its swap carried, or is STALE; then those that had waited for it (R26). -/
def State.replayLog (s : State) (f bank : Nat) : State :=
  let x := s.fam f
  let s1 :=
    if x.carriedSpoiled then s.setFam f { x with stale := true }
    else x.carried.reverse.foldl (fun (t : State) w => (t.applyRecord bank w.table w.index w.record w.delete).2) s
  let s2 := s1.landWrites f
  s2.setFam f { s2.fam f with carried := [], carriedSpoiled := false, landing := [] }

/-- A held bank, or the gates of a commit, is released. -/
def State.releaseBank (s : State) (h : Hold) : State :=
  let s1 : State := { s with sched := { s.sched with holds := s.sched.holds.erase h } }
  (if 0x300 ≤ h.fam ∧ h.fam < 0x30C then s1.resolveGates (h.fam - 0x300) h.epoch else s1.replayLog h.fam h.bank).announceRelease h

/-- Every bank whose release is due is released. -/
def State.releaseBanks (s : State) : State := (s.sched.holds.filter s.holdDone).foldl (fun (t : State) h => t.releaseBank h) s

/-- FLIGHT_IDLE (R57, R252): a die reports the generations idle at a boundary; a bank that waited for the report is released. -/
def execFlightIdle (d idle : Nat) (s : State) : Answer := withDie s d (s.reportIdle d idle).releaseBanks

/-! The boundary. -/

/-- Generations with no packets in flight on a die, as a mask (R252). -/
def State.idleMask (s : State) (d : Nat) : Nat :=
  [0, 1, 2, 3].foldl (fun a g => if sparseGet (fun _ => 0) s.sched.flight (d * 4 + g) = 0 then a + 2 ^ g else a) 0

/-- What waits for the boundary beside the changes: writes of flow contexts and meters, a decided step, and the dies' reports of idle
generations go on the agenda (R60, R219, R252, R299). -/
def State.boundaryAgenda (s : State) : State :=
  let due := s.rings.timed.filter fun (w : TimedWrite) => decide (w.epoch ≤ s.time.epoch)
  let s1 := due.foldl (fun (t : State) w => if w.table = 0x50 then t.later 0 (.flowContextApply (w.index / 65536) (w.index % 65536)) else t) s
  let s2 := if due.any (fun w => w.table = 0x64) then s1.later 0 .meterApply else s1
  let s3 := if s.sched.holds.any (fun h => decide (h.gens ≠ [])) then
      s.part.dies.foldl (fun (t : State) d => if t.isFenced d then t else t.later 0 (.flightIdle d (s.idleMask d))) s2
    else s2
  match s.time.decided with
  | some (_, b) => if b ≤ s.time.epoch then s3.later 0 .timeStep else s3
  | none => s3

/-- Changes in the order in which a boundary applies them: by epoch, then by acceptance (R51, R61). -/
def Change.before (a b : Change) : Bool := decide (a.epoch < b.epoch) || (a.epoch = b.epoch && decide (a.order ≤ b.order))

/-- Everything at the boundary of the next epoch. -/
def State.boundary (s : State) : State :=
  let e := s.time.epoch + 1
  let now := max s.time.now (e * s.epochNs * 65536)
  let s1 : State := { s with time := { s.time with epoch := e, now := now, up := s.time.up + (now - s.time.now) / 65536 } }
  let s2 := s1.settleTables s1.rings.ops.length
  let due := sortBy Change.before (s2.sched.changes.filter fun c => decide (c.epoch ≤ e))
  let s3 : State := { s2 with sched := { s2.sched with changes := s2.sched.changes.filter fun c => decide (e < c.epoch) } }
  let s4 := if due.any (fun c => c.ingress && !s3.vetoed c) then s3.advanceGen else s3
  ((due.foldl (fun (t : State) c => t.applyChange e c) s4).releaseBanks.clearPend).boundaryAgenda

/-- EPOCH_BOUNDARY (R46, R51): package time reaches the next boundary. While the counter is held there are none (R62). -/
def execEpochBoundary (s : State) : Answer := running s (if s.time.held then s else s.boundary)

/-- EPOCH_HOLD_END (R62): package time reaches the start of the epoch after the held one, which is the next boundary. -/
def execEpochHoldEnd (s : State) : Answer :=
  running s (if s.time.held then ({ s with time := { s.time with held := false } } : State).boundary else s)

/-! The tick of the time-unit clock (DESIGN CHOICE, log 5). -/

/-- The command of the agenda that is due first; of those due at one time, the one put there first. -/
def State.nextDue (s : State) : Option (Nat × Instr) :=
  (sortBy (fun a b => decide (a.1 ≤ b.1)) (s.agenda.filter fun e => decide (e.1 ≤ s.up))).head?

/-- The 1PPS_OUT pulse ends (R63). -/
def State.ppsEnd (s : State) : State :=
  match s.time.ppsHigh with
  | some e => if e ≤ s.up then { s with time := { s.time with ppsHigh := none } }.emit (.pin 1 0) else s
  | none => s

/-- Whether a pulse of 1PPS_OUT begins, where the instant that its function sees moves from `a` ns: a whole second, or a boundary that is made, and once
(R62, R63). -/
def State.ppsBegins (s : State) (a : Nat) : Bool :=
  let f := s.rd Od.ppsOutFunction
  let e := s.ppsEpoch
  (f = 1 && a / 1000000000 ≠ s.ppsInstant / 1000000000)
    || (f = 2 && a / s.epochNs ≠ e && decide (s.time.ppsMark < e) && (!s.time.held || decide (s.time.epoch < e)))

/-- What the instant reached makes due on the ports: the restarts of training (R74, R75), the end of training (R74) and the end of a drain (R90). -/
def State.linksDue (s : State) : List Instr :=
  let ports := s.links.ports.map (·.1)
  (ports.filter s.partnerMissing).map .l400NoPartner
    ++ (ports.filter s.stepOverdue).map .l400TrainStepTimeout
    ++ (ports.filter fun n => s.portStateOf n = 1 && modeGroup (s.portModeOf n) = 1 && s.trained n).map .linkUp
    ++ (ports.filter fun n => (s.portStateOf n = 4 || s.portStateOf n = 5) && ((s.copiesAt n).isEmpty || s.drainExpired n)).map
      fun n => .portDrainEnd n (s.drainExpired n)

/-- Commands that the instant reached makes due, from what the state holds: the boundary or the end of a hold (R46, R62), timers (R398), gate lists (R296,
R297), learn requests (R170), acknowledgements that are overdue (R49), packets at their age (R250), requests for cells that wait and can be met (R261),
drains of queues that are over (R377), sessions that have fallen silent (R349), the vacated pair of a migration once it is empty (R419), and the ports'
training and drains. -/
def State.fallsDue (s : State) : List Instr :=
  (if s.ns < (s.time.epoch + 1) * s.epochNs then [] else [if s.time.held then .epochHoldEnd else .epochBoundary])
    ++ (s.events.timers.filter fun e => decide (e.2 ≤ s.ns)).map (fun e => .timerExpire (e.1 / 16) (e.1 % 16))
    ++ (s.tm.gates.filter fun e => (s.settleGate e.1).gate e.1 ≠ e.2).map (fun e => .gateEntryChange e.1)
    ++ (s.tm.gates.filter fun e => match e.2.swap with
        | some x => decide (x.start ≤ s.ns)
        | none => false).map (fun e => .gclSwapApply e.1)
    ++ (if s.dueLearns ≠ [] then [.learnApply] else [])
    ++ (s.part.dies.filter fun d => !s.isFenced d && s.ackOverdue d).map .dieAckTimeout
    ++ (s.part.dies.filter s.packetsOld).map .lateRemoval
    ++ (s.part.dies.filter fun d => !s.isFenced d && s.waitsEnd d).map (fun d => .cellAllocate d [])
    ++ (s.rings.wqs.filter fun e => e.2.inflight = [] && decide (2 ≤ s.rd Od.wqState (wqInst (e.1 / 1024) (e.1 % 1024)))).map
        (fun e => .wqDrainEnd (e.1 / 4096) (e.1 / 1024 % 4) (e.1 % 1024))
    ++ (s.dict.kdp.filter fun e => decide (e.2.heard + s.rd Od.kdpSessionIdle * 1000000000 ≤ s.up)).map (fun e => .kdpSessionIdleExpire e.1)
    ++ (s.part.dies.filter fun d => s.rd Od.sparePipelineClaim (dieInst d) = 3 && s.itemsIn (d * 16 + s.sparePipe d false) false = []
        && s.itemsIn (d * 16 + s.sparePipe d true) true = []).map .migrateDrainEnd
    ++ s.linksDue

/-- Commands that come round with the clock, where it has moved on from `old`: the lapse of the Lamp's refresh (R407), placement credits every 64
clocks (R187), the result-cache sweep every 100 µs (R146), the time exchange of dies every 1,024 superframes (R322), checkpoints every 1 ms (R422), the
cell sweep every 100 ms (R265), the end of a handover within 150 ms (R422), the ageing visit (R174) and the ends of bandwidth windows (R446). -/
def State.periodic (s old : State) : List Instr :=
  let ends := fun (p : Nat) => decide (p ≠ 0) && decide (old.up / p ≠ s.up / p)
  let dies := s.part.dies.filter fun d => !s.isFenced d
  (if s.lampLapsed then [.lampRefreshLapse] else [])
    ++ (if ends 40 then
        (dies.filter fun d => (List.range 8).any fun i => s.placeCredits (d * 8 + i) ≠ 16 || s.placeQueue (d * 8 + i) ≠ []).map .placeCreditRefill
      else [])
    ++ (if ends 100000 then (s.asa.rc.map (·.1)).map .rcSweep else [])
    ++ (if old.up * 7 / 36864 ≠ s.up * 7 / 36864 then dies.map .fabricTimeExchange else [])
    ++ (if ends 1000000 then dies.map .keeperCheckpoint else [])
    ++ (if ends 100000000 then dies.map .bpmSweep else [])
    ++ (if ends 150000000 && s.recov.takeover then [.keeperTakeover] else [])
    ++ (if ends (s.rd Od.macAgePeriod * 1000000000) then [.macAgeVisit] else [])
    ++ (match s.bwEnded with
      | some (stop, _) =>
        if old.ns < stop ∧ stop ≤ s.ns then ((List.range 512).filter fun n => s.portModeOf n ≠ 0).map .bwWindowEnd else []
      | none => [])

/-! Resets of pipelines and threads by their fault source's reaction (R17, R403, R408; log 127). -/

/-- A pipeline is reset, in both directions: what is inside begins again, and its result cache is empty. -/
def State.resetPipe (s : State) (p : Nat) : State :=
  [false, true].foldl (fun t eg => t.moveItems p eg (some p) false) (s.setRc p [])

/-- A thread of both engines of a pipeline is reset: its routine is abandoned, and its packet restarts, or is replayed once committed. -/
def State.resetThread (s : State) (p t : Nat) : State :=
  [false, true].foldl (fun (a : State) eg =>
    match a.thread? p eg t with
    | none => a
    | some th =>
      match a.item? eg th.item with
      | none => a
      | some k => if th.committed then a.replayItem p eg th.item k p false else a.restartItem p eg t th k false) s

/-- The resets that reactions have asked for are carried out. -/
def State.performResets (s : State) : State :=
  s.recov.resets.foldl (fun a r => if r.1 = 0x04 then a.resetPipe r.2 else a.resetThread (r.2 / 256) (r.2 % 256))
    { s with recov := { s.recov with resets := [] } }

/-- One nanosecond passes with no command waiting and none due: package time advances, and what it reaches goes on the agenda. -/
def State.clock (s : State) : State :=
  let s1 := s.advance.ppsEnd
  let s2 := if s1.ppsBegins s.ppsInstant then s1.later 0 .ppsOutPulse else s1
  if s2.stopped ∨ s2.boot.started = false then s2
  else
    let s3 := s2.performFences.performResets.lampClock.lineClock.judgeSlices.turnSlices
    (s3.fallsDue ++ s3.periodic s).foldl (fun (t : State) c => t.later 0 c) s3

end Sys2Proof.Machine
end

