-- ==== Sys2Proof/Machine/Dispatch.lean ====
section
/-! DEFINITION. The meaning of each command, one arm per constructor. -/

namespace Sys2Proof.Machine

/-- The effect of a command on everything but the queue. -/
def exec (i : Instr) (s : State) : Host.Outcome State Fault Refusal :=
  match i with
  | .resetN lowUs => Sys2Proof.Machine.execResetN lowUs s
  | .bootAttempt facts => Sys2Proof.Machine.execBootAttempt facts s
  | .hostReady defaults => Sys2Proof.Machine.execHostReady defaults s
  | .perstN h => Sys2Proof.Machine.execPerstN h s
  | .functionLevelReset h f => Sys2Proof.Machine.execFunctionLevelReset h f s
  | .ppsInEdge h => Sys2Proof.Machine.execPpsInEdge h s
  | .ptpMessageRx n masterSelected => Sys2Proof.Machine.execPtpMessageRx n masterSelected s
  | .timeOffsetMeasure offset => Sys2Proof.Machine.execTimeOffsetMeasure offset s
  | .flightIdle d idle => Sys2Proof.Machine.execFlightIdle d idle s
  | .dieAckTimeout d => Sys2Proof.Machine.execDieAckTimeout d s
  | .linkRetrainStart n => Sys2Proof.Machine.execLinkRetrainStart n s
  | .trainingFrameRx n control status targetMet => Sys2Proof.Machine.execTrainingFrameRx n control status targetMet s
  | .l400TrainStepTimeout n => Sys2Proof.Machine.execL400TrainStepTimeout n s
  | .l400NoPartner n => Sys2Proof.Machine.execL400NoPartner n s
  | .alignmentBlockRx n block => Sys2Proof.Machine.execAlignmentBlockRx n block s
  | .linkUp n => Sys2Proof.Machine.execLinkUp n s
  | .linkDown n => Sys2Proof.Machine.execLinkDown n s
  | .portDrainEnd n expired => Sys2Proof.Machine.execPortDrainEnd n expired s
  | .spareSliceListen n marginOk => Sys2Proof.Machine.execSpareSliceListen n marginOk s
  | .laneRepairTrigger n trigger heavy lost => Sys2Proof.Machine.execLaneRepairTrigger n trigger heavy lost s
  | .rxChangeover n => Sys2Proof.Machine.execRxChangeover n s
  | .txChangeover n => Sys2Proof.Machine.execTxChangeover n s
  | .frameReceive n frame => Sys2Proof.Machine.execFrameReceive n frame s
  | .pfcXoffRefresh n g => Sys2Proof.Machine.execPfcXoffRefresh n g s
  | .parse p => Sys2Proof.Machine.execParse p s
  | .frameEnd p truncated => Sys2Proof.Machine.execFrameEnd p truncated s
  | .ingressLookups p => Sys2Proof.Machine.execIngressLookups p s
  | .asaSearchSlot d => Sys2Proof.Machine.execAsaSearchSlot d s
  | .rcSweep p => Sys2Proof.Machine.execRcSweep p s
  | .placeCreditRefill d => Sys2Proof.Machine.execPlaceCreditRefill d s
  | .placementLookup p => Sys2Proof.Machine.execPlacementLookup p s
  | .placeReadReturn p => Sys2Proof.Machine.execPlaceReadReturn p s
  | .aeDispatch p egress item t => Sys2Proof.Machine.execAeDispatch p egress item t s
  | .contWord p egress t wait ecc => Sys2Proof.Machine.execContWord p egress t wait ecc s
  | .jumpWord p egress t wait ecc => Sys2Proof.Machine.execJumpWord p egress t wait ecc s
  | .branchWord p egress t wait ecc => Sys2Proof.Machine.execBranchWord p egress t wait ecc s
  | .callWord p egress t wait ecc => Sys2Proof.Machine.execCallWord p egress t wait ecc s
  | .returnWord p egress t wait ecc => Sys2Proof.Machine.execReturnWord p egress t wait ecc s
  | .dispatchWord p egress t wait ecc => Sys2Proof.Machine.execDispatchWord p egress t wait ecc s
  | .endWord p egress t => Sys2Proof.Machine.execEndWord p egress t s
  | .trapWord p egress t => Sys2Proof.Machine.execTrapWord p egress t s
  | .aluNop p egress t u => Sys2Proof.Machine.execAluNop p egress t u s
  | .aluAdd p egress t u => Sys2Proof.Machine.execAluAdd p egress t u s
  | .aluSub p egress t u => Sys2Proof.Machine.execAluSub p egress t u s
  | .aluAnd p egress t u => Sys2Proof.Machine.execAluAnd p egress t u s
  | .aluOr p egress t u => Sys2Proof.Machine.execAluOr p egress t u s
  | .aluXor p egress t u => Sys2Proof.Machine.execAluXor p egress t u s
  | .aluShl p egress t u => Sys2Proof.Machine.execAluShl p egress t u s
  | .aluShr p egress t u => Sys2Proof.Machine.execAluShr p egress t u s
  | .aluSar p egress t u => Sys2Proof.Machine.execAluSar p egress t u s
  | .aluMin p egress t u => Sys2Proof.Machine.execAluMin p egress t u s
  | .aluMax p egress t u => Sys2Proof.Machine.execAluMax p egress t u s
  | .aluCmp p egress t u => Sys2Proof.Machine.execAluCmp p egress t u s
  | .aluPass p egress t u => Sys2Proof.Machine.execAluPass p egress t u s
  | .aluExtract p egress t u => Sys2Proof.Machine.execAluExtract p egress t u s
  | .aluAddoc p egress t u => Sys2Proof.Machine.execAluAddoc p egress t u s
  | .aluBswap p egress t u => Sys2Proof.Machine.execAluBswap p egress t u s
  | .aluMul16 p egress t u => Sys2Proof.Machine.execAluMul16 p egress t u s
  | .aluCrc32c p egress t u => Sys2Proof.Machine.execAluCrc32c p egress t u s
  | .moveWord p egress t => Sys2Proof.Machine.execMoveWord p egress t s
  | .hvw p egress t => Sys2Proof.Machine.execHvw p egress t s
  | .ctxRead p egress t ecc bad => Sys2Proof.Machine.execCtxRead p egress t ecc bad s
  | .ctxLockGrant d context waited ecc bad => Sys2Proof.Machine.execCtxLockGrant d context waited ecc bad s
  | .ctxWrite p egress t => Sys2Proof.Machine.execCtxWrite p egress t s
  | .ctxInit p egress t => Sys2Proof.Machine.execCtxInit p egress t s
  | .cntInc p egress t => Sys2Proof.Machine.execCntInc p egress t s
  | .cntAdd p egress t => Sys2Proof.Machine.execCntAdd p egress t s
  | .metBlind p egress t => Sys2Proof.Machine.execMetBlind p egress t s
  | .metAware p egress t => Sys2Proof.Machine.execMetAware p egress t s
  | .emitEncap p egress t => Sys2Proof.Machine.execEmitEncap p egress t s
  | .emitDecap p egress t => Sys2Proof.Machine.execEmitDecap p egress t s
  | .emitSetNexthop p egress t => Sys2Proof.Machine.execEmitSetNexthop p egress t s
  | .emitTtlDec p egress t => Sys2Proof.Machine.execEmitTtlDec p egress t s
  | .replRecirc p egress t => Sys2Proof.Machine.execReplRecirc p egress t s
  | .replMirror p egress t => Sys2Proof.Machine.execReplMirror p egress t s
  | .replDrop p egress t => Sys2Proof.Machine.execReplDrop p egress t s
  | .replPunt p egress t => Sys2Proof.Machine.execReplPunt p egress t s
  | .copyToHost p egress t => Sys2Proof.Machine.execCopyToHost p egress t s
  | .perfMark p egress t => Sys2Proof.Machine.execPerfMark p egress t s
  | .perfSample p egress t => Sys2Proof.Machine.execPerfSample p egress t s
  | .threadFault p egress t kind => Sys2Proof.Machine.execThreadFault p egress t kind s
  | .threadRetire p egress t selfCheckFailed => Sys2Proof.Machine.execThreadRetire p egress t selfCheckFailed s
  | .exitCheck egress item failed => Sys2Proof.Machine.execExitCheck egress item failed s
  | .spareTakeoverCheckDone d egress pass => Sys2Proof.Machine.execSpareTakeoverCheckDone d egress pass s
  | .aeExit p egress => Sys2Proof.Machine.execAeExit p egress s
  | .tmEnqueue p => Sys2Proof.Machine.execTmEnqueue p s
  | .request d source v cells => Sys2Proof.Machine.execRequest d source v cells s
  | .arbiterGrant v => Sys2Proof.Machine.execArbiterGrant v s
  | .grant d v => Sys2Proof.Machine.execGrant d v s
  | .standingRestore d n cells => Sys2Proof.Machine.execStandingRestore d n cells s
  | .dieCopyArrival idx => Sys2Proof.Machine.execDieCopyArrival idx s
  | .egressEntry idx => Sys2Proof.Machine.execEgressEntry idx s
  | .rewriteCopy idx => Sys2Proof.Machine.execRewriteCopy idx s
  | .portFrameStart n => Sys2Proof.Machine.execPortFrameStart n s
  | .transmitDone n => Sys2Proof.Machine.execTransmitDone n s
  | .loopbackSlot d => Sys2Proof.Machine.execLoopbackSlot d s
  | .loopbackInject p free => Sys2Proof.Machine.execLoopbackInject p free s
  | .lateRemoval d => Sys2Proof.Machine.execLateRemoval d s
  | .cellAllocate d reqs => Sys2Proof.Machine.execCellAllocate d reqs s
  | .classWaitExpire d octet => Sys2Proof.Machine.execClassWaitExpire d octet s
  | .cellFree d head tag kind id => Sys2Proof.Machine.execCellFree d head tag kind id s
  | .cellRelease d head kind id => Sys2Proof.Machine.execCellRelease d head kind id s
  | .bitmapParityFail d bank word => Sys2Proof.Machine.execBitmapParityFail d bank word s
  | .bpmSweep d => Sys2Proof.Machine.execBpmSweep d s
  | .poolAllocate pool asking => Sys2Proof.Machine.execPoolAllocate pool asking s
  | .poolWaitExpire p => Sys2Proof.Machine.execPoolWaitExpire p s
  | .spillWrite d => Sys2Proof.Machine.execSpillWrite d s
  | .spillWriteDone idx => Sys2Proof.Machine.execSpillWriteDone idx s
  | .spillRead d => Sys2Proof.Machine.execSpillRead d s
  | .spillReadDone idx lost channel => Sys2Proof.Machine.execSpillReadDone idx lost channel s
  | .hbmChannelRepair d channel trigger => Sys2Proof.Machine.execHbmChannelRepair d channel trigger s
  | .hbmChannelCopyDone d channel => Sys2Proof.Machine.execHbmChannelCopyDone d channel s
  | .pfcFrameRx n opcode vector times => Sys2Proof.Machine.execPfcFrameRx n opcode vector times s
  | .pfcPauseExpire n t => Sys2Proof.Machine.execPfcPauseExpire n t s
  | .pfcWatchdogExpire n t => Sys2Proof.Machine.execPfcWatchdogExpire n t s
  | .pfcStormEnd n t => Sys2Proof.Machine.execPfcStormEnd n t s
  | .gateEntryChange n => Sys2Proof.Machine.execGateEntryChange n s
  | .gclSwapApply n => Sys2Proof.Machine.execGclSwapApply n s
  | .flowContextApply d context => Sys2Proof.Machine.execFlowContextApply d context s
  | .punt p => Sys2Proof.Machine.execPunt p s
  | .puntDeliver d => Sys2Proof.Machine.execPuntDeliver d s
  | .trainingBlockRx d g block => Sys2Proof.Machine.execTrainingBlockRx d g block s
  | .fabricTrainTimeout d g => Sys2Proof.Machine.execFabricTrainTimeout d g s
  | .superframeRx d g corrected ok crcBad => Sys2Proof.Machine.execSuperframeRx d g corrected ok crcBad s
  | .fabricCellSend d dst v => Sys2Proof.Machine.execFabricCellSend d dst v s
  | .reseqTimeout d src v => Sys2Proof.Machine.execReseqTimeout d src v s
  | .fabricLaneTrigger d g lane cause => Sys2Proof.Machine.execFabricLaneTrigger d g lane cause s
  | .laneCmdMirror d g spare lane => Sys2Proof.Machine.execLaneCmdMirror d g spare lane s
  | .laneCmdReady d g spare lane => Sys2Proof.Machine.execLaneCmdReady d g spare lane s
  | .laneCmdSwitch d g spare lane => Sys2Proof.Machine.execLaneCmdSwitch d g spare lane s
  | .laneCmdRelease d g spare lane => Sys2Proof.Machine.execLaneCmdRelease d g spare lane s
  | .fabricTimeExchange d => Sys2Proof.Machine.execFabricTimeExchange d s
  | .timeStampRx d g value arrival => Sys2Proof.Machine.execTimeStampRx d g value arrival s
  | .timeEchoRx d g value => Sys2Proof.Machine.execTimeEchoRx d g value s
  | .fabricTableWrite d seq => Sys2Proof.Machine.execFabricTableWrite d seq s
  | .tableAck d seq bad => Sys2Proof.Machine.execTableAck d seq bad s
  | .scheduleMsg d order => Sys2Proof.Machine.execScheduleMsg d order s
  | .learn bd mac lport stamp port => Sys2Proof.Machine.execLearn bd mac lport stamp port s
  | .keeperMsg d toDie => Sys2Proof.Machine.execKeeperMsg d toDie s
  | .ecmpRebalance group targets others => Sys2Proof.Machine.execEcmpRebalance group targets others s
  | .tableScrub d bad => Sys2Proof.Machine.execTableScrub d bad s
  | .asaScrub d bad => Sys2Proof.Machine.execAsaScrub d bad s
  | .asaBankSpareSwitch d array bank => Sys2Proof.Machine.execAsaBankSpareSwitch d array bank s
  | .aeCsScrub d bad => Sys2Proof.Machine.execAeCsScrub d bad s
  | .counterScrub d bad => Sys2Proof.Machine.execCounterScrub d bad s
  | .sramRowRepair d kind mac row => Sys2Proof.Machine.execSramRowRepair d kind mac row s
  | .tableWrite h f w desc => Sys2Proof.Machine.execTableWrite h f w desc s
  | .tableDelete h f w desc => Sys2Proof.Machine.execTableDelete h f w desc s
  | .tableRead h f w desc => Sys2Proof.Machine.execTableRead h f w desc s
  | .contDescriptor h f w desc => Sys2Proof.Machine.execContDescriptor h f w desc s
  | .nopDescriptor h f w desc => Sys2Proof.Machine.execNopDescriptor h f w desc s
  | .dictDescriptor h f w desc block => Sys2Proof.Machine.execDictDescriptor h f w desc block s
  | .scheduleDescriptor h f w desc => Sys2Proof.Machine.execScheduleDescriptor h f w desc s
  | .injectDescriptor h f w desc data free => Sys2Proof.Machine.execInjectDescriptor h f w desc data free s
  | .bufferFree h f w desc => Sys2Proof.Machine.execBufferFree h f w desc s
  | .bufferRefAdd h f w desc => Sys2Proof.Machine.execBufferRefAdd h f w desc s
  | .wqDoorbell h f w value => Sys2Proof.Machine.execWqDoorbell h f w value s
  | .wqPush h f w offset bytes => Sys2Proof.Machine.execWqPush h f w offset bytes s
  | .cqDoorbell h f c value => Sys2Proof.Machine.execCqDoorbell h f c value s
  | .wqDrainEnd h f w => Sys2Proof.Machine.execWqDrainEnd h f w s
  | .mbxDoorbell h f v block => Sys2Proof.Machine.execMbxDoorbell h f v block s
  | .kdpRequest d block => Sys2Proof.Machine.execKdpRequest d block s
  | .openSession d block => Sys2Proof.Machine.execOpenSession d block s
  | .closeSession d block => Sys2Proof.Machine.execCloseSession d block s
  | .kdpSessionIdleExpire n => Sys2Proof.Machine.execKdpSessionIdleExpire n s
  | .smbusSelect o => Sys2Proof.Machine.execSmbusSelect o s
  | .smbusWrite data => Sys2Proof.Machine.execSmbusWrite data s
  | .eventFire d source => Sys2Proof.Machine.execEventFire d source s
  | .evcCoreClaim d core => Sys2Proof.Machine.execEvcCoreClaim d core s
  | .evcCoreEoi d core code => Sys2Proof.Machine.execEvcCoreEoi d core code s
  | .evcVecEoi h f vector code => Sys2Proof.Machine.execEvcVecEoi h f vector code s
  | .msixUnmask h f vector => Sys2Proof.Machine.execMsixUnmask h f vector s
  | .timerExpire d t => Sys2Proof.Machine.execTimerExpire d t s
  | .faultRecordOpen e => Sys2Proof.Machine.execFaultRecordOpen e s
  | .faultRecordClose d source location => Sys2Proof.Machine.execFaultRecordClose d source location s
  | .spareTestStart cls d group unit => Sys2Proof.Machine.execSpareTestStart cls d group unit s
  | .spareTestDone cls d group unit pass => Sys2Proof.Machine.execSpareTestDone cls d group unit pass s
  | .spareRetest cls d group unit => Sys2Proof.Machine.execSpareRetest cls d group unit s
  | .migrateDrainEnd d => Sys2Proof.Machine.execMigrateDrainEnd d s
  | .keeperCoreFault d core cause => Sys2Proof.Machine.execKeeperCoreFault d core cause s
  | .keeperCheckpoint d => Sys2Proof.Machine.execKeeperCheckpoint d s
  | .pllFault d pll ppm => Sys2Proof.Machine.execPllFault d pll ppm s
  | .timeMasterFail offset => Sys2Proof.Machine.execTimeMasterFail offset s
  | .pcieFailover h f aer address => Sys2Proof.Machine.execPcieFailover h f aer address s
  | .dieFence d cause => Sys2Proof.Machine.execDieFence d cause s
  | .wearForecast months => Sys2Proof.Machine.execWearForecast months s
  | .wearSample d readings => Sys2Proof.Machine.execWearSample d readings s
  | .cwinValueRead h f w j => Sys2Proof.Machine.execCwinValueRead h f w j s
  | .bwWindowEnd n => Sys2Proof.Machine.execBwWindowEnd n s
  | .sampleDrain d => Sys2Proof.Machine.execSampleDrain d s
  | .thermalSample d temps => Sys2Proof.Machine.execThermalSample d temps s
  | .throttleStep d => Sys2Proof.Machine.execThrottleStep d s
  | .throttleRelaxExpire d => Sys2Proof.Machine.execThrottleRelaxExpire d s
  | .junctionTrip d sensor temp => Sys2Proof.Machine.execJunctionTrip d sensor temp s
  | .railWarning d rail => Sys2Proof.Machine.execRailWarning d rail s
  | .railFault rail => Sys2Proof.Machine.execRailFault rail s
  | .wakeN lowUs => Sys2Proof.Machine.execWakeN lowUs s
  | .bankedWake emberSeconds => Sys2Proof.Machine.execBankedWake emberSeconds s
  | .fwVerifyDone slot code version svn keeperOnly => Sys2Proof.Machine.execFwVerifyDone slot code version svn keeperOnly s
  | .jtagBypass tdi => Sys2Proof.Machine.execJtagBypass tdi s
  | .samplePreload value => Sys2Proof.Machine.execSamplePreload value s
  | .extest value => Sys2Proof.Machine.execExtest value s
  | .extestPulse value => Sys2Proof.Machine.execExtestPulse value s
  | .extestTrain value => Sys2Proof.Machine.execExtestTrain value s
  | .jtagProvisionKey rsvd key => Sys2Proof.Machine.execJtagProvisionKey rsvd key s
  | .jtagProvisionSeal rsvd key => Sys2Proof.Machine.execJtagProvisionSeal rsvd key s
  | .resetEngine bit => Sys2Proof.Machine.execResetEngine bit s
  | .railInTolerance rail => Sys2Proof.Machine.execRailInTolerance rail s
  | .pciePowerStateChange h f d0 linkLow pmeEnable msixEnable => Sys2Proof.Machine.execPciePowerStateChange h f d0 linkLow pmeEnable msixEnable s
  | .rowRewriteDone d kind index => Sys2Proof.Machine.execRowRewriteDone d kind index s
  | .bitmapRebuildDone d bank word => Sys2Proof.Machine.execBitmapRebuildDone d bank word s
  | .copyLiveDone f => Sys2Proof.Machine.execCopyLiveDone f s
  | .sramSpareSwitch d kind mac => Sys2Proof.Machine.execSramSpareSwitch d kind mac s
  | .engineReset r v => Sys2Proof.Machine.execEngineReset r v s
  | .todSet r v => Sys2Proof.Machine.execTodSet r v s
  | .timeSource r v => Sys2Proof.Machine.execTimeSource r v s
  | .timeStepAccept r v => Sys2Proof.Machine.execTimeStepAccept r v s
  | .schedCancel r v => Sys2Proof.Machine.execSchedCancel r v s
  | .ppsOutFunction r v => Sys2Proof.Machine.execPpsOutFunction r v s
  | .octetRateGroup r n v => Sys2Proof.Machine.execOctetRateGroup r n v s
  | .portMode r n v => Sys2Proof.Machine.execPortMode r n v s
  | .portEnable r n v => Sys2Proof.Machine.execPortEnable r n v s
  | .linkRetrainAuto r n v => Sys2Proof.Machine.execLinkRetrainAuto r n v s
  | .spareChangeover r n v epoch => Sys2Proof.Machine.execSpareChangeover r n v epoch s
  | .spareRelease r n v epoch => Sys2Proof.Machine.execSpareRelease r n v epoch s
  | .loopbackClaim r v => Sys2Proof.Machine.execLoopbackClaim r v s
  | .poolEnable r pool v => Sys2Proof.Machine.execPoolEnable r pool v s
  | .gclSwap r n v epoch => Sys2Proof.Machine.execGclSwap r n v epoch s
  | .wqEnable r w v => Sys2Proof.Machine.execWqEnable r w v s
  | .cqEnable r c v => Sys2Proof.Machine.execCqEnable r c v s
  | .readObj r o => Sys2Proof.Machine.execReadObj r o s
  | .writeObj r o len v => Sys2Proof.Machine.execWriteObj r o len v s
  | .writeEpoch r o len v epoch => Sys2Proof.Machine.execWriteEpoch r o len v epoch s
  | .readPending r o => Sys2Proof.Machine.execReadPending r o s
  | .sessionReset r v => Sys2Proof.Machine.execSessionReset r v s
  | .keySet r v => Sys2Proof.Machine.execKeySet r v s
  | .keyClear r v => Sys2Proof.Machine.execKeyClear r v s
  | .keyProvision r v => Sys2Proof.Machine.execKeyProvision r v s
  | .sealWrite r v => Sys2Proof.Machine.execSealWrite r v s
  | .tableSwap r k v epoch => Sys2Proof.Machine.execTableSwap r k v epoch s
  | .tableCopyLive r k v => Sys2Proof.Machine.execTableCopyLive r k v s
  | .tableShadowSeed r k v => Sys2Proof.Machine.execTableShadowSeed r k v s
  | .tableShadowTiles r k v => Sys2Proof.Machine.execTableShadowTiles r k v s
  | .ecmpSwap r v epoch => Sys2Proof.Machine.execEcmpSwap r v epoch s
  | .parserSwap r v epoch => Sys2Proof.Machine.execParserSwap r v epoch s
  | .parserCopyLive r v => Sys2Proof.Machine.execParserCopyLive r v s
  | .asaSetSwap r set v epoch => Sys2Proof.Machine.execAsaSetSwap r set v epoch s
  | .asaSetCommit r set v epoch => Sys2Proof.Machine.execAsaSetCommit r set v epoch s
  | .placeSwap r v epoch => Sys2Proof.Machine.execPlaceSwap r v epoch s
  | .placeCopyLive r v => Sys2Proof.Machine.execPlaceCopyLive r v s
  | .rewriteSwap r v epoch => Sys2Proof.Machine.execRewriteSwap r v epoch s
  | .rewriteCopyLive r v => Sys2Proof.Machine.execRewriteCopyLive r v s
  | .aeCodeClear r idx v => Sys2Proof.Machine.execAeCodeClear r idx v s
  | .aeCodeBlock r idx v => Sys2Proof.Machine.execAeCodeBlock r idx v s
  | .aeDispatchEntry r idx v => Sys2Proof.Machine.execAeDispatchEntry r idx v s
  | .aeCodeSwap r idx v epoch => Sys2Proof.Machine.execAeCodeSwap r idx v epoch s
  | .aeCodeCopyLive r idx v => Sys2Proof.Machine.execAeCodeCopyLive r idx v s
  | .evcClaim r => Sys2Proof.Machine.execEvcClaim r s
  | .evcEoi r v => Sys2Proof.Machine.execEvcEoi r v s
  | .evcSource r d source v => Sys2Proof.Machine.execEvcSource r d source v s
  | .timerClaim r d t v => Sys2Proof.Machine.execTimerClaim r d t v s
  | .timerArm r d t v => Sys2Proof.Machine.execTimerArm r d t v s
  | .faultNRelease r v => Sys2Proof.Machine.execFaultNRelease r v s
  | .sparePipelineClaim r d v => Sys2Proof.Machine.execSparePipelineClaim r d v s
  | .pipelineMigrate r d octet epoch => Sys2Proof.Machine.execPipelineMigrate r d octet epoch s
  | .recoveryCancel r v => Sys2Proof.Machine.execRecoveryCancel r v s
  | .recoveryClearShadows r v => Sys2Proof.Machine.execRecoveryClearShadows r v s
  | .throttleStepLimit r v => Sys2Proof.Machine.execThrottleStepLimit r v s
  | .throttleStepSet r d v => Sys2Proof.Machine.execThrottleStepSet r d v s
  | .powerRequest r v => Sys2Proof.Machine.execPowerRequest r v s
  | .powerWake r v => Sys2Proof.Machine.execPowerWake r v s
  | .fwFlashBlock r v => Sys2Proof.Machine.execFwFlashBlock r v s
  | .fwVerify r v => Sys2Proof.Machine.execFwVerify r v s
  | .fwActivateNextReset r slot => Sys2Proof.Machine.execFwActivateNextReset r slot s
  | .fwActivateKeeperNow r slot => Sys2Proof.Machine.execFwActivateKeeperNow r slot s
  | .fwSvnCommit r v => Sys2Proof.Machine.execFwSvnCommit r v s
  | .powerOn => Sys2Proof.Machine.execPowerOn s
  | .kindlingStart => Sys2Proof.Machine.execKindlingStart s
  | .bootClaim => Sys2Proof.Machine.execBootClaim s
  | .bootYield => Sys2Proof.Machine.execBootYield s
  | .bootClaimTimeout => Sys2Proof.Machine.execBootClaimTimeout s
  | .forwardingReady => Sys2Proof.Machine.execForwardingReady s
  | .engineResetDelayEnd => Sys2Proof.Machine.execEngineResetDelayEnd s
  | .ppsInMissed => Sys2Proof.Machine.execPpsInMissed s
  | .ptpAnnounceTimeout => Sys2Proof.Machine.execPtpAnnounceTimeout s
  | .timeStep => Sys2Proof.Machine.execTimeStep s
  | .epochHoldEnd => Sys2Proof.Machine.execEpochHoldEnd s
  | .epochBoundary => Sys2Proof.Machine.execEpochBoundary s
  | .ppsOutPulse => Sys2Proof.Machine.execPpsOutPulse s
  | .threshAdjust => Sys2Proof.Machine.execThreshAdjust s
  | .meterApply => Sys2Proof.Machine.execMeterApply s
  | .learnApply => Sys2Proof.Machine.execLearnApply s
  | .macAgeVisit => Sys2Proof.Machine.execMacAgeVisit s
  | .nvsCommit => Sys2Proof.Machine.execNvsCommit s
  | .smbusRead => Sys2Proof.Machine.execSmbusRead s
  | .smbusLastStatus => Sys2Proof.Machine.execSmbusLastStatus s
  | .lampRefresh => Sys2Proof.Machine.execLampRefresh s
  | .lampRefreshLapse => Sys2Proof.Machine.execLampRefreshLapse s
  | .keeperTakeover => Sys2Proof.Machine.execKeeperTakeover s
  | .powerEntryStep => Sys2Proof.Machine.execPowerEntryStep s
  | .smoulderWake => Sys2Proof.Machine.execSmoulderWake s
  | .keeperNowRestartDone => Sys2Proof.Machine.execKeeperNowRestartDone s
  | .idcode => Sys2Proof.Machine.execIdcode s
  | .freqSourceLost => Sys2Proof.Machine.execFreqSourceLost s

end Sys2Proof.Machine
end

