-- ==== Sys2Proof/Machine/Step.lean ====
section
/-! DEFINITION. One step of the block: the command at the front of the queue; on an empty queue a command of the agenda that is due, else one
nanosecond of the time-unit clock (DESIGN CHOICE, log 5). -/

namespace Sys2Proof.Machine

/-- What the block does when no command waits. -/
def tick (s : State) : Host.Outcome State Fault Refusal :=
  match s.nextDue with
  | some x => exec x.2 { s with agenda := s.agenda.erase x }
  | none => .next s.clock

/-- One step. -/
def step (s : State) : Host.Outcome State Fault Refusal :=
  match s.pending with
  | [] => tick s
  | c :: rest => exec c { s with pending := rest }

/-- The state with the command that a word spells at the front of its queue: no row of the table has bits, so no word spells one. -/
def State.withFetchWord (s : State) (nbits w : Nat) : State :=
  match Sys2Proof.decodeTableWord nbits w with
  | some c => { s with pending := c :: s.pending }
  | none => s

end Sys2Proof.Machine
end

