-- ==== Sys2Proof/Safety.lean ====
section
/-! DEFINITION. What counts as a safe step and as a sound state, in the terms that the statements use. -/

namespace Sys2Proof.Machine

/-- The block goes on: the step answers a next state. -/
def State.goesOn (s : State) : Prop := ∃ t, step s = .next t

/-- A command completes in a next state of which `P` holds. -/
def Runs (c : Instr) (s : State) (P : State → Prop) : Prop := ∃ t, exec c s = .next t ∧ P t

/-- Objects kept in the NVS: a canonical register file that holds non-volatile registers alone (R341). -/
def NvsBody.sound (b : NvsBody) : Bool := sparseWf Od.defaultAt b.objects && b.objects.all fun e => nvRegister e.1

/-- The register file and what the NVS keeps of it are in their canonical form: keys strictly rising, no register listed at its default. -/
def State.sound (s : State) : Bool :=
  sparseWf Od.defaultAt s.regs && s.dict.live.sound && s.dict.nvs0.body.sound && s.dict.nvs1.body.sound

/-- The sparse lists that commands search by key stand in rising order, so that a key is listed once at most: queues, contexts and their holders, search
queues, cells, XOFF states, families, lanes, slices, placement credits and KSI groups. -/
def State.ordered (s : State) : Bool :=
  sparseRising none s.rings.wqs && sparseRising none s.ae.contexts && sparseRising none s.ae.holders && sparseRising none s.asa.queues &&
    sparseRising none s.bufs.cells && sparseRising none s.bufs.xoff && sparseRising none s.fams && sparseRising none s.links.lanes &&
    sparseRising none s.links.slices && sparseRising none s.placing.credits && sparseRising none s.fabric.groups

/-- Registers that an engine reset writes: the fuses, the wear record, and what the Ember latches (R472, R473, R429). -/
def resetWrites : List Nat :=
  [Od.fusedSvn, Od.wearForecast, Od.wearRetired, Od.resetCause, Od.resetCauseDetail, Od.resetCount].map fun o => o.key 0 0

/-- What an engine reset leaves of a state (R472, R473). -/
structure AfterReset (s : State) (cause detail count : Nat) (t : State) : Prop where
  cause : t.rd Od.resetCause = cause
  detail : t.rd Od.resetCauseDetail = detail
  count : t.rd Od.resetCount = count
  fuses : t.rd Od.fusedSvn = s.rd Od.fusedSvn
  volatile : ∀ j, nvRegister j = false → j ∉ resetWrites → sparseGet Od.defaultAt t.regs j = Od.defaultAt j
  nonVolatile : ∀ j, nvRegister j = true → sparseGet Od.defaultAt t.regs j = sparseGet Od.defaultAt s.dict.bestNvs.objects j
  copies : t.dict.nvs0 = s.dict.nvs0 ∧ t.dict.nvs1 = s.dict.nvs1 ∧ t.dict.live = s.dict.bestNvs
  sessions : t.dict.kdp = [] ∧ t.dict.holders = [] ∧ t.dict.critQueue = [] ∧ t.dict.mailboxes = []
  time : t.time = { TimeUnit.reset with up := s.up } ∧ t.sched = State.reset.sched ∧ t.fams = [] ∧ t.tables = []
  data : t.packets = [] ∧ t.ae = State.reset.ae ∧ t.tm = State.reset.tm ∧ t.bufs = State.reset.bufs ∧ t.fabric = State.reset.fabric
  host : t.rings = State.reset.rings ∧ t.events = State.reset.events ∧ t.ctrs = State.reset.ctrs
  faults : t.recov.log = [] ∧ t.recov.fenced = [] ∧ t.recov.pin = false ∧ t.recov.trip = false
  kept : t.pending = s.pending ∧ t.part = s.part ∧ t.recov.retired = s.recov.retired ∧ t.recov.history = s.recov.history

/-! Dictionary requests. -/

/-- The session is of a PCIe function of a host-interface die. -/
def isFunction : Session → Bool
  | .pcie h f => decide (h < 2) && decide (f < 4)
  | _ => false

/-- A function without a key asks, while the package serves its host functions (R331, R333, R335). -/
def State.hearsPlain (s : State) (r : Req) : Bool :=
  !s.stopped && s.hostUp && r.keySlot = none && !r.critical && isFunction r.session

/-- What a write without a key is given. -/
def State.plainCtx (s : State) (r : Req) (o : DictOp) : WriteCtx := s.ctxOf (rowJob s r o) o

/-- The response to a request of one operation that carries no value. -/
def State.answers (t s : State) (r : Req) (st : Status) (o : Obj) (epoch : Nat) : State :=
  t.emit (.response (s.sessionOf r.session) r.tag st o.type.code epoch 0 0)

/-- What a claim (a value other than 0) or a release (0) of a free unit, or of one that principal `p` holds, leaves (R346). -/
def State.claimed (s : State) (a : Address) (p v : Nat) : State :=
  let s1 : State := { s with regs := sparseSet Od.defaultAt s.regs (addrKey a) v }
  if v = 0 then s1.dropHolder (addrKey a) else if (s.holder (addrKey a)).isSome then s1 else s1.setHolder a p

/-- RESOURCE_BUSY carries the holder record, of which the session keeps a copy (R346). -/
def State.answersBusy (s : State) (r : Req) (a : Address) (o : Obj) : State :=
  let h := ((s.holder (addrKey a)).map (·.record)).getD 0
  (s.setSessionReg (s.sessionOf r.session) 0 h).emit (.response (s.sessionOf r.session) r.tag .resourceBusy o.type.code 0 16 h)

/-- The job of a critical request of a row in key slot `k`. -/
def critJobOf (s : State) (r : Req) (o : DictOp) (k : Nat) : Job := { rowJob s r o with slot := k, key := low 256 (s.slotKey k) }

/-- A critical request in key slot `k` of a function passes checks 3 to 6 with nothing ahead of it, and its slot holds the right (R337 to R342). -/
def State.hearsCritical (s : State) (r : Req) (o : DictOp) (k : Nat) : Bool :=
  !s.stopped && s.hostUp && r.keySlot = some k && decide (k < 8) && r.critical && isFunction r.session &&
    s.authentic true true k (rowHeader false r (requestRecord false o).length ++ requestRecord false o) (beBytes 16 r.check) &&
    decide (s.counterLast k < r.counter) && s.dict.critQueue = [] && s.criticalOpen && s.hasRight k o.addr.index

/-- The state in which the operation of such a request is executed: it stands in the critical queue and is counted (R340). -/
def State.judging (s : State) (r : Req) (o : DictOp) (k : Nat) : State :=
  ({ s with dict := { s.dict with critQueue := [{ job := critJobOf s r o k, result := none, mute := false }] } }).bump Od.critWrites

/-- What its write is given. -/
def State.critCtx (s : State) (r : Req) (o : DictOp) (k : Nat) : WriteCtx := (s.judging r o k).ctxOf (critJobOf s r o k) o

/-- The request is accepted with a final outcome, and its commit follows (R340). -/
def State.accepted (t s : State) (r : Req) (o : DictOp) (k : Nat) (st : Status) (ob : Obj) (epoch : Nat) : State :=
  ({ t with dict := { t.dict with critQueue :=
      [{ job := critJobOf s r o k, result := some { status := st, type := ob.type.code, len := 0, value := 0, epoch := epoch }, mute := false }] } }).later
    1900000 .nvsCommit

/-- A WRITE_EPOCH accepted for epoch `e`: the change is pending, and the request is accepted DEFERRED (R345). -/
def State.defers (s : State) (r : Req) (o : DictOp) (k e : Nat) (ob : Obj) : State :=
  ((s.judging r o k).addChange e o.addr o.value false (s.principal (s.sessionOf r.session))).accepted s r o k .deferred ob (low 32 e)

/-- A copy of a live bank begins, and holds its block (R156). -/
def State.copyBegun (s : State) (f : Nat) (j : Job) : State :=
  ({ s with copies := s.copies ++ [{ fam := f, job := j }] } : State).later (s.copyTime f) (.copyLiveDone f)

/-! Blocks and descriptors. -/

/-- A block without a key of one operation: it passes checks 1, 2 and 4 of R337 on PCIe. -/
def Block.plainOf (b : Block) (pcie exact_ : Bool) (o : DictOp) : Bool :=
  b.known && b.kind = 1 && b.slot = 255 && !b.critical && b.ops? pcie exact_ = some [o]

/-- The engine takes a sound descriptor `d` of opcode `op` from the next slot of WQ `w` (R360 to R365). -/
def State.takes (s : State) (fn w op : Nat) (desc : Option Nat) (d : Nat) : Bool :=
  !s.stopped && s.hostUp && decide (w < 1024) && s.fetches fn w && !s.mustWait fn w op && (s.wq fn w).chain.isNone &&
    (s.peekDesc fn w desc).word = d && (s.peekDesc fn w desc).sound && dOp d = op && headOk (s.rd Od.wqKind (wqInst fn w)) d && dFirst d

/-- The state with that descriptor taken: the fetch index moves on, and a pushed copy is used up (R360). -/
def State.fetched (s : State) (fn w : Nat) : State :=
  let q := s.wq fn w
  let n := s.rd Od.wqSize (wqInst fn w)
  s.setWq fn w { q with fetch := (q.fetch + 1) % (2 * n), copies := sparseErase q.copies (q.fetch % n) }

/-- The operation of descriptor `d`, just taken, ends with a status and AUX (R365). -/
def State.ends (t s : State) (fn w d : Nat) (st : Status) (aux : Nat) : State := t.endOp fn w (s.wq fn w).fetch (dBatch d) (dUser d) st aux

/-! Threads. -/

/-- Thread `t` of an engine stands on word `w` for the packet or copy `k`, breaks no rule there, and waits for no lock (R202, R212, R218). -/
structure OnWord (s : State) (p : Nat) (eg : Bool) (t : Nat) (th : Thread) (k : Packet) (w : Nat) : Prop where
  runs : s.stopped = false
  pipe : p % 16 ≤ 8
  die : s.hasDie (p / 16) = true
  thread : s.thread? p eg t = some th
  item : s.item? eg th.item = some k
  word : s.word eg th.bank th.pc = w
  clear : th.trap = 0
  free : th.ctxWaiting = false

/-- A unit of ALU `u` has a result for the end of the word: its value, the value that the flags are taken from, and its carry (R205, R210). -/
def Thread.latched (th : Thread) (u v f : Nat) (c : Bool) : Thread :=
  if u = 0 then { th.ran 0 with nextA0 := some (v, f, c) } else { th.ran 1 with nextA1 := some (v, f) }

/-- A word ends without ending its routine: its results stand, and the thread is on the word at `pc` once its fetch has come (R199, R202, R210). -/
def State.wordEnds (s : State) (p : Nat) (eg : Bool) (t : Nat) (th : Thread) (k : Packet) (w wait pc : Nat) (stack : List Nat) : State :=
  let th1 := th.closeWord w
  let k1 : Packet := if th1.committed then { k with hv := th1.hv, log := th1.log } else k
  (s.setItem eg th.item k1).setThread p eg t
    (s.enterWord eg k1 { th1 with pc := pc, stack := stack, occupancy := th1.occupancy + wait, fetchWait := th1.fetchWait + wait })

end Sys2Proof.Machine
end

