-- ==== Sys2Proof/Certificates/Slice0/Obligations.lean ====
section
/-! DEFINITION. The statements: what each command does, by family. -/

open Sys2Proof Sys2Proof.Machine

/-- One step runs the command at the front of the queue with the rest of the queue in place. On an empty queue it runs the first command of the model's own
agenda that is due, and else one nanosecond of the time-unit clock passes (the model's choice, log 5). -/
def Obligations.StepRunsFront : Prop :=
  ∀ s : State, (∀ c : Instr, step { s with pending := c :: s.pending } = exec c s) ∧
    (s.pending = [] → (s.nextDue = none → step s = .next s.clock) ∧
      (∀ due c, s.nextDue = some (due, c) → step s = exec c { s with agenda := s.agenda.erase (due, c) }))

/-- A step takes exactly one command off the queue, leaves the others in their order, and never changes what part the package is (R1, R2). -/
def Obligations.StepTakesOne : Prop :=
  ∀ s t : State, step s = .next t → t.pending = s.pending.tail ∧ t.part = s.part

/-- In every state whose register file and NVS images are in canonical form, each step keeps them so: no register is listed twice, none at its default, and
an NVS image holds non-volatile registers alone (R326, R341). -/
def Obligations.RegistersKeepForm : Prop :=
  ∀ s t : State, s.sound = true → step s = .next t → t.sound = true

/-- In every state whose keyed lists stand in order, each step keeps them so: no queue, context, cell, family, lane or slice is ever listed twice. -/
def Obligations.ListsKeepOrder : Prop :=
  ∀ s t : State, s.sound = true → s.ordered = true → step s = .next t → t.ordered = true

/-- The state right after reset (R43, R47, R326): every register at its default value, package time 0 in epoch 0, no session, no fault, no packet, no table
record, an empty queue; it is sound and in order. The default of a register for which the spec gives none is the model's choice (log 2). -/
def Obligations.ResetState : Prop :=
  State.reset.sound = true ∧ State.reset.ordered = true ∧ State.reset.stopped = false ∧ (∀ o inst k, State.reset.rd o inst k = Od.defaultAt (o.key inst k)) ∧
    State.reset.rd Od.bootStage = 0 ∧ State.reset.rd Od.epochLength = 128 ∧ State.reset.rd Od.leadDie = 0 ∧ State.reset.rd Od.timeSource = 0 ∧
    State.reset.time.now = 0 ∧ State.reset.time.epoch = 0 ∧ State.reset.pending = [] ∧ State.reset.out = [] ∧ State.reset.packets = [] ∧
    State.reset.tables = [] ∧ State.reset.dict.kdp = [] ∧ State.reset.dict.holders = [] ∧ State.reset.recov.log = [] ∧ State.reset.recov.fenced = [] ∧
    (∀ n, State.reset.portStateOf n = 0) ∧ (∀ d c, State.reset.counter d c = 0)

/-- A critical request whose counter is that of the last accepted request of its slot, and whose operation is that request's, is answered with the stored
response and the repeat's own TAG, and is not executed again (R13, R339); on any other operation or a lower counter it is answered STALE_COUNTER. -/
def Obligations.StoredResponses : Prop :=
  ∀ (s : State) (k : Nat) (x : StoredResponse), sparseFind? s.dict.live.stored k = some x →
    (∀ j : Job, j.slot = k → j.counter = s.counterLast k → j.ops = [x.op] →
      s.addCritical j = (s.bump Od.repeatsAnswered).finishJob { j with ops := [], done := [(x.op, x.result)] } .ok) ∧
    (∀ j : Job, j.slot = k → j.counter < s.counterLast k ∨ (j.counter = s.counterLast k ∧ j.ops ≠ [x.op]) →
      s.addCritical j = (s.bump Od.staleCounters).finishJob j .staleCounter) ∧
    (∀ (r : Req) a len v o, o = ({ op := 2, addr := a, len := len, value := v, epoch := 0 } : DictOp) → len ≤ 1376 → s.stopped = false → s.hostUp = true →
      r.keySlot = some k → k < 8 → r.critical = true → isFunction r.session = true → s.hasRight k a.index = true →
      s.authentic true true k (rowHeader false r (requestRecord false o).length ++ requestRecord false o) (beBytes 16 r.check) = true →
      r.counter = s.counterLast k → x.op = o → exec (.writeObj r a len v) s = .next ((s.bump Od.repeatsAnswered).emit
        (.response (s.sessionOf r.session) r.tag x.result.status x.result.type x.result.epoch x.result.len x.result.value)))

/-- The ingress priority group of a frame (R282): the octet of PORT_PG_MAP that its outer 802.1Q tag's PCP selects, or PORT_DEFAULT_PG without a tag; a frame
that starts carries it before it is parsed, and its cells are charged to that cell class; a frame that waits keeps it. -/
def Obligations.PriorityGroups : Prop :=
  ∀ (s : State) (n g : Nat) (frame : List Byte), s.sound = true → s.stopped = false → n < 512 → s.hasDie (n / 64) = true → s.portStateOf n = 2 →
    64 ≤ frame.length → frame.length ≤ 10240 → (516 < frame.length ∨ goodFcs frame = true) → beNat (slice frame 12 2) ≠ 0x8808 →
    (∀ p, p < 8 → s.rdOctet Od.portPgMap (portInst n) 0 p < 8) → s.rd Od.portDefaultPg (portInst n) < 8 →
    g = (if beNat (slice frame 12 2) = 0x8100 then s.rdOctet Od.portPgMap (portInst n) 0 (bits (beNat (slice frame 14 2)) 15 13)
      else s.rd Od.portDefaultPg (portInst n)) →
    s.waitingAt (n / 64) (n % 64 / 8) = [] → g < 8 ∧
      (s.mayStart n g = true → Runs (.frameReceive n frame) s fun t => ∃ k rec, t.packet? s.nextPacket = some k ∧ k.stage = .received ∧ k.pg = g ∧
        t.record? (n / 64) k.head = some rec ∧ rec.cls = g ∧ rec.cells = cellsOf frame.length ∧
        t.rd Od.pgCells (portInst n) g = s.rd Od.pgCells (portInst n) g + cellsOf frame.length) ∧
      (s.mayStart n g = false → s.rd Od.bpmClassPolicy 0 g = 0 → Runs (.frameReceive n frame) s fun t =>
        t.waitingAt (n / 64) (n % 64 / 8) = [{ port := n, frame := frame, pg := g, since := s.up, hv := s.freshHv n frame.length }] ∧ t.packets = s.packets)

/-- A fire on a source that is not IDLE is lost: LOST adds one up to 255 and EVC_LOST_TOTAL of the die counts it. A fire on a source that is disabled or has
no target is ignored: nothing changes, so nothing is recalled later (R387). -/
def Obligations.LostFires : Prop :=
  ∀ (s : State) (d n : Nat) (e : EventSource), s.stopped = false → s.hasDie d = true → e = s.source (d * 4096 + n) →
    (e.enable = false ∨ e.targetKind = 0 → exec (.eventFire d n) s = .next s) ∧
    (s.sourceExists d n = true → s.canFire d n = true → e.enable = true → e.targetKind ≠ 0 → e.state ≠ 0 → exec (.eventFire d n) s =
      .next ((s.setSource (d * 4096 + n) { e with lost := min 255 (e.lost + 1) }).bump Od.evcLostTotal (dieInst d)))

/-- Rows that write one object for a function without a key, with the object's own effect (R346, R418, R458, R459, R466): claims of 1PPS_OUT, of a spare
pipeline and of the loopback path, the throttle objects, POWER_WAKE. A claim of what another principal holds answers RESOURCE_BUSY. -/
def Obligations.PackageWrites : Prop :=
  ∀ (s : State) (r : Req) (v : Nat), s.sound = true → s.hearsPlain r = true →
    (s.smoulder = false → ∀ p, p = s.principal (s.sessionOf r.session) →
      (v ≤ 2 → ∀ a, a = Obj.at_ Od.ppsOutFunction 0 0 →
        (s.heldByOther (addrKey a) p = false → exec (.ppsOutFunction r v) s = .next ((s.claimed a p v).answers s r .ok Od.ppsOutFunction 0)) ∧
        (s.heldByOther (addrKey a) p = true → exec (.ppsOutFunction r v) s = .next (s.answersBusy r a Od.ppsOutFunction))) ∧
      (v ≤ 1 → ∀ d a, s.hasDie d = true → a = Obj.at_ Od.sparePipelineClaim (dieInst d) 0 →
        (s.heldByOther (addrKey a) p = false → exec (.sparePipelineClaim r d v) s = .next ((s.claimed a p v).answers s r .ok Od.sparePipelineClaim 0)) ∧
        (s.heldByOther (addrKey a) p = true → exec (.sparePipelineClaim r d v) s = .next (s.answersBusy r a Od.sparePipelineClaim))) ∧
      (v ≤ 3 → ∀ a, a = Obj.at_ Od.loopbackClaim 0 0 →
        (s.heldByOther (addrKey a) p = false → exec (.loopbackClaim r v) s = .next ((s.part.dies.foldl (fun t d =>
          (t.setReserved d 8 (if v = 1 ∨ v = 3 then 512 else 0)).setReserved d 9 (if v = 2 ∨ v = 3 then 512 else 0)) (s.claimed a p v)).answers s r .ok
            Od.loopbackClaim 0)) ∧
        (s.heldByOther (addrKey a) p = true → exec (.loopbackClaim r v) s = .next (s.answersBusy r a Od.loopbackClaim))) ∧
      (v ≤ 3 → (∀ d ∈ s.part.dies, s.stepOf d ≤ v) →
        exec (.throttleStepLimit r v) s = .next ((s.wr Od.throttleStepLimit v).answers s r .ok Od.throttleStepLimit 0)) ∧
      (∀ d, s.hasDie d = true → v ≤ 3 → v ≤ s.rd Od.throttleStepLimit → s.rd Od.throttleMode ≠ 0 →
        exec (.throttleStepSet r d v) s =
          .next (((s.wr Od.throttleStepSet v (dieInst d)).decideThrottle d v).answers s r .ok Od.throttleStepSet 0))) ∧
    (s.rd Od.powerState = 2 → exec (.powerWake r 1) s = .next (((((((s.wr Od.powerState 5).wr Od.wakeReason 3).wr Od.wakeSource 0x0FFF).later 0
      (.eventFire (s.rd Od.leadDie) 0x162))).later 300000000 .smoulderWake).answers s r .ok Od.powerWake 0))

/-- The rows that set a port up (R65 to R67, R87, R91): OCTET_RATE_GROUP and PORT_MODE while the ports are DISABLED, PORT_ENABLE by the state of the port,
LINK_RETRAIN_AUTO. -/
def Obligations.PortWrites : Prop :=
  ∀ (s : State) (r : Req) (n v : Nat), s.sound = true → s.hearsPlain r = true → s.smoulder = false → n < 512 → s.hasDie (n / 64) = true →
    (n % 8 = 0 → v ≤ 1 → (∀ k < 8, s.portStateOf (n + k) = 0 ∧ (s.portModeOf (n + k) = 0 ∨ modeGroup (s.portModeOf (n + k)) = v)) →
      exec (.octetRateGroup r n v) s = .next ((s.wr Od.octetRateGroup v (portInst n)).answers s r .ok Od.octetRateGroup 0)) ∧
    (v ≤ 12 → s.checkMode n v = .ok → s.portModeOf n ≠ v →
      exec (.portMode r n v) s = .next (((s.resetPortObjects n).wr Od.portMode v (portInst n)).answers s r .ok Od.portMode 0)) ∧
    (v ≤ 12 → s.checkMode n v = .ok → s.portModeOf n = v → exec (.portMode r n v) s = .next (s.answers s r .ok Od.portMode 0)) ∧
    (s.portModeOf n ≠ 0 →
      (s.portStateOf n = 0 → exec (.portEnable r n 1) s = .next (((((s.wr Od.portEnable 1 (portInst n)).setPortLink n
        { s.portLink n with noPartner := false, stored := none }).startTraining n false)).answers s r .ok Od.portEnable 0)) ∧
      (s.portStateOf n = 4 → exec (.portEnable r n 1) s =
        .next (((s.wr Od.portEnable 1 (portInst n)).wr Od.portState 5 (portInst n)).answers s r .deferred Od.portEnable 0)) ∧
      (s.portStateOf n = 2 ∨ s.portStateOf n = 5 → exec (.portEnable r n 0) s =
        .next ((if s.portStateOf n = 2 then (s.wr Od.portEnable 0 (portInst n)).beginDrain n
          else (s.wr Od.portEnable 0 (portInst n)).wr Od.portState 4 (portInst n)).answers s r .ok Od.portEnable 0)) ∧
      (s.portStateOf n = 1 ∨ s.portStateOf n = 3 → exec (.portEnable r n 0) s =
        .next (((s.wr Od.portEnable 0 (portInst n)).squelch n).answers s r .ok Od.portEnable 0)) ∧
      (v ≤ 1 → v = 0 ∨ s.portStateOf n ≠ 3 → exec (.linkRetrainAuto r n v) s =
        .next ((s.wr Od.linkRetrainAuto v (portInst n)).answers s r .ok Od.linkRetrainAuto 0)) ∧
      (s.portStateOf n = 3 → exec (.linkRetrainAuto r n 1) s =
        .next (((s.wr Od.linkRetrainAuto 1 (portInst n)).startTraining n true).answers s r .ok Od.linkRetrainAuto 0)))

/-- A critical WRITE_EPOCH of each swap, commit, changeover and migration answers DEFERRED with the resolved epoch, and the change stands pending (R48, R86,
R99, R136, R137, R155, R191, R228, R237, R297, R345, R419). -/
def Obligations.SwapsDeferred : Prop :=
  ∀ (s : State) (r : Req) (k v epoch e : Nat), s.sound = true → s.smoulder = false → s.changeRoom = true → s.resolveEpoch epoch = some e →
    (∀ f, s.swapPending f = false → s.famHeld f = false → (s.fam f).disagree = [] → (s.fam f).stale = false →
      (∀ t, t ≤ 14 → f = famOfTable (0x40 + t) → s.hearsCritical r (epochOp (Obj.at_ Od.tableSwap 0 t) 1 epoch) k = true →
        exec (.tableSwap r t 1 epoch) s = .next (s.defers r (epochOp (Obj.at_ Od.tableSwap 0 t) 1 epoch) k e Od.tableSwap)) ∧
      (f = 0x4B → s.hearsCritical r (epochOp (Obj.at_ Od.ecmpSwap 0 0) 1 epoch) k = true →
        exec (.ecmpSwap r 1 epoch) s = .next (s.defers r (epochOp (Obj.at_ Od.ecmpSwap 0 0) 1 epoch) k e Od.ecmpSwap)) ∧
      (f = 0x30 → s.hearsCritical r (epochOp (Obj.at_ Od.parserSwap 0 0) 1 epoch) k = true →
        exec (.parserSwap r 1 epoch) s = .next (s.defers r (epochOp (Obj.at_ Od.parserSwap 0 0) 1 epoch) k e Od.parserSwap)) ∧
      (f = 0x58 → s.hearsCritical r (epochOp (Obj.at_ Od.placeSwap 0 0) 1 epoch) k = true →
        exec (.placeSwap r 1 epoch) s = .next (s.defers r (epochOp (Obj.at_ Od.placeSwap 0 0) 1 epoch) k e Od.placeSwap)) ∧
      (f = 0x54 → s.hearsCritical r (epochOp (Obj.at_ Od.rewriteSwap 0 0) 1 epoch) k = true →
        exec (.rewriteSwap r 1 epoch) s = .next (s.defers r (epochOp (Obj.at_ Od.rewriteSwap 0 0) 1 epoch) k e Od.rewriteSwap)) ∧
      (∀ n, n < 512 → s.hasDie (n / 64) = true → f = gateFam n → (s.gate n).swap = none →
        s.hearsCritical r (epochOp (Obj.at_ Od.gclSwap (portInst n) 0) 1 epoch) k = true →
        exec (.gclSwap r n 1 epoch) s = .next (s.defers r (epochOp (Obj.at_ Od.gclSwap (portInst n) 0) 1 epoch) k e Od.gclSwap)) ∧
      (∀ i, i ≤ 1 → f = 0x200 + i → v = s.imageDigest i (s.shadowOf f) → s.rd Od.aeCodeLinkedVersion (bankInst (s.shadowOf f)) i = s.rd Od.aeDechusVersion →
        s.hearsCritical r (epochOp (Obj.at_ Od.aeCodeSwap 0 i) v epoch) k = true →
        exec (.aeCodeSwap r i v epoch) s = .next (s.defers r (epochOp (Obj.at_ Od.aeCodeSwap 0 i) v epoch) k e Od.aeCodeSwap)) ∧
      (∀ set, set < 12 → f = 0x100 + set → s.commitPending set = false → s.setBanks set true ≠ [] →
        s.hearsCritical r (epochOp (Obj.at_ Od.asaSetSwap 0 set) 1 epoch) k = true →
        exec (.asaSetSwap r set 1 epoch) s = .next (s.defers r (epochOp (Obj.at_ Od.asaSetSwap 0 set) 1 epoch) k e Od.asaSetSwap))) ∧
    (∀ set, set < 12 → s.swapPending (0x100 + set) = false → s.commitPending set = false → s.pendingGate set = true →
      s.hearsCritical r (epochOp (Obj.at_ Od.asaSetCommit 0 set) 1 epoch) k = true →
      ∃ t, exec (.asaSetCommit r set 1 epoch) s = .next t ∧
        t = { s.defers r (epochOp (Obj.at_ Od.asaSetCommit 0 set) 1 epoch) k e Od.asaSetCommit with asa := (s.gateEpoch set 0 (some e)).asa }) ∧
    (∀ n, n < 512 → n % 8 = 0 → s.hasDie (n / 64) = true → s.ns + 2000000 ≤ e * s.epochNs → v ≤ 7 →
      (s.sliceState (n / 8) = 2 → (s.spareSlice (n / 8)).job = none → s.hearsCritical r (epochOp (Obj.at_ Od.spareChangeover (portInst n) 0) v epoch) k = true →
        exec (.spareChangeover r n v epoch) s =
          .next (s.defers r (epochOp (Obj.at_ Od.spareChangeover (portInst n) 0) v epoch) k e Od.spareChangeover)) ∧
      (s.sliceRetired (n / 8) v = false → s.hearsCritical r (epochOp (Obj.at_ Od.spareRelease (portInst n) 0) v epoch) k = true →
        exec (.spareRelease r n v epoch) s = .next (s.defers r (epochOp (Obj.at_ Od.spareRelease (portInst n) 0) v epoch) k e Od.spareRelease))) ∧
    (∀ d, s.hasDie d = true → v ≤ 7 → s.rdOctet Od.sparePipelineState (dieInst d) 0 0 = 2 → s.rdOctet Od.sparePipelineState (dieInst d) 0 1 = 2 →
      s.rd Od.sparePipelineClaim (dieInst d) = 0 → (∀ c ∈ s.sched.changes, c.isFor (Obj.at_ Od.pipelineMigrate (dieInst d) 0) = false) →
      s.hearsCritical r (epochOp (Obj.at_ Od.pipelineMigrate (dieInst d) 0) v epoch) k = true →
      exec (.pipelineMigrate r d v epoch) s = .next (s.defers r (epochOp (Obj.at_ Od.pipelineMigrate (dieInst d) 0) v epoch) k e Od.pipelineMigrate))

/-- Writes of shadow banks (R153, R157, R176, R225, R226): a seed and a size empty the shadow bank of their table; a clear, a block of words and an entry of
the customer microcode. A write of each COPY_LIVE object starts a copy that holds its request, and COPY_LIVE_DONE makes it (R122, R156, R192, R228, R254). -/
def Obligations.ShadowAndCopyWrites : Prop :=
  (
    ∀ (s : State) (r : Req) (k v : Nat), s.sound = true → s.smoulder = false →
      (∀ t f, s.hearsPlain r = true → t ≤ 14 → f = famOfTable (0x40 + t) → s.bankState f ≠ 1 → s.bankState f ≠ 2 →
        (v < 2 ^ 32 → exec (.tableShadowSeed r t v) s =
          .next ((s.emptyShadow f (0x40 + t) Od.tableShadowSeed t v (s.principal (s.sessionOf r.session))).answers s r .ok Od.tableShadowSeed 0)) ∧
        ((t = 1 ∨ t = 3 ∨ (5 ≤ t ∧ t ≤ 10) ∨ t = 12 ∨ t = 13) → isPow2 v = true → v ≤ maxTiles (0x40 + t) →
          s.tilesUsed + v - s.tiles (0x40 + t) (s.shadowOf f) ≤ 256 → exec (.tableShadowTiles r t v) s =
            .next ((s.emptyShadow f (0x40 + t) Od.tableShadowTiles t v (s.principal (s.sessionOf r.session))).answers s r .ok Od.tableShadowTiles 0))) ∧
      (∀ i f p, i ≤ 1 → f = 0x200 + i → s.famHeld f = false → p = s.principal (s.sessionOf r.session) →
        (∀ o j, o = writeOp (Obj.at_ Od.aeCodeClear 0 i) 1 → s.hearsCritical r o k = true → j = s.judging r o k →
          exec (.aeCodeClear r i 1) s = .next (((j.clearCode i).touchFam f p).accepted s r o k .ok Od.aeCodeClear 0)) ∧
        (∀ o j addr w, o = writeOp (Obj.at_ Od.aeCodeBlock 0 i) v → s.hearsCritical r o k = true → j = s.judging r o k →
          v = addr * 2 ^ 8080 + 1 * 2 ^ 8064 + w * 2 ^ 7872 → w < 2 ^ 192 → inRegion addr = true → wordReason i s.exports addr w = 0 →
          exec (.aeCodeBlock r i v) s =
            .next (((j.setTbl (s.shadowOf f) (0x100 + i) (addr - 0x3000) w).touchFam f p).accepted s r o k .ok Od.aeCodeBlock 0)) ∧
        (∀ o j op target, o = writeOp (Obj.at_ Od.aeDispatchEntry 0 i) v → s.hearsCritical r o k = true → j = s.judging r o k → 0xC0 ≤ op → op ≤ 0xFF →
          inRegion target = true → v = op * 2 ^ 56 + 2 ^ 31 + target * 2 ^ 16 →
          exec (.aeDispatchEntry r i v) s =
            .next (((j.setTbl (s.shadowOf f) (0x110 + i) op (2 ^ 31 + target * 2 ^ 16)).touchFam f p).accepted s r o k .ok Od.aeDispatchEntry 0)))) ∧
  (
    ∀ (s : State) (r : Req), s.sound = true → s.hearsPlain r = true → s.smoulder = false →
      (∀ f, s.swapPending f = false → s.famHeld f = false →
        (∀ t, t ≤ 14 → f = famOfTable (0x40 + t) → exec (.tableCopyLive r t 1) s = .next (s.copyBegun f (rowJob s r (writeOp (Obj.at_ Od.tableCopyLive 0 t) 1)))) ∧
        (f = 0x30 → exec (.parserCopyLive r 1) s = .next (s.copyBegun f (rowJob s r (writeOp (Obj.at_ Od.parserCopyLive 0 0) 1)))) ∧
        (f = 0x58 → exec (.placeCopyLive r 1) s = .next (s.copyBegun f (rowJob s r (writeOp (Obj.at_ Od.placeCopyLive 0 0) 1)))) ∧
        (f = 0x54 → exec (.rewriteCopyLive r 1) s = .next (s.copyBegun f (rowJob s r (writeOp (Obj.at_ Od.rewriteCopyLive 0 0) 1)))) ∧
        (∀ i, i ≤ 1 → f = 0x200 + i → exec (.aeCodeCopyLive r i 1) s = .next (s.copyBegun f (rowJob s r (writeOp (Obj.at_ Od.aeCodeCopyLive 0 i) 1)))) ∧
        (∀ rest, s.copies = { fam := f, job := rowJob s r (writeOp (Obj.at_ Od.parserCopyLive 0 0) 1) } :: rest → f = 0x30 →
          exec (.copyLiveDone f) s = .next ((({ s with copies := rest } : State).copyFamily f).touchFam f (s.principal (s.sessionOf r.session)) |>.answers s r .ok
            Od.parserCopyLive 0))))

/-- Critical writes of the time and recovery objects: each is executed when its request is accepted (R340) with the object's effect (R42, R43, R45, R52,
R409, R434, R463), and the request stays in the critical queue until its commit. After a junction trip FAULT_N_RELEASE answers STATE (R460). -/
def Obligations.CriticalTimeAndRecovery : Prop :=
  ∀ (s : State) (r : Req) (k v : Nat), s.sound = true → s.smoulder = false →
    (∀ o j, o = writeOp (Obj.at_ Od.todSet 0 0) v → s.hearsCritical r o k = true → j = s.judging r o k → v < 2 ^ 96 → bits v 47 16 ≤ 999999999 →
      (s.time.lastEdge = none ∨ (∃ e, s.time.lastEdge = some e ∧ s.up + 100000000 ≤ e + 1000000000) →
        exec (.todSet r v) s = .next (({ j with time := { j.time with tod := some (v, 1) } } : State).accepted s r o k .ok Od.todSet 0)) ∧
      (∀ e, s.time.lastEdge = some e → e + 1000000000 < s.up + 100000000 →
        exec (.todSet r v) s =
          .next ((({ j with time := { j.time with tod := some (v, 2) } } : State).fireLead 0x141).accepted s r o k .ok Od.todSet 0))) ∧
    (∀ o j, o = writeOp (Obj.at_ Od.timeSource 0 0) v → s.hearsCritical r o k = true → j = s.judging r o k → v ≤ 2 →
      (v ≠ 0 → exec (.timeSource r v) s = .next ((j.wr Od.timeSource v).accepted s r o k .ok Od.timeSource 0)) ∧
      (v = 0 → exec (.timeSource r v) s = .next ((({ j.wr Od.timeSource 0 with time := { j.time with todKnown := false, tod := none } } :
        State).toTimeState 0).accepted s r o k .ok Od.timeSource 0))) ∧
    (∀ o j x, o = writeOp (Obj.at_ Od.timeStepAccept 0 0) 1 → s.hearsCritical r o k = true → j = s.judging r o k → s.time.refused = some x →
      exec (.timeStepAccept r 1) s = .next ((j.decideStep x).accepted s r o k .ok Od.timeStepAccept 0)) ∧
    (∀ o j a e, o = writeOp (Obj.at_ Od.schedCancel 0 0) v → s.hearsCritical r o k = true → j = s.judging r o k → v < 2 ^ 96 → bits v 55 32 = 0 →
      a = ({ inst := bits v 95 80, index := bits v 79 64, sub := bits v 63 56 } : Address) → s.resolveEpoch (low 32 v) = some e →
      (∃ c ∈ s.sched.changes, c.isFor a = true ∧ c.epoch = e) →
      exec (.schedCancel r v) s = .next ((j.cancelChanges (fun c => c.isFor a && c.epoch = e) .ok).accepted s r o k .ok Od.schedCancel 0)) ∧
    (∀ o j, o = writeOp (Obj.at_ Od.recoveryCancel 0 0) 1 → s.hearsCritical r o k = true → j = s.judging r o k →
      exec (.recoveryCancel r 1) s =
        .next ((j.cancelChanges (fun c => decide (s.time.epoch + 4 ≤ c.epoch)) .ok).accepted s r o k .ok Od.recoveryCancel 0)) ∧
    (∀ o j, o = writeOp (Obj.at_ Od.recoveryClearShadows 0 0) 1 → s.hearsCritical r o k = true → j = s.judging r o k → s.shadowsBusy = false →
      exec (.recoveryClearShadows r 1) s = .next (j.clearShadows.accepted s r o k .ok Od.recoveryClearShadows 0)) ∧
    (∀ o j, o = writeOp (Obj.at_ Od.faultNRelease 0 0) 1 → s.hearsCritical r o k = true → j = s.judging r o k → s.recov.pin = true → s.recov.trip = false →
      exec (.faultNRelease r 1) s = .next ((((({ j with recov := { j.recov with pin := false } } :
        State).wr Od.faultNAsserted 0).wr Od.lampState (if j.sparesLow = 0 then 1 else 2)).emit (.pin 4 1)).startLamp.accepted s r o k .ok Od.faultNRelease 0)) ∧
    (s.recov.trip = true → exec (.faultNRelease r v) s = .next (s.emit (.response (s.sessionOf r.session) r.tag .state 0 0 0 0))) ∧
    (∀ o j, o = writeOp (Obj.at_ Od.powerRequest 0 0) v → s.hearsCritical r o k = true → j = s.judging r o k → v = 1 ∨ v = 2 →
      s.rd Od.powerState = 0 → s.sched.changes = [] → s.shadowsBusy = false → s.recov.pin = false →
      exec (.powerRequest r v) s = .next ((j.powerEntry v).accepted s r o k .ok Od.powerRequest 0))

/-- The key store and sessions (R336, R342 to R344, R350, R474): a critical KEY_SET and ENGINE_RESET are accepted and change nothing yet; KEY_CLEAR and SEAL
change the store at once; KEY_PROVISION over SMBus is committed at once, and refused with ACCESS to a host function; SESSION_RESET is answered and then
resets its function. -/
def Obligations.KeysAndSessions : Prop :=
  ∀ (s : State) (r : Req) (v : Nat), s.sound = true → s.smoulder = false →
    (∀ o x, o = writeOp (Obj.at_ Od.keySet 0 0) v → s.hearsCritical r o 1 = true → v < 2 ^ 384 →
      unwrapKey (s.slotKey 1) r.counter v = some x → exec (.keySet r v) s = .next ((s.judging r o 1).accepted s r o 1 .ok Od.keySet 0)) ∧
    (∀ o, o = writeOp (Obj.at_ Od.keyClear 0 0) v → s.hearsCritical r o 1 = true → 2 ≤ v → v ≤ 7 → exec (.keyClear r v) s =
      .next (((s.judging r o 1).setLive { s.dict.live with keys := sparseErase s.dict.live.keys v }).accepted s r o 1 .ok Od.keyClear 0)) ∧
    (∀ o, o = writeOp (Obj.at_ Od.sealObj 0 0) 1 → s.hearsCritical r o 1 = true →
      exec (.sealWrite r 1) s = .next (((s.judging r o 1).setLive { s.dict.live with security := 1 }).accepted s r o 1 .ok Od.sealObj 0)) ∧
    (∀ o k, o = writeOp (Obj.at_ Od.engineReset 0 0) 1 → s.hearsCritical r o k = true →
      exec (.engineReset r 1) s = .next ((s.judging r o k).accepted s r o k .ok Od.engineReset 0)) ∧
    (s.hearsPlain r = true → v < 2 ^ 256 → exec (.keyProvision r v) s = .next (s.answers s r .access Od.keyProvision 0)) ∧
    (r.session = .smbus → s.stopped = false → s.hostUp = true → s.dict.live.security = 0 → v < 2 ^ 256 →
      exec (.keyProvision r v) s = .next
        (((s.setLive { s.dict.live with keys := sparsePut s.dict.live.keys 1 { key := v, state := 1 } }).commitNvs).answers s r .ok Od.keyProvision 0)) ∧
    (∀ h f, s.hearsPlain r = true → r.session = .pcie h f →
      exec (.sessionReset r 1) s = .next ((s.answers s r .ok Od.sessionReset 0).functionReset (s.fnOf h f) true))

/-- Critical writes of the firmware objects (R485 to R488): a block is programmed in both flashes and the slot is WRITING in both directories first; a
verification begins; a VALID slot becomes PREFERRED, and KEEPER_NOW begins the restart; the fused SVN never falls. -/
def Obligations.FirmwareWrites : Prop :=
  ∀ (s : State) (r : Req) (k v slot : Nat), s.sound = true → s.smoulder = false → slot ≤ 1 →
    (∀ o j off, o = writeOp (Obj.at_ Od.fwFlashBlock 0 0) v → s.hearsCritical r o k = true → j = s.judging r o k →
      v = slot * 256 ^ 1031 + off * 256 ^ 1024 + v % 256 ^ 1024 → off < 33554432 → off % 1024 = 0 → s.rd Od.bootSlot ≠ slot → s.fwSlot 0 ≠ 2 → s.fwSlot 1 ≠ 2 →
      exec (.fwFlashBlock r v) s = .next (((if s.boot.flash0.slot slot = 1 ∧ s.boot.flash1.slot slot = 1 then j else j.setSlots slot 1).programBlock slot off
        v).accepted s r o k .ok Od.fwFlashBlock 0)) ∧
    (∀ o j, o = writeOp (Obj.at_ Od.fwVerify 0 0) slot → s.hearsCritical r o k = true → j = s.judging r o k →
      exec (.fwVerify r slot) s = .next ((j.setFwSlot slot 2).accepted s r o k .ok Od.fwVerify 0)) ∧
    (∀ o j, o = writeOp (Obj.at_ Od.fwActivate 0 0) (slot * 256 + 1) → s.hearsCritical r o k = true → j = s.judging r o k → s.fwSlot slot = 3 →
      exec (.fwActivateNextReset r slot) s = .next ((j.setPreferred slot).accepted s r o k .ok Od.fwActivate 0)) ∧
    (∀ o j, o = writeOp (Obj.at_ Od.fwActivate 0 0) (slot * 256 + 2) → s.hearsCritical r o k = true → j = s.judging r o k → s.fwSlot slot = 3 →
      sparseFind? s.boot.keeperOnly slot = some true →
      ∃ t, exec (.fwActivateKeeperNow r slot) s = .next t ∧ t.boot = { (s.setPreferred slot).boot with activating := some slot } ∧
        (s.up + 3000000000, .keeperNowRestartDone) ∈ t.agenda ∧ t.regs = j.regs ∧ t.recov = s.recov) ∧
    (∀ o j, o = writeOp (Obj.at_ Od.fwSvnCommit 0 0) 1 → s.hearsCritical r o k = true → j = s.judging r o k → s.rd Od.bootFallbacks = 0 →
      exec (.fwSvnCommit r 1) s = .next ((j.wr Od.fusedSvn (max (s.rd Od.fusedSvn) (s.rd Od.imageSvn))).accepted s r o k .ok Od.fwSvnCommit 0))

/-- READ, WRITE, WRITE_EPOCH and READ_PENDING of any object by a function without a key (R329, R334, R337, R345): the object must exist, then its access
class is judged, then the type, then the value; a customer object stores what is written; a WRITE_EPOCH is pending for its resolved epoch. -/
def Obligations.CheckOrder : Prop :=
  ∀ (s : State) (r : Req) (a : Address), s.sound = true → s.hearsPlain r = true → s.smoulder = false →
    ∀ x, x = s.sessionOf r.session →
    (s.object? x a = none → ∀ len v epoch, len ≤ 1376 →
      exec (.readObj r a) s = .next (s.emit (.response x r.tag .noObject 0 0 0 0)) ∧
      exec (.writeObj r a len v) s = .next (s.emit (.response x r.tag .noObject 0 0 0 0)) ∧
      exec (.writeEpoch r a len v epoch) s = .next (s.emit (.response x r.tag .noObject 0 0 0 0)) ∧
      exec (.readPending r a) s = .next (s.emit (.response x r.tag .noObject 0 0 0 0))) ∧
    (∀ ob, s.object? x a = some ob → copyFamilyOf a = none → ¬(a.index = 0x1011 ∧ a.sub = 3) → ob.critical = false →
      (ob.accessAt a = .wo → exec (.readObj r a) s = .next (s.answers s r .access ob 0)) ∧
      (∀ v t, ob.accessAt a ≠ .wo → s.readValue x ob a = (.ok, v, t) →
        exec (.readObj r a) s = .next (t.emit (.response x r.tag .ok ob.type.code 0 ob.type.size v))) ∧
      (∀ len v, len ≤ 1376 → ob.accessAt a = .ro ∨ ob.accessAt a = .rwe → exec (.writeObj r a len v) s = .next (s.answers s r .access ob 0)) ∧
      (ob.accessAt a = .rw → ¬(a.index = 0x1100 ∧ a.sub = 3) → ∀ len v, len ≤ 1376 →
        (len ≠ ob.type.size → exec (.writeObj r a len v) s = .next (s.answers s r .badType ob 0)) ∧
        (len = ob.type.size → ob.permit.allows ob.type v = false → exec (.writeObj r a len v) s = .next (s.answers s r .range ob 0)) ∧
        (0xC000 ≤ a.index → a.index < 0xE000 → len = 64 → v < 2 ^ 512 → exec (.writeObj r a len v) s =
          .next (({ s with regs := sparseSet Od.defaultAt s.regs (addrKey a) v } : State).answers s r .ok ob 0))) ∧
      (ob.accessAt a = .rwe → ∀ v epoch, v < 256 ^ ob.type.size → ob.type.allows v = true → ob.permit.allows ob.type v = true → ob.type.size ≤ 1376 →
        (s.resolveEpoch epoch = none → exec (.writeEpoch r a ob.type.size v epoch) s = .next (s.answers s r .tooLate ob 0)) ∧
        (∀ e, s.resolveEpoch epoch = some e → s.changeRoom = true → a.index < 0x7000 → swapFamily a = none → a.index ≠ 0x2200 →
          ¬(0x3800 ≤ a.index ∧ a.index < 0x380C) → s.scoped x a = a → s.checkForwarding a v = .ok → exec (.writeEpoch r a ob.type.size v epoch) s =
            .next ((s.addChange e a v false (s.principal x)).answers s r .deferred ob (low 32 e))) ∧
        (∀ c, s.newestPending a = some c → exec (.readPending r a) s =
          .next (s.emit (.response x r.tag .ok ob.type.code (low 32 c.epoch) ob.type.size c.value))) ∧
        (s.newestPending a = none → exec (.readPending r a) s = .next (s.answers s r .state ob 0))))

/-- The rows of the event controller and of timers over PCIe (R383, R391, R393, R398): EVC_CLAIM takes the best waiting event of the function's masked
vectors, or reads 0x0FFF with NOT_CLAIMED; EVC_EOI ends an active event; EVC_SOURCE writes a record; a timer is claimed, armed and disarmed by its holder. -/
def Obligations.EventRows : Prop :=
  ∀ (s : State) (r : Req) (h f v : Nat), s.sound = true → s.hearsPlain r = true → s.smoulder = false → r.session = .pcie h f →
    ∀ x p, x = s.sessionOf r.session → p = s.principal x →
    (∀ key e, s.bestMasked (s.fnOf h f) = some (key, e) → exec (.evcClaim r) s =
      .next ((s.activate key 2 e.target).emit (.response x r.tag .ok Od.evcClaim.type.code 0 2 (eventCode (key / 4096) (key % 4096))))) ∧
    (s.bestMasked (s.fnOf h f) = none → exec (.evcClaim r) s = .next (s.emit (.response x r.tag .notClaimed Od.evcClaim.type.code 0 2 0x0FFF))) ∧
    (v < 32768 → (s.source v).state = 3 → (s.source v).takenKind = 2 → (s.source v).takenBy / 256 = s.fnOf h f →
      exec (.evcEoi r v) s = .next ((s.endEvent 2 (s.source v).takenBy v).answers s r .ok Od.evcEoi 0)) ∧
    (∀ d n e, s.hasDie d = true → s.sourceExists d n = true → 0x100 ≤ n → n < 0x160 ∨ (0x180 ≤ n ∧ n < 0x200) → v < 2 ^ 64 → s.badSource d n v = false →
      bitOf v 62 = false → e = s.source (d * 4096 + n) → e.state = 0 → ∀ e1,
      e1 = ({ e with enable := bitOf v 63, wake := false, priority := bits v 55 48, targetKind := bits v 47 46, target := bits v 45 32,
                     lost := if bitOf v 15 then 0 else e.lost } : EventSource) →
      ∃ w, exec (.evcSource r d n v) s = .next ((((((s.setSource (d * 4096 + n) e1).wr Od.evcWakeCount w).serveTarget e.targetKind
          e.target).serveSource (d * 4096 + n)).answers s r .ok Od.evcSource 0))) ∧
    (∀ d t a, s.hasDie d = true → t < 16 → a = Obj.at_ Od.timerClaim (dieInst d) t →
      (s.heldByOther (addrKey a) p = false →
        exec (.timerClaim r d t 1) s = .next ((s.claimed a p 1).answers s r .ok Od.timerClaim 0) ∧
        ((s.holder (addrKey a)).isSome = true →
          exec (.timerClaim r d t 0) s = .next (((s.claimed a p 0).disarmTimer d t).answers s r .ok Od.timerClaim 0) ∧
          exec (.timerArm r d t 1) s = .next ((s.armTimer d t).answers s r .ok Od.timerArm 0) ∧
          exec (.timerArm r d t 0) s = .next ((s.disarmTimer d t).answers s r .ok Od.timerArm 0))) ∧
      (s.heldByOther (addrKey a) p = true → v ≤ 1 →
        exec (.timerClaim r d t v) s = .next (s.answersBusy r a Od.timerClaim) ∧ exec (.timerArm r d t v) s = .next (s.answersBusy r a Od.timerArm)))

/-- WQ_ENABLE, CQ_ENABLE and POOL_ENABLE by the state of the queue or pool (R267, R377, R378): enabling starts a DISABLED queue at its consumer index or a CQ
at index 0; disabling a WQ or a pool starts a drain, which drops the deliveries that wait for the pool, and an unused CQ is DISABLED; enabling during the
drain answers DEFERRED and waits. -/
def Obligations.QueueEnables : Prop :=
  ∀ (s : State) (r : Req) (h f q : Nat), s.sound = true → s.hearsPlain r = true → s.smoulder = false → r.session = .pcie h f → q < 1024 →
    ∀ fn, fn = s.fnOf h f →
    (s.rd Od.wqState (wqInst fn q) = 0 → s.rd Od.cqState (cqInst fn (s.rd Od.wqCq (wqInst fn q))) = 1 →
      s.rd Od.cqKind (cqInst fn (s.rd Od.wqCq (wqInst fn q))) = 0 → exec (.wqEnable r q 1) s =
        .next ((((s.wr Od.wqEnable 1 (wqInst fn q)).setWq fn q { s.wq fn q with fetch := s.rd Od.wqCi (wqInst fn q), doneTo := s.rd Od.wqCi (wqInst fn q) }).wr
          Od.wqState 1 (wqInst fn q)).answers s r .ok Od.wqEnable 0)) ∧
    (s.rd Od.wqState (wqInst fn q) = 1 → (s.wq fn q).chain = none → (s.wq fn q).inflight ≠ [] → exec (.wqEnable r q 0) s =
      .next (((s.wr Od.wqEnable 0 (wqInst fn q)).wr Od.wqState 2 (wqInst fn q)).answers s r .ok Od.wqEnable 0)) ∧
    (s.rd Od.wqState (wqInst fn q) = 2 → exec (.wqEnable r q 1) s =
      .next (((s.wr Od.wqEnable 1 (wqInst fn q)).wr Od.wqState 3 (wqInst fn q)).answers s r .deferred Od.wqEnable 0)) ∧
    (s.rd Od.cqState (cqInst fn q) = 0 → s.rd Od.cqKind (cqInst fn q) ≠ 1 → exec (.cqEnable r q 1) s =
      .next (((((s.wr Od.cqEnable 1 (cqInst fn q)).wr Od.cqPi 0 (cqInst fn q)).wr Od.cqCi 0 (cqInst fn q)).wr Od.cqState 1 (cqInst fn q)).answers s r .ok
        Od.cqEnable 0)) ∧
    (s.rd Od.cqState (cqInst fn q) = 1 → (∀ w < 1024, s.rd Od.wqCq (wqInst fn w) = q → s.rd Od.wqState (wqInst fn w) = 0) → (s.cq fn q).hold = [] →
      (s.cq fn q).reports = [] → s.cqNamed fn q = false → exec (.cqEnable r q 0) s =
        .next (((s.wr Od.cqEnable 0 (cqInst fn q)).wr Od.cqState 0 (cqInst fn q)).answers s r .ok Od.cqEnable 0)) ∧
    (∀ k, k < 64 →
      (s.rd Od.poolState 0 k = 0 → s.rd Od.poolCount 0 k ≠ 0 → s.poolFits k = true → exec (.poolEnable r k 1) s =
        .next ((((s.wr Od.poolEnable 1 0 k).wr Od.poolState 1 0 k).wr Od.poolFunction fn 0 k).answers s r .ok Od.poolEnable 0)) ∧
      (s.rd Od.poolState 0 k = 2 → exec (.poolEnable r k 1) s =
        .next ((((s.wr Od.poolEnable 1 0 k).wr Od.poolState 3 0 k).setEnabling k fn).answers s r .deferred Od.poolEnable 0)) ∧
      (s.rd Od.poolState 0 k = 1 → exec (.poolEnable r k 0) s =
        .next (((((s.wr Od.poolEnable 0 0 k).wr Od.poolState 2 0 k).dropWaits k).settlePool k).answers s r .ok Od.poolEnable 0)))

/-- Every reset of the ENGINE and POWER_ON classes (R472 to R474, R494, R499): RESET_N, the reset that ENGINE_RESET leaves due, RESET_ENGINE and the test
instructions of JTAG, POWER_ON, and the last rail back in tolerance. A RESET_N pulse below 10 us does nothing (R495). -/
def Obligations.EngineResets : Prop :=
  ∀ s : State, s.sound = true → ∀ again, again = low 32 (s.rd Od.resetCount + 1) →
    (∀ us, 10 ≤ us → s.recov.trip = false → Runs (.resetN us) s (AfterReset s 1 0 again)) ∧
    (∀ us, 10 ≤ us → s.recov.trip = true → Runs (.resetN us) s fun t => t.rd Od.resetCause = 5 ∧ t.rd Od.resetCauseDetail = s.power.tripSensor ∧
      t.rd Od.resetCount = again ∧ t.rd Od.lampState = 3 ∧ t.recov.trip = false ∧ t.recov.lampRunning = false) ∧
    (∀ us, us < 10 → exec (.resetN us) s = .next s) ∧
    (s.stopped = false → s.boot.resetDue = true → Runs .engineResetDelayEnd s (AfterReset s 2 0 again)) ∧
    Runs (.resetEngine 1) s (AfterReset s 4 0 again) ∧
    (∀ v, s.extest = false →
      Runs (.extest v) s (fun t => AfterReset s 4 0 again t ∧ t.jtag.ir = 3 ∧ t.jtag.boundary = v ∧ t.boot.held = true) ∧
      Runs (.extestPulse v) s (fun t => AfterReset s 4 0 again t ∧ t.jtag.ir = 4 ∧ t.jtag.boundary = v ∧ t.boot.held = true) ∧
      Runs (.extestTrain v) s (fun t => AfterReset s 4 0 again t ∧ t.jtag.ir = 5 ∧ t.jtag.boundary = v ∧ t.boot.held = true)) ∧
    (s.rd Od.powerState = 0 → Runs .powerOn s fun t => AfterReset s 0 0 1 t ∧ t.boot.held = false ∧ t.jtag = State.reset.jtag) ∧
    (∀ rail, s.power.railsOut = [rail] → s.extest = false → Runs (.railInTolerance rail) s fun t => AfterReset s 0 0 again t ∧ t.stopped = false)

/-- The JTAG instructions that are no reset (R499, R500): BYPASS shifts one 0, IDCODE the part number, SAMPLE/PRELOAD loads the boundary register,
RESET_ENGINE with 0 does nothing else; selecting any of them lets the engine go. PROVISION of the key and of the seal are committed at once in a part that
serves its hosts; bits that must be 0 make them RANGE. -/
def Obligations.JtagRows : Prop :=
  ∀ (s : State) (free : Boot), free = { s.boot with held := decide (s.power.railsOut ≠ []) } →
    (∀ b, exec (.jtagBypass b) s = .next (({ s with jtag := { s.jtag with ir := 0xFFFF }, boot := free } : State).emit (.tdo 1 0))) ∧
    (∃ id, exec .idcode s = .next (({ s with jtag := { s.jtag with ir := 1 }, boot := free } : State).emit (.tdo 32 id)) ∧ id % 2 = 1 ∧
      bits id 27 12 = idPartOf s.part) ∧
    (∀ v, Runs (.samplePreload v) s fun t => t.jtag = { s.jtag with ir := 2, boundary := v } ∧ t.boot = free ∧ t.regs = s.regs ∧ t.dict = s.dict) ∧
    exec (.resetEngine 0) s = .next { s with jtag := { s.jtag with ir := 0x0C02 }, boot := free } ∧
    (∀ rsvd key, rsvd ≠ 0 → Runs (.jtagProvisionKey rsvd key) s (fun t => t.jtag.provisionStatus = Status.range.code ∧ t.dict = s.dict) ∧
      Runs (.jtagProvisionSeal rsvd key) s (fun t => t.jtag.provisionStatus = Status.range.code ∧ t.dict = s.dict)) ∧
    (s.stopped = false → s.power.railsOut = [] → s.hostUp = true → s.smoulder = false → s.dict.live.security = 0 → ∀ key, key < 2 ^ 256 →
      Runs (.jtagProvisionKey 0 key) s (fun t => t.jtag.ir = 0x0C01 ∧ t.jtag.provisionStatus = Status.ok.code ∧
        t.dict.live.keys = sparsePut s.dict.live.keys 1 { key := key, state := 1 } ∧
        (s.dict.nvs0.writable = true → t.dict.nvs0.body.keys = t.dict.live.keys ∧ t.dict.nvs0.generation = max s.dict.nvs0.generation
          s.dict.nvs1.generation + 1))) ∧
    (s.stopped = false → s.power.railsOut = [] → s.hostUp = true → s.smoulder = false → s.slotState 1 ≠ 0 →
      Runs (.jtagProvisionSeal 0 0) s (fun t => t.jtag.ir = 0x0C01 ∧ t.jtag.provisionStatus = Status.ok.code ∧ t.dict.live.security = 1 ∧
        (s.dict.nvs0.writable = true → t.dict.nvs0.body.security = 1)))

/-- The steps of a start (R460, R480 to R483): reset release, an attempt that boots and one that fails, the messages between the host dies, host-ready and
forwarding-ready. FW_VERIFY_DONE and KEEPER_NOW_RESTART_DONE (R486, R487): the outcome of a verification is shown, and a VALID slot is VALID in both
directories; the restart ends with the Keeper firmware of the slot. -/
def Obligations.StartRows : Prop :=
  (
    ∀ s : State, s.sound = true → s.stopped = false →
      (s.boot.started = false → s.rd Od.bootStage = 0 → s.rd Od.resetCause ≠ 5 → Runs .kindlingStart s fun t => t.boot.started = true ∧
        t.boot.released = s.up ∧ t.time.now = 0 ∧ t.recov.lampRunning = true ∧ t.dict.live = s.dict.bestNvs ∧ .pin 3 1 ∈ t.out ∧
        (s.up + 1500000000, .bootClaimTimeout) ∈ t.agenda) ∧
      (∀ f i, i < 2 → s.boot.started = true → s.rd Od.bootStage = 0 → s.boot.attempt = i →
        ∀ slot, slot = (if i = 0 then s.boot.flash0.preferred else 1 - s.boot.flash0.preferred) →
        (s.bootCode (s.boot.flash0.slot slot) f = 0 → Runs (.bootAttempt f) s fun t => t.rd Od.bootStage = 1 ∧ t.rd Od.bootDie = 0 ∧ t.rd Od.bootSlot = slot ∧
          t.rd Od.bootFallbacks = i ∧ t.rd Od.leadDie = 0 ∧ t.boot.attempt = 4 ∧ t.rd Od.imageSvn = leNat (slice f.header 20 4) ∧
          t.rd Od.keeperFwVersion = leNat (slice f.header 12 4) ∧ (s.canClaim = true → .control 0 s.part.secondHost 10 [] ∈ t.out)) ∧
        (s.bootCode (s.boot.flash0.slot slot) f ≠ 0 → s.bootCode (s.boot.flash0.slot slot) f ≠ 9 → Runs (.bootAttempt f) s fun t => t.rd Od.bootStage = 0 ∧
          t.boot.attempt = i + 1 ∧ (i = 1 → s.canClaim = true → .control 0 s.part.secondHost 11 [] ∈ t.out))) ∧
      (∀ f, s.boot.started = true → s.rd Od.bootStage = 0 → s.boot.attempt = 3 → s.boot.second = true →
        s.bootCode (s.boot.flash1.slot (1 - s.boot.flash1.preferred)) f ≠ 0 → Runs (.bootAttempt f) s fun t => t.rd Od.bootStage = 4 ∧ t.rd Od.faultNAsserted = 1 ∧
          t.recov.pin = true ∧ t.recov.lampRunning = false) ∧
      exec .bootClaim s = .next { s with boot := { s.boot with claimed := true } } ∧
      (s.boot.claimed = false → s.boot.started = true → s.rd Od.bootStage = 0 →
        exec .bootYield s = .next { s with boot := { s.boot with second := true, attempt := max 2 s.boot.attempt } } ∧
        (s.boot.released + 1500000000 ≤ s.up →
          exec .bootClaimTimeout s = .next { s with boot := { s.boot with second := true, attempt := max 2 s.boot.attempt } })) ∧
      (s.rd Od.bootStage = 1 → exec (.hostReady []) s = .next { s.wr Od.bootStage 2 with dict := { s.dict with mbxReady := true } }) ∧
      (s.rd Od.bootStage = 2 → Runs .forwardingReady s fun t => t.rd Od.bootStage = 3 ∧ t.dict = s.dict ∧ t.packets = s.packets ∧ t.tables = s.tables ∧
        t.time = s.time)) ∧
  (
    ∀ s : State, s.stopped = false →
      (∀ slot version svn only, slot ≤ 1 → s.fwSlot slot = 2 → version < 2 ^ 32 → svn < 2 ^ 32 → Runs (.fwVerifyDone slot 0 version svn only) s fun t =>
        t.fwSlot slot = 3 ∧ t.boot.flash0.slot slot = 2 ∧ t.boot.flash1.slot slot = 2 ∧ sparseFind? t.boot.slotVersion slot = some version ∧
        sparseFind? t.boot.slotSvn slot = some svn ∧ t.regs = (s.wr Od.fwVerifyCode 0).regs ∧ t.dict = s.dict) ∧
      (∀ slot code version svn only, slot ≤ 1 → s.fwSlot slot = 2 → code ≠ 0 → code < 256 → Runs (.fwVerifyDone slot code version svn only) s fun t =>
        t.fwSlot slot = 4 ∧ t.boot.flash0 = s.boot.flash0 ∧ t.boot.flash1 = s.boot.flash1 ∧ t.regs = (s.wr Od.fwVerifyCode code).regs ∧ t.dict = s.dict) ∧
      (∀ k v, s.boot.activating = some k → sparseFind? s.boot.slotVersion k = some v → Runs .keeperNowRestartDone s fun t => t.boot.activating = none ∧
        t.regs = (s.wr Od.keeperFwVersion v).regs ∧ t.dict = s.dict ∧ t.recov = s.recov))

/-- Power states and the throttle (R455, R458, R464, R466 to R468): the entry steps in order, a wake, the returns from both states, rails, and the throttle's
own steps. Sensors and rails (R427, R455 to R457, R460): a sample shows the hottest reading and the peak; 110 °C stops the engine through PIN and INT and
squelches the ports; a rail outside its limits holds the engine in reset. -/
def Obligations.PowerAndHeat : Prop :=
  (
    ∀ s : State, s.sound = true → s.stopped = false →
      (s.power.entryStep = 2 → s.rd Od.powerState = 3 → s.stepDrained = true → s.part.dies.all (fun d => s.puntOrder d = []) = true → s.ctrs.samples = [] →
        exec .powerEntryStep s = .next (({ s with power := { s.power with entryStep := 3 } } : State).later 0 .powerEntryStep)) ∧
      (s.power.entryStep = 3 → s.power.target = 2 → s.rd Od.powerState = 1 → exec .powerEntryStep s = .next
        (({ s with power := { s.power with entryStep := 0 } } : State).toPower 2)) ∧
      (s.power.entryStep = 6 → s.rd Od.powerState = 3 → exec .powerEntryStep s = .next (({ s with power := { s.power with entryStep := 0 } } : State).toPower 4)) ∧
      (s.power.entryStep = 0 → exec .powerEntryStep s = .next s) ∧
      (∀ k s1, k = s.power.entryStep → k ≠ 0 → s.stepDrained = true → s1 = s.endEntryStep →
        (s1.rd Od.powerState = 5 →
          (k < 5 → exec .powerEntryStep s = .next (({ s1 with power := { s1.power with entryStep := 0, target := 2 } } : State).later 0 .smoulderWake)) ∧
          (5 ≤ k → exec .powerEntryStep s = .next { s1 with power := { s1.power with entryStep := 0, target := 4 } })) ∧
        (s1.rd Od.powerState ≠ 5 →
          (k = 3 → s1.power.target ≠ 2 → exec .powerEntryStep s = .next (s1.toEntryStep 5 0)) ∧
          (k ≠ 3 → k ≠ 6 → exec .powerEntryStep s =
            .next (s1.toEntryStep (k + 1) (if k = 1 then 1000000 else if k = 5 then 2000000000 else 0))))) ∧
      (s.power.entryStep ≠ 0 → s.stepDrained = false → exec .powerEntryStep s = .next (s.later 1000 .powerEntryStep)) ∧
      (∀ us, 1000 ≤ us → s.rd Od.powerState = 4 → exec (.wakeN us) s = .next ((((s.wr Od.powerState 5).wr Od.wakeReason 1).wr Od.wakeSource 0x0FFF).later 0
        (.eventFire (s.rd Od.leadDie) 0x162))) ∧
      (∀ us, us < 1000 ∨ s.rd Od.powerState = 0 → exec (.wakeN us) s = .next s) ∧
      (s.rd Od.powerState = 5 → s.power.entryStep = 0 → s.power.target = 2 → exec .smoulderWake s = .next s.resume) ∧
      (∀ t s', s.rd Od.powerState = 5 → s.power.entryStep = 0 → s.power.target = 4 →
        s' = ((s.keepLateRails.emberTime t).emptyCustomerCode.resume).retimeTimers true → exec (.bankedWake t) s =
        .next (({ s' with recov := { s'.recov with lampRefreshed := s'.up } } : State))) ∧
      (∀ d rail, s.hasDie d = true → rail < 8 → exec (.railWarning d rail) s = .next (s.fire d 0x163)) ∧
      (∀ d k, s.hasDie d = true → sparseFind? s.power.decided d = some k → s.rd Od.searchThrottleStep (dieInst d) ≠ k → ∀ s1 : State,
        s1 = { s with power := { s.power with decided := sparseErase s.power.decided d } } →
        exec (.throttleStep d) s =
          .next ((((s1.wr Od.searchThrottleStep k (dieInst d)).bump Od.throttleChanges (dieInst d)).fire d 0x160).driveAlert s)) ∧
      (∀ d, s.hasDie d = true → sparseFind? s.power.decided d = none → exec (.throttleStep d) s = .next s) ∧
      (∀ d k s1, s.hasDie d = true → sparseFind? s.power.coolSince d = some k → s.rd Od.throttleMode = 0 → k + 10000000 ≤ s.up → 2 ≤ s.stepOf d →
        s1 = s.decideThrottle d (s.stepOf d - 1) →
        (stepRelax (s.stepOf d - 1) ≤ sparseGet (fun _ => 0) s1.power.hottest d → exec (.throttleRelaxExpire d) s = .next s1) ∧
        (sparseGet (fun _ => 0) s1.power.hottest d < stepRelax (s.stepOf d - 1) → exec (.throttleRelaxExpire d) s =
          .next (({ s1 with power := { s1.power with coolSince := sparsePut s1.power.coolSince d s1.up } } : State).later 10000000 (.throttleRelaxExpire d)))) ∧
      (∀ d at_, s.hasDie d = true → sparseFind? s.power.coolSince d = some at_ → s.rd Od.throttleMode = 0 → at_ + 10000000 ≤ s.up → s.stepOf d = 1 →
        exec (.throttleRelaxExpire d) s = .next (s.decideThrottle d 0)) ∧
      (∀ d, s.hasDie d = true → sparseFind? s.power.coolSince d = none ∨ s.rd Od.throttleMode ≠ 0 ∨ s.stepOf d = 0 ∨
        (∃ at_, sparseFind? s.power.coolSince d = some at_ ∧ s.up < at_ + 10000000) → exec (.throttleRelaxExpire d) s = .next s)) ∧
  (
    ∀ s : State, s.sound = true →
      (∀ d t, s.stopped = false → s.hasDie d = true → s.rd Od.bootStage = 0 → Runs (.thermalSample d [t]) s fun u =>
        u.rd Od.tjMax (dieInst d) = ofSigned 32 t ∧ u.rd Od.tjPeak (dieInst d) = ofSigned 32 (max t ((sparseFind? s.power.peak d).getD t)) ∧
        sparseFind? u.power.hottest d = some t ∧ u.power.decided = s.power.decided ∧ u.dict = s.dict ∧ u.packets = s.packets) ∧
      (∀ d first rest, s.stopped = false → s.hasDie d = true → ∀ t peak above, t = rest.foldl max first → peak = max t ((sparseFind? s.power.peak d).getD t) →
        above = (decide (1050 < t) && decide (s.rd Od.bootStage ≠ 0)) → ∀ s1 s2 s3 : State,
        s1 = (({ s with power := { s.power with
          hottest := sparsePut s.power.hottest d t, peak := sparsePut s.power.peak d peak, tooHot := sparseSet (fun _ => false) s.power.tooHot d above } } : State).wr Od.tjMax (ofSigned 32 t) (dieInst d)).wr Od.tjPeak (ofSigned 32 peak) (dieInst d) →
        s2 = (if above = true then s1.bump Od.thermalOverLimitTime (dieInst d) 0 20 else s1) →
        s3 = (if above = true ∧ sparseGet (fun _ => false) s.power.tooHot d = false then s2.fire d 0x161 else s2) →
        exec (.thermalSample d (first :: rest)) s =
          .next ((if s3.rd Od.throttleMode = 0 ∧ s3.rd Od.bootStage ≠ 0 then s3.autoThrottle d t else s3).driveAlert s)) ∧
      (∀ d, s.stopped = false → s.hasDie d = true → exec (.thermalSample d []) s = .next s) ∧
      (∀ d sensor temp, s.hasDie d = true → 1100 ≤ temp → s.recov.trip = false → Runs (.junctionTrip d sensor temp) s fun u => u.recov.trip = true ∧
        u.stopped = true ∧ u.power.tripSensor = sensor ∧ u.packets = s.packets ∧ u.tables = s.tables) ∧
      (∀ d sensor temp, s.hasDie d = true → temp < 1100 ∨ s.recov.trip = true → exec (.junctionTrip d sensor temp) s = .next s) ∧
      (∀ rail, rail < 8 → s.power.railsOut.contains rail = false → s.rd Od.powerState ≠ 4 → Runs (.railFault rail) s fun u => u.boot.held = true ∧
        u.stopped = true ∧ u.power.railsOut = rail :: s.power.railsOut ∧ u.power.railsLate = s.power.railsLate ∧
        (bitOf (s.reactionMask 0x19 3) 3 = false → u.packets = s.packets ∧ u.tables = s.tables ∧ u.dict = s.dict ∧ u.time = s.time)) ∧
      (∀ rail, rail < 8 → s.power.railsOut.contains rail = false → s.rd Od.powerState = 4 → exec (.railFault rail) s = .next { s with
        power := { s.power with railsOut := rail :: s.power.railsOut, railsLate := s.power.railsLate ++ [rail] }, boot := { s.boot with held := true } }) ∧
      (∀ rail, rail < 8 → rail ∈ s.power.railsOut → exec (.railFault rail) s = .next s) ∧
      (∀ rail, rail ∉ s.power.railsOut → exec (.railInTolerance rail) s = .next s) ∧
      (∀ rail left, rail ∈ s.power.railsOut → left = s.power.railsOut.filter (· ≠ rail) → ∀ s1 : State, s1 = { s with power := { s.power with railsOut := left } } →
        (left ≠ [] → exec (.railInTolerance rail) s = .next s1) ∧
        (left = [] → ∀ s2 : State, s2 = s1.engineReset 0 0 →
          exec (.railInTolerance rail) s = .next { s2 with boot := { s2.boot with held := s2.extest } })))

/-- The resets of host functions and the end of a KDP session (R336, R349, R379, R425, R432, R475): FUNCTION_LEVEL_RESET returns every WQ and CQ of its
function to DISABLED and drops its operations; PERST_N does so for the four functions of an interface, which first hands over when it is the active one of a
pair; KDP_SESSION_IDLE_EXPIRE closes a session that has been idle for KDP_SESSION_IDLE and no other. -/
def Obligations.FunctionResets : Prop :=
  ∀ s : State, s.sound = true → s.stopped = false →
    (∀ h f fn, h < 2 → f < 4 → fn = s.fnOf h f → Runs (.functionLevelReset h f) s fun t =>
      (∀ q, q < 1024 → t.rd Od.wqState (wqInst fn q) = 0 ∧ t.rd Od.cqState (cqInst fn q) = 0 ∧ t.rd Od.wqEnable (wqInst fn q) = 0 ∧
        t.rd Od.cqEnable (cqInst fn q) = 0) ∧
      (∀ e ∈ t.rings.wqs, e.1 / 1024 ≠ fn) ∧ (∀ e ∈ t.rings.cqs, e.1 / 1024 ≠ fn) ∧ (∀ o ∈ t.rings.ops, o.fn ≠ fn) ∧ (∀ o ∈ t.rings.timed, o.fn ≠ fn) ∧
      (∀ o ∈ t.rings.injects, o.fn ≠ fn) ∧ (∀ e ∈ t.dict.sessionRegs, e.1 / 2 ≠ fn) ∧
      t.packets = s.packets ∧ t.tables = s.tables ∧ t.time = s.time ∧ t.dict.live = s.dict.live) ∧
    (∀ h, h < 2 → s.rd Od.pciePairing ≠ 1 → exec (.perstN h) s =
      .next (((((s.functionReset (4 * h) false).functionReset (4 * h + 1) false).functionReset (4 * h + 2) false).functionReset (4 * h + 3) false).emit
        (.link 22 h []))) ∧
    (∀ h, h < 2 → s.rd Od.pciePairing = 1 → s.rd Od.pcieActiveDie = s.hostDie h → Runs (.perstN h) s fun t =>
      .link 21 (1 - h) [] ∈ t.out ∧ t.rd Od.pcieActiveDie = s.hostDie (1 - h)) ∧
    (∀ n k, sparseFind? s.dict.kdp n = some k →
      (k.heard + s.rd Od.kdpSessionIdle * 1000000000 ≤ s.up → exec (.kdpSessionIdleExpire n) s = .next (s.closeKdp n)) ∧
      (s.up < k.heard + s.rd Od.kdpSessionIdle * 1000000000 → exec (.kdpSessionIdleExpire n) s = .next s))

/-- Blocks and SMBus (R331, R333, R337, R338, R347 to R350, R363, R368, R370): a block of one operation on the mailbox, on KDP with its keyed check and a new
counter, and on the admin work queue is answered in its own way with the outcome of that operation; OPEN gives a free session and a nonce, CLOSE ends it; a
doorbell while BUSY is ignored; SMBus selects, reads, writes and shows the last status. -/
def Obligations.Transports : Prop :=
  ∀ s : State, s.stopped = false → s.hostUp = true →
    (∀ h f fn bytes b o, h < 2 → f < 4 → fn = s.fnOf h f → s.dict.mbxReady = true → b = ({ be := false, bytes := slice bytes 0 4096 } : Block) →
      ((s.mailbox fn).busy = true → exec (.mbxDoorbell h f 1 bytes) s = .next s) ∧
      ((s.mailbox fn).busy = false → b.plainOf true false o = true → copyFamilyOf o.addr = none → ¬(o.addr.index = 0x1011 ∧ o.addr.sub = 3) →
        ∀ s1 j x t r, s1 = s.setMailbox fn { buffer := b.bytes, busy := true, done := false } →
          j = { b.job (s.sessionOf (.pcie h f)) (.mailbox fn b.head) [o] with key := 0 } → s1.doOp j o = (x, t) →
          r = responseBlock false b.head .ok [resultRecord false o x] none →
          exec (.mbxDoorbell h f 1 bytes) s = .next ((t.setMailbox fn { buffer := r, busy := false, done := true }).emit (.octets (s.hostDie (fn / 4)) 0 r)))) ∧
    (∀ d bytes b, s.hasDie d = true → s.hearsKdp d = true → b = ({ be := true, bytes := bytes } : Block) →
      (b.known = false → exec (.kdpRequest d bytes) s = .next (s.bump Od.kdpDiscards)) ∧
      (∀ o k, b.known = true → b.kind = 1 → b.slot < 8 → b.critical = false → b.ops? false true = some [o] → copyFamilyOf o.addr = none →
        ¬(o.addr.index = 0x1011 ∧ o.addr.sub = 3) → sparseFind? s.dict.kdp b.session = some k → k.nonce = b.nonce → k.counter < b.counter →
        s.authentic false false b.slot b.message b.check = true →
        ∃ j s1 x t, s1.doOp j o = (x, t) ∧ s1 = { s.hear b.session with dict := { s.dict with
            kdp := sparsePut (sparsePut s.dict.kdp b.session { k with heard := s.up }) b.session { k with heard := s.up, counter := b.counter } } } ∧
          j = { b.job (.kdp b.session b.nonce) (.kdp d b.head) [o] with key := low 256 (s.slotKey b.slot) } ∧
          exec (.kdpRequest d bytes) s = .next ((t.keepLast { j with ops := [], done := [(o, x)] }).emit
            (.octets d 1 (responseBlock true b.head .ok [resultRecord true o x] (some (low 256 (s.slotKey b.slot))))))) ∧
      (∀ n, b.known = true → b.kind = 3 → b.shaped false true = true → b.count = 0 → b.length = 0 → b.critical = false → b.slot < 8 →
        s.authentic false false b.slot b.message b.check = true → ((List.range 32).find? fun n => (sparseFind? s.dict.kdp (n + 1)).isNone) = some n →
        Runs (.openSession d bytes) s fun t => sparseFind? t.dict.kdp (n + 1) =
            some { slot := b.slot, nonce := s.freeBits 32, counter := 0, lastOps := [], lastResults := [], die := d, heard := s.up } ∧
          t.out = .octets d 1 (openAck b .ok (n + 1) (s.freeBits 32) (some (low 256 (s.slotKey b.slot)))) :: s.out ∧ t.regs = s.regs) ∧
      (∀ k, b.known = true → b.kind = 5 → b.shaped false true = true → b.count = 0 → b.length = 0 → b.critical = false → b.slot < 8 →
        sparseFind? s.dict.kdp b.session = some k → k.nonce = b.nonce → s.authentic false false b.slot b.message b.check = true →
        ∃ j, exec (.closeSession d bytes) s = .next ((s.finishJob j .ok).closeKdp b.session) ∧ j.done = [] ∧ j.reply = .kdp d b.head ∧ j.slot = b.slot)) ∧
    (∀ h f fn w desc d block b o, h < 2 → f < 4 → fn = s.fnOf h f → sparseRising none s.rings.wqs = true → s.takes fn w 0x01 desc d = true → dLast d = true →
      b = ({ be := false, bytes := slice block 0 (bits (dBody d) 143 128) } : Block) → dictOk (dBody d) b = true → b.plainOf true true o = true →
      copyFamilyOf o.addr = none → ¬(o.addr.index = 0x1011 ∧ o.addr.sub = 3) →
      ∀ s1 x t r, s1 = ((s.fetched fn w).holdOp fn w (s.wq fn w).fetch (dBatch d) (dUser d)).1 →
        s1.doOp { b.job (s.sessionOf (.pcie h f)) (.queue fn w s.rings.nextToken (bits (dBody d) 127 64) b.head) [o] with key := 0 } o = (x, t) →
        r = responseBlock false b.head .ok [resultRecord false o x] none →
        exec (.dictDescriptor h f w desc block) s =
          .next ((t.emit (.dma (t.dmaHost fn) (fn % 4) (bits (dBody d) 127 64) r)).completeToken fn w s.rings.nextToken .ok r.length)) ∧
    (∀ h f fn w desc d, h < 2 → f < 4 → fn = s.fnOf h f → sparseRising none s.rings.wqs = true → s.takes fn w 0x13 desc d = true → dLast d = true → scheduleOk (dBody d) = true →
      bits (dBody d) 47 40 = 255 → copyFamilyOf (scheduleOp (dBody d)).addr = none → ¬((scheduleOp (dBody d)).addr.index = 0x1011 ∧ (scheduleOp (dBody d)).addr.sub = 3) →
      ∀ s1 j x t, s1 = ((s.fetched fn w).holdOp fn w (s.wq fn w).fetch (dBatch d) (dUser d)).1 →
        j = ({ session := s.sessionOf (.pcie h f), slot := 255, key := 0, counter := bits (dBody d) 255 192, tag := 0, critical := false,
               reply := .schedule fn w s.rings.nextToken, ops := [scheduleOp (dBody d)], done := [] } : Job) →
        s1.doOp j (scheduleOp (dBody d)) = (x, t) →
        exec (.scheduleDescriptor h f w desc) s =
          .next (t.completeToken fn w s.rings.nextToken x.status (if x.status = .ok ∨ x.status = .deferred then x.epoch else 0))) ∧
    (∀ a, exec (.smbusSelect a) s = .next { s with dict := { s.dict with smbusSelected := some a } }) ∧
    (s.dict.smbusSelected = none → exec .smbusRead s = .next (s.emit (.octets 0 3 [BitVec.ofNat 8 Status.noObject.code, 0]))) ∧
    (∀ a j x t, s.dict.smbusSelected = some a →
      j = ({ session := .smbus, slot := 255, key := 0, counter := 0, tag := 0, critical := false, reply := .row, ops := [], done := [] } : Job) →
      (s.doOp j (readOp a) = (x, t) →
        exec .smbusRead s = .next (t.emit (.octets 0 3 (leBytes 1 x.status.code ++ leBytes 1 x.type ++ wireValue false x)))) ∧
      (∀ data, a.index ≠ 0x1100 → a.index ≠ 0x1011 → s.doOp j { op := 2, addr := a, len := data.length, value := valueOf false a data, epoch := 0 } = (x, t) →
        exec (.smbusWrite data) s = .next { t with dict := { t.dict with smbusLast := x.status } })) ∧
    exec .smbusLastStatus s = .next (s.emit (.octets 0 3 [BitVec.ofNat 8 s.dict.smbusLast.code]))

/-- NVS_COMMIT (R338, R340, R341, R343, R474): the request at the front of the critical queue that has an outcome leaves it; its counter and response are
kept in the NVS, a key that it set takes effect, and its response is sent; after ENGINE_RESET the reset is due 10 ms later. -/
def Obligations.CommitsAnswer : Prop :=
  ∀ (s : State) (c : CritJob) (r : OpResult) (o : DictOp), s.stopped = false → s.dict.critQueue = [c] → c.result = some r → c.job.ops = [o] →
    c.mute = false → c.job.reply = .row → isFunction c.job.session = true → ∀ body : NvsBody,
    (∀ keys, (o.addr.index ≠ 0x1100 ∧ keys = s.dict.live.keys) ∨
        (o.op = 2 ∧ o.addr = Obj.at_ Od.keySet 0 0 ∧ r.status = .ok ∧ ∃ k, unwrapKey c.job.key c.job.counter o.value = some k ∧
          keys = sparsePut s.dict.live.keys k.1 { key := k.2, state := 1 }) →
      body = { s.dict.live with counters := sparseSet (fun _ => 0) s.dict.live.counters c.job.slot c.job.counter,
                                stored := sparsePut s.dict.live.stored c.job.slot { op := o, result := r }, keys := keys } →
      ∀ t : State, t = ((({ s with dict := { s.dict with critQueue := [] } } : State).setLive body).commitNvs).emit
          (.response c.job.session c.job.tag r.status r.type r.epoch r.len r.value) →
        (o.addr.index ≠ 0x1011 → o.addr.index ≠ 0xB001 → exec .nvsCommit s = .next t) ∧
        (o.op = 2 → o.addr = Obj.at_ Od.engineReset 0 0 → r.status = .ok →
          exec .nvsCommit s = .next (({ t with boot := { t.boot with resetDue := true } } : State).later 10000000 .engineResetDelayEnd)))

/-- Time sources (R41 to R45, R63): an edge of 1PPS_IN applies a written TOD_SET or measures; the third missed edge, an announce timeout and a lost frequency
source take a LOCKED time unit to HOLDOVER and an ACQUIRING one to HOLDOVER or FREERUN; the servo slews, steps, refuses a step beyond STEP_LIMIT, and locks
on the 16th good measurement; 1PPS_OUT goes high by its function. -/
def Obligations.TimeSources : Prop :=
  ∀ s : State, s.sound = true →
    (∀ h, h ≠ s.time.master → exec (.ppsInEdge h) s = .next s) ∧
    (∀ s1 : State, s1 = { s with time := { s.time with lastEdge := some s.up, missedPps := 0 } } →
      (s.rd Od.timeSource ≠ 2 → exec (.ppsInEdge s.time.master) s = .next s1) ∧
      (∀ v, s.rd Od.timeSource = 2 → s.time.tod = some (v, 1) → exec (.ppsInEdge s.time.master) s = .next (s1.applyTod v)) ∧
      (∀ v, s.rd Od.timeSource = 2 → s.time.tod = some (v, 2) →
        exec (.ppsInEdge s.time.master) s = .next { s1 with time := { s1.time with tod := some (v, 1) } }) ∧
      (s.rd Od.timeSource = 2 → s.time.tod = none → s.time.todKnown = true → s.rd Od.timeState = 1 ∨ s.rd Od.timeState = 2 →
        exec (.ppsInEdge s.time.master) s = .next (s1.measure s1.edgeOffset))) ∧
    (s.rd Od.timeSource = 2 → s.time.missedPps < 2 →
      exec .ppsInMissed s = .next { s with time := { s.time with missedPps := s.time.missedPps + 1 } }) ∧
    (∀ lost : Instr → Prop, (∀ i, lost i ↔ (i = .ppsInMissed ∧ s.rd Od.timeSource = 2 ∧ 2 ≤ s.time.missedPps) ∨
        (i = .ptpAnnounceTimeout ∧ s.rd Od.timeSource = 1) ∨ (i = .freqSourceLost ∧ s.rd Od.freqSource ≠ 0)) →
      ∀ i, lost i →
        (s.rd Od.timeState = 2 ∨ (s.rd Od.timeState = 1 ∧ s.time.lockedOnce = true) →
          Runs i s fun t => t.rd Od.timeState = 3 ∧ t.rd Od.holdoverSince = time96 s.time.now ∧ t.time.goodCount = 0 ∧ t.time.now = s.time.now ∧
            t.packets = s.packets ∧ t.dict = s.dict) ∧
        (s.rd Od.timeState = 1 → s.time.lockedOnce = false → Runs i s fun t => t.rd Od.timeState = 0 ∧ t.rd Od.holdoverSince = 0) ∧
        (s.rd Od.timeState = 0 ∨ s.rd Od.timeState = 3 → Runs i s fun t => t.regs = s.regs ∧ t.out = s.out)) ∧
    (∀ n, s.stopped = false → n < 512 → s.hasDie (n / 64) = true →
      (s.rd Od.ptpPortEnable (portInst n) = 0 → ∀ m, exec (.ptpMessageRx n m) s = .next s) ∧
      (s.rd Od.ptpPortEnable (portInst n) ≠ 0 → exec (.ptpMessageRx n false) s = .next (s.emit (.ptp n (time96 (s.rxStamp n))
        (toSigned 32 (s.rd Od.ptpAsymmetry (portInst n)))))) ∧
      (s.rd Od.ptpPortEnable (portInst n) ≠ 0 → s.rd Od.timeSource = 1 → s.rd Od.timeState = 0 ∨ s.rd Od.timeState = 3 →
        Runs (.ptpMessageRx n true) s fun t => t.rd Od.timeState = 1 ∧ t.time.fromFreerun = decide (s.rd Od.timeState = 0) ∧
          .ptp n (time96 (s.rxStamp n)) (toSigned 32 (s.rd Od.ptpAsymmetry (portInst n))) ∈ t.out)) ∧
    (∀ (x : Int) (u : State), u = s.wr Od.timeOffset (ofSigned 64 x) →
      (s.rd Od.timeState = 2 → exec (.timeOffsetMeasure x) s = .next { u with time := { u.time with slew := x, corrections := (s.up, x) :: s.time.recent } }) ∧
      (s.rd Od.timeState = 0 ∨ s.rd Od.timeState = 3 → exec (.timeOffsetMeasure x) s = .next u) ∧
      (s.rd Od.timeState = 1 → x.natAbs ≤ s.rd Od.stepThreshold * 65536 →
        (50 * 65536 < x.natAbs → exec (.timeOffsetMeasure x) s = .next { u with time := { u.time with slew := x, goodCount := 0 } }) ∧
        (x.natAbs ≤ 50 * 65536 → s.time.goodCount < 15 →
          exec (.timeOffsetMeasure x) s = .next { u with time := { u.time with slew := x, goodCount := s.time.goodCount + 1 } }) ∧
        (x.natAbs ≤ 50 * 65536 → s.time.goodCount = 15 → Runs (.timeOffsetMeasure x) s fun t => t.rd Od.timeState = 2 ∧ t.time.lockedOnce = true ∧
          t.time.slew = x ∧ t.rd Od.holdoverSince = 0)) ∧
      (s.rd Od.timeState = 1 → s.rd Od.stepThreshold * 65536 < x.natAbs → x.natAbs ≤ s.rd Od.stepLimit * 65536 →
        exec (.timeOffsetMeasure x) s = .next (u.decideStep x)) ∧
      (s.rd Od.timeState = 1 → s.rd Od.stepThreshold * 65536 < x.natAbs → s.rd Od.stepLimit * 65536 < x.natAbs → s.time.steppedOnce = true →
        Runs (.timeOffsetMeasure x) s fun t => t.time.refused = some x ∧ t.rd Od.timeStepPending = ofSigned 64 (x / 65536) ∧
          t.rd Od.timeState = (if s.time.lockedOnce = true then 3 else 0) ∧ t.time.now = s.time.now ∧ t.time.decided = s.time.decided)) ∧
    (s.rd Od.ppsOutFunction = 1 → exec .ppsOutPulse s =
      .next (({ s with time := { s.time with ppsHigh := some (s.up + 100000000) } } : State).emit (.pin 1 1))) ∧
    (s.rd Od.ppsOutFunction = 2 → s.ppsEpoch % s.rd Od.ppsOutDivider = 0 → exec .ppsOutPulse s =
      .next (({ s with time := { s.time with ppsMark := s.ppsEpoch, ppsHigh := some (s.up + 1000) } } : State).emit (.pin 1 1))) ∧
    (s.rd Od.ppsOutFunction = 2 → s.ppsEpoch % s.rd Od.ppsOutDivider ≠ 0 →
      exec .ppsOutPulse s = .next { s with time := { s.time with ppsMark := s.ppsEpoch } }) ∧
    (s.rd Od.ppsOutFunction = 0 → exec .ppsOutPulse s = .next s)

/-- Steps and boundaries (R46, R49, R51, R54 to R57, R60, R62): a decided step moves package time at its boundary and holds the counter where it goes back;
the hold ends at the next epoch's start; at a boundary a due change takes effect and a swap flips its family and holds the old bank; a die reports idle
generations; every die acknowledges a change, and one that does not is fenced. -/
def Obligations.EpochsAndSteps : Prop :=
  ∀ s : State, s.sound = true → s.stopped = false →
    (∀ (x : Int) (b now : Nat), s.time.decided = some (x, b) → now = ((s.time.now : Int) + x).toNat →
      (s.time.epoch < b → exec .timeStep s = .next s) ∧
      (b ≤ s.time.epoch → Runs .timeStep s fun t => t.time.now = now ∧ t.time.decided = none ∧ t.time.epoch = max (now / 65536 / s.epochNs) s.time.epoch ∧
        t.time.held = decide (now / 65536 / s.epochNs < s.time.epoch) ∧ t.rd Od.timeStepPending = 0 ∧ t.ctrs.stepAt = some (now / 65536) ∧
        .timeStep x ∈ t.out ∧ t.packets = s.packets ∧ t.fams = s.fams)) ∧
    (s.time.held = true → exec .epochHoldEnd s =
      .next ({ s with time := { s.time with held := false } } : State).boundary) ∧
    (s.time.held = true → exec .epochBoundary s = .next s) ∧
    (s.time.held = false → s.rings.ops = [] → s.rings.timed = [] → s.sched.holds = [] → s.time.decided = none → s.learning.pend = [] →
      ∀ e, e = s.time.epoch + 1 →
      ((∀ c ∈ s.sched.changes, e < c.epoch) → Runs .epochBoundary s fun t => t.time.epoch = e ∧ t.time.now = max s.time.now (e * s.epochNs * 65536) ∧
        t.sched = s.sched ∧ t.regs = s.regs ∧ t.fams = s.fams ∧ t.out = s.out) ∧
      (∀ c, s.sched.changes = [c] → c.epoch = e →
        (0x3000 ≤ c.index → c.index < 0x7000 → swapFamily c.addr = none → c.commits = none → s.rd Od.schedReportCq = 0xFFFF →
          Runs .epochBoundary s fun t => sparseGet Od.defaultAt t.regs (addrKey c.addr) = c.value ∧ t.sched.changes = [] ∧ t.time.epoch = e ∧
            t.sched.gen = (if c.ingress then (s.sched.gen + 1) % 4 else s.sched.gen)) ∧
        (sparseRising none s.fams = true → c.addr = Obj.at_ Od.parserSwap 0 0 → (s.fam 0x30).disagree = [] → s.rd Od.schedReportCq = 0xFFFF →
          Runs .epochBoundary s fun t => (t.fam 0x30).live = 1 - (s.fam 0x30).live ∧ t.sched.gen = (s.sched.gen + 1) % 4 ∧ t.sched.changes = [] ∧
            (∃ hold ∈ t.sched.holds, hold.fam = 0x30 ∧ hold.bank = (s.fam 0x30).live ∧ hold.epoch = e) ∧ t.packets = s.packets)) ) ∧
    (∀ d idle, s.hasDie d = true →
      ((∀ h ∈ (s.reportIdle d idle).sched.holds, s.holdDone h = false) → exec (.flightIdle d idle) s = .next (s.reportIdle d idle)) ∧
      (∀ h, (s.reportIdle d idle).sched.holds = [h] → s.holdDone h = true →
        exec (.flightIdle d idle) s = .next ((s.reportIdle d idle).releaseBank h))) ∧
    (∀ d c, s.hasDie d = true → s.sched.changes = [c] → d ∉ c.acked → exec (.scheduleMsg d c.order) s = .next
      (({ s with sched := { s.sched with changes := [{ c with acked := c.acked ++ [d] }] } } : State).emit (.control d (s.rd Od.leadDie) 2 [c.order]))) ∧
    (∀ d, s.hasDie d = true →
      ((∀ c ∈ s.sched.changes, d ∈ c.acked ∨ s.up < c.accepted + 24000) → exec (.dieAckTimeout d) s = .next s) ∧
      (s.isFenced d = false → (∃ c ∈ s.sched.changes, d ∉ c.acked ∧ c.accepted + 24000 ≤ s.up) → exec (.dieAckTimeout d) s = .next (s.fence d 1))) ∧
    (∀ offset, s.time.master = 0 → bitOf (s.reactionMask 0x13 1) 3 = false → Runs (.timeMasterFail offset) s fun t => t.time.master = 1 ∧
      t.time.now = s.time.now ∧ t.packets = s.packets)

/-- Training and the states of a link (R72 to R76, R87, R88): a DOWN port retrains on its own only with LINK_RETRAIN_AUTO; training frames move a lane
through the steps of R74, and one of another profile shows that no partner is there; a step over its limit restarts all lanes from step 1 and is counted; two
alignment blocks give lock and the third miss in a row takes the port DOWN; a trained port comes UP with its coefficients stored. -/
def Obligations.LinkTraining : Prop :=
  ∀ (s : State) (n : Nat), s.sound = true → s.stopped = false → n < 512 → s.hasDie (n / 64) = true →
    (s.portStateOf n = 3 → s.rd Od.linkRetrainAuto (portInst n) = 1 → exec (.linkRetrainStart n) s = .next (s.startTraining n true)) ∧
    (s.portStateOf n ≠ 3 ∨ s.rd Od.linkRetrainAuto (portInst n) = 0 → exec (.linkRetrainStart n) s = .next s) ∧
    (∀ p control status met, s.portOfLane n = some p → s.portStateOf p = 1 → modeGroup (s.portModeOf p) = 1 →
      bits status 15 12 ≠ 1 ∨ bits control 15 12 ≠ 1 →
      exec (.trainingFrameRx n control status met) s = .next (s.setPortLink p { s.portLink p with badProfile := true })) ∧
    (∀ p x control status met, s.portOfLane n = some p → s.portStateOf p = 1 → modeGroup (s.portModeOf p) = 1 → bits status 15 12 = 1 →
      bits control 15 12 = 1 → sparseRising none s.links.lanes = true → x = s.laneLink n → Runs (.trainingFrameRx n control status met) s fun t =>
        (t.laneLink n).step = (if bitOf control 4 then 1
          else if x.step = 1 then (if (s.portLink p).quick then 3 else 2)
          else if x.step = 2 ∧ met = true then 3
          else if x.step = 3 ∧ met = true ∧ 15 ≤ x.pamSeen ∧ bits control 6 5 = 1 then 4
          else x.step) ∧
        (bitOf control 4 = false → (t.laneLink n).partnerReady = bitOf status 6) ∧
        t.regs = (s.answerTap n (bits control 11 9) (bits control 8 7)).1.regs ∧
        (∃ choice levels, t.out = .training n (controlWord (t.laneLink n).step choice)
          (0x1000 + bits control 11 9 * 512 + (s.answerTap n (bits control 11 9) (bits control 8 7)).2 * 128 +
            (if (t.laneLink n).step = 4 then 64 else 0) + (n - p) * 8) levels :: s.out) ∧
        t = { s with regs := t.regs, links := t.links, out := t.out, freeCount := t.freeCount }) ∧
    (s.portStateOf n = 1 → modeGroup (s.portModeOf n) = 1 →
      (∀ m x, m ∈ s.lanesOf n → x = s.laneLink m → x.done = false → (s.portLink n).noPartner = false →
        x.since + trainStepLimit (s.portLink n).quick x.step ≤ s.up → exec (.l400TrainStepTimeout n) s = .next (s.restartTraining n)) ∧
      ((∀ m ∈ s.lanesOf n, s.up < (s.laneLink m).since + trainStepLimit (s.portLink n).quick (s.laneLink m).step) →
        exec (.l400TrainStepTimeout n) s = .next s) ∧
      ((s.portLink n).badProfile = false → s.up < (s.portLink n).judgeAt → exec (.l400NoPartner n) s = .next s) ∧
      (∀ l l1, l = s.portLink n → l1 = { l with noPartner := true, badProfile := false, judgeAt := s.up + 1000000000 } →
        l.badProfile = true ∨ (∀ m ∈ s.lanesOf n, (s.laneLink m).step ≤ 1) → l.judgeAt ≤ s.up →
        (l.noPartner = true → exec (.l400NoPartner n) s = .next ((s.setPortLink n l1).restartTraining n)) ∧
        (l.noPartner = false → exec (.l400NoPartner n) s = .next (((s.setPortLink n l1).fireLane n).restartTraining n)))) ∧
    (∀ p x, s.portOfLane n = some p → x = s.laneLink n →
      (∀ b, goodAlignment b (n - p) = true → x.found = 0 ∨ bits b 207 192 = (x.count + 1) % 65536 →
        exec (.alignmentBlockRx n (some b)) s = .next (s.setLaneLink n
          { x with found := min 2 (x.found + 1), missed := 0, aligned := x.aligned || decide (1 ≤ x.found), count := bits b 207 192, foundAt := s.up })) ∧
      (x.missed < 2 → ∀ b, goodAlignment b (n - p) = false →
        exec (.alignmentBlockRx n (some b)) s = .next (s.setLaneLink n { x with found := 0, missed := x.missed + 1 }) ∧
        exec (.alignmentBlockRx n none) s = .next (s.setLaneLink n { x with found := 0, missed := x.missed + 1 })) ∧
      (2 ≤ x.missed → ∀ b, goodAlignment b (n - p) = false → exec (.alignmentBlockRx n (some b)) s =
        .next ((s.setLaneLink n { x with found := 0, missed := 3, aligned := false }).linkLost p))) ∧
    (s.portStateOf n = 1 → s.octetServed n = true → modeGroup (s.portModeOf n) = 0 ∨ ((s.lanesOf n).all (fun m => (s.laneLink m).step = 4 &&
        (s.laneLink m).aligned && decide (32 ≤ (s.laneLink m).bothReady)) = true ∧ s.skewOk n = true) →
      exec (.linkUp n) s = .next ((((s.lanesOf n).foldl (fun (a : State) m => (a.wr Od.laneMargin (a.freeBits 16) (portInst m)).useFree)
        ((s.setPortLink n { PortLink.fresh with drainFrom := (s.portLink n).drainFrom,
                                                stored := some ((s.lanesOf n).map fun m => s.rd Od.laneTxTaps (portInst m)) }).wr
          Od.portState 2 (portInst n))).judgeSlice (n / 8)).fireLane n)) ∧
    (s.portStateOf n ≠ 1 → exec (.linkUp n) s = .next s) ∧
    (s.portStateOf n ≠ 2 → exec (.linkDown n) s = .next s) ∧
    (s.portStateOf n = 2 → (s.spareSlice (n / 8)).job = none → Runs (.linkDown n) s fun t => t.rd Od.portState (portInst n) = 3 ∧ t.packets = s.packets ∧ t.tm = s.tm ∧
      (s.rd Od.linkRetrainAuto (portInst n) = 1 → (s.up + 1000000, .linkRetrainStart n) ∈ t.agenda))

/-- The spare slice of an octet and the end of a drain (R79 to R83, R85, R86, R90): listening stores a lane's set and moves on; a repair takes a free spare,
and without one is a UCC fault; the receiver changes over first, after one alignment interval, then the transmitter, and the lane runs on the spare; a
drained port is DISABLED, or trains when an enable is pending. -/
def Obligations.SliceRows : Prop :=
  ∀ (s : State) (n : Nat), s.sound = true → s.stopped = false → n < 512 → s.hasDie (n / 64) = true → ∀ o x, o = n / 8 → x = s.spareSlice o →
    (∀ ok, s.sliceState o = 1 ∨ s.sliceState o = 2 → x.job = none → s.laneUp n = true → s.rd Od.spareSliceLane (portInst (o * 8)) = n % 8 →
      x.listening + 100000000 ≤ s.up → exec (.spareSliceListen n ok) s =
      .next (((s.setSlice o { x with sets := (n % 8, s.up, ok) :: x.sets.filter fun e => e.1 ≠ n % 8 }).listenOn o (s.nextListen o (n % 8))).judgeSlice o)) ∧
    (∀ ok, s.laneUp n = false ∨ s.rd Od.spareSliceLane (portInst (o * 8)) ≠ n % 8 ∨ s.up < x.listening + 100000000 → exec (.spareSliceListen n ok) s = .next s) ∧
    (∀ p lost heavy s1, s.portOfLane n = some p → s.rd Od.laneSlice (portInst n) = 0 → x.job = none → x.next = none →
      s1 = s.countWindow n p 2 heavy lost →
      (s.heavyLane p heavy = false → exec (.laneRepairTrigger n 2 heavy lost) s = .next s1) ∧
      (s.heavyLane p heavy = true → s.sliceState o < 3 → s.sched.changes = [] → exec (.laneRepairTrigger n 2 heavy lost) s =
        .next (s1.startJob o { lane := n % 8, repair := true, back := false, rxDone := false, began := s.up, loaded := false,
                                  trigger := 2, lost := lost })) ∧
      (s.heavyLane p heavy = true → 3 ≤ s.sliceState o → x.planned = none → exec (.laneRepairTrigger n 2 heavy lost) s = .next (s1.fault (n / 64) 0x00 2 n 2 (low 32 lost)))) ∧
    (∀ j, x.job = some j → j.lane = n % 8 →
      (j.began + 52429 ≤ s.up → exec (.rxChangeover n) s = .next (s.setSlice o { x with job := some { j with rxDone := true } })) ∧
      (s.up < j.began + 52429 → exec (.rxChangeover n) s = .next s) ∧
      (j.rxDone = false → exec (.txChangeover n) s = .next s) ∧
      (j.rxDone = true → exec (.txChangeover n) s = .next (s.endJob o j)) ∧
      (j.rxDone = true → j.back = false → j.repair = false → sparseRising none s.links.slices = true → Runs (.txChangeover n) s fun t =>
        t.rd Od.laneSlice (portInst n) = 1 ∧ t.rd Od.spareSliceState (portInst (o * 8)) = 3 ∧ t.rd Od.spareSliceLane (portInst (o * 8)) = n % 8 ∧
          (t.spareSlice o).planned = some (n % 8) ∧ t.recov = s.recov ∧ t.packets = s.packets) ∧
      (j.rxDone = true → j.back = true → x.next = none → sparseRising none s.links.slices = true → Runs (.txChangeover n) s fun t =>
        t.rd Od.laneSlice (portInst n) = 0 ∧ t.rd Od.spareSliceState (portInst (o * 8)) = (if s.sliceReady o then 2 else 1) ∧
          t.rd Od.spareSliceLane (portInst (o * 8)) = s.nextListen o 7)) ∧
    (x.job = none → exec (.rxChangeover n) s = .next s ∧ exec (.txChangeover n) s = .next s) ∧
    (∀ expired, s.copiesAt n = [] ∨ (expired = true ∧ s.drainExpired n = true) →
      (s.portStateOf n = 4 → Runs (.portDrainEnd n expired) s fun t => t.rd Od.portState (portInst n) = 0 ∧ .link 2 n [] ∈ t.out) ∧
      (s.portStateOf n = 5 → Runs (.portDrainEnd n expired) s fun t => t.rd Od.portState (portInst n) = 1)) ∧
    (∀ expired, s.copiesAt n ≠ [] → expired = false ∨ s.drainExpired n = false → exec (.portDrainEnd n expired) s = .next s)

/-- A frame at a port (R40, R69, R260, R261, R282 to R284): runts, bad frames and MAC control frames are counted and become no packet; a good frame starts if
its priority group and the reserve allow, and is dropped or waits if not. A long frame's end tells its packet how it ended (R111). XOFF is sent again while
its condition holds, XON when it ends. -/
def Obligations.FramesIn : Prop :=
  ∀ s : State, s.sound = true → s.stopped = false →
    (∀ n frame s1, n < 512 → s.hasDie (n / 64) = true → s1 = s.bwCount n frame.length false →
      (s.portStateOf n ≠ 2 → exec (.frameReceive n frame) s = .next s) ∧
      (s.portStateOf n = 2 →
        (frame.length < 64 → exec (.frameReceive n frame) s = .next (s1.macCount n 3 1)) ∧
        (64 ≤ frame.length → frame.length ≤ 516 → goodFcs frame = false → exec (.frameReceive n frame) s = .next (s1.macCount n 2 1)) ∧
        (64 ≤ frame.length → frame.length ≤ 516 → goodFcs frame = true → beNat (slice frame 12 2) = 0x8808 → exec (.frameReceive n frame) s = .next s) ∧
        (64 ≤ frame.length → frame.length ≤ 516 → goodFcs frame = true → beNat (slice frame 12 2) ≠ 0x8808 →
          ∀ s2 g hv, s2 = ((s1.macCount n 0 1).macCount n 1 frame.length).addFlight (n / 64) (hvGen hv) → g = s.framePg n frame →
          hv = s.freshHv n frame.length → s.waitingAt (n / 64) (n % 64 / 8) = [] →
          (s2.mayStart n g = true → exec (.frameReceive n frame) s = .next (s2.startFrame n g hv s.up frame) ∧
            ∃ k, (s2.startFrame n g hv s.up frame).packet? s.nextPacket = some k ∧ k.stage = .received ∧ k.frame = frame ∧ k.port = n ∧ k.pg = g ∧
              k.hv = hv ∧ k.born = s.up ∧ k.ended = true) ∧
          (s2.mayStart n g = false → s.rd Od.bpmClassPolicy 0 g ≠ 0 → exec (.frameReceive n frame) s =
            .next (((s2.bump Od.bpmClassNoBuffer (dieInst (n / 64)) g).dropFlight (n / 64) (hvGen hv)).dropStart n g)) ∧
          (s2.mayStart n g = false → s.rd Od.bpmClassPolicy 0 g = 0 → exec (.frameReceive n frame) s = .next
            ((((s2.bump Od.bpmClassNoBuffer (dieInst (n / 64)) g).setWaiting (n / 64) (n % 64 / 8)
              [{ port := n, frame := frame, pg := g, since := s.up, hv := hv }]).later
                (s.rd Od.bpmClassWaitLimit 0 g) (.classWaitExpire (n / 64) (n % 64 / 8)))))))) ∧
    (∀ p x frame k truncated, sparseFind? s.bufs.tails p = some x → frame = x.frame.take 10240 → s.packet? p = some k →
      (∀ e ∈ s.packets, e.1 ≠ p → e.2.origin ≠ p) → s.tm.copies = [] → hvL3End k.hv ≤ frame.length - 4 → Runs (.frameEnd p truncated) s fun t =>
        t.packet? p = some { k with ended := true, bad := k.bad || (truncated || decide (10240 < x.frame.length) || !goodFcs frame), origin := 0 } ∧
        t.ae.late = s.ae.late.filter (fun e => e.1 ≠ p) ∧ t.nextPacket = s.nextPacket ∧ t.tables = s.tables ∧ t.bufs.records = s.bufs.records) ∧
    (∀ p truncated, sparseFind? s.bufs.tails p = none → exec (.frameEnd p truncated) s = .next s) ∧
    (∀ n g level cells, n < 512 → s.hasDie (n / 64) = true → level = s.pgLevel n g → cells = s.rd Od.pgCells (portInst n) g →
      (sparseFind? s.bufs.xoff (n * 8 + g) = none → s.rd Od.pgPfc (portInst n) g = 0 ∨ cells < level → exec (.pfcXoffRefresh n g) s = .next s) ∧
      (∀ since, sparseFind? s.bufs.xoff (n * 8 + g) = some since →
        (level < cells + s.rd Od.pfcXonDelta (portInst n) → since + s.xoffTime n ≤ s.up → exec (.pfcXoffRefresh n g) s =
          .next (((({ s with bufs := { s.bufs with xoff := sparsePut s.bufs.xoff (n * 8 + g) s.up } } : State).countControl n true true).emit
            (.pfc n (s.pgPriorities n g) 0xFFFF)).later (s.xoffTime n) (.pfcXoffRefresh n g))) ∧
        (level < cells + s.rd Od.pfcXonDelta (portInst n) → s.up < since + s.xoffTime n → exec (.pfcXoffRefresh n g) s = .next s) ∧
        (sparseRising none s.bufs.xoff = true → cells + s.rd Od.pfcXonDelta (portInst n) ≤ level → exec (.pfcXoffRefresh n g) s =
          .next ((({ s with bufs := { s.bufs with xoff := sparseErase s.bufs.xoff (n * 8 + g) } } : State).countControl n true true).emit
            (.pfc n (s.pgPriorities n g) 0)))))

/-- PARSE (R94 to R98, R108 to R121): a received packet is parsed or goes to the punt path with the walk's status as its reason; only registers, packets,
what is kept for a frame's end and the next packet number change. A packet at another stage, or before a pipeline that is stopped, stays as it is. -/
def Obligations.ParseRow : Prop :=
  ∀ (s : State) (p : Nat) (k : Packet), s.stopped = false → s.packet? p = some k →
    (k.stage ≠ .received ∨ s.pipeStopped k = true → exec (.parse p) s = .next s) ∧
    (k.stage = .received → s.pipeStopped k = false → ∀ (view : FrameView) e late, view.header = beNat (slice (k.frame.take (k.frame.length - 4)) 0 512) → view.complete = bitOf k.hv 1863 →
      view.stop = k.frame.length - 4 →
      e = walkGraph (s.tbl (s.liveFor 0x30 (hvGen k.hv)) 0x30) (s.tbl (s.liveFor 0x30 (hvGen k.hv)) 0x31) view 18
        (Walk.start (s.rd Od.profileStartNode (bankInst (s.liveFor 0x30 (hvGen k.hv))) (hvProfile k.hv))) →
      late = (k.ended && !bitOf k.hv 1863 && decide (view.stop < e.walk.l3End) && !hvReplay k.hv) → Runs (.parse p) s fun t =>
        t = { s with regs := t.regs, packets := t.packets, nextPacket := t.nextPacket, bufs := { s.bufs with tails := t.bufs.tails } } ∧
        t.nextPacket = s.nextPacket + (if late then 1 else 0) ∧
        (e.status ≠ 0 → t.packet? p = some { k with stage := .punting, hv := putBits (walkHv view.header k.hv e) 599 592 e.status, bad := k.bad || late }) ∧
        (e.status = 0 → ∃ k1, t.packet? p = some k1 ∧ k1.stage = .parsed ∧ k1.frame = k.frame ∧ k1.port = k.port ∧ k1.head = k.head ∧ k1.tag = k.tag ∧
          k1.bad = (k.bad || late)))

/-- The lookups of a packet and its search (R124 to R151, R158 to R175): the stages end with a drop, a punt for parity or the search; one clock of the arrays
moves the window and serves the packet that waits; a sweep removes entries of generations that are no longer kept. -/
def Obligations.SearchRows : Prop :=
  ∀ s : State, s.stopped = false →
    (∀ p k l k1, s.packet? p = some k → k.stage = .parsed → sparseFind? s.asa.stalled k.octet = none → sparseFind? s.placing.stalled k.octet = none →
      l = ({ st := s, hv := k.hv, lport := k.port, bd := 0, limit := 0, route := 0, leave := 0 } : Look).stages
        { die := k.die, gen := hvGen k.hv, stamp := hvStamp k.hv } →
      k1 = { k with hv := l.hv, lport := l.lport, bd := l.bd, limit := l.limit, tcEarly := hvTc l.hv, stage := .searching } →
      (l.leave = 1 → exec (.ingressLookups p) s = .next (l.st.dropPacket p k1)) ∧
      (l.leave = 2 → exec (.ingressLookups p) s = .next (l.st.toPunt p k1 0x0B)) ∧
      (l.leave ≠ 1 → l.leave ≠ 2 → ∀ w, w = l.st.profileSets (hvProfile k1.hv) (hvGen k1.hv) →
        (w = (none, none) → exec (.ingressLookups p) s = .next ((l.st.setPacket p { k1 with searched := true }).finishLookups p)) ∧
        (w ≠ (none, none) → l.st.rd Od.rcEnable 0 (hvProfile k1.hv) = 0 → (l.st.asaQueue k.octet).length < 64 → ∀ u,
          u = (l.st.setPacket p k1).bump Od.rcUncacheable k.inst →
          exec (.ingressLookups p) s = .next ((u.setAsaQueue k.octet (u.asaQueue k.octet ++
            [{ packet := p, follows := none, set0 := w.1, set1 := w.2, done0 := none, done1 := none }])).bump Od.searchWaits k.inst)))) ∧
    (∀ p k, s.packet? p = some k → k.stage ≠ .parsed → exec (.ingressLookups p) s = .next s) ∧
    (∀ d clock step, s.hasDie d = true → clock = sparseGet (fun _ => 0) s.asa.clock d →
      step = (if clock = 0 then s.rd Od.searchThrottleStep (dieInst d) else sparseGet (fun _ => 0) s.asa.step d) →
      (∀ i, i < 8 → sparseFind? s.asa.stalled (d * 8 + i) = none) →
      ∀ s1 : State, s1 = { s with asa := { s.asa with clock := sparsePut s.asa.clock d ((clock + 1) % 4), step := sparsePut s.asa.step d step } } →
      ((∀ i, i < 8 → s.asaQueue (d * 8 + i) = []) → exec (.asaSearchSlot d) s = .next s1) ∧
      (∀ o p k set out, o / 8 = d → (∀ i, i < 8 → d * 8 + i ≠ o → s.asaQueue (d * 8 + i) = []) → sparseRising none s.asa.queues = true → step = 0 →
        s.asaQueue o = [{ packet := p, follows := none, set0 := some set, set1 := none, done0 := none, done1 := none }] → s.packet? p = some k →
        s.searchOne p set = (s, out) →
        exec (.asaSearchSlot d) s = .next (((((s1.setAsaQueue o
            [{ packet := p, follows := none, set0 := none, set1 := none, done0 := some out, done1 := none }]).setRc k.pipe
            (if out.parity then (s.rcOf k.pipe).filter (fun e => !(e.leader = p && e.outcome.isNone))
             else (s.rcOf k.pipe).map (fun e => if e.leader = p && e.outcome.isNone then { e with outcome := some (some out, none) } else e))).bump
            Od.rcMisses k.inst).setAsaQueue o []).takeOutcomes p (some out, none)))) ∧
    (∀ p, p % 16 ≤ 8 → s.hasDie (p / 16) = true → ∀ kept : RcEntry → Bool,
      (∀ e, kept e = true ↔ ∀ set gen, (set, gen) ∈ [((e.key / 16 / 2 ^ (if e.key % 16 = 15 then 0 else s.setWidth (e.key % 16))) % 16, e.g0), (e.key % 16, e.g1)] →
        set = 15 ∨ ∃ h ∈ sparseGet (fun _ => [(0, 0)]) s.asa.gens set, h.1 = gen) →
      exec (.rcSweep p) s = .next (s.setRc p ((s.rcOf p).filter kept)))

/-- Placement (R178, R181, R184, R187, R188, R190): a packet takes a credit, goes on over budget where its class does, waits, or stops its pipeline; a refill
gives each octet 15 credits, at most 16 of which stay; a read that returns finds the node set that owns the key's position, or misses. -/
def Obligations.PlacementRows : Prop :=
  ∀ s : State, s.stopped = false →
    (∀ p k o, s.packet? p = some k → k.stage = .searching → k.place = .needed → o = k.octet →
      (s.placeCredits o ≠ 0 → s.placeQueue o = [] → exec (.placementLookup p) s =
        .next (((s.setPlaceCredits o (s.placeCredits o - 1)).setPacket p { k with place := .issued }).bump Od.placeLookups k.inst)) ∧
      (s.placeCredits o = 0 → bitOf (s.rdFor Od.placeOverTcMask 0 0 (hvGen k.hv)) k.tcEarly = true → exec (.placementLookup p) s =
        .next (((s.setPacket p { k with place := .overBudget }).bump Od.placeOverCount k.inst).finishLookups p)) ∧
      (s.placeCredits o = 0 → bitOf (s.rdFor Od.placeOverTcMask 0 0 (hvGen k.hv)) k.tcEarly = false →
        ((s.placeQueue o).length < 32 → exec (.placementLookup p) s =
          .next ((s.setPacket p { k with place := .waiting }).setPlaceQueue o (s.placeQueue o ++ [p]))) ∧
        (32 ≤ (s.placeQueue o).length → sparseFind? s.placing.stalled o = none → exec (.placementLookup p) s =
          .next { s with placing := { s.placing with stalled := sparsePut s.placing.stalled o (p, s.up) } }))) ∧
    (∀ d, s.hasDie d = true → (∀ i, i < 8 → s.placeQueue (d * 8 + i) = []) → sparseRising none s.placing.credits = true →
      Runs (.placeCreditRefill d) s fun t => (∀ i, i < 8 → t.placeCredits (d * 8 + i) = min 16 (s.placeCredits (d * 8 + i) + 15)) ∧
        t = { s with placing := { s.placing with credits := t.placing.credits } }) ∧
    (∀ p k bank dom n pos b ns, s.packet? p = some k → k.stage = .searching → k.place = .issued → bank = s.liveFor 0x58 (hvGen k.hv) →
      dom = s.tbl bank 0x58 (bits k.hv 1791 1776) → n = bits k.hv 1799 1792 →
      pos = placeHash (bits dom 223 160) (beBytes n (bits k.hv 1119 608 / 256 ^ (64 - n))) / 2 ^ 24 →
      b = bits dom 159 136 + pos / 2 ^ (40 - bits dom 135 131) → ns = ringLookup (s.tbl bank 0x5A b) pos →
      (s.rowBad k.die 0x5A (rowIndex bank b) = true → exec (.placeReadReturn p) s =
        .next ((((s.bump Od.placeParityMiss k.inst).fault k.die 0x0C 2 b 0x5A).setPacket p { k with place := .missed true }).finishLookups p)) ∧
      (s.rowBad k.die 0x5A (rowIndex bank b) = false → s.rowBad k.die 0x59 (rowIndex bank ns) = false →
        (s.bankEntries 0x59 bank ≤ ns ∨ bits (s.tbl bank 0x59 ns) 511 507 = 0 →
          exec (.placeReadReturn p) s = .next ((s.setPacket p { k with place := .missed false }).finishLookups p)) ∧
        (ns < s.bankEntries 0x59 bank → bits (s.tbl bank 0x59 ns) 511 507 ≠ 0 →
          exec (.placeReadReturn p) s = .next ((s.setPacket p { k with place := .found ns }).finishLookups p))))

/-- The ALU (R205): each operation of ALU0 or ALU1 gives the unit its value, its flags' value and its carry for the end of the word, from the two operands as
they stand at its start (R210), and changes nothing else; a unit that has run in the word does not run again. -/
def Obligations.AluRows : Prop :=
  ∀ (s : State) (p : Nat) (eg : Bool) (t : Nat) (th : Thread) (k : Packet) (w u op x y a b : Nat), OnWord s p eg t th k w → u ≤ 1 → u ∉ th.unitsRun →
    wAlu w u = (op, x, y) → a = th.operand w x → b = th.operand w y → ∀ ends : Nat → Nat → Bool → State, (∀ v f c, ends v f c = s.setThread p eg t (th.latched u v f c)) →
    (op = 0x00 → exec (.aluNop p eg t u) s = .next (s.setThread p eg t (th.ran u))) ∧
    (op = 0x01 → exec (.aluAdd p eg t u) s = .next (ends ((a + b) % 2 ^ 32) ((a + b) % 2 ^ 32) (decide (2 ^ 32 ≤ a + b)))) ∧
    (op = 0x02 → exec (.aluSub p eg t u) s = .next (ends ((a + 2 ^ 32 - b) % 2 ^ 32) ((a + 2 ^ 32 - b) % 2 ^ 32) (decide (a < b)))) ∧
    (op = 0x03 → exec (.aluAnd p eg t u) s = .next (ends ((a &&& b) % 2 ^ 32) ((a &&& b) % 2 ^ 32) false)) ∧
    (op = 0x04 → exec (.aluOr p eg t u) s = .next (ends ((a ||| b) % 2 ^ 32) ((a ||| b) % 2 ^ 32) false)) ∧
    (op = 0x05 → exec (.aluXor p eg t u) s = .next (ends ((a ^^^ b) % 2 ^ 32) ((a ^^^ b) % 2 ^ 32) false)) ∧
    (op = 0x06 → exec (.aluShl p eg t u) s = .next (ends (a * 2 ^ (b % 32) % 2 ^ 32) (a * 2 ^ (b % 32) % 2 ^ 32) false)) ∧
    (op = 0x07 → exec (.aluShr p eg t u) s = .next (ends (a / 2 ^ (b % 32) % 2 ^ 32) (a / 2 ^ (b % 32) % 2 ^ 32) false)) ∧
    (op = 0x08 → ∀ v, v = low 32 (ofSigned 32 (toSigned 32 a / ((2 ^ (b % 32) : Nat) : Int))) → exec (.aluSar p eg t u) s = .next (ends v v false)) ∧
    (op = 0x09 → exec (.aluMin p eg t u) s = .next (ends (min a b % 2 ^ 32) (min a b % 2 ^ 32) false)) ∧
    (op = 0x0A → exec (.aluMax p eg t u) s = .next (ends (max a b % 2 ^ 32) (max a b % 2 ^ 32) false)) ∧
    (op = 0x0B → exec (.aluCmp p eg t u) s = .next (ends a ((a + 2 ^ 32 - b) % 2 ^ 32) (decide (a < b)))) ∧
    (op = 0x0C → exec (.aluPass p eg t u) s = .next (ends (a % 2 ^ 32) (a % 2 ^ 32) false)) ∧
    (op = 0x0D → ∀ v, v = a / 2 ^ (b % 32) % 2 ^ (b / 32 % 32 + 1) % 2 ^ 32 → exec (.aluExtract p eg t u) s = .next (ends v v false)) ∧
    (op = 0x0E → ∀ sum v, sum = a % 65536 + b % 65536 → v = (if sum < 65536 then sum else sum - 65535) →
      exec (.aluAddoc p eg t u) s = .next (ends v v false)) ∧
    (op = 0x0F → ∀ v, v = a % 256 * 2 ^ 24 + a / 256 % 256 * 2 ^ 16 + a / 65536 % 256 * 256 + a / 2 ^ 24 % 256 →
      exec (.aluBswap p eg t u) s = .next (ends v v false)) ∧
    (op = 0x10 → exec (.aluMul16 p eg t u) s = .next (ends (a % 65536 * (b % 65536)) (a % 65536 * (b % 65536)) false)) ∧
    (op = 0x11 → ∀ v, v = low 32 (crcReflected 0x82F63B78 a (beBytes 4 b)) → exec (.aluCrc32c p eg t u) s = .next (ends v v false))

/-- The other units (R203, R207 to R209, R215, R217, R218, R448): MOVE and HVW stage their write for the end of the word; CTX_READ gives the window of a
context whose lock the packet holds, which CTX_WRITE and CTX_INIT mark for release; CNT, EMIT, REPL and SAMPLE join the log, MARK keeps a program counter and
its cycle; MET charges its meter once. -/
def Obligations.UnitRows : Prop :=
  ∀ (s : State) (p : Nat) (eg : Bool) (t : Nat) (th : Thread) (k : Packet) (w : Nat), OnWord s p eg t th k w → ∀ ends : Thread → State, (∀ x, ends x = s.setThread p eg t x) →
    (2 ∉ th.unitsRun → wMoveDst w ≠ 0x7F →
      exec (.moveWord p eg t) s = .next (ends { th.ran 2 with nextMove := some (wMoveDst w, th.operand w (wMoveSrc w)) })) ∧
    (3 ∉ th.unitsRun → bitOf (wHvw w) 15 = true → exec (.hvw p eg t) s = .next (ends (th.hvw w)) ∧
      (bits (wHvw w) 6 3 = 15 → bits (wHvw w) 2 0 = 0 → (th.hvw w).nextHv = th.nextHv ++ (List.range 4).map fun i =>
        (6143 - 32 * bits (wHvw w) 14 7 - 8 * i, 6143 - 32 * bits (wHvw w) 14 7 - 8 * i - 7, bits th.a0 (31 - 8 * i) (24 - 8 * i)))) ∧
    (4 ∉ th.unitsRun → ∀ c key, c = low 16 (th.reg (wCtxReg w)) → key = k.die * 65536 + c →
      (sparseFind? s.ae.holders key = some th.item →
        (∀ bad, wCtxOp w = 1 → exec (.ctxRead p eg t 0 bad) s =
          .next (ends { th.ran 4 with ctxWaiting := false, ctxReady := some (ctxWords (s.context k.die c), th.occupancy + 8) })) ∧
        (wCtxOp w = 2 → exec (.ctxWrite p eg t) s =
          .next (ends { ({ th.ran 4 with ctxWaiting := false } : Thread).logged (.ctx c) with writes := true })) ∧
        (wCtxOp w = 3 → exec (.ctxInit p eg t) s =
          .next (ends { ({ th.ran 4 with ctxWaiting := false } : Thread).logged (.ctx c) with writes := true, nextInit := true })) ∧
        (∀ bad, wCtxOp w = 1 → exec (.ctxRead p eg t 2 bad) s = .next (s.ctxParity p eg th.item k c bad))) ∧
      (∀ other, sparseFind? s.ae.holders key = some other → other ≠ th.item → wCtxOp w = 1 → s.ctxWaiters key = [] → ∀ ecc bad,
        exec (.ctxRead p eg t ecc bad) s =
          .next (((s.setCtxWaiters key [th.item * 2]).setItem eg th.item { k with lock := some c }).setThread p eg t { th with ctxWaiting := true }))) ∧
    (5 ∉ th.unitsRun → (wCntOp w = 1 → exec (.cntInc p eg t) s = .next (ends ((th.ran 5).logged (.inc (low 21 (th.reg (wCntReg w)) / 2 * 2))))) ∧
      (wCntOp w = 2 → exec (.cntAdd p eg t) s = .next (ends ((th.ran 5).logged (.add (low 21 (th.reg (wCntReg w))) th.a1))))) ∧
    (6 ∉ th.unitsRun → ∀ m, m = low 16 (th.reg (wMetReg w)) →
      (∀ h, k.meters.find? (fun h => h.meter = m) = some h →
        (wMetOp w = 1 → exec (.metBlind p eg t) s = .next (ends { th.ran 6 with metReady := some (h.colour, th.occupancy + 6) })) ∧
        (wMetOp w = 2 → exec (.metAware p eg t) s = .next (ends { th.ran 6 with metReady := some (h.colour, th.occupancy + 6) }))) ∧
      (k.meters.find? (fun h => h.meter = m) = none → ∀ x,
        (wMetOp w = 1 → s.chargeMeter k.die m (meterBytes k.hv) 0 = x → exec (.metBlind p eg t) s =
          .next ((x.1.setItem eg th.item { k with meters := k.meters ++ [x.2] }).setThread p eg t
            { th.ran 6 with metReady := some (x.2.colour, th.occupancy + 6) })) ∧
        (wMetOp w = 2 → s.chargeMeter k.die m (meterBytes k.hv) (min 2 (hvDp th.hv)) = x → exec (.metAware p eg t) s =
          .next ((x.1.setItem eg th.item { k with meters := k.meters ++ [x.2] }).setThread p eg t
            { th.ran 6 with metReady := some (x.2.colour, th.occupancy + 6) })))) ∧
    (7 ∉ th.unitsRun → ∀ r, r = th.reg (wEmitReg w) →
      (wEmitOp w = 1 → exec (.emitEncap p eg t) s = .next (ends ((th.ran 7).logged (.emit 1 r)))) ∧
      (wEmitOp w = 2 → exec (.emitDecap p eg t) s = .next (ends ((th.ran 7).logged (.emit 2 r)))) ∧
      (wEmitOp w = 3 → exec (.emitSetNexthop p eg t) s = .next (ends ((th.ran 7).logged (.emit 3 r)))) ∧
      (wEmitOp w = 4 → exec (.emitTtlDec p eg t) s = .next (ends ((th.ran 7).logged (.emit 4 r))))) ∧
    (8 ∉ th.unitsRun → ∀ reason, reason = puntReason th.pc th.a1 →
      (wRepl w = 1 → exec (.replRecirc p eg t) s = .next (ends ((th.ran 8).logged (.recirc (th.a1 % 16))))) ∧
      (wRepl w = 2 → exec (.replMirror p eg t) s = .next (ends ((th.ran 8).logged (.mirror (th.a1 % 256))))) ∧
      (wRepl w = 3 → exec (.replDrop p eg t) s = .next (ends { (th.ran 8).logged .drop with nextHv := (591, 588, 6) :: th.nextHv })) ∧
      (wRepl w = 4 → exec (.replPunt p eg t) s =
        .next (ends { (th.ran 8).logged (.punt reason) with nextHv := (591, 588, 5) :: (599, 592, reason) :: th.nextHv })) ∧
      (wRepl w = 5 → exec (.copyToHost p eg t) s = .next (ends ((th.ran 8).logged (.copyToHost reason))))) ∧
    (9 ∉ th.unitsRun →
      (wPerf w = 1 → th.marks.length < 8 → exec (.perfMark p eg t) s =
        .next (ends { th.ran 9 with markCount := th.markCount + 1, marks := th.marks ++ [(th.pc, th.occupancy)] })) ∧
      (wPerf w = 2 → th.log.any LogOp.isSample = false → exec (.perfSample p eg t) s = .next (ends ((th.ran 9).logged .sample))) ∧
      (wPerf w = 2 → th.log.any LogOp.isSample = true → exec (.perfSample p eg t) s = .next (ends (th.ran 9))))

/-- The sequencer (R199, R202, R206, R210, R214, R222, R223): once the units of a word have run, CONT goes on with the next word, JUMP with the target,
BRANCH, CALL and RETURN by the condition, DISPATCH at the target plus A0 mod 16; END ends the routine, TRAP and a CONT beyond the watchdog's 512 cycles go to
the trap, and CONT does nothing to a thread whose word has another SEQ. -/
def Obligations.SequencerRows : Prop :=
  ∀ (s : State) (p : Nat) (eg : Bool) (t : Nat) (th : Thread) (k : Packet) (w wait : Nat), OnWord s p eg t th k w → (∀ u, u < 10 → u ∈ th.unitsRun) →
    ((th.closeWord w).occupancy - (th.closeWord w).lockWait ≤ 512 →
      ∀ goes : Nat → List Nat → State, (∀ pc stack, goes pc stack = s.wordEnds p eg t th k w wait pc stack) → ∀ pc stack,
      s.rowBad (p / 16) 0x60 (rowIndex (p % 16 * 2 + b2n eg) pc) = false →
      (wSeq w = 0 → pc = th.pc + 1 → exec (.contWord p eg t wait 0) s = .next (goes pc th.stack)) ∧
      (wSeq w = 1 → pc = wTarget w → exec (.jumpWord p eg t wait 0) s = .next (goes pc th.stack)) ∧
      (wSeq w = 2 → pc = (if th.holds (wCond w) then wTarget w else th.pc + 1) → exec (.branchWord p eg t wait 0) s = .next (goes pc th.stack)) ∧
      (wSeq w = 3 → pc = (if th.holds (wCond w) then wTarget w else th.pc + 1) →
        stack = (if th.holds (wCond w) then (th.pc + 1) :: th.stack else th.stack) → exec (.callWord p eg t wait 0) s = .next (goes pc stack)) ∧
      (wSeq w = 4 → pc = (if th.holds (wCond w) then th.stack.headD 0 else th.pc + 1) →
        stack = (if th.holds (wCond w) then th.stack.tail else th.stack) → exec (.returnWord p eg t wait 0) s = .next (goes pc stack)) ∧
      (wSeq w = 5 → pc = wTarget w + th.a0 % 16 → exec (.dispatchWord p eg t wait 0) s = .next (goes pc th.stack)) ∧
      (wSeq w = 6 → exec (.endWord p eg t) s = .next (s.endRoutine p eg t (th.closeWord w) k)) ∧
      (wSeq w = 7 → exec (.trapWord p eg t) s = .next (s.trapItem p eg t (th.closeWord w) k 0))) ∧
    (512 < (th.closeWord w).occupancy - (th.closeWord w).lockWait → wSeq w = 0 → ∀ ecc, exec (.contWord p eg t wait ecc) s =
      .next (s.trapItem p eg t { th.closeWord w with pc := th.pc } k 1)) ∧
    (wSeq w ≠ 0 → ∀ ecc, exec (.contWord p eg t wait ecc) s = .next s) ∧
    (wSeq w = 6 → eg = false → (th.closeWord w).occupancy - (th.closeWord w).lockWait ≤ 512 → th.reclaim = false → Runs (.endWord p eg t) s fun u =>
      ∃ k1, u.packet? th.item = some k1 ∧ k1.stage = .checking ∧ k1.hv = (th.closeWord w).hv ∧ k1.log = th.log ∧ k1.frame = k.frame ∧
        u = { s with regs := u.regs, ae := u.ae, packets := u.packets } )

/-- AE_DISPATCH (R194 to R196, R200, R211, R213): a ready item without a routine is dropped and counted, whether or not a thread is free; with no thread
free, or 64 items in the exit buffer, the stopped clock is counted; otherwise the item, the first of the restarted ones if there are any, goes to a free
thread that it need not avoid, all of whose state is zero, on its opcode's routine. -/
def Obligations.DispatchRow : Prop :=
  ∀ (s : State) (p : Nat) (eg : Bool) (i t ecc : Nat) (k : Packet) (e : Nat), s.stopped = false → p % 16 ≤ 8 → s.hasDie (p / 16) = true → e = engineOf p eg →
    s.item? eg i = some k → k.stage = .ready → k.pipe = p →
    ∀ op ent waiting, op = bits k.hv 607 600 → ent = s.entry eg (s.codeBank eg i (hvGen k.hv)) op →
    waiting = ((s.exitOrder e).filter fun j => ((s.item? eg j).map fun (x : Packet) => decide (x.stage = .passed)).getD false).length →
    (bitOf ent 31 = false → ∀ s1 : State, s1 = s.setRestartQueue e ((s.restartQueue e).filter (· ≠ i)) →
      (hvReplay k.hv = false → i ∉ s.restartQueue e → exec (.aeDispatch p eg i ⟨t, ecc⟩) s = .next ((s1.aeCount p eg Od.aeNoRoutine).dropItem eg i k)) ∧
      (hvReplay k.hv = true ∨ i ∈ s.restartQueue e → exec (.aeDispatch p eg i ⟨t, ecc⟩) s = .next (s1.dropItem eg i k))) ∧
    (bitOf ent 31 = true → 64 ≤ waiting ∨ (∀ u, u < 32 → (s.thread? p eg u).isSome = true ∨ s.threadInService p eg u = false) →
      exec (.aeDispatch p eg i ⟨t, ecc⟩) s = .next (s.aeCount p eg Od.aeStallClocks)) ∧
    (bitOf ent 31 = true → waiting < 64 → s.thread? p eg t = none → s.threadInService p eg t = true → k.avoid ≠ some t →
      s.restartQueue e = [] ∨ (s.restartQueue e).head? = some i → exec (.aeDispatch p eg i ⟨t, ecc⟩) s = .next (s.dispatchItem p eg i t ecc k) ∧
        (ecc = 0 → s.rowBad (p / 16) 0x60 (rowIndex (p % 16 * 2 + b2n eg) (bits ent 29 16)) = false → ∃ th k1 u, s.dispatchItem p eg i t ecc k = u ∧
          u.thread? p eg t = some th ∧ u.item? eg i = some k1 ∧ k1.stage = .running ∧ k1.hv = k.hv ∧ k1.frame = k.frame ∧ k1.restarts = k.restarts ∧
          th.item = i ∧ th.pc = bits ent 29 16 ∧ th.profile = bits ent 15 8 ∧ th.opcode = op ∧ th.hv = k.hv ∧ th.g = List.replicate 32 0 ∧ th.a0 = 0 ∧
          th.a1 = 0 ∧ th.stack = [] ∧ th.log = [] ∧ th.committed = false ∧ th.occupancy = 0 ∧
          u.exitOrder e = (if (s.exitOrder e).contains i then s.exitOrder e else s.exitOrder e ++ [i]) ∧
          u = { s with regs := u.regs, ae := u.ae, packets := u.packets, tm := u.tm, ctrs := u.ctrs, freeCount := u.freeCount }))

/-- Events of threads (R216, R218, R220, R221, R224): a lock is granted to the packet that waits longest; a fault before commit restarts its packet, the
third time punting it, and after commit marks it for its exit check; a thread that fails its self-check or was restarted twice within a second is retired;
the earliest item, once passed, leaves. -/
def Obligations.ThreadRows : Prop :=
  ∀ s : State, s.stopped = false →
    (∀ d c waited ecc bad key, s.hasDie d = true → key = d * 65536 + c →
      ((sparseFind? s.ae.holders key).isSome = true ∨ s.ctxWaiters key = [] → exec (.ctxLockGrant d c waited ecc bad) s = .next s) ∧
      (∀ i rest p t th k w, sparseFind? s.ae.holders key = none → s.ctxWaiters key = i * 2 :: rest → t < 64 →
        s.ae.threads.find? (fun (e : Nat × Thread) => e.2.item = i && e.2.ctxWaiting && e.1 / 64 % 2 = 0) = some (p * 128 + t, th) →
        s.packet? i = some k → w = s.word false th.bank th.pc → wCtxOp w = 1 → low 16 (th.reg (wCtxReg w)) = c → k.die = d →
        Runs (.ctxLockGrant d c waited 0 bad) s fun u => sparseFind? u.ae.holders key = some i ∧
          u.thread? p false t = some { ({ th with occupancy := th.occupancy + waited, lockWait := th.lockWait + waited } : Thread).ran 4 with
            ctxWaiting := false, ctxReady := some (ctxWords (s.context d c), th.occupancy + waited + 8) } ∧
          u = { s with regs := u.regs, ae := u.ae })) ∧
    (∀ p eg t th k e, p % 16 ≤ 8 → s.hasDie (p / 16) = true → s.thread? p eg t = some th → s.item? eg th.item = some k → e = engineOf p eg →
      ∀ s1 : State, s1 = (s.endThread p eg t).aeCount p eg Od.aeCycles th.occupancy →
      (th.committed = true → exec (.threadFault p eg t 0) s = .next (s.setItem eg th.item { k with marked := some (t, th.pc, th.opcode) })) ∧
      (th.committed = false → k.restarts < 2 → ∀ s3 : State,
        s3 = ((s1.noteRestart p eg t).aeCount p eg Od.aeRestarts).fault (p / 16) 0x05 0 (p * 256 + t) th.pc th.opcode → exec (.threadFault p eg t 0) s =
          .next ((s3.setItem eg th.item { k with stage := .ready, restarts := k.restarts + 1, avoid := some t, log := [], ctxNew := none }).setRestartQueue e
            (s3.restartQueue e ++ [th.item]))) ∧
      (th.committed = false → 2 ≤ k.restarts → exec (.threadFault p eg t 0) s = .next
        (((s1.aeCount p eg Od.aeRestartLimitPunts).fault (p / 16) 0x05 2 (p * 256 + t) th.pc th.opcode).puntItem eg th.item k 0x05)) ∧
      (exec (.threadFault p eg t 1) s = .next ((s.fault (p / 16) 0x06 2 p th.pc).threadEvent p eg t th k)) ∧
      (th.committed = true → exec (.threadFault p eg t 2) s = .next (s.setThread p eg t { th with reclaim := true }))) ∧
    (∀ p eg t f, p % 16 ≤ 8 → s.hasDie (p / 16) = true →
      f = ({ die := p / 16, source := 0x05, cls := 1, location := p * 256 + t, detail0 := 0, detail1 := 0, repairing := false,
             spareUsed := (List.range 36).any fun u => s.spareState 4 (p / 16) (threadGroup p eg) u < 3 } : FaultError) →
      (∀ u failed, u = s.threadUnit p eg t →
        failed = true ∨ 2 ≤ ((sparseGet (fun _ => []) s.ae.faults (engineOf p eg * 64 + t)).filter fun n => decide (s.up < n + 1000000000)).length →
        s.threadInService p eg t = true → s.thread? p eg t = none → exec (.threadRetire p eg t failed) s = .next
        (((((s.setSpare 4 (p / 16) (threadGroup p eg) u 4).retire 4 (p / 16) (threadGroup p eg) u 0x05).recordFault f).fire (p / 16) 0x14E).fillThreads p eg)) ∧
      (sparseGet (fun _ => []) s.ae.faults (engineOf p eg * 64 + t) = [] → exec (.threadRetire p eg t false) s = .next s)) ∧
    (∀ p eg i rest k, p % 16 ≤ 8 → s.hasDie (p / 16) = true → s.exitOrder (engineOf p eg) = i :: rest → s.item? eg i = some k →
      (k.stage = .passed → exec (.aeExit p eg) s = .next ((s.setExitOrder (engineOf p eg) rest).setItem eg i { k with stage := .left })) ∧
      (k.stage ≠ .passed → exec (.aeExit p eg) s = .next s))

/-- The exit check (R216, R220, R410 to R413): an item that passes has its log released and its context written; one that its thread marked is replayed, the
third time dropped. A spare's take-over check and test set the spare's state; due writes of a free context and of meters take effect. -/
def Obligations.ExitChecks : Prop :=
  ∀ s : State, s.stopped = false →
    (∀ eg i k, s.item? eg i = some k →
      (k.stage ≠ .checking → ∀ failed, exec (.exitCheck eg i failed) s = .next s) ∧
      (k.stage = .checking → k.marked = none → ∀ passed : Packet, passed = { k with stage := .passed, meters := [], lock := none, ctxNew := none } →
        (k.picked = false → k.lock = none →
          (k.log = [] → exec (.exitCheck eg i 0) s = .next (s.setItem eg i passed)) ∧
          (∀ c v, k.log = [.add c v] → exec (.exitCheck eg i 0) s = .next ((s.addCounter k.die c v).setItem eg i passed))) ∧
        (∀ c v, k.picked = false → k.lock = some c → k.ctxNew = some v → k.log = [.ctx c] → sparseFind? s.ae.holders (k.die * 65536 + c) = some i →
          s.ctxWaiters (k.die * 65536 + c) = [] → sparseRising none s.ae.contexts = true → sparseRising none s.ae.holders = true →
          Runs (.exitCheck eg i 0) s fun u => u.item? eg i = some passed ∧ u.context k.die c = v ∧ sparseFind? u.ae.holders (k.die * 65536 + c) = none ∧
            u = { s with ae := u.ae, packets := u.packets, tm := u.tm })) ∧
      (∀ m, k.stage = .checking → k.marked = some m → ∀ s1 : State,
        s1 = s.fault (k.pipe / 16) 0x05 0 (k.pipe * 256 + m.1) m.2.1 m.2.2 →
        (2 ≤ k.replays → exec (.exitCheck eg i 0) s =
          .next (((s1.aeCount k.pipe eg Od.replayDrops).fault (k.pipe / 16) 0x04 2 k.pipe 16 k.tag).dropItem eg i k)) ∧
        (k.replays < 2 → ∀ s2 : State, s2 = (if eg then s1.endThreadsOf k.pipe eg i else (s1.endThreadsOf k.pipe eg i).leaveLookups i
            { k with replays := k.replays + 1 }) → ∀ s3 : State,
          s3 = s2.setRestartQueue (engineOf k.pipe eg) ((s2.restartQueue (engineOf k.pipe eg)).filter (· ≠ i)) →
          exec (.exitCheck eg i 0) s = .next (((if eg then s3 else s3.giveTo k.die k.head 1 k.pipe 0).setItem eg i
            { k with replays := k.replays + 1, stage := .received, hv := putBits k.hv0 1864 1864 1, log := [], ctxNew := none, marked := none, place := .none,
                     searched := false, avoid := none }).aeCount k.pipe eg Od.pipelineReplays)))) ∧
    (∀ d eg o s1, s.hasDie d = true → s.recov.checks.find? (fun c => c.1 = d * 2 + b2n eg) = some (d * 2 + b2n eg, o) →
      (∀ e ∈ s.packets, e.2.stage ≠ .spare) → (∀ e ∈ s.tm.copies, e.2.k.stage ≠ .spare) →
      s1 = ({ s with recov := { s.recov with checks := s.recov.checks.filter fun c => c.1 ≠ d * 2 + b2n eg } } : State) →
      exec (.spareTakeoverCheckDone d eg true) s = .next (s1.moveOctet d eg o) ∧
      exec (.spareTakeoverCheckDone d eg false) s =
        .next (((s1.setSpare (if eg then 3 else 2) d 0 0 4).retire (if eg then 3 else 2) d 0 (s.sparePipe d eg) 0x04).octetDown d o)) ∧
    (∀ cls d g u, s.hasDie d = true → cls ≠ 0 → cls ≠ 4 → s.spareState cls d g u = 1 ∨ s.spareState cls d g u = 2 →
      exec (.spareTestDone cls d g u true) s = .next (s.setSpare cls d g u 2) ∧
      exec (.spareTestDone cls d g u false) s = .next ((s.setSpare cls d g u 4).retire cls d g u 0)) ∧
    (∀ d c w key, s.hasDie d = true → key = d * 65536 + c → s.rings.timed = [w] → w.table = 0x50 → w.index = key → c < 65536 → w.epoch ≤ s.time.epoch →
      s.ctxWaiters key = [] →
      (∀ i, sparseFind? s.ae.holders key = some i → exec (.flowContextApply d c) s = .next (s.setCtxWaiters key [w.token * 2 + 1])) ∧
      (sparseFind? s.ae.holders key = none → ∀ u : State,
        u = (((s.setCtxWaiters key [w.token * 2 + 1]).setCtxWaiters key []).setContext d c (beNat (slice w.record 0 64))) →
        exec (.flowContextApply d c) s = .next (({ u with rings := { u.rings with timed := [] } } : State).completeToken w.fn w.wq w.token .ok w.seq))) ∧
    (∀ w, s.rings.timed = [w] → w.table = 0x64 → w.epoch ≤ s.time.epoch → ∀ u : State,
      u = s.setMeter (w.index / 65536) (w.index % 65536) { record := leNat w.record, c := meterCbs (leNat w.record) * 8000,
                                                           e := meterPbs (leNat w.record) * 8000, at_ := s.up } →
      exec .meterApply s = .next (({ u with rings := { u.rings with timed := [] } } : State).completeToken w.fn w.wq w.token .ok w.seq))

/-- TM_ENQUEUE (R233, R246, R249, R252, R275): the fate of a packet without a log follows its HV: a logical port of the part gets one copy, an unused one
counts TM_BAD_DEST, DROP frees the packet, PUNT sends it to the punt path. RECIRC in the fourth pass is punted, a late one dropped and one with no path
counted. -/
def Obligations.EnqueueRow : Prop :=
  ∀ (s : State) (p : Nat) (k : Packet), s.stopped = false → s.packet? p = some k →
    (k.stage ≠ .left → exec (.tmEnqueue p) s = .next s) ∧
    (k.stage = .left → k.mirror = none →
      (k.log = [] → ∀ dest l r, dest = hvDest k.hv → l = dest % 4096 → r = s.tbl (s.liveFor 0x40 (hvGen k.hv)) 0x40 l →
        (hvKind k.hv = 1 → dest / 4096 = 0 → bits r 127 126 = 1 → s.portExists l = true → exec (.tmEnqueue p) s =
          .next (s.unicast p k (s.flowHash k.hv) { port := l, nh := 0, lport := l, replica := 0 } 0 0)) ∧
        (hvKind k.hv = 1 → dest / 4096 = 0 → bits r 127 126 = 0 → exec (.tmEnqueue p) s =
          .next ((s.bump Od.tmBadDest (dieInst k.die)).dropPacket p k)) ∧
        (hvKind k.hv = 0 → exec (.tmEnqueue p) s = .next ((s.bump Od.tmBadDest (dieInst k.die)).dropPacket p k)) ∧
        (hvKind k.hv = 5 → exec (.tmEnqueue p) s = .next (s.puntEnqueued p k (bits k.hv 599 592) 0)) ∧
        (hvKind k.hv = 6 → exec (.tmEnqueue p) s = .next (s.dropPacket p k)) ∧
        (hvKind k.hv = 2 → dest / 16384 = 0 → s.ecmpMember (hvGen k.hv) (s.flowHash k.hv) dest = none →
          exec (.tmEnqueue p) s = .next ((s.bump Od.ecmpBadMember).dropPacket p k)) ∧
        (∀ grp, hvKind k.hv = 3 → dest < 65535 → s.replGroup? s.rewriteBank dest = some grp → bitOf grp 255 = false →
          exec (.tmEnqueue p) s = .next (s.dropPacket p k)) ∧
        (hvKind k.hv = 4 → bits dest 22 18 = 0 → exec (.tmEnqueue p) s = .next ((s.bump Od.tmBadDest (dieInst k.die)).dropPacket p k))) ∧
      (k.log = [.drop] → exec (.tmEnqueue p) s = .next (s.dropPacket p k)) ∧
      (∀ reason, k.log = [.punt reason] → exec (.tmEnqueue p) s = .next (s.puntEnqueued p k reason 0)) ∧
      (∀ profile, k.log = [.recirc profile] →
        (hvPass k.hv = 3 → exec (.tmEnqueue p) s = .next ((s.bump Od.recircLimitCount (dieInst k.die)).puntEnqueued p k 0x09 0)) ∧
        (hvPass k.hv ≠ 3 → 32000 < s.age k → exec (.tmEnqueue p) s = .next ((s.bump Od.recircDropLate (dieInst k.die)).dropPacket p k)) ∧
        (hvPass k.hv ≠ 3 → s.age k ≤ 32000 → s.rd Od.loopbackClaim ≠ 1 → s.rd Od.loopbackClaim ≠ 3 →
          exec (.tmEnqueue p) s = .next ((s.bump Od.loopbackNoPath (dieInst k.die)).dropPacket p k)))) ∧
    (k.stage = .left → ∀ sess, k.mirror = some sess → bits (s.nextHop (s.liveFor 0x4A (hvGen k.hv)) (bits (s.tbl s.rewriteBank 0x57 sess) 102 85)) 127 126 = 2 →
      exec (.tmEnqueue p) s = .next (s.dropPacket p k))

/-- Request and grant (R275 to R281, R286): the egress die keeps a request; its arbiter grants one die's while the port class is below its window, at once
where the port is down, and never while it drains; a grant sends the first packet that asked; standing-grant cells come back; die copies become port copies. -/
def Obligations.GrantRows : Prop :=
  ∀ s : State, s.stopped = false →
    (∀ d source v cells, s.hasDie d = true →
      (v < 4096 → exec (.request d source v cells) s = .next (s.setRequests v (s.requestsAt v ++ [(source, v, cells)]))) ∧
      (4096 ≤ v → exec (.request d source v cells) s = .next (s.setFanRequests d (s.fanRequestsAt d ++ [(source, v, cells)])))) ∧
    (∀ v q rest, v < 4096 → s.hasDie (v / 8 / 64) = true → s.requestsAt v = q :: rest →
      (s.portStateOf (v / 8) = 4 ∨ s.portStateOf (v / 8) = 5 → exec (.arbiterGrant v) s = .next s) ∧
      (s.portStateOf (v / 8) ≠ 2 → s.portStateOf (v / 8) ≠ 4 → s.portStateOf (v / 8) ≠ 5 → exec (.arbiterGrant v) s =
        .next (((s.setRequests v rest).setInFlight v (s.inFlight v + q.2.2)).giveGrant (v / 8 / 64) q)) ∧
      (s.portStateOf (v / 8) = 2 → s.inStorm v = false → s.txWindow (v / 8) ≤ s.txCells v + s.inFlight v → exec (.arbiterGrant v) s = .next s) ∧
      (s.portStateOf (v / 8) = 2 → s.inStorm v = false → s.txCells v + s.inFlight v < s.txWindow (v / 8) → (∀ r ∈ rest, r.1 = q.1) → q.1 ∈ s.part.dies →
        0 < s.deficit v q.1 → exec (.arbiterGrant v) s =
          .next ((((s.setDeficit v q.1 (s.deficit v q.1 - q.2.2)).setRequests v rest).setInFlight v (s.inFlight v + q.2.2)).giveGrant (v / 8 / 64) q))) ∧
    (∀ v, v < 4096 → s.hasDie (v / 8 / 64) = true → s.requestsAt v = [] → exec (.arbiterGrant v) s = .next s) ∧
    (∀ v q rest, 4096 ≤ v → s.hasDie ((v - 4096) / 8) = true → s.fanRequestsAt ((v - 4096) / 8) = q :: rest →
      (s.fanHeld ((v - 4096) / 8) < s.rd Od.replCellLimit → exec (.arbiterGrant v) s =
        .next ((s.setFanRequests ((v - 4096) / 8) rest).giveGrant ((v - 4096) / 8) q)) ∧
      (s.rd Od.replCellLimit ≤ s.fanHeld ((v - 4096) / 8) → exec (.arbiterGrant v) s = .next s)) ∧
    (∀ d v, s.hasDie d = true →
      ((∀ i ∈ s.queueOf d v, ∀ c, s.copy? i = some c → c.stage ≠ .requested) → exec (.grant d v) s = .next s) ∧
      (∀ i c, s.queueOf d v = [i] → s.copy? i = some c → c.stage = .requested → exec (.grant d v) s =
        .next (((((s.setQueue d v []).sendCells i c).pumpRequests d v 16).noteReturn d v).joinStaged d v 1))) ∧
    (∀ d n cells, s.hasDie d = true → exec (.standingRestore d n cells) s = .next (s.setStandingUsed d n (s.standingUsed d n - cells))) ∧
    (∀ i c, s.copy? i = some c → c.isFan = true → c.stage = .arrived → ∀ t l, s.portCopies c 0 = (t, l) →
      (l = [] → exec (.dieCopyArrival i) s = .next (t.endCopy i { c with last := true })) ∧
      (l ≠ [] → exec (.dieCopyArrival i) s = .next { t with tm := { t.tm with copies := sparseErase t.tm.copies i } }))

/-- The egress pipeline (R158, R234, R236, R240, R242, R249): a copy waits while every thread of its engine is busy, and enters it with the banks and the
rule set then live, its VID and the port's EGRESS_MTU; a copy with an empty rewrite list and no next hop leaves it as its frame less FCS, beyond the MTU it
is dropped, and a drop and a recirculation there are counted, and a punt goes to the punt path. -/
def Obligations.EgressRows : Prop :=
  ∀ (s : State) (i : Nat) (c : Copy), s.stopped = false → s.copy? i = some c →
    (c.isFan = false → c.stage = .arrived → s.threadsBusy (s.egressPipe c) true = true → exec (.egressEntry i) s = .next s) ∧
    (c.isFan = false → c.stage = .arrived → s.threadsBusy (s.egressPipe c) true = false → hvEntries c.k.hv = [] → bits c.k.hv 775 758 = 0 → ∀ n d bd hv0, n = c.port → d = n / 64 → bd = bits c.k.hv 757 744 →
      hv0 = putFields c.k.hv [(775, 758, 0), (757, 744, bd)] → s.rowBad d 0x40 (rowIndex (s.fam 0x40).live (bits hv0 787 776)) = false →
      s.hashLookup d 0x41 (s.fam 0x41).live (27, 2 ^ 26 + bits hv0 787 776 * 2 ^ 14 + bits hv0 757 744) = (none, none) → 12 ≤ s.rd Od.egressAsaSet (portInst (bits hv0 799 791)) →
      exec (.egressEntry i) s = .next (s.setCopy i
        { c with stage := .egress, mtu := s.rd Od.egressMtu (portInst n), vid := if s.rd Od.egressTagging (portInst n) = 1 then bits (bits hv0 757 744) 11 0 else 0,
                 banks := [0x40, 0x54, 0x4A, 0x201, 0x41, 0x42].map (fun f => (s.fam f).live) ++ s.egressSet n,
                 k := { c.k with stage := .ready, pipe := d * 16 + s.pipeOf d true (n % 64 / 8), hv := putHit hv0 16, hv0 := hv0 } })) ∧
    (c.stage = .egress → c.k.stage ≠ .received → exec (.egressEntry i) s = .next s) ∧
    (c.stage = .egress → c.k.stage ≠ .left → exec (.rewriteCopy i) s = .next s) ∧
    (c.stage = .egress → c.k.stage = .left →
      (∀ q, c.k.log = [.recirc q] → exec (.rewriteCopy i) s = .next (s.dropEgress i c Od.egressRecircDrop)) ∧
      (c.k.log = [.drop] → exec (.rewriteCopy i) s = .next (s.dropEgress i c Od.egressDrops)) ∧
      (∀ reason, c.k.log = [.punt reason] → exec (.rewriteCopy i) s = .next (s.puntEgress i c reason)) ∧
      (c.k.log = [] →
        (hvKind c.k.hv = 6 → exec (.rewriteCopy i) s = .next (s.dropEgress i c Od.egressDrops)) ∧
        (hvKind c.k.hv = 5 → exec (.rewriteCopy i) s = .next (s.puntEgress i c (bits c.k.hv 599 592))) ∧
        (hvKind c.k.hv ≠ 0 → hvKind c.k.hv ≠ 5 → hvKind c.k.hv ≠ 6 → exec (.rewriteCopy i) s = .next (s.dropEgress i c Od.egressBadDest)) ∧
        (hvKind c.k.hv = 0 → hvEntries c.k.hv = [] → bits c.k.hv 775 758 = 0 →
          (∀ e, (hvInstances c.k.hv).head? = some e → etherTypeOf (instType e) = none → instType e ≠ 0x01 →
            exec (.rewriteCopy i) s = .next (s.dropEgress i c Od.rewriteBadRecord)) ∧
          (c.vid = 0 → hvL3End c.k.hv = 0 → ((hvInstances c.k.hv).getD 0 (0x01 * 2 ^ 24)) / 2 ^ 24 % 256 = 0x01 → ∀ body, body = c.k.frame.take (c.k.frame.length - 4) →
            isTpid (beNat (slice body 12 2)) = false →
            (c.k.ended = false ∨ body.length + 4 ≤ min 10240 c.mtu → exec (.rewriteCopy i) s =
              .next ((s.setCopy i { c with stage := .queued, out := body }).setTxQueue c.pc (s.txQueue c.pc ++ [i]))) ∧
            (c.k.ended = true → min 10240 c.mtu < body.length + 4 → exec (.rewriteCopy i) s = .next (s.dropEgress i c Od.rewriteMtuDrop))))))

/-- Transmission (R89, R111, R242, R262, R278, R293 to R296): a free port serves the highest strict class that has a copy; its queues are discarded while it
is down; a sent frame is counted and given to the wire with its FCS, or the complement of it when it is bad at its end. -/
def Obligations.TransmitRows : Prop :=
  ∀ (s : State) (n : Nat), s.stopped = false → n < 512 → s.hasDie (n / 64) = true →
    ((sparseFind? s.tm.sending n).isSome = true → exec (.portFrameStart n) s = .next s) ∧
    (sparseFind? s.tm.sending n = none → s.portStateOf n ≠ 2 → s.portStateOf n ≠ 4 → s.portStateOf n ≠ 5 →
      exec (.portFrameStart n) s = .next (s.discardQueues n)) ∧
    (∀ t i rest c, t < 8 → sparseFind? s.tm.sending n = none → s.portStateOf n = 2 → (s.gate n).length = 0 → (s.gate n).swap = none → s.rd Od.portShapeRate (portInst n) = 0 →
      s.txQueue (n * 8 + t) = i :: rest → s.copy? i = some c → s.storedEnough n c = true → s.paused (n * 8 + t) = false → s.rd Od.shapeRate (portInst n) t = 0 →
      s.rd Od.schedMode (portInst n) t = 0 →
      (∀ u j l, u < 8 → s.txQueue (n * 8 + u) = j :: l → ∃ x, s.copy? j = some x ∧ x.k.bad = false) → (∀ u, u < 8 → t < u → s.txQueue (n * 8 + u) = []) →
      ∀ u : State, u = (s.setTxQueue (n * 8 + t) rest).setCopy i { c with stage := .sending, stamp := s.txStamp n, charged := c.wireLength } →
      exec (.portFrameStart n) s = .next { u with tm := { u.tm with sending := sparsePut u.tm.sending n i } }) ∧
    (sparseFind? s.tm.sending n = none → exec (.transmitDone n) s = .next s) ∧
    (∀ i c, sparseFind? s.tm.sending n = some i → s.copy? i = some c →
      (c.k.ended = false → exec (.transmitDone n) s = .next s) ∧
      (c.k.ended = true → ∀ out padded, out = (if s.rd Od.ptpPortEnable (portInst n) = 0 then c.out else s.ptpOut n c c.out) →
        padded = out ++ List.replicate (60 - out.length) 0 →
        ∀ bytes, bytes = padded ++ leBytes 4 (if c.k.bad then 0xFFFFFFFF - crc32Eth padded else crc32Eth padded) →
        ∀ u v : State, u = ((s.ptpStamp n c c.out).codeFrame n bytes).settleCharge n c bytes.length →
        v = { u with tm := { u.tm with sending := sparseErase u.tm.sending n } } →
        (c.k.bad = false → exec (.transmitDone n) s =
          .next ((((((v.macCount n 6 1).macCount n 7 bytes.length).bwCount n bytes.length true).emit (.frame n bytes)).restoreStanding c).endCopy i c)) ∧
        (c.k.bad = true → exec (.transmitDone n) s =
          .next (((((v.macCount n 8 1).bwCount n bytes.length true).emit (.frame n bytes)).restoreStanding c).endCopy i c))))

/-- The loopback path (R246 to R250, R258, R262): a slot serves a share's packet, which enters new cells of class 9 or, bad at its end, is dropped; it is
injected on a free clock or after 1 µs; a looping packet of 36 µs and one in its pass of 40 µs are removed and counted. -/
def Obligations.LoopRows : Prop :=
  ∀ s : State, s.stopped = false →
    (∀ d, s.hasDie d = true → s.loopQueue d 0 = [] → s.loopQueue d 1 = [] → exec (.loopbackSlot d) s = .next s) ∧
    (∀ d p rest k, s.hasDie d = true → s.loopQueue d 0 = p :: rest → s.loopQueue d 1 = [] → s.packet? p = some k → k.mirror = none →
      (k.ended = false → exec (.loopbackSlot d) s = .next s) ∧
      (k.ended = true → ∀ s1 s2 : State, s1 = s.setLoopQueue d 0 ((p :: rest).filter (· ≠ p)) →
        s2 = ({ s1 with tm := { s1.tm with loopServed := sparsePut s.tm.loopServed (d * 2) (s.loopServedOf d 0 + cellsOf k.frame.length) } } : State).leaveOldCells k →
        (k.bad = true → exec (.loopbackSlot d) s = .next (s2.endIngress p k)) ∧
        (k.bad = false → ∀ x, x = s2.openRecord d 15 8 9 k.frame.length 4 0 → exec (.loopbackSlot d) s =
          .next (x.1.setPacket p { k with stage := .renewed, head := x.2.1, tag := x.2.2, owns := true, since := s.up })))) ∧
    (∀ p k pipe, s.packet? p = some k → k.stage = .renewed → pipe = k.die * 16 + s.pipeOf k.die false (k.octet % 8) →
      (exec (.loopbackInject p true) s =
        .next ((s.giveTo k.die k.head 1 pipe 0).setPacket p { k with stage := .received, pipe := pipe, owns := false })) ∧
      (k.since + 1000 ≤ s.up → exec (.loopbackInject p false) s =
        .next (((s.bump Od.loopbackInjectClocks (dieInst k.die)).giveTo k.die k.head 1 pipe 0).setPacket p
          { k with stage := .received, pipe := pipe, owns := false })) ∧
      (s.up < k.since + 1000 → exec (.loopbackInject p false) s = .next s)) ∧
    (∀ d p k s1, s.hasDie d = true → s.packets = [(p, k)] → k.die = d → k.mirror = none →
      s1 = (List.range 8).foldl (fun (a : State) o => a.removeLateStarts d o) s → s1.packets = s.packets → s1.time = s.time →
      (k.stage = .looping → 36000 ≤ s.age k → exec (.lateRemoval d) s = .next ((s1.bump Od.recircDropLate (dieInst d)).dropLoop p k)) ∧
      (k.stage = .looping → s.age k < 36000 → exec (.lateRemoval d) s = .next s1) ∧
      (k.inPass = true → 40000 ≤ s.age k → hvPass k.hv = 0 →
        exec (.lateRemoval d) s = .next (((s1.bump Od.ingressDropLate (dieInst d)).leaveLookups p k).dropItem false p k)) ∧
      (k.inPass = true → s.age k < 40000 → exec (.lateRemoval d) s = .next s1))

/-- CELL_FREE and CELL_RELEASE (R262 to R264): only the named owner with the packet's TAG may free it; its cells return once no user is left, and a free,
release or decrement that contradicts the record, or names a packet that is free already, changes nothing but its counter and a fault record with the
packet's TAG. -/
def Obligations.CellOwners : Prop :=
  ∀ (s : State) (d head kind id : Nat), s.stopped = false → s.hasDie d = true →
    (∀ o tag, s.cellFault o d head tag kind id =
      (s.bump o (dieInst d)).fault d 0x0E 2 head (((s.record? d head).map (·.tag)).getD tag) (kind * 65536 + id)) ∧
    (s.record? d head = none → exec (.cellRelease d head kind id) s = .next (s.cellFault Od.bpmNotOwner d head 0 kind id) ∧
      ∀ tag, exec (.cellFree d head tag kind id) s = .next (s.cellFault Od.bpmDoubleFree d head tag kind id)) ∧
    (∀ r, s.record? d head = some r →
      (r.refcount = false → r.kind = 0 → exec (.cellRelease d head kind id) s = .next (s.cellFault Od.bpmNotOwner d head r.tag kind id) ∧
        ∀ tag, exec (.cellFree d head tag kind id) s = .next (s.cellFault Od.bpmDoubleFree d head tag kind id)) ∧
      (r.refcount = false → r.kind ≠ 0 →
        (r.freePending = false → r.kind = kind → r.id = id →
          (r.users = 0 → exec (.cellFree d head r.tag kind id) s = .next (s.returnCells d head)) ∧
          (0 < r.users → exec (.cellFree d head r.tag kind id) s = .next (s.setRecord d head { r with freePending := true }))) ∧
        (∀ tag, r.tag ≠ tag ∨ r.freePending = true →
          exec (.cellFree d head tag kind id) s = .next (s.cellFault Od.bpmDoubleFree d head tag kind id)) ∧
        (r.freePending = false → r.kind ≠ kind ∨ r.id ≠ id →
          exec (.cellFree d head r.tag kind id) s = .next (s.cellFault Od.bpmNotOwner d head r.tag kind id)) ∧
        (0 < r.users → r.freePending = false → exec (.cellRelease d head kind id) s = .next (s.setRecord d head { r with users := r.users - 1 })) ∧
        (r.users = 1 → r.freePending = true → r.kind ≠ kind ∨ r.id ≠ id →
          exec (.cellRelease d head kind id) s = .next ((s.setRecord d head { r with users := 0 }).returnCells d head)) ∧
        (r.users = 0 → r.freePending = false → exec (.cellRelease d head kind id) s = .next (s.cellFault Od.bpmNotOwner d head r.tag kind id)) ∧
        (r.freePending = true → r.kind = kind → r.id = id →
          exec (.cellRelease d head kind id) s = .next (s.cellFault Od.bpmDoubleFree d head r.tag kind id))) ∧
      (r.refcount = true → ∀ i tag, i = Instr.cellRelease d head kind id ∨ i = .cellFree d head tag kind id →
        (r.users = 0 → exec i s = .next (s.cellFault Od.bpmRefcountUnderflow d head r.tag kind id)) ∧
        (r.users = 1 → exec i s = .next (s.returnCells d head)) ∧
        (1 < r.users → exec i s = .next (s.setRecord d head { r with users := r.users - 1 }))))

/-- Allocation (R255, R258, R261, R265): a port's request is given one or two free cells of one bank and holds them, or is counted where none is free and
stays or is dropped by its class; frames that have waited too long are dropped; a word that fails its parity is out of allocation until it is rebuilt; a
sweep recovers cells that nothing owns. What follows a change of the free cells comes after each. -/
def Obligations.CellClocks : Prop :=
  ∀ (s : State) (d : Nat), s.stopped = false → s.hasDie d = true →
    (∀ q c pair o w, q < 18 → c < 8 ∨ 10 < c → sparseGet (fun _ => (0, [])) s.bufs.order d = (o, []) → (∀ i, i < 8 → s.waitingAt d i = []) →
      s.rings.injects = [] → (∀ x ∈ s.bufs.refill, x / 8 ≠ d) → w = ({ port := q, cls := c, pair := pair, since := s.up } : CellRequest) →
      (s.cellsFree d = 0 → 8 ≤ q ∨ s.reserved d q = 0 → ∀ u : State, u = s.bump Od.bpmClassNoBuffer (dieInst d) c →
        (s.rd Od.bpmClassPolicy 0 c = 0 → 0 < s.rd Od.bpmClassWaitLimit 0 c → exec (.cellAllocate d [(q, c, pair)]) s =
          .next (({ u with bufs := { u.bufs with order := sparsePut u.bufs.order d (q, [w]) } } : State).fMoved d)) ∧
        (s.rd Od.bpmClassPolicy 0 c ≠ 0 → ∀ v : State, v = (if c < 8 then u.bump Od.bpmClassDrops (dieInst d) c else u) →
          exec (.cellAllocate d [(q, c, pair)]) s =
            .next (({ v with bufs := { v.bufs with order := sparsePut v.bufs.order d (q, []) } } : State).fMoved d))) ∧
      (0 < s.cellsFree d → ∀ got, got = s.serveRequest d (pair && decide (2 ≤ s.cellsFree d)) [] → got ≠ [] → ∀ u : State,
        u = (s.markCells d got).setHeld d q (s.heldCells d q ++ got.map fun x => (x, c)) →
        (got.length = 2 ∨ pair = false → exec (.cellAllocate d [(q, c, pair)]) s =
          .next (({ u with bufs := { u.bufs with order := sparsePut u.bufs.order d ((o + 1) % 18, []) } } : State).fMoved d)) ∧
        (got.length = 1 → pair = true → exec (.cellAllocate d [(q, c, pair)]) s =
          .next (({ u with bufs := { u.bufs with order := sparsePut u.bufs.order d (q, [{ w with pair := false }]) } } : State).fMoved d)) ∧
        (∀ x ∈ got, x ∉ s.usedCells d ∧ x / 32768 = got.headD 0 / 32768 ∧ x < 524288) ∧ got.Nodup ∧ got.length ≤ 2)) ∧
    (∀ o w, o < 8 → s.waitingAt d o = [w] →
      (w.since + s.rd Od.bpmClassWaitLimit 0 w.pg ≤ s.up → exec (.classWaitExpire d o) s = .next ((s.setWaiting d o []).dropWaiting w)) ∧
      (s.up < w.since + s.rd Od.bpmClassWaitLimit 0 w.pg → exec (.classWaitExpire d o) s = .next (s.setWaiting d o [w]))) ∧
    (∀ x, s.rings.injects = [x] → x.die = d → x.since + s.rd Od.bpmClassWaitLimit 0 11 ≤ s.up → exec (.classWaitExpire d 8) s =
      .next (({ s with rings := { s.rings with injects := [] } } : State).completeToken x.fn x.wq x.token .noBuffer 0)) ∧
    (∀ bank word,
      ((d, bank, word) ∈ s.bufs.badWords → exec (.bitmapParityFail d bank word) s = .next s) ∧
      ((d, bank, word) ∉ s.bufs.badWords → exec (.bitmapParityFail d bank word) s =
        .next ((({ s with bufs := { s.bufs with badWords := s.bufs.badWords ++ [(d, bank, word)] } } : State).fault d 0x0D 0 (bank * 32768 + word * 32) 0).later
          1000000 (.bitmapRebuildDone d bank word))) ∧
      exec (.bitmapRebuildDone d bank word) s =
        .next (({ s with bufs := { s.bufs with badWords := s.bufs.badWords.filter fun w => w ≠ (d, bank, word) } } : State).fMoved d)) ∧
    ((∀ e ∈ s.bufs.records, e.1 / 524288 = d → e.2.kind = 0) → (∀ e ∈ s.bufs.held, e.1 / 32 ≠ d) → sparseRising none s.bufs.cells = true → ∀ u : State,
      u = { s with bufs := { s.bufs with cells := (s.usedCells d).foldl (fun m c => sparseErase m (cellKey d c)) s.bufs.cells } } →
      u.usedCells d = [] ∧ (∀ key, key / 524288 ≠ d → sparseFind? u.bufs.cells key = sparseFind? s.bufs.cells key) ∧
        (s.usedCells d = [] → exec (.bpmSweep d) s = .next s) ∧
        (s.usedCells d ≠ [] →
          exec (.bpmSweep d) s = .next ((u.bump Od.bpmCellsRecovered (dieInst d) 0 (s.usedCells d).length).fMoved d)))

/-- The punt path and host pools (R266 to R269, R300, R374 to R376): a packet passes its reason's bucket and joins its die's queue of 4,096, with cells of
its own, or is dropped and counted; a delivery fills buffers, one completion each; without a ring or buffer POOL_POLICY drops it or lets it wait. -/
def Obligations.PuntRows : Prop :=
  ∀ s : State, s.stopped = false →
    (∀ p k, s.packet? p = some k →
      (k.stage ≠ .punting → exec (.punt p) s = .next s) ∧
      (k.stage = .punting → ∀ r b, r = bits k.hv 599 592 % 64 → b = s.puntBucket k.die r →
        (b.level < 1000000 → exec (.punt p) s = .next ((s.bump Od.puntDropRate (dieInst k.die) r).dropPunt p k)) ∧
        (1000000 ≤ b.level → ∀ s1 : State,
          s1 = { s with tm := { s.tm with puntBuckets := sparsePut s.tm.puntBuckets (k.die * 64 + r) { b with level := b.level - 1000000 } } } →
          (4096 ≤ (s.puntQueue k.die).length → exec (.punt p) s = .next ((s1.bump Od.puntDropQueueFull (dieInst k.die)).dropPunt p k)) ∧
          ((s.puntQueue k.die).length < 4096 → k.charged = false → k.flying = false →
            (k.head = noCells → s.cellsFree k.die < cellsOf k.frame.length →
              exec (.punt p) s = .next ((s1.bump Od.puntDropQueueFull (dieInst k.die)).dropPunt p k)) ∧
            (k.head = noCells → cellsOf k.frame.length ≤ s.cellsFree k.die → ∀ x, x = s1.openRecord k.die 18 18 k.pg k.frame.length 6 (p % 65536) →
              exec (.punt p) s = .next ((x.1.setPacket p { k with stage := .punted, since := 0, head := x.2.1, tag := x.2.2 }).setPuntQueue k.die
                (x.1.puntQueue k.die ++ [p]))) ∧
            (s.record? k.die k.head = none → k.head ≠ noCells → exec (.punt p) s =
              .next ((s1.setPacket p { k with stage := .punted, since := 0 }).setPuntQueue k.die (s.puntQueue k.die ++ [p]))) ∧
            (∀ x, s.record? k.die k.head = some x → k.head ≠ noCells → exec (.punt p) s =
              .next (((s1.setRecord k.die k.head { x with kind := 6, id := p % 65536 }).setPacket p { k with stage := .punted, since := 0 }).setPuntQueue k.die
                (s.puntQueue k.die ++ [p]))))))) ∧
    (∀ d p k, s.hasDie d = true → s.puntQueue d = [p] → s.packet? p = some k → s.rd Od.puntPriority 0 (bits k.hv 599 592 % 64) ≤ 3 →
      (k.since ≠ 0 ∨ k.ended = false → exec (.puntDeliver d) s = .next s) ∧
      (k.since = 0 → k.ended = true → k.bad = true → exec (.puntDeliver d) s = .next (s.leavePunt p k)) ∧
      (k.ended = true → k.bad = false → (∀ e ∈ s.packets, e.2.stage = .punted → e.2.since ≠ 0 → e = (p, k)) → ∀ r c fn pool octets size n asking,
        r = bits k.hv 599 592 % 64 → c = s.rd Od.puntRing 0 r → fn = s.cqOwnerOf Od.puntRing 0 r → pool = s.rd Od.cqPool (cqInst fn c) →
        octets = puntHeader k ++ k.frame.take (k.frame.length - 4) → size = s.rd Od.poolBufferSize 0 pool → n = (32 + (k.frame.length - 4) + size - 1) / size →
        (k.since = 0 → c = 0xFFFF → exec (.puntDeliver d) s = .next ((s.bump Od.puntDropNoRing).leavePunt p k)) ∧
        (k.since = 0 → c ≠ 0xFFFF → s.cqRoom fn c < n → exec (.puntDeliver d) s =
          .next (((s.setCq fn c { s.cq fn c with lost := (s.cq fn c).lost + 1 }).bump Od.puntDropRingFull (cqInst fn c)).leavePunt p k)) ∧
        (k.since = 0 → c ≠ 0xFFFF → n ≤ s.cqRoom fn c → s.rd Od.poolState 0 pool ≠ 1 →
          exec (.puntDeliver d) s = .next ((s.bump Od.poolDrops 0 pool).leavePunt p k)) ∧
        (c ≠ 0xFFFF → n ≤ s.cqRoom fn c → s.rd Od.poolState 0 pool = 1 →
          (∀ s1 l, s.takeBuffers pool n = some (s1, l) → ∀ made : State,
            made = (((((s1.setCq fn c { s1.cq fn c with lost := 0 }).fillBuffers fn c pool (bits k.hv 599 592) (s1.cq fn c).lost true l octets).bump Od.puntDelivered
              (dieInst k.die)).bump Od.cqPuntDelivered (cqInst fn c)).leavePunt p k).turnPool pool k.die →
            (k.since = 0 → exec (.puntDeliver d) s = .next made) ∧
            (d < 8 → k.since ≠ 0 → k.stage = .punted → bitOf asking d = true → (∀ e, e < 8 → e ≠ d → s.puntQueue e = []) → exec (.poolAllocate pool asking) s = .next made)) ∧
          (s.takeBuffers pool n = none → d < 8 → k.since ≠ 0 → k.stage = .punted → bitOf asking d = true → (∀ e, e < 8 → e ≠ d → s.puntQueue e = []) →
            (s.rd Od.poolPolicy 0 pool = 1 → exec (.poolAllocate pool asking) s = .next (((s.bump Od.poolNoBuffer 0 pool).bump Od.poolDrops 0 pool).leavePunt p k)) ∧
            (s.rd Od.poolPolicy 0 pool = 0 → exec (.poolAllocate pool asking) s = .next (s.bump Od.poolNoBuffer 0 pool))) ∧
          (s.takeBuffers pool n = none → k.since = 0 →
            (s.rd Od.poolPolicy 0 pool = 1 → exec (.puntDeliver d) s = .next (((s.bump Od.poolNoBuffer 0 pool).bump Od.poolDrops 0 pool).leavePunt p k)) ∧
            (s.rd Od.poolPolicy 0 pool = 0 → exec (.puntDeliver d) s = .next (((s.bump Od.poolNoBuffer 0 pool).setPacket p { k with since := s.up + 1 }).later
              (s.rd Od.poolWaitLimit 0 pool * 1000) (.poolWaitExpire p))))) ∧
        (k.stage = .punted → k.since ≠ 0 →
          (k.since + s.rd Od.poolWaitLimit 0 pool * 1000 ≤ s.up + 1 → exec (.poolWaitExpire p) s = .next ((s.bump Od.poolDrops 0 pool).leavePunt p k)) ∧
          (s.up + 1 < k.since + s.rd Od.poolWaitLimit 0 pool * 1000 → exec (.poolWaitExpire p) s = .next s))))

/-- HBM spill (R271 to R273, R290 to R292): a staged packet is written where its VOQ has a spilled part and pages are free, SPILL_FULL being raised once
without them; its on-die cells are then given up; a VOQ below SPILL_RETURN is read back: a read takes cells of class 10; a failing channel is shadowed by a
spare, which then takes its place. -/
def Obligations.SpillRows : Prop :=
  ∀ s : State, s.stopped = false →
    (∀ d i c v, s.hasDie d = true → s.stagedOn d = [(i, c)] → v = c.queue → 0 < s.spillDeficit d c.tc →
      (s.cellsIn (s.queueOf d v) Copy.isSpilled ≠ 0 →
        (s.pagesNeeded d v c.cells ≤ s.spillPagesFree d → ∀ own, own = (s.record? d c.k.head).map (fun r => ({ copy := i, head := c.k.head, record := r } : SpillRecord)) →
          ∀ u : State,
          u = ((s.setSpillDeficit d c.tc (s.spillDeficit d c.tc - (c.cells * 256 : Nat))).fillPages d v i own 4 c.cells).setCopy i { c with stage := .writing } →
          exec (.spillWrite d) s = .next (if u.spillPagesFree d = 0 then u.noteFull d else u)) ∧
        (s.spillPagesFree d < s.pagesNeeded d v c.cells → d ∈ s.tm.full → exec (.spillWrite d) s = .next s) ∧
        (s.spillPagesFree d < s.pagesNeeded d v c.cells → d ∉ s.tm.full → exec (.spillWrite d) s =
          .next (({ s with tm := { s.tm with full := s.tm.full ++ [d] } } : State).fire d 0x151))) ∧
      (s.cellsIn (s.queueOf d v) Copy.isSpilled = 0 → s.cellsIn (s.queueOf d v) (fun (y : Copy) => y.stage = .writing) = 0 →
        s.cellsIn (s.queueOf d v) Copy.isOnDie < s.rd Od.spillReturn → exec (.spillWrite d) s = .next (s.joinStaged d v (s.queueOf d v).length))) ∧
    (∀ i c, s.copy? i = some c → c.stage = .writing → ∀ u : State,
      u = (if c.last then s.toSpill c.die i c.k.head c.queue else s.releasePacket c.die c.k.head c.kind c.id) →
      exec (.spillWriteDone i) s = .next ((u.setCopy i { c with stage := .spilled, k := { c.k with head := noCells } }).noteReturn c.die c.queue)) ∧
    (∀ d v i c, s.hasDie d = true → s.returning d = [v] → s.nextSpilled d v = some (i, c) → v % 8 = c.tc → 0 < s.spillDeficit d (8 + c.tc) →
      (s.cellsFree d < c.cells ∨ s.rd Od.spillReturn ≤ s.cellsIn (s.queueOf d v) Copy.isOnDie → exec (.spillRead d) s = .next s) ∧
      (s.cellsIn (s.queueOf d v) Copy.isOnDie < s.rd Od.spillReturn → c.cells ≤ s.cellsFree d → ∀ s1 : State, s1 = s.setSpillDeficit d (8 + c.tc) (s.spillDeficit d (8 + c.tc) - (c.cells * 256 : Nat)) →
        exec (.spillRead d) s = .next ((s1.setReserved d 11 (s.reserved d 11 + c.cells)).setCopy i { c with stage := .reading }))) ∧
    (∀ i c ch, s.copy? i = some c → c.stage = .reading → ∀ d v, d = c.die → v = c.queue →
      (∀ x, x = ((s.leavePages d i).setReserved d 11 (s.reserved d 11 - c.cells)).openRecord d 16 11 10 (max 1 c.k.frame.length) c.kind c.id → ∀ u : State,
        u = ((s.spillRecord? d i).map fun r => x.1.moveUsers d r.head x.2.1 { r.record with kind := c.kind, id := c.id }).getD x.1 →
        exec (.spillReadDone i false ch) s = .next (((u.setCopy i { c with stage := .onDie, last := true, k := { c.k with head := x.2.1, tag := x.2.2 } }).pumpRequests
          d v 16).settleReturn d v)) ∧
      (∀ s1 : State, s1 = ((s.leavePages d i).setQueue d v ((s.queueOf d v).filter (· ≠ i))).bump Od.spillEccLoss (dieInst d) → ∀ s2 : State,
        s2 = s1.setReserved d 11 (s1.reserved d 11 - c.cells) → exec (.spillReadDone i true ch) s =
          .next (((s2.endCopy i c).fault d 0x10 2 ch).settleReturn d v))) ∧
    (∀ d ch trigger, s.hasDie d = true → ch < 32 → s.spareState 8 d 0 ch = 3 → s.bufs.channels = [] →
      (∀ u, (spareUnits 8).find? (fun u => decide (s.spareState 8 d 0 u < 3)) = some u → ∀ e,
        e = ({ die := d, source := 0x10, cls := 1, location := ch, detail0 := trigger, detail1 := 0, spareUsed := true, repairing := true } : FaultError) →
        exec (.hbmChannelRepair d ch trigger) s =
          .next ((({ s with bufs := { s.bufs with channels := [(d, ch, u)] } } : State).recordFault e).later 100000000 (.hbmChannelCopyDone d ch))) ∧
      ((∀ u ∈ spareUnits 8, ¬ s.spareState 8 d 0 u < 3) → s.tm.copies = [] → ∀ s0 s1 : State,
        s0 = { s with bufs := { s.bufs with lostChannels := s.bufs.lostChannels ++ [(d, s.logicalChannel d ch)] } } →
        s1 = ((s0.setSpare 8 d 0 ch 4).wr Od.hbmChannelsActive (s.rd Od.hbmChannelsActive (dieInst d) - 1) (dieInst d)).retire 8 d 0 ch 0x10 →
        exec (.hbmChannelRepair d ch trigger) s = .next ((s1.fault d 0x10 2 ch trigger).fire d 0x150))) ∧
    (∀ d ch u, s.hasDie d = true → s.bufs.channels = [(d, ch, u)] → ∀ s1 : State,
      s1 = ((s.setSpare 8 d 0 ch 4).setSpare 8 d 0 u 3).retire 8 d 0 ch 0x10 → exec (.hbmChannelCopyDone d ch) s =
        .next (({ s1 with bufs := { s1.bufs with channels := [] },
                          recov := { s1.recov with replaced := sparsePut s1.recov.replaced (spareKey 8 d 0 (s.logicalChannel d ch)) u } } : State).fire d 0x14F)) ∧
    (∀ d ch, s.hasDie d = true → s.bufs.channels = [] → exec (.hbmChannelCopyDone d ch) s = .next s)

/-- PFC and gates (R285, R286, R288, R295 to R297): only opcode 0101H pauses, and only the enabled priorities of its vector, for 512 bit times a quantum; a
pause ends when its time is over, a storm after 100 ms without PFC; gates follow package time; a swapped list acts at its cycle start; AUTO thresholds move
by one. -/
def Obligations.PauseAndGates : Prop :=
  ∀ s : State, s.stopped = false →
    (∀ n, n < 512 → s.hasDie (n / 64) = true →
      (∀ opcode vector times, s.portStateOf n ≠ 2 → exec (.pfcFrameRx n opcode vector times) s = .next s) ∧
      (∀ opcode vector times, s.portStateOf n = 2 → opcode ≠ 0x0101 → exec (.pfcFrameRx n opcode vector times) s =
        .next ((s.countControl n false false).bump Od.pauseFramesDiscarded (portInst n))) ∧
      (∀ times, s.portStateOf n = 2 → exec (.pfcFrameRx n 0x0101 0 times) s = .next (s.countControl n false true)) ∧
      (∀ t times q s1 pc, t < 8 → s.portStateOf n = 2 → q = times.getD t 0 % 65536 → s1 = s.countControl n false true → pc = n * 8 + t →
        (bitOf (s.rd Od.pfcRxEnable (portInst n)) t = false → exec (.pfcFrameRx n 0x0101 (2 ^ t) times) s = .next s1) ∧
        (bitOf (s.rd Od.pfcRxEnable (portInst n)) t = true →
          (q = 0 → exec (.pfcFrameRx n 0x0101 (2 ^ t) times) s = .next (s1.setPause pc none)) ∧
          (q ≠ 0 → sparseFind? s.tm.pauses pc = none → s.rd Od.pfcWatchdog (portInst n) = 0 → ∀ ns, ns = q * 512 / max 1 (modeRate (s.portModeOf n)) →
            exec (.pfcFrameRx n 0x0101 (2 ^ t) times) s =
              .next ((s1.setPause pc (some { until_ := s.up + ns, from_ := s.up, heard := s.up, storm := false })).later ns (.pfcPauseExpire n t))))) ∧
      (∀ t p pc, pc = n * 8 + t → sparseFind? s.tm.pauses pc = some p →
        (p.storm = false → p.until_ ≤ s.up → exec (.pfcPauseExpire n t) s = .next (s.setPause pc none)) ∧
        (s.up < p.until_ → exec (.pfcPauseExpire n t) s = .next s) ∧
        (p.storm = true → p.heard + 100000000 ≤ s.up → exec (.pfcStormEnd n t) s = .next (s.setPause pc none)) ∧
        (p.storm = true → s.up < p.heard + 100000000 → exec (.pfcStormEnd n t) s = .next s) ∧
        (∀ w, w = s.rd Od.pfcWatchdog (portInst n) * 1000 → p.storm = false → s.up < p.until_ → w ≠ 0 →
          (p.from_ + w ≤ s.up → exec (.pfcWatchdogExpire n t) s =
            .next (((s.setPause pc (some { p with storm := true })).fire (n / 64) 0x152).later (p.heard + 100000000 - s.up) (.pfcStormEnd n t))) ∧
          (s.up < p.from_ + w → exec (.pfcWatchdogExpire n t) s = .next (s.later (p.from_ + w - s.up) (.pfcWatchdogExpire n t))))) ∧
      ((s.gate n).length = 0 → exec (.gateEntryChange n) s = .next s) ∧
      (∀ e, (s.gate n).length ≠ 0 → e = entryAt (s.operational n) (s.cyclePos n) 0 → exec (.gateEntryChange n) s =
        .next (s.setGate n { s.gate n with entry := e.1 })) ∧
      ((s.gate n).swap = none → exec (.gclSwapApply n) s = .next s) ∧
      (∀ x, (s.gate n).swap = some x →
        (s.ns < x.start → exec (.gclSwapApply n) s = .next s) ∧
        (x.start ≤ s.ns → s.time.epoch < x.epoch + 2 → ∀ a, a = ({ inst := portInst n, index := 0x6800, sub := 1 } : Address) → ∀ s1 s2 : State,
          s1 = (s.wr Od.gclOperBase x.base (portInst n)).setGate n { cycle := x.cycle, length := x.length, entry := 0, swap := none } →
          s2 = (s1.flipBank (gateFam n) a x.epoch false).swapDone (gateFam n) a (decide (x.named < x.epoch)) x.named (s.fam (gateFam n)).lastSeq →
          (x.length = 0 → exec (.gclSwapApply n) s = .next s2) ∧
          (x.length ≠ 0 → exec (.gclSwapApply n) s =
            .next (s2.setGate n { s2.gate n with entry := (entryAt (s2.operational n) (s2.cyclePos n) 0).1 }))))) ∧
    (∀ again : State → State,
      (∀ t, again t = ({ t with tm := { t.tm with dropped := 0, lowF := 0, squeezed := 0 } } : State).later (s.rd Od.threshInterval * 1000) .threshAdjust) →
      (s.rd Od.threshMode ≠ 0 → exec .threshAdjust s = .next (again s)) ∧
      (s.rd Od.threshMode = 0 → (∀ u, u < 8 → s.rd Od.threshAlphaMin 0 u ≤ s.rd Od.threshAlpha 0 u ∧
          s.rd Od.threshAlpha 0 u ≤ s.rd Od.threshAlphaMax 0 u) →
        (s.tm.squeezed = 0 → s.tm.dropped = 0 → exec .threshAdjust s = .next (again s)) ∧
        (∀ t k, t < 8 → s.tm.squeezed = 2 ^ t → s.tm.dropped = 0 → k = s.rd Od.threshAlpha 0 t → s.rd Od.threshAlphaMin 0 t < k → s.newestPending (alphaAddress t) = none →
          s.changeRoom = true → exec .threshAdjust s = .next (again (s.addChange (s.time.epoch + 4) (alphaAddress t) (k - 1) true 0))) ∧
        (∀ t k, t < 8 → s.tm.lowF = 0 → s.tm.squeezed = 0 → s.tm.dropped = 2 ^ t → k = s.rd Od.threshAlpha 0 t → k < s.rd Od.threshAlphaMax 0 t → s.newestPending (alphaAddress t) = none →
          s.changeRoom = true → exec .threshAdjust s = .next (again (s.addChange (s.time.epoch + 4) (alphaAddress t) (k + 1) true 0)))))

/-- Group training and superframes (R306 to R308, R315, R319, R324): a training block locks its lane, and 44 of them end step 1; 16 echoes of the map end
step 3; two good superframes bring the group UP with full credit; a bad one on an UP group is counted and asked for again, and 17 in a millisecond start a
lane check. A superframe carries the sender's cells and credits, and none comes while 32 stand unacknowledged. -/
def Obligations.GroupTraining : Prop :=
  ∀ (s : State) (d g p : Nat) (x : Group), s.stopped = false → s.hasDie d = true → groupPeer s.part d g = some p → x = s.group d g →
    (∀ block, s.groupState d g ≠ 1 ∨ beNat (slice block 124 4) ≠ crc32c (block.take 124) → exec (.trainingBlockRx d g block) s = .next s) ∧
    (∀ block lane, s.groupState d g = 1 → block.length = 128 → beNat (block.take 4) = 0x7E1DC3A5 → beNat (slice block 124 4) = crc32c (block.take 124) →
      lane = (byteAt block 4).toNat → lane < 44 →
      (x.step = 1 → (byteAt block 5).toNat = 0 → lane ∉ x.locked → ∀ y, y = ({ x with locked := x.locked ++ [lane] } : Group) →
        (y.locked.length ≠ 44 → ∀ u : State, u = s.setGroup d g y → exec (.trainingBlockRx d g block) s = .next (u.emit (.lanes d g [u.blockOf d g lane]))) ∧
        (y.locked.length = 44 → ∀ u : State, u = (s.setGroup d g { y with step := 2 }).later (x.since + 4000000 - s.up) (.fabricTrainTimeout d g) →
          exec (.trainingBlockRx d g block) s = .next (u.emit (.lanes d g [u.blockOf d g lane])))) ∧
      (x.step = 3 → (byteAt block 5).toNat = 2 → lane ∈ x.locked → lane ∈ x.peerLocked → ∀ map, map = (slice block 8 40).map (·.toNat) →
        ((slice block 48 40).map (·.toNat) ≠ x.map → ∀ u : State, u = s.setGroup d g { x with peerMap := map, echoes := 0 } →
          exec (.trainingBlockRx d g block) s = .next (u.emit (.lanes d g [u.blockOf d g lane]))) ∧
        ((slice block 48 40).map (·.toNat) = x.map → x.echoes ≠ 15 → ∀ u : State, u = s.setGroup d g { x with peerMap := map, echoes := x.echoes + 1 } →
          exec (.trainingBlockRx d g block) s = .next (u.emit (.lanes d g [u.blockOf d g lane]))) ∧
        ((slice block 48 40).map (·.toNat) = x.map → x.echoes = 15 → ∀ u : State,
          u = (s.setGroup d g { x with peerMap := map, echoes := 16, step := 4 }).later (x.since + 7000000 - s.up) (.fabricTrainTimeout d g) →
          exec (.trainingBlockRx d g block) s = .next (u.emit (.lanes d g [u.blockOf d g lane]))))) ∧
    (s.isFenced d = true → exec (.fabricTrainTimeout d g) s = .next s) ∧
    (s.isFenced d = false → s.isFenced p = false →
      (s.groupState d g = 3 → x.since + 10000000 ≤ s.up → ∀ u : State,
        u = ((s.setGroup d g { Group.fresh with since := s.up, step := 1 }).later 2000000 (.fabricTrainTimeout d g)).wr Od.fabricGroupState 1 (dieInst d) g →
        exec (.fabricTrainTimeout d g) s = .next (u.emit (.lanes d g ((List.range 44).map (u.blockOf d g))))) ∧
      (s.groupState d g = 2 → exec (.fabricTrainTimeout d g) s = .next s) ∧
      (s.groupState d g = 1 → x.step = 1 → s.up < x.since + 2000000 → exec (.fabricTrainTimeout d g) s = .next s) ∧
      (s.groupState d g = 1 → x.step = 1 → x.since + 2000000 ≤ s.up → 40 ≤ x.locked.length → exec (.fabricTrainTimeout d g) s =
        .next ((s.setGroup d g { x with step := 2 }).later (x.since + 4000000 - s.up) (.fabricTrainTimeout d g))) ∧
      (s.groupState d g = 1 → x.step = 1 → x.since + 2000000 ≤ s.up → s.up < x.since + 10000000 → x.locked.length < 40 → exec (.fabricTrainTimeout d g) s =
        .next (((s.fire d 0x154).fault d 0x01 0 (g * 256)).later (x.since + 10000000 - s.up) (.fabricTrainTimeout d g)))) ∧
    (∀ corrected s1, s1 = s.bump Od.fabricCorrectedSymbols (dieInst d) g corrected →
      (s.groupState d g = 1 → x.step = 4 → ∀ bad, exec (.superframeRx d g corrected true bad) s = .next (s1.setGroup d g { x with step := 5 })) ∧
      (s.groupState d g = 1 → x.step = 5 → ∀ bad, exec (.superframeRx d g corrected true bad) s =
        .next (((s1.setGroup d g { x with step := 0, fifoUsed := 0, transitUsed := [] }).wr Od.fabricLaneMap (x.map.foldl (fun a l => a * 256 + l) 0)
          (dieInst d) g).wr Od.fabricGroupState 2 (dieInst d) g |>.mapSpares d g x.map)) ∧
      (s.groupState d g = 1 → ∀ bad, exec (.superframeRx d g corrected false bad) s = .next s) ∧
      (s.groupState d g = 2 → (s1.formFrame p d g).2 = none → ∀ ok bad, exec (.superframeRx d g corrected ok bad) s = .next s1) ∧
      (s.groupState d g = 2 → sparseRising none s.fabric.groups = true → ∀ r f bad, r = (s1.formFrame p d g).1 → (s1.formFrame p d g).2 = some f →
        (x.nak = true → f.again = false → ∀ ok, exec (.superframeRx d g corrected ok bad) s = .next r) ∧
        (x.nak = false → ∀ y n fresh, y = r.group d g → fresh = decide (y.retryFrom + 1000000 ≤ r.up) → n = (if fresh then 1 else y.retries + 1) → ∀ u : State,
          u = ((r.setGroup d g { y with retries := n, retryFrom := if fresh then r.up else y.retryFrom, nak := true }).bump Od.fabricRetries (dieInst d) g).fault d 0x02 0
            g f.seq n →
          (n ≠ 17 → exec (.superframeRx d g corrected false bad) s = .next u) ∧
          (n = 17 → exec (.superframeRx d g corrected false bad) s = .next (u.emit (.link 6 (d * 8 + g) [0x101])))) ∧
        (x.nak = false → ∀ y u, y = r.group d g →
          (f.seq % 4096 = 0 → f.cells = [] → u = r.setGroup d g { y with acked := f.seq, nak := false } →
            exec (.superframeRx d g corrected true bad) s = .next (u.checkSpare d g)) ∧
          (∀ c, f.seq % 4096 ≠ 0 → f.cells = [c] → bits c.header 121 119 = d →
            u = (r.setGroup d g { y with acked := f.seq, nak := false, fifoFreed := y.fifoFreed + 1 }).takeControl d g f (r.group p g).acked (r.group p g).nak →
            exec (.superframeRx d g corrected true [0]) s = .next (u.bump Od.fabricCellCrc (dieInst d)) ∧
            exec (.superframeRx d g corrected true []) s = .next (u.recvCell d c false)))) ∧
      (∀ y, y = s.group p g → y.resend = [] →
        (32 ≤ y.window.length → s.formFrame p d g = (s, none)) ∧
        (y.window.length < 32 → y.sfSeq % 4096 ≠ 0 → y.transit = [] → y.slotsFreed = [] → (s.formFrame p d g).2 =
          some { seq := y.sfSeq, cells := y.own.take 10, fifo := min 255 y.fifoFreed, onward := 0, slots := 0, time := y.times.headD (0, 0), again := false })))

/-- Cells on the fabric (R311, R312, R314 to R318): a cell takes the direct group in rotating order, its header naming source, destination, path and
sequence; the stream keeps what is left; without a path it waits. A gap that has lasted FABRIC_RESEQ_TIMEOUT is given up. -/
def Obligations.FabricCells : Prop :=
  ∀ (s : State) (d : Nat), s.stopped = false → s.hasDie d = true →
    (∀ dst v, dst = d ∨ s.hasDie dst = false → exec (.fabricCellSend d dst v) s = .next s) ∧
    (∀ dst v x, dst ≠ d → s.hasDie dst = true → x = sparseGet (fun _ => SendStream.fresh) s.fabric.sends ((d * 8 + dst) * 8192 + v) →
      ((∀ g, g < 7 → groupPeer s.part d g = none ∨ s.groupState d g ≠ 2) → exec (.fabricCellSend d dst v) s = .next s) ∧
      (∀ g y, nextOf (sparseGet (fun _ => 6) s.fabric.turn (d * 8 + dst)) (s.openGroups d dst) = some g → d < 8 → dst < 8 → v < 8192 → x.seq < 65536 →
        s.fillCell x.packets { payload := [], parts := [], first := 256, ends := [], left := [] } = some y → y.payload ≠ [] →
        Runs (.fabricCellSend d dst v) s fun t => ∃ c, (t.group d g).own = (s.group d g).own ++ [c] ∧ (t.group d g).fifoUsed = (s.group d g).fifoUsed + 1 ∧
          c.payload = y.payload ∧ c.parts = y.parts ∧ bits c.header 124 122 = d ∧ bits c.header 121 119 = dst ∧ bits c.header 118 116 = d ∧
          bits c.header 115 103 = v ∧ bits c.header 102 87 = x.seq ∧
          sparseFind? t.fabric.sends ((d * 8 + dst) * 8192 + v) = some { seq := (x.seq + 1) % 65536, packets := y.left } ∧
          t = { s with fabric := { s.fabric with groups := t.fabric.groups, sends := t.fabric.sends, turn := t.fabric.turn } })) ∧
    (∀ src v x, x = s.recv ((src * 8 + d) * 8192 + v) →
      (x.held = [] ∨ s.up + 1 < x.since + s.rd Od.fabricReseqTimeout → exec (.reseqTimeout d src v) s = .next s) ∧
      (x.since + s.rd Od.fabricReseqTimeout ≤ s.up + 1 → ∀ seq c, x.held = [(seq, c)] → s.tm.copies = [] →
        (bits c.header 78 70 = 256 → exec (.reseqTimeout d src v) s = .next (s.setRecv ((src * 8 + d) * 8192 + v) { x with held := [] })) ∧
        (bits c.header 78 70 ≠ 256 → exec (.reseqTimeout d src v) s =
          .next ((s.setRecv ((src * 8 + d) * 8192 + v) { expected := (seq + 1) % 65536, held := [], since := 0, got := [] }).fault d 0x03 2
            (src * 65536 + v) x.expected 0))))

/-- Spare lanes and time alignment (R321 to R324): a lost lane is erased and a spare mirrors it, the second such loss without a spare takes the group DOWN;
MIRROR, READY, SWITCH and RELEASE act only on the lane and spare in hand; stamps are echoed, and 16 offsets in a row above 1 ns raise FABRIC_TIME_ALIGN. -/
def Obligations.FabricLanes : Prop :=
  ∀ (s : State) (d g p : Nat) (x : Group), s.stopped = false → s.hasDie d = true → groupPeer s.part d g = some p → x = s.group d g →
    (∀ l cause, 40 ≤ l ∨ s.groupState d g ≠ 2 → exec (.fabricLaneTrigger d g l cause) s = .next s) ∧
    (∀ l, l < 40 → s.groupState d g = 2 → x.job = none → ∀ u : State, l ∉ x.erased → u = s.setGroup d g { x with erased := x.erased ++ [l] } →
      (∀ i, s.spareLane d g = some i → exec (.fabricLaneTrigger d g l 1) s =
        .next ((u.setGroup d g { x with erased := x.erased ++ [l], job := some { lane := l, spare := i, step := 0, back := false } }).emit
          (.link 6 (d * 8 + g) [1, i, l]))) ∧
      (s.spareLane d g = none → x.erased = [] → exec (.fabricLaneTrigger d g l 1) s =
        .next ((u.fire d 0x154).fault d 0x01 0 (g * 256 + s.laneOf d g l))) ∧
      (s.spareLane d g = none → x.erased ≠ [] → exec (.fabricLaneTrigger d g l 1) s = .next ((s.breakGroup d g 3).fault d 0x02 2 g x.sfSeq x.retries))) ∧
    (∀ i l, l < 40 → i < 4 →
      (x.mirror = none → exec (.laneCmdMirror d g i l) s = .next (s.setGroup d g { x with mirror := some (l, i, 0) })) ∧
      (x.mirror ≠ none → exec (.laneCmdMirror d g i l) s = .next s) ∧
      (x.mirror = some (l, i, 0) → exec (.laneCmdReady d g i l) s =
        .next ((s.setGroup d g { x with mirror := some (l, i, 64) }).emit (.link 6 (d * 8 + g) [3, i, l]))) ∧
      (x.mirror ≠ some (l, i, 0) → exec (.laneCmdReady d g i l) s = .next s) ∧
      (∀ y, y = s.group p g → x.mirror = none → y.job = none → s.laneOf p g l = 40 + i → s.laneRetired p g l = false → exec (.laneCmdRelease d g i l) s =
        .next ((s.setGroup d g { x with mirror := some (l, i, 0) }).setGroup p g { y with job := some { lane := l, spare := i, step := 0, back := true } })) ∧
      (s.laneOf p g l ≠ 40 + i → exec (.laneCmdRelease d g i l) s = .next s)) ∧
    (∀ i l, (∀ j, x.job = some j → j.lane ≠ l ∨ j.spare ≠ i ∨ j.step ≠ 2) → exec (.laneCmdSwitch d g i l) s = .next s) ∧
    (∀ i l s1 s2 s3, x.job = some { lane := l, spare := i, step := 2, back := false } → x.waiting = [] → s.laneOf d g l < 40 →
      s1 = s.setGroup d g { x with job := none, erased := x.erased.filter (· ≠ l) } →
      s2 = (((s1.wrOctet Od.fabricLaneMap (dieInst d) g l (40 + i)).setSpare 1 d g i 3).bump Od.fabricLaneSwitchovers (dieInst d) g) →
      s3 = ((s2.faultSpare d 0x01 1 (g * 256 + s.laneOf d g l) (if l ∈ x.erased then 1 else 2)).fire d 0x153).retire 1 d g (s.laneOf d g l) 0x01 →
      (s3.group d g).waiting = [] → exec (.laneCmdSwitch d g i l) s = .next s3) ∧
    (Runs (.fabricTimeExchange d) s fun t => (t.exchange d).t3 = time96 s.time.now % 2 ^ 64 ∧
      (∀ h, h < 7 → (groupPeer s.part d h).isSome = true → (t.group d h).times = (s.group d h).times ++ [(1, time96 s.time.now % 2 ^ 64)]) ∧
      t = { s with fabric := { s.fabric with times := t.fabric.times, groups := t.fabric.groups } }) ∧
    (∀ value arrival s1, s1 = s.setGroup d g { x with times := x.times ++ [(2, arrival % 2 ^ 64)] } →
      (s.alignTo d = none → exec (.timeStampRx d g value arrival) s = .next (s1.wr Od.fabricTimeRelayed 0 (dieInst d))) ∧
      (∀ r relayed, s.alignTo d = some (r, relayed) → ∀ s2 : State, s2 = s1.wr Od.fabricTimeRelayed (if relayed then 1 else 0) (dieInst d) →
        (r ≠ p → exec (.timeStampRx d g value arrival) s = .next s2) ∧
        (r = p → exec (.timeStampRx d g value arrival) s =
          .next (s2.setExchange d { s.exchange d with t1 := value % 2 ^ 64, t2 := arrival % 2 ^ 64 })))) ∧
    (∀ value e offset, value < 2 ^ 64 → e = s.exchange d → offset = (timeDiff e.t2 e.t1 - timeDiff value e.t3) / 2 →
      (∀ r relayed, s.alignTo d = some (r, relayed) → r ≠ p → exec (.timeEchoRx d g value) s = .next s) ∧
      (∀ relayed, s.alignTo d = some (p, relayed) → ∀ n s1, n = (if offset.natAbs ≤ 65536 then 0 else e.offCount + 1) →
        s1 = (s.setExchange d { e with offCount := n }).wr Od.fabricTimeOffset (ofSigned 32 offset) (dieInst d) →
        (n ≠ 16 → exec (.timeEchoRx d g value) s = .next s1) ∧
        (n = 16 → exec (.timeEchoRx d g value) s = .next ((s1.fire d 0x155).fault d 0x13 0 d (ofSigned 32 (offset / 65536))))))

/-- Learning, aging and rebalancing (R169 to R174): a request waits 2 µs; a new address is learned pending, a static or contended move and a reached limit
are counted and reported, a request that changes nothing goes; an entry not hit for two visits is aged out; one unused bucket moves towards its weight. -/
def Obligations.LearningRows : Prop :=
  ∀ s : State, s.stopped = false →
    (∀ bd mac lport stamp port q, q = ({ bd := bd, mac := mac, lport := lport, stamp := ofTime96 stamp, port := port, waits := false } : LearnRequest) →
      (16384 ≤ s.learning.queue.length → exec (.learn bd mac lport stamp port) s = .next (s.bump Od.learnQueueDrop)) ∧
      (s.learning.queue.length < 16384 → exec (.learn bd mac lport stamp port) s =
        .next { s with learning := { s.learning with queue := s.learning.queue ++ [q] } })) ∧
    ((∀ q ∈ s.learning.queue, s.time.now < q.stamp + 2000 * 65536 ∨ q.waits = true) → exec .learnApply s = .next s) ∧
    (∀ q, s.learning.queue = [q] → q.waits = false → q.stamp + 2000 * 65536 ≤ s.time.now →
      ∀ s1 : State, s1 = { s with learning := { s.learning with queue := [] } } → ∀ number, number = q.bd * 2 ^ 48 + q.mac →
      (∀ r, s.macEntry q.bd q.mac = some r →
        (bits r 53 42 = q.lport → exec .learnApply s = .next s1) ∧
        (bits r 53 42 ≠ q.lport → bitOf r 126 = true → exec .learnApply s =
          .next ((s1.bump Od.staticMoveRefused).learnReport 0x16 0 q.bd q.mac q.lport (bits r 53 42) 0)) ∧
        (bits r 53 42 ≠ q.lport → bitOf r 126 = false → ∀ moved, sparseFind? s.learning.guards number = some moved → moved ≤ q.stamp →
          q.stamp < moved + s.rd Od.moveGuard * 1000 * 65536 → exec .learnApply s =
            .next (((s1.bump Od.moveContention).fireLead 0x149).learnReport 0x13 0 q.bd q.mac q.lport (bits r 53 42) 0)) ∧
        (bits r 53 42 ≠ q.lport → bitOf r 126 = false → bitOf r 124 = true → sparseFind? s.learning.guards number = none → exec .learnApply s =
          .next { s with learning := { s.learning with queue := [{ q with waits := true }] } }) ∧
        (bits r 53 42 ≠ q.lport → bitOf r 126 = false → bitOf r 124 = false → sparseFind? s.learning.guards number = none → ∀ t,
          s1.putMac (macRecord true (s.time.epoch + 4) q.bd q.mac q.lport (bits r 53 42)) = some t → exec .learnApply s =
            .next (((t.noteLearn q.bd q.mac q.stamp).fireLead 0x14A).learnReport 0x11 0 q.bd q.mac q.lport (bits r 53 42) (s.time.epoch + 4)))) ∧
      (s.macEntry q.bd q.mac = none → ∀ full, full = (s.limitReached (bits (s.tbl (s.fam 0x42).live 0x42 q.bd) 48 29) (fun r => bits r 115 102 = q.bd) ||
          s.limitReached (bits (s.tbl (s.fam 0x40).live 0x40 q.lport) 62 43) (fun r => bits r 53 42 = q.lport)) →
        (full = true → exec .learnApply s = .next ((s1.bump Od.learnLimitHits).learnReport 0x14 0 q.bd q.mac q.lport 0xFFF 0)) ∧
        (full = false → ∀ t, s1.putMac (macRecord true (s.time.epoch + 4) q.bd q.mac q.lport 0xFFF) = some t → exec .learnApply s =
          .next (((t.freshMac q.bd q.mac).noteLearn q.bd q.mac q.stamp).learnReport 0x10 0 q.bd q.mac q.lport 0xFFF (s.time.epoch + 4))))) ∧
    (s.rd Od.macAgePeriod = 0 → exec .macAgeVisit s = .next s) ∧
    (s.rd Od.macAgePeriod ≠ 0 → ∀ i r k, s.bankRecords 0x43 (s.fam 0x43).live = [(i, r)] → bitOf r 126 = false →
      bitOf (s.tbl (s.fam 0x42).live 0x42 (bits r 115 102)) 49 = true → k = bits r 115 102 * 2 ^ 48 + bits r 101 54 →
      ((∃ h ∈ s.learning.hits, h.2 = k) → exec .macAgeVisit s =
        .next { s with learning := { s.learning with hits := s.learning.hits.filter (fun h => h.2 ≠ k), idle := s.learning.idle.filter (· ≠ k) } }) ∧
      ((∀ h ∈ s.learning.hits, h.2 ≠ k) → k ∉ s.learning.idle → exec .macAgeVisit s =
        .next { s with learning := { s.learning with hits := s.learning.hits.filter (fun h => h.2 ≠ k), idle := s.learning.idle ++ [k] } }) ∧
      ((∀ h ∈ s.learning.hits, h.2 ≠ k) → k ∈ s.learning.idle → bits r 53 42 = 0xFFF → exec .macAgeVisit s =
        .next { s with learning := { s.learning with hits := s.learning.hits.filter (fun h => h.2 ≠ k) } }) ∧
      ((∀ h ∈ s.learning.hits, h.2 ≠ k) → k ∈ s.learning.idle → bits r 53 42 ≠ 0xFFF → ∀ t : State,
        t = ({ s with learning := { s.learning with hits := s.learning.hits.filter (fun h => h.2 ≠ k), idle := s.learning.idle.filter (· ≠ k) } } : State).rewriteMac
          (bits r 115 102) (bits r 101 54) (fun _ => macRecord true (s.time.epoch + 4) (bits r 115 102) (bits r 101 54) 0xFFF (bits r 53 42)) → exec .macAgeVisit s =
        .next ((({ t with learning := { t.learning with pend := (t.learning.pend.filter fun (e : Nat × Nat × Bool) => e.1 ≠ k) ++ [(k, s.time.epoch + 4, true)] } } :
          State).bump Od.agedOut).learnReport 0x12 0 (bits r 115 102) (bits r 101 54) 0xFFF (bits r 53 42) (s.time.epoch + 4)))) ∧
    (∀ grp targets others, s.rd Od.ecmpMode = 1 ∨ s.bankState 0x4B ≠ 0 ∨ s.changeRoom = false → exec (.ecmpRebalance grp targets others) s =
      .next { s with learning := { s.learning with buckets := [] } }) ∧
    (∀ grp targets j live r b now fit next, s.rd Od.ecmpMode ≠ 1 → live = (s.fam 0x4B).live → r = s.tbl live 0x4B grp → bits r 44 35 ≠ 0 →
      targets.length = bits r 44 35 → s.bankState 0x4B = 0 → s.changeRoom = true → b = 2 ^ bits r 13 10 → 16 ≤ b → j < b →
      (∀ i, i < b → (grp * 4096 + i ∈ s.learning.buckets ↔ i ≠ j)) →
      now = (List.range b).map (fun i => bits (s.tbl live 0x4D (bits r 34 14 + i)) 15 7) →
      fit = targets.zipIdx.map (fun w => max (bits (s.tbl live 0x4C (bits r 63 45 + w.2)) 37 30) (min (bits (s.tbl live 0x4C (bits r 63 45 + w.2)) 29 22) w.1)) →
      (∀ w ∈ fit.zipIdx, s.memberWeight live grp w.2 = w.1) → next = moveBucket b fit now j →
      (next = now → exec (.ecmpRebalance grp targets []) s = .next { s with learning := { s.learning with buckets := [] } }) ∧
      (next ≠ now → ∀ s1 : State, s1 = next.zipIdx.foldl (fun t m => if now.getD m.2 0 = m.1 then t
          else (t.setTbl (1 - live) 0x4D (bits r 34 14 + m.2) (m.1 * 128)).logWrite 0x4B
            { table := 0x4D, index := bits r 34 14 + m.2, record := m.1 * 128, delete := false }) { s with learning := { s.learning with buckets := [] } } →
        exec (.ecmpRebalance grp targets []) s = .next ((s1.addChange (s1.time.epoch + 4) (swapObject 0x4B) 1 true (4 * 65536)).fireLead 0x14C)))

/-- Scrubs and repairs of memories (R143, R175, R190, R200, R426, R440): a corrected row is a CE, an uncorrectable one fails until it has been rewritten, a
counter that cannot be corrected is set to 0; a failing row takes a spare, which replaces it when its copy ends; the same of a search bank. -/
def Obligations.ScrubRows : Prop :=
  ∀ (s : State) (d : Nat), s.stopped = false → s.hasDie d = true →
    ∀ fails : State → Nat → Nat → State, (∀ t kind i, fails t kind i =
      ({ t with badRows := t.badRows.filter (fun (b : BadRow) => !(b.die = d && b.kind = kind && b.index = i)) ++ [{ die := d, kind := kind, index := i }] } : State).later
        1000000 (.rowRewriteDone d kind i)) →
    (∀ kind bank e, exec (.tableScrub d [(kind, bank, e, true)]) s = .next (s.rowFault d kind (rowIndex bank e) 0) ∧
      exec (.tableScrub d [(kind, bank, e, false)]) s = .next (fails (s.rowFault d kind (rowIndex bank e) 2) kind (rowIndex bank e))) ∧
    (∀ q pc, exec (.aeCsScrub d [(q, pc, false)]) s = .next (s.fault d 0x06 0 (d * 16 + q / 2) pc) ∧
      exec (.aeCsScrub d [(q, pc, true)]) s = .next (fails (s.fault d 0x06 2 (d * 16 + q / 2) pc) 0x60 (rowIndex q pc))) ∧
    (∀ c, exec (.counterScrub d [(c, true)]) s = .next (s.fault d 0x09 0 c 0x80000000) ∧
      exec (.counterScrub d [(c, false)]) s = .next (((s.setCounter d c 0).bump Od.counterEccResets (dieInst d)).fault d 0x09 2 c 0x80000000)) ∧
    (∀ key s1, s.asa.rowFails = [] → s1 = ({ s with asa := { s.asa with rowFails := [[d, key, s.seconds]] } } : State).fault d 0x0B 0
        (s.setOfBank (key / 65536) (key / 4096 % 16) * 2 ^ 24 + key / 65536 * 2 ^ 16 + key / 4096 % 16 * 2 ^ 12 + key % 4096) →
      exec (.asaScrub d [(key, .corrected)]) s = .next s1 ∧ exec (.asaScrub d [(key, .parity)]) s = .next (fails s1 0x38 key) ∧
      exec (.asaScrub d [(key, .hidden)]) s = .next (fails s1 0x39 key)) ∧
    (exec (.tableScrub d []) s = .next s ∧ exec (.aeCsScrub d []) s = .next s ∧ exec (.counterScrub d []) s = .next s ∧ exec (.asaScrub d []) s = .next s) ∧
    (∀ kind i, exec (.rowRewriteDone d kind i) s =
      .next { s with badRows := s.badRows.filter fun (b : BadRow) => !(b.die = d && b.kind = kind && b.index = i) }) ∧
    (∀ array bank,
      ([d, array, bank] ∉ s.asa.copying → exec (.asaBankSpareSwitch d array bank) s = .next s) ∧
      ([d, array, bank] ∈ s.asa.copying → ∀ s1 : State,
        s1 = { s with asa := { s.asa with copying := s.asa.copying.filter (· ≠ [d, array, bank]) },
                      badRows := s.badRows.filter fun b => !(b.die = d && (b.kind = 0x38 || b.kind = 0x39) && b.index / 4096 = array * 16 + bank),
                      recov := { s.recov with replaced := sparsePut s.recov.replaced (spareKey 7 d array bank) 0 } } →
        exec (.asaBankSpareSwitch d array bank) s =
          .next ((((s1.setSpare 7 d array 0 3).faultSpare d 0x0B 1 (rowLocation (s.setOfBank array bank) ((array * 16 + bank) * 4096))).retire 7 d array (1000000 + bank) 0x0B).fireLead 0x170))) ∧
    (∀ kind mac row u s1, kind ≠ 0 → s.pickSpare 6 d (kind * 4096 + mac) = some u →
      s1 = ({ s with recov := { s.recov with rowFails := [d, kind, mac, row, s.seconds] :: s.recov.rowFails,
                                             copying := s.recov.copying ++ [[d, kind, mac, row, u, 0]] } } : State) →
      exec (.sramRowRepair d kind mac row) s = .next (s1.recordFault
        { die := d, source := memorySource kind, cls := 1, location := mac * 65536 + row, detail0 := 0, detail1 := 0, spareUsed := true, repairing := true })) ∧
    (∀ kind mac row, kind ≠ 0 → s.pickSpare 6 d (kind * 4096 + mac) = none → exec (.sramRowRepair d kind mac row) s =
      .next { s with recov := { s.recov with rowFails := [d, kind, mac, row, s.seconds] :: s.recov.rowFails } }) ∧
    (∀ kind mac row u, s.recov.copying = [[d, kind, mac, row, u, 0]] → ∀ s1 : State,
      s1 = { s with recov := { s.recov with copying := [], replaced := sparsePut s.recov.replaced (spareKey 6 d (kind * 4096 + mac) row) u } } →
      exec (.sramSpareSwitch d kind mac) s = .next (((s1.setSpare 6 d (kind * 4096 + mac) u 3).retire 6 d (kind * 4096 + mac) (1000000 + row)
        (memorySource kind)).fireLead 0x170)) ∧
    (s.recov.copying = [] → ∀ kind mac, exec (.sramSpareSwitch d kind mac) s = .next s) ∧
    (∀ q, exec (.keeperMsg d q) s =
      .next (({ s with recov := { s.recov with heard := sparsePut s.recov.heard d s.up } } : State).emit (.control d q 3 [])))

/-- The event controller (R386 to R391, R394 to R398): a source that fires waits for its target; CLAIM and EOI take and end the best-ranked event of a core,
a bad EOI being counted; a vector that is unmasked and a function that can take messages are sent what waits; a timer fires and is set again. -/
def Obligations.EventCommands : Prop :=
  ∀ s : State, s.stopped = false →
    (∀ d n e, s.hasDie d = true → e = s.source (d * 4096 + n) →
      (s.sourceExists d n = false → exec (.eventFire d n) s = .next s) ∧
      (s.sourceExists d n = true → s.rd Od.powerState = 0 → e.enable = true → e.targetKind = 2 → e.state = 0 →
        ∀ t, t = s.targetOf 2 e.target → (s.fnPower (s.activeFn (t / 256))).d0 = true → (s.fnPower (s.activeFn (t / 256))).linkLow = false →
        (s.fnPower (s.activeFn (t / 256))).msixEnable = false ∨ sparseGet (fun _ => false) s.events.unmasked t = false →
        exec (.eventFire d n) s = .next (s.setSource (d * 4096 + n) { e with state := 1 }))) ∧
    (∀ d core t, s.hasDie d = true → t = d * 8 + core →
      (s.bestFor 1 t = none → exec (.evcCoreClaim d core) s = .next (s.emit (.readData 0 t 0x0FFF))) ∧
      (∀ key e, s.bestFor 1 t = some (key, e) → exec (.evcCoreClaim d core) s =
        .next ((((s.unpresent t none).activate key 1 t).presentCore t).emit (.readData 0 t ((key / 4096 * 4096 + key % 4096) % 32768)))) ∧
      (∀ a rest, s.activeOf 1 t = a :: rest → exec (.evcCoreEoi d core a.code) s = .next (s.endEvent 1 t a.code)) ∧
      (∀ code, (∀ a rest, s.activeOf 1 t = a :: rest → a.code ≠ code) → exec (.evcCoreEoi d core code) s =
        .next ((s.bump Od.evcBadEoi (dieInst d)).fault d 0x16 0 core code))) ∧
    (∀ h f v t, t = s.fnOf h f * 256 + v →
      (∀ a rest, s.activeOf 2 t = a :: rest → exec (.evcVecEoi h f v a.code) s = .next (s.endEvent 2 t a.code)) ∧
      (∀ code, (∀ a rest, s.activeOf 2 t = a :: rest → a.code ≠ code) → exec (.evcVecEoi h f v code) s =
        .next (s.bump Od.evcBadEoi (dieInst (s.hostDie h)))) ∧
      (∀ u : State, u = { s with events := { s.events with unmasked := sparseSet (fun _ => false) s.events.unmasked t true } } →
        (u.bestFor 2 t = none → exec (.msixUnmask h f v) s = .next u) ∧
        (∀ key e, u.vectorReady t = true → u.bestFor 2 t = some (key, e) → ∀ w : State,
          w = (u.activate key 2 t).emit (.msix (u.activeFn (t / 256)) (t % 256) ((key / 4096 * 4096 + key % 4096) % 32768)) → w.bestFor 2 t = none →
          exec (.msixUnmask h f v) s = .next w))) ∧
    (∀ h f (p : FunctionPower) (u : State) m, m = sparseSet (fun _ => { d0 := true, linkLow := false, pmeEnable := false, msixEnable := false }) s.events.power (fnKey h f) p →
        u = { s with events := { s.events with power := m } } →
      ∀ vs, vs = (if s.activeFn (s.fnOf h f) = fnKey h f then s.waitingVectors (s.fnOf h f) else []) →
      (vs = [] → exec (.pciePowerStateChange h f p.d0 p.linkLow p.pmeEnable p.msixEnable) s = .next u) ∧
      (∀ v, vs = [v] → p.d0 = false → p.pmeEnable = true →
        exec (.pciePowerStateChange h f p.d0 p.linkLow p.pmeEnable p.msixEnable) s = .next (u.emit (.pme (fnKey h f))))) ∧
    (∀ d t period, s.hasDie d = true → period = s.rd Od.timerPeriod (dieInst d) t →
      (sparseFind? s.events.timers (d * 16 + t) = none → exec (.timerExpire d t) s = .next s) ∧
      (∀ at_, sparseFind? s.events.timers (d * 16 + t) = some at_ →
        (period ≠ 0 → ∀ u : State, u = s.fire d (0x180 + t) → exec (.timerExpire d t) s =
          .next { u with events := { u.events with timers := sparsePut u.events.timers (d * 16 + t) (at_ + period) } }) ∧
        (period = 0 → ∀ u : State, u = s.fire d (0x180 + t) → exec (.timerExpire d t) s =
          .next (({ u with events := { u.events with timers := sparseErase u.events.timers (d * 16 + t) } } : State).wr Od.timerArm 0 (dieInst d) t))))

/-- Descriptors of one operation (R362 to R369, R371, R441, R513): NOP; a TABLE_WRITE or TABLE_DELETE of a table sent to every die under the next SEQ, of a
counter written at once, of a context or meter timed for its epoch; a TABLE_READ written to host memory; INJECT; buffer returns; each form that is not so is
MALFORMED. -/
def Obligations.Descriptors : Prop :=
  ∀ (s : State) (h f fn w d b last : Nat) (desc : Option Nat), h < 2 → f < 4 → w < 1024 → fn = s.fnOf h f → sparseRising none s.rings.wqs = true → b = dBody d →
    last = (s.wq fn w).fetch → ∀ s1 : State, s1 = s.fetched fn w →
    (s.takes fn w 0x00 desc d = true → dLast d = true → exec (.nopDescriptor h f w desc) s =
      .next (s1.ends s fn w d (if b = 0 then .ok else .malformed) 0)) ∧
    (∀ op, (op = 0x10 ∨ op = 0x11) → s.takes fn w op desc d = true → ∀ (run : Instr) (del : Bool), del = decide (op = 0x11) →
      run = (if del then .tableDelete h f w desc else .tableWrite h f w desc) →
      (opRecordSize (dTable d) = 0 → exec run s = .next (s1.ends s fn w d .malformed 0)) ∧
      (chainNeed (dTable d) = 1 → dLast d = true →
        (tableFormOk (dTable d) (dIndex d) b del = false → exec run s = .next (s1.ends s fn w d .malformed 0)) ∧
        (tableFormOk (dTable d) (dIndex d) b del = true → ∀ seq s2, seq = nextSeq s.rings.seq →
          s2 = ({ s1 with rings := { s1.rings with seq := seq } } : State) →
          (s.rd Od.bootStage ≠ 3 → exec run s = .next (s2.ends s fn w d .state seq)) ∧
          (s.rd Od.bootStage = 3 → dTable d = 0x80 → s.hasDie (dIndex d / 2097152) = true → exec run s =
            .next ((s2.setCounter (dIndex d / 2097152) (dIndex d % 2097152) b).ends s fn w d .ok seq)) ∧
          (∀ x, x = s2.holdOp fn w last (dBatch d) (dUser d) →
            (s.rd Od.bootStage = 3 → dTable d = 0x64 → s.hasDie (dIndex d / 65536) = true → badMeter b = false → ∀ e : TimedWrite,
              e = { seq := seq, table := 0x64, die := dIndex d / 65536, index := dIndex d, record := leBytes 16 b, epoch := s.time.epoch + 4, fn := fn, wq := w,
                    token := s.rings.nextToken } →
              exec run s = .next { x.1 with rings := { x.1.rings with timed := x.1.rings.timed ++ [e] } }) ∧
            (s.rd Od.bootStage = 3 → dTable d ≠ 0x80 → dTable d ≠ 0x50 → dTable d ≠ 0x64 → ∀ o : TableOp,
              o = { seq := seq, table := dTable d, index := dIndex d, record := b, delete := del, fn := fn, wq := w, token := s.rings.nextToken, received := [],
                    acks := [], beforeSwap := s.swapComing (famOfOp (dTable d) (dIndex d) b) } → ∀ s3 : State, s3 = { x.1 with rings := { x.1.rings with ops := x.1.rings.ops ++ [o] } } →
              exec run s = .next (s.part.dies.foldl (fun (a : State) e => a.emit (.control (s.rd Od.leadDie) e 0x10
                [seq, dTable d, dIndex d, if del then 1 else 0, b])) s3))))) ∧
      (1 < chainNeed (dTable d) → dLast d = false → exec run s =
        .next (s1.setWq fn w { s1.wq fn w with chain := some { head := d, bodies := [b], start := last } }))) ∧
    (s.takes fn w 0x12 desc d = true → dLast d = true →
      (b / 2 ^ 68 % 2 ^ 60 ≠ 0 → exec (.tableRead h f w desc) s = .next (s1.ends s fn w d .malformed 0)) ∧
      (∀ i, dTable d = 0x80 → i = dIndex d → i / 2097152 < 8 → s.hasDie (i / 2097152) = true → s.hasDie 0 = true → b < 2 ^ 64 → b % 64 = 0 →
        exec (.tableRead h f w desc) s = .next (((s1.bump Od.counterReads (dieInst (i / 2097152))).emit
          (.dma (s1.dmaHost fn) (fn % 4) b (leBytes 16 (s.counterValue (i / 2097152) (i % 2097152) * 2 ^ 64 + s.capture)))).ends s fn w d .ok 16))) ∧
    (∀ data free, s.takes fn w 0x20 desc d = true → dLast d = true →
      (bits b 79 64 < 60 → bits b 91 89 = 0 → b < 2 ^ 96 → exec (.injectDescriptor h f w desc data free) s = .next (s1.ends s fn w d .range 0)) ∧
      (60 ≤ bits b 79 64 → bits b 79 64 ≤ 10236 → bits b 91 89 = 0 → b < 2 ^ 96 → bitOf b 92 = false → s.hasDie (bits b 88 80 / 64) = true →
        s.portModeOf (bits b 88 80) ≠ 0 → cellsOf (bits b 79 64 + 4) ≤ s.cellsFree (bits b 88 80 / 64) → ∀ x : InjectWait,
        x = { die := bits b 88 80 / 64, fn := fn, wq := w, token := 0, egress := false, port := bits b 88 80, tc := bits b 95 93,
              frame := slice data 0 (bits b 79 64), free := free, since := s.up } →
        exec (.injectDescriptor h f w desc data free) s = .next ((s1.startInject x).ends s fn w d .ok 0))) ∧
    (∀ k i size x, k = bits b 71 64 → size = s.rd Od.poolBufferSize 0 k → x = s.poolBuffer k i → k < 64 → s.rd Od.poolState 0 k ≠ 0 → 0 < size →
      i < s.rd Od.poolCount 0 k → bits b 63 0 = s.rd Od.poolBase 0 k + i * size → dLast d = true → b < 2 ^ 88 → x.used = true →
      (s.takes fn w 0x30 desc d = true → s.rd Od.poolMode 0 k = 0 → x.owner = fn → x.tag = bits b 87 72 → exec (.bufferFree h f w desc) s =
        .next (((s1.setPoolBuffer k i { x with used := false, count := 0 }).settlePool k).ends s fn w d .ok 0)) ∧
      (s.takes fn w 0x30 desc d = true → s.rd Od.poolMode 0 k = 0 → x.owner ≠ fn → exec (.bufferFree h f w desc) s =
        .next ((s1.poolFault Od.poolNotOwner k i fn).ends s fn w d .notOwner 0)) ∧
      (s.takes fn w 0x31 desc d = true → s.rd Od.poolMode 0 k = 1 → ∀ n, n = s.freeBits 8 % 255 + 1 → x.count + n ≤ 65535 → exec (.bufferRefAdd h f w desc) s =
        .next ((s1.useFree.setPoolBuffer k i { x with count := x.count + n }).ends s fn w d .ok 0)))

/-- Queues (R26, R358, R360, R364, R365, R367, R372, R377): a doorbell moves PI or CI only within the ring; an armed CQ with entries unread fires at once; a
push fills its slot; a CONT goes on with an open chain and is MALFORMED outside one; a drain ends when nothing is in flight; a die acknowledges each SEQ in
order, and the last acknowledgement finishes the operation. -/
def Obligations.QueueRows : Prop :=
  ∀ s : State, s.stopped = false →
    (∀ h f w fn, h < 2 → f < 4 → w < 1024 → fn = s.fnOf h f → s.hostUp = true →
      (∀ value i n ci, i = wqInst fn w → n = s.rd Od.wqSize i → ci = s.rd Od.wqCi i →
        (value < 2 * n → ringDiff n (s.rd Od.wqPi i) ci ≤ ringDiff n value ci → ringDiff n value ci ≤ n → exec (.wqDoorbell h f w value) s =
          .next (s.wr Od.wqPi value i)) ∧
        (2 * n ≤ value ∨ n < ringDiff n value ci ∨ ringDiff n value ci < ringDiff n (s.rd Od.wqPi i) ci → exec (.wqDoorbell h f w value) s =
          .next ((s.bump Od.wqDoorbellErrors i).fire (s.hostDie h) 0x14B))) ∧
      (∀ value i n, i = cqInst fn w → n = s.rd Od.cqSize i →
        (value < 2 * n → value < 2 ^ 31 → ringDiff n (s.rd Od.cqPi i) value ≤ ringDiff n (s.rd Od.cqPi i) (s.rd Od.cqCi i) → exec (.cqDoorbell h f w value) s =
          .next ((s.wr Od.cqCi value i).serveCq fn w)) ∧
        (value < 2 * n → value < 2 ^ 31 → ringDiff n (s.rd Od.cqPi i) value ≤ ringDiff n (s.rd Od.cqPi i) (s.rd Od.cqCi i) → ∀ armed : State,
          armed = (s.wr Od.cqCi value i).setCq fn w { (s.wr Od.cqCi value i).cq fn w with arm := true } →
          (s.rd Od.cqPi i = value → exec (.cqDoorbell h f w (2 ^ 31 + value)) s = .next (armed.serveCq fn w)) ∧
          (s.rd Od.cqPi i ≠ value → exec (.cqDoorbell h f w (2 ^ 31 + value)) s = .next ((armed.fireCq fn w).serveCq fn w))) ∧
        (2 * n ≤ value % 2 ^ 31 ∨ 2 ^ 32 ≤ value ∨ ringDiff n (s.rd Od.cqPi i) (s.rd Od.cqCi i) < ringDiff n (s.rd Od.cqPi i) (value % 2 ^ 31) →
          exec (.cqDoorbell h f w value) s = .next (s.bump Od.cqDoorbellErrors i))) ∧
      (exec (.wqPush h f w 0 []) s = .next s) ∧
      (∀ bytes q n i pi, bytes.length = 64 → i = wqInst fn w → q = s.wq fn w → n = s.rd Od.wqSize i → pi = s.rd Od.wqPi i →
        (n < ringDiff n (pi + 1) (s.rd Od.wqCi i) → exec (.wqPush h f w 0 bytes) s = .next (s.bump Od.wqPushErrors i)) ∧
        (ringDiff n (pi + 1) (s.rd Od.wqCi i) ≤ n → ∀ old, old = sparseGet (fun _ => ({ bytes := 0, mask := 0 } : PushCopy)) q.copies (pi % n) →
          exec (.wqPush h f w 0 bytes) s = .next (s.setWq fn w { q with copies := sparsePut q.copies (pi % n) (old.laid 0 0 bytes) }))) ∧
      (∀ desc d q c s1, q = s.wq fn w → q.chain = some c → s.fetches fn w = true → s.mustWait fn w 0x0F = false → (s.peekDesc fn w desc).word = d →
        (s.peekDesc fn w desc).sound = true → dOp d = 0x0F → dFirst d = false → contOk d = true → sparseRising none s.rings.wqs = true → s1 = s.fetched fn w →
        ∀ closed : State, closed = s1.setWq fn w { s1.wq fn w with chain := none } →
        (dLast d = false → c.bodies.length + 1 ≠ chainNeed (dTable c.head) → exec (.contDescriptor h f w desc) s =
          .next (s1.setWq fn w { s1.wq fn w with chain := some { c with bodies := c.bodies ++ [dBody d] } })) ∧
        (dLast d = true → c.bodies.length + 1 = chainNeed (dTable c.head) → exec (.contDescriptor h f w desc) s =
          .next (closed.tableOp fn w q.fetch (dBatch d) (dUser c.head) (dTable c.head) (dIndex c.head) (chainRecord (c.bodies ++ [dBody d]))
            (dOp c.head = 0x11))) ∧
        (dLast d = true → c.bodies.length + 1 ≠ chainNeed (dTable c.head) → exec (.contDescriptor h f w desc) s =
          .next (closed.endOp fn w q.fetch (dBatch d) (dUser c.head) .malformed 0))) ∧
      (∀ desc d, s.fetches fn w = true → s.mustWait fn w 0x0F = false → (s.wq fn w).chain = none → (s.peekDesc fn w desc).word = d →
        (s.peekDesc fn w desc).sound = true → dOp d = 0x0F → sparseRising none s.rings.wqs = true → exec (.contDescriptor h f w desc) s =
          .next ((s.fetched fn w).ends s fn w d .malformed 0)) ∧
      (∀ st i, i = wqInst fn w → st = s.rd Od.wqState i →
        (st ≠ 2 → st ≠ 3 → exec (.wqDrainEnd h f w) s = .next s) ∧ ((s.wq fn w).inflight ≠ [] → exec (.wqDrainEnd h f w) s = .next s) ∧
        ((s.wq fn w).inflight = [] → (s.wq fn w).doneTo = s.rd Od.wqCi i →
          (st = 2 → exec (.wqDrainEnd h f w) s = .next (s.wr Od.wqState 0 i)) ∧ (st = 3 → exec (.wqDrainEnd h f w) s = .next (s.wr Od.wqState 1 i))))) ∧
    (∀ d o, s.hasDie d = true → s.rings.ops = [o] →
      (d ∉ o.received → ∀ s1 : State, s1 = { s with rings := { s.rings with ops := [{ o with received := o.received ++ [d] }] } } →
        exec (.fabricTableWrite d o.seq) s = .next (s1.emit (.control d (s.rd Od.leadDie) 0x11 [o.seq]))) ∧
      (∀ seq, seq ≠ o.seq ∨ d ∈ o.received → exec (.fabricTableWrite d seq) s = .next s) ∧
      (∀ seq, seq ≠ o.seq ∨ d ∉ o.received → exec (.tableAck d seq none) s = .next s) ∧
      ((∀ a ∈ o.acks, a.1 ≠ d) → d ∈ o.received →
        ((∃ e ∈ s.part.dies, e ≠ d ∧ s.isFenced e = false ∧ ∀ a ∈ o.acks, a.1 ≠ e) → exec (.tableAck d o.seq none) s =
          .next { s with rings := { s.rings with ops := [{ o with acks := o.acks ++ [(d, none)] }] } }) ∧
        ((∀ e ∈ s.part.dies, e = d ∨ s.isFenced e = true ∨ ∃ a ∈ o.acks, a.1 = e) → exec (.tableAck d o.seq none) s =
          .next (({ s with rings := { s.rings with ops := [] } } : State).finishTableOp { o with acks := o.acks ++ [(d, none)] }))))

/-- Errors at the fault controller (R341, R399 to R405, R429): an error opens a record with the next number, which holds the reactions it caused, or merges
into the open record of its source, die and location; a die keeps 16 open records, and an error beyond them only counts; the reaction INT raises the source's
event, PIN asserts FAULT_N and stops the Lamp. A record closes once its repair has ended and FAULT_MERGE_WINDOW has passed since its last error. -/
def Obligations.FaultRecords : Prop :=
  ∀ s : State, s.stopped = false →
    (∀ (e : FaultError), s.hasDie e.die = true → ∀ t : State, t = (s.loseNvs e).recordFault e →
      (e.source ≠ 0x0D ∨ e.cls ≠ 2 → exec (.faultRecordOpen e) s = .next t) ∧
      (e.source = 0x0D → e.cls = 2 → exec (.faultRecordOpen e) s = .next (t.loseCell e.die e.location))) ∧
    (∀ (e : FaultError) (c : State) (mask : Nat) (held : List FaultRecord), s.rd Od.powerState ≠ 2 → mask = s.reactionMask e.source e.cls →
      held = (s.recov.log.map fun r => { r with isOpen := r.isOpen && (r.repairing || decide (s.up < r.last + s.rd Od.faultMergeWindow * 1000)) }) →
      c = { s with recov := { s.recov with log := held } } →
      ((∀ r ∈ c.recov.log, r.sameFault e = false) → (c.recov.log.filter fun r => r.isOpen && r.die = e.die).length < 16 → ∀ seq (entry : FaultRecord),
        seq = (if (s.recov.seq + 1) % 2 ^ 32 = 0 then s.recov.seq + 2 else s.recov.seq + 1) →
        entry = { seq := seq, time := low 64 (time96 s.time.now), die := e.die, cls := e.cls, spareUsed := e.spareUsed, reacted := mask,
                  overflowBefore := s.recov.overflow.contains e.die, source := e.source, merged := 0, location := e.location, detail0 := e.detail0,
                  detail1 := e.detail1, last := s.up, lastTime := s.nanoseconds, isOpen := true, repairing := e.repairing } →
        ∀ v : State, v = { c with recov := { c.recov with seq := seq, overflow := s.recov.overflow.filter (· ≠ e.die), log := (entry :: c.recov.log).take 4096 } } →
        ∀ u : State, u = ((if 4096 ≤ s.recov.log.length then v.bump Od.faultLogOverwritten else v).wr Od.faultLogNewest (low 32 seq)).keepHistory e →
        s.recordFault e = u.react mask e.die e.source e.location) ∧
      (∀ r, (c.recov.log.find? fun x => x.sameFault e) = some r → ∀ records : List FaultRecord, records = (c.recov.log.map fun x =>
          if x.sameFault e then { x with merged := min 255 (x.merged + 1), last := s.up, lastTime := s.nanoseconds, cls := max x.cls e.cls,
                                         reacted := x.reacted ||| (if x.cls < e.cls then mask else 0), spareUsed := x.spareUsed || e.spareUsed,
                                         repairing := x.repairing || e.repairing }
          else x) → s.recordFault e = ({ c with recov := { c.recov with log := records } } : State).react
            (if r.cls < e.cls then mask ^^^ (mask &&& r.reacted) else 0) e.die e.source e.location) ∧
      ((∀ r ∈ c.recov.log, r.sameFault e = false) → 16 ≤ (c.recov.log.filter fun r => r.isOpen && r.die = e.die).length → ∀ u : State,
        u = ({ c with recov := { c.recov with overflow := e.die :: s.recov.overflow.filter (· ≠ e.die) } } : State).bump Od.faultOverflow (dieInst e.die) →
        s.recordFault e = u.react mask e.die e.source e.location)) ∧
    (∀ die source location, s.react 0 die source location = s ∧ s.react 1 die source location = s.fire die source ∧
      s.react 16 die source location = ((({ s with recov := { s.recov with pin := true, lampRunning := false } } : State).wr Od.faultNAsserted 1).wr
        Od.lampState 3).emit (.pin 4 0) ∧
      s.react 8 die source location = s.engineReset 3 (die * 256 + source)) ∧
    (∀ d d0 d1 used rep, s.hasDie d = true → s.rd Od.powerState ≠ 2 → s.reactionMask 0x15 1 = 0 →
      Runs (.faultRecordOpen { die := d, source := 0x15, cls := 1, location := 0, detail0 := d0, detail1 := d1, spareUsed := used, repairing := rep }) s fun t =>
        t.dict = { s.dict with nvs0 := { s.dict.nvs0 with writable := false } } ∧ t.packets = s.packets ∧ t.tables = s.tables) ∧
    (∀ d source location, s.hasDie d = true → ∀ records : List FaultRecord, records = (s.recov.log.map fun r =>
        if r.isOpen = true ∧ r.die = d ∧ r.source = source ∧ r.location = location then
          { r with repairing := false, isOpen := decide (s.up < r.last + s.rd Od.faultMergeWindow * 1000) }
        else { r with isOpen := r.isOpen && (r.repairing || decide (s.up < r.last + s.rd Od.faultMergeWindow * 1000)) }) →
      exec (.faultRecordClose d source location) s = .next { s with recov := { s.recov with log := records } }) ∧
    (∀ d cause, s.hasDie d = true →
      (d ∈ s.recov.fenced → exec (.dieFence d cause) s = .next s) ∧
      (d ∉ s.recov.fenced → ∀ u v w : State, u = (({ s with recov := { s.recov with fenced := d :: s.recov.fenced } } : State).portsDown d).groupsDown d →
        v = (if u.rd Od.leadDie = d then { u with recov := { u.recov with takeover := true } } else u) → w = (if v.hostDie v.time.master = d then v.takeTime else v) →
        exec (.dieFence d cause) s = .next ((w.fault d 0x17 3 d cause).fire
          (if u.rd Od.leadDie = d then (if d = 0 then s.part.secondHost else 0) else w.rd Od.leadDie) 0x178)) ∧
      (s.sound = true → ∀ i, i < 64 → (s.portsDown d).rd Od.portState (portInst (d * 64 + i)) =
        if s.rd Od.portState (portInst (d * 64 + i)) = 2 ∨ s.rd Od.portState (portInst (d * 64 + i)) = 1 then 3
        else s.rd Od.portState (portInst (d * 64 + i)))) ∧
    (s.recov.pin = true → exec .lampRefresh s = .next s) ∧
    (s.recov.pin = false →
      (s.recov.lampRunning = true → s.rd Od.lampState ≠ 3 → exec .lampRefresh s = .next { s with recov := { s.recov with lampRefreshed := s.up } }) ∧
      (s.recov.lampRunning = false ∨ s.rd Od.lampState = 3 → ∀ u : State, u = s.wr Od.lampState (if s.sparesLow = 0 then 1 else 2) → exec .lampRefresh s =
        .next (({ u with recov := { u.recov with lampRunning := true, lampRefreshed := s.up, lampFrom := s.up, lampLength := u.lampSpan, lampHigh := true } } :
          State).emit (.pin 3 1)))) ∧
    (∀ limit, limit = s.recov.lampRefreshed + max (s.rd Od.lampPeriod) 200 * 1000000 →
      (s.recov.lampRunning = true → s.lampAlone = false → limit ≤ s.up → exec .lampRefreshLapse s =
        .next (({ s with recov := { s.recov with lampRunning := false } } : State).wr Od.lampState 3)) ∧
      (s.recov.lampRunning = false ∨ s.lampAlone = true ∨ s.up < limit → exec .lampRefreshLapse s = .next s))

/-- Spares and roles (R28, R390, R411 to R419, R422, R423, R425): a Cold spare enters Seasoning; a Seasoned one is tested again; a migration's drain ends the
claim and seasons the vacated pair; a core's spare takes its number; the standby becomes lead unless its die is fenced; a die changes to its other PLL; a
paired interface hands over. -/
def Obligations.SpareRows : Prop :=
  ∀ s : State, s.stopped = false →
    (∀ d, s.hasDie d = true →
      (∀ cls group unit,
        (s.spareState cls d group unit = 0 → exec (.spareTestStart cls d group unit) s = .next (s.setSpare cls d group unit 1)) ∧
        (s.spareState cls d group unit ≠ 0 → exec (.spareTestStart cls d group unit) s = .next s) ∧
        (s.spareState cls d group unit = 2 → exec (.spareRetest cls d group unit) s = .next (s.emit (.link 20 (spareKey cls d group unit) []))) ∧
        (s.spareState cls d group unit ≠ 2 → exec (.spareRetest cls d group unit) s = .next s)) ∧
      (s.rd Od.sparePipelineClaim (dieInst d) = 3 → exec (.migrateDrainEnd d) s =
        .next ((((s.wrOctet Od.sparePipelineState (dieInst d) 0 0 1).wrOctet Od.sparePipelineState (dieInst d) 0 1 1).wr Od.sparePipelineClaim 0
          (dieInst d)).dropHolder (Od.sparePipelineClaim.key (dieInst d) 0))) ∧
      (s.rd Od.sparePipelineClaim (dieInst d) ≠ 3 → exec (.migrateDrainEnd d) s = .next s) ∧
      (∀ core unit, core < 5 → unit = (if s.rdOctet Od.keeperCoreState (dieInst d) 0 core = 4 then 4 else core) →
        (∀ cause, ∀ t : State, t = (if unit < 4 ∧ s.rdOctet Od.keeperCoreState (dieInst d) 0 4 < 3 then s.faultSpare d 0x11 1 core cause
            else s.fault d 0x11 (if core < 4 then 3 else 1) core cause) →
          (t.coreUnit d core = unit → exec (.keeperCoreFault d core cause) s = .next (t.takeCore d core)) ∧
          (t.coreUnit d core ≠ unit → exec (.keeperCoreFault d core cause) s = .next t)) ∧
        (s.rdOctet Od.keeperCoreState (dieInst d) 0 unit = 4 → s.takeCore d core = s) ∧
        (s.rdOctet Od.keeperCoreState (dieInst d) 0 unit ≠ 4 → ∀ u v w : State, u = s.wrOctet Od.keeperCoreState (dieInst d) 0 unit 4 →
          v = (if unit < 4 ∧ u.rdOctet Od.keeperCoreState (dieInst d) 0 4 < 3 then
              (({ u with recov := { u.recov with replaced := sparsePut u.recov.replaced (spareKey 9 d 0 core) 4 } } : State).wrOctet Od.keeperCoreState
                (dieInst d) 0 4 3).fire d 0x175
            else u) → w = (v.retire 9 d 0 unit 0x11).handCore (d * 8 + core) →
          (w.rd Od.leadDie ≠ d ∨ w.coresOut d < 2 → s.takeCore d core = w) ∧
          (w.rd Od.leadDie = d → 2 ≤ w.coresOut d → s.takeCore d core = { w with recov := { w.recov with takeover := true } }))) ∧
      Runs (.keeperCheckpoint d) s (fun t => t = { s with recov := { s.recov with checkpoints := t.recov.checkpoints } } ∧
        ∀ k, k < 4 → sparseFind? t.recov.checkpoints (d * 8 + k) = some s.up) ∧
      (∀ pll ppm, pll < 2 → s.spareState 10 d 0 pll = 4 → exec (.pllFault d pll ppm) s = .next s) ∧
      (∀ pll ppm u, pll < 2 → u = s.setSpare 10 d 0 pll 4 → s.spareState 10 d 0 pll ≠ 4 → u.spareState 10 d 0 (1 - pll) = 4 →
        exec (.pllFault d pll ppm) s = .next (((u.fault d 0x12 3 pll ppm).retire 10 d 0 pll 0x12).fence d 3)) ∧
      (∀ pll ppm u, pll < 2 → u = s.setSpare 10 d 0 pll 4 → s.spareState 10 d 0 pll ≠ 4 → u.spareState 10 d 0 (1 - pll) ≠ 4 →
        (s.rd Od.pllInUse (dieInst d) ≠ pll → exec (.pllFault d pll ppm) s = .next ((u.fault d 0x12 1 pll ppm).retire 10 d 0 pll 0x12)) ∧
        (s.rd Od.pllInUse (dieInst d) = pll → exec (.pllFault d pll ppm) s =
          .next ((((u.wr Od.pllInUse (1 - pll) (dieInst d)).faultSpare d 0x12 1 pll ppm).fireLead 0x170).retire 10 d 0 pll 0x12)))) ∧
    (∀ new, new = (if s.rd Od.leadDie = 0 then s.part.secondHost else 0) →
      (new ∈ s.recov.fenced → exec .keeperTakeover s = .next s) ∧
      (new ∉ s.recov.fenced → exec .keeperTakeover s = .next (((({ s with recov := { s.recov with takeover := false } } : State).wr Od.leadDie new).fault new
        0x1A 1 (s.rd Od.leadDie)).fire new 0x176))) ∧
    (∀ h f aer address, h < 2 → f < 4 →
      (s.rd Od.pciePairing ≠ 1 ∨ s.spareState 11 0 0 (1 - h) = 4 → exec (.pcieFailover h f aer address) s =
        .next (s.fault (s.hostDie h) 0x14 2 (fnKey h f) aer (low 32 address))) ∧
      (s.rd Od.pciePairing = 1 → s.spareState 11 0 0 (1 - h) ≠ 4 → ∀ u : State, u = s.faultSpare (s.hostDie h) 0x14 1 (fnKey h f) aer (low 32 address) →
        (u.rd Od.pcieActiveDie = s.hostDie h → exec (.pcieFailover h f aer address) s =
          .next (((((u.wr Od.pcieActiveDie (s.hostDie (1 - h))).emit (.link 21 (1 - h) [])).setSpare 11 0 0 h 4).retire 11 0 0 h 0x14).fireLead 0x177)) ∧
        (u.rd Od.pcieActiveDie ≠ s.hostDie h → exec (.pcieFailover h f aer address) s =
          .next (((u.setSpare 11 0 0 h 4).retire 11 0 0 h 0x14).fireLead 0x177))))

/-- Wear records, counter windows, bandwidth windows and sampling (R429, R430, R441, R444 to R446, R450, R451): the forecast is shown, and an event raised
when it has fallen; 180 aging samples are kept; a window reads its counter and latches it, an undefined slot 0; a port's averages and peaks are shown at its
window's end; the oldest sample goes to its area and its completion follows. -/
def Obligations.CounterRows : Prop :=
  ∀ s : State, s.stopped = false →
    (∀ (months m : List Nat) (f : State), m = ((List.range 12).map fun c => min 0xFFFF (months.getD c 0xFFFF)) →
      f = s.wr Od.wearForecast (m.foldl (fun (a x : Nat) => a * 65536 + x) 0) →
      ((∀ c, c < 12 → (24 ≤ m.getD c 0 ∨ s.rd Od.wearForecast / 65536 ^ (11 - c) % 65536 < 24) ∧
          (s.recov.forecastAt.getD c 0 < 2 * m.getD c 0 ∨ s.recov.forecastAt.getD c 0 ≤ m.getD c 0)) → exec (.wearForecast months) s = .next f) ∧
      ((∃ c, c < 12 ∧ ((m.getD c 0 < 24 ∧ 24 ≤ s.rd Od.wearForecast / 65536 ^ (11 - c) % 65536) ∨
          (2 * m.getD c 0 ≤ s.recov.forecastAt.getD c 0 ∧ m.getD c 0 < s.recov.forecastAt.getD c 0))) →
        exec (.wearForecast months) s = .next (({ f with recov := { f.recov with forecastAt := m } } : State).fireLead 0x173))) ∧
    (∀ d readings, s.hasDie d = true →
      (s.recov.samples.length < 180 → exec (.wearSample d readings) s =
        .next { s with recov := { s.recov with samples := s.recov.samples ++ [d :: readings] } }) ∧
      (180 ≤ s.recov.samples.length → exec (.wearSample d readings) s = .next s)) ∧
    (∀ h f w j fn i, h < 2 → f < 4 → w < 256 → j < 256 → fn = s.fnOf h f → i = fn * 65536 →
      (bitOf (s.rd Od.cwinFunctionEnable) fn = false ∨ s.rd Od.cwinCount i w ≤ j → exec (.cwinValueRead h f w j) s =
        .next (s.emit (.readData 3 (fn * 65536 + w * 256 + j) 0))) ∧
      (bitOf (s.rd Od.cwinFunctionEnable) fn = true → j < s.rd Od.cwinCount i w → ∀ v, v = s.counterValue (s.rd Od.cwinDie i w) (s.rd Od.cwinBase i w + j) →
        Runs (.cwinValueRead h f w j) s fun t => t = { s with ctrs := { s.ctrs with latch := t.ctrs.latch },
                                                              out := .readData 3 (fn * 65536 + w * 256 + j) v :: s.out } ∧
          sparseFind? t.ctrs.latch (fn * 65536 + w * 256 + j) = some (v, low 64 (time96 s.time.now)))) ∧
    (∀ n i, n < 512 → s.hasDie (n / 64) = true → i = portInst n →
      (s.bwEnded = none → exec (.bwWindowEnd n) s = .next { s with ctrs := { s.ctrs with bw := sparseErase s.ctrs.bw n } }) ∧
      (∀ stop tick ticks b, s.bwEnded = some (stop, tick, ticks) → b = sparseGet (fun _ => Bandwidth.fresh) s.ctrs.bw n →
        (s.ctrs.stepAt = none ∨ (∃ a, s.ctrs.stepAt = some a ∧ a + tick * ticks * 1000 ≤ stop) → ∀ u : State,
          u = ((((s.wr Od.bwRxAvg (low 32 (b.rx * 8 / (tick * ticks))) i).wr Od.bwRxPeak (low 32 (b.rxMax * 8 / tick)) i).wr Od.bwTxAvg
            (low 32 (b.tx * 8 / (tick * ticks))) i).wr Od.bwTxPeak (low 32 (b.txMax * 8 / tick)) i).wr Od.bwWindowEnd (time96 (stop * 65536)) i →
          exec (.bwWindowEnd n) s = .next { u with ctrs := { s.ctrs with bw := sparseErase s.ctrs.bw n } }) ∧
        (∀ a, s.ctrs.stepAt = some a → stop < a + tick * ticks * 1000 →
          exec (.bwWindowEnd n) s = .next { s with ctrs := { s.ctrs with bw := sparseErase s.ctrs.bw n } }))) ∧
    (∀ d i c fn, s.hasDie d = true → i = dieInst d → c = s.rd Od.sampleRing i → fn = s.cqOwnerOf Od.sampleRing i →
      (sparseGet (fun _ => []) s.ctrs.samples d = [] → exec (.sampleDrain d) s = .next s) ∧
      (c = 0xFFFF ∨ s.cqFull fn c = true → exec (.sampleDrain d) s = .next s) ∧
      (∀ record seq rest slot lost, sparseGet (fun _ => []) s.ctrs.samples d = (record, seq) :: rest → c ≠ 0xFFFF → s.cqFull fn c = false →
        slot = s.rd Od.cqPi (cqInst fn c) % s.rd Od.cqSize (cqInst fn c) → lost = sparseGet (fun _ => 0) s.ctrs.sampleLost d → ∀ s1 : State,
        s1 = { s with ctrs := { s.ctrs with samples := sparseSet (fun _ => []) s.ctrs.samples d rest, sampleLost := sparseErase s.ctrs.sampleLost d } } →
        exec (.sampleDrain d) s = .next (((((s1.wr Od.sampleBuffered rest.length i).bump Od.sampleRecords i)).emit
          (.dma (s.dmaHost fn) (fn % 4) (s.rd Od.sampleAreaBase i + slot * 64) (leBytes 64 record))).postEntry fn c
            (seq * 2 ^ 64 + (min 255 lost) * 2 ^ 96 + d * 2 ^ 109 + 0x40 * 2 ^ 120))))
end

