-- ==== Sys2Proof/Laws/State.lean ====
section
/-! SUPPORT. What the shared updates of the state do to each of its fields, and what a sparse memory reads after a write. -/

namespace Sys2Proof.Machine

variable (s : State)

/-! wr. -/

@[simp] theorem State.wr_pending (o : Obj) (v inst k : Nat) : (s.wr o v inst k).pending = s.pending := rfl
@[simp] theorem State.wr_part (o : Obj) (v inst k : Nat) : (s.wr o v inst k).part = s.part := rfl
@[simp] theorem State.wr_regs (o : Obj) (v inst k : Nat) : (s.wr o v inst k).regs = sparseSet Od.defaultAt s.regs (o.key inst k) v := rfl
@[simp] theorem State.wr_freeCount (o : Obj) (v inst k : Nat) : (s.wr o v inst k).freeCount = s.freeCount := rfl
@[simp] theorem State.wr_agenda (o : Obj) (v inst k : Nat) : (s.wr o v inst k).agenda = s.agenda := rfl
@[simp] theorem State.wr_out (o : Obj) (v inst k : Nat) : (s.wr o v inst k).out = s.out := rfl
@[simp] theorem State.wr_time (o : Obj) (v inst k : Nat) : (s.wr o v inst k).time = s.time := rfl
@[simp] theorem State.wr_sched (o : Obj) (v inst k : Nat) : (s.wr o v inst k).sched = s.sched := rfl
@[simp] theorem State.wr_fams (o : Obj) (v inst k : Nat) : (s.wr o v inst k).fams = s.fams := rfl
@[simp] theorem State.wr_events (o : Obj) (v inst k : Nat) : (s.wr o v inst k).events = s.events := rfl
@[simp] theorem State.wr_dict (o : Obj) (v inst k : Nat) : (s.wr o v inst k).dict = s.dict := rfl
@[simp] theorem State.wr_rings (o : Obj) (v inst k : Nat) : (s.wr o v inst k).rings = s.rings := rfl
@[simp] theorem State.wr_recov (o : Obj) (v inst k : Nat) : (s.wr o v inst k).recov = s.recov := rfl
@[simp] theorem State.wr_ctrs (o : Obj) (v inst k : Nat) : (s.wr o v inst k).ctrs = s.ctrs := rfl
@[simp] theorem State.wr_power (o : Obj) (v inst k : Nat) : (s.wr o v inst k).power = s.power := rfl
@[simp] theorem State.wr_boot (o : Obj) (v inst k : Nat) : (s.wr o v inst k).boot = s.boot := rfl
@[simp] theorem State.wr_jtag (o : Obj) (v inst k : Nat) : (s.wr o v inst k).jtag = s.jtag := rfl
@[simp] theorem State.wr_links (o : Obj) (v inst k : Nat) : (s.wr o v inst k).links = s.links := rfl
@[simp] theorem State.wr_tables (o : Obj) (v inst k : Nat) : (s.wr o v inst k).tables = s.tables := rfl
@[simp] theorem State.wr_badRows (o : Obj) (v inst k : Nat) : (s.wr o v inst k).badRows = s.badRows := rfl
@[simp] theorem State.wr_copies (o : Obj) (v inst k : Nat) : (s.wr o v inst k).copies = s.copies := rfl
@[simp] theorem State.wr_asa (o : Obj) (v inst k : Nat) : (s.wr o v inst k).asa = s.asa := rfl
@[simp] theorem State.wr_placing (o : Obj) (v inst k : Nat) : (s.wr o v inst k).placing = s.placing := rfl
@[simp] theorem State.wr_learning (o : Obj) (v inst k : Nat) : (s.wr o v inst k).learning = s.learning := rfl
@[simp] theorem State.wr_packets (o : Obj) (v inst k : Nat) : (s.wr o v inst k).packets = s.packets := rfl
@[simp] theorem State.wr_nextPacket (o : Obj) (v inst k : Nat) : (s.wr o v inst k).nextPacket = s.nextPacket := rfl
@[simp] theorem State.wr_ae (o : Obj) (v inst k : Nat) : (s.wr o v inst k).ae = s.ae := rfl
@[simp] theorem State.wr_bufs (o : Obj) (v inst k : Nat) : (s.wr o v inst k).bufs = s.bufs := rfl
@[simp] theorem State.wr_tm (o : Obj) (v inst k : Nat) : (s.wr o v inst k).tm = s.tm := rfl
@[simp] theorem State.wr_fabric (o : Obj) (v inst k : Nat) : (s.wr o v inst k).fabric = s.fabric := rfl

/-! bump. -/

@[simp] theorem State.bump_pending (o : Obj) (inst k n : Nat) : (s.bump o inst k n).pending = s.pending := rfl
@[simp] theorem State.bump_part (o : Obj) (inst k n : Nat) : (s.bump o inst k n).part = s.part := rfl
@[simp] theorem State.bump_freeCount (o : Obj) (inst k n : Nat) : (s.bump o inst k n).freeCount = s.freeCount := rfl
@[simp] theorem State.bump_agenda (o : Obj) (inst k n : Nat) : (s.bump o inst k n).agenda = s.agenda := rfl
@[simp] theorem State.bump_out (o : Obj) (inst k n : Nat) : (s.bump o inst k n).out = s.out := rfl
@[simp] theorem State.bump_time (o : Obj) (inst k n : Nat) : (s.bump o inst k n).time = s.time := rfl
@[simp] theorem State.bump_sched (o : Obj) (inst k n : Nat) : (s.bump o inst k n).sched = s.sched := rfl
@[simp] theorem State.bump_fams (o : Obj) (inst k n : Nat) : (s.bump o inst k n).fams = s.fams := rfl
@[simp] theorem State.bump_events (o : Obj) (inst k n : Nat) : (s.bump o inst k n).events = s.events := rfl
@[simp] theorem State.bump_dict (o : Obj) (inst k n : Nat) : (s.bump o inst k n).dict = s.dict := rfl
@[simp] theorem State.bump_rings (o : Obj) (inst k n : Nat) : (s.bump o inst k n).rings = s.rings := rfl
@[simp] theorem State.bump_recov (o : Obj) (inst k n : Nat) : (s.bump o inst k n).recov = s.recov := rfl
@[simp] theorem State.bump_ctrs (o : Obj) (inst k n : Nat) : (s.bump o inst k n).ctrs = s.ctrs := rfl
@[simp] theorem State.bump_power (o : Obj) (inst k n : Nat) : (s.bump o inst k n).power = s.power := rfl
@[simp] theorem State.bump_boot (o : Obj) (inst k n : Nat) : (s.bump o inst k n).boot = s.boot := rfl
@[simp] theorem State.bump_jtag (o : Obj) (inst k n : Nat) : (s.bump o inst k n).jtag = s.jtag := rfl
@[simp] theorem State.bump_links (o : Obj) (inst k n : Nat) : (s.bump o inst k n).links = s.links := rfl
@[simp] theorem State.bump_tables (o : Obj) (inst k n : Nat) : (s.bump o inst k n).tables = s.tables := rfl
@[simp] theorem State.bump_badRows (o : Obj) (inst k n : Nat) : (s.bump o inst k n).badRows = s.badRows := rfl
@[simp] theorem State.bump_copies (o : Obj) (inst k n : Nat) : (s.bump o inst k n).copies = s.copies := rfl
@[simp] theorem State.bump_asa (o : Obj) (inst k n : Nat) : (s.bump o inst k n).asa = s.asa := rfl
@[simp] theorem State.bump_placing (o : Obj) (inst k n : Nat) : (s.bump o inst k n).placing = s.placing := rfl
@[simp] theorem State.bump_learning (o : Obj) (inst k n : Nat) : (s.bump o inst k n).learning = s.learning := rfl
@[simp] theorem State.bump_packets (o : Obj) (inst k n : Nat) : (s.bump o inst k n).packets = s.packets := rfl
@[simp] theorem State.bump_nextPacket (o : Obj) (inst k n : Nat) : (s.bump o inst k n).nextPacket = s.nextPacket := rfl
@[simp] theorem State.bump_ae (o : Obj) (inst k n : Nat) : (s.bump o inst k n).ae = s.ae := rfl
@[simp] theorem State.bump_bufs (o : Obj) (inst k n : Nat) : (s.bump o inst k n).bufs = s.bufs := rfl
@[simp] theorem State.bump_tm (o : Obj) (inst k n : Nat) : (s.bump o inst k n).tm = s.tm := rfl
@[simp] theorem State.bump_fabric (o : Obj) (inst k n : Nat) : (s.bump o inst k n).fabric = s.fabric := rfl

/-! wrOctet. -/

@[simp] theorem State.wrOctet_pending (o : Obj) (inst k i b : Nat) : (s.wrOctet o inst k i b).pending = s.pending := rfl
@[simp] theorem State.wrOctet_part (o : Obj) (inst k i b : Nat) : (s.wrOctet o inst k i b).part = s.part := rfl
@[simp] theorem State.wrOctet_freeCount (o : Obj) (inst k i b : Nat) : (s.wrOctet o inst k i b).freeCount = s.freeCount := rfl
@[simp] theorem State.wrOctet_agenda (o : Obj) (inst k i b : Nat) : (s.wrOctet o inst k i b).agenda = s.agenda := rfl
@[simp] theorem State.wrOctet_out (o : Obj) (inst k i b : Nat) : (s.wrOctet o inst k i b).out = s.out := rfl
@[simp] theorem State.wrOctet_time (o : Obj) (inst k i b : Nat) : (s.wrOctet o inst k i b).time = s.time := rfl
@[simp] theorem State.wrOctet_sched (o : Obj) (inst k i b : Nat) : (s.wrOctet o inst k i b).sched = s.sched := rfl
@[simp] theorem State.wrOctet_fams (o : Obj) (inst k i b : Nat) : (s.wrOctet o inst k i b).fams = s.fams := rfl
@[simp] theorem State.wrOctet_events (o : Obj) (inst k i b : Nat) : (s.wrOctet o inst k i b).events = s.events := rfl
@[simp] theorem State.wrOctet_dict (o : Obj) (inst k i b : Nat) : (s.wrOctet o inst k i b).dict = s.dict := rfl
@[simp] theorem State.wrOctet_rings (o : Obj) (inst k i b : Nat) : (s.wrOctet o inst k i b).rings = s.rings := rfl
@[simp] theorem State.wrOctet_recov (o : Obj) (inst k i b : Nat) : (s.wrOctet o inst k i b).recov = s.recov := rfl
@[simp] theorem State.wrOctet_ctrs (o : Obj) (inst k i b : Nat) : (s.wrOctet o inst k i b).ctrs = s.ctrs := rfl
@[simp] theorem State.wrOctet_power (o : Obj) (inst k i b : Nat) : (s.wrOctet o inst k i b).power = s.power := rfl
@[simp] theorem State.wrOctet_boot (o : Obj) (inst k i b : Nat) : (s.wrOctet o inst k i b).boot = s.boot := rfl
@[simp] theorem State.wrOctet_jtag (o : Obj) (inst k i b : Nat) : (s.wrOctet o inst k i b).jtag = s.jtag := rfl
@[simp] theorem State.wrOctet_links (o : Obj) (inst k i b : Nat) : (s.wrOctet o inst k i b).links = s.links := rfl
@[simp] theorem State.wrOctet_tables (o : Obj) (inst k i b : Nat) : (s.wrOctet o inst k i b).tables = s.tables := rfl
@[simp] theorem State.wrOctet_badRows (o : Obj) (inst k i b : Nat) : (s.wrOctet o inst k i b).badRows = s.badRows := rfl
@[simp] theorem State.wrOctet_copies (o : Obj) (inst k i b : Nat) : (s.wrOctet o inst k i b).copies = s.copies := rfl
@[simp] theorem State.wrOctet_asa (o : Obj) (inst k i b : Nat) : (s.wrOctet o inst k i b).asa = s.asa := rfl
@[simp] theorem State.wrOctet_placing (o : Obj) (inst k i b : Nat) : (s.wrOctet o inst k i b).placing = s.placing := rfl
@[simp] theorem State.wrOctet_learning (o : Obj) (inst k i b : Nat) : (s.wrOctet o inst k i b).learning = s.learning := rfl
@[simp] theorem State.wrOctet_packets (o : Obj) (inst k i b : Nat) : (s.wrOctet o inst k i b).packets = s.packets := rfl
@[simp] theorem State.wrOctet_nextPacket (o : Obj) (inst k i b : Nat) : (s.wrOctet o inst k i b).nextPacket = s.nextPacket := rfl
@[simp] theorem State.wrOctet_ae (o : Obj) (inst k i b : Nat) : (s.wrOctet o inst k i b).ae = s.ae := rfl
@[simp] theorem State.wrOctet_bufs (o : Obj) (inst k i b : Nat) : (s.wrOctet o inst k i b).bufs = s.bufs := rfl
@[simp] theorem State.wrOctet_tm (o : Obj) (inst k i b : Nat) : (s.wrOctet o inst k i b).tm = s.tm := rfl
@[simp] theorem State.wrOctet_fabric (o : Obj) (inst k i b : Nat) : (s.wrOctet o inst k i b).fabric = s.fabric := rfl

/-! useFree. -/

@[simp] theorem State.useFree_pending : (s.useFree).pending = s.pending := rfl
@[simp] theorem State.useFree_part : (s.useFree).part = s.part := rfl
@[simp] theorem State.useFree_regs : (s.useFree).regs = s.regs := rfl
@[simp] theorem State.useFree_freeCount : (s.useFree).freeCount = s.freeCount + 1 := rfl
@[simp] theorem State.useFree_agenda : (s.useFree).agenda = s.agenda := rfl
@[simp] theorem State.useFree_out : (s.useFree).out = s.out := rfl
@[simp] theorem State.useFree_time : (s.useFree).time = s.time := rfl
@[simp] theorem State.useFree_sched : (s.useFree).sched = s.sched := rfl
@[simp] theorem State.useFree_fams : (s.useFree).fams = s.fams := rfl
@[simp] theorem State.useFree_events : (s.useFree).events = s.events := rfl
@[simp] theorem State.useFree_dict : (s.useFree).dict = s.dict := rfl
@[simp] theorem State.useFree_rings : (s.useFree).rings = s.rings := rfl
@[simp] theorem State.useFree_recov : (s.useFree).recov = s.recov := rfl
@[simp] theorem State.useFree_ctrs : (s.useFree).ctrs = s.ctrs := rfl
@[simp] theorem State.useFree_power : (s.useFree).power = s.power := rfl
@[simp] theorem State.useFree_boot : (s.useFree).boot = s.boot := rfl
@[simp] theorem State.useFree_jtag : (s.useFree).jtag = s.jtag := rfl
@[simp] theorem State.useFree_links : (s.useFree).links = s.links := rfl
@[simp] theorem State.useFree_tables : (s.useFree).tables = s.tables := rfl
@[simp] theorem State.useFree_badRows : (s.useFree).badRows = s.badRows := rfl
@[simp] theorem State.useFree_copies : (s.useFree).copies = s.copies := rfl
@[simp] theorem State.useFree_asa : (s.useFree).asa = s.asa := rfl
@[simp] theorem State.useFree_placing : (s.useFree).placing = s.placing := rfl
@[simp] theorem State.useFree_learning : (s.useFree).learning = s.learning := rfl
@[simp] theorem State.useFree_packets : (s.useFree).packets = s.packets := rfl
@[simp] theorem State.useFree_nextPacket : (s.useFree).nextPacket = s.nextPacket := rfl
@[simp] theorem State.useFree_ae : (s.useFree).ae = s.ae := rfl
@[simp] theorem State.useFree_bufs : (s.useFree).bufs = s.bufs := rfl
@[simp] theorem State.useFree_tm : (s.useFree).tm = s.tm := rfl
@[simp] theorem State.useFree_fabric : (s.useFree).fabric = s.fabric := rfl

/-! emit. -/

@[simp] theorem State.emit_pending (o : Out) : (s.emit o).pending = s.pending := rfl
@[simp] theorem State.emit_part (o : Out) : (s.emit o).part = s.part := rfl
@[simp] theorem State.emit_regs (o : Out) : (s.emit o).regs = s.regs := rfl
@[simp] theorem State.emit_freeCount (o : Out) : (s.emit o).freeCount = s.freeCount := rfl
@[simp] theorem State.emit_agenda (o : Out) : (s.emit o).agenda = s.agenda := rfl
@[simp] theorem State.emit_out (o : Out) : (s.emit o).out = o :: s.out := rfl
@[simp] theorem State.emit_time (o : Out) : (s.emit o).time = s.time := rfl
@[simp] theorem State.emit_sched (o : Out) : (s.emit o).sched = s.sched := rfl
@[simp] theorem State.emit_fams (o : Out) : (s.emit o).fams = s.fams := rfl
@[simp] theorem State.emit_events (o : Out) : (s.emit o).events = s.events := rfl
@[simp] theorem State.emit_dict (o : Out) : (s.emit o).dict = s.dict := rfl
@[simp] theorem State.emit_rings (o : Out) : (s.emit o).rings = s.rings := rfl
@[simp] theorem State.emit_recov (o : Out) : (s.emit o).recov = s.recov := rfl
@[simp] theorem State.emit_ctrs (o : Out) : (s.emit o).ctrs = s.ctrs := rfl
@[simp] theorem State.emit_power (o : Out) : (s.emit o).power = s.power := rfl
@[simp] theorem State.emit_boot (o : Out) : (s.emit o).boot = s.boot := rfl
@[simp] theorem State.emit_jtag (o : Out) : (s.emit o).jtag = s.jtag := rfl
@[simp] theorem State.emit_links (o : Out) : (s.emit o).links = s.links := rfl
@[simp] theorem State.emit_tables (o : Out) : (s.emit o).tables = s.tables := rfl
@[simp] theorem State.emit_badRows (o : Out) : (s.emit o).badRows = s.badRows := rfl
@[simp] theorem State.emit_copies (o : Out) : (s.emit o).copies = s.copies := rfl
@[simp] theorem State.emit_asa (o : Out) : (s.emit o).asa = s.asa := rfl
@[simp] theorem State.emit_placing (o : Out) : (s.emit o).placing = s.placing := rfl
@[simp] theorem State.emit_learning (o : Out) : (s.emit o).learning = s.learning := rfl
@[simp] theorem State.emit_packets (o : Out) : (s.emit o).packets = s.packets := rfl
@[simp] theorem State.emit_nextPacket (o : Out) : (s.emit o).nextPacket = s.nextPacket := rfl
@[simp] theorem State.emit_ae (o : Out) : (s.emit o).ae = s.ae := rfl
@[simp] theorem State.emit_bufs (o : Out) : (s.emit o).bufs = s.bufs := rfl
@[simp] theorem State.emit_tm (o : Out) : (s.emit o).tm = s.tm := rfl
@[simp] theorem State.emit_fabric (o : Out) : (s.emit o).fabric = s.fabric := rfl

/-! later. -/

@[simp] theorem State.later_pending (ns : Nat) (i : Instr) : (s.later ns i).pending = s.pending := rfl
@[simp] theorem State.later_part (ns : Nat) (i : Instr) : (s.later ns i).part = s.part := rfl
@[simp] theorem State.later_regs (ns : Nat) (i : Instr) : (s.later ns i).regs = s.regs := rfl
@[simp] theorem State.later_freeCount (ns : Nat) (i : Instr) : (s.later ns i).freeCount = s.freeCount := rfl
@[simp] theorem State.later_agenda (ns : Nat) (i : Instr) : (s.later ns i).agenda = s.agenda ++ [(s.up + ns, i)] := rfl
@[simp] theorem State.later_out (ns : Nat) (i : Instr) : (s.later ns i).out = s.out := rfl
@[simp] theorem State.later_time (ns : Nat) (i : Instr) : (s.later ns i).time = s.time := rfl
@[simp] theorem State.later_sched (ns : Nat) (i : Instr) : (s.later ns i).sched = s.sched := rfl
@[simp] theorem State.later_fams (ns : Nat) (i : Instr) : (s.later ns i).fams = s.fams := rfl
@[simp] theorem State.later_events (ns : Nat) (i : Instr) : (s.later ns i).events = s.events := rfl
@[simp] theorem State.later_dict (ns : Nat) (i : Instr) : (s.later ns i).dict = s.dict := rfl
@[simp] theorem State.later_rings (ns : Nat) (i : Instr) : (s.later ns i).rings = s.rings := rfl
@[simp] theorem State.later_recov (ns : Nat) (i : Instr) : (s.later ns i).recov = s.recov := rfl
@[simp] theorem State.later_ctrs (ns : Nat) (i : Instr) : (s.later ns i).ctrs = s.ctrs := rfl
@[simp] theorem State.later_power (ns : Nat) (i : Instr) : (s.later ns i).power = s.power := rfl
@[simp] theorem State.later_boot (ns : Nat) (i : Instr) : (s.later ns i).boot = s.boot := rfl
@[simp] theorem State.later_jtag (ns : Nat) (i : Instr) : (s.later ns i).jtag = s.jtag := rfl
@[simp] theorem State.later_links (ns : Nat) (i : Instr) : (s.later ns i).links = s.links := rfl
@[simp] theorem State.later_tables (ns : Nat) (i : Instr) : (s.later ns i).tables = s.tables := rfl
@[simp] theorem State.later_badRows (ns : Nat) (i : Instr) : (s.later ns i).badRows = s.badRows := rfl
@[simp] theorem State.later_copies (ns : Nat) (i : Instr) : (s.later ns i).copies = s.copies := rfl
@[simp] theorem State.later_asa (ns : Nat) (i : Instr) : (s.later ns i).asa = s.asa := rfl
@[simp] theorem State.later_placing (ns : Nat) (i : Instr) : (s.later ns i).placing = s.placing := rfl
@[simp] theorem State.later_learning (ns : Nat) (i : Instr) : (s.later ns i).learning = s.learning := rfl
@[simp] theorem State.later_packets (ns : Nat) (i : Instr) : (s.later ns i).packets = s.packets := rfl
@[simp] theorem State.later_nextPacket (ns : Nat) (i : Instr) : (s.later ns i).nextPacket = s.nextPacket := rfl
@[simp] theorem State.later_ae (ns : Nat) (i : Instr) : (s.later ns i).ae = s.ae := rfl
@[simp] theorem State.later_bufs (ns : Nat) (i : Instr) : (s.later ns i).bufs = s.bufs := rfl
@[simp] theorem State.later_tm (ns : Nat) (i : Instr) : (s.later ns i).tm = s.tm := rfl
@[simp] theorem State.later_fabric (ns : Nat) (i : Instr) : (s.later ns i).fabric = s.fabric := rfl

/-! setFam. -/

@[simp] theorem State.setFam_pending (f : Nat) (x : Family) : (s.setFam f x).pending = s.pending := rfl
@[simp] theorem State.setFam_part (f : Nat) (x : Family) : (s.setFam f x).part = s.part := rfl
@[simp] theorem State.setFam_regs (f : Nat) (x : Family) : (s.setFam f x).regs = s.regs := rfl
@[simp] theorem State.setFam_freeCount (f : Nat) (x : Family) : (s.setFam f x).freeCount = s.freeCount := rfl
@[simp] theorem State.setFam_agenda (f : Nat) (x : Family) : (s.setFam f x).agenda = s.agenda := rfl
@[simp] theorem State.setFam_out (f : Nat) (x : Family) : (s.setFam f x).out = s.out := rfl
@[simp] theorem State.setFam_time (f : Nat) (x : Family) : (s.setFam f x).time = s.time := rfl
@[simp] theorem State.setFam_sched (f : Nat) (x : Family) : (s.setFam f x).sched = s.sched := rfl
@[simp] theorem State.setFam_fams (f : Nat) (x : Family) : (s.setFam f x).fams = sparseSet (fun _ => Family.fresh) s.fams f x := rfl
@[simp] theorem State.setFam_events (f : Nat) (x : Family) : (s.setFam f x).events = s.events := rfl
@[simp] theorem State.setFam_dict (f : Nat) (x : Family) : (s.setFam f x).dict = s.dict := rfl
@[simp] theorem State.setFam_rings (f : Nat) (x : Family) : (s.setFam f x).rings = s.rings := rfl
@[simp] theorem State.setFam_recov (f : Nat) (x : Family) : (s.setFam f x).recov = s.recov := rfl
@[simp] theorem State.setFam_ctrs (f : Nat) (x : Family) : (s.setFam f x).ctrs = s.ctrs := rfl
@[simp] theorem State.setFam_power (f : Nat) (x : Family) : (s.setFam f x).power = s.power := rfl
@[simp] theorem State.setFam_boot (f : Nat) (x : Family) : (s.setFam f x).boot = s.boot := rfl
@[simp] theorem State.setFam_jtag (f : Nat) (x : Family) : (s.setFam f x).jtag = s.jtag := rfl
@[simp] theorem State.setFam_links (f : Nat) (x : Family) : (s.setFam f x).links = s.links := rfl
@[simp] theorem State.setFam_tables (f : Nat) (x : Family) : (s.setFam f x).tables = s.tables := rfl
@[simp] theorem State.setFam_badRows (f : Nat) (x : Family) : (s.setFam f x).badRows = s.badRows := rfl
@[simp] theorem State.setFam_copies (f : Nat) (x : Family) : (s.setFam f x).copies = s.copies := rfl
@[simp] theorem State.setFam_asa (f : Nat) (x : Family) : (s.setFam f x).asa = s.asa := rfl
@[simp] theorem State.setFam_placing (f : Nat) (x : Family) : (s.setFam f x).placing = s.placing := rfl
@[simp] theorem State.setFam_learning (f : Nat) (x : Family) : (s.setFam f x).learning = s.learning := rfl
@[simp] theorem State.setFam_packets (f : Nat) (x : Family) : (s.setFam f x).packets = s.packets := rfl
@[simp] theorem State.setFam_nextPacket (f : Nat) (x : Family) : (s.setFam f x).nextPacket = s.nextPacket := rfl
@[simp] theorem State.setFam_ae (f : Nat) (x : Family) : (s.setFam f x).ae = s.ae := rfl
@[simp] theorem State.setFam_bufs (f : Nat) (x : Family) : (s.setFam f x).bufs = s.bufs := rfl
@[simp] theorem State.setFam_tm (f : Nat) (x : Family) : (s.setFam f x).tm = s.tm := rfl
@[simp] theorem State.setFam_fabric (f : Nat) (x : Family) : (s.setFam f x).fabric = s.fabric := rfl

/-! setGroup. -/

@[simp] theorem State.setGroup_pending (d g : Nat) (x : Group) : (s.setGroup d g x).pending = s.pending := rfl
@[simp] theorem State.setGroup_part (d g : Nat) (x : Group) : (s.setGroup d g x).part = s.part := rfl
@[simp] theorem State.setGroup_regs (d g : Nat) (x : Group) : (s.setGroup d g x).regs = s.regs := rfl
@[simp] theorem State.setGroup_freeCount (d g : Nat) (x : Group) : (s.setGroup d g x).freeCount = s.freeCount := rfl
@[simp] theorem State.setGroup_agenda (d g : Nat) (x : Group) : (s.setGroup d g x).agenda = s.agenda := rfl
@[simp] theorem State.setGroup_out (d g : Nat) (x : Group) : (s.setGroup d g x).out = s.out := rfl
@[simp] theorem State.setGroup_time (d g : Nat) (x : Group) : (s.setGroup d g x).time = s.time := rfl
@[simp] theorem State.setGroup_sched (d g : Nat) (x : Group) : (s.setGroup d g x).sched = s.sched := rfl
@[simp] theorem State.setGroup_fams (d g : Nat) (x : Group) : (s.setGroup d g x).fams = s.fams := rfl
@[simp] theorem State.setGroup_events (d g : Nat) (x : Group) : (s.setGroup d g x).events = s.events := rfl
@[simp] theorem State.setGroup_dict (d g : Nat) (x : Group) : (s.setGroup d g x).dict = s.dict := rfl
@[simp] theorem State.setGroup_rings (d g : Nat) (x : Group) : (s.setGroup d g x).rings = s.rings := rfl
@[simp] theorem State.setGroup_recov (d g : Nat) (x : Group) : (s.setGroup d g x).recov = s.recov := rfl
@[simp] theorem State.setGroup_ctrs (d g : Nat) (x : Group) : (s.setGroup d g x).ctrs = s.ctrs := rfl
@[simp] theorem State.setGroup_power (d g : Nat) (x : Group) : (s.setGroup d g x).power = s.power := rfl
@[simp] theorem State.setGroup_boot (d g : Nat) (x : Group) : (s.setGroup d g x).boot = s.boot := rfl
@[simp] theorem State.setGroup_jtag (d g : Nat) (x : Group) : (s.setGroup d g x).jtag = s.jtag := rfl
@[simp] theorem State.setGroup_links (d g : Nat) (x : Group) : (s.setGroup d g x).links = s.links := rfl
@[simp] theorem State.setGroup_tables (d g : Nat) (x : Group) : (s.setGroup d g x).tables = s.tables := rfl
@[simp] theorem State.setGroup_badRows (d g : Nat) (x : Group) : (s.setGroup d g x).badRows = s.badRows := rfl
@[simp] theorem State.setGroup_copies (d g : Nat) (x : Group) : (s.setGroup d g x).copies = s.copies := rfl
@[simp] theorem State.setGroup_asa (d g : Nat) (x : Group) : (s.setGroup d g x).asa = s.asa := rfl
@[simp] theorem State.setGroup_placing (d g : Nat) (x : Group) : (s.setGroup d g x).placing = s.placing := rfl
@[simp] theorem State.setGroup_learning (d g : Nat) (x : Group) : (s.setGroup d g x).learning = s.learning := rfl
@[simp] theorem State.setGroup_packets (d g : Nat) (x : Group) : (s.setGroup d g x).packets = s.packets := rfl
@[simp] theorem State.setGroup_nextPacket (d g : Nat) (x : Group) : (s.setGroup d g x).nextPacket = s.nextPacket := rfl
@[simp] theorem State.setGroup_ae (d g : Nat) (x : Group) : (s.setGroup d g x).ae = s.ae := rfl
@[simp] theorem State.setGroup_bufs (d g : Nat) (x : Group) : (s.setGroup d g x).bufs = s.bufs := rfl
@[simp] theorem State.setGroup_tm (d g : Nat) (x : Group) : (s.setGroup d g x).tm = s.tm := rfl

/-! setRc. -/

@[simp] theorem State.setRc_pending (p : Nat) (l : List RcEntry) : (s.setRc p l).pending = s.pending := rfl
@[simp] theorem State.setRc_part (p : Nat) (l : List RcEntry) : (s.setRc p l).part = s.part := rfl
@[simp] theorem State.setRc_regs (p : Nat) (l : List RcEntry) : (s.setRc p l).regs = s.regs := rfl
@[simp] theorem State.setRc_freeCount (p : Nat) (l : List RcEntry) : (s.setRc p l).freeCount = s.freeCount := rfl
@[simp] theorem State.setRc_agenda (p : Nat) (l : List RcEntry) : (s.setRc p l).agenda = s.agenda := rfl
@[simp] theorem State.setRc_out (p : Nat) (l : List RcEntry) : (s.setRc p l).out = s.out := rfl
@[simp] theorem State.setRc_time (p : Nat) (l : List RcEntry) : (s.setRc p l).time = s.time := rfl
@[simp] theorem State.setRc_sched (p : Nat) (l : List RcEntry) : (s.setRc p l).sched = s.sched := rfl
@[simp] theorem State.setRc_fams (p : Nat) (l : List RcEntry) : (s.setRc p l).fams = s.fams := rfl
@[simp] theorem State.setRc_events (p : Nat) (l : List RcEntry) : (s.setRc p l).events = s.events := rfl
@[simp] theorem State.setRc_dict (p : Nat) (l : List RcEntry) : (s.setRc p l).dict = s.dict := rfl
@[simp] theorem State.setRc_rings (p : Nat) (l : List RcEntry) : (s.setRc p l).rings = s.rings := rfl
@[simp] theorem State.setRc_recov (p : Nat) (l : List RcEntry) : (s.setRc p l).recov = s.recov := rfl
@[simp] theorem State.setRc_ctrs (p : Nat) (l : List RcEntry) : (s.setRc p l).ctrs = s.ctrs := rfl
@[simp] theorem State.setRc_power (p : Nat) (l : List RcEntry) : (s.setRc p l).power = s.power := rfl
@[simp] theorem State.setRc_boot (p : Nat) (l : List RcEntry) : (s.setRc p l).boot = s.boot := rfl
@[simp] theorem State.setRc_jtag (p : Nat) (l : List RcEntry) : (s.setRc p l).jtag = s.jtag := rfl
@[simp] theorem State.setRc_links (p : Nat) (l : List RcEntry) : (s.setRc p l).links = s.links := rfl
@[simp] theorem State.setRc_tables (p : Nat) (l : List RcEntry) : (s.setRc p l).tables = s.tables := rfl
@[simp] theorem State.setRc_badRows (p : Nat) (l : List RcEntry) : (s.setRc p l).badRows = s.badRows := rfl
@[simp] theorem State.setRc_copies (p : Nat) (l : List RcEntry) : (s.setRc p l).copies = s.copies := rfl
@[simp] theorem State.setRc_placing (p : Nat) (l : List RcEntry) : (s.setRc p l).placing = s.placing := rfl
@[simp] theorem State.setRc_learning (p : Nat) (l : List RcEntry) : (s.setRc p l).learning = s.learning := rfl
@[simp] theorem State.setRc_packets (p : Nat) (l : List RcEntry) : (s.setRc p l).packets = s.packets := rfl
@[simp] theorem State.setRc_nextPacket (p : Nat) (l : List RcEntry) : (s.setRc p l).nextPacket = s.nextPacket := rfl
@[simp] theorem State.setRc_ae (p : Nat) (l : List RcEntry) : (s.setRc p l).ae = s.ae := rfl
@[simp] theorem State.setRc_bufs (p : Nat) (l : List RcEntry) : (s.setRc p l).bufs = s.bufs := rfl
@[simp] theorem State.setRc_tm (p : Nat) (l : List RcEntry) : (s.setRc p l).tm = s.tm := rfl
@[simp] theorem State.setRc_fabric (p : Nat) (l : List RcEntry) : (s.setRc p l).fabric = s.fabric := rfl

/-! Sparse memories. -/

/-- A key below every key of a rising list is not in it. -/
theorem sparseFind?_of_rising {α : Type} (m : Sparse α) (lo k : Nat) (h : sparseRising (some lo) m = true) (hk : k ≤ lo) :
    sparseFind? m k = none := by
  cases m with
  | nil => rfl
  | cons e rest =>
    obtain ⟨a, v⟩ := e
    simp only [sparseRising, Bool.and_eq_true, decide_eq_true_eq] at h
    have h1 : a ≠ k := by omega
    have h2 : k < a := by omega
    simp [sparseFind?, h1, h2]

/-- A rising list above `lo` is rising above less. -/
theorem sparseRising_mono {α : Type} (m : Sparse α) (a b : Nat) (h : sparseRising (some b) m = true) (hab : a ≤ b) :
    sparseRising (some a) m = true := by
  cases m with
  | nil => rfl
  | cons e rest =>
    obtain ⟨x, v⟩ := e
    simp only [sparseRising, Bool.and_eq_true, decide_eq_true_eq] at h ⊢
    exact ⟨by omega, h.2⟩

/-- Read after listing a value: that value at its key, what was read before at every other. -/
theorem sparseFind?_put {α : Type} (m : Sparse α) (k j : Nat) (v : α) :
    sparseFind? (sparsePut m k v) j = if k = j then some v else sparseFind? m j := by
  induction m with
  | nil => by_cases h : k = j <;> simp [sparsePut, sparseFind?, h]
  | cons e rest ih =>
    obtain ⟨a, w⟩ := e
    by_cases h1 : a = k
    · subst h1
      by_cases h2 : a = j <;> simp [sparsePut, sparseFind?, h2]
    · by_cases h3 : k < a
      · by_cases h2 : k = j
        · subst h2
          simp [sparsePut, sparseFind?, h1, h3]
        · by_cases h4 : j < k
          · have : a ≠ j := by omega
            have : j < a := by omega
            simp [sparsePut, sparseFind?, *]
          · simp [sparsePut, sparseFind?, h1, h3, h2, h4]
      · by_cases h2 : a = j
        · subst h2
          simp [sparsePut, sparseFind?, h1, h3, Ne.symm h1]
        · by_cases h4 : j < a
          · have : k ≠ j := by omega
            simp [sparsePut, sparseFind?, h1, h3, h2, h4, this]
          · simp [sparsePut, sparseFind?, h1, h3, h2, h4, ih]

/-- Listing a value above `lo` keeps the keys rising. -/
theorem sparseRising_put {α : Type} (m : Sparse α) (k : Nat) (v : α) :
    ∀ lo : Option Nat, (∀ b, lo = some b → b < k) → sparseRising lo m = true → sparseRising lo (sparsePut m k v) = true := by
  induction m with
  | nil =>
    intro lo hlo _
    cases lo with
    | none => rfl
    | some b => simpa [sparsePut, sparseRising] using hlo b rfl
  | cons e rest ih =>
    obtain ⟨a, w⟩ := e
    intro lo hlo h
    have hr : sparseRising (some a) rest = true := by
      cases lo <;> simp_all [sparseRising]
    by_cases h1 : a = k
    · subst h1
      cases lo with
      | none => simpa [sparsePut, sparseRising] using hr
      | some b => simpa [sparsePut, sparseRising, hr] using hlo b rfl
    · by_cases h2 : k < a
      · cases lo with
        | none => simp [sparsePut, sparseRising, h1, h2, hr]
        | some b => simp [sparsePut, sparseRising, h1, h2, hr, hlo b rfl]
      · have h3 := ih (some a) (by intro b hb; cases hb; omega) hr
        cases lo with
        | none => simpa [sparsePut, sparseRising, h1, h2] using h3
        | some b =>
          have : b < a := by simp_all [sparseRising]
          simpa [sparsePut, sparseRising, h1, h2, this] using h3

/-- Removing a key keeps the keys rising. -/
theorem sparseRising_erase {α : Type} (m : Sparse α) (k : Nat) :
    ∀ lo : Option Nat, sparseRising lo m = true → sparseRising lo (sparseErase m k) = true := by
  induction m with
  | nil => intro lo h; exact h
  | cons e rest ih =>
    obtain ⟨a, w⟩ := e
    intro lo h
    have hr : sparseRising (some a) rest = true := by cases lo <;> simp_all [sparseRising]
    by_cases h1 : a = k
    · cases lo with
      | none =>
        cases rest with
        | nil => simp [sparseErase, h1, sparseRising]
        | cons e2 r2 =>
          obtain ⟨x, y⟩ := e2
          simp_all [sparseErase, sparseRising]
      | some b =>
        have hb : b < a := by simp_all [sparseRising]
        simpa [sparseErase, h1] using sparseRising_mono rest b a hr (by omega)
    · by_cases h2 : k < a
      · simpa [sparseErase, h1, h2] using h
      · have h3 := ih (some a) hr
        cases lo with
        | none => simpa [sparseErase, sparseRising, h1, h2] using h3
        | some b =>
          have hb : b < a := by simp_all [sparseRising]
          simpa [sparseErase, sparseRising, h1, h2, hb] using h3

/-- An entry of the list after a write is the entry written or was there before. -/
theorem mem_sparsePut {α : Type} (m : Sparse α) (k : Nat) (v : α) (e : Nat × α) (h : e ∈ sparsePut m k v) :
    e = (k, v) ∨ e ∈ m := by
  induction m with
  | nil => simpa [sparsePut] using h
  | cons x rest ih =>
    obtain ⟨a, w⟩ := x
    by_cases h1 : a = k
    · simp only [sparsePut, h1, if_true, List.mem_cons] at h
      rcases h with h | h
      · exact .inl h
      · exact .inr (by simp [h])
    · by_cases h2 : k < a
      · simp only [sparsePut, h1, h2, if_true, if_false, List.mem_cons] at h
        rcases h with h | h
        · exact .inl h
        · exact .inr (by simpa using h)
      · simp only [sparsePut, h1, h2, if_false, List.mem_cons] at h
        rcases h with h | h
        · exact .inr (by simp [h])
        · rcases ih h with h | h
          · exact .inl h
          · exact .inr (by simp [h])

/-- An entry of the list after a removal was there before. -/
theorem mem_sparseErase {α : Type} (m : Sparse α) (k : Nat) (e : Nat × α) (h : e ∈ sparseErase m k) : e ∈ m := by
  induction m with
  | nil => simp [sparseErase] at h
  | cons x rest ih =>
    obtain ⟨a, w⟩ := x
    by_cases h1 : a = k
    · simp only [sparseErase, h1, if_true] at h
      simp [h]
    · by_cases h2 : k < a
      · simpa [sparseErase, h1, h2] using h
      · simp only [sparseErase, h1, h2, if_false, List.mem_cons] at h
        rcases h with h | h
        · simp [h]
        · simp [ih h]

/-- A write keeps the canonical form. -/
theorem sparseWf_set {α : Type} [DecidableEq α] (dflt : Nat → α) (m : Sparse α) (k : Nat) (v : α) (h : sparseWf dflt m = true) :
    sparseWf dflt (sparseSet dflt m k v) = true := by
  simp only [sparseWf, Bool.and_eq_true, List.all_eq_true, decide_eq_true_eq] at h ⊢
  by_cases hv : v = dflt k
  · simp only [sparseSet, hv, if_true]
    exact ⟨sparseRising_erase m k none h.1, fun e he => h.2 e (mem_sparseErase m k e he)⟩
  · simp only [sparseSet, hv, if_false]
    refine ⟨sparseRising_put m k v none (by simp) h.1, fun e he => ?_⟩
    rcases mem_sparsePut m k v e he with rfl | he
    · exact hv
    · exact h.2 e he

/-- The value removed is no longer found, where the keys rise. -/
theorem sparseFind?_erase {α : Type} (m : Sparse α) (k j : Nat) (h : ∃ lo, sparseRising lo m = true) :
    sparseFind? (sparseErase m k) j = if k = j then none else sparseFind? m j := by
  induction m with
  | nil => simp [sparseErase, sparseFind?]
  | cons e rest ih =>
    obtain ⟨a, w⟩ := e
    obtain ⟨lo, h⟩ := h
    have hr : sparseRising (some a) rest = true := by cases lo <;> simp_all [sparseRising]
    by_cases h1 : a = k
    · subst h1
      by_cases h2 : a = j
      · subst h2
        simpa [sparseErase] using sparseFind?_of_rising rest a a hr (by omega)
      · by_cases h4 : j < a
        · simpa [sparseErase, sparseFind?, h2, h4] using sparseFind?_of_rising rest a j hr (by omega)
        · simp [sparseErase, sparseFind?, h2, h4]
    · by_cases h2 : k < a
      · by_cases h3 : k = j
        · subst h3
          simp [sparseErase, sparseFind?, h1, h2]
        · simp [sparseErase, h1, h2, h3]
      · by_cases h3 : a = j
        · subst h3
          simp [sparseErase, sparseFind?, h1, h2, Ne.symm h1]
        · by_cases h4 : j < a
          · have : k ≠ j := by omega
            simp [sparseErase, sparseFind?, h1, h2, h3, h4, this]
          · simp [sparseErase, sparseFind?, h1, h2, h3, h4, ih ⟨_, hr⟩]

/-- Read after a write: the value at its key, what was read before at every other. -/
theorem sparseGet_set {α : Type} [DecidableEq α] (dflt : Nat → α) (m : Sparse α) (k j : Nat) (v : α)
    (h : sparseRising none m = true) :
    sparseGet dflt (sparseSet dflt m k v) j = if k = j then v else sparseGet dflt m j := by
  by_cases hv : v = dflt k
  · by_cases hj : k = j
    · subst hj
      simp [sparseSet, hv, sparseGet, sparseFind?_erase m k k ⟨none, h⟩]
    · simp [sparseSet, hv, sparseGet, sparseFind?_erase m k j ⟨none, h⟩, hj]
  · simp only [sparseSet, hv, if_false, sparseGet, sparseFind?_put]
    split <;> rfl

/-- A register reads as it was written, and every other as before. -/
theorem State.regs_wr (o : Obj) (v inst k j : Nat) (h : sparseRising none s.regs = true) :
    sparseGet Od.defaultAt (s.wr o v inst k).regs j = if o.key inst k = j then v else sparseGet Od.defaultAt s.regs j :=
  sparseGet_set _ _ _ _ _ h

/-- A write of a register keeps the register file canonical. -/
theorem State.wr_wf (o : Obj) (v inst k : Nat) (h : sparseWf Od.defaultAt s.regs = true) :
    sparseWf Od.defaultAt (s.wr o v inst k).regs = true := sparseWf_set _ _ _ _ h

/-! The outcome of a meaning. -/

theorem running_eq (s f : State) : running s f = .next (if s.stopped then s else f) := rfl

theorem withDie_next (s f : State) (d : Nat) (h : s.hasDie d = true) : withDie s d f = running s f := by simp [withDie, h]

theorem withLane_next (s f : State) (n : Nat) (h : n < 512) (h2 : s.hasDie (n / 64) = true) : withLane s n f = running s f := by
  simp [withLane, h, h2]

theorem withPipe_next (s f : State) (p : Nat) (h : p % 16 ≤ 8) (h2 : s.hasDie (p / 16) = true) : withPipe s p f = running s f := by
  simp [withPipe, h, h2]

end Sys2Proof.Machine
end

