-- ==== Sys2Proof/Laws/Rows.lean ====
section
/-! SUPPORT. What a dictionary row answers when its request is heard, in terms of the write of its object. -/

namespace Sys2Proof.Machine

variable {s : State} {r : Req}

/-- Octets of a number. -/
theorem leBytes_length (n v : Nat) : (leBytes n v).length = n := by
  induction n generalizing v with
  | zero => rfl
  | succ n ih => rw [leBytes, List.length_cons, ih]

/-- Octets of a number, most significant first. -/
theorem beBytes_length (n v : Nat) : (beBytes n v).length = n := by
  induction n with
  | zero => rfl
  | succ n ih => rw [beBytes, List.length_cons, ih]

/-- Octets of a number on a transport. -/
theorem wireNum_length (be : Bool) (n v : Nat) : (wireNum be n v).length = n := by
  cases be <;> simp [wireNum, leBytes_length, beBytes_length]

/-- Octets of the record of a request. -/
theorem requestRecord_length (be : Bool) (o : DictOp) : (requestRecord be o).length = 16 + o.len + (8 - o.len % 8) % 8 := by
  have hv : (valueOctets be o.addr o.len o.value).length = o.len := by
    unfold valueOctets
    split <;> simp [wireNum_length, beBytes_length]
  simp [requestRecord, leBytes_length, wireNum_length, hv, padTo8]
  omega

/-- What it takes for a plain request to be heard. -/
theorem hearsPlain_iff : s.hearsPlain r = true ↔
    s.stopped = false ∧ s.hostUp = true ∧ r.keySlot = none ∧ r.critical = false ∧ ∃ h f, h < 2 ∧ f < 4 ∧ r.session = .pcie h f := by
  unfold State.hearsPlain isFunction
  rcases hs : r.session with ⟨h, f⟩ | _ | _ | _ | _ <;> simp [and_assoc]

/-- What it takes for a critical request to be heard. -/
theorem hearsCritical_iff (o : DictOp) (k : Nat) : s.hearsCritical r o k = true ↔
    s.stopped = false ∧ s.hostUp = true ∧ r.keySlot = some k ∧ k < 8 ∧ r.critical = true ∧ (∃ h f, h < 2 ∧ f < 4 ∧ r.session = .pcie h f) ∧
      s.authentic true true k (rowHeader false r (requestRecord false o).length ++ requestRecord false o) (beBytes 16 r.check) = true ∧
      s.counterLast k < r.counter ∧ s.dict.critQueue = [] ∧ s.criticalOpen = true ∧ s.hasRight k o.addr.index = true := by
  unfold State.hearsCritical isFunction
  rcases hs : r.session with ⟨h, f⟩ | _ | _ | _ | _ <;> simp [and_assoc]

/-- A request of a plain row is run at once. -/
theorem row_heard (o : DictOp) (hp : s.hearsPlain r = true) (hlen : o.len ≤ 1376) :
    s.row r o = .next (State.runJob 33 s (rowJob s r o)) := by
  obtain ⟨h1, h2, h4, h5, h, f, hh, hf, hs⟩ := hearsPlain_iff.mp hp
  have hl : ¬ 1400 < (requestRecord false o).length := by rw [requestRecord_length]; omega
  simp [State.row, hs, Nat.not_le.mpr hh, Nat.not_le.mpr hf, running, h1, h2, State.rowBlock, hl, State.request, rowJob, State.sessionOf, h4, h5,
    State.authentic, State.runRequest, State.answerSlot]

/-- A block of one operation that is no copy of a live bank and no SESSION_RESET ends with the outcome of that operation. -/
theorem runJob_one (n : Nat) (s : State) (j : Job) (o : DictOp) (ho : j.ops = [o]) (hd : j.done = []) (hc : copyFamilyOf o.addr = none)
    (hr : ¬(o.addr.index = 0x1011 ∧ o.addr.sub = 3)) :
    State.runJob (n + 2) s j = (s.doOp j o).2.finishJob { j with ops := [], done := [(o, (s.doOp j o).1)] } .ok := by
  have hcp : s.copying? j o = none := by
    unfold State.copying?
    rw [hc]
    split
    · simp_all
    · rfl
  have hr' : ¬(o.op = 2 ∧ o.addr.index = 0x1011 ∧ o.addr.sub = 3 ∧ (s.doOp j o).1.status = .ok) := fun x => hr ⟨x.2.1, x.2.2.1⟩
  conv => lhs; unfold State.runJob
  simp only [ho, hcp, hr', if_false, hd, List.nil_append]
  conv => lhs; unfold State.runJob

/-- A plain row whose operation is no copy of a live bank and no SESSION_RESET answers with its outcome. -/
theorem row_plain (o : DictOp) (hp : s.hearsPlain r = true) (hlen : o.len ≤ 1376) (hc : copyFamilyOf o.addr = none)
    (hr : ¬(o.addr.index = 0x1011 ∧ o.addr.sub = 3)) (x : OpResult) (t : State)
    (hx : s.doOp (rowJob s r o) o = (x, t)) :
    s.row r o = .next (t.emit (.response (s.sessionOf r.session) r.tag x.status x.type x.epoch x.len x.value)) := by
  rw [row_heard o hp hlen, runJob_one 31 s _ o rfl rfl hc hr, hx]
  obtain ⟨h1, h2, h4, h5, h, f, hh, hf, hs⟩ := hearsPlain_iff.mp hp
  simp [State.finishJob, State.keepLast, State.sendReply, rowJob, hs, State.sessionOf]

/-- The object that a WRITE addresses, its class and its checks 8 to 11 for a plain request. -/
theorem doOp_plain (o : DictOp) (hp : s.hearsPlain r = true) (ob : Obj) (h2 : o.op = 2) (hsm : s.smoulder = false ∨ smoulderServes false o = true)
    (hob : s.object? (s.sessionOf r.session) o.addr = some ob)
    (hcrit : ob.critical = false) (hacc : ob.accessAt o.addr = .rw ∨ ob.accessAt o.addr = .wo) (hk : ¬(o.addr.index = 0x1100 ∧ o.addr.sub = 3))
    (hl : o.len = ob.type.size) (hv : o.value < 256 ^ ob.type.size) (ht : ob.type.allows o.value = true) (hpm : ob.permit.allows ob.type o.value = true) :
    s.doOp (rowJob s r o) o =
      (s.writeObject (s.plainCtx r o)).result (s.sessionOf r.session) ob.type.code 0 := by
  obtain ⟨h1, hu, h4, h5, h, f, hh, hf, hs⟩ := hearsPlain_iff.mp hp
  have hca : s.checkOp (rowJob s r o) ob o = .ok := by
    have : s.checkAccess (rowJob s r o) ob o = .ok := by
      rcases hacc with hacc | hacc <;> simp [State.checkAccess, rowJob, hs, State.sessionOf, h2, hacc, hcrit, hk]
    have hcr : (rowJob s r o).critical = false := h5
    rcases hsm with hsm | hsm <;> simp [State.checkOp, this, h2, hl, Nat.not_le.mpr hv, ht, hpm, hsm, hcr]
  have hj : (rowJob s r o).session = s.sessionOf r.session := rfl
  unfold State.doOp
  rw [hj, hob]
  dsimp only
  rw [hca]
  simp [h2]
  rfl

/-- A plain row that writes an object answers with the outcome of that write. -/
theorem row_write (a : Address) (v : Nat) (ob : Obj) (hp : s.hearsPlain r = true) (hsm : s.smoulder = false ∨ smoulderServes false (writeOp a v) = true)
    (hd : definedAt a = some ob) (hob : s.object? (s.sessionOf r.session) a = some ob) (hcrit : ob.critical = false)
    (hacc : ob.accessAt a = .rw ∨ ob.accessAt a = .wo) (hk : ¬(a.index = 0x1100 ∧ a.sub = 3)) (hr : ¬(a.index = 0x1011 ∧ a.sub = 3))
    (hc : copyFamilyOf a = none) (hl : ob.type.size ≤ 1376) (hv : v < 256 ^ ob.type.size) (ht : ob.type.allows v = true)
    (hpm : ob.permit.allows ob.type v = true) :
    s.row r (writeOp a v) =
      .next ((((s.writeObject (s.plainCtx r (writeOp a v))).result (s.sessionOf r.session) ob.type.code 0).2).emit
        (.response (s.sessionOf r.session) r.tag ((s.writeObject (s.plainCtx r (writeOp a v))).result (s.sessionOf r.session) ob.type.code 0).1.status
          ((s.writeObject (s.plainCtx r (writeOp a v))).result (s.sessionOf r.session) ob.type.code 0).1.type
          ((s.writeObject (s.plainCtx r (writeOp a v))).result (s.sessionOf r.session) ob.type.code 0).1.epoch
          ((s.writeObject (s.plainCtx r (writeOp a v))).result (s.sessionOf r.session) ob.type.code 0).1.len
          ((s.writeObject (s.plainCtx r (writeOp a v))).result (s.sessionOf r.session) ob.type.code 0).1.value)) := by
  have hlen : (writeOp a v).len = ob.type.size := by simp [writeOp, hd]
  exact row_plain (writeOp a v) hp (by omega) hc hr _ _ (by rw [doOp_plain (writeOp a v) hp ob rfl hsm hob hcrit hacc hk hlen hv ht hpm])

/-- A plain row whose write succeeds. -/
theorem row_good (a : Address) (v : Nat) (ob : Obj) (u : State) (hp : s.hearsPlain r = true)
    (hsm : s.smoulder = false ∨ smoulderServes false (writeOp a v) = true)
    (hd : definedAt a = some ob) (hob : s.object? (s.sessionOf r.session) a = some ob) (hcrit : ob.critical = false)
    (hacc : ob.accessAt a = .rw ∨ ob.accessAt a = .wo) (hk : ¬(a.index = 0x1100 ∧ a.sub = 3)) (hr : ¬(a.index = 0x1011 ∧ a.sub = 3))
    (hc : copyFamilyOf a = none) (hl : ob.type.size ≤ 1376) (hv : v < 256 ^ ob.type.size) (ht : ob.type.allows v = true)
    (hpm : ob.permit.allows ob.type v = true) (st : Status) (hst : st ≠ .resourceBusy) (rec : Nat)
    (hw : s.writeObject (s.plainCtx r (writeOp a v)) = { status := st, state := u, record := rec }) :
    s.row r (writeOp a v) = .next (u.answers s r st ob 0) := by
  rw [row_write a v ob hp hsm hd hob hcrit hacc hk hr hc hl hv ht hpm, hw]
  simp [WriteRes.result, hst, State.answers]

/-- A plain row whose unit another principal holds. -/
theorem row_busy (a : Address) (v : Nat) (ob : Obj) (hp : s.hearsPlain r = true)
    (hsm : s.smoulder = false ∨ smoulderServes false (writeOp a v) = true)
    (hd : definedAt a = some ob) (hob : s.object? (s.sessionOf r.session) a = some ob) (hcrit : ob.critical = false)
    (hacc : ob.accessAt a = .rw ∨ ob.accessAt a = .wo) (hk : ¬(a.index = 0x1100 ∧ a.sub = 3)) (hr : ¬(a.index = 0x1011 ∧ a.sub = 3))
    (hc : copyFamilyOf a = none) (hl : ob.type.size ≤ 1376) (hv : v < 256 ^ ob.type.size) (ht : ob.type.allows v = true)
    (hpm : ob.permit.allows ob.type v = true) (hw : s.writeObject (s.plainCtx r (writeOp a v)) = WriteRes.busy s (addrKey a)) :
    s.row r (writeOp a v) = .next (s.answersBusy r a ob) := by
  rw [row_write a v ob hp hsm hd hob hcrit hacc hk hr hc hl hv ht hpm, hw]
  simp [WriteRes.result, WriteRes.busy, State.answersBusy]

/-! Objects by the class of their instance. -/

theorem defined_package (idx sub : Nat) (ob : Obj) (h : objectAt .package idx sub = some ob) (hi : idx < 0xA200 ∨ 0xA300 ≤ idx) :
    definedAt ⟨0, idx, sub⟩ = some ob := by
  have hc : instClassOf ⟨0, idx, sub⟩ = .package := by
    unfold instClassOf
    dsimp only
    rw [if_neg (by omega)]; rfl
  simp [definedAt, hc, h]

theorem object_package (x : Session) (idx sub : Nat) (ob : Obj) (h : objectAt .package idx sub = some ob)
    (hi : idx < 0xA200 ∨ 0xA300 ≤ idx) (hi2 : idx < 65536) (hs : sub < 256) (hm : s.memberAbsent ⟨0, idx, sub⟩ = false) :
    s.object? x ⟨0, idx, sub⟩ = some ob := by
  have hd := defined_package idx sub ob h hi
  unfold definedAt at hd
  unfold State.object?
  rw [if_neg (by simp; omega)]
  simp only at hd ⊢
  simp only [hd]
  simp [State.instPresent, InstKind.ofInst, hm]

theorem class_die (d : Nat) (hd : d < 8) : InstKind.ofInst (dieInst d) = .die := by
  have e : dieInst d % 65536 = 256 + d := by unfold dieInst; omega
  unfold InstKind.ofInst
  simp only [e]
  rw [if_neg (by omega), if_pos (by omega)]

theorem defined_die (d idx sub : Nat) (ob : Obj) (h : objectAt .die idx sub = some ob) (hd : d < 8) (hi : idx < 0xA200 ∨ 0xA300 ≤ idx) :
    definedAt ⟨dieInst d, idx, sub⟩ = some ob := by
  have hc : instClassOf ⟨dieInst d, idx, sub⟩ = .die := by
    unfold instClassOf
    dsimp only
    rw [if_neg (by omega)]; exact class_die d hd
  simp [definedAt, hc, h]

theorem object_die (x : Session) (d idx sub : Nat) (ob : Obj) (h : objectAt .die idx sub = some ob) (hd : d < 8) (hp : s.hasDie d = true)
    (hi : idx < 0xA200 ∨ 0xA300 ≤ idx) (hi2 : idx < 65536) (hs : sub < 256) (hm : s.memberAbsent ⟨dieInst d, idx, sub⟩ = false)
    (hh : ob.inst ≠ .hostDie) : s.object? x ⟨dieInst d, idx, sub⟩ = some ob := by
  have hdf := defined_die d idx sub ob h hd hi
  unfold definedAt at hdf
  unfold State.object?
  rw [if_neg (by simp [dieInst]; omega)]
  simp only at hdf ⊢
  simp only [hdf]
  have : dieInst d - 256 = d := by unfold dieInst; omega
  simp [State.instPresent, class_die d hd, hm, this, hp, hh]

theorem class_port (n : Nat) (hn : n < 512) : InstKind.ofInst (portInst n) = .lanePort := by
  have e : portInst n % 65536 = 4096 + n := by unfold portInst; omega
  unfold InstKind.ofInst
  simp only [e]
  rw [if_neg (by omega), if_neg (by omega), if_pos (by omega)]

theorem defined_port (n idx sub : Nat) (ob : Obj) (h : objectAt .lanePort idx sub = some ob) (hn : n < 512) (hi : idx < 0xA200 ∨ 0xA300 ≤ idx) :
    definedAt ⟨portInst n, idx, sub⟩ = some ob := by
  have hc : instClassOf ⟨portInst n, idx, sub⟩ = .lanePort := by
    unfold instClassOf
    dsimp only
    rw [if_neg (by omega)]; exact class_port n hn
  simp [definedAt, hc, h]

theorem object_port (x : Session) (n idx sub : Nat) (ob : Obj) (h : objectAt .lanePort idx sub = some ob) (hn : n < 512) (hp : s.hasDie (n / 64) = true)
    (hi : idx < 0xA200 ∨ 0xA300 ≤ idx) (hi2 : idx < 65536) (hs : sub < 256) (hm : s.memberAbsent ⟨portInst n, idx, sub⟩ = false)
    (hh : ob.inst ≠ .octet ∨ n % 8 = 0) : s.object? x ⟨portInst n, idx, sub⟩ = some ob := by
  have hdf := defined_port n idx sub ob h hn hi
  unfold definedAt at hdf
  unfold State.object?
  rw [if_neg (by simp [portInst]; omega)]
  simp only at hdf ⊢
  simp only [hdf]
  have h1 : portInst n - 4096 = n := by unfold portInst; omega
  have h2 : portInst n % 8 = n % 8 := by unfold portInst; omega
  rcases hh with hh | hh <;> simp [State.instPresent, class_port n hn, hm, h1, h2, hp, hh]

/-! Critical requests. -/

/-- An authentic request in a slot is of a slot that is SET. -/
theorem authentic_set (pcie critical : Bool) (k : Nat) (m c : List Byte) (hk : k < 8) (h : s.authentic pcie critical k m c = true) : s.slotState k = 1 := by
  have : k ≠ 255 := by omega
  simp [State.authentic, this] at h
  exact h.1.2

/-- A critical request that finds nothing ahead of it is executed at once and accepted with its outcome. -/
theorem row_critical (o : DictOp) (k : Nat) (hp : s.hearsCritical r o k = true) (hlen : o.len ≤ 1376) (x : OpResult) (t : State)
    (hx : (s.judging r o k).doOp (critJobOf s r o k) o = (x, t)) :
    s.row r o = .next (({ t with dict := { t.dict with critQueue := [{ job := critJobOf s r o k, result := some x, mute := false }] } }).later 1900000
      .nvsCommit) := by
  obtain ⟨h1, hu, h4, hk, h5, ⟨h, f, hh, hf, hs⟩, ha, hc, hq, hopen, -⟩ := (hearsCritical_iff o k).mp hp
  have hl : ¬ 1400 < (requestRecord false o).length := by rw [requestRecord_length]; omega
  have hset := authentic_set true true k _ _ hk ha
  have hslot : (rowJob s r o).slot = k := by simp [rowJob, h4]
  have hans : s.answerSlot k = k := by simp [State.answerSlot, hk, hset]
  have hcrit : (rowJob s r o).critical = true := h5
  have hsess : (rowJob s r o).session = .pcie (s.fnOf h f / 4) (s.fnOf h f % 4) := by simp [rowJob, hs, State.sessionOf]
  have hreq : s.request (rowJob s r o) (rowHeader false r (requestRecord false o).length ++ requestRecord false o) (beBytes 16 r.check) =
      s.addCritical (critJobOf s r o k) := by
    unfold State.request
    simp only [hsess, hslot, hcrit, hans, ha, hk, if_true]
    simp [critJobOf, hsess, hcrit]
  have hj : s.judgeCounter (critJobOf s r o k) = none := by
    have hc' : s.counterLast k < (rowJob s r o).counter := hc
    simp [State.judgeCounter, critJobOf, hc']
  have hrow : s.row r o = .next (s.addCritical (critJobOf s r o k)) := by
    simp [State.row, hs, Nat.not_le.mpr hh, Nat.not_le.mpr hf, running, h1, hu, State.rowBlock, hl, hreq]
  rw [hrow]
  have hj2 : ({ s with dict := { s.dict with critQueue := [{ job := critJobOf s r o k, result := none, mute := false }] } } : State).judgeCounter
      (critJobOf s r o k) = none := hj
  have ho2 : ({ s with dict := { s.dict with critQueue := [{ job := critJobOf s r o k, result := none, mute := false }] } } : State).criticalOpen = true :=
    hopen
  have hops : (critJobOf s r o k).ops = [o] := rfl
  unfold State.addCritical
  rw [hj]
  simp only [hq, hopen, List.length_nil, List.nil_append]
  rw [State.serveCritical]
  simp only [hj2, ho2, hops, List.headD_cons]
  have hx' : (({ s with dict := { s.dict with critQueue := [{ job := critJobOf s r o k, result := none, mute := false }] } } : State).bump Od.critWrites).doOp
      (critJobOf s r o k) o = (x, t) := hx
  simp [hx']

/-- The object that a critical WRITE addresses, its class and its checks 8 to 11. -/
theorem doOp_critical (o : DictOp) (k : Nat) (hp : s.hearsCritical r o k = true) (ob : Obj) (h2 : o.op = 2)
    (hob : (s.judging r o k).object? (s.sessionOf r.session) o.addr = some ob) (hsm : (s.judging r o k).smoulder = false)
    (hri : (s.judging r o k).hasRight k o.addr.index = true)
    (hacc : ob.accessAt o.addr = .rw ∨ ob.accessAt o.addr = .wo) (hk : ¬(o.addr.index = 0x1100 ∧ o.addr.sub = 3))
    (h1 : slot1Only o.addr = false ∨ k = 1)
    (hl : o.len = ob.type.size) (hv : o.value < 256 ^ ob.type.size) (ht : ob.type.allows o.value = true) (hpm : ob.permit.allows ob.type o.value = true) :
    (s.judging r o k).doOp (critJobOf s r o k) o =
      ((s.judging r o k).writeObject (s.critCtx r o k)).result (s.sessionOf r.session) ob.type.code 0 := by
  obtain ⟨-, hu, h4, hk8, h5, ⟨h, f, hh, hf, hs⟩, ha, hc, hq, hopen, -⟩ := (hearsCritical_iff o k).mp hp
  have hca : (s.judging r o k).checkOp (critJobOf s r o k) ob o = .ok := by
    have : (s.judging r o k).checkAccess (critJobOf s r o k) ob o = .ok := by
      rcases h1 with h1 | h1 <;> rcases hacc with hacc | hacc <;>
        simp [State.checkAccess, critJobOf, rowJob, hs, State.sessionOf, h2, hacc, hk, h5, hri, h1, byKeeper] <;> simp_all
    simp [State.checkOp, this, h2, hl, Nat.not_le.mpr hv, ht, hpm, hsm]
  have hj : (critJobOf s r o k).session = s.sessionOf r.session := rfl
  unfold State.doOp
  rw [hj, hob]
  dsimp only
  rw [hca]
  simp [h2]
  rfl

end Sys2Proof.Machine
end

