-- ==== Sys2Proof/WellFormed.lean ====
section
/-! DEFINITION. Which commands are well formed: every operand within the width or range that the spec gives it. -/

namespace Sys2Proof

/-- The number fits `w` bits. -/
def fits (w n : Nat) : Bool := decide (n < 2 ^ w)

/-- The number is below a count of units. -/
def below (k n : Nat) : Bool := decide (n < k)

/-- A pipeline number, die * 16 + pipeline, where pipeline 8 is the spare (R8). -/
def pipeWf (p : Nat) : Bool := below 128 p && below 9 (p % 16)

/-- A value of `len` octets: at most what the records of a block hold (R331). -/
def valueWf (len v : Nat) : Bool := below 1401 len && fits (8 * len) v

/-- A session (R3, R331, R335). -/
def Session.wf : Session → Bool
  | .pcie h f => below 2 h && below 4 f
  | .kdp number nonce => fits 32 number && fits 32 nonce
  | .keeper feature => fits 16 feature
  | .smbus | .jtag => true

/-- A request's header (R331, R338). -/
def Req.wf (r : Req) : Bool :=
  r.session.wf && r.keySlot.all (below 8) && fits 128 r.check && fits 64 r.counter && fits 32 r.tag

/-- A dictionary address (R8). -/
def Address.wf (a : Address) : Bool := fits 16 a.inst && fits 16 a.index && fits 8 a.sub

/-- An error report: a die, a source, one of the four classes, a location and two details of 32 bits (R399). -/
def FaultError.wf (e : FaultError) : Bool :=
  below 8 e.die && fits 8 e.source && below 4 e.cls && fits 32 e.location && fits 32 e.detail0 && fits 32 e.detail1

/-- What is found of an image: 544 octets of header and a digest of 384 bits (R476, R478). -/
def ImageFacts.wf (x : ImageFacts) : Bool := decide (x.header.length = 544) && fits 384 x.digest

/-- The operands of a command are within their ranges. -/
def Instr.wf (i : Instr) : Bool :=
  match i with
  | .bootAttempt facts => facts.wf
  | .perstN h | .ppsInEdge h => below 2 h
  | .functionLevelReset h f | .pcieFailover h f _ _ | .pciePowerStateChange h f _ _ _ _ => below 2 h && below 4 f
  | .ptpMessageRx n _ | .linkRetrainStart n | .trainingFrameRx n _ _ _ | .l400TrainStepTimeout n | .l400NoPartner n
  | .alignmentBlockRx n _ | .linkUp n | .linkDown n | .portDrainEnd n _ | .spareSliceListen n _ | .rxChangeover n | .txChangeover n
  | .frameReceive n _ | .portFrameStart n | .transmitDone n | .gateEntryChange n | .gclSwapApply n | .bwWindowEnd n => below 512 n
  | .flightIdle d idle => below 8 d && fits 4 idle
  | .dieAckTimeout d | .asaSearchSlot d | .placeCreditRefill d | .spareTakeoverCheckDone d _ _ | .loopbackSlot d | .lateRemoval d
  | .cellAllocate d _ | .cellRelease d _ _ _ | .bpmSweep d | .spillWrite d | .spillRead d | .puntDeliver d | .fabricTimeExchange d
  | .scheduleMsg d _ | .tableScrub d _ | .asaScrub d _ | .aeCsScrub d _ | .counterScrub d _ | .sramRowRepair d _ _ _ | .kdpRequest d _
  | .openSession d _ | .closeSession d _ | .migrateDrainEnd d | .keeperCheckpoint d | .dieFence d _ | .wearSample d _ | .sampleDrain d
  | .thermalSample d _ | .throttleStep d | .throttleRelaxExpire d | .rowRewriteDone d _ _ | .sramSpareSwitch d _ _ => below 8 d
  | .laneRepairTrigger n trigger _ _ => below 512 n && fits 8 trigger
  | .pfcXoffRefresh n g => below 512 n && below 8 g
  | .rcSweep p | .aeExit p _ => pipeWf p
  | .aeDispatch p _ _ t => pipeWf p && below 36 t.thread && below 3 t.ecc
  | .endWord p _ t | .trapWord p _ t | .moveWord p _ t | .hvw p _ t | .ctxWrite p _ t | .ctxInit p _ t
  | .cntInc p _ t | .cntAdd p _ t | .metBlind p _ t | .metAware p _ t | .emitEncap p _ t | .emitDecap p _ t | .emitSetNexthop p _ t
  | .emitTtlDec p _ t | .replRecirc p _ t | .replMirror p _ t | .replDrop p _ t | .replPunt p _ t | .copyToHost p _ t | .perfMark p _ t
  | .perfSample p _ t | .threadRetire p _ t _ => pipeWf p && below 36 t
  | .contWord p _ t _ ecc | .jumpWord p _ t _ ecc | .branchWord p _ t _ ecc | .callWord p _ t _ ecc | .returnWord p _ t _ ecc
  | .dispatchWord p _ t _ ecc | .ctxRead p _ t ecc _ => pipeWf p && below 36 t && below 3 ecc
  | .aluNop p _ t u | .aluAdd p _ t u | .aluSub p _ t u | .aluAnd p _ t u | .aluOr p _ t u | .aluXor p _ t u | .aluShl p _ t u
  | .aluShr p _ t u | .aluSar p _ t u | .aluMin p _ t u | .aluMax p _ t u | .aluCmp p _ t u | .aluPass p _ t u | .aluExtract p _ t u
  | .aluAddoc p _ t u | .aluBswap p _ t u | .aluMul16 p _ t u | .aluCrc32c p _ t u => pipeWf p && below 36 t && below 2 u
  | .ctxLockGrant d context _ ecc _ => below 8 d && fits 16 context && below 3 ecc
  | .threadFault p _ t kind => pipeWf p && below 36 t && below 4 kind
  | .request d source v cells => below 8 d && below 8 source && fits 13 v && fits 16 cells
  | .arbiterGrant v => below 4160 v
  | .grant d v => below 8 d && fits 13 v
  | .standingRestore d n cells => below 8 d && below 512 n && fits 16 cells
  | .classWaitExpire d octet => below 8 d && below 9 octet
  | .cellFree d _ tag _ _ => below 8 d && fits 16 tag
  | .bitmapParityFail d bank _ | .bitmapRebuildDone d bank _ => below 8 d && below 16 bank
  | .poolAllocate pool asking => below 64 pool && below 256 asking
  | .hbmChannelRepair d channel _ | .hbmChannelCopyDone d channel => below 8 d && below 32 channel
  | .pfcFrameRx n opcode vector times => below 512 n && fits 16 opcode && fits 16 vector && times.all (fits 16)
  | .pfcPauseExpire n t | .pfcWatchdogExpire n t | .pfcStormEnd n t => below 512 n && below 8 t
  | .flowContextApply d context => below 8 d && fits 16 context
  | .trainingBlockRx d g _ | .fabricTrainTimeout d g | .superframeRx d g _ _ _ => below 8 d && below 8 g
  | .fabricCellSend d dst v => below 8 d && below 8 dst && fits 13 v
  | .reseqTimeout d src v => below 8 d && below 8 src && below 8192 v
  | .fabricLaneTrigger d g lane cause => below 8 d && below 8 g && below 40 lane && below 3 cause
  | .laneCmdMirror d g spare lane | .laneCmdReady d g spare lane | .laneCmdSwitch d g spare lane | .laneCmdRelease d g spare lane =>
    below 8 d && below 8 g && below 4 spare && below 40 lane
  | .timeStampRx d g value _ | .timeEchoRx d g value => below 8 d && below 8 g && fits 96 value
  | .fabricTableWrite d seq | .tableAck d seq _ => below 8 d && fits 32 seq
  | .learn bd mac lport _ port => fits 16 bd && fits 48 mac && fits 16 lport && below 512 port
  | .keeperMsg d toDie => below 8 d && below 8 toDie
  | .ecmpRebalance group _ others => below 16384 group && others.all fun g => below 16384 g.1
  | .asaBankSpareSwitch d array bank => below 8 d && below 5 array && below 9 bank
  | .tableWrite h f w desc | .tableDelete h f w desc | .tableRead h f w desc | .contDescriptor h f w desc | .nopDescriptor h f w desc
  | .dictDescriptor h f w desc _ | .scheduleDescriptor h f w desc | .injectDescriptor h f w desc _ _ | .bufferFree h f w desc
  | .bufferRefAdd h f w desc => below 2 h && below 4 f && below 1024 w && desc.all (fits 512)
  | .wqDoorbell h f w value => below 2 h && below 4 f && below 1024 w && fits 32 value
  | .wqPush h f w offset _ => below 2 h && below 4 f && below 1024 w && below 256 offset
  | .cqDoorbell h f c value => below 2 h && below 4 f && below 1024 c && fits 32 value
  | .wqDrainEnd h f w => below 2 h && below 4 f && below 1024 w
  | .mbxDoorbell h f v _ => below 2 h && below 4 f && fits 32 v
  | .kdpSessionIdleExpire n => below 33 n && !below 1 n
  | .smbusSelect o => o.wf
  | .eventFire d source => below 8 d && fits 12 source
  | .evcCoreClaim d core | .keeperCoreFault d core _ => below 8 d && below 5 core
  | .evcCoreEoi d core code => below 8 d && below 5 core && fits 12 code
  | .evcVecEoi h f vector code => below 2 h && below 4 f && fits 8 vector && fits 12 code
  | .msixUnmask h f vector => below 2 h && below 4 f && fits 8 vector
  | .timerExpire d t => below 8 d && below 16 t
  | .faultRecordOpen e => e.wf
  | .faultRecordClose d source _ => below 8 d && fits 8 source
  | .spareTestStart cls d _ _ | .spareTestDone cls d _ _ _ | .spareRetest cls d _ _ => below 13 cls && below 8 d
  | .pllFault d pll _ => below 8 d && below 2 pll
  | .cwinValueRead h f w j => below 2 h && below 4 f && below 256 w && below 256 j
  | .junctionTrip d sensor _ => below 8 d && fits 8 sensor
  | .railWarning d rail => below 8 d && below 8 rail
  | .railFault rail | .railInTolerance rail => below 8 rail
  | .fwVerifyDone slot code _ svn _ => below 4 slot && fits 8 code && fits 32 svn
  | .jtagBypass tdi => below 2 tdi
  | .jtagProvisionKey rsvd key | .jtagProvisionSeal rsvd key => fits 8 rsvd && fits 256 key
  | .resetEngine bit => below 2 bit
  | .copyLiveDone f => fits 16 f
  | .engineReset r v | .todSet r v | .timeSource r v | .timeStepAccept r v | .schedCancel r v | .ppsOutFunction r v | .loopbackClaim r v
  | .sessionReset r v | .keySet r v | .keyClear r v | .keyProvision r v | .sealWrite r v | .tableCopyLive r _ v | .tableShadowSeed r _ v
  | .tableShadowTiles r _ v | .parserCopyLive r v | .placeCopyLive r v | .rewriteCopyLive r v | .aeCodeClear r _ v | .aeCodeBlock r _ v
  | .aeDispatchEntry r _ v | .aeCodeCopyLive r _ v | .evcEoi r v | .faultNRelease r v | .recoveryCancel r v | .recoveryClearShadows r v
  | .throttleStepLimit r v | .powerRequest r v | .powerWake r v | .fwFlashBlock r v | .fwVerify r v | .fwSvnCommit r v => r.wf && valueWf 1400 v
  | .octetRateGroup r n v => r.wf && below 64 n && valueWf 1400 v
  | .portMode r n v | .portEnable r n v | .linkRetrainAuto r n v => r.wf && below 512 n && valueWf 1400 v
  | .spareChangeover r n v epoch | .spareRelease r n v epoch | .gclSwap r n v epoch => r.wf && below 512 n && valueWf 1400 v && fits 32 epoch
  | .poolEnable r pool v => r.wf && below 64 pool && valueWf 1400 v
  | .wqEnable r w v => r.wf && below 1024 w && valueWf 1400 v
  | .cqEnable r c v => r.wf && below 1024 c && valueWf 1400 v
  | .readObj r o | .readPending r o => r.wf && o.wf
  | .writeObj r o len v => r.wf && o.wf && valueWf len v
  | .writeEpoch r o len v epoch => r.wf && o.wf && valueWf len v && fits 32 epoch
  | .tableSwap r _ v epoch | .ecmpSwap r v epoch | .parserSwap r v epoch | .placeSwap r v epoch | .rewriteSwap r v epoch
  | .aeCodeSwap r _ v epoch => r.wf && valueWf 1400 v && fits 32 epoch
  | .asaSetSwap r set v epoch | .asaSetCommit r set v epoch => r.wf && below 12 set && valueWf 1400 v && fits 32 epoch
  | .evcClaim r => r.wf
  | .evcSource r d source v => r.wf && below 8 d && fits 12 source && valueWf 1400 v
  | .timerClaim r d t v | .timerArm r d t v => r.wf && below 8 d && below 16 t && valueWf 1400 v
  | .sparePipelineClaim r d v | .throttleStepSet r d v => r.wf && below 8 d && valueWf 1400 v
  | .pipelineMigrate r d octet epoch => r.wf && below 8 d && below 8 octet && fits 32 epoch
  | .fwActivateNextReset r slot | .fwActivateKeeperNow r slot => r.wf && below 4 slot
  | .resetN _ | .hostReady _ | .timeOffsetMeasure _ | .parse _ | .frameEnd _ _ | .ingressLookups _ | .placementLookup _
  | .placeReadReturn _ | .exitCheck _ _ _ | .tmEnqueue _ | .dieCopyArrival _ | .egressEntry _ | .rewriteCopy _ | .loopbackInject _ _
  | .poolWaitExpire _ | .spillWriteDone _ | .spillReadDone _ _ _ | .punt _ | .smbusWrite _ | .timeMasterFail _ | .wearForecast _
  | .wakeN _ | .bankedWake _ | .samplePreload _ | .extest _ | .extestPulse _ | .extestTrain _ | .powerOn | .kindlingStart | .bootClaim
  | .bootYield | .bootClaimTimeout | .forwardingReady | .engineResetDelayEnd | .ppsInMissed | .ptpAnnounceTimeout | .timeStep
  | .epochHoldEnd | .epochBoundary | .ppsOutPulse | .threshAdjust | .meterApply | .learnApply | .macAgeVisit | .nvsCommit | .smbusRead
  | .smbusLastStatus | .lampRefresh | .lampRefreshLapse | .keeperTakeover | .powerEntryStep | .smoulderWake | .keeperNowRestartDone
  | .idcode | .freqSourceLost => true

end Sys2Proof
end

