-- ==== Sys2Proof/Tests/Slice0.lean ====
section
/-! SUPPORT. The model's own tests: a witness for every clause of every statement, the worked examples of the spec, and ill-formed commands. Each
test_witness_<name> says, clause by clause and in the clauses' order, that a concrete state and operands meet every hypothesis of the
clause together. -/

namespace Sys2Proof.Tests

set_option Elab.async false

open Sys2Proof.Machine

def up : State := State.reset.wr Od.bootStage 3
def ask : Req := { session := .pcie 0 0, keySlot := none, check := 0, counter := 0, critical := false, tag := 7 }
def keyed (s : State) : State :=
  { s with dict := { s.dict with live := { s.dict.live with keys := [(1, { key := 5, state := 1 })] } } }
def sign (s : State) (o : DictOp) : Req :=
  let r : Req := { session := .pcie 0 0, keySlot := some 1, check := 0, counter := 9, critical := true, tag := 7 }
  { r with check := beNat ((hmacSha256 (beBytes 32 (low 256 (s.slotKey 1))) (rowHeader false r (requestRecord false o).length ++ requestRecord false o)).take 16) }
def hearable (s : State) (o : DictOp) : Bool :=
  !s.stopped && s.hostUp && s.slotState 1 = 1 && decide (s.counterLast 1 < 9) && s.dict.critQueue = [] && s.criticalOpen && s.hasRight 1 o.addr.index
def withQ (s : State) (q : List Instr) : State := { s with pending := q }
def fcs (l : List Byte) : List Byte := l ++ leBytes 4 (crc32Eth l)
def fr : List Byte := fcs (List.replicate 12 1 ++ [8#8, 0#8] ++ List.replicate 46 3)
def ready : State := (((up.wr Od.portMode 9 (portInst 65)).wr Od.portState 2 (portInst 65)).setReserved 1 0 40)
def pkt : Packet :=
  { stage := .received, port := 65, pipe := 16, frame := fr, ended := true, bad := false, hv := ready.freshHv 65 64, hv0 := ready.freshHv 65 64, born := 0, lport := 65, bd := 0,
    limit := 0, tcEarly := 0, place := .none, searched := true, matchIds := [], head := 0, tag := 1, pg := 0, restarts := 0, replays := 0, meters := [], lock := none,
    log := [], ctxNew := none, picked := false, record := 0, marked := none, avoid := none, charged := true, flying := true, mirror := none, since := 0, owns := false,
    origin := 0, cut := false, atEgress := false }
def at_ (s : State) (st : PStage) : State := s.setPacket 1 { pkt with stage := st }
/-- A copy for port 65, on die 1. -/
def cpy : Copy :=
  { Copy.of { pkt with stage := .left, hv := putFields 0 [(799, 791, 65)] } (putFields 0 [(799, 791, 65)]) 0 1 1 with cells := 1, kind := 3, id := 5, last := true }
def at1 (s : State) (c : Copy) : State := { s with tm := { s.tm with copies := [(1, c)] } }

/-! A signed critical request is heard: the witnesses check `hearable`, which says the same of everything but the 128-bit check, and this says the rest. -/

theorem beNat_snoc (l : List Byte) (b : Byte) : beNat (l ++ [b]) = beNat l * 256 + b.toNat := by simp [beNat]

theorem beBytes_snoc (n v : Nat) : beBytes (n + 1) v = beBytes n (v / 256) ++ [BitVec.ofNat 8 v] := by
  induction n with
  | zero => simp [beBytes]
  | succ n ih =>
    rw [beBytes, ih, beBytes, List.cons_append, Nat.div_div_eq_div_mul, Nat.pow_succ, Nat.mul_comm 256]

theorem beBytes_beNat : ∀ (n : Nat) (l : List Byte), l.length = n → beBytes n (beNat l) = l := by
  intro n
  induction n with
  | zero => intro l h; rw [List.length_eq_zero_iff.mp h]; rfl
  | succ n ih =>
    intro l h
    obtain ⟨a, b, rfl⟩ : ∃ a b, l = a ++ [b] := ⟨l.dropLast, l.getLast (by intro e; simp [e] at h), (List.dropLast_concat_getLast _).symm⟩
    rw [beNat_snoc, beBytes_snoc]
    have e : (beNat a * 256 + b.toNat) / 256 = beNat a := by have := b.isLt; omega
    have f : BitVec.ofNat 8 (beNat a * 256 + b.toNat) = b := by
      apply BitVec.eq_of_toNat_eq; have := b.isLt; simp; omega
    rw [e, f, ih a (by simpa using h)]

theorem shaRound_length (v : List Nat) (k : Nat) : (shaRound v k).length = v.length := by
  unfold shaRound; split <;> simp

theorem shaFold_length (l : List Nat) : ∀ v : List Nat, (l.foldl shaRound v).length = v.length := by
  induction l with
  | nil => intro v; rfl
  | cons a l ih => intro v; rw [List.foldl_cons, ih, shaRound_length]

theorem shaBlocks_length (n : Nat) : ∀ (h : List Nat) (m : List Byte), (shaBlocks n h m).length = h.length := by
  induction n with
  | zero => intros; rfl
  | succ n ih => intro h m; rw [shaBlocks, ih]; simp [shaBlock, shaFold_length]

theorem sha256_length (m : List Byte) : (sha256 m).length = 32 := by
  have h := shaBlocks_length ((shaPad m).length / 64) shaH (shaPad m)
  have g : ∀ l : List Nat, (l.flatMap (beBytes 4)).length = 4 * l.length := by
    intro l
    induction l with
    | nil => rfl
    | cons a l ih => rw [List.flatMap_cons, List.length_append, ih, beBytes_length, List.length_cons]; omega
  rw [sha256, g, h]
  rfl

/-- The request that `sign` makes of a hearable operation is heard. -/
theorem hearable_hears (s : State) (o : DictOp) (h : hearable s o = true) : s.hearsCritical (sign s o) o 1 = true := by
  simp only [hearable, Bool.and_eq_true, decide_eq_true_eq] at h
  obtain ⟨⟨⟨⟨⟨⟨h1, h2⟩, h3⟩, h4⟩, h5⟩, h6⟩, h7⟩ := h
  have hl : ∀ l : List Byte, (hmacSha256 (beBytes 32 (low 256 (s.slotKey 1))) l).length = 32 := fun l => sha256_length _
  simp only [State.hearsCritical, sign, Bool.and_eq_true, decide_eq_true_eq, h1, h2, h4, h5, h6, h7, isFunction, State.authentic, h3, rowHeader]
  rw [beBytes_beNat 16 _ (by simp [hl])]
  simp

def str (s : String) : List Byte := s.toList.map fun c => BitVec.ofNat 8 c.toNat
def ipHead (tot proto : Nat) : List Byte := [0x45, 0] ++ beBytes 2 tot ++ [0, 0, 0, 0, 64, BitVec.ofNat 8 proto, 0, 0, 10, 0, 0, 1, 10, 0, 0, 2]
def udpHead (dst len : Nat) : List Byte := beBytes 2 49152 ++ beBytes 2 dst ++ beBytes 2 len ++ [0, 0]
def ether : List Byte := List.replicate 12 2 ++ [8, 0]
def payload : List Byte := str "GET 1" ++ [10] ++ str "key:b17/vx/000912" ++ [10] ++ str "ver:3" ++ [10]
def request : List Byte :=
  fcs (ether ++ ipHead 108 17 ++ udpHead 4789 88 ++ [8, 0, 0, 0, 0, 9, 0x13, 0] ++ ether ++ ipHead 58 17 ++ udpHead 47200 38 ++ payload)
def pattern (id len anchor hi : Nat) (v : List Byte) : Nat :=
  2 ^ 319 + id * 2 ^ 303 + len * 2 ^ 298 + anchor * 2 ^ 296 + hi * 2 ^ 280 + beNat (v ++ List.replicate 12 0) * 2 ^ 128 + beNat (List.replicate 4 255 ++ List.replicate 12 0)
def graph : State :=
  let s0 := (List.range 5).foldl (fun s i => s.setTbl 0 0x31 (55 + i) (s.tbl 0 0x31 (46 + i))) ready
  let s1 := s0.setTbl 0 0x31 60 0x0000B8600000FFFFFF414000
  let s2 := s1.setTbl 0 0x30 8 (putFields (s1.tbl 0 0x30 8) [(27, 16, 55), (15, 9, 6)])
  let s3 := (s2.setTbl 0 0x34 100 (pattern 0x201 4 2 32 (str "key:"))).setTbl 0 0x34 101 (pattern 0x202 4 0 0 (str "ver:"))
  let b := bankInst 0
  ((((s3.wr Od.patternSetBase 100 b 2).wr Od.patternSetCount 2 b 2).wr Od.profilePsaMax 64 b 0).wr Od.profilePatternSet 2 b 0).wr Od.keyProfileRecord 0x6020100801403800 b 5
def received : State := graph.setPacket 1 { pkt with frame := request, hv := ready.freshHv 65 126, hv0 := ready.freshHv 65 126 }


/-! Object placement: the PUT of "Object placement". -/
def bucket : Nat := 0x6000000000000054 * 2 ^ 448 + 0xC710400000001440 * 2 ^ 384 + 0xC718000000001480 * 2 ^ 320 + 0xC71E0000000014C0 * 2 ^ 256
theorem test_place_hash : placeHash 2 (beBytes 8 1) = 0xC711223CFA3E5BB5 := by decide +kernel
theorem test_place_ring : ringLookup bucket 0xC711223CFA = 82 := by decide +kernel
/-! Rewriting: tenant 0x0913 into VXLAN. -/
def tenantTemplate : List Byte :=
  [0x45, 0, 0, 0, 0, 0, 0x40, 0, 0x40, 0x11, 0, 0, 10, 0, 0, 1, 10, 0, 0, 2, 0, 0, 0x12, 0xB5, 0, 0, 0, 0, 8, 0, 0, 0, 1, 9, 0x13, 0]
def tenantEncap : Nat :=
  0xC0240800 * 2 ^ 992 + 0x10400000 * 2 ^ 960 + 0x13050000 * 2 ^ 928 + 0x32800000 * 2 ^ 896 + 0x21400000 * 2 ^ 864 + beNat (tenantTemplate ++ List.replicate 60 0)
def tenantJob : RewriteJob :=
  { body := List.replicate 12 2 ++ [8, 0, 0x45] ++ List.replicate 81 7, hv := putFields 0 [(1855, 1842, 96), (699, 668, 0x5A3C71D2)], entries := [(3, 5000), (1, 12)],
    hop := some 0, router := 0x02005E000001, vid := 0, encap := fun n => if n = 12 then some tenantEncap else none }
theorem test_rewrite_vxlan : (match tenantJob.run with
    | .made out cut => out.length = 146 && cut = 0 && slice out 16 2 = [0x00, 0x84] && slice out 24 2 = [0x26, 0x67] && slice out 34 2 = [0xF1, 0xD2]
        && slice out 38 2 = [0x00, 0x70] && slice out 42 8 = [8, 0, 0, 0, 1, 9, 0x13, 0] && out.drop 50 = tenantJob.body
    | _ => false) = true := by decide +kernel
/-! The object dictionary: the operation record of the swap of rule set 1. -/
theorem test_swap_record : requestRecord true (epochOp (Obj.at_ Od.asaSetSwap 0 1) 1 0x02719C5E) =
    [3, 0, 0, 1, 0, 0, 0x38, 1, 5, 0, 0, 0, 2, 0x71, 0x9C, 0x5E, 1, 0, 0, 0, 0, 0, 0, 0] := by decide +kernel
/-! Rings: the doorbell of TABLE WQ 5, and one past what its ring holds. -/
def ring5 : State := ((((up.wr Od.wqState 1 (wqInst 0 5)).wr Od.wqSize 64 (wqInst 0 5)).wr Od.wqPi 120 (wqInst 0 5)).wr Od.wqCi 120 (wqInst 0 5))
theorem test_wq_doorbell : (match execWqDoorbell 0 0 5 12 ring5 with | .next t => t.rd Od.wqPi (wqInst 0 5) = 12 | _ => false) = true := by decide +kernel
theorem test_wq_doorbell_far : (match execWqDoorbell 0 0 5 57 ring5 with
    | .next t => t.rd Od.wqPi (wqInst 0 5) = 120 && t.rd Od.wqDoorbellErrors (wqInst 0 5) = 1
    | _ => false) = true := by decide +kernel
/-! The throttle of die 4: 90.4 deepens at once, and 88.5 after it does not relax. -/

/-! Action engines: word 0x3100 of the tenant meter routine, and its two shifts of HV words 11 and 12. -/
def word3100 : Nat := 0x0000000D0B440F0C4C7F0000000000000000000000000000
def hvWords : Nat := 0x00000109 * 2 ^ (6112 - 32 * 11) + 0x13000200 * 2 ^ (6112 - 32 * 12)
def routine : Thread := Thread.atDispatch 1 0 0x3100 0x68 0xC4 0 hvWords
theorem test_word_fields : wAlu word3100 0 = (6, 0x10B, 0x88) ∧ wAlu word3100 1 = (7, 0x10C, 0x98) ∧ wMoveDst word3100 = 0x7F ∧ wSeq word3100 = 0 := by decide +kernel
theorem test_word_alu : routine.operand word3100 0x10B * 2 ^ routine.operand word3100 0x88 = 0x00010900 ∧
    routine.operand word3100 0x10C / 2 ^ routine.operand word3100 0x98 = 0x13 := by decide +kernel
/-! Forwarding tables: FROM of an insert in epoch 1,000,060 is the low octet of E + 4. -/
theorem test_mac_from : bits (macRecord true (1000060 + 4) 300 0x02005E100007 40 0xFFF) 123 116 = 0x80 := by decide +kernel
/-! Events: priorities 0x52, 0x21 and 0x30 under EVC_PGS 4. -/
theorem test_event_groups : [0x52, 0x21, 0x30].map ((up.wr Od.evcPgs 4).groupOf) = [5, 2, 3] := by decide +kernel
/-! The throttle of die 4: 90.4 calls for step 1, and 88.5 after it leaves step 1. -/
theorem test_throttle : [stepFor 880, stepFor 904, stepFor 956] = [0, 1, 2] ∧ decide (stepRelax 2 ≤ 918) = false ∧ decide (stepRelax 1 ≤ 885) = true := by decide +kernel
/-! Known answers of the check sums and hashes. -/
theorem test_crc32 : crc32Eth (str "123456789") = 0xCBF43926 ∧ crc32c (str "123456789") = 0xE3069283 := by decide +kernel
theorem test_sha256 : sha256 (str "abc") = beBytes 32 0xBA7816BF8F01CFEA414140DE5DAE2223B00361A396177A9CB410FF61F20015AD := by decide +kernel
theorem test_epoch : (1234567890 * 10 ^ 9 / 128000) % 2 ^ 32 = 2860061105 := by decide
/-! The parser: the tunnelled request has seven instances, ends at 122, and its key is b17/vx/000912 in domain 28. -/
theorem test_parse : (match execParse 1 received with
    | .next t => (t.packet? 1).any fun k => hvCount k.hv = 7 && hvInstance k.hv 6 = 0x08150086 && hvL3End k.hv = 122 && bits k.hv 1823 1808 = 30
        && bits k.hv 1807 1800 = 2 && bits k.hv 1799 1792 = 13 && bits k.hv 1119 608 = beNat (str "b17/vx/000912") * 256 ^ 51
        && bits k.hv 1791 1776 = 28 && bitOf k.hv 1861
    | _ => false) = true := by decide +kernel

/-! Well-formed commands: a term that each check of WellFormed refuses, and the same terms without the fault. -/

def req : Req := { session := .jtag, keySlot := none, check := 0, counter := 0, critical := false, tag := 0 }
def adr : Address := { inst := 0, index := 0, sub := 0 }
def flt : FaultError := { die := 0, source := 0, cls := 0, location := 0, detail0 := 0, detail1 := 0, spareUsed := false, repairing := false }
def img : ImageFacts := 
  { selfTest := true, readable := true, header := List.replicate 544 0, restZero := true, signature := true, digests := true,
    decrypts := true, digest := 0, patchLevel := 0 }
def badReq : Req := { req with tag := 2 ^ 32 }
def badAdr : Address := { adr with inst := 65536 }
def badFlt : FaultError := { flt with cls := 4 }
def badImg : ImageFacts := { img with digest := 2 ^ 384 }

theorem test_wf_parts :
    ([.pcie 2 0, .pcie 0 4, .kdp (2 ^ 32) 0, .kdp 0 (2 ^ 32), .keeper 65536].all fun x => !Session.wf x) = true ∧
    ([{ req with session := .pcie 2 0 }, { req with keySlot := some 8 }, { req with check := 2 ^ 128 }, { req with counter := 2 ^ 64 }, badReq].all
      fun r => !r.wf) = true ∧
    ([badAdr, { adr with index := 65536 }, { adr with sub := 256 }].all fun a => !a.wf) = true ∧
    ([{ flt with die := 8 }, { flt with source := 256 }, badFlt, { flt with location := 2 ^ 32 }, { flt with detail0 := 2 ^ 32 },
      { flt with detail1 := 2 ^ 32 }].all fun e => !e.wf) = true ∧
    ({ img with header := [] } : ImageFacts).wf = false ∧ badImg.wf = false ∧ fits 4 16 = false ∧ below 4 4 = false ∧ pipeWf 128 = false ∧ pipeWf 9 = false ∧
    valueWf 1401 0 = false ∧ valueWf 1 256 = false := by decide +kernel

theorem test_wf_refuses_1 : (([
    .bootAttempt badImg, .perstN 2, .functionLevelReset 2 0, .functionLevelReset 0 4, .ptpMessageRx 512 false, .flightIdle 8 0,
    .flightIdle 0 (2 ^ 4), .dieAckTimeout 8, .laneRepairTrigger 512 0 0 0, .laneRepairTrigger 0 (2 ^ 8) 0 0, .pfcXoffRefresh 512 0,
    .pfcXoffRefresh 0 8, .rcSweep 9, .aeDispatch 9 false 0 ⟨0, 0⟩, .aeDispatch 0 false 0 ⟨36, 0⟩, .aeDispatch 0 false 0 ⟨0, 3⟩, .endWord 9 false 0,
    .endWord 0 false 36, .contWord 9 false 0 0 0, .contWord 0 false 36 0 0, .contWord 0 false 0 0 3, .aluNop 9 false 0 0, .aluNop 0 false 36 0,
    .aluNop 0 false 0 2, .ctxLockGrant 8 0 0 0 0, .ctxLockGrant 0 (2 ^ 16) 0 0 0, .ctxLockGrant 0 0 0 3 0, .threadFault 9 false 0 0,
    .threadFault 0 false 36 0, .threadFault 0 false 0 4, .request 8 0 0 0, .request 0 8 0 0, .request 0 0 (2 ^ 13) 0, .request 0 0 0 (2 ^ 16),
    .arbiterGrant 4160, .grant 8 0, .grant 0 (2 ^ 13), .standingRestore 8 0 0, .standingRestore 0 512 0, .standingRestore 0 0 (2 ^ 16),
    .classWaitExpire 8 0, .classWaitExpire 0 9, .cellFree 8 0 0 0 0, .cellFree 0 0 (2 ^ 16) 0 0, .bitmapParityFail 8 0 0] : List Instr).all fun i => !i.wf) = true := by decide +kernel

theorem test_wf_refuses_2 : (([
    .bitmapParityFail 0 16 0, .poolAllocate 64 0, .poolAllocate 0 256, .hbmChannelRepair 8 0 0, .hbmChannelRepair 0 32 0, .pfcFrameRx 512 0 0 [],
    .pfcFrameRx 0 (2 ^ 16) 0 [], .pfcFrameRx 0 0 (2 ^ 16) [], .pfcFrameRx 0 0 0 [2 ^ 16], .pfcPauseExpire 512 0, .pfcPauseExpire 0 8,
    .flowContextApply 8 0, .flowContextApply 0 (2 ^ 16), .trainingBlockRx 8 0 [], .trainingBlockRx 0 8 [], .fabricCellSend 8 0 0,
    .fabricCellSend 0 8 0, .fabricCellSend 0 0 (2 ^ 13), .reseqTimeout 8 0 0, .reseqTimeout 0 8 0, .reseqTimeout 0 0 8192,
    .fabricLaneTrigger 8 0 0 0, .fabricLaneTrigger 0 8 0 0, .fabricLaneTrigger 0 0 40 0, .fabricLaneTrigger 0 0 0 3, .laneCmdMirror 8 0 0 0,
    .laneCmdMirror 0 8 0 0, .laneCmdMirror 0 0 4 0, .laneCmdMirror 0 0 0 40, .timeStampRx 8 0 0 0, .timeStampRx 0 8 0 0, .timeStampRx 0 0 (2 ^ 96) 0,
    .fabricTableWrite 8 0, .fabricTableWrite 0 (2 ^ 32), .learn (2 ^ 16) 0 0 0 0, .learn 0 (2 ^ 48) 0 0 0, .learn 0 0 (2 ^ 16) 0 0,
    .learn 0 0 0 0 512, .keeperMsg 8 0, .keeperMsg 0 8, .ecmpRebalance 16384 [] [], .ecmpRebalance 0 [] [(16384, [])], .asaBankSpareSwitch 8 0 0,
    .asaBankSpareSwitch 0 5 0, .asaBankSpareSwitch 0 0 9] : List Instr).all fun i => !i.wf) = true := by decide +kernel

theorem test_wf_refuses_3 : (([
    .tableWrite 2 0 0 none, .tableWrite 0 4 0 none, .tableWrite 0 0 1024 none, .tableWrite 0 0 0 (some (2 ^ 512)), .wqDoorbell 2 0 0 0,
    .wqDoorbell 0 4 0 0, .wqDoorbell 0 0 1024 0, .wqDoorbell 0 0 0 (2 ^ 32), .wqPush 2 0 0 0 [], .wqPush 0 4 0 0 [], .wqPush 0 0 1024 0 [],
    .wqPush 0 0 0 256 [], .cqDoorbell 2 0 0 0, .cqDoorbell 0 4 0 0, .cqDoorbell 0 0 1024 0, .cqDoorbell 0 0 0 (2 ^ 32), .wqDrainEnd 2 0 0,
    .wqDrainEnd 0 4 0, .wqDrainEnd 0 0 1024, .mbxDoorbell 2 0 0 [], .mbxDoorbell 0 4 0 [], .mbxDoorbell 0 0 (2 ^ 32) [], .kdpSessionIdleExpire 33,
    .kdpSessionIdleExpire 0, .smbusSelect badAdr, .eventFire 8 0, .eventFire 0 (2 ^ 12), .evcCoreClaim 8 0, .evcCoreClaim 0 5, .evcCoreEoi 8 0 0,
    .evcCoreEoi 0 5 0, .evcCoreEoi 0 0 (2 ^ 12), .evcVecEoi 2 0 0 0, .evcVecEoi 0 4 0 0, .evcVecEoi 0 0 (2 ^ 8) 0, .evcVecEoi 0 0 0 (2 ^ 12),
    .msixUnmask 2 0 0, .msixUnmask 0 4 0, .msixUnmask 0 0 (2 ^ 8), .timerExpire 8 0, .timerExpire 0 16, .faultRecordOpen badFlt,
    .faultRecordClose 8 0 0, .faultRecordClose 0 (2 ^ 8) 0, .spareTestStart 13 0 0 0] : List Instr).all fun i => !i.wf) = true := by decide +kernel

theorem test_wf_refuses_4 : (([
    .spareTestStart 0 8 0 0, .pllFault 8 0 0, .pllFault 0 2 0, .cwinValueRead 2 0 0 0, .cwinValueRead 0 4 0 0, .cwinValueRead 0 0 256 0,
    .cwinValueRead 0 0 0 256, .junctionTrip 8 0 0, .junctionTrip 0 (2 ^ 8) 0, .railWarning 8 0, .railWarning 0 8, .railFault 8,
    .fwVerifyDone 4 0 0 0 false, .fwVerifyDone 0 (2 ^ 8) 0 0 false, .fwVerifyDone 0 0 0 (2 ^ 32) false, .jtagBypass 2, .jtagProvisionKey (2 ^ 8) 0,
    .jtagProvisionKey 0 (2 ^ 256), .resetEngine 2, .copyLiveDone (2 ^ 16), .engineReset badReq 0, .engineReset req (2 ^ 11200),
    .octetRateGroup badReq 0 0, .octetRateGroup req 64 0, .octetRateGroup req 0 (2 ^ 11200), .portMode badReq 0 0, .portMode req 512 0,
    .portMode req 0 (2 ^ 11200), .spareChangeover badReq 0 0 0, .spareChangeover req 512 0 0, .spareChangeover req 0 (2 ^ 11200) 0,
    .spareChangeover req 0 0 (2 ^ 32), .poolEnable badReq 0 0, .poolEnable req 64 0, .poolEnable req 0 (2 ^ 11200), .wqEnable badReq 0 0,
    .wqEnable req 1024 0, .wqEnable req 0 (2 ^ 11200), .cqEnable badReq 0 0, .cqEnable req 1024 0, .cqEnable req 0 (2 ^ 11200), .readObj badReq adr,
    .readObj req badAdr, .writeObj badReq adr 0 0, .writeObj req badAdr 0 0] : List Instr).all fun i => !i.wf) = true := by decide +kernel

theorem test_wf_refuses_5 : (([
    .writeObj req adr 0 1, .writeObj req adr 1401 0, .writeEpoch badReq adr 0 0 0, .writeEpoch req badAdr 0 0 0, .writeEpoch req adr 0 1 0,
    .writeEpoch req adr 1401 0 0, .writeEpoch req adr 0 0 (2 ^ 32), .tableSwap badReq 0 0 0, .tableSwap req 0 (2 ^ 11200) 0,
    .tableSwap req 0 0 (2 ^ 32), .asaSetSwap badReq 0 0 0, .asaSetSwap req 12 0 0, .asaSetSwap req 0 (2 ^ 11200) 0, .asaSetSwap req 0 0 (2 ^ 32),
    .evcClaim badReq, .evcSource badReq 0 0 0, .evcSource req 8 0 0, .evcSource req 0 (2 ^ 12) 0, .evcSource req 0 0 (2 ^ 11200),
    .timerClaim badReq 0 0 0, .timerClaim req 8 0 0, .timerClaim req 0 16 0, .timerClaim req 0 0 (2 ^ 11200), .sparePipelineClaim badReq 0 0,
    .sparePipelineClaim req 8 0, .sparePipelineClaim req 0 (2 ^ 11200), .pipelineMigrate badReq 0 0 0, .pipelineMigrate req 8 0 0,
    .pipelineMigrate req 0 8 0, .pipelineMigrate req 0 0 (2 ^ 32), .fwActivateNextReset badReq 0, .fwActivateNextReset req 4] : List Instr).all fun i => !i.wf) = true := by decide +kernel

theorem test_wf_accepts_1 : (([
    .bootAttempt img, .perstN 0, .functionLevelReset 0 0, .ptpMessageRx 0 false, .flightIdle 0 0, .dieAckTimeout 0, .laneRepairTrigger 0 0 0 0,
    .pfcXoffRefresh 0 0, .rcSweep 0, .aeDispatch 0 false 0 ⟨0, 0⟩, .endWord 0 false 0, .contWord 0 false 0 0 0, .aluNop 0 false 0 0,
    .ctxLockGrant 0 0 0 0 0, .threadFault 0 false 0 0, .request 0 0 0 0, .arbiterGrant 0, .grant 0 0, .standingRestore 0 0 0, .classWaitExpire 0 0,
    .cellFree 0 0 0 0 0, .bitmapParityFail 0 0 0, .poolAllocate 0 0, .hbmChannelRepair 0 0 0, .pfcFrameRx 0 0 0 [], .pfcPauseExpire 0 0,
    .flowContextApply 0 0, .trainingBlockRx 0 0 [], .fabricCellSend 0 0 0, .reseqTimeout 0 0 0, .fabricLaneTrigger 0 0 0 0, .laneCmdMirror 0 0 0 0,
    .timeStampRx 0 0 0 0, .fabricTableWrite 0 0, .learn 0 0 0 0 0, .keeperMsg 0 0, .ecmpRebalance 0 [] [], .asaBankSpareSwitch 0 0 0,
    .tableWrite 0 0 0 none, .wqDoorbell 0 0 0 0, .wqPush 0 0 0 0 [], .cqDoorbell 0 0 0 0, .wqDrainEnd 0 0 0, .mbxDoorbell 0 0 0 [],
    .kdpSessionIdleExpire 1] : List Instr).all Instr.wf) = true := by decide +kernel

theorem test_wf_accepts_2 : (([
    .smbusSelect adr, .eventFire 0 0, .evcCoreClaim 0 0, .evcCoreEoi 0 0 0, .evcVecEoi 0 0 0 0, .msixUnmask 0 0 0, .timerExpire 0 0,
    .faultRecordOpen flt, .faultRecordClose 0 0 0, .spareTestStart 0 0 0 0, .pllFault 0 0 0, .cwinValueRead 0 0 0 0, .junctionTrip 0 0 0,
    .railWarning 0 0, .railFault 0, .fwVerifyDone 0 0 0 0 false, .jtagBypass 0, .jtagProvisionKey 0 0, .resetEngine 0, .copyLiveDone 0,
    .engineReset req 0, .octetRateGroup req 0 0, .portMode req 0 0, .spareChangeover req 0 0 0, .poolEnable req 0 0, .wqEnable req 0 0,
    .cqEnable req 0 0, .readObj req adr, .writeObj req adr 0 0, .writeEpoch req adr 0 0 0, .tableSwap req 0 0 0, .asaSetSwap req 0 0 0,
    .evcClaim req, .evcSource req 0 0 0, .timerClaim req 0 0 0, .sparePipelineClaim req 0 0, .pipelineMigrate req 0 0 0, .fwActivateNextReset req 0] : List Instr).all Instr.wf) = true := by decide +kernel


set_option linter.unusedVariables false

namespace Machines

def so : DictOp := writeOp (Obj.at_ Od.throttleStepLimit 0 0) 2
def res : OpResult := { status := .ok, type := 1, len := 0, value := 0, epoch := 5 }
def ks : State := let k := keyed up;
      { k with dict := { k.dict with live := { k.dict.live with counters := [(1, 9)], stored := [(1, { op := so, result := res })] } } }
def rr : Req := sign ks so
def frt : List Byte := fcs (List.replicate 12 1 ++ [0x81#8, 0#8, 0xA0#8, 5#8] ++ List.replicate 48 3)
def readyT : State := ((((up.wr Od.portMode 9 (portInst 65)).wr Od.portState 2 (portInst 65)).setReserved 1 0 40)).wr Od.portPgMap (setOctet 8 5 3 (up.rd Od.portPgMap (portInst 65))) (portInst 65)
def nores : State := (readyT.setReserved 1 0 3).wr Od.bpmClassPolicy 0 0 3
def src : EventSource := { up.source (1 * 4096 + 0x140) with enable := true, targetKind := 1, target := 1, state := 1, lost := 255 }
def es : State := up.setSource (1 * 4096 + 0x140) src

theorem test_witness_StepRunsFront :
    (true &&
    (let s : State := up; (decide (s.pending = []) && (decide (s.nextDue = none)))) &&
    (let s : State := ({ up with agenda := [(0, .bootClaim)] } : State); (decide (s.pending = []) &&
      (match s.nextDue with | some (due, c) => true | _ => false)))) = true := by decide +kernel

theorem test_witness_StepTakesOne :
    ((let s : State := withQ up [.lampRefresh]; ((match step s with | .next _ => true | _ => false)))) = true := by decide +kernel

theorem test_witness_RegistersKeepForm :
    ((let s : State := withQ up [.lampRefresh]; (decide (s.sound = true) && ((match step s with | .next _ => true | _ => false))))) = true := by decide +kernel

theorem test_witness_ListsKeepOrder :
    ((let s : State := withQ up [.lampRefresh]; (decide (s.sound = true) && (decide (s.ordered = true) &&
      ((match step s with | .next _ => true | _ => false)))))) = true := by decide +kernel

theorem test_witness_ResetState :
    (true) = true := by decide +kernel

theorem test_witness_StoredResponses :
    ((let s : State := ks; (let k : Nat := 1; (let x : StoredResponse := { op := so, result := res }; (let j : Job := critJobOf ks rr so 1;
      (decide (sparseFind? s.dict.live.stored k = some x) && (decide (j.slot = k) && (decide (j.counter = s.counterLast k) &&
      (decide (j.ops = [x.op]))))))))) &&
    (let s : State := ks; (let k : Nat := 1; (let x : StoredResponse := { op := so, result := res };
      (let j : Job := { critJobOf ks rr so 1 with counter := 8 }; (decide (sparseFind? s.dict.live.stored k = some x) && (decide (j.slot = k) &&
      (decide (j.counter < s.counterLast k ∨ (j.counter = s.counterLast k ∧ j.ops ≠ [x.op]))))))))) &&
    (let s : State := ks; (let k : Nat := 1; (let x : StoredResponse := { op := so, result := res }; (let r : Req := rr; (let a := so.addr;
      (let len := so.len; (let v := 2; (decide (sparseFind? s.dict.live.stored k = some x) &&
      (let o := ({ op := 2, addr := a, len := len, value := v, epoch := 0 } : DictOp); (decide (len ≤ 1376) && (decide (s.stopped = false) &&
      (decide (s.hostUp = true) && (decide (r.keySlot = some k) && (decide (k < 8) && (decide (r.critical = true) &&
      (decide (isFunction r.session = true) && (decide (s.hasRight k a.index = true) &&
      (decide (s.authentic true true k (rowHeader false r (requestRecord false o).length ++ requestRecord false o) (beBytes 16 r.check) = true) &&
      (decide (r.counter = s.counterLast k) && (decide (x.op = o)))))))))))))))))))))) = true := by decide +kernel

theorem test_witness_PriorityGroups :
    ((let s : State := readyT; (let n : Nat := 65; (let frame : List Byte := frt; (decide (s.sound = true) && (decide (s.stopped = false) &&
      (decide (n < 512) && (decide (s.hasDie (n / 64) = true) && (decide (s.portStateOf n = 2) && (decide (64 ≤ frame.length) &&
      (decide (frame.length ≤ 10240) && (decide ((516 < frame.length ∨ goodFcs frame = true)) && (decide (beNat (slice frame 12 2) ≠ 0x8808) &&
      (((List.range (8)).all fun p => decide (s.rdOctet Od.portPgMap (portInst n) 0 p < 8)) && (decide (s.rd Od.portDefaultPg (portInst n) < 8) &&
      (let g : Nat := (if beNat (slice frame 12 2) = 0x8100 then s.rdOctet Od.portPgMap (portInst n) 0 (bits (beNat (slice frame 14 2)) 15 13) else s.rd Od.portDefaultPg (portInst n));
      (decide (s.waitingAt (n / 64) (n % 64 / 8) = []) && (decide (s.mayStart n g = true)))))))))))))))))) &&
    (let s : State := nores; (let n : Nat := 65; (let frame : List Byte := frt; (decide (s.sound = true) && (decide (s.stopped = false) &&
      (decide (n < 512) && (decide (s.hasDie (n / 64) = true) && (decide (s.portStateOf n = 2) && (decide (64 ≤ frame.length) &&
      (decide (frame.length ≤ 10240) && (decide ((516 < frame.length ∨ goodFcs frame = true)) && (decide (beNat (slice frame 12 2) ≠ 0x8808) &&
      (((List.range (8)).all fun p => decide (s.rdOctet Od.portPgMap (portInst n) 0 p < 8)) && (decide (s.rd Od.portDefaultPg (portInst n) < 8) &&
      (let g : Nat := (if beNat (slice frame 12 2) = 0x8100 then s.rdOctet Od.portPgMap (portInst n) 0 (bits (beNat (slice frame 14 2)) 15 13) else s.rd Od.portDefaultPg (portInst n));
      (decide (s.waitingAt (n / 64) (n % 64 / 8) = []) && (decide (s.mayStart n g = false) &&
      (decide (s.rd Od.bpmClassPolicy 0 g = 0)))))))))))))))))))) = true := by decide +kernel

theorem test_witness_LostFires :
    ((let s : State := up; (let d : Nat := 1; (let n : Nat := 0x140; (decide (s.stopped = false) && (decide (s.hasDie d = true) &&
      (let e : EventSource := s.source (d * 4096 + n); (decide (e.enable = false ∨ e.targetKind = 0)))))))) &&
    (let s : State := es; (let d : Nat := 1; (let n : Nat := 0x140; (decide (s.stopped = false) && (decide (s.hasDie d = true) &&
      (let e : EventSource := s.source (d * 4096 + n); (decide (s.sourceExists d n = true) && (decide (s.canFire d n = true) &&
      (decide (e.enable = true) && (decide (e.targetKind ≠ 0) && (decide (e.state ≠ 0))))))))))))) = true := by decide +kernel

end Machines

namespace Writes

def pps := Obj.at_ Od.ppsOutFunction 0 0
def held := up.setHolder pps 4444
def heldSp := up.setHolder (Obj.at_ Od.sparePipelineClaim (dieInst 3) 0) 4444
def heldLb := up.setHolder (Obj.at_ Od.loopbackClaim 0 0) 4444
def man := up.wr Od.throttleMode 1
def smo := up.wr Od.powerState 2
def pm := up.wr Od.portMode 5 (portInst 65)
def pst (k : Nat) := (pm.wr Od.portEnable 1 (portInst 65)).wr Od.portState k (portInst 65)
def k1 := keyed up
def kd := (k1.wr Od.aeCodeLinkedVersion (k1.rd Od.aeDechusVersion) (bankInst 1) 0)
def ks := (k1.wr Od.asaSetMode 2 0 3).wr Od.asaSetShadowBanks 6 0 3
def kg0 := (k1.wr Od.asaSetMode 2 0 3).wr Od.asaSetBanks 6 0 3
def kg : State := { kg0 with asa := { kg0.asa with rows := [(4096 + 5, { key := 1, mask := 1, priority := 1, result := 1, gate := 1, epoch := 0 })] } }
def kc2 := (k1.wr Od.spareSliceState 2 (portInst 64)).wr Od.epochLengthInForce 1000
def km := k1.wr Od.sparePipelineState (2*256+2) (dieInst 3)
def cp := up.copyBegun 0x30 (rowJob up ask (writeOp (Obj.at_ Od.parserCopyLive 0 0) 1))

theorem test_witness_PackageWrites :
    ((let s : State := up; (let r : Req := ask; (let v : Nat := 2; (decide (s.sound = true) && (decide (s.hearsPlain r = true) &&
      (decide (s.smoulder = false) && (let p := s.principal (s.sessionOf r.session); (decide (v ≤ 2) && (let a := Obj.at_ Od.ppsOutFunction 0 0;
      (decide (s.heldByOther (addrKey a) p = false))))))))))) &&
    (let s : State := held; (let r : Req := ask; (let v : Nat := 2; (decide (s.sound = true) && (decide (s.hearsPlain r = true) &&
      (decide (s.smoulder = false) && (let p := s.principal (s.sessionOf r.session); (decide (v ≤ 2) && (let a := Obj.at_ Od.ppsOutFunction 0 0;
      (decide (s.heldByOther (addrKey a) p = true))))))))))) &&
    (let s : State := up; (let r : Req := ask; (let v : Nat := 1; (let d := 3; (decide (s.sound = true) && (decide (s.hearsPlain r = true) &&
      (decide (s.smoulder = false) && (let p := s.principal (s.sessionOf r.session); (decide (v ≤ 1) && (decide (s.hasDie d = true) &&
      (let a := Obj.at_ Od.sparePipelineClaim (dieInst d) 0; (decide (s.heldByOther (addrKey a) p = false))))))))))))) &&
    (let s : State := heldSp; (let r : Req := ask; (let v : Nat := 1; (let d := 3; (decide (s.sound = true) && (decide (s.hearsPlain r = true) &&
      (decide (s.smoulder = false) && (let p := s.principal (s.sessionOf r.session); (decide (v ≤ 1) && (decide (s.hasDie d = true) &&
      (let a := Obj.at_ Od.sparePipelineClaim (dieInst d) 0; (decide (s.heldByOther (addrKey a) p = true))))))))))))) &&
    (let s : State := up; (let r : Req := ask; (let v : Nat := 3; (decide (s.sound = true) && (decide (s.hearsPlain r = true) &&
      (decide (s.smoulder = false) && (let p := s.principal (s.sessionOf r.session); (decide (v ≤ 3) && (let a := Obj.at_ Od.loopbackClaim 0 0;
      (decide (s.heldByOther (addrKey a) p = false))))))))))) &&
    (let s : State := heldLb; (let r : Req := ask; (let v : Nat := 0; (decide (s.sound = true) && (decide (s.hearsPlain r = true) &&
      (decide (s.smoulder = false) && (let p := s.principal (s.sessionOf r.session); (decide (v ≤ 3) && (let a := Obj.at_ Od.loopbackClaim 0 0;
      (decide (s.heldByOther (addrKey a) p = true))))))))))) &&
    (let s : State := up; (let r : Req := ask; (let v : Nat := 3; (decide (s.sound = true) && (decide (s.hearsPlain r = true) &&
      (decide (s.smoulder = false) && (decide (v ≤ 3) && (decide ((∀ d ∈ s.part.dies, s.stepOf d ≤ v)))))))))) &&
    (let s : State := man; (let r : Req := ask; (let v : Nat := 3; (let d := 3; (decide (s.sound = true) && (decide (s.hearsPlain r = true) &&
      (decide (s.smoulder = false) && (decide (s.hasDie d = true) && (decide (v ≤ 3) && (decide (v ≤ s.rd Od.throttleStepLimit) &&
      (decide (s.rd Od.throttleMode ≠ 0)))))))))))) &&
    (let s : State := smo; (let r : Req := ask; (decide (s.sound = true) && (decide (s.hearsPlain r = true) && (decide (s.rd Od.powerState = 2))))))) = true := by decide +kernel

theorem test_witness_PortWrites :
    ((let s : State := pm; (let r : Req := ask; (let n : Nat := 72; (let v : Nat := 1; (decide (s.sound = true) && (decide (s.hearsPlain r = true) &&
      (decide (s.smoulder = false) && (decide (n < 512) && (decide (s.hasDie (n / 64) = true) && (decide (n % 8 = 0) && (decide (v ≤ 1) &&
      (((List.range (8)).all fun k => decide (s.portStateOf (n + k) = 0 ∧ (s.portModeOf (n + k) = 0 ∨ modeGroup (s.portModeOf (n + k)) = v))))))))))))))) &&
    (let s : State := up; (let r : Req := ask; (let n : Nat := 65; (let v : Nat := 5; (decide (s.sound = true) && (decide (s.hearsPlain r = true) &&
      (decide (s.smoulder = false) && (decide (n < 512) && (decide (s.hasDie (n / 64) = true) && (decide (v ≤ 12) &&
      (decide (s.checkMode n v = .ok) && (decide (s.portModeOf n ≠ v))))))))))))) &&
    (let s : State := pm; (let r : Req := ask; (let n : Nat := 65; (let v : Nat := 5; (decide (s.sound = true) && (decide (s.hearsPlain r = true) &&
      (decide (s.smoulder = false) && (decide (n < 512) && (decide (s.hasDie (n / 64) = true) && (decide (v ≤ 12) &&
      (decide (s.checkMode n v = .ok) && (decide (s.portModeOf n = v))))))))))))) &&
    (let s : State := pm; (let r : Req := ask; (let n : Nat := 65; (decide (s.sound = true) && (decide (s.hearsPlain r = true) &&
      (decide (s.smoulder = false) && (decide (n < 512) && (decide (s.hasDie (n / 64) = true) && (decide (s.portModeOf n ≠ 0) &&
      (decide (s.portStateOf n = 0))))))))))) &&
    (let s : State := pst 4; (let r : Req := ask; (let n : Nat := 65; (decide (s.sound = true) && (decide (s.hearsPlain r = true) &&
      (decide (s.smoulder = false) && (decide (n < 512) && (decide (s.hasDie (n / 64) = true) && (decide (s.portModeOf n ≠ 0) &&
      (decide (s.portStateOf n = 4))))))))))) &&
    (let s : State := pst 2; (let r : Req := ask; (let n : Nat := 65; (decide (s.sound = true) && (decide (s.hearsPlain r = true) &&
      (decide (s.smoulder = false) && (decide (n < 512) && (decide (s.hasDie (n / 64) = true) && (decide (s.portModeOf n ≠ 0) &&
      (decide (s.portStateOf n = 2 ∨ s.portStateOf n = 5))))))))))) &&
    (let s : State := pst 3; (let r : Req := ask; (let n : Nat := 65; (decide (s.sound = true) && (decide (s.hearsPlain r = true) &&
      (decide (s.smoulder = false) && (decide (n < 512) && (decide (s.hasDie (n / 64) = true) && (decide (s.portModeOf n ≠ 0) &&
      (decide (s.portStateOf n = 1 ∨ s.portStateOf n = 3))))))))))) &&
    (let s : State := pm; (let r : Req := ask; (let n : Nat := 65; (let v : Nat := 0; (decide (s.sound = true) && (decide (s.hearsPlain r = true) &&
      (decide (s.smoulder = false) && (decide (n < 512) && (decide (s.hasDie (n / 64) = true) && (decide (s.portModeOf n ≠ 0) && (decide (v ≤ 1) &&
      (decide (v = 0 ∨ s.portStateOf n ≠ 3))))))))))))) &&
    (let s : State := pst 3; (let r : Req := ask; (let n : Nat := 65; (decide (s.sound = true) && (decide (s.hearsPlain r = true) &&
      (decide (s.smoulder = false) && (decide (n < 512) && (decide (s.hasDie (n / 64) = true) && (decide (s.portModeOf n ≠ 0) &&
      (decide (s.portStateOf n = 3)))))))))))) = true := by decide +kernel

theorem test_witness_SwapsDeferred :
    ((let s : State := k1; (let epoch : Nat := 100; (let t := 14; (decide (s.sound = true) && (decide (s.smoulder = false) &&
      (decide (s.changeRoom = true) &&
      (match s.resolveEpoch epoch with | some e => (decide (t ≤ 14) && (let f := famOfTable (0x40 + t); (decide (s.swapPending f = false) && (decide (s.famHeld f = false) && (decide ((s.fam f).disagree = []) && (decide ((s.fam f).stale = false) && (hearable s (epochOp (Obj.at_ Od.tableSwap 0 t) 1 epoch)))))))) | _ => false))))))) &&
    (let s : State := k1; (let epoch : Nat := 100; (decide (s.sound = true) && (decide (s.smoulder = false) && (decide (s.changeRoom = true) &&
      (match s.resolveEpoch epoch with | some e => (let f := 0x4B; (decide (s.swapPending f = false) && (decide (s.famHeld f = false) && (decide ((s.fam f).disagree = []) && (decide ((s.fam f).stale = false) && (hearable s (epochOp (Obj.at_ Od.ecmpSwap 0 0) 1 epoch))))))) | _ => false)))))) &&
    (let s : State := k1; (let epoch : Nat := 100; (decide (s.sound = true) && (decide (s.smoulder = false) && (decide (s.changeRoom = true) &&
      (match s.resolveEpoch epoch with | some e => (let f := 0x30; (decide (s.swapPending f = false) && (decide (s.famHeld f = false) && (decide ((s.fam f).disagree = []) && (decide ((s.fam f).stale = false) && (hearable s (epochOp (Obj.at_ Od.parserSwap 0 0) 1 epoch))))))) | _ => false)))))) &&
    (let s : State := k1; (let epoch : Nat := 100; (decide (s.sound = true) && (decide (s.smoulder = false) && (decide (s.changeRoom = true) &&
      (match s.resolveEpoch epoch with | some e => (let f := 0x58; (decide (s.swapPending f = false) && (decide (s.famHeld f = false) && (decide ((s.fam f).disagree = []) && (decide ((s.fam f).stale = false) && (hearable s (epochOp (Obj.at_ Od.placeSwap 0 0) 1 epoch))))))) | _ => false)))))) &&
    (let s : State := k1; (let epoch : Nat := 100; (decide (s.sound = true) && (decide (s.smoulder = false) && (decide (s.changeRoom = true) &&
      (match s.resolveEpoch epoch with | some e => (let f := 0x54; (decide (s.swapPending f = false) && (decide (s.famHeld f = false) && (decide ((s.fam f).disagree = []) && (decide ((s.fam f).stale = false) && (hearable s (epochOp (Obj.at_ Od.rewriteSwap 0 0) 1 epoch))))))) | _ => false)))))) &&
    (let s : State := k1; (let epoch : Nat := 100; (let n := 511; (decide (s.sound = true) && (decide (s.smoulder = false) &&
      (decide (s.changeRoom = true) &&
      (match s.resolveEpoch epoch with | some e => (decide (n < 512) && (decide (s.hasDie (n / 64) = true) && (let f := gateFam n; (decide (s.swapPending f = false) && (decide (s.famHeld f = false) && (decide ((s.fam f).disagree = []) && (decide ((s.fam f).stale = false) && (decide ((s.gate n).swap = none) && (hearable s (epochOp (Obj.at_ Od.gclSwap (portInst n) 0) 1 epoch)))))))))) | _ => false))))))) &&
    (let s : State := kd; (let v : Nat := 0; (let epoch : Nat := 100; (let i := 0; (decide (s.sound = true) && (decide (s.smoulder = false) &&
      (decide (s.changeRoom = true) &&
      (match s.resolveEpoch epoch with | some e => (decide (i ≤ 1) && (let f := 0x200 + i; (decide (s.swapPending f = false) && (decide (s.famHeld f = false) && (decide ((s.fam f).disagree = []) && (decide ((s.fam f).stale = false) && (decide (s.rd Od.aeCodeLinkedVersion (bankInst (s.shadowOf f)) i = s.rd Od.aeDechusVersion) && (hearable s (epochOp (Obj.at_ Od.aeCodeSwap 0 i) v epoch))))))))) | _ => false)))))))) &&
    (let s : State := ks; (let epoch : Nat := 100; (let set := 3; (decide (s.sound = true) && (decide (s.smoulder = false) &&
      (decide (s.changeRoom = true) &&
      (match s.resolveEpoch epoch with | some e => (decide (set < 12) && (let f := 0x100 + set; (decide (s.swapPending f = false) && (decide (s.famHeld f = false) && (decide ((s.fam f).disagree = []) && (decide ((s.fam f).stale = false) && (decide (s.commitPending set = false) && (decide (s.setBanks set true ≠ []) && (hearable s (epochOp (Obj.at_ Od.asaSetSwap 0 set) 1 epoch)))))))))) | _ => false))))))) &&
    (let s : State := kg; (let epoch : Nat := 100; (let set := 3; (decide (s.sound = true) && (decide (s.smoulder = false) &&
      (decide (s.changeRoom = true) &&
      (match s.resolveEpoch epoch with | some e => (decide (set < 12) && (decide (s.swapPending (0x100 + set) = false) && (decide (s.commitPending set = false) && (decide (s.pendingGate set = true) && (hearable s (epochOp (Obj.at_ Od.asaSetCommit 0 set) 1 epoch)))))) | _ => false))))))) &&
    (let s : State := kc2; (let v : Nat := 7; (let epoch : Nat := 100; (let n := 64; (decide (s.sound = true) && (decide (s.smoulder = false) &&
      (decide (s.changeRoom = true) &&
      (match s.resolveEpoch epoch with | some e => (decide (n < 512) && (decide (n % 8 = 0) && (decide (s.hasDie (n / 64) = true) && (decide (s.ns + 2000000 ≤ e * s.epochNs) && (decide (v ≤ 7) && (decide (s.sliceState (n / 8) = 2) && (decide ((s.spareSlice (n / 8)).job = none) && (hearable s (epochOp (Obj.at_ Od.spareChangeover (portInst n) 0) v epoch))))))))) | _ => false)))))))) &&
    (let s : State := kc2; (let v : Nat := 7; (let epoch : Nat := 100; (let n := 64; (decide (s.sound = true) && (decide (s.smoulder = false) &&
      (decide (s.changeRoom = true) &&
      (match s.resolveEpoch epoch with | some e => (decide (n < 512) && (decide (n % 8 = 0) && (decide (s.hasDie (n / 64) = true) && (decide (s.ns + 2000000 ≤ e * s.epochNs) && (decide (v ≤ 7) && (decide (s.sliceRetired (n / 8) v = false) && (hearable s (epochOp (Obj.at_ Od.spareRelease (portInst n) 0) v epoch)))))))) | _ => false)))))))) &&
    (let s : State := km; (let v : Nat := 7; (let epoch : Nat := 100; (let d := 3; (decide (s.sound = true) && (decide (s.smoulder = false) &&
      (decide (s.changeRoom = true) &&
      (match s.resolveEpoch epoch with | some e => (decide (s.hasDie d = true) && (decide (v ≤ 7) && (decide (s.rdOctet Od.sparePipelineState (dieInst d) 0 0 = 2) && (decide (s.rdOctet Od.sparePipelineState (dieInst d) 0 1 = 2) && (decide (s.rd Od.sparePipelineClaim (dieInst d) = 0) && (decide ((∀ c ∈ s.sched.changes, c.isFor (Obj.at_ Od.pipelineMigrate (dieInst d) 0) = false)) && (hearable s (epochOp (Obj.at_ Od.pipelineMigrate (dieInst d) 0) v epoch)))))))) | _ => false))))))))) = true := by decide +kernel

theorem test_witness_CopiesBegin :
    ((let s : State := up; (let r : Req := ask; (let t := 14; (decide (s.sound = true) && (decide (s.hearsPlain r = true) &&
      (decide (s.smoulder = false) && (decide (t ≤ 14) && (let f := famOfTable (0x40 + t); (decide (s.swapPending f = false) &&
      (decide (s.famHeld f = false))))))))))) &&
    (let s : State := up; (let r : Req := ask; (decide (s.sound = true) && (decide (s.hearsPlain r = true) && (decide (s.smoulder = false) &&
      (let f := 0x58; (decide (s.swapPending f = false) && (decide (s.famHeld f = false))))))))) &&
    (let s : State := up; (let r : Req := ask; (decide (s.sound = true) && (decide (s.hearsPlain r = true) && (decide (s.smoulder = false) &&
      (let f := 0x54; (decide (s.swapPending f = false) && (decide (s.famHeld f = false))))))))) &&
    (let s : State := up; (let r : Req := ask; (let i := 1; (decide (s.sound = true) && (decide (s.hearsPlain r = true) &&
      (decide (s.smoulder = false) && (decide (i ≤ 1) && (let f := 0x200 + i; (decide (s.swapPending f = false) &&
      (decide (s.famHeld f = false))))))))))) &&
    (let s : State := cp; (let r : Req := ask; (let rest := []; (decide (s.sound = true) && (decide (s.hearsPlain r = true) &&
      (decide (s.smoulder = false) && (let f := 0x30; (decide (s.swapPending f = false) && (decide (s.famHeld f = false) &&
      (decide (s.copies = { fam := f, job := rowJob s r (writeOp (Obj.at_ Od.parserCopyLive 0 0) 1) } :: rest)))))))))))) = true := by decide +kernel

end Writes

namespace Keys

def k1 := keyed up
def k2 : State := { k1 with time := { k1.time with lastEdge := some 0, up := 950000000 } }
def k3 := (k1.wr Od.timeSource 2).wr Od.timeState 2
def k4 : State := { k1 with time := { k1.time with refused := some 77 } }
def ch : Change := { order := 0, epoch := 100, inst := 0, index := 0x3000, sub := 1, value := 1, keeper := false, writer := 0, acked := [], accepted := 0 }
def k5 : State := { k1 with sched := { k1.sched with changes := [ch] } }
def k6 : State := ({ k1 with recov := { k1.recov with pin := true } }).wr Od.faultNAsserted 1
def tripped : State := { up with recov := { up.recov with pin := true, trip := true } }
def smb : Req := { ask with session := .smbus }
def kk : State := { k1 with boot := { k1.boot with keeperOnly := [(1, true)] } }
def w0 := 6 * 2 ^ 189 + 3 * 2 ^ 187 + 0x7F * 2 ^ 112
def wrapped : Nat := 0x300000000000000c6d257a41df94e5139a6726f90ef0146bad2ca223f289ca638d134ecb5b0adc329bf20f198ecde92

theorem test_witness_CriticalTimeAndRecovery :
    ((let s : State := k1; (let v : Nat := 2 ^ 96 - 2 ^ 48; (decide (s.sound = true) && (decide (s.smoulder = false) &&
      (let o := writeOp (Obj.at_ Od.todSet 0 0) v; (hearable s o && (decide (v < 2 ^ 96) && (decide (bits v 47 16 ≤ 999999999) &&
      (decide (s.time.lastEdge = none)))))))))) &&
    (let s : State := k2; (let v : Nat := 5; (decide (s.sound = true) && (decide (s.smoulder = false) && (let o := writeOp (Obj.at_ Od.todSet 0 0) v;
      (hearable s o && (decide (v < 2 ^ 96) && (decide (bits v 47 16 ≤ 999999999) &&
      (match s.time.lastEdge with | some e => (decide (e + 1000000000 < s.up + 100000000)) | _ => false))))))))) &&
    (let s : State := k1; (let v : Nat := 2; (decide (s.sound = true) && (decide (s.smoulder = false) &&
      (let o := writeOp (Obj.at_ Od.timeSource 0 0) v; (hearable s o && (decide (v ≤ 2) && (decide (v ≠ 0))))))))) &&
    (let s : State := k3; (let v : Nat := 0; (decide (s.sound = true) && (decide (s.smoulder = false) &&
      (let o := writeOp (Obj.at_ Od.timeSource 0 0) v; (hearable s o && (decide (v ≤ 2) && (decide (v = 0))))))))) &&
    (let s : State := k4; (decide (s.sound = true) && (decide (s.smoulder = false) && (let o := writeOp (Obj.at_ Od.timeStepAccept 0 0) 1;
      (hearable s o && (match s.time.refused with | some x => true | _ => false)))))) &&
    (let s : State := k5; (let v : Nat := 0x3000 * 2 ^ 64 + 1 * 2 ^ 56 + 100; (decide (s.sound = true) && (decide (s.smoulder = false) &&
      (let o := writeOp (Obj.at_ Od.schedCancel 0 0) v; (hearable s o && (decide (v < 2 ^ 96) && (decide (bits v 55 32 = 0) &&
      (let a := ({ inst := bits v 95 80, index := bits v 79 64, sub := bits v 63 56 } : Address);
      (match s.resolveEpoch (low 32 v) with | some e => (decide ((∃ c ∈ s.sched.changes, c.isFor a = true ∧ c.epoch = e))) | _ => false)))))))))) &&
    (let s : State := k1; (decide (s.sound = true) && (decide (s.smoulder = false) && (let o := writeOp (Obj.at_ Od.recoveryCancel 0 0) 1;
      (hearable s o))))) &&
    (let s : State := k1; (decide (s.sound = true) && (decide (s.smoulder = false) && (let o := writeOp (Obj.at_ Od.recoveryClearShadows 0 0) 1;
      (hearable s o && (decide (s.shadowsBusy = false))))))) &&
    (let s : State := k6; (decide (s.sound = true) && (decide (s.smoulder = false) && (let o := writeOp (Obj.at_ Od.faultNRelease 0 0) 1;
      (hearable s o && (decide (s.recov.pin = true) && (decide (s.recov.trip = false)))))))) &&
    (let s : State := tripped; (decide (s.sound = true) && (decide (s.smoulder = false) && (decide (s.recov.trip = true))))) &&
    (let s : State := k1; (let v : Nat := 2; (decide (s.sound = true) && (decide (s.smoulder = false) &&
      (let o := writeOp (Obj.at_ Od.powerRequest 0 0) v; (hearable s o && (decide (v = 1 ∨ v = 2) && (decide (s.rd Od.powerState = 0) &&
      (decide (s.sched.changes = []) && (decide (s.shadowsBusy = false) && (decide (s.recov.pin = false))))))))))))) = true := by decide +kernel

theorem test_witness_KeysAndSessions :
    ((let s : State := k1; (let r : Req := { ask with counter := 9 }; (let v : Nat := wrapped; (decide (s.sound = true) && (decide (s.smoulder = false) &&
      (let o := writeOp (Obj.at_ Od.keySet 0 0) v; (hearable s o && (decide (v < 2 ^ 384) &&
      (match unwrapKey (s.slotKey 1) r.counter v with | some x => true | _ => false))))))))) &&
    (let s : State := k1; (let v : Nat := 7; (decide (s.sound = true) && (decide (s.smoulder = false) &&
      (let o := writeOp (Obj.at_ Od.keyClear 0 0) v; (hearable s o && (decide (2 ≤ v) && (decide (v ≤ 7))))))))) &&
    (let s : State := k1; (decide (s.sound = true) && (decide (s.smoulder = false) && (let o := writeOp (Obj.at_ Od.sealObj 0 0) 1;
      (hearable s o))))) &&
    (let s : State := k1; (decide (s.sound = true) && (decide (s.smoulder = false) && (let o := writeOp (Obj.at_ Od.engineReset 0 0) 1;
      (hearable s o))))) &&
    (let s : State := up; (let r : Req := ask; (let v : Nat := 1; (decide (s.sound = true) && (decide (s.smoulder = false) &&
      (decide (s.hearsPlain r = true) && (decide (v < 2 ^ 256)))))))) &&
    (let s : State := up; (let r : Req := smb; (let v : Nat := 1; (decide (s.sound = true) && (decide (s.smoulder = false) &&
      (decide (r.session = .smbus) && (decide (s.stopped = false) && (decide (s.hostUp = true) && (decide (s.dict.live.security = 0) &&
      (decide (v < 2 ^ 256))))))))))) &&
    (let s : State := up; (let r : Req := ask; (let h := 0; (let f := 0; (decide (s.sound = true) && (decide (s.smoulder = false) &&
      (decide (s.hearsPlain r = true) && (decide (r.session = .pcie h f)))))))))) = true := by decide +kernel

theorem test_witness_FirmwareWrites :
    ((let s : State := k1; (let v : Nat := 1 * 256 ^ 1031 + 33553408 * 256 ^ 1024 + 77; (let slot : Nat := 1; (let off := 33553408;
      (decide (s.sound = true) && (decide (s.smoulder = false) && (decide (slot ≤ 1) && (let o := writeOp (Obj.at_ Od.fwFlashBlock 0 0) v;
      (hearable s o && (decide (v = slot * 256 ^ 1031 + off * 256 ^ 1024 + v % 256 ^ 1024) && (decide (off < 33554432) && (decide (off % 1024 = 0) &&
      (decide (s.rd Od.bootSlot ≠ slot) && (decide (s.fwSlot 0 ≠ 2) && (decide (s.fwSlot 1 ≠ 2)))))))))))))))) &&
    (let s : State := k1; (let slot : Nat := 1; (decide (s.sound = true) && (decide (s.smoulder = false) && (decide (slot ≤ 1) &&
      (let o := writeOp (Obj.at_ Od.fwVerify 0 0) slot; (hearable s o))))))) &&
    (let s : State := k1; (let slot : Nat := 1; (decide (s.sound = true) && (decide (s.smoulder = false) && (decide (slot ≤ 1) &&
      (let o := writeOp (Obj.at_ Od.fwActivate 0 0) (slot * 256 + 1); (hearable s o && (decide (s.fwSlot slot = 3))))))))) &&
    (let s : State := kk; (let slot : Nat := 1; (decide (s.sound = true) && (decide (s.smoulder = false) && (decide (slot ≤ 1) &&
      (let o := writeOp (Obj.at_ Od.fwActivate 0 0) (slot * 256 + 2); (hearable s o && (decide (s.fwSlot slot = 3) &&
      (decide (sparseFind? s.boot.keeperOnly slot = some true)))))))))) &&
    (let s : State := k1; (let slot : Nat := 1; (decide (s.sound = true) && (decide (s.smoulder = false) && (decide (slot ≤ 1) &&
      (let o := writeOp (Obj.at_ Od.fwSvnCommit 0 0) 1; (hearable s o && (decide (s.rd Od.bootFallbacks = 0)))))))))) = true := by decide +kernel

theorem test_witness_ShadowWrites :
    ((let s : State := up; (let r : Req := ask; (let v : Nat := 2 ^ 32 - 1; (let t := 14; (decide (s.sound = true) && (decide (s.smoulder = false) &&
      (decide (s.hearsPlain r = true) && (decide (t ≤ 14) && (let f := famOfTable (0x40 + t); (decide (s.bankState f ≠ 1) &&
      (decide (s.bankState f ≠ 2) && (decide (v < 2 ^ 32))))))))))))) &&
    (let s : State := up; (let r : Req := ask; (let v : Nat := 2; (let t := 13; (decide (s.sound = true) && (decide (s.smoulder = false) &&
      (decide (s.hearsPlain r = true) && (decide (t ≤ 14) && (let f := famOfTable (0x40 + t); (decide (s.bankState f ≠ 1) &&
      (decide (s.bankState f ≠ 2) && (decide ((t = 1 ∨ t = 3 ∨ (5 ≤ t ∧ t ≤ 10) ∨ t = 12 ∨ t = 13)) && (decide (isPow2 v = true) &&
      (decide (v ≤ maxTiles (0x40 + t)) && (decide (s.tilesUsed + v - s.tiles (0x40 + t) (s.shadowOf f) ≤ 256)))))))))))))))) &&
    (let s : State := k1; (let i := 1; (decide (s.sound = true) && (decide (s.smoulder = false) && (decide (i ≤ 1) && (let f := 0x200 + i;
      (decide (s.famHeld f = false) && (let o := writeOp (Obj.at_ Od.aeCodeClear 0 i) 1; (hearable s o))))))))) &&
    (let s : State := k1; (let i := 0; (let addr := 0x3005; (let w := w0; (let v : Nat := addr * 2 ^ 8080 + 1 * 2 ^ 8064 + w * 2 ^ 7872;
      (decide (s.sound = true) && (decide (s.smoulder = false) && (decide (i ≤ 1) && (let f := 0x200 + i; (decide (s.famHeld f = false) &&
      (let o := writeOp (Obj.at_ Od.aeCodeBlock 0 i) v; (hearable s o && (decide (v = addr * 2 ^ 8080 + 1 * 2 ^ 8064 + w * 2 ^ 7872) &&
      (decide (w < 2 ^ 192) && (decide (inRegion addr = true) && (decide (wordReason i s.exports addr w = 0))))))))))))))))) &&
    (let s : State := k1; (let i := 1; (let op := 0xFF; (let target := 0x3005; (let v : Nat := op * 2 ^ 56 + 2 ^ 31 + target * 2 ^ 16;
      (decide (s.sound = true) && (decide (s.smoulder = false) && (decide (i ≤ 1) && (let f := 0x200 + i; (decide (s.famHeld f = false) &&
      (let o := writeOp (Obj.at_ Od.aeDispatchEntry 0 i) v; (hearable s o && (decide (0xC0 ≤ op) && (decide (op ≤ 0xFF) &&
      (decide (inRegion target = true) && (decide (v = op * 2 ^ 56 + 2 ^ 31 + target * 2 ^ 16)))))))))))))))))) = true := by decide +kernel

end Keys

namespace Checks

def none_ : Address := { inst := 0, index := 0xC000, sub := 2 }
def cu : Address := { inst := 0, index := 0xC005, sub := 1 }
def rw := Obj.at_ Od.ecmpSeed 0 0
def pe := up.addChange 9 rw 5 false (up.principal (up.sessionOf ask.session))
def ev : EventSource := { enable := true, wake := false, priority := 0, targetKind := 2, target := 5, state := 1, lost := 0, takenKind := 0, takenBy := 0 }
def u1 := up.setSource 0x148 ev
def ta := Obj.at_ Od.timerClaim (dieInst 3) 15
def q1 := (up.wr Od.wqCq 2 (wqInst 0 3)).wr Od.cqState 1 (cqInst 0 2)
def q2 := (q1.wr Od.wqState 1 (wqInst 0 3)).setWq 0 3 { q1.wq 0 3 with inflight := [{ last := 0, batch := false, user := 0, token := 1, result := none }] }
def p1 := up.wr Od.poolCount 8 0 5

theorem test_witness_CheckOrder :
    ((let s : State := up; (let r : Req := ask; (let a : Address := none_; (let len := 4; (decide (s.sound = true) && (decide (s.hearsPlain r = true) &&
      (decide (s.smoulder = false) && (let x := s.sessionOf r.session; (decide (s.object? x a = none) && (decide (len ≤ 1376))))))))))) &&
    (let s : State := up; (let r : Req := ask; (let a : Address := Obj.at_ Od.evcEoi 0 0; (decide (s.sound = true) &&
      (decide (s.hearsPlain r = true) && (decide (s.smoulder = false) && (let x := s.sessionOf r.session;
      (match s.object? x a with | some ob => (decide (copyFamilyOf a = none) && (decide (¬(a.index = 0x1011 ∧ a.sub = 3)) && (decide (ob.critical = false) && (decide (ob.accessAt a = .wo))))) | _ => false)))))))) &&
    (let s : State := up; (let r : Req := ask; (let a : Address := cu; (let v := 0; (let t := up; (decide (s.sound = true) &&
      (decide (s.hearsPlain r = true) && (decide (s.smoulder = false) && (let x := s.sessionOf r.session;
      (match s.object? x a with | some ob => (decide (copyFamilyOf a = none) && (decide (¬(a.index = 0x1011 ∧ a.sub = 3)) && (decide (ob.critical = false) && (decide (ob.accessAt a ≠ .wo) && (decide (s.readValue x ob a = (.ok, v, t))))))) | _ => false)))))))))) &&
    (let s : State := up; (let r : Req := ask; (let a : Address := Obj.at_ Od.bootStage 0 0; (let len := 4; (decide (s.sound = true) &&
      (decide (s.hearsPlain r = true) && (decide (s.smoulder = false) && (let x := s.sessionOf r.session;
      (match s.object? x a with | some ob => (decide (copyFamilyOf a = none) && (decide (¬(a.index = 0x1011 ∧ a.sub = 3)) && (decide (ob.critical = false) && (decide (len ≤ 1376) && (decide (ob.accessAt a = .ro ∨ ob.accessAt a = .rwe)))))) | _ => false))))))))) &&
    (let s : State := up; (let r : Req := ask; (let a : Address := cu; (let len := 63; (decide (s.sound = true) && (decide (s.hearsPlain r = true) &&
      (decide (s.smoulder = false) && (let x := s.sessionOf r.session;
      (match s.object? x a with | some ob => (decide (copyFamilyOf a = none) && (decide (¬(a.index = 0x1011 ∧ a.sub = 3)) && (decide (ob.critical = false) && (decide (ob.accessAt a = .rw) && (decide (¬(a.index = 0x1100 ∧ a.sub = 3)) && (decide (len ≤ 1376) && (decide (len ≠ ob.type.size)))))))) | _ => false))))))))) &&
    (let s : State := up; (let r : Req := ask; (let a : Address := Obj.at_ Od.throttleStepLimit 0 0; (let len := 1; (let v := 9;
      (decide (s.sound = true) && (decide (s.hearsPlain r = true) && (decide (s.smoulder = false) && (let x := s.sessionOf r.session;
      (match s.object? x a with | some ob => (decide (copyFamilyOf a = none) && (decide (¬(a.index = 0x1011 ∧ a.sub = 3)) && (decide (ob.critical = false) && (decide (ob.accessAt a = .rw) && (decide (¬(a.index = 0x1100 ∧ a.sub = 3)) && (decide (len ≤ 1376) && (decide (len = ob.type.size) && (decide (ob.permit.allows ob.type v = false))))))))) | _ => false)))))))))) &&
    (let s : State := up; (let r : Req := ask; (let a : Address := cu; (let len := 64; (let v := 2 ^ 512 - 1; (decide (s.sound = true) &&
      (decide (s.hearsPlain r = true) && (decide (s.smoulder = false) && (let x := s.sessionOf r.session;
      (match s.object? x a with | some ob => (decide (copyFamilyOf a = none) && (decide (¬(a.index = 0x1011 ∧ a.sub = 3)) && (decide (ob.critical = false) && (decide (ob.accessAt a = .rw) && (decide (¬(a.index = 0x1100 ∧ a.sub = 3)) && (decide (len ≤ 1376) && (decide (0xC000 ≤ a.index) && (decide (a.index < 0xE000) && (decide (len = 64) && (decide (v < 2 ^ 512))))))))))) | _ => false)))))))))) &&
    (let s : State := up; (let r : Req := ask; (let a : Address := rw; (let v := 9; (let epoch := 2; (decide (s.sound = true) &&
      (decide (s.hearsPlain r = true) && (decide (s.smoulder = false) && (let x := s.sessionOf r.session;
      (match s.object? x a with | some ob => (decide (copyFamilyOf a = none) && (decide (¬(a.index = 0x1011 ∧ a.sub = 3)) && (decide (ob.critical = false) && (decide (ob.accessAt a = .rwe) && (decide (v < 256 ^ ob.type.size) && (decide (ob.type.allows v = true) && (decide (ob.permit.allows ob.type v = true) && (decide (ob.type.size ≤ 1376) && (decide (s.resolveEpoch epoch = none)))))))))) | _ => false)))))))))) &&
    (let s : State := up; (let r : Req := ask; (let a : Address := rw; (let v := 9; (let epoch := 9; (decide (s.sound = true) &&
      (decide (s.hearsPlain r = true) && (decide (s.smoulder = false) && (let x := s.sessionOf r.session;
      (match s.object? x a with | some ob => (decide (copyFamilyOf a = none) && (decide (¬(a.index = 0x1011 ∧ a.sub = 3)) && (decide (ob.critical = false) && (decide (ob.accessAt a = .rwe) && (decide (v < 256 ^ ob.type.size) && (decide (ob.type.allows v = true) && (decide (ob.permit.allows ob.type v = true) && (decide (ob.type.size ≤ 1376) && (match s.resolveEpoch epoch with | some e => (decide (s.changeRoom = true) && (decide (a.index < 0x7000) && (decide (swapFamily a = none) && (decide (a.index ≠ 0x2200) && (decide (¬(0x3800 ≤ a.index ∧ a.index < 0x380C)) && (decide (s.scoped x a = a) && (decide (s.checkForwarding a v = .ok)))))))) | _ => false))))))))) | _ => false)))))))))) &&
    (let s : State := pe; (let r : Req := ask; (let a : Address := rw; (let v := 9; (decide (s.sound = true) && (decide (s.hearsPlain r = true) &&
      (decide (s.smoulder = false) && (let x := s.sessionOf r.session;
      (match s.object? x a with | some ob => (decide (copyFamilyOf a = none) && (decide (¬(a.index = 0x1011 ∧ a.sub = 3)) && (decide (ob.critical = false) && (decide (ob.accessAt a = .rwe) && (decide (v < 256 ^ ob.type.size) && (decide (ob.type.allows v = true) && (decide (ob.permit.allows ob.type v = true) && (decide (ob.type.size ≤ 1376) && (match s.newestPending a with | some c => true | _ => false))))))))) | _ => false))))))))) &&
    (let s : State := up; (let r : Req := ask; (let a : Address := rw; (let v := 9; (decide (s.sound = true) && (decide (s.hearsPlain r = true) &&
      (decide (s.smoulder = false) && (let x := s.sessionOf r.session;
      (match s.object? x a with | some ob => (decide (copyFamilyOf a = none) && (decide (¬(a.index = 0x1011 ∧ a.sub = 3)) && (decide (ob.critical = false) && (decide (ob.accessAt a = .rwe) && (decide (v < 256 ^ ob.type.size) && (decide (ob.type.allows v = true) && (decide (ob.permit.allows ob.type v = true) && (decide (ob.type.size ≤ 1376) && (decide (s.newestPending a = none)))))))))) | _ => false)))))))))) = true := by decide +kernel

theorem test_witness_EventRows :
    ((let s : State := u1; (let r : Req := ask; (let h : Nat := 0; (let f : Nat := 0; (decide (s.sound = true) && (decide (s.hearsPlain r = true) &&
      (decide (s.smoulder = false) && (decide (r.session = .pcie h f) &&
      (match s.bestMasked (s.fnOf h f) with | some (key, e) => true | _ => false))))))))) &&
    (let s : State := up; (let r : Req := ask; (let h : Nat := 0; (let f : Nat := 0; (decide (s.sound = true) && (decide (s.hearsPlain r = true) &&
      (decide (s.smoulder = false) && (decide (r.session = .pcie h f) && (decide (s.bestMasked (s.fnOf h f) = none)))))))))) &&
    (let s : State := u1.activate 0x148 2 5; (let r : Req := ask; (let h : Nat := 0; (let f : Nat := 0; (let v : Nat := 0x148;
      (decide (s.sound = true) && (decide (s.hearsPlain r = true) && (decide (s.smoulder = false) && (decide (r.session = .pcie h f) &&
      (decide (v < 32768) && (decide ((s.source v).state = 3) && (decide ((s.source v).takenKind = 2) &&
      (decide ((s.source v).takenBy / 256 = s.fnOf h f)))))))))))))) &&
    (let s : State := up; (let r : Req := ask; (let h : Nat := 0; (let f : Nat := 0; (let v : Nat := 2 ^ 63 + 3 * 2 ^ 48 + 2 * 2 ^ 46 + 9 * 2 ^ 32;
      (let d := 0; (let n := 0x148; (decide (s.sound = true) && (decide (s.hearsPlain r = true) && (decide (s.smoulder = false) &&
      (decide (r.session = .pcie h f) && (decide (s.hasDie d = true) && (decide (s.sourceExists d n = true) && (decide (0x100 ≤ n) &&
      (decide (n < 0x160) && (decide (v < 2 ^ 64) && (decide (s.badSource d n v = false) && (decide (bitOf v 62 = false) &&
      (let e := s.source (d * 4096 + n); (decide (e.state = 0))))))))))))))))))))) &&
    (let s : State := up.claimed ta (up.principal (up.sessionOf ask.session)) 1; (let r : Req := ask; (let h : Nat := 0; (let f : Nat := 0;
      (let d := 3; (let t := 15; (decide (s.sound = true) && (decide (s.hearsPlain r = true) && (decide (s.smoulder = false) &&
      (decide (r.session = .pcie h f) && (let x := s.sessionOf r.session; (let p := s.principal x; (decide (s.hasDie d = true) && (decide (t < 16) &&
      (let a := Obj.at_ Od.timerClaim (dieInst d) t; (decide (s.heldByOther (addrKey a) p = false) &&
      (decide ((s.holder (addrKey a)).isSome = true)))))))))))))))))) &&
    (let s : State := up.claimed ta 99 1; (let r : Req := ask; (let h : Nat := 0; (let f : Nat := 0; (let v : Nat := 1; (let d := 3; (let t := 15;
      (decide (s.sound = true) && (decide (s.hearsPlain r = true) && (decide (s.smoulder = false) && (decide (r.session = .pcie h f) &&
      (let x := s.sessionOf r.session; (let p := s.principal x; (decide (s.hasDie d = true) && (decide (t < 16) &&
      (let a := Obj.at_ Od.timerClaim (dieInst d) t; (decide (s.heldByOther (addrKey a) p = true) && (decide (v ≤ 1)))))))))))))))))))) = true := by decide +kernel

theorem test_witness_QueueEnables :
    ((let s : State := q1; (let r : Req := ask; (let h : Nat := 0; (let f : Nat := 0; (let q : Nat := 3; (decide (s.sound = true) &&
      (decide (s.hearsPlain r = true) && (decide (s.smoulder = false) && (decide (r.session = .pcie h f) && (decide (q < 1024) &&
      (let fn := s.fnOf h f; (decide (s.rd Od.wqState (wqInst fn q) = 0) && (decide (s.rd Od.cqState (cqInst fn (s.rd Od.wqCq (wqInst fn q))) = 1) &&
      (decide (s.rd Od.cqKind (cqInst fn (s.rd Od.wqCq (wqInst fn q))) = 0))))))))))))))) &&
    (let s : State := q2; (let r : Req := ask; (let h : Nat := 0; (let f : Nat := 0; (let q : Nat := 3; (decide (s.sound = true) &&
      (decide (s.hearsPlain r = true) && (decide (s.smoulder = false) && (decide (r.session = .pcie h f) && (decide (q < 1024) &&
      (let fn := s.fnOf h f; (decide (s.rd Od.wqState (wqInst fn q) = 1) && (decide ((s.wq fn q).chain = none) &&
      (decide ((s.wq fn q).inflight ≠ []))))))))))))))) &&
    (let s : State := q1.wr Od.wqState 2 (wqInst 0 3); (let r : Req := ask; (let h : Nat := 0; (let f : Nat := 0; (let q : Nat := 3;
      (decide (s.sound = true) && (decide (s.hearsPlain r = true) && (decide (s.smoulder = false) && (decide (r.session = .pcie h f) &&
      (decide (q < 1024) && (let fn := s.fnOf h f; (decide (s.rd Od.wqState (wqInst fn q) = 2))))))))))))) &&
    (let s : State := up; (let r : Req := ask; (let h : Nat := 0; (let f : Nat := 0; (let q : Nat := 3; (decide (s.sound = true) &&
      (decide (s.hearsPlain r = true) && (decide (s.smoulder = false) && (decide (r.session = .pcie h f) && (decide (q < 1024) &&
      (let fn := s.fnOf h f; (decide (s.rd Od.cqState (cqInst fn q) = 0) && (decide (s.rd Od.cqKind (cqInst fn q) ≠ 1)))))))))))))) &&
    (let s : State := q1; (let r : Req := ask; (let h : Nat := 0; (let f : Nat := 0; (let q : Nat := 2; (decide (s.sound = true) &&
      (decide (s.hearsPlain r = true) && (decide (s.smoulder = false) && (decide (r.session = .pcie h f) && (decide (q < 1024) &&
      (let fn := s.fnOf h f; (decide (s.rd Od.cqState (cqInst fn q) = 1) &&
      (((List.range (1024)).all fun w => decide (s.rd Od.wqCq (wqInst fn w) = q → s.rd Od.wqState (wqInst fn w) = 0)) &&
      (decide ((s.cq fn q).hold = []) && (decide ((s.cq fn q).reports = []) && (decide (s.cqNamed fn q = false))))))))))))))))) &&
    (let s : State := p1; (let r : Req := ask; (let h : Nat := 0; (let f : Nat := 0; (let q : Nat := 3; (let k := 5; (decide (s.sound = true) &&
      (decide (s.hearsPlain r = true) && (decide (s.smoulder = false) && (decide (r.session = .pcie h f) && (decide (q < 1024) && (decide (k < 64) &&
      (decide (s.rd Od.poolState 0 k = 0) && (decide (s.rd Od.poolCount 0 k ≠ 0) && (decide (s.poolFits k = true)))))))))))))))) &&
    (let s : State := p1.wr Od.poolState 2 0 5; (let r : Req := ask; (let h : Nat := 0; (let f : Nat := 0; (let q : Nat := 3; (let k := 5;
      (decide (s.sound = true) && (decide (s.hearsPlain r = true) && (decide (s.smoulder = false) && (decide (r.session = .pcie h f) &&
      (decide (q < 1024) && (decide (k < 64) && (decide (s.rd Od.poolState 0 k = 2)))))))))))))) &&
    (let s : State := p1.wr Od.poolState 1 0 5; (let r : Req := ask; (let h : Nat := 0; (let f : Nat := 0; (let q : Nat := 3; (let k := 5;
      (decide (s.sound = true) && (decide (s.hearsPlain r = true) && (decide (s.smoulder = false) && (decide (r.session = .pcie h f) &&
      (decide (q < 1024) && (decide (k < 64) && (decide (s.rd Od.poolState 0 k = 1))))))))))))))) = true := by decide +kernel

end Checks

namespace Starts

def k1 := keyed up
def r0 := State.reset
def tripped : State := { up with recov := { up.recov with trip := true } }
def due : State := { up with boot := { up.boot with resetDue := true } }
def r1 : State := { r0 with boot := { r0.boot with started := true } }
def hd : List Byte := wireNum false 4 0x4C444E4B ++ leBytes 2 1 ++ leBytes 2 1 ++ leBytes 4 8192 ++ leBytes 4 77 ++ leBytes 4 88 ++ leBytes 4 99 ++ [7#8, 0#8] ++ leBytes 6 0 ++ [1#8,0#8,0#8,0#8] ++ leBytes 4 4096 ++ leBytes 4 4096
def fa : ImageFacts := { selfTest := true, readable := true, header := hd ++ List.replicate 600 0, restZero := true, signature := true, digests := true, decrypts := true, patchLevel := 3, digest := 5 }
def fb : ImageFacts := { fa with signature := false }
def r2 : State := { r1 with boot := { r1.boot with attempt := 1 } }
def r3 : State := { r1 with boot := { r1.boot with attempt := 3, second := true } }
def r4 : State := { r1 with time := { r1.time with up := 1500000000 } }
def v1 := up.setFwSlot 1 2
def v2 : State := { up with boot := { up.boot with activating := some 1, slotVersion := [(1, 44)] } }
def pw (st step tgt : Nat) : State := let s := up.wr Od.powerState st; { s with power := { s.power with entryStep := step, target := tgt } }
def dr := ((pw 3 1 4).wr Od.portMode 5 (portInst 65)).wr Od.portEnable 1 (portInst 65) |>.wr Od.portState 4 (portInst 65)
def td : State := { up with power := { up.power with decided := [(3, 2)] } }
def tr : State := let s := up.wr Od.searchThrottleStep 1 (dieInst 3);
      { s with power := { s.power with coolSince := [(3, 0)] }, time := { s.time with up := 10000000 } }
def t2 (h : Int) : State := let s := tr.wr Od.searchThrottleStep 2 (dieInst 3); { s with power := { s.power with hottest := [(3, h)] } }
def ro (l : List Nat) : State := { up with power := { up.power with railsOut := l }}

theorem test_witness_EngineResets :
    ((let s : State := up; (let us := 10; (decide (s.sound = true) && (decide (10 ≤ us) && (decide (s.recov.trip = false)))))) &&
    (let s : State := tripped; (let us := 10; (decide (s.sound = true) && (decide (10 ≤ us) && (decide (s.recov.trip = true)))))) &&
    (let s : State := up; (let us := 9; (decide (s.sound = true) && (decide (us < 10))))) &&
    (let s : State := due; (decide (s.sound = true) && (decide (s.stopped = false) && (decide (s.boot.resetDue = true))))) &&
    (let s : State := up; (decide (s.sound = true) && (decide (s.extest = false)))) &&
    (let s : State := up; (decide (s.sound = true) && (decide (s.rd Od.powerState = 0)))) &&
    (let s : State := ro [5]; (let rail := 5; (decide (s.sound = true) && (decide (s.power.railsOut = [rail]) && (decide (s.extest = false))))))) = true := by decide +kernel

theorem test_witness_JtagRows :
    (true &&
    true &&
    (let rsvd := 1; (decide (rsvd ≠ 0))) &&
    (let s : State := up; (let key := 2 ^ 256 - 1; (decide (s.stopped = false) && (decide (s.power.railsOut = []) && (decide (s.hostUp = true) &&
      (decide (s.smoulder = false) && (decide (s.dict.live.security = 0) && (decide (key < 2 ^ 256))))))))) &&
    (let s : State := k1; (decide (s.stopped = false) && (decide (s.power.railsOut = []) && (decide (s.hostUp = true) &&
      (decide (s.smoulder = false) && (decide (s.slotState 1 ≠ 0)))))))) = true := by decide +kernel

theorem test_witness_KindlingRows :
    ((let s : State := r0; (decide (s.sound = true) && (decide (s.stopped = false) && (decide (s.boot.started = false) &&
      (decide (s.rd Od.bootStage = 0) && (decide (s.rd Od.resetCause ≠ 5))))))) &&
    (let s : State := r1; (let f := fa; (let i := 0; (decide (s.sound = true) && (decide (s.stopped = false) && (decide (i < 2) &&
      (decide (s.boot.started = true) && (decide (s.rd Od.bootStage = 0) && (decide (s.boot.attempt = i) &&
      (let slot := (if i = 0 then s.boot.flash0.preferred else 1 - s.boot.flash0.preferred);
      (decide (s.bootCode (s.boot.flash0.slot slot) f = 0)))))))))))) &&
    (let s : State := r2; (let f := fb; (let i := 1; (decide (s.sound = true) && (decide (s.stopped = false) && (decide (i < 2) &&
      (decide (s.boot.started = true) && (decide (s.rd Od.bootStage = 0) && (decide (s.boot.attempt = i) &&
      (let slot := (if i = 0 then s.boot.flash0.preferred else 1 - s.boot.flash0.preferred); (decide (s.bootCode (s.boot.flash0.slot slot) f ≠ 0) &&
      (decide (s.bootCode (s.boot.flash0.slot slot) f ≠ 9))))))))))))) &&
    (let s : State := r3; (let f := fb; (decide (s.sound = true) && (decide (s.stopped = false) && (decide (s.boot.started = true) &&
      (decide (s.rd Od.bootStage = 0) && (decide (s.boot.attempt = 3) && (decide (s.boot.second = true) &&
      (decide (s.bootCode (s.boot.flash1.slot (1 - s.boot.flash1.preferred)) f ≠ 0)))))))))) &&
    (let s : State := r4; (decide (s.sound = true) && (decide (s.stopped = false) && (decide (s.boot.claimed = false) &&
      (decide (s.boot.started = true) && (decide (s.rd Od.bootStage = 0) && (decide (s.boot.released + 1500000000 ≤ s.up)))))))) &&
    (let s : State := r1.wr Od.bootStage 1; (decide (s.sound = true) && (decide (s.stopped = false) && (decide (s.rd Od.bootStage = 1))))) &&
    (let s : State := r1.wr Od.bootStage 2; (decide (s.sound = true) && (decide (s.stopped = false) && (decide (s.rd Od.bootStage = 2)))))) = true := by decide +kernel

theorem test_witness_FirmwareOutcomes :
    ((let s : State := v1; (let slot := 1; (let version := 2 ^ 32 - 1; (let svn := 8; (decide (s.stopped = false) && (decide (slot ≤ 1) &&
      (decide (s.fwSlot slot = 2) && (decide (version < 2 ^ 32) && (decide (svn < 2 ^ 32)))))))))) &&
    (let s : State := v1; (let slot := 1; (let code := 255; (decide (s.stopped = false) && (decide (slot ≤ 1) && (decide (s.fwSlot slot = 2) &&
      (decide (code ≠ 0) && (decide (code < 256))))))))) &&
    (let s : State := v2; (decide (s.stopped = false) &&
      (match s.boot.activating with | some k => (match sparseFind? s.boot.slotVersion k with | some v => true | _ => false) | _ => false)))) = true := by decide +kernel

theorem test_witness_PowerRows :
    ((let s : State := pw 3 2 4; (decide (s.sound = true) && (decide (s.stopped = false) && (decide (s.power.entryStep = 2) &&
      (decide (s.rd Od.powerState = 3) && (decide (s.stepDrained = true) && (decide (s.part.dies.all (fun d => s.puntOrder d = []) = true) &&
      (decide (s.ctrs.samples = []))))))))) &&
    (let s : State := pw 1 3 2; (decide (s.sound = true) && (decide (s.stopped = false) && (decide (s.power.entryStep = 3) &&
      (decide (s.power.target = 2) && (decide (s.rd Od.powerState = 1))))))) &&
    (let s : State := pw 3 6 4; (decide (s.sound = true) && (decide (s.stopped = false) && (decide (s.power.entryStep = 6) &&
      (decide (s.rd Od.powerState = 3)))))) &&
    (let s : State := pw 5 4 4; (decide (s.sound = true) && (decide (s.stopped = false) && (let k := s.power.entryStep; (decide (k ≠ 0) &&
      (decide (s.stepDrained = true) && (let s1 := s.endEntryStep; (decide (s1.rd Od.powerState = 5) && (decide (k < 5)))))))))) &&
    (let s : State := pw 5 6 4; (decide (s.sound = true) && (decide (s.stopped = false) && (let k := s.power.entryStep; (decide (k ≠ 0) &&
      (decide (s.stepDrained = true) && (let s1 := s.endEntryStep; (decide (s1.rd Od.powerState = 5) && (decide (5 ≤ k)))))))))) &&
    (let s : State := pw 3 3 4; (decide (s.sound = true) && (decide (s.stopped = false) && (let k := s.power.entryStep; (decide (k ≠ 0) &&
      (decide (s.stepDrained = true) && (let s1 := s.endEntryStep; (decide (s1.rd Od.powerState ≠ 5) && (decide (k = 3) &&
      (decide (s1.power.target ≠ 2))))))))))) &&
    (let s : State := pw 3 1 4; (decide (s.sound = true) && (decide (s.stopped = false) && (let k := s.power.entryStep; (decide (k ≠ 0) &&
      (decide (s.stepDrained = true) && (let s1 := s.endEntryStep; (decide (s1.rd Od.powerState ≠ 5) && (decide (k ≠ 3) &&
      (decide (k ≠ 6))))))))))) &&
    (let s : State := dr; (decide (s.sound = true) && (decide (s.stopped = false) && (decide (s.power.entryStep ≠ 0) &&
      (decide (s.stepDrained = false)))))) &&
    (let s : State := pw 4 0 4; (let us := 1000; (decide (s.sound = true) && (decide (s.stopped = false) && (decide (1000 ≤ us) &&
      (decide (s.rd Od.powerState = 4))))))) &&
    (let s : State := up; (let us := 1000; (decide (s.sound = true) && (decide (s.stopped = false) &&
      (decide (us < 1000 ∨ s.rd Od.powerState = 0)))))) &&
    (let s : State := pw 5 0 2; (decide (s.sound = true) && (decide (s.stopped = false) && (decide (s.rd Od.powerState = 5) &&
      (decide (s.power.entryStep = 0) && (decide (s.power.target = 2))))))) &&
    (let s : State := pw 5 0 4; (decide (s.sound = true) && (decide (s.stopped = false) && (decide (s.rd Od.powerState = 5) &&
      (decide (s.power.entryStep = 0) && (decide (s.power.target = 4))))))) &&
    (let s : State := up; (let d := 3; (let rail := 7; (decide (s.sound = true) && (decide (s.stopped = false) && (decide (s.hasDie d = true) &&
      (decide (rail < 8)))))))) &&
    (let s : State := td; (let d := 3; (decide (s.sound = true) && (decide (s.stopped = false) && (decide (s.hasDie d = true) &&
      (match sparseFind? s.power.decided d with | some k => (decide (s.rd Od.searchThrottleStep (dieInst d) ≠ k)) | _ => false)))))) &&
    (let s : State := up; (let d := 3; (decide (s.sound = true) && (decide (s.stopped = false) && (decide (s.hasDie d = true) &&
      (decide (sparseFind? s.power.decided d = none))))))) &&
    (let s : State := t2 3000; (let d := 3; (decide (s.sound = true) && (decide (s.stopped = false) && (decide (s.hasDie d = true) &&
      (match sparseFind? s.power.coolSince d with | some k => (decide (s.rd Od.throttleMode = 0) && (decide (k + 10000000 ≤ s.up) && (decide (2 ≤ s.stepOf d) && (let s1 := s.decideThrottle d (s.stepOf d - 1); (decide (stepRelax (s.stepOf d - 1) ≤ sparseGet (fun _ => 0) s1.power.hottest d)))))) | _ => false)))))) &&
    (let s : State := t2 100; (let d := 3; (decide (s.sound = true) && (decide (s.stopped = false) && (decide (s.hasDie d = true) &&
      (match sparseFind? s.power.coolSince d with | some k => (decide (s.rd Od.throttleMode = 0) && (decide (k + 10000000 ≤ s.up) && (decide (2 ≤ s.stepOf d) && (let s1 := s.decideThrottle d (s.stepOf d - 1); (decide (sparseGet (fun _ => 0) s1.power.hottest d < stepRelax (s.stepOf d - 1))))))) | _ => false)))))) &&
    (let s : State := tr; (let d := 3; (decide (s.sound = true) && (decide (s.stopped = false) && (decide (s.hasDie d = true) &&
      (match sparseFind? s.power.coolSince d with | some at_ => (decide (s.rd Od.throttleMode = 0) && (decide (at_ + 10000000 ≤ s.up) && (decide (s.stepOf d = 1)))) | _ => false)))))) &&
    (let s : State := up; (let d := 3; (decide (s.sound = true) && (decide (s.stopped = false) && (decide (s.hasDie d = true) && (true))))))) = true := by decide +kernel

theorem test_witness_HeatAndRails :
    ((let s : State := r1; (let d := 3; (decide (s.sound = true) && (decide (s.stopped = false) && (decide (s.hasDie d = true) &&
      (decide (s.rd Od.bootStage = 0))))))) &&
    (let s : State := up; (let d := 3; (decide (s.sound = true) && (decide (s.stopped = false) && (decide (s.hasDie d = true)))))) &&
    (let s : State := up; (let d := 3; (let temp := 1100; (decide (s.sound = true) && (decide (s.hasDie d = true) && (decide (1100 ≤ temp) &&
      (decide (s.recov.trip = false)))))))) &&
    (let s : State := up; (let d := 3; (let temp := 1099; (decide (s.sound = true) && (decide (s.hasDie d = true) &&
      (decide (temp < 1100 ∨ s.recov.trip = true))))))) &&
    (let s : State := up; (let rail := 7; (decide (s.sound = true) && (decide (rail < 8) && (decide (s.power.railsOut.contains rail = false) &&
      (decide (s.rd Od.powerState ≠ 4))))))) &&
    (let s : State := pw 4 0 4; (let rail := 7; (decide (s.sound = true) && (decide (rail < 8) && (decide (s.power.railsOut.contains rail = false) &&
      (decide (s.rd Od.powerState = 4))))))) &&
    (let s : State := ro [7]; (let rail := 7; (decide (s.sound = true) && (decide (rail < 8) && (decide (rail ∈ s.power.railsOut)))))) &&
    (let s : State := up; (let rail := 7; (decide (s.sound = true) && (decide (rail ∉ s.power.railsOut))))) &&
    (let s : State := ro [2, 5]; (let rail := 2; (decide (s.sound = true) && (decide (rail ∈ s.power.railsOut) &&
      (let left := s.power.railsOut.filter (· ≠ rail); (decide (left ≠ []))))))) &&
    (let s : State := ro [7]; (let rail := 7; (decide (s.sound = true) && (decide (rail ∈ s.power.railsOut) &&
      (let left := s.power.railsOut.filter (· ≠ rail); (decide (left = [])))))))) = true := by decide +kernel

end Starts

namespace Functions

def ro := readOp (Obj.at_ Od.bootStage 0 0)
def blk (be : Bool) (n nonce slot ctr : Nat) (o : DictOp) : List Byte := let r := requestRecord be o;
      blockHeader be 1 0 slot 1 0 n nonce 7 r.length ctr ++ r
def mb : List Byte := blk false 0 0 255 0 ro
def um : State := { up with dict := { up.dict with mbxReady := true } }
def mb1 := um.setMailbox 0 { buffer := mb, busy := true, done := false }
def k0 : State := { keyed (up.wr Od.mgmtIpv4 5 (dieInst 0)) with freeCount := 3 }
def ks : KdpSession := { slot := 1, nonce := 77, counter := 0, lastOps := [], lastResults := [], die := 0, heard := 0 }
def k1 : State := { k0 with dict := { k0.dict with kdp := [(1, ks)] } }
def k2 : State := { k1 with time := { k1.time with up := k1.rd Od.kdpSessionIdle * 1000000000 } }
def withCheck (s : State) (m : List Byte) : List Byte := m ++ (hmacSha256 (beBytes 32 (low 256 (s.slotKey 1))) m).take 16
def qi := wqInst 0 3
def q1 : State := (((((up.wr Od.wqState 1 qi).wr Od.wqSize 64 qi).wr Od.wqCq 2 qi).wr Od.cqState 1 (cqInst 0 2)).wr Od.cqSize 64 (cqInst 0 2)).wr Od.wqPi 2 qi
def dd (op user : Nat) (body : Nat) : Nat := op + 2^8 + 2^9 + user * 2^64 + body * 2^128
def body := 96 * 2^144 + mb.length * 2^128 + 0x1000 * 2^64 + 0x2000
def sbody := 9 * 2^96 + 1 * 2^88 + 0x6A00 * 2^72 + 4 * 2^48 + 255 * 2^40 + 55 * 2^128
def sm (a : Address) : State := { up with dict := { up.dict with smbusSelected := some a } }
def kk := keyed up
def cr (o : DictOp) : CritJob := { job := { session := .pcie 0 0, slot := 1, key := 5, counter := 9, tag := 7, critical := true, reply := .row, ops := [o], done := [] }, result := some (OpResult.bare .ok 0), mute := false }
def cs (c : CritJob) : State := { kk with dict := { kk.dict with critQueue := [c] } }

theorem test_witness_FunctionResets :
    ((let s : State := q1; (let h := 1; (let f := 3; (decide (s.sound = true) && (decide (s.stopped = false) && (decide (h < 2) &&
      (decide (f < 4)))))))) &&
    (let s : State := q1; (let h := 1; (decide (s.sound = true) && (decide (s.stopped = false) && (decide (h < 2) &&
      (decide (s.rd Od.pciePairing ≠ 1))))))) &&
    (let s : State := q1.wr Od.pciePairing 1; (let h := 0; (decide (s.sound = true) && (decide (s.stopped = false) && (decide (h < 2) &&
      (decide (s.rd Od.pciePairing = 1) && (decide (s.rd Od.pcieActiveDie = s.hostDie h)))))))) &&
    (let s : State := k2; (let n := 1; (decide (s.sound = true) && (decide (s.stopped = false) &&
      (match sparseFind? s.dict.kdp n with | some k => (decide (k.heard + s.rd Od.kdpSessionIdle * 1000000000 ≤ s.up)) | _ => false))))) &&
    (let s : State := k1; (let n := 1; (decide (s.sound = true) && (decide (s.stopped = false) &&
      (match sparseFind? s.dict.kdp n with | some k => (decide (s.up < k.heard + s.rd Od.kdpSessionIdle * 1000000000)) | _ => false)))))) = true := by decide +kernel

theorem test_witness_Transports :
    ((let s : State := mb1; (let h := 0; (let f := 0; (decide (s.stopped = false) && (decide (s.hostUp = true) && (decide (h < 2) && (decide (f < 4) &&
      (let fn := s.fnOf h f; (decide (s.dict.mbxReady = true) && (decide ((s.mailbox fn).busy = true))))))))))) &&
    (let s : State := um; (let h := 0; (let f := 0; (let bytes := mb; (let o := ro; (decide (s.stopped = false) && (decide (s.hostUp = true) &&
      (decide (h < 2) && (decide (f < 4) && (let fn := s.fnOf h f; (decide (s.dict.mbxReady = true) &&
      (let b := ({ be := false, bytes := slice bytes 0 4096 } : Block); (decide ((s.mailbox fn).busy = false) &&
      (decide (b.plainOf true false o = true) && (decide (copyFamilyOf o.addr = none) && (decide (¬(o.addr.index = 0x1011 ∧ o.addr.sub = 3)) &&
      (let s1 := s.setMailbox fn { buffer := b.bytes, busy := true, done := false };
      (let j := { b.job (s.sessionOf (.pcie h f)) (.mailbox fn b.head) [o] with key := 0 };
      (match s1.doOp j o with | (x, t) => true))))))))))))))))))) &&
    (let s : State := k1; (let d := 0; (let bytes := []; (decide (s.stopped = false) && (decide (s.hostUp = true) && (decide (s.hasDie d = true) &&
      (decide (s.hearsKdp d = true) && (let b := ({ be := true, bytes := bytes } : Block); (decide (b.known = false)))))))))) &&
    (let s : State := k1; (let d := 0; (let bytes := withCheck k1 (blk true 1 77 1 3 ro); (let o := ro; (decide (s.stopped = false) &&
      (decide (s.hostUp = true) && (decide (s.hasDie d = true) && (decide (s.hearsKdp d = true) && (let b := ({ be := true, bytes := bytes } : Block);
      (decide (b.known = true) && (decide (b.kind = 1) && (decide (b.slot < 8) && (decide (b.critical = false) &&
      (decide (b.ops? false true = some [o]) && (decide (copyFamilyOf o.addr = none) && (decide (¬(o.addr.index = 0x1011 ∧ o.addr.sub = 3)) &&
      (match sparseFind? s.dict.kdp b.session with | some k => (decide (k.nonce = b.nonce) && (decide (k.counter < b.counter) && (decide (s.authentic false false b.slot b.message b.check = true)))) | _ => false))))))))))))))))) &&
    (let s : State := k0; (let d := 0; (let bytes := withCheck k0 (blockHeader true 3 0 1 0 0 0 0 7 0 0); (decide (s.stopped = false) &&
      (decide (s.hostUp = true) && (decide (s.hasDie d = true) && (decide (s.hearsKdp d = true) && (let b := ({ be := true, bytes := bytes } : Block);
      (decide (b.known = true) && (decide (b.kind = 3) && (decide (b.shaped false true = true) && (decide (b.count = 0) && (decide (b.length = 0) &&
      (decide (b.critical = false) && (decide (b.slot < 8) && (decide (s.authentic false false b.slot b.message b.check = true) &&
      (match ((List.range 32).find? fun n => (sparseFind? s.dict.kdp (n + 1)).isNone) with | some n => true | _ => false))))))))))))))))) &&
    (let s : State := k1; (let d := 0; (let bytes := withCheck k1 (blockHeader true 5 0 1 0 0 1 77 7 0 0); (decide (s.stopped = false) &&
      (decide (s.hostUp = true) && (decide (s.hasDie d = true) && (decide (s.hearsKdp d = true) && (let b := ({ be := true, bytes := bytes } : Block);
      (decide (b.known = true) && (decide (b.kind = 5) && (decide (b.shaped false true = true) && (decide (b.count = 0) && (decide (b.length = 0) &&
      (decide (b.critical = false) && (decide (b.slot < 8) &&
      (match sparseFind? s.dict.kdp b.session with | some k => (decide (k.nonce = b.nonce) && (decide (s.authentic false false b.slot b.message b.check = true))) | _ => false)))))))))))))))) &&
    (let s : State := q1.wr Od.wqKind 0 qi; (let h := 0; (let f := 0; (let w := 3; (let d := dd 1 5 body; (let desc := some d; (let block := mb;
      (let o := ro; (decide (s.stopped = false) && (decide (s.hostUp = true) && (decide (h < 2) && (decide (f < 4) && (let fn := s.fnOf h f;
      (decide (sparseRising none s.rings.wqs = true) && (decide (s.takes fn w 0x01 desc d = true) && (decide (dLast d = true) &&
      (let b := ({ be := false, bytes := slice block 0 (bits (dBody d) 143 128) } : Block); (decide (dictOk (dBody d) b = true) &&
      (decide (b.plainOf true true o = true) && (decide (copyFamilyOf o.addr = none) && (decide (¬(o.addr.index = 0x1011 ∧ o.addr.sub = 3)) &&
      (let s1 := ((s.fetched fn w).holdOp fn w (s.wq fn w).fetch (dBatch d) (dUser d)).1;
      (match s1.doOp { b.job (s.sessionOf (.pcie h f)) (.queue fn w s.rings.nextToken (bits (dBody d) 127 64) b.head) [o] with key := 0 } o with | (x, t) => true))))))))))))))))))))))) &&
    (let s : State := q1.wr Od.wqKind 1 qi; (let h := 0; (let f := 0; (let w := 3; (let d := dd 0x13 5 sbody; (let desc := some d;
      (decide (s.stopped = false) && (decide (s.hostUp = true) && (decide (h < 2) && (decide (f < 4) && (let fn := s.fnOf h f;
      (decide (sparseRising none s.rings.wqs = true) && (decide (s.takes fn w 0x13 desc d = true) && (decide (dLast d = true) &&
      (decide (scheduleOk (dBody d) = true) && (decide (bits (dBody d) 47 40 = 255) && (decide (copyFamilyOf (scheduleOp (dBody d)).addr = none) &&
      (decide (¬((scheduleOp (dBody d)).addr.index = 0x1011 ∧ (scheduleOp (dBody d)).addr.sub = 3)) &&
      (let s1 := ((s.fetched fn w).holdOp fn w (s.wq fn w).fetch (dBatch d) (dUser d)).1;
      (let j := ({ session := s.sessionOf (.pcie h f), slot := 255, key := 0, counter := bits (dBody d) 255 192, tag := 0, critical := false, reply := .schedule fn w s.rings.nextToken, ops := [scheduleOp (dBody d)], done := [] } : Job);
      (match s1.doOp j (scheduleOp (dBody d)) with | (x, t) => true))))))))))))))))))))) &&
    (let s : State := um; (decide (s.stopped = false) && (decide (s.hostUp = true) && (decide (s.dict.smbusSelected = none))))) &&
    (let s : State := sm (Obj.at_ Od.bootStage 0 0); (decide (s.stopped = false) && (decide (s.hostUp = true) &&
      (match s.dict.smbusSelected with | some a => (let j := ({ session := .smbus, slot := 255, key := 0, counter := 0, tag := 0, critical := false, reply := .row, ops := [], done := [] } : Job); (match s.doOp j (readOp a) with | (x, t) => true)) | _ => false)))) &&
    (let s : State := sm (Obj.at_ Od.throttleStepLimit 0 0); (let data := [2]; (decide (s.stopped = false) && (decide (s.hostUp = true) &&
      (match s.dict.smbusSelected with | some a => (let j := ({ session := .smbus, slot := 255, key := 0, counter := 0, tag := 0, critical := false, reply := .row, ops := [], done := [] } : Job); (decide (a.index ≠ 0x1100) && (decide (a.index ≠ 0x1011) && (match s.doOp j { op := 2, addr := a, len := data.length, value := valueOf false a data, epoch := 0 } with | (x, t) => true)))) | _ => false)))))) = true := by decide +kernel

theorem test_witness_CommitsAnswer :
    ((let s : State := cs (cr (writeOp (Obj.at_ Od.throttleMode 0 0) 1)); (decide (s.stopped = false) &&
      (match s.dict.critQueue with | [c] => (match c.result with | some r => (match c.job.ops with | [o] => (decide (c.mute = false) && (decide (c.job.reply = .row) && (decide (isFunction c.job.session = true) && (decide (o.addr.index ≠ 0x1100) && (decide (o.addr.index ≠ 0x1011) && (decide (o.addr.index ≠ 0xB001))))))) | _ => false) | _ => false) | _ => false))) &&
    (let s : State := cs (cr (writeOp (Obj.at_ Od.engineReset 0 0) 1)); (decide (s.stopped = false) &&
      (match s.dict.critQueue with | [c] => (match c.result with | some r => (match c.job.ops with | [o] => (decide (c.mute = false) && (decide (c.job.reply = .row) && (decide (isFunction c.job.session = true) && (decide (o.addr.index ≠ 0x1100) && (decide (o.op = 2) && (decide (o.addr = Obj.at_ Od.engineReset 0 0) && (decide (r.status = .ok)))))))) | _ => false) | _ => false) | _ => false)))) = true := by decide +kernel

end Functions

namespace Times

def p2 := up.wr Od.timeSource 2
def td (n : Nat) : State := { p2 with time := { p2.time with tod := some (99 * 2^48, n) } }
def p3 := p2.wr Od.timeState 2
def p4 : State := { p3 with time := { p3.time with todKnown := true, now := 65536 * 1000000500, up := 1000000500 } }
def p5 : State := { p4 with time := { p4.time with missedPps := 2 } }
def a1 := (up.wr Od.timeSource 1).wr Od.timeState 1
def pt := (up.wr Od.ptpPortEnable 1 (portInst 511)).wr Od.timeSource 1
def ac := up.wr Od.timeState 1
def ac15 : State := { ac with time := { ac.time with goodCount := 15 } }
def ds : State := { up with time := { up.time with epoch := 9, now := 9 * 128000 * 65536, decided := some (-1000000*65536, 9) } }
def ds2 := ds.wr Od.epochLengthInForce 128
def b0 := up.wr Od.epochLengthInForce 128
def chg (a : Address) (v : Nat) (s : State) : State := s.addChange 1 a v false 65536
def b1 := chg (Obj.at_ Od.ecmpSeed 0 0) 77 b0
def hd (g : List Nat) : Hold := { fam := 0x30, bank := 0, epoch := 1, inst := 0, index := 0x3000, sub := 1, gens := g, lastSeq := 0 }
def b3 (e : Nat) (g : List Nat) : State := { b0 with time := { b0.time with epoch := e }, sched := { b0.sched with holds := [hd g] } }

theorem test_witness_TimeSources :
    ((let s : State := up; (let h := 1; (decide (s.sound = true) && (decide (h ≠ s.time.master))))) &&
    (let s : State := up; (decide (s.sound = true) && (true && (decide (s.rd Od.timeSource ≠ 2))))) &&
    (let s : State := td 1; (let v := 99 * 2 ^ 48; (decide (s.sound = true) && (decide (s.rd Od.timeSource = 2) &&
      (decide (s.time.tod = some (v, 1))))))) &&
    (let s : State := td 2; (let v := 99 * 2 ^ 48; (decide (s.sound = true) && (decide (s.rd Od.timeSource = 2) &&
      (decide (s.time.tod = some (v, 2))))))) &&
    (let s : State := p4; (decide (s.sound = true) && (decide (s.rd Od.timeSource = 2) && (decide (s.time.tod = none) &&
      (decide (s.time.todKnown = true) && (decide (s.rd Od.timeState = 1 ∨ s.rd Od.timeState = 2))))))) &&
    (let s : State := p4; (decide (s.sound = true) && (decide (s.rd Od.timeSource = 2) && (decide (s.time.missedPps < 2))))) &&
    (let s : State := p5; (decide (s.sound = true) && (decide (s.rd Od.timeSource = 2 ∧ 2 ≤ s.time.missedPps) &&
      (decide (s.rd Od.timeState = 2 ∨ (s.rd Od.timeState = 1 ∧ s.time.lockedOnce = true)))))) &&
    (let s : State := a1; (decide (s.sound = true) && (decide (s.rd Od.timeSource = 1) && (decide (s.rd Od.timeState = 1) &&
      (decide (s.time.lockedOnce = false)))))) &&
    (let s : State := (up.wr Od.freqSource 2).wr Od.timeState 3; (decide (s.sound = true) && (decide (s.rd Od.freqSource = 2) &&
      (decide (s.rd Od.timeState = 0 ∨ s.rd Od.timeState = 3))))) &&
    (let s : State := up; (let n := 511; (decide (s.sound = true) && (decide (s.stopped = false) && (decide (n < 512) &&
      (decide (s.hasDie (n / 64) = true) && (decide (s.rd Od.ptpPortEnable (portInst n) = 0)))))))) &&
    (let s : State := pt; (let n := 511; (decide (s.sound = true) && (decide (s.stopped = false) && (decide (n < 512) &&
      (decide (s.hasDie (n / 64) = true) && (decide (s.rd Od.ptpPortEnable (portInst n) ≠ 0) && (decide (s.rd Od.timeSource = 1) &&
      (decide (s.rd Od.timeState = 0 ∨ s.rd Od.timeState = 3)))))))))) &&
    (let s : State := p3; (decide (s.sound = true) && (decide (s.rd Od.timeState = 2)))) &&
    (let s : State := up; (decide (s.sound = true) && (decide (s.rd Od.timeState = 0 ∨ s.rd Od.timeState = 3)))) &&
    (let s : State := ac; (let x : Int := 50 * 65536 + 1; (decide (s.sound = true) && (decide (s.rd Od.timeState = 1) &&
      (decide (x.natAbs ≤ s.rd Od.stepThreshold * 65536) && (decide (50 * 65536 < x.natAbs))))))) &&
    (let s : State := ac; (let x : Int := 50 * 65536; (decide (s.sound = true) && (decide (s.rd Od.timeState = 1) &&
      (decide (x.natAbs ≤ s.rd Od.stepThreshold * 65536) && (decide (x.natAbs ≤ 50 * 65536) && (decide (s.time.goodCount < 15)))))))) &&
    (let s : State := ac15; (let x : Int := 5; (decide (s.sound = true) && (decide (s.rd Od.timeState = 1) &&
      (decide (x.natAbs ≤ s.rd Od.stepThreshold * 65536) && (decide (x.natAbs ≤ 50 * 65536) && (decide (s.time.goodCount = 15)))))))) &&
    (let s : State := ac; (let x : Int := (s.rd Od.stepThreshold * 65536 + 1 : Nat); (decide (s.sound = true) && (decide (s.rd Od.timeState = 1) &&
      (decide (s.rd Od.stepThreshold * 65536 < x.natAbs) && (decide (x.natAbs ≤ s.rd Od.stepLimit * 65536))))))) &&
    (let s : State := ({ ac with time := { ac.time with steppedOnce := true } } : State); (let x : Int := (s.rd Od.stepLimit * 65536 + 1 : Nat);
      (decide (s.sound = true) && (decide (s.rd Od.timeState = 1) && (decide (s.rd Od.stepThreshold * 65536 < x.natAbs) &&
      (decide (s.rd Od.stepLimit * 65536 < x.natAbs) && (decide (s.time.steppedOnce = true)))))))) &&
    (let s : State := up.wr Od.ppsOutFunction 1; (decide (s.sound = true) && (decide (s.rd Od.ppsOutFunction = 1)))) &&
    (let s : State := up.wr Od.ppsOutFunction 2; (decide (s.sound = true) && (decide (s.rd Od.ppsOutFunction = 2) &&
      (decide (s.ppsEpoch % s.rd Od.ppsOutDivider = 0))))) &&
    (let s : State := ((up.wr Od.ppsOutFunction 2).wr Od.ppsOutDivider 2).wr Od.ppsOutOffset (2^32 - 128000); (decide (s.sound = true) &&
      (decide (s.rd Od.ppsOutFunction = 2) && (decide (s.ppsEpoch % s.rd Od.ppsOutDivider ≠ 0))))) &&
    (let s : State := up; (decide (s.sound = true) && (decide (s.rd Od.ppsOutFunction = 0))))) = true := by decide +kernel

theorem test_witness_EpochsAndSteps :
    ((let s : State := ({ ds2 with time := { ds2.time with epoch := 8 } } : State); (decide (s.sound = true) && (decide (s.stopped = false) &&
      (match s.time.decided with | some (x, b) => (decide (s.time.epoch < b)) | _ => false)))) &&
    (let s : State := ds2; (decide (s.sound = true) && (decide (s.stopped = false) &&
      (match s.time.decided with | some (x, b) => (decide (b ≤ s.time.epoch)) | _ => false)))) &&
    (let s : State := ({ ds2 with time := { ds2.time with held := true } } : State); (decide (s.sound = true) && (decide (s.stopped = false) &&
      (decide (s.time.held = true))))) &&
    (let s : State := b0; (decide (s.sound = true) && (decide (s.stopped = false) && (decide (s.time.held = false) && (decide (s.rings.ops = []) &&
      (decide (s.rings.timed = []) && (decide (s.sched.holds = []) && (decide (s.time.decided = none) && (decide (s.learning.pend = []) &&
      (let e := s.time.epoch + 1; (decide ((∀ c ∈ s.sched.changes, e < c.epoch))))))))))))) &&
    (let s : State := b1; (decide (s.sound = true) && (decide (s.stopped = false) && (decide (s.time.held = false) && (decide (s.rings.ops = []) &&
      (decide (s.rings.timed = []) && (decide (s.sched.holds = []) && (decide (s.time.decided = none) && (decide (s.learning.pend = []) &&
      (let e := s.time.epoch + 1;
      (match s.sched.changes with | [c] => (decide (c.epoch = e) && (decide (0x3000 ≤ c.index) && (decide (c.index < 0x7000) && (decide (swapFamily c.addr = none) && (decide (c.commits = none) && (decide (s.rd Od.schedReportCq = 0xFFFF))))))) | _ => false))))))))))) &&
    (let s : State := chg (Obj.at_ Od.parserSwap 0 0) 1 b0; (decide (s.sound = true) && (decide (s.stopped = false) &&
      (decide (s.time.held = false) && (decide (s.rings.ops = []) && (decide (s.rings.timed = []) && (decide (s.sched.holds = []) &&
      (decide (s.time.decided = none) && (decide (s.learning.pend = []) && (let e := s.time.epoch + 1;
      (match s.sched.changes with | [c] => (decide (c.epoch = e) && (decide (sparseRising none s.fams = true) && (decide (c.addr = Obj.at_ Od.parserSwap 0 0) && (decide ((s.fam 0x30).disagree = []) && (decide (s.rd Od.schedReportCq = 0xFFFF)))))) | _ => false))))))))))) &&
    (let s : State := b3 1 [0, 0]; (let d := 3; (let idle := 15; (decide (s.sound = true) && (decide (s.stopped = false) &&
      (decide (s.hasDie d = true) && (decide ((∀ h ∈ (s.reportIdle d idle).sched.holds, s.holdDone h = false))))))))) &&
    (let s : State := b3 9 [12, 14]; (let d := 3; (let idle := 15; (decide (s.sound = true) && (decide (s.stopped = false) &&
      (decide (s.hasDie d = true) && (match (s.reportIdle d idle).sched.holds with | [h] => (decide (s.holdDone h = true)) | _ => false))))))) &&
    (let s : State := b1; (let d := 3; (decide (s.sound = true) && (decide (s.stopped = false) && (decide (s.hasDie d = true) &&
      (match s.sched.changes with | [c] => (decide (d ∉ c.acked)) | _ => false)))))) &&
    (let s : State := b0; (let d := 3; (decide (s.sound = true) && (decide (s.stopped = false) && (decide (s.hasDie d = true) &&
      (decide ((∀ c ∈ s.sched.changes, d ∈ c.acked ∨ s.up < c.accepted + 24000)))))))) &&
    (let s : State := ({ b1 with time := { b1.time with up := 24000 } } : State); (let d := 3; (decide (s.sound = true) &&
      (decide (s.stopped = false) && (decide (s.hasDie d = true) && (decide (s.isFenced d = false) &&
      (decide ((∃ c ∈ s.sched.changes, d ∉ c.acked ∧ c.accepted + 24000 ≤ s.up))))))))) &&
    (let s : State := up; (decide (s.sound = true) && (decide (s.stopped = false) && (decide (s.time.master = 0) &&
      (decide (bitOf (s.reactionMask 0x13 1) 3 = false))))))) = true := by decide +kernel

end Times

namespace Links

def pst (m k : Nat) : State := (up.wr Od.portMode m (portInst 65)).wr Od.portState k (portInst 65)
def auto (s : State) : State := s.wr Od.linkRetrainAuto 1 (portInst 65)
def tr : State := ((up.wr Od.portMode 9 (portInst 65)).wr Od.portEnable 1 (portInst 65)).startTraining 65 false
def late (s : State) : State := { s with time := { s.time with up := 500000000 } }
def np := late (tr.setPortLink 65 { tr.portLink 65 with noPartner := true })
def ab := 2^256 + 0xD3A65C * 2^232 + 1 * 2^228 + 77 * 2^192
def upp : State := (tr.wr Od.portState 2 (portInst 65)).setLaneLink 65 { tr.laneLink 65 with missed := 2, aligned := true }
def al := tr.setLaneLink 65 { tr.laneLink 65 with aligned := true, step := 4, bothReady := 32 }
def sl := late ((upp.wr Od.spareSliceState 1 (portInst 64)).wr Od.spareSliceLane 1 (portInst 64))
def jb (b r : Bool) : SliceJob := { lane := 1, repair := false, back := b, rxDone := r, began := 0, loaded := false, trigger := 0, lost := 0 }
def sj (b r : Bool) : State := sl.setSlice 8 { sl.spareSlice 8 with job := some (jb b r) }
def busy : State := at1 (pst 9 4) { cpy with stage := .queued }

theorem test_witness_LinkTraining :
    ((let s : State := auto (pst 9 3); (let n : Nat := 65; (decide (s.sound = true) && (decide (s.stopped = false) && (decide (n < 512) &&
      (decide (s.hasDie (n / 64) = true) && (decide (s.portStateOf n = 3) && (decide (s.rd Od.linkRetrainAuto (portInst n) = 1))))))))) &&
    (let s : State := up; (let n : Nat := 65; (decide (s.sound = true) && (decide (s.stopped = false) && (decide (n < 512) &&
      (decide (s.hasDie (n / 64) = true) && (decide (s.portStateOf n ≠ 3 ∨ s.rd Od.linkRetrainAuto (portInst n) = 0)))))))) &&
    (let s : State := tr; (let n : Nat := 65; (let control := 0x2080; (let status := 0x1000; (decide (s.sound = true) &&
      (decide (s.stopped = false) && (decide (n < 512) && (decide (s.hasDie (n / 64) = true) &&
      (match s.portOfLane n with | some p => (decide (s.portStateOf p = 1) && (decide (modeGroup (s.portModeOf p) = 1) && (decide (bits status 15 12 ≠ 1 ∨ bits control 15 12 ≠ 1)))) | _ => false))))))))) &&
    (let s : State := tr; (let n : Nat := 65; (let control := 0x1080; (let status := 0x1040; (decide (s.sound = true) &&
      (decide (s.stopped = false) && (decide (n < 512) && (decide (s.hasDie (n / 64) = true) &&
      (match s.portOfLane n with | some p => (decide (s.portStateOf p = 1) && (decide (modeGroup (s.portModeOf p) = 1) && (decide (bits status 15 12 = 1) && (decide (bits control 15 12 = 1) && (decide (sparseRising none s.links.lanes = true)))))) | _ => false))))))))) &&
    (let s : State := late tr; (let n : Nat := 65; (let m := 65; (decide (s.sound = true) && (decide (s.stopped = false) && (decide (n < 512) &&
      (decide (s.hasDie (n / 64) = true) && (decide (s.portStateOf n = 1) && (decide (modeGroup (s.portModeOf n) = 1) && (decide (m ∈ s.lanesOf n) &&
      (let x := s.laneLink m; (decide (x.done = false) && (decide ((s.portLink n).noPartner = false) &&
      (decide (x.since + trainStepLimit (s.portLink n).quick x.step ≤ s.up))))))))))))))) &&
    (let s : State := tr; (let n : Nat := 65; (decide (s.sound = true) && (decide (s.stopped = false) && (decide (n < 512) &&
      (decide (s.hasDie (n / 64) = true) && (decide (s.portStateOf n = 1) && (decide (modeGroup (s.portModeOf n) = 1) &&
      (decide ((∀ m ∈ s.lanesOf n, s.up < (s.laneLink m).since + trainStepLimit (s.portLink n).quick (s.laneLink m).step))))))))))) &&
    (let s : State := tr; (let n : Nat := 65; (decide (s.sound = true) && (decide (s.stopped = false) && (decide (n < 512) &&
      (decide (s.hasDie (n / 64) = true) && (decide (s.portStateOf n = 1) && (decide (modeGroup (s.portModeOf n) = 1) &&
      (decide ((s.portLink n).badProfile = false) && (decide (s.up < (s.portLink n).judgeAt))))))))))) &&
    (let s : State := np; (let n : Nat := 65; (decide (s.sound = true) && (decide (s.stopped = false) && (decide (n < 512) &&
      (decide (s.hasDie (n / 64) = true) && (decide (s.portStateOf n = 1) && (decide (modeGroup (s.portModeOf n) = 1) && (let l := s.portLink n;
      (decide (l.badProfile = true ∨ (∀ m ∈ s.lanesOf n, (s.laneLink m).step ≤ 1)) && (decide (l.judgeAt ≤ s.up) &&
      (decide (l.noPartner = true))))))))))))) &&
    (let s : State := late tr; (let n : Nat := 65; (decide (s.sound = true) && (decide (s.stopped = false) && (decide (n < 512) &&
      (decide (s.hasDie (n / 64) = true) && (decide (s.portStateOf n = 1) && (decide (modeGroup (s.portModeOf n) = 1) && (let l := s.portLink n;
      (decide (l.badProfile = true ∨ (∀ m ∈ s.lanesOf n, (s.laneLink m).step ≤ 1)) && (decide (l.judgeAt ≤ s.up) &&
      (decide (l.noPartner = false))))))))))))) &&
    (let s : State := tr; (let n : Nat := 65; (let b := ab; (decide (s.sound = true) && (decide (s.stopped = false) && (decide (n < 512) &&
      (decide (s.hasDie (n / 64) = true) &&
      (match s.portOfLane n with | some p => (let x := s.laneLink n; (decide (goodAlignment b (n - p) = true) && (decide (x.found = 0 ∨ bits b 207 192 = (x.count + 1) % 65536)))) | _ => false)))))))) &&
    (let s : State := tr; (let n : Nat := 65; (let b := 5; (decide (s.sound = true) && (decide (s.stopped = false) && (decide (n < 512) &&
      (decide (s.hasDie (n / 64) = true) &&
      (match s.portOfLane n with | some p => (let x := s.laneLink n; (decide (x.missed < 2) && (decide (goodAlignment b (n - p) = false)))) | _ => false)))))))) &&
    (let s : State := upp; (let n : Nat := 65; (let b := 5; (decide (s.sound = true) && (decide (s.stopped = false) && (decide (n < 512) &&
      (decide (s.hasDie (n / 64) = true) &&
      (match s.portOfLane n with | some p => (let x := s.laneLink n; (decide (2 ≤ x.missed) && (decide (goodAlignment b (n - p) = false)))) | _ => false)))))))) &&
    (let s : State := al; (let n : Nat := 65; (decide (s.sound = true) && (decide (s.stopped = false) && (decide (n < 512) &&
      (decide (s.hasDie (n / 64) = true) && (decide (s.portStateOf n = 1) && (decide (s.octetServed n = true) &&
      (decide (modeGroup (s.portModeOf n) = 0 ∨ ((s.lanesOf n).all (fun m => (s.laneLink m).step = 4 && (s.laneLink m).aligned &&
      decide (32 ≤ (s.laneLink m).bothReady)) = true ∧ s.skewOk n = true))))))))))) &&
    (let s : State := up; (let n : Nat := 65; (decide (s.sound = true) && (decide (s.stopped = false) && (decide (n < 512) &&
      (decide (s.hasDie (n / 64) = true) && (decide (s.portStateOf n ≠ 1)))))))) &&
    (let s : State := up; (let n : Nat := 65; (decide (s.sound = true) && (decide (s.stopped = false) && (decide (n < 512) &&
      (decide (s.hasDie (n / 64) = true) && (decide (s.portStateOf n ≠ 2)))))))) &&
    (let s : State := auto upp; (let n : Nat := 65; (decide (s.sound = true) && (decide (s.stopped = false) && (decide (n < 512) &&
      (decide (s.hasDie (n / 64) = true) && (decide (s.portStateOf n = 2) && (decide ((s.spareSlice (n / 8)).job = none)))))))))) = true := by decide +kernel

theorem test_witness_SliceRows :
    ((let s : State := sl; (let n : Nat := 65; (decide (s.sound = true) && (decide (s.stopped = false) && (decide (n < 512) &&
      (decide (s.hasDie (n / 64) = true) && (let o := n / 8; (let x := s.spareSlice o; (decide (s.sliceState o = 1 ∨ s.sliceState o = 2) &&
      (decide (x.job = none) && (decide (s.laneUp n = true) && (decide (s.rd Od.spareSliceLane (portInst (o * 8)) = n % 8) &&
      (decide (x.listening + 100000000 ≤ s.up)))))))))))))) &&
    (let s : State := up; (let n : Nat := 65; (decide (s.sound = true) && (decide (s.stopped = false) && (decide (n < 512) &&
      (decide (s.hasDie (n / 64) = true) && (let o := n / 8; (let x := s.spareSlice o;
      (decide (s.laneUp n = false ∨ s.rd Od.spareSliceLane (portInst (o * 8)) ≠ n % 8 ∨ s.up < x.listening + 100000000)))))))))) &&
    (let s : State := sl; (let n : Nat := 65; (let heavy := 16; (decide (s.sound = true) && (decide (s.stopped = false) && (decide (n < 512) &&
      (decide (s.hasDie (n / 64) = true) && (let o := n / 8; (let x := s.spareSlice o;
      (match s.portOfLane n with | some p => (decide (s.rd Od.laneSlice (portInst n) = 0) && (decide (x.job = none) && (decide (x.next = none) && (decide (s.heavyLane p heavy = false))))) | _ => false)))))))))) &&
    (let s : State := sl; (let n : Nat := 65; (let heavy := 17; (decide (s.sound = true) && (decide (s.stopped = false) && (decide (n < 512) &&
      (decide (s.hasDie (n / 64) = true) && (let o := n / 8; (let x := s.spareSlice o;
      (match s.portOfLane n with | some p => (decide (s.rd Od.laneSlice (portInst n) = 0) && (decide (x.job = none) && (decide (x.next = none) && (decide (s.heavyLane p heavy = true) && (decide (s.sliceState o < 3) && (decide (s.sched.changes = []))))))) | _ => false)))))))))) &&
    (let s : State := upp.wr Od.spareSliceState 3 (portInst 64); (let n : Nat := 65; (let heavy := 17; (decide (s.sound = true) &&
      (decide (s.stopped = false) && (decide (n < 512) && (decide (s.hasDie (n / 64) = true) && (let o := n / 8; (let x := s.spareSlice o;
      (match s.portOfLane n with | some p => (decide (s.rd Od.laneSlice (portInst n) = 0) && (decide (x.job = none) && (decide (x.next = none) && (decide (s.heavyLane p heavy = true) && (decide (3 ≤ s.sliceState o) && (decide (x.planned = none))))))) | _ => false)))))))))) &&
    (let s : State := sj false false; (let n : Nat := 65; (decide (s.sound = true) && (decide (s.stopped = false) && (decide (n < 512) &&
      (decide (s.hasDie (n / 64) = true) && (let o := n / 8; (let x := s.spareSlice o;
      (match x.job with | some j => (decide (j.lane = n % 8) && (decide (j.began + 52429 ≤ s.up))) | _ => false))))))))) &&
    (let s : State := ({ sj false false with time := up.time } : State); (let n : Nat := 65; (decide (s.sound = true) &&
      (decide (s.stopped = false) && (decide (n < 512) && (decide (s.hasDie (n / 64) = true) && (let o := n / 8; (let x := s.spareSlice o;
      (match x.job with | some j => (decide (j.lane = n % 8) && (decide (s.up < j.began + 52429))) | _ => false))))))))) &&
    (let s : State := sj false false; (let n : Nat := 65; (decide (s.sound = true) && (decide (s.stopped = false) && (decide (n < 512) &&
      (decide (s.hasDie (n / 64) = true) && (let o := n / 8; (let x := s.spareSlice o;
      (match x.job with | some j => (decide (j.lane = n % 8) && (decide (j.rxDone = false))) | _ => false))))))))) &&
    (let s : State := sj false true; (let n : Nat := 65; (decide (s.sound = true) && (decide (s.stopped = false) && (decide (n < 512) &&
      (decide (s.hasDie (n / 64) = true) && (let o := n / 8; (let x := s.spareSlice o;
      (match x.job with | some j => (decide (j.lane = n % 8) && (decide (j.rxDone = true) && (decide (j.back = false) && (decide (j.repair = false) && (decide (sparseRising none s.links.slices = true)))))) | _ => false))))))))) &&
    (let s : State := sj true true; (let n : Nat := 65; (decide (s.sound = true) && (decide (s.stopped = false) && (decide (n < 512) &&
      (decide (s.hasDie (n / 64) = true) && (let o := n / 8; (let x := s.spareSlice o;
      (match x.job with | some j => (decide (j.lane = n % 8) && (decide (j.rxDone = true) && (decide (j.back = true) && (decide (x.next = none) && (decide (sparseRising none s.links.slices = true)))))) | _ => false))))))))) &&
    (let s : State := pst 9 4; (let n : Nat := 65; (let expired := false; (decide (s.sound = true) && (decide (s.stopped = false) &&
      (decide (n < 512) && (decide (s.hasDie (n / 64) = true) && (decide (s.copiesAt n = [] ∨ (expired = true ∧ s.drainExpired n = true)) &&
      (decide (s.portStateOf n = 4)))))))))) &&
    (let s : State := pst 9 5; (let n : Nat := 65; (let expired := false; (decide (s.sound = true) && (decide (s.stopped = false) &&
      (decide (n < 512) && (decide (s.hasDie (n / 64) = true) && (decide (s.copiesAt n = [] ∨ (expired = true ∧ s.drainExpired n = true)) &&
      (decide (s.portStateOf n = 5)))))))))) &&
    (let s : State := busy; (let n : Nat := 65; (let expired := false; (decide (s.sound = true) && (decide (s.stopped = false) && (decide (n < 512) &&
      (decide (s.hasDie (n / 64) = true) && (decide (s.copiesAt n ≠ []) && (decide (expired = false ∨ s.drainExpired n = false))))))))))) = true := by decide +kernel

end Links

namespace Frames

def mc : List Byte := fcs (List.replicate 12 1 ++ [0x88#8, 8#8] ++ List.replicate 46 3)
def nr : State := ((up.wr Od.portMode 9 (portInst 65)).wr Od.portState 2 (portInst 65)).wr Od.bpmClassPolicy 0 0 0
def lf : List Byte := fcs (List.replicate 12 1 ++ [8#8, 0#8] ++ List.replicate 100 3)
def lst : State := let s := ready.setPacket 1 { pkt with frame := lf, ended := false, hv := 0 };
      { s with bufs := { s.bufs with tails := [(1, { port := 65, frame := lf, parsed := none })] } }
def xo : State := { ready with bufs := { ready.bufs with xoff := [(65*8+2, 5)] }, time := { ready.time with up := 99999 } }
def xo1 := ((xo.wr Od.pgPfc 1 (portInst 65) 2).wr Od.pgCells 999999999 (portInst 65) 2)
def parsed : State := at_ ready .parsed
def bl : State := { parsed.wr Od.tableParityPunt 1 0 0 with badRows := [{ die := 1, kind := 0x40, index := rowIndex 0 65 }] }
def gone : State := parsed.setTbl 0 0x40 65 (65 * 2^114 + 2^39)
def wq := (((parsed.wr Od.asaSetMode 2 0 3).wr Od.asaSetBanks 3 0 3).wr Od.asaLookup0Set 3 0 0).wr Od.rcEnable 0 0 0
def wt : State := let s := at_ wq .searching;
      s.setAsaQueue 8 [{ packet := 1, follows := none, set0 := some 3, set1 := none, done0 := none, done1 := none }]
def pl (p : PlaceStage) : State := ready.setPacket 1 { pkt with stage := .searching, place := p }
def poor (v : Nat) : State := (pl .needed).wr Od.placeOverTcMask v
def node : State := ((pl .issued).setTbl 0 0x59 0 (3 * 2 ^ 507)).wr Od.placeNodesetLiveTiles 1

theorem test_witness_FramesIn :
    ((let s : State := up; (let n := 65; (decide (s.sound = true) && (decide (s.stopped = false) && (decide (n < 512) &&
      (decide (s.hasDie (n / 64) = true) && (decide (s.portStateOf n ≠ 2)))))))) &&
    (let s : State := ready; (let n := 65; (let frame := fr.take 60; (decide (s.sound = true) && (decide (s.stopped = false) && (decide (n < 512) &&
      (decide (s.hasDie (n / 64) = true) && (decide (s.portStateOf n = 2) && (decide (frame.length < 64)))))))))) &&
    (let s : State := ready; (let n := 65; (let frame := fr.set 20 9; (decide (s.sound = true) && (decide (s.stopped = false) && (decide (n < 512) &&
      (decide (s.hasDie (n / 64) = true) && (decide (s.portStateOf n = 2) && (decide (64 ≤ frame.length) && (decide (frame.length ≤ 516) &&
      (decide (goodFcs frame = false)))))))))))) &&
    (let s : State := ready; (let n := 65; (let frame := mc; (decide (s.sound = true) && (decide (s.stopped = false) && (decide (n < 512) &&
      (decide (s.hasDie (n / 64) = true) && (decide (s.portStateOf n = 2) && (decide (64 ≤ frame.length) && (decide (frame.length ≤ 516) &&
      (decide (goodFcs frame = true) && (decide (beNat (slice frame 12 2) = 0x8808))))))))))))) &&
    (let s : State := ready; (let n := 65; (let frame := fr; (let g := 0; (decide (s.sound = true) && (decide (s.stopped = false) &&
      (decide (n < 512) && (decide (s.hasDie (n / 64) = true) && (let s1 := s.bwCount n frame.length false; (decide (s.portStateOf n = 2) &&
      (decide (64 ≤ frame.length) && (decide (frame.length ≤ 516) && (decide (goodFcs frame = true) && (decide (beNat (slice frame 12 2) ≠ 0x8808) &&
      (decide (g = s.framePg n frame) && (let hv := s.freshHv n frame.length;
      (let s2 := ((s1.macCount n 0 1).macCount n 1 frame.length).addFlight (n / 64) (hvGen hv); (decide (s.waitingAt (n / 64) (n % 64 / 8) = []) &&
      (decide (s2.mayStart n g = true)))))))))))))))))))) &&
    (let s : State := nr.wr Od.bpmClassPolicy 1 0 0; (let n := 65; (let frame := fr; (let g := 0; (decide (s.sound = true) &&
      (decide (s.stopped = false) && (decide (n < 512) && (decide (s.hasDie (n / 64) = true) && (let s1 := s.bwCount n frame.length false;
      (decide (s.portStateOf n = 2) && (decide (64 ≤ frame.length) && (decide (frame.length ≤ 516) && (decide (goodFcs frame = true) &&
      (decide (beNat (slice frame 12 2) ≠ 0x8808) && (decide (g = s.framePg n frame) && (let hv := s.freshHv n frame.length;
      (let s2 := ((s1.macCount n 0 1).macCount n 1 frame.length).addFlight (n / 64) (hvGen hv); (decide (s.waitingAt (n / 64) (n % 64 / 8) = []) &&
      (decide (s2.mayStart n g = false) && (decide (s.rd Od.bpmClassPolicy 0 g ≠ 0))))))))))))))))))))) &&
    (let s : State := nr; (let n := 65; (let frame := fr; (let g := 0; (decide (s.sound = true) && (decide (s.stopped = false) && (decide (n < 512) &&
      (decide (s.hasDie (n / 64) = true) && (let s1 := s.bwCount n frame.length false; (decide (s.portStateOf n = 2) && (decide (64 ≤ frame.length) &&
      (decide (frame.length ≤ 516) && (decide (goodFcs frame = true) && (decide (beNat (slice frame 12 2) ≠ 0x8808) &&
      (decide (g = s.framePg n frame) && (let hv := s.freshHv n frame.length;
      (let s2 := ((s1.macCount n 0 1).macCount n 1 frame.length).addFlight (n / 64) (hvGen hv); (decide (s.waitingAt (n / 64) (n % 64 / 8) = []) &&
      (decide (s2.mayStart n g = false) && (decide (s.rd Od.bpmClassPolicy 0 g = 0))))))))))))))))))))) &&
    (let s : State := lst; (let p := 1; (let frame := lf; (decide (s.sound = true) && (decide (s.stopped = false) &&
      (match sparseFind? s.bufs.tails p with | some x => (decide (frame = x.frame.take 10240) && (match s.packet? p with | some k => (decide ((∀ e ∈ s.packets, e.1 ≠ p → e.2.origin ≠ p)) && (decide (s.tm.copies = []) && (decide (hvL3End k.hv ≤ frame.length - 4)))) | _ => false)) | _ => false)))))) &&
    (let s : State := ready; (let p := 1; (decide (s.sound = true) && (decide (s.stopped = false) &&
      (decide (sparseFind? s.bufs.tails p = none)))))) &&
    (let s : State := ready; (let n := 65; (let g := 2; (decide (s.sound = true) && (decide (s.stopped = false) && (decide (n < 512) &&
      (decide (s.hasDie (n / 64) = true) && (let level := s.pgLevel n g; (let cells := s.rd Od.pgCells (portInst n) g;
      (decide (sparseFind? s.bufs.xoff (n * 8 + g) = none) && (decide (s.rd Od.pgPfc (portInst n) g = 0 ∨ cells < level)))))))))))) &&
    (let s : State := xo1; (let n := 65; (let g := 2; (decide (s.sound = true) && (decide (s.stopped = false) && (decide (n < 512) &&
      (decide (s.hasDie (n / 64) = true) && (let level := s.pgLevel n g; (let cells := s.rd Od.pgCells (portInst n) g;
      (match sparseFind? s.bufs.xoff (n * 8 + g) with | some since => (decide (level < cells + s.rd Od.pfcXonDelta (portInst n)) && (decide (since + s.xoffTime n ≤ s.up))) | _ => false)))))))))) &&
    (let s : State := ({ xo1 with time := up.time } : State); (let n := 65; (let g := 2; (decide (s.sound = true) && (decide (s.stopped = false) &&
      (decide (n < 512) && (decide (s.hasDie (n / 64) = true) && (let level := s.pgLevel n g; (let cells := s.rd Od.pgCells (portInst n) g;
      (match sparseFind? s.bufs.xoff (n * 8 + g) with | some since => (decide (level < cells + s.rd Od.pfcXonDelta (portInst n)) && (decide (s.up < since + s.xoffTime n))) | _ => false)))))))))) &&
    (let s : State := xo; (let n := 65; (let g := 2; (decide (s.sound = true) && (decide (s.stopped = false) && (decide (n < 512) &&
      (decide (s.hasDie (n / 64) = true) && (let level := s.pgLevel n g; (let cells := s.rd Od.pgCells (portInst n) g;
      (match sparseFind? s.bufs.xoff (n * 8 + g) with | some since => (decide (sparseRising none s.bufs.xoff = true) && (decide (cells + s.rd Od.pfcXonDelta (portInst n) ≤ level))) | _ => false))))))))))) = true := by decide +kernel

theorem test_witness_ParseRow :
    ((let s : State := parsed; (let p : Nat := 1; (decide (s.stopped = false) &&
      (match s.packet? p with | some k => (decide (k.stage ≠ .received ∨ s.pipeStopped k = true)) | _ => false)))) &&
    (let s : State := at_ ready .received; (let p : Nat := 1; (decide (s.stopped = false) &&
      (match s.packet? p with | some k => (let view : FrameView := { header := beNat (slice (k.frame.take (k.frame.length - 4)) 0 512), complete := bitOf k.hv 1863, stop := k.frame.length - 4 }; (decide (k.stage = .received) && (decide (s.pipeStopped k = false) && (decide (view.header = beNat (slice (k.frame.take (k.frame.length - 4)) 0 512)) && (decide (view.complete = bitOf k.hv 1863) && (decide (view.stop = k.frame.length - 4))))))) | _ => false))))) = true := by decide +kernel

theorem test_witness_SearchRows :
    ((let s : State := gone; (let p := 1; (decide (s.stopped = false) &&
      (match s.packet? p with | some k => (decide (k.stage = .parsed) && (decide (sparseFind? s.asa.stalled k.octet = none) && (decide (sparseFind? s.placing.stalled k.octet = none) && (let l := ({ st := s, hv := k.hv, lport := k.port, bd := 0, limit := 0, route := 0, leave := 0 } : Look).stages { die := k.die, gen := hvGen k.hv, stamp := hvStamp k.hv }; (decide (l.leave = 1)))))) | _ => false)))) &&
    (let s : State := bl; (let p := 1; (decide (s.stopped = false) &&
      (match s.packet? p with | some k => (decide (k.stage = .parsed) && (decide (sparseFind? s.asa.stalled k.octet = none) && (decide (sparseFind? s.placing.stalled k.octet = none) && (let l := ({ st := s, hv := k.hv, lport := k.port, bd := 0, limit := 0, route := 0, leave := 0 } : Look).stages { die := k.die, gen := hvGen k.hv, stamp := hvStamp k.hv }; (decide (l.leave = 2)))))) | _ => false)))) &&
    (let s : State := parsed; (let p := 1; (decide (s.stopped = false) &&
      (match s.packet? p with | some k => (decide (k.stage = .parsed) && (decide (sparseFind? s.asa.stalled k.octet = none) && (decide (sparseFind? s.placing.stalled k.octet = none) && (let l := ({ st := s, hv := k.hv, lport := k.port, bd := 0, limit := 0, route := 0, leave := 0 } : Look).stages { die := k.die, gen := hvGen k.hv, stamp := hvStamp k.hv }; (let k1 := { k with hv := l.hv, lport := l.lport, bd := l.bd, limit := l.limit, tcEarly := hvTc l.hv, stage := .searching }; (decide (l.leave ≠ 1) && (decide (l.leave ≠ 2) && (let w := l.st.profileSets (hvProfile k1.hv) (hvGen k1.hv); (decide (w = (none, none))))))))))) | _ => false)))) &&
    (let s : State := wq; (let p := 1; (decide (s.stopped = false) &&
      (match s.packet? p with | some k => (decide (k.stage = .parsed) && (decide (sparseFind? s.asa.stalled k.octet = none) && (decide (sparseFind? s.placing.stalled k.octet = none) && (let l := ({ st := s, hv := k.hv, lport := k.port, bd := 0, limit := 0, route := 0, leave := 0 } : Look).stages { die := k.die, gen := hvGen k.hv, stamp := hvStamp k.hv }; (let k1 := { k with hv := l.hv, lport := l.lport, bd := l.bd, limit := l.limit, tcEarly := hvTc l.hv, stage := .searching }; (decide (l.leave ≠ 1) && (decide (l.leave ≠ 2) && (let w := l.st.profileSets (hvProfile k1.hv) (hvGen k1.hv); (decide (w ≠ (none, none)) && (decide (l.st.rd Od.rcEnable 0 (hvProfile k1.hv) = 0) && (decide ((l.st.asaQueue k.octet).length < 64)))))))))))) | _ => false)))) &&
    (let s : State := at_ ready .received; (let p := 1; (decide (s.stopped = false) &&
      (match s.packet? p with | some k => (decide (k.stage ≠ .parsed)) | _ => false)))) &&
    (let s : State := up; (let d := 1; (decide (s.stopped = false) && (decide (s.hasDie d = true) &&
      (((List.range (8)).all fun i => decide (sparseFind? s.asa.stalled (d * 8 + i) = none)) &&
      (((List.range (8)).all fun i => decide (s.asaQueue (d * 8 + i) = [])))))))) &&
    (let s : State := wt; (let d := 1; (let o := 8; (let p := 1; (let set := 3; (let out := (s.searchOne p set).2; (decide (s.stopped = false) &&
      (decide (s.hasDie d = true) && (let clock := sparseGet (fun _ => 0) s.asa.clock d;
      (let step := (if clock = 0 then s.rd Od.searchThrottleStep (dieInst d) else sparseGet (fun _ => 0) s.asa.step d);
      (((List.range (8)).all fun i => decide (sparseFind? s.asa.stalled (d * 8 + i) = none)) && (decide (o / 8 = d) &&
      (((List.range (8)).all fun i => decide (d * 8 + i ≠ o → s.asaQueue (d * 8 + i) = [])) && (decide (sparseRising none s.asa.queues = true) &&
      (decide (step = 0) &&
      (decide (s.asaQueue o = [{ packet := p, follows := none, set0 := some set, set1 := none, done0 := none, done1 := none }]) &&
      (decide ((s.searchOne p set).1 = s) && (decide (s.searchOne p set = (s, out)))))))))))))))))))) &&
    (let s : State := up; (let p := 24; (decide (s.stopped = false) && (decide (p % 16 ≤ 8) && (decide (s.hasDie (p / 16) = true))))))) = true := by decide +kernel

theorem test_witness_PlacementRows :
    ((let s : State := (pl .needed).setPlaceCredits 8 1; (let p := 1; (decide (s.stopped = false) &&
      (match s.packet? p with | some k => (decide (k.stage = .searching) && (decide (k.place = .needed) && (let o := k.octet; (decide (s.placeCredits o ≠ 0) && (decide (s.placeQueue o = [])))))) | _ => false)))) &&
    (let s : State := poor 255; (let p := 1; (decide (s.stopped = false) &&
      (match s.packet? p with | some k => (decide (k.stage = .searching) && (decide (k.place = .needed) && (let o := k.octet; (decide (s.placeCredits o = 0) && (decide (bitOf (s.rdFor Od.placeOverTcMask 0 0 (hvGen k.hv)) k.tcEarly = true)))))) | _ => false)))) &&
    (let s : State := poor 0; (let p := 1; (decide (s.stopped = false) &&
      (match s.packet? p with | some k => (decide (k.stage = .searching) && (decide (k.place = .needed) && (let o := k.octet; (decide (s.placeCredits o = 0) && (decide (bitOf (s.rdFor Od.placeOverTcMask 0 0 (hvGen k.hv)) k.tcEarly = false) && (decide ((s.placeQueue o).length < 32))))))) | _ => false)))) &&
    (let s : State := (poor 0).setPlaceQueue 8 (List.replicate 32 55); (let p := 1; (decide (s.stopped = false) &&
      (match s.packet? p with | some k => (decide (k.stage = .searching) && (decide (k.place = .needed) && (let o := k.octet; (decide (s.placeCredits o = 0) && (decide (bitOf (s.rdFor Od.placeOverTcMask 0 0 (hvGen k.hv)) k.tcEarly = false) && (decide (32 ≤ (s.placeQueue o).length) && (decide (sparseFind? s.placing.stalled o = none)))))))) | _ => false)))) &&
    (let s : State := up; (let d := 1; (decide (s.stopped = false) && (decide (s.hasDie d = true) &&
      (((List.range (8)).all fun i => decide (s.placeQueue (d * 8 + i) = [])) && (decide (sparseRising none s.placing.credits = true))))))) &&
    (let s : State := ({ pl .issued with badRows := [{ die := 1, kind := 0x5A, index := rowIndex 0 0 }] } : State); (let p := 1;
      (decide (s.stopped = false) &&
      (match s.packet? p with | some k => (decide (k.stage = .searching) && (decide (k.place = .issued) && (let bank := s.liveFor 0x58 (hvGen k.hv); (let dom := s.tbl bank 0x58 (bits k.hv 1791 1776); (let n := bits k.hv 1799 1792; (let pos := placeHash (bits dom 223 160) (beBytes n (bits k.hv 1119 608 / 256 ^ (64 - n))) / 2 ^ 24; (let b := bits dom 159 136 + pos / 2 ^ (40 - bits dom 135 131); (decide (s.rowBad k.die 0x5A (rowIndex bank b) = true))))))))) | _ => false)))) &&
    (let s : State := pl .issued; (let p := 1; (decide (s.stopped = false) &&
      (match s.packet? p with | some k => (decide (k.stage = .searching) && (decide (k.place = .issued) && (let bank := s.liveFor 0x58 (hvGen k.hv); (let dom := s.tbl bank 0x58 (bits k.hv 1791 1776); (let n := bits k.hv 1799 1792; (let pos := placeHash (bits dom 223 160) (beBytes n (bits k.hv 1119 608 / 256 ^ (64 - n))) / 2 ^ 24; (let b := bits dom 159 136 + pos / 2 ^ (40 - bits dom 135 131); (let ns := ringLookup (s.tbl bank 0x5A b) pos; (decide (s.rowBad k.die 0x5A (rowIndex bank b) = false) && (decide (s.rowBad k.die 0x59 (rowIndex bank ns) = false) && (decide (s.bankEntries 0x59 bank ≤ ns ∨ bits (s.tbl bank 0x59 ns) 511 507 = 0)))))))))))) | _ => false)))) &&
    (let s : State := node; (let p := 1; (decide (s.stopped = false) &&
      (match s.packet? p with | some k => (decide (k.stage = .searching) && (decide (k.place = .issued) && (let bank := s.liveFor 0x58 (hvGen k.hv); (let dom := s.tbl bank 0x58 (bits k.hv 1791 1776); (let n := bits k.hv 1799 1792; (let pos := placeHash (bits dom 223 160) (beBytes n (bits k.hv 1119 608 / 256 ^ (64 - n))) / 2 ^ 24; (let b := bits dom 159 136 + pos / 2 ^ (40 - bits dom 135 131); (let ns := ringLookup (s.tbl bank 0x5A b) pos; (decide (s.rowBad k.die 0x5A (rowIndex bank b) = false) && (decide (s.rowBad k.die 0x59 (rowIndex bank ns) = false) && (decide (ns < s.bankEntries 0x59 bank) && (decide (bits (s.tbl bank 0x59 ns) 511 507 ≠ 0))))))))))))) | _ => false))))) = true := by decide +kernel

end Frames

namespace Words

def K : Packet := { pkt with stage := .running, restarts := 1 }
def w0 : Nat := 6 * 2 ^ 189
def nop : Nat := w0 + 0x7F * 2 ^ 112
def T : Thread := { Thread.atDispatch 1 0 0x3000 0xFFFF 0xC0 5 0 with a0 := 0x80000005, a1 := 0x12345678, g := List.replicate 3 0xFFFFFFFE ++ List.replicate 29 7 }
def on (w : Nat) (x : Thread := T) (k : Packet := K) : State := ((ready.setPacket 1 k).setTbl 0 0x100 0 w).setThread 16 false 3 x
def wa (u op : Nat) : Nat := w0 + if u = 0 then op * 2 ^ 161 + 0x21 * 2 ^ 152 + 0x20 * 2 ^ 143 else op * 2 ^ 137 + 0x21 * 2 ^ 128 + 0x20 * 2 ^ 119
def wc (op : Nat) : Nat := nop + op * 2 ^ 84 + 3 * 2 ^ 79
def c0 : Nat := low 16 (T.reg 3)
def hold (s : State) (i : Nat) : State := { s with ae := { s.ae with holders := sparsePut s.ae.holders (65536 + c0) i } }
def wn (op : Nat) : Nat := nop + op * 2 ^ 77 + 1 * 2 ^ 71
def wm (op : Nat) : Nat := nop + op * 2 ^ 69 + 3 * 2 ^ 65
def KM : Packet := { K with meters := [{ meter := 7, colour := 2, fromC := 0, fromE := 0 }] }
def TS : Thread := { T with log := [.sample] }
def we (op : Nat) : Nat := nop + op * 2 ^ 62 + 3 * 2 ^ 57
def wr (op : Nat) : Nat := nop + op * 2 ^ 53
def T2 : Thread := { T with unitsRun := [0,1,2,3,4,5,6,7,8,9], nextA0 := some (0,0,true), stack := [0x3009], a0 := 0x35 }
def sq (q : Nat) : Nat := 0x7F * 2 ^ 112 + q * 2 ^ 189 + 0x3100 * 2 ^ 171 + 2 ^ 187

theorem test_witness_AluRows :
    ((let p : Nat := 16; (let eg : Bool := false; (let t : Nat := 3; (let th : Thread := T; (let k : Packet := K; (let w : Nat := wa 0 0;
      (let s : State := on w; (let u : Nat := 0;
      (decide ((s).stopped = false ∧ p % 16 ≤ 8 ∧ (s).hasDie (p / 16) = true ∧ (s).thread? p eg t = some th ∧ (s).item? eg (th).item = some k ∧ (s).word eg (th).bank (th).pc = w ∧ (th).trap = 0 ∧ (th).ctxWaiting = false) &&
      (decide (u ≤ 1) && (decide (u ∉ th.unitsRun) && (match wAlu w u with | (op, x, y) => (decide (op = 0x00)))))))))))))) &&
    (let p : Nat := 16; (let eg : Bool := false; (let t : Nat := 3; (let th : Thread := T; (let k : Packet := K; (let w : Nat := wa 0 1;
      (let s : State := on w; (let u : Nat := 0;
      (decide ((s).stopped = false ∧ p % 16 ≤ 8 ∧ (s).hasDie (p / 16) = true ∧ (s).thread? p eg t = some th ∧ (s).item? eg (th).item = some k ∧ (s).word eg (th).bank (th).pc = w ∧ (th).trap = 0 ∧ (th).ctxWaiting = false) &&
      (decide (u ≤ 1) && (decide (u ∉ th.unitsRun) && (match wAlu w u with | (op, x, y) => (decide (op = 0x01)))))))))))))) &&
    (let p : Nat := 16; (let eg : Bool := false; (let t : Nat := 3; (let th : Thread := T; (let k : Packet := K; (let w : Nat := wa 0 2;
      (let s : State := on w; (let u : Nat := 0;
      (decide ((s).stopped = false ∧ p % 16 ≤ 8 ∧ (s).hasDie (p / 16) = true ∧ (s).thread? p eg t = some th ∧ (s).item? eg (th).item = some k ∧ (s).word eg (th).bank (th).pc = w ∧ (th).trap = 0 ∧ (th).ctxWaiting = false) &&
      (decide (u ≤ 1) && (decide (u ∉ th.unitsRun) && (match wAlu w u with | (op, x, y) => (decide (op = 0x02)))))))))))))) &&
    (let p : Nat := 16; (let eg : Bool := false; (let t : Nat := 3; (let th : Thread := T; (let k : Packet := K; (let w : Nat := wa 0 3;
      (let s : State := on w; (let u : Nat := 0;
      (decide ((s).stopped = false ∧ p % 16 ≤ 8 ∧ (s).hasDie (p / 16) = true ∧ (s).thread? p eg t = some th ∧ (s).item? eg (th).item = some k ∧ (s).word eg (th).bank (th).pc = w ∧ (th).trap = 0 ∧ (th).ctxWaiting = false) &&
      (decide (u ≤ 1) && (decide (u ∉ th.unitsRun) && (match wAlu w u with | (op, x, y) => (decide (op = 0x03)))))))))))))) &&
    (let p : Nat := 16; (let eg : Bool := false; (let t : Nat := 3; (let th : Thread := T; (let k : Packet := K; (let w : Nat := wa 0 4;
      (let s : State := on w; (let u : Nat := 0;
      (decide ((s).stopped = false ∧ p % 16 ≤ 8 ∧ (s).hasDie (p / 16) = true ∧ (s).thread? p eg t = some th ∧ (s).item? eg (th).item = some k ∧ (s).word eg (th).bank (th).pc = w ∧ (th).trap = 0 ∧ (th).ctxWaiting = false) &&
      (decide (u ≤ 1) && (decide (u ∉ th.unitsRun) && (match wAlu w u with | (op, x, y) => (decide (op = 0x04)))))))))))))) &&
    (let p : Nat := 16; (let eg : Bool := false; (let t : Nat := 3; (let th : Thread := T; (let k : Packet := K; (let w : Nat := wa 0 5;
      (let s : State := on w; (let u : Nat := 0;
      (decide ((s).stopped = false ∧ p % 16 ≤ 8 ∧ (s).hasDie (p / 16) = true ∧ (s).thread? p eg t = some th ∧ (s).item? eg (th).item = some k ∧ (s).word eg (th).bank (th).pc = w ∧ (th).trap = 0 ∧ (th).ctxWaiting = false) &&
      (decide (u ≤ 1) && (decide (u ∉ th.unitsRun) && (match wAlu w u with | (op, x, y) => (decide (op = 0x05)))))))))))))) &&
    (let p : Nat := 16; (let eg : Bool := false; (let t : Nat := 3; (let th : Thread := T; (let k : Packet := K; (let w : Nat := wa 0 6;
      (let s : State := on w; (let u : Nat := 0;
      (decide ((s).stopped = false ∧ p % 16 ≤ 8 ∧ (s).hasDie (p / 16) = true ∧ (s).thread? p eg t = some th ∧ (s).item? eg (th).item = some k ∧ (s).word eg (th).bank (th).pc = w ∧ (th).trap = 0 ∧ (th).ctxWaiting = false) &&
      (decide (u ≤ 1) && (decide (u ∉ th.unitsRun) && (match wAlu w u with | (op, x, y) => (decide (op = 0x06)))))))))))))) &&
    (let p : Nat := 16; (let eg : Bool := false; (let t : Nat := 3; (let th : Thread := T; (let k : Packet := K; (let w : Nat := wa 0 7;
      (let s : State := on w; (let u : Nat := 0;
      (decide ((s).stopped = false ∧ p % 16 ≤ 8 ∧ (s).hasDie (p / 16) = true ∧ (s).thread? p eg t = some th ∧ (s).item? eg (th).item = some k ∧ (s).word eg (th).bank (th).pc = w ∧ (th).trap = 0 ∧ (th).ctxWaiting = false) &&
      (decide (u ≤ 1) && (decide (u ∉ th.unitsRun) && (match wAlu w u with | (op, x, y) => (decide (op = 0x07)))))))))))))) &&
    (let p : Nat := 16; (let eg : Bool := false; (let t : Nat := 3; (let th : Thread := T; (let k : Packet := K; (let w : Nat := wa 0 8;
      (let s : State := on w; (let u : Nat := 0;
      (decide ((s).stopped = false ∧ p % 16 ≤ 8 ∧ (s).hasDie (p / 16) = true ∧ (s).thread? p eg t = some th ∧ (s).item? eg (th).item = some k ∧ (s).word eg (th).bank (th).pc = w ∧ (th).trap = 0 ∧ (th).ctxWaiting = false) &&
      (decide (u ≤ 1) && (decide (u ∉ th.unitsRun) && (match wAlu w u with | (op, x, y) => (decide (op = 0x08)))))))))))))) &&
    (let p : Nat := 16; (let eg : Bool := false; (let t : Nat := 3; (let th : Thread := T; (let k : Packet := K; (let w : Nat := wa 1 9;
      (let s : State := on w; (let u : Nat := 1;
      (decide ((s).stopped = false ∧ p % 16 ≤ 8 ∧ (s).hasDie (p / 16) = true ∧ (s).thread? p eg t = some th ∧ (s).item? eg (th).item = some k ∧ (s).word eg (th).bank (th).pc = w ∧ (th).trap = 0 ∧ (th).ctxWaiting = false) &&
      (decide (u ≤ 1) && (decide (u ∉ th.unitsRun) && (match wAlu w u with | (op, x, y) => (decide (op = 0x09)))))))))))))) &&
    (let p : Nat := 16; (let eg : Bool := false; (let t : Nat := 3; (let th : Thread := T; (let k : Packet := K; (let w : Nat := wa 1 10;
      (let s : State := on w; (let u : Nat := 1;
      (decide ((s).stopped = false ∧ p % 16 ≤ 8 ∧ (s).hasDie (p / 16) = true ∧ (s).thread? p eg t = some th ∧ (s).item? eg (th).item = some k ∧ (s).word eg (th).bank (th).pc = w ∧ (th).trap = 0 ∧ (th).ctxWaiting = false) &&
      (decide (u ≤ 1) && (decide (u ∉ th.unitsRun) && (match wAlu w u with | (op, x, y) => (decide (op = 0x0A)))))))))))))) &&
    (let p : Nat := 16; (let eg : Bool := false; (let t : Nat := 3; (let th : Thread := T; (let k : Packet := K; (let w : Nat := wa 1 11;
      (let s : State := on w; (let u : Nat := 1;
      (decide ((s).stopped = false ∧ p % 16 ≤ 8 ∧ (s).hasDie (p / 16) = true ∧ (s).thread? p eg t = some th ∧ (s).item? eg (th).item = some k ∧ (s).word eg (th).bank (th).pc = w ∧ (th).trap = 0 ∧ (th).ctxWaiting = false) &&
      (decide (u ≤ 1) && (decide (u ∉ th.unitsRun) && (match wAlu w u with | (op, x, y) => (decide (op = 0x0B)))))))))))))) &&
    (let p : Nat := 16; (let eg : Bool := false; (let t : Nat := 3; (let th : Thread := T; (let k : Packet := K; (let w : Nat := wa 1 12;
      (let s : State := on w; (let u : Nat := 1;
      (decide ((s).stopped = false ∧ p % 16 ≤ 8 ∧ (s).hasDie (p / 16) = true ∧ (s).thread? p eg t = some th ∧ (s).item? eg (th).item = some k ∧ (s).word eg (th).bank (th).pc = w ∧ (th).trap = 0 ∧ (th).ctxWaiting = false) &&
      (decide (u ≤ 1) && (decide (u ∉ th.unitsRun) && (match wAlu w u with | (op, x, y) => (decide (op = 0x0C)))))))))))))) &&
    (let p : Nat := 16; (let eg : Bool := false; (let t : Nat := 3; (let th : Thread := T; (let k : Packet := K; (let w : Nat := wa 1 13;
      (let s : State := on w; (let u : Nat := 1;
      (decide ((s).stopped = false ∧ p % 16 ≤ 8 ∧ (s).hasDie (p / 16) = true ∧ (s).thread? p eg t = some th ∧ (s).item? eg (th).item = some k ∧ (s).word eg (th).bank (th).pc = w ∧ (th).trap = 0 ∧ (th).ctxWaiting = false) &&
      (decide (u ≤ 1) && (decide (u ∉ th.unitsRun) && (match wAlu w u with | (op, x, y) => (decide (op = 0x0D)))))))))))))) &&
    (let p : Nat := 16; (let eg : Bool := false; (let t : Nat := 3; (let th : Thread := T; (let k : Packet := K; (let w : Nat := wa 1 14;
      (let s : State := on w; (let u : Nat := 1;
      (decide ((s).stopped = false ∧ p % 16 ≤ 8 ∧ (s).hasDie (p / 16) = true ∧ (s).thread? p eg t = some th ∧ (s).item? eg (th).item = some k ∧ (s).word eg (th).bank (th).pc = w ∧ (th).trap = 0 ∧ (th).ctxWaiting = false) &&
      (decide (u ≤ 1) && (decide (u ∉ th.unitsRun) && (match wAlu w u with | (op, x, y) => (decide (op = 0x0E)))))))))))))) &&
    (let p : Nat := 16; (let eg : Bool := false; (let t : Nat := 3; (let th : Thread := T; (let k : Packet := K; (let w : Nat := wa 1 15;
      (let s : State := on w; (let u : Nat := 1;
      (decide ((s).stopped = false ∧ p % 16 ≤ 8 ∧ (s).hasDie (p / 16) = true ∧ (s).thread? p eg t = some th ∧ (s).item? eg (th).item = some k ∧ (s).word eg (th).bank (th).pc = w ∧ (th).trap = 0 ∧ (th).ctxWaiting = false) &&
      (decide (u ≤ 1) && (decide (u ∉ th.unitsRun) && (match wAlu w u with | (op, x, y) => (decide (op = 0x0F)))))))))))))) &&
    (let p : Nat := 16; (let eg : Bool := false; (let t : Nat := 3; (let th : Thread := T; (let k : Packet := K; (let w : Nat := wa 1 16;
      (let s : State := on w; (let u : Nat := 1;
      (decide ((s).stopped = false ∧ p % 16 ≤ 8 ∧ (s).hasDie (p / 16) = true ∧ (s).thread? p eg t = some th ∧ (s).item? eg (th).item = some k ∧ (s).word eg (th).bank (th).pc = w ∧ (th).trap = 0 ∧ (th).ctxWaiting = false) &&
      (decide (u ≤ 1) && (decide (u ∉ th.unitsRun) && (match wAlu w u with | (op, x, y) => (decide (op = 0x10)))))))))))))) &&
    (let p : Nat := 16; (let eg : Bool := false; (let t : Nat := 3; (let th : Thread := T; (let k : Packet := K; (let w : Nat := wa 1 17;
      (let s : State := on w; (let u : Nat := 1;
      (decide ((s).stopped = false ∧ p % 16 ≤ 8 ∧ (s).hasDie (p / 16) = true ∧ (s).thread? p eg t = some th ∧ (s).item? eg (th).item = some k ∧ (s).word eg (th).bank (th).pc = w ∧ (th).trap = 0 ∧ (th).ctxWaiting = false) &&
      (decide (u ≤ 1) && (decide (u ∉ th.unitsRun) && (match wAlu w u with | (op, x, y) => (decide (op = 0x11))))))))))))))) = true := by decide +kernel

theorem test_witness_UnitRows :
    ((let p : Nat := 16; (let eg : Bool := false; (let t : Nat := 3; (let th : Thread := T; (let k : Packet := K;
      (let w : Nat := w0 + 5 * 2 ^ 112 + 0x21 * 2 ^ 103; (let s : State := on w;
      (decide ((s).stopped = false ∧ p % 16 ≤ 8 ∧ (s).hasDie (p / 16) = true ∧ (s).thread? p eg t = some th ∧ (s).item? eg (th).item = some k ∧ (s).word eg (th).bank (th).pc = w ∧ (th).trap = 0 ∧ (th).ctxWaiting = false) &&
      (decide (2 ∉ th.unitsRun) && (decide (wMoveDst w ≠ 0x7F))))))))))) &&
    (let p : Nat := 16; (let eg : Bool := false; (let t : Nat := 3; (let th : Thread := T; (let k : Packet := K;
      (let w : Nat := nop + (2 ^ 15 + 3 * 2 ^ 7 + 15 * 8) * 2 ^ 87; (let s : State := on w;
      (decide ((s).stopped = false ∧ p % 16 ≤ 8 ∧ (s).hasDie (p / 16) = true ∧ (s).thread? p eg t = some th ∧ (s).item? eg (th).item = some k ∧ (s).word eg (th).bank (th).pc = w ∧ (th).trap = 0 ∧ (th).ctxWaiting = false) &&
      (decide (3 ∉ th.unitsRun) && (decide (bitOf (wHvw w) 15 = true) && (decide (bits (wHvw w) 6 3 = 15) &&
      (decide (bits (wHvw w) 2 0 = 0))))))))))))) &&
    (let p : Nat := 16; (let eg : Bool := false; (let t : Nat := 3; (let th : Thread := T; (let k : Packet := K; (let w : Nat := wc 1;
      (let s : State := hold (on w) 1;
      (decide ((s).stopped = false ∧ p % 16 ≤ 8 ∧ (s).hasDie (p / 16) = true ∧ (s).thread? p eg t = some th ∧ (s).item? eg (th).item = some k ∧ (s).word eg (th).bank (th).pc = w ∧ (th).trap = 0 ∧ (th).ctxWaiting = false) &&
      (decide (4 ∉ th.unitsRun) && (let c := low 16 (th.reg (wCtxReg w)); (let key := k.die * 65536 + c;
      (decide (sparseFind? s.ae.holders key = some th.item) && (decide (wCtxOp w = 1)))))))))))))) &&
    (let p : Nat := 16; (let eg : Bool := false; (let t : Nat := 3; (let th : Thread := T; (let k : Packet := K; (let w : Nat := wc 2;
      (let s : State := hold (on w) 1;
      (decide ((s).stopped = false ∧ p % 16 ≤ 8 ∧ (s).hasDie (p / 16) = true ∧ (s).thread? p eg t = some th ∧ (s).item? eg (th).item = some k ∧ (s).word eg (th).bank (th).pc = w ∧ (th).trap = 0 ∧ (th).ctxWaiting = false) &&
      (decide (4 ∉ th.unitsRun) && (let c := low 16 (th.reg (wCtxReg w)); (let key := k.die * 65536 + c;
      (decide (sparseFind? s.ae.holders key = some th.item) && (decide (wCtxOp w = 2)))))))))))))) &&
    (let p : Nat := 16; (let eg : Bool := false; (let t : Nat := 3; (let th : Thread := T; (let k : Packet := K; (let w : Nat := wc 3;
      (let s : State := hold (on w) 1;
      (decide ((s).stopped = false ∧ p % 16 ≤ 8 ∧ (s).hasDie (p / 16) = true ∧ (s).thread? p eg t = some th ∧ (s).item? eg (th).item = some k ∧ (s).word eg (th).bank (th).pc = w ∧ (th).trap = 0 ∧ (th).ctxWaiting = false) &&
      (decide (4 ∉ th.unitsRun) && (let c := low 16 (th.reg (wCtxReg w)); (let key := k.die * 65536 + c;
      (decide (sparseFind? s.ae.holders key = some th.item) && (decide (wCtxOp w = 3)))))))))))))) &&
    (let p : Nat := 16; (let eg : Bool := false; (let t : Nat := 3; (let th : Thread := T; (let k : Packet := K; (let w : Nat := wc 1;
      (let s : State := hold (on w) 2;
      (decide ((s).stopped = false ∧ p % 16 ≤ 8 ∧ (s).hasDie (p / 16) = true ∧ (s).thread? p eg t = some th ∧ (s).item? eg (th).item = some k ∧ (s).word eg (th).bank (th).pc = w ∧ (th).trap = 0 ∧ (th).ctxWaiting = false) &&
      (decide (4 ∉ th.unitsRun) && (let c := low 16 (th.reg (wCtxReg w)); (let key := k.die * 65536 + c;
      (match sparseFind? s.ae.holders key with | some other => (decide (other ≠ th.item) && (decide (wCtxOp w = 1) && (decide (s.ctxWaiters key = [])))) | _ => false)))))))))))) &&
    (let p : Nat := 16; (let eg : Bool := false; (let t : Nat := 3; (let th : Thread := T; (let k : Packet := K; (let w : Nat := wn 1;
      (let s : State := on w;
      (decide ((s).stopped = false ∧ p % 16 ≤ 8 ∧ (s).hasDie (p / 16) = true ∧ (s).thread? p eg t = some th ∧ (s).item? eg (th).item = some k ∧ (s).word eg (th).bank (th).pc = w ∧ (th).trap = 0 ∧ (th).ctxWaiting = false) &&
      (decide (5 ∉ th.unitsRun) && (decide (wCntOp w = 1))))))))))) &&
    (let p : Nat := 16; (let eg : Bool := false; (let t : Nat := 3; (let th : Thread := T; (let k : Packet := K; (let w : Nat := wn 2;
      (let s : State := on w;
      (decide ((s).stopped = false ∧ p % 16 ≤ 8 ∧ (s).hasDie (p / 16) = true ∧ (s).thread? p eg t = some th ∧ (s).item? eg (th).item = some k ∧ (s).word eg (th).bank (th).pc = w ∧ (th).trap = 0 ∧ (th).ctxWaiting = false) &&
      (decide (5 ∉ th.unitsRun) && (decide (wCntOp w = 2))))))))))) &&
    (let p : Nat := 16; (let eg : Bool := false; (let t : Nat := 3; (let th : Thread := T; (let k : Packet := KM; (let w : Nat := wm 1;
      (let s : State := on w T KM;
      (decide ((s).stopped = false ∧ p % 16 ≤ 8 ∧ (s).hasDie (p / 16) = true ∧ (s).thread? p eg t = some th ∧ (s).item? eg (th).item = some k ∧ (s).word eg (th).bank (th).pc = w ∧ (th).trap = 0 ∧ (th).ctxWaiting = false) &&
      (decide (6 ∉ th.unitsRun) && (let m := low 16 (th.reg (wMetReg w));
      (match k.meters.find? (fun h => h.meter = m) with | some h => (decide (wMetOp w = 1)) | _ => false))))))))))) &&
    (let p : Nat := 16; (let eg : Bool := false; (let t : Nat := 3; (let th : Thread := T; (let k : Packet := KM; (let w : Nat := wm 2;
      (let s : State := on w T KM;
      (decide ((s).stopped = false ∧ p % 16 ≤ 8 ∧ (s).hasDie (p / 16) = true ∧ (s).thread? p eg t = some th ∧ (s).item? eg (th).item = some k ∧ (s).word eg (th).bank (th).pc = w ∧ (th).trap = 0 ∧ (th).ctxWaiting = false) &&
      (decide (6 ∉ th.unitsRun) && (let m := low 16 (th.reg (wMetReg w));
      (match k.meters.find? (fun h => h.meter = m) with | some h => (decide (wMetOp w = 2)) | _ => false))))))))))) &&
    (let p : Nat := 16; (let eg : Bool := false; (let t : Nat := 3; (let th : Thread := T; (let k : Packet := K; (let w : Nat := wm 1;
      (let s : State := on w;
      (decide ((s).stopped = false ∧ p % 16 ≤ 8 ∧ (s).hasDie (p / 16) = true ∧ (s).thread? p eg t = some th ∧ (s).item? eg (th).item = some k ∧ (s).word eg (th).bank (th).pc = w ∧ (th).trap = 0 ∧ (th).ctxWaiting = false) &&
      (decide (6 ∉ th.unitsRun) && (let m := low 16 (th.reg (wMetReg w)); (let x := s.chargeMeter k.die m (meterBytes k.hv) 0;
      (decide (k.meters.find? (fun h => h.meter = m) = none) && (decide (wMetOp w = 1) &&
      (decide (s.chargeMeter k.die m (meterBytes k.hv) 0 = x))))))))))))))) &&
    (let p : Nat := 16; (let eg : Bool := false; (let t : Nat := 3; (let th : Thread := T; (let k : Packet := K; (let w : Nat := wm 2;
      (let s : State := on w;
      (decide ((s).stopped = false ∧ p % 16 ≤ 8 ∧ (s).hasDie (p / 16) = true ∧ (s).thread? p eg t = some th ∧ (s).item? eg (th).item = some k ∧ (s).word eg (th).bank (th).pc = w ∧ (th).trap = 0 ∧ (th).ctxWaiting = false) &&
      (decide (6 ∉ th.unitsRun) && (let m := low 16 (th.reg (wMetReg w)); (let x := s.chargeMeter k.die m (meterBytes k.hv) (min 2 (hvDp th.hv));
      (decide (k.meters.find? (fun h => h.meter = m) = none) && (decide (wMetOp w = 2) &&
      (decide (s.chargeMeter k.die m (meterBytes k.hv) (min 2 (hvDp th.hv)) = x))))))))))))))) &&
    (let p : Nat := 16; (let eg : Bool := false; (let t : Nat := 3; (let th : Thread := T; (let k : Packet := K; (let w : Nat := we 1;
      (let s : State := on w;
      (decide ((s).stopped = false ∧ p % 16 ≤ 8 ∧ (s).hasDie (p / 16) = true ∧ (s).thread? p eg t = some th ∧ (s).item? eg (th).item = some k ∧ (s).word eg (th).bank (th).pc = w ∧ (th).trap = 0 ∧ (th).ctxWaiting = false) &&
      (decide (7 ∉ th.unitsRun) && (decide (wEmitOp w = 1))))))))))) &&
    (let p : Nat := 16; (let eg : Bool := false; (let t : Nat := 3; (let th : Thread := T; (let k : Packet := K; (let w : Nat := we 2;
      (let s : State := on w;
      (decide ((s).stopped = false ∧ p % 16 ≤ 8 ∧ (s).hasDie (p / 16) = true ∧ (s).thread? p eg t = some th ∧ (s).item? eg (th).item = some k ∧ (s).word eg (th).bank (th).pc = w ∧ (th).trap = 0 ∧ (th).ctxWaiting = false) &&
      (decide (7 ∉ th.unitsRun) && (decide (wEmitOp w = 2))))))))))) &&
    (let p : Nat := 16; (let eg : Bool := false; (let t : Nat := 3; (let th : Thread := T; (let k : Packet := K; (let w : Nat := we 3;
      (let s : State := on w;
      (decide ((s).stopped = false ∧ p % 16 ≤ 8 ∧ (s).hasDie (p / 16) = true ∧ (s).thread? p eg t = some th ∧ (s).item? eg (th).item = some k ∧ (s).word eg (th).bank (th).pc = w ∧ (th).trap = 0 ∧ (th).ctxWaiting = false) &&
      (decide (7 ∉ th.unitsRun) && (decide (wEmitOp w = 3))))))))))) &&
    (let p : Nat := 16; (let eg : Bool := false; (let t : Nat := 3; (let th : Thread := T; (let k : Packet := K; (let w : Nat := we 4;
      (let s : State := on w;
      (decide ((s).stopped = false ∧ p % 16 ≤ 8 ∧ (s).hasDie (p / 16) = true ∧ (s).thread? p eg t = some th ∧ (s).item? eg (th).item = some k ∧ (s).word eg (th).bank (th).pc = w ∧ (th).trap = 0 ∧ (th).ctxWaiting = false) &&
      (decide (7 ∉ th.unitsRun) && (decide (wEmitOp w = 4))))))))))) &&
    (let p : Nat := 16; (let eg : Bool := false; (let t : Nat := 3; (let th : Thread := T; (let k : Packet := K; (let w : Nat := wr 1;
      (let s : State := on w;
      (decide ((s).stopped = false ∧ p % 16 ≤ 8 ∧ (s).hasDie (p / 16) = true ∧ (s).thread? p eg t = some th ∧ (s).item? eg (th).item = some k ∧ (s).word eg (th).bank (th).pc = w ∧ (th).trap = 0 ∧ (th).ctxWaiting = false) &&
      (decide (8 ∉ th.unitsRun) && (decide (wRepl w = 1))))))))))) &&
    (let p : Nat := 16; (let eg : Bool := false; (let t : Nat := 3; (let th : Thread := T; (let k : Packet := K; (let w : Nat := wr 2;
      (let s : State := on w;
      (decide ((s).stopped = false ∧ p % 16 ≤ 8 ∧ (s).hasDie (p / 16) = true ∧ (s).thread? p eg t = some th ∧ (s).item? eg (th).item = some k ∧ (s).word eg (th).bank (th).pc = w ∧ (th).trap = 0 ∧ (th).ctxWaiting = false) &&
      (decide (8 ∉ th.unitsRun) && (decide (wRepl w = 2))))))))))) &&
    (let p : Nat := 16; (let eg : Bool := false; (let t : Nat := 3; (let th : Thread := T; (let k : Packet := K; (let w : Nat := wr 3;
      (let s : State := on w;
      (decide ((s).stopped = false ∧ p % 16 ≤ 8 ∧ (s).hasDie (p / 16) = true ∧ (s).thread? p eg t = some th ∧ (s).item? eg (th).item = some k ∧ (s).word eg (th).bank (th).pc = w ∧ (th).trap = 0 ∧ (th).ctxWaiting = false) &&
      (decide (8 ∉ th.unitsRun) && (decide (wRepl w = 3))))))))))) &&
    (let p : Nat := 16; (let eg : Bool := false; (let t : Nat := 3; (let th : Thread := T; (let k : Packet := K; (let w : Nat := wr 4;
      (let s : State := on w;
      (decide ((s).stopped = false ∧ p % 16 ≤ 8 ∧ (s).hasDie (p / 16) = true ∧ (s).thread? p eg t = some th ∧ (s).item? eg (th).item = some k ∧ (s).word eg (th).bank (th).pc = w ∧ (th).trap = 0 ∧ (th).ctxWaiting = false) &&
      (decide (8 ∉ th.unitsRun) && (decide (wRepl w = 4))))))))))) &&
    (let p : Nat := 16; (let eg : Bool := false; (let t : Nat := 3; (let th : Thread := T; (let k : Packet := K; (let w : Nat := wr 5;
      (let s : State := on w;
      (decide ((s).stopped = false ∧ p % 16 ≤ 8 ∧ (s).hasDie (p / 16) = true ∧ (s).thread? p eg t = some th ∧ (s).item? eg (th).item = some k ∧ (s).word eg (th).bank (th).pc = w ∧ (th).trap = 0 ∧ (th).ctxWaiting = false) &&
      (decide (8 ∉ th.unitsRun) && (decide (wRepl w = 5))))))))))) &&
    (let p : Nat := 16; (let eg : Bool := false; (let t : Nat := 3; (let th : Thread := T; (let k : Packet := K; (let w : Nat := nop + 2 ^ 51;
      (let s : State := on w;
      (decide ((s).stopped = false ∧ p % 16 ≤ 8 ∧ (s).hasDie (p / 16) = true ∧ (s).thread? p eg t = some th ∧ (s).item? eg (th).item = some k ∧ (s).word eg (th).bank (th).pc = w ∧ (th).trap = 0 ∧ (th).ctxWaiting = false) &&
      (decide (9 ∉ th.unitsRun) && (decide (wPerf w = 1) && (decide (th.marks.length < 8)))))))))))) &&
    (let p : Nat := 16; (let eg : Bool := false; (let t : Nat := 3; (let th : Thread := T; (let k : Packet := K; (let w : Nat := nop + 2 ^ 52;
      (let s : State := on w;
      (decide ((s).stopped = false ∧ p % 16 ≤ 8 ∧ (s).hasDie (p / 16) = true ∧ (s).thread? p eg t = some th ∧ (s).item? eg (th).item = some k ∧ (s).word eg (th).bank (th).pc = w ∧ (th).trap = 0 ∧ (th).ctxWaiting = false) &&
      (decide (9 ∉ th.unitsRun) && (decide (wPerf w = 2) && (decide (th.log.any LogOp.isSample = false)))))))))))) &&
    (let p : Nat := 16; (let eg : Bool := false; (let t : Nat := 3; (let th : Thread := TS; (let k : Packet := K; (let w : Nat := nop + 2 ^ 52;
      (let s : State := on w TS;
      (decide ((s).stopped = false ∧ p % 16 ≤ 8 ∧ (s).hasDie (p / 16) = true ∧ (s).thread? p eg t = some th ∧ (s).item? eg (th).item = some k ∧ (s).word eg (th).bank (th).pc = w ∧ (th).trap = 0 ∧ (th).ctxWaiting = false) &&
      (decide (9 ∉ th.unitsRun) && (decide (wPerf w = 2) && (decide (th.log.any LogOp.isSample = true))))))))))))) = true := by decide +kernel

theorem test_witness_SequencerRows :
    ((let p : Nat := 16; (let eg : Bool := false; (let t : Nat := 3; (let th : Thread := T2; (let k : Packet := K; (let w : Nat := sq 0;
      (let s : State := on w th;
      (decide ((s).stopped = false ∧ p % 16 ≤ 8 ∧ (s).hasDie (p / 16) = true ∧ (s).thread? p eg t = some th ∧ (s).item? eg (th).item = some k ∧ (s).word eg (th).bank (th).pc = w ∧ (th).trap = 0 ∧ (th).ctxWaiting = false) &&
      (((List.range (10)).all fun u => decide (u ∈ th.unitsRun)) && (decide ((th.closeWord w).occupancy - (th.closeWord w).lockWait ≤ 512) &&
      (decide (wSeq w = 0) && (let pc := th.pc + 1; (decide (s.rowBad (p / 16) 0x60 (rowIndex (p % 16 * 2 + b2n eg) pc) = false)))))))))))))) &&
    (let p : Nat := 16; (let eg : Bool := false; (let t : Nat := 3; (let th : Thread := T2; (let k : Packet := K; (let w : Nat := sq 1;
      (let s : State := on w th;
      (decide ((s).stopped = false ∧ p % 16 ≤ 8 ∧ (s).hasDie (p / 16) = true ∧ (s).thread? p eg t = some th ∧ (s).item? eg (th).item = some k ∧ (s).word eg (th).bank (th).pc = w ∧ (th).trap = 0 ∧ (th).ctxWaiting = false) &&
      (((List.range (10)).all fun u => decide (u ∈ th.unitsRun)) && (decide ((th.closeWord w).occupancy - (th.closeWord w).lockWait ≤ 512) &&
      (decide (wSeq w = 1) && (let pc := wTarget w; (decide (s.rowBad (p / 16) 0x60 (rowIndex (p % 16 * 2 + b2n eg) pc) = false)))))))))))))) &&
    (let p : Nat := 16; (let eg : Bool := false; (let t : Nat := 3; (let th : Thread := T2; (let k : Packet := K; (let w : Nat := sq 2;
      (let s : State := on w th;
      (decide ((s).stopped = false ∧ p % 16 ≤ 8 ∧ (s).hasDie (p / 16) = true ∧ (s).thread? p eg t = some th ∧ (s).item? eg (th).item = some k ∧ (s).word eg (th).bank (th).pc = w ∧ (th).trap = 0 ∧ (th).ctxWaiting = false) &&
      (((List.range (10)).all fun u => decide (u ∈ th.unitsRun)) && (decide ((th.closeWord w).occupancy - (th.closeWord w).lockWait ≤ 512) &&
      (decide (wSeq w = 2) && (let pc := (if th.holds (wCond w) then wTarget w else th.pc + 1);
      (decide (s.rowBad (p / 16) 0x60 (rowIndex (p % 16 * 2 + b2n eg) pc) = false)))))))))))))) &&
    (let p : Nat := 16; (let eg : Bool := false; (let t : Nat := 3; (let th : Thread := T2; (let k : Packet := K; (let w : Nat := sq 3;
      (let s : State := on w th; (let stack := (if th.holds (wCond w) then (th.pc + 1) :: th.stack else th.stack);
      (decide ((s).stopped = false ∧ p % 16 ≤ 8 ∧ (s).hasDie (p / 16) = true ∧ (s).thread? p eg t = some th ∧ (s).item? eg (th).item = some k ∧ (s).word eg (th).bank (th).pc = w ∧ (th).trap = 0 ∧ (th).ctxWaiting = false) &&
      (((List.range (10)).all fun u => decide (u ∈ th.unitsRun)) && (decide ((th.closeWord w).occupancy - (th.closeWord w).lockWait ≤ 512) &&
      (decide (wSeq w = 3) && (let pc := (if th.holds (wCond w) then wTarget w else th.pc + 1);
      (decide (s.rowBad (p / 16) 0x60 (rowIndex (p % 16 * 2 + b2n eg) pc) = false) &&
      (decide (stack = (if th.holds (wCond w) then (th.pc + 1) :: th.stack else th.stack))))))))))))))))) &&
    (let p : Nat := 16; (let eg : Bool := false; (let t : Nat := 3; (let th : Thread := T2; (let k : Packet := K; (let w : Nat := sq 4;
      (let s : State := on w th; (let stack := (if th.holds (wCond w) then th.stack.tail else th.stack);
      (decide ((s).stopped = false ∧ p % 16 ≤ 8 ∧ (s).hasDie (p / 16) = true ∧ (s).thread? p eg t = some th ∧ (s).item? eg (th).item = some k ∧ (s).word eg (th).bank (th).pc = w ∧ (th).trap = 0 ∧ (th).ctxWaiting = false) &&
      (((List.range (10)).all fun u => decide (u ∈ th.unitsRun)) && (decide ((th.closeWord w).occupancy - (th.closeWord w).lockWait ≤ 512) &&
      (decide (wSeq w = 4) && (let pc := (if th.holds (wCond w) then th.stack.headD 0 else th.pc + 1);
      (decide (s.rowBad (p / 16) 0x60 (rowIndex (p % 16 * 2 + b2n eg) pc) = false) &&
      (decide (stack = (if th.holds (wCond w) then th.stack.tail else th.stack))))))))))))))))) &&
    (let p : Nat := 16; (let eg : Bool := false; (let t : Nat := 3; (let th : Thread := T2; (let k : Packet := K; (let w : Nat := sq 5;
      (let s : State := on w th;
      (decide ((s).stopped = false ∧ p % 16 ≤ 8 ∧ (s).hasDie (p / 16) = true ∧ (s).thread? p eg t = some th ∧ (s).item? eg (th).item = some k ∧ (s).word eg (th).bank (th).pc = w ∧ (th).trap = 0 ∧ (th).ctxWaiting = false) &&
      (((List.range (10)).all fun u => decide (u ∈ th.unitsRun)) && (decide ((th.closeWord w).occupancy - (th.closeWord w).lockWait ≤ 512) &&
      (decide (wSeq w = 5) && (let pc := wTarget w + th.a0 % 16;
      (decide (s.rowBad (p / 16) 0x60 (rowIndex (p % 16 * 2 + b2n eg) pc) = false)))))))))))))) &&
    (let p : Nat := 16; (let eg : Bool := false; (let t : Nat := 3; (let th : Thread := T2; (let k : Packet := K; (let w : Nat := sq 6;
      (let s : State := on w th; (let pc := 0;
      (decide ((s).stopped = false ∧ p % 16 ≤ 8 ∧ (s).hasDie (p / 16) = true ∧ (s).thread? p eg t = some th ∧ (s).item? eg (th).item = some k ∧ (s).word eg (th).bank (th).pc = w ∧ (th).trap = 0 ∧ (th).ctxWaiting = false) &&
      (((List.range (10)).all fun u => decide (u ∈ th.unitsRun)) && (decide ((th.closeWord w).occupancy - (th.closeWord w).lockWait ≤ 512) &&
      (decide (s.rowBad (p / 16) 0x60 (rowIndex (p % 16 * 2 + b2n eg) pc) = false) && (decide (wSeq w = 6)))))))))))))) &&
    (let p : Nat := 16; (let eg : Bool := false; (let t : Nat := 3; (let th : Thread := T2; (let k : Packet := K; (let w : Nat := sq 7;
      (let s : State := on w th; (let pc := 0;
      (decide ((s).stopped = false ∧ p % 16 ≤ 8 ∧ (s).hasDie (p / 16) = true ∧ (s).thread? p eg t = some th ∧ (s).item? eg (th).item = some k ∧ (s).word eg (th).bank (th).pc = w ∧ (th).trap = 0 ∧ (th).ctxWaiting = false) &&
      (((List.range (10)).all fun u => decide (u ∈ th.unitsRun)) && (decide ((th.closeWord w).occupancy - (th.closeWord w).lockWait ≤ 512) &&
      (decide (s.rowBad (p / 16) 0x60 (rowIndex (p % 16 * 2 + b2n eg) pc) = false) && (decide (wSeq w = 7)))))))))))))) &&
    (let p : Nat := 16; (let eg : Bool := false; (let t : Nat := 3; (let th : Thread := { T2 with occupancy := 511 }; (let k : Packet := K;
      (let w : Nat := sq 0; (let s : State := on w th;
      (decide ((s).stopped = false ∧ p % 16 ≤ 8 ∧ (s).hasDie (p / 16) = true ∧ (s).thread? p eg t = some th ∧ (s).item? eg (th).item = some k ∧ (s).word eg (th).bank (th).pc = w ∧ (th).trap = 0 ∧ (th).ctxWaiting = false) &&
      (((List.range (10)).all fun u => decide (u ∈ th.unitsRun)) && (decide (512 < (th.closeWord w).occupancy - (th.closeWord w).lockWait) &&
      (decide (wSeq w = 0)))))))))))) &&
    (let p : Nat := 16; (let eg : Bool := false; (let t : Nat := 3; (let th : Thread := T2; (let k : Packet := K; (let w : Nat := sq 6;
      (let s : State := on w th;
      (decide ((s).stopped = false ∧ p % 16 ≤ 8 ∧ (s).hasDie (p / 16) = true ∧ (s).thread? p eg t = some th ∧ (s).item? eg (th).item = some k ∧ (s).word eg (th).bank (th).pc = w ∧ (th).trap = 0 ∧ (th).ctxWaiting = false) &&
      (((List.range (10)).all fun u => decide (u ∈ th.unitsRun)) && (decide (wSeq w ≠ 0))))))))))) &&
    (let p : Nat := 16; (let eg : Bool := false; (let t : Nat := 3; (let th : Thread := T2; (let k : Packet := K; (let w : Nat := sq 6;
      (let s : State := on w th;
      (decide ((s).stopped = false ∧ p % 16 ≤ 8 ∧ (s).hasDie (p / 16) = true ∧ (s).thread? p eg t = some th ∧ (s).item? eg (th).item = some k ∧ (s).word eg (th).bank (th).pc = w ∧ (th).trap = 0 ∧ (th).ctxWaiting = false) &&
      (((List.range (10)).all fun u => decide (u ∈ th.unitsRun)) && (decide (wSeq w = 6) && (decide (eg = false) &&
      (decide ((th.closeWord w).occupancy - (th.closeWord w).lockWait ≤ 512) && (decide (th.reclaim = false))))))))))))))) = true := by decide +kernel

end Words

namespace Threads

def K : Packet := { pkt with stage := .running, restarts := 1 }
def T : Thread := { Thread.atDispatch 1 0 0x3000 0xFFFF 0xC0 5 0 with a0 := 0x80000005, a1 := 0x12345678, g := List.replicate 32 7 }
def nop : Nat := 0x7F * 2 ^ 112
def on (w : Nat) (x : Thread := T) (k : Packet := K) : State := ((ready.setPacket 1 k).setTbl 0 0x100 0 w).setThread 16 false 3 x
def rdy : Packet := { K with stage := .ready, hv := putBits K.hv 607 600 0xC5 }
def base : State := ready.setPacket 1 rdy
def busy : State := ((List.range 32).foldl (fun a u => a.setThread 16 false u T) base).setTbl 0 0x110 0xC5 (2 ^ 31 + 0x3000 * 2 ^ 16 + 0x55 * 256)
def bf : State := base.wrOctet Od.aeThreadState (pipeInst 16) 0 3 3
def bfy : State := bf.setTbl 0 0x110 0xC5 (2 ^ 31 + 0x3000 * 2 ^ 16 + 0x55 * 256)
def wc : Nat := 6 * 2 ^ 189 + nop + 1 * 2 ^ 84 + 3 * 2 ^ 79
def tw : Thread := { T with ctxWaiting := true }
def lg : State := (on wc tw).setCtxWaiters (65536 + 7) [2]
def after (s : State) (x : Thread) : State := { (s.endThread 16 false 3).aeCount 16 false Od.aeCycles x.occupancy with
  ae := { (s.endThread 16 false 3).ae with faults := sparsePut s.ae.faults (32 * 64 + 3) (s.ns :: (sparseGet (fun _ => []) s.ae.faults (32 * 64 + 3)).take 1) } }
def ck : Packet := { K with stage := .checking }
def cs (k : Packet) : State := bf.setPacket 1 k
def ck2 : Packet := { ck with log := [.ctx 7], lock := some 7, ctxNew := some 99 }
def cs2 : State := { cs ck2 with ae := { (cs ck2).ae with holders := sparsePut [] (65536 + 7) 1 } }
def cm (n : Nat) : Packet := { ck with marked := some (3, 0x3005, 0xC1), replays := n }
def tk : State := { up with recov := { up.recov with checks := [(2, 5)] } }
def w1 : TimedWrite := { seq := 4, table := 0x50, die := 1, index := 65536 + 7, record := List.replicate 64 9, epoch := 0, fn := 0, wq := 3, token := 6 }
def tm (w : TimedWrite) : State := { up with rings := { up.rings with timed := [w] } }
def tmh : State := { tm w1 with ae := { up.ae with holders := [(65536 + 7, 2)] } }

theorem test_witness_DispatchRow :
    ((let s : State := bf; (let p : Nat := 16; (let eg : Bool := false; (let i : Nat := 1; (let k : Packet := rdy; (decide (s.stopped = false) &&
      (decide (p % 16 ≤ 8) && (decide (s.hasDie (p / 16) = true) && (let e : Nat := engineOf p eg; (decide (s.item? eg i = some k) &&
      (decide (k.stage = .ready) && (decide (k.pipe = p) && (let op := bits k.hv 607 600; (let ent := s.entry eg (s.codeBank eg i (hvGen k.hv)) op;
      (decide (bitOf ent 31 = false) && (decide (hvReplay k.hv = false) && (decide (i ∉ s.restartQueue e)))))))))))))))))) &&
    (let s : State := bf.setRestartQueue 32 [1]; (let p : Nat := 16; (let eg : Bool := false; (let i : Nat := 1; (let k : Packet := rdy;
      (decide (s.stopped = false) && (decide (p % 16 ≤ 8) && (decide (s.hasDie (p / 16) = true) && (let e : Nat := engineOf p eg;
      (decide (s.item? eg i = some k) && (decide (k.stage = .ready) && (decide (k.pipe = p) && (let op := bits k.hv 607 600;
      (let ent := s.entry eg (s.codeBank eg i (hvGen k.hv)) op; (decide (bitOf ent 31 = false) &&
      (decide (hvReplay k.hv = true ∨ i ∈ s.restartQueue e))))))))))))))))) &&
    (let s : State := busy; (let p : Nat := 16; (let eg : Bool := false; (let i : Nat := 1; (let k : Packet := rdy; (decide (s.stopped = false) &&
      (decide (p % 16 ≤ 8) && (decide (s.hasDie (p / 16) = true) && (let e : Nat := engineOf p eg; (decide (s.item? eg i = some k) &&
      (decide (k.stage = .ready) && (decide (k.pipe = p) && (let op := bits k.hv 607 600; (let ent := s.entry eg (s.codeBank eg i (hvGen k.hv)) op;
      (let waiting := ((s.exitOrder e).filter fun j => ((s.item? eg j).map fun (x : Packet) => decide (x.stage = .passed)).getD false).length;
      (decide (bitOf ent 31 = true) &&
      ((decide (64 ≤ waiting) || (List.range 32).all fun u => (s.thread? p eg u).isSome || s.threadInService p eg u = false)))))))))))))))))) &&
    (let s : State := (bfy.setRestartQueue 32 [1]).setExitOrder 32 [1, 2]; (let p : Nat := 16; (let eg : Bool := false; (let i : Nat := 1;
      (let t : Nat := 3; (let ecc : Nat := 0; (let k : Packet := rdy; (decide (s.stopped = false) && (decide (p % 16 ≤ 8) &&
      (decide (s.hasDie (p / 16) = true) && (let e : Nat := engineOf p eg; (decide (s.item? eg i = some k) && (decide (k.stage = .ready) &&
      (decide (k.pipe = p) && (let op := bits k.hv 607 600; (let ent := s.entry eg (s.codeBank eg i (hvGen k.hv)) op;
      (let waiting := ((s.exitOrder e).filter fun j => ((s.item? eg j).map fun (x : Packet) => decide (x.stage = .passed)).getD false).length;
      (decide (bitOf ent 31 = true) && (decide (waiting < 64) && (decide (s.thread? p eg t = none) && (decide (s.threadInService p eg t = true) &&
      (decide (k.avoid ≠ some t) && (decide (s.restartQueue e = [] ∨ (s.restartQueue e).head? = some i) && (decide (ecc = 0) &&
      (decide (s.rowBad (p / 16) 0x60 (rowIndex (p % 16 * 2 + b2n eg) (bits ent 29 16)) = false))))))))))))))))))))))))))) = true := by decide +kernel

theorem test_witness_ThreadRows :
    ((let s : State := up; (let d := 1; (let c := 0xFFFF; (decide (s.stopped = false) && (decide (s.hasDie d = true) && (let key := d * 65536 + c;
      (decide ((sparseFind? s.ae.holders key).isSome = true ∨ s.ctxWaiters key = [])))))))) &&
    (let s : State := lg; (let d := 1; (let c := 7; (let key := 65543; (let i := 1; (let rest := []; (let p := 16; (let t := 3; (let th := tw;
      (let k := K; (decide (s.stopped = false) && (decide (s.hasDie d = true) && (decide (key = d * 65536 + c) &&
      (decide (sparseFind? s.ae.holders key = none) && (decide (s.ctxWaiters key = i * 2 :: rest) && (decide (t < 64) &&
      (decide (s.ae.threads.find? (fun (e : Nat × Thread) => e.2.item = i && e.2.ctxWaiting && e.1 / 64 % 2 = 0) = some (p * 128 + t, th)) &&
      (decide (s.packet? i = some k) && (let w := s.word false th.bank th.pc; (decide (wCtxOp w = 1) && (decide (low 16 (th.reg (wCtxReg w)) = c) &&
      (decide (k.die = d))))))))))))))))))))))) &&
    (let p := 16; (let eg := false; (let t := 3; (let th := { T with committed := true, occupancy := 9 }; (let s : State := on nop th; (let k := K;
      (decide (s.stopped = false) && (decide (p % 16 ≤ 8) && (decide (s.hasDie (p / 16) = true) && (decide (s.thread? p eg t = some th) &&
      (decide (s.item? eg th.item = some k) && (decide (th.committed = true))))))))))))) &&
    (let s : State := on nop; (let p := 16; (let eg := false; (let t := 3; (let th := T; (let k := K; (decide (s.stopped = false) &&
      (decide (p % 16 ≤ 8) && (decide (s.hasDie (p / 16) = true) && (decide (s.thread? p eg t = some th) && (decide (s.item? eg th.item = some k) &&
      (decide (th.committed = false) && (decide (k.restarts < 2)))))))))))))) &&
    (let p := 16; (let eg := false; (let t := 3; (let th := T; (let k := { K with restarts := 2 }; (let s : State := on nop T k;
      (decide (s.stopped = false) && (decide (p % 16 ≤ 8) && (decide (s.hasDie (p / 16) = true) && (decide (s.thread? p eg t = some th) &&
      (decide (s.item? eg th.item = some k) && (decide (th.committed = false) && (decide (2 ≤ k.restarts)))))))))))))) &&
    (let s : State := base.wrOctet Od.aeThreadState (pipeInst 16) 0 3 3; (let p := 16; (let eg := false; (let t := 3; (let failed := true;
      (decide (s.stopped = false) && (decide (p % 16 ≤ 8) && (decide (s.hasDie (p / 16) = true) &&
      (decide (failed = true ∨ 2 ≤ ((sparseGet (fun _ => []) s.ae.faults (engineOf p eg * 64 + t)).filter fun n => decide (s.up < n + 1000000000)).length) &&
      (decide (s.threadInService p eg t = true) && (decide (s.thread? p eg t = none)))))))))))) &&
    (let s : State := base.wrOctet Od.aeThreadState (pipeInst 16) 0 3 3; (let p := 16; (let eg := false; (let t := 3; (decide (s.stopped = false) &&
      (decide (p % 16 ≤ 8) && (decide (s.hasDie (p / 16) = true) &&
      (decide (sparseGet (fun _ => []) s.ae.faults (engineOf p eg * 64 + t) = []))))))))) &&
    (let p := 16; (let eg := false; (let i := 1; (let rest := [4]; (let k := { K with stage := .passed };
      (let s : State := (ready.setPacket 1 k).setExitOrder 32 [1, 4]; (decide (s.stopped = false) && (decide (p % 16 ≤ 8) &&
      (decide (s.hasDie (p / 16) = true) && (decide (s.exitOrder (engineOf p eg) = i :: rest) && (decide (s.item? eg i = some k) &&
      (decide (k.stage = .passed))))))))))))) &&
    (let p := 16; (let eg := false; (let i := 1; (let rest := [4]; (let k := K; (let s : State := (ready.setPacket 1 k).setExitOrder 32 [1, 4];
      (decide (s.stopped = false) && (decide (p % 16 ≤ 8) && (decide (s.hasDie (p / 16) = true) &&
      (decide (s.exitOrder (engineOf p eg) = i :: rest) && (decide (s.item? eg i = some k) && (decide (k.stage ≠ .passed)))))))))))))) = true := by decide +kernel

theorem test_witness_ExitChecks :
    ((let s : State := base; (let eg := false; (let i := 1; (decide (s.stopped = false) &&
      (match s.item? eg i with | some k => (decide (k.stage ≠ .checking)) | _ => false))))) &&
    (let s : State := cs ck; (let eg := false; (let i := 1; (decide (s.stopped = false) &&
      (match s.item? eg i with | some k => (decide (k.stage = .checking) && (decide (k.marked = none) && (decide (k.picked = false) && (decide (k.lock = none) && (decide (k.log = [])))))) | _ => false))))) &&
    (let eg := false; (let i := 1; (let k := { ck with log := [.add 5 9] }; (let s : State := cs k; (let c := 5; (let v := 9;
      (decide (s.stopped = false) && (decide (s.item? eg i = some k) && (decide (k.stage = .checking) && (decide (k.marked = none) &&
      (decide (k.picked = false) && (decide (k.lock = none) && (decide (k.log = [.add c v])))))))))))))) &&
    (let s : State := cs2; (let eg := false; (let i := 1; (let c := 7; (let v := 99; (decide (s.stopped = false) &&
      (match s.item? eg i with | some k => (decide (k.stage = .checking) && (decide (k.marked = none) && (decide (k.picked = false) && (decide (k.lock = some c) && (decide (k.ctxNew = some v) && (decide (k.log = [.ctx c]) && (decide (sparseFind? s.ae.holders (k.die * 65536 + c) = some i) && (decide (s.ctxWaiters (k.die * 65536 + c) = []) && (decide (sparseRising none s.ae.contexts = true) && (decide (sparseRising none s.ae.holders = true))))))))))) | _ => false))))))) &&
    (let s : State := cs (cm 2); (let eg := false; (let i := 1; (let m := (3, 0x3005, 0xC1); (decide (s.stopped = false) &&
      (match s.item? eg i with | some k => (decide (k.stage = .checking) && (decide (k.marked = some m) && (decide (2 ≤ k.replays)))) | _ => false)))))) &&
    (let s : State := cs (cm 1); (let eg := false; (let i := 1; (let m := (3, 0x3005, 0xC1); (decide (s.stopped = false) &&
      (match s.item? eg i with | some k => (decide (k.stage = .checking) && (decide (k.marked = some m) && (decide (k.replays < 2)))) | _ => false)))))) &&
    (let s : State := tk; (let d := 1; (let eg := false; (let o := 5; (decide (s.stopped = false) && (decide (s.hasDie d = true) &&
      (decide (s.recov.checks.find? (fun c => c.1 = d * 2 + b2n eg) = some (d * 2 + b2n eg, o)) && (s.packets.all fun e => e.2.stage ≠ .spare &&
      (s.tm.copies.all fun e => e.2.k.stage ≠ .spare))))))))) &&
    (let s : State := up.setSpare 5 1 4 2 1; (let cls := 5; (let d := 1; (let g := 4; (let u := 2; (decide (s.stopped = false) &&
      (decide (s.hasDie d = true) && (decide (cls ≠ 0) && (decide (cls ≠ 4) &&
      (decide (s.spareState cls d g u = 1 ∨ s.spareState cls d g u = 2))))))))))) &&
    (let s : State := tmh; (let d := 1; (let c := 7; (let w := w1; (let i := 2; (decide (s.stopped = false) && (decide (s.hasDie d = true) &&
      (let key := d * 65536 + c; (decide (s.rings.timed = [w]) && (decide (w.table = 0x50) && (decide (w.index = key) && (decide (c < 65536) &&
      (decide (w.epoch ≤ s.time.epoch) && (decide (s.ctxWaiters key = []) && (decide (sparseFind? s.ae.holders key = some i)))))))))))))))) &&
    (let s : State := tm w1; (let d := 1; (let c := 7; (let w := w1; (decide (s.stopped = false) && (decide (s.hasDie d = true) &&
      (let key := d * 65536 + c; (decide (s.rings.timed = [w]) && (decide (w.table = 0x50) && (decide (w.index = key) && (decide (c < 65536) &&
      (decide (w.epoch ≤ s.time.epoch) && (decide (s.ctxWaiters key = []) && (decide (sparseFind? s.ae.holders key = none))))))))))))))) &&
    (let s : State := tm { w1 with table := 0x64 }; (let w := { w1 with table := 0x64 }; (decide (s.stopped = false) &&
      (decide (s.rings.timed = [w]) && (decide (w.table = 0x64) && (decide (w.epoch ≤ s.time.epoch)))))))) = true := by decide +kernel

end Threads

namespace Traffic

def lf : Packet := { pkt with stage := .left, hv := putDest pkt.hv 1 66 }
def es (k : Packet) : State := ready.setPacket 1 k
def kk (kind dest : Nat) : Packet := { lf with hv := putDest pkt.hv kind dest }
def lg (l : List LogOp) : Packet := { lf with log := l }
def late (s : State) : State := { s with time := { s.time with up := 2 ^ 40 } }
def rq : State := up.setRequests 520 [(0, 520, 3), (0, 520, 2)]
def rqu : State := (rq.wr Od.portMode 9 (portInst 65)).wr Od.portState 2 (portInst 65)
def rqd : State := rqu.setDeficit 520 0 5
def rf : State := up.setFanRequests 1 [(0, 4104, 3)]
def full : State := up.wr Od.replCellLimit 0
def rff : State := full.setFanRequests 1 [(0, 4104, 3)]
def C : Copy := { Copy.of { lf with hv := putFields 0 [(799, 791, 65), (554, 552, 0)] } (putFields 0 [(799, 791, 65)]) 0 1 1 with cells := 1, kind := 3, id := 5, last := true }
def cp (c : Copy) : State := ready.setCopy 5 c
def fan (n : Nat) : Copy := { C with stage := .arrived, extra := [{ port := n, nh := 0, lport := n, replica := 0 }] }
def el (l : List LogOp) (kind : Nat := 0) : Copy := { C with stage := .egress, mtu := 1500, k := { C.k with log := l, hv := putDest C.k.hv kind 0 } }
def bad1 : Copy := { el [] with k := { (el []).k with hv := putFields (el []).k.hv [(1759, 1752, 0x0B), (1871, 1867, 1)] } }
def tq : Copy := { C with stage := .queued, out := fr.take 60 }
def ts : State := (((cp tq).setTxQueue 523 [5])).wr Od.schedMode 0 (portInst 65) 3
def snd' (c : Copy) : State := { cp c with tm := { (cp c).tm with sending := [(65, 5)] } }
def lk : Packet := { lf with stage := .looping, owns := true }
def lls (k : Packet) : State := (es k).setLoopQueue 1 0 [1]
def rk : Packet := { lf with stage := .renewed }
def one (k : Packet) (t : Nat) : State := { es k with time := { ready.time with up := t } }

theorem test_witness_EnqueueRow :
    ((let p : Nat := 1; (let k : Packet := { lf with stage := .passed }; (let s : State := es k; (decide (s.stopped = false) &&
      (decide (s.packet? p = some k) && (decide (k.stage ≠ .left))))))) &&
    (let p : Nat := 1; (let k : Packet := lf; (let s : State := (es k).setTbl 0 0x40 66 (2 ^ 126); (decide (s.stopped = false) &&
      (decide (s.packet? p = some k) && (decide (k.stage = .left) && (decide (k.mirror = none) && (decide (k.log = []) && (let dest := hvDest k.hv;
      (let l := dest % 4096; (let r := s.tbl (s.liveFor 0x40 (hvGen k.hv)) 0x40 l; (decide (hvKind k.hv = 1) && (decide (dest / 4096 = 0) &&
      (decide (bits r 127 126 = 1) && (decide (s.portExists l = true)))))))))))))))) &&
    (let p : Nat := 1; (let k : Packet := lf; (let s : State := (es k).setTbl 0 0x40 66 1; (decide (s.stopped = false) &&
      (decide (s.packet? p = some k) && (decide (k.stage = .left) && (decide (k.mirror = none) && (decide (k.log = []) && (let dest := hvDest k.hv;
      (let l := dest % 4096; (let r := s.tbl (s.liveFor 0x40 (hvGen k.hv)) 0x40 l; (decide (hvKind k.hv = 1) && (decide (dest / 4096 = 0) &&
      (decide (bits r 127 126 = 0))))))))))))))) &&
    (let p : Nat := 1; (let k : Packet := kk 0 5; (let s : State := es k; (decide (s.stopped = false) && (decide (s.packet? p = some k) &&
      (decide (k.stage = .left) && (decide (k.mirror = none) && (decide (k.log = []) && (decide (hvKind k.hv = 0)))))))))) &&
    (let p : Nat := 1; (let k : Packet := kk 5 5; (let s : State := es k; (decide (s.stopped = false) && (decide (s.packet? p = some k) &&
      (decide (k.stage = .left) && (decide (k.mirror = none) && (decide (k.log = []) && (decide (hvKind k.hv = 5)))))))))) &&
    (let p : Nat := 1; (let k : Packet := kk 6 5; (let s : State := es k; (decide (s.stopped = false) && (decide (s.packet? p = some k) &&
      (decide (k.stage = .left) && (decide (k.mirror = none) && (decide (k.log = []) && (decide (hvKind k.hv = 6)))))))))) &&
    (let p : Nat := 1; (let k : Packet := kk 2 5; (let s : State := es k; (decide (s.stopped = false) && (decide (s.packet? p = some k) &&
      (decide (k.stage = .left) && (decide (k.mirror = none) && (decide (k.log = []) && (let dest := hvDest k.hv; (decide (hvKind k.hv = 2) &&
      (decide (dest / 16384 = 0) && (decide (s.ecmpMember (hvGen k.hv) (s.flowHash k.hv) dest = none))))))))))))) &&
    (let p : Nat := 1; (let k : Packet := kk 3 5; (let s : State := es k; (let grp := 0; (decide (s.stopped = false) &&
      (decide (s.packet? p = some k) && (decide (k.stage = .left) && (decide (k.mirror = none) && (decide (k.log = []) && (let dest := hvDest k.hv;
      (decide (hvKind k.hv = 3) && (decide (dest < 65535) && (decide (s.replGroup? s.rewriteBank dest = some grp) &&
      (decide (bitOf grp 255 = false))))))))))))))) &&
    (let p : Nat := 1; (let k : Packet := kk 4 5; (let s : State := es k; (decide (s.stopped = false) && (decide (s.packet? p = some k) &&
      (decide (k.stage = .left) && (decide (k.mirror = none) && (decide (k.log = []) && (let dest := hvDest k.hv; (decide (hvKind k.hv = 4) &&
      (decide (bits dest 22 18 = 0)))))))))))) &&
    (let p : Nat := 1; (let k : Packet := lg [.drop]; (let s : State := es k; (decide (s.stopped = false) && (decide (s.packet? p = some k) &&
      (decide (k.stage = .left) && (decide (k.mirror = none) && (decide (k.log = [.drop]))))))))) &&
    (let p : Nat := 1; (let k : Packet := lg [.punt 7]; (let s : State := es k; (let reason := 7; (decide (s.stopped = false) &&
      (decide (s.packet? p = some k) && (decide (k.stage = .left) && (decide (k.mirror = none) && (decide (k.log = [.punt reason])))))))))) &&
    (let p : Nat := 1; (let k : Packet := { lg [.recirc 7] with hv := putBits lf.hv 1866 1865 3 }; (let s : State := es k; (let profile := 7;
      (decide (s.stopped = false) && (decide (s.packet? p = some k) && (decide (k.stage = .left) && (decide (k.mirror = none) &&
      (decide (k.log = [.recirc profile]) && (decide (hvPass k.hv = 3))))))))))) &&
    (let p : Nat := 1; (let k : Packet := lg [.recirc 7]; (let s : State := late (es k); (let profile := 7; (decide (s.stopped = false) &&
      (decide (s.packet? p = some k) && (decide (k.stage = .left) && (decide (k.mirror = none) && (decide (k.log = [.recirc profile]) &&
      (decide (hvPass k.hv ≠ 3) && (decide (32000 < s.age k)))))))))))) &&
    (let p : Nat := 1; (let k : Packet := lg [.recirc 7]; (let s : State := es k; (let profile := 7; (decide (s.stopped = false) &&
      (decide (s.packet? p = some k) && (decide (k.stage = .left) && (decide (k.mirror = none) && (decide (k.log = [.recirc profile]) &&
      (decide (hvPass k.hv ≠ 3) && (decide (s.age k ≤ 32000) && (decide (s.rd Od.loopbackClaim ≠ 1) &&
      (decide (s.rd Od.loopbackClaim ≠ 3)))))))))))))) &&
    (let p : Nat := 1; (let k : Packet := { lf with mirror := some 3 }; (let s : State := (es k).setTbl 0 0x4A 0 (2 * 2 ^ 126); (let sess := 3;
      (decide (s.stopped = false) && (decide (s.packet? p = some k) && (decide (k.stage = .left) && (decide (k.mirror = some sess) &&
      (decide (bits (s.nextHop (s.liveFor 0x4A (hvGen k.hv)) (bits (s.tbl s.rewriteBank 0x57 sess) 102 85)) 127 126 = 2))))))))))) = true := by decide +kernel

theorem test_witness_GrantRows :
    ((let s : State := rqd; (let d := 1; (let v := 4095; (decide (s.stopped = false) && (decide (s.hasDie d = true) && (decide (v < 4096))))))) &&
    (let s : State := rqd; (let d := 1; (let v := 4096; (decide (s.stopped = false) && (decide (s.hasDie d = true) && (decide (4096 ≤ v))))))) &&
    (let s : State := rqu.wr Od.portState 4 (portInst 65); (let v := 520; (decide (s.stopped = false) && (decide (v < 4096) &&
      (decide (s.hasDie (v / 8 / 64) = true) &&
      (match s.requestsAt v with | q :: rest => (decide (s.portStateOf (v / 8) = 4 ∨ s.portStateOf (v / 8) = 5)) | _ => false)))))) &&
    (let s : State := rq; (let v := 520; (decide (s.stopped = false) && (decide (v < 4096) && (decide (s.hasDie (v / 8 / 64) = true) &&
      (match s.requestsAt v with | q :: rest => (decide (s.portStateOf (v / 8) ≠ 2) && (decide (s.portStateOf (v / 8) ≠ 4) && (decide (s.portStateOf (v / 8) ≠ 5)))) | _ => false)))))) &&
    (let s : State := rqd.setInFlight 520 99999; (let v := 520; (decide (s.stopped = false) && (decide (v < 4096) &&
      (decide (s.hasDie (v / 8 / 64) = true) &&
      (match s.requestsAt v with | q :: rest => (decide (s.portStateOf (v / 8) = 2) && (decide (s.inStorm v = false) && (decide (s.txWindow (v / 8) ≤ s.txCells v + s.inFlight v)))) | _ => false)))))) &&
    (let s : State := rqd; (let v := 520; (decide (s.stopped = false) && (decide (v < 4096) && (decide (s.hasDie (v / 8 / 64) = true) &&
      (match s.requestsAt v with | q :: rest => (decide (s.portStateOf (v / 8) = 2) && (decide (s.inStorm v = false) && (decide (s.txCells v + s.inFlight v < s.txWindow (v / 8)) && ((rest.all fun r => decide (r.1 = q.1)) && (decide (q.1 ∈ s.part.dies) && (decide (0 < s.deficit v q.1))))))) | _ => false)))))) &&
    (let s : State := up; (let v := 520; (decide (s.stopped = false) && (decide (v < 4096) && (decide (s.hasDie (v / 8 / 64) = true) &&
      (decide (s.requestsAt v = []))))))) &&
    (let s : State := rf; (let v := 4104; (decide (s.stopped = false) && (decide (4096 ≤ v) && (decide (s.hasDie ((v - 4096) / 8) = true) &&
      (match s.fanRequestsAt ((v - 4096) / 8) with | q :: rest => (decide (s.fanHeld ((v - 4096) / 8) < s.rd Od.replCellLimit)) | _ => false)))))) &&
    (let s : State := rff; (let v := 4104; (decide (s.stopped = false) && (decide (4096 ≤ v) && (decide (s.hasDie ((v - 4096) / 8) = true) &&
      (match s.fanRequestsAt ((v - 4096) / 8) with | q :: rest => (decide (s.rd Od.replCellLimit ≤ s.fanHeld ((v - 4096) / 8))) | _ => false)))))) &&
    (let s : State := up; (let d := 1; (let v := 520; (decide (s.stopped = false) && (decide (s.hasDie d = true) &&
      (((s.queueOf d v).all fun i => (s.copy? i).all fun c => decide (c.stage ≠ .requested)))))))) &&
    (let d := 1; (let v := 520; (let i := 5; (let c := { C with stage := .requested }; (let s : State := (cp c).setQueue 1 520 [5];
      (decide (s.stopped = false) && (decide (s.hasDie d = true) && (decide (s.queueOf d v = [i]) && (decide (s.copy? i = some c) &&
      (decide (c.stage = .requested))))))))))) &&
    (let s : State := rqd; (let d := 1; (decide (s.stopped = false) && (decide (s.hasDie d = true))))) &&
    (let i := 5; (let c := fan 66; (let s : State := cp c; (decide (s.stopped = false) && (decide (s.copy? i = some c) && (decide (c.isFan = true) &&
      (decide (c.stage = .arrived) && (match s.portCopies c 0 with | (t, l) => (decide (l = [])))))))))) &&
    (let i := 5; (let c := fan 65; (let s : State := cp c; (decide (s.stopped = false) && (decide (s.copy? i = some c) && (decide (c.isFan = true) &&
      (decide (c.stage = .arrived) && (match s.portCopies c 0 with | (t, l) => (decide (l ≠ []))))))))))) = true := by decide +kernel

theorem test_witness_EgressRows :
    ((let i : Nat := 5; (let c : Copy := { C with stage := .arrived }; (let s : State := (cp c).wr Od.aeThreadState.egress 0 (pipeInst 16);
      (decide (s.stopped = false) && (decide (s.copy? i = some c) && (decide (c.isFan = false) && (decide (c.stage = .arrived) &&
      (decide (s.threadsBusy (s.egressPipe c) true = true))))))))) &&
    (let i : Nat := 5; (let c : Copy := { C with stage := .arrived }; (let s : State := cp c; (decide (s.stopped = false) &&
      (decide (s.copy? i = some c) && (decide (c.isFan = false) && (decide (c.stage = .arrived) &&
      (decide (s.threadsBusy (s.egressPipe c) true = false) && (decide (hvEntries c.k.hv = []) && (decide (bits c.k.hv 775 758 = 0) &&
      (let n := c.port; (let d := n / 64; (let bd := bits c.k.hv 757 744; (let hv0 := putFields c.k.hv [(775, 758, 0), (757, 744, bd)];
      (decide (s.rowBad d 0x40 (rowIndex (s.fam 0x40).live (bits hv0 787 776)) = false) &&
      (decide (s.hashLookup d 0x41 (s.fam 0x41).live (27, 2 ^ 26 + bits hv0 787 776 * 2 ^ 14 + bits hv0 757 744) = (none, none)) &&
      (decide (12 ≤ s.rd Od.egressAsaSet (portInst (bits hv0 799 791)))))))))))))))))))) &&
    (let i : Nat := 5; (let c : Copy := { el [] with k := { C.k with stage := .ready } }; (let s : State := cp c; (decide (s.stopped = false) &&
      (decide (s.copy? i = some c) && (decide (c.stage = .egress) && (decide (c.k.stage ≠ .received)))))))) &&
    (let i : Nat := 5; (let c : Copy := { el [] with k := { C.k with stage := .ready } }; (let s : State := cp c; (decide (s.stopped = false) &&
      (decide (s.copy? i = some c) && (decide (c.stage = .egress) && (decide (c.k.stage ≠ .left)))))))) &&
    (let i : Nat := 5; (let c : Copy := el [.recirc 4]; (let s : State := cp c; (let q := 4; (decide (s.stopped = false) &&
      (decide (s.copy? i = some c) && (decide (c.stage = .egress) && (decide (c.k.stage = .left) && (decide (c.k.log = [.recirc q])))))))))) &&
    (let i : Nat := 5; (let c : Copy := el [.drop]; (let s : State := cp c; (decide (s.stopped = false) && (decide (s.copy? i = some c) &&
      (decide (c.stage = .egress) && (decide (c.k.stage = .left) && (decide (c.k.log = [.drop]))))))))) &&
    (let i : Nat := 5; (let c : Copy := el [.punt 8]; (let s : State := cp c; (let reason := 8; (decide (s.stopped = false) &&
      (decide (s.copy? i = some c) && (decide (c.stage = .egress) && (decide (c.k.stage = .left) && (decide (c.k.log = [.punt reason])))))))))) &&
    (let i : Nat := 5; (let c : Copy := el [] 6; (let s : State := cp c; (decide (s.stopped = false) && (decide (s.copy? i = some c) &&
      (decide (c.stage = .egress) && (decide (c.k.stage = .left) && (decide (c.k.log = []) && (decide (hvKind c.k.hv = 6)))))))))) &&
    (let i : Nat := 5; (let c : Copy := el [] 5; (let s : State := cp c; (decide (s.stopped = false) && (decide (s.copy? i = some c) &&
      (decide (c.stage = .egress) && (decide (c.k.stage = .left) && (decide (c.k.log = []) && (decide (hvKind c.k.hv = 5)))))))))) &&
    (let i : Nat := 5; (let c : Copy := el [] 2; (let s : State := cp c; (decide (s.stopped = false) && (decide (s.copy? i = some c) &&
      (decide (c.stage = .egress) && (decide (c.k.stage = .left) && (decide (c.k.log = []) && (decide (hvKind c.k.hv ≠ 0) &&
      (decide (hvKind c.k.hv ≠ 5) && (decide (hvKind c.k.hv ≠ 6)))))))))))) &&
    (let i : Nat := 5; (let c : Copy := bad1; (let s : State := cp c; (decide (s.stopped = false) && (decide (s.copy? i = some c) &&
      (decide (c.stage = .egress) && (decide (c.k.stage = .left) && (decide (c.k.log = []) && (decide (hvKind c.k.hv = 0) &&
      (decide (hvEntries c.k.hv = []) && (decide (bits c.k.hv 775 758 = 0) &&
      (match (hvInstances c.k.hv).head? with | some e => (decide (etherTypeOf (instType e) = none) && (decide (instType e ≠ 0x01))) | _ => false)))))))))))) &&
    (let i : Nat := 5; (let c : Copy := el []; (let s : State := cp c; (decide (s.stopped = false) && (decide (s.copy? i = some c) &&
      (decide (c.stage = .egress) && (decide (c.k.stage = .left) && (decide (c.k.log = []) && (decide (hvKind c.k.hv = 0) &&
      (decide (hvEntries c.k.hv = []) && (decide (bits c.k.hv 775 758 = 0) && (decide (c.vid = 0) && (decide (hvL3End c.k.hv = 0) &&
      (decide (((hvInstances c.k.hv).getD 0 (0x01 * 2 ^ 24)) / 2 ^ 24 % 256 = 0x01) && (let body := c.k.frame.take (c.k.frame.length - 4);
      (decide (isTpid (beNat (slice body 12 2)) = false) && (decide (c.k.ended = false ∨ body.length + 4 ≤ min 10240 c.mtu)))))))))))))))))) &&
    (let i : Nat := 5; (let c : Copy := { el [] with mtu := 63 }; (let s : State := cp c; (decide (s.stopped = false) &&
      (decide (s.copy? i = some c) && (decide (c.stage = .egress) && (decide (c.k.stage = .left) && (decide (c.k.log = []) &&
      (decide (hvKind c.k.hv = 0) && (decide (hvEntries c.k.hv = []) && (decide (bits c.k.hv 775 758 = 0) && (decide (c.vid = 0) &&
      (decide (hvL3End c.k.hv = 0) && (decide (((hvInstances c.k.hv).getD 0 (0x01 * 2 ^ 24)) / 2 ^ 24 % 256 = 0x01) &&
      (let body := c.k.frame.take (c.k.frame.length - 4); (decide (isTpid (beNat (slice body 12 2)) = false) && (decide (c.k.ended = true) &&
      (decide (min 10240 c.mtu < body.length + 4)))))))))))))))))))) = true := by decide +kernel

theorem test_witness_TransmitRows :
    ((let s : State := snd' tq; (let n : Nat := 65; (decide (s.stopped = false) && (decide (n < 512) && (decide (s.hasDie (n / 64) = true) &&
      (decide ((sparseFind? s.tm.sending n).isSome = true))))))) &&
    (let s : State := ts.wr Od.portState 3 (portInst 65); (let n : Nat := 65; (decide (s.stopped = false) && (decide (n < 512) &&
      (decide (s.hasDie (n / 64) = true) && (decide (sparseFind? s.tm.sending n = none) && (decide (s.portStateOf n ≠ 2) &&
      (decide (s.portStateOf n ≠ 4) && (decide (s.portStateOf n ≠ 5)))))))))) &&
    (let s : State := ts; (let n : Nat := 65; (let t := 3; (decide (s.stopped = false) && (decide (n < 512) && (decide (s.hasDie (n / 64) = true) &&
      (decide (t < 8) && (decide (sparseFind? s.tm.sending n = none) && (decide (s.portStateOf n = 2) && (decide ((s.gate n).length = 0) &&
      (decide ((s.gate n).swap = none) && (decide (s.rd Od.portShapeRate (portInst n) = 0) &&
      (match s.txQueue (n * 8 + t) with | i :: rest => (match s.copy? i with | some c => (decide (s.storedEnough n c = true) && (decide (s.paused (n * 8 + t) = false) && (decide (s.rd Od.shapeRate (portInst n) t = 0) && (decide (s.rd Od.schedMode (portInst n) t = 0) && ((List.range 8).all fun u => (match s.txQueue (n * 8 + u) with | j :: _ => (s.copy? j).any fun x => x.k.bad = false | [] => true) && (((List.range (8)).all fun u => decide (t < u → s.txQueue (n * 8 + u) = [])))))))) | _ => false) | _ => false))))))))))))) &&
    (let n : Nat := 65; (let c := { tq with k := { tq.k with ended := false } }; (let s : State := snd' c; (decide (s.stopped = false) &&
      (decide (n < 512) && (decide (s.hasDie (n / 64) = true) &&
      (match sparseFind? s.tm.sending n with | some i => (decide (s.copy? i = some c) && (decide (c.k.ended = false))) | _ => false))))))) &&
    (let n : Nat := 65; (let c := tq; (let s : State := snd' c; (decide (s.stopped = false) && (decide (n < 512) &&
      (decide (s.hasDie (n / 64) = true) &&
      (match sparseFind? s.tm.sending n with | some i => (decide (s.copy? i = some c) && (decide (c.k.ended = true) && (decide (c.k.bad = false)))) | _ => false))))))) &&
    (let n : Nat := 65; (let c := { tq with k := { tq.k with bad := true } }; (let s : State := snd' c; (decide (s.stopped = false) &&
      (decide (n < 512) && (decide (s.hasDie (n / 64) = true) &&
      (match sparseFind? s.tm.sending n with | some i => (decide (s.copy? i = some c) && (decide (c.k.ended = true) && (decide (c.k.bad = true)))) | _ => false)))))))) = true := by decide +kernel

theorem test_witness_LoopRows :
    ((let s : State := up; (let d := 1; (decide (s.stopped = false) && (decide (s.hasDie d = true) && (decide (s.loopQueue d 0 = []) &&
      (decide (s.loopQueue d 1 = []))))))) &&
    (let d := 1; (let p := 1; (let rest := []; (let k := { lk with ended := false }; (let s : State := lls k; (decide (s.stopped = false) &&
      (decide (s.hasDie d = true) && (decide (s.loopQueue d 0 = p :: rest) && (decide (s.loopQueue d 1 = []) && (decide (s.packet? p = some k) &&
      (decide (k.mirror = none) && (decide (k.ended = false))))))))))))) &&
    (let d := 1; (let p := 1; (let rest := []; (let k := { lk with bad := true }; (let s : State := lls k; (decide (s.stopped = false) &&
      (decide (s.hasDie d = true) && (decide (s.loopQueue d 0 = p :: rest) && (decide (s.loopQueue d 1 = []) && (decide (s.packet? p = some k) &&
      (decide (k.mirror = none) && (decide (k.ended = true) && (decide (k.bad = true)))))))))))))) &&
    (let d := 1; (let p := 1; (let rest := []; (let k := lk; (let s : State := lls k; (decide (s.stopped = false) && (decide (s.hasDie d = true) &&
      (decide (s.loopQueue d 0 = p :: rest) && (decide (s.loopQueue d 1 = []) && (decide (s.packet? p = some k) && (decide (k.mirror = none) &&
      (decide (k.ended = true) && (decide (k.bad = false)))))))))))))) &&
    (let p := 1; (let k := rk; (let s : State := late (es k); (decide (s.stopped = false) && (decide (s.packet? p = some k) &&
      (decide (k.stage = .renewed) && (decide (k.since + 1000 ≤ s.up)))))))) &&
    (let p := 1; (let k := { rk with since := 900 }; (let s : State := es k; (decide (s.stopped = false) && (decide (s.packet? p = some k) &&
      (decide (k.stage = .renewed) && (decide (s.up < k.since + 1000)))))))) &&
    (let d := 1; (let p := 1; (let k := lk; (let s : State := one k (2 ^ 40); (decide (s.stopped = false) && (decide (s.hasDie d = true) &&
      (decide (s.packets = [(p, k)]) && (decide (k.die = d) && (decide (k.mirror = none) &&
      (let s1 := (List.range 8).foldl (fun (a : State) o => a.removeLateStarts d o) s; (decide (s1.packets = s.packets) &&
      (decide (s1.time = s.time) && (decide (k.stage = .looping) && (decide (36000 ≤ s.age k))))))))))))))) &&
    (let d := 1; (let p := 1; (let k := lk; (let s : State := one k 0; (decide (s.stopped = false) && (decide (s.hasDie d = true) &&
      (decide (s.packets = [(p, k)]) && (decide (k.die = d) && (decide (k.mirror = none) &&
      (let s1 := (List.range 8).foldl (fun (a : State) o => a.removeLateStarts d o) s; (decide (s1.packets = s.packets) &&
      (decide (s1.time = s.time) && (decide (k.stage = .looping) && (decide (s.age k < 36000))))))))))))))) &&
    (let d := 1; (let p := 1; (let k := lf; (let s : State := one k (2 ^ 40); (decide (s.stopped = false) && (decide (s.hasDie d = true) &&
      (decide (s.packets = [(p, k)]) && (decide (k.die = d) && (decide (k.mirror = none) &&
      (let s1 := (List.range 8).foldl (fun (a : State) o => a.removeLateStarts d o) s; (decide (s1.packets = s.packets) &&
      (decide (s1.time = s.time) && (decide (k.inPass = true) && (decide (40000 ≤ s.age k) && (decide (hvPass k.hv = 0)))))))))))))))) &&
    (let d := 1; (let p := 1; (let k := lf; (let s : State := one k 0; (decide (s.stopped = false) && (decide (s.hasDie d = true) &&
      (decide (s.packets = [(p, k)]) && (decide (k.die = d) && (decide (k.mirror = none) &&
      (let s1 := (List.range 8).foldl (fun (a : State) o => a.removeLateStarts d o) s; (decide (s1.packets = s.packets) &&
      (decide (s1.time = s.time) && (decide (k.inPass = true) && (decide (s.age k < 40000)))))))))))))))) = true := by decide +kernel

end Traffic

namespace Cells

def R0 : PacketRecord := { kind := 3, id := 9, users := 0, refcount := false, freePending := false, cls := 2, cells := 1, tag := 4, loc := 0 }
def rs (r : PacketRecord) : State := (up.setRecord 1 40 r).markCells 1 [40]
def full : State := up.setReserved 1 0 524288
def one : State := up.setReserved 1 0 524287
def fw : FrameWait := { port := 65, frame := fr, pg := 0, since := 0, hv := 0 }
def later (s : State) : State := { s with time := { s.time with up := 2 ^ 60 } }
def inj : InjectWait := { die := 1, fn := 0, wq := 3, token := 6, egress := false, port := 65, tc := 0, frame := fr, free := false, since := 0 }
def sw : State := up.markCells 1 [40, 50, 77]
def pp : Packet := { pkt with stage := .punting, hv := putPunt pkt.hv 0x09, charged := false, flying := false, head := 40 }
def ps (k : Packet) : State := ready.setPacket 1 k
def pt (k : Packet) : State := later (ps k)
def dk : Packet := { pp with stage := .punted, head := noCells }
def dq (k : Packet) : State := (pt k).setPuntQueue 1 [1]
def ring (k : Packet) : State := (((((((dq k).wr Od.puntRing 5 0 9).wr Od.cqPool 3 (cqInst 0 5)).wr Od.poolBase 0x1000 0 3).wr Od.poolBufferSize 256 0 3).wr Od.poolCount 4 0 3).wr Od.poolState 1 0 3
  ).wr Od.cqState 1 (cqInst 0 5) |>.wr Od.cqSize 64 (cqInst 0 5)
def nob (s : State) : State := (List.range 4).foldl (fun a b => a.setPoolBuffer 3 b { tag := 0, used := true, owner := 0, count := 1 }) s
def C : Copy := { Copy.of { pkt with stage := .left, hv := putFields 0 [(799, 791, 65)] } (putFields 0 [(799, 791, 65)]) 0 1 1 with cells := 1, kind := 3, id := 5, last := true }
def sg : State := (((up.setCopy 5 { C with stage := .staged }).setCopy 6 { C with stage := .spilled }).setQueue 1 520 [6, 5]).setSpillDeficit 1 0 4
def R3 : PacketRecord := { R0 with kind := 6 }
def sg0 : State := sg.wr Od.spillRegionGib 0 (dieInst 1)
def sj : State := ((up.setCopy 5 { C with stage := .staged }).setQueue 1 520 [5]).setSpillDeficit 1 0 4
def sr : State := (((up.setCopy 6 { C with stage := .spilled }).setQueue 1 520 [6]).setReturning 1 [520]).setSpillDeficit 1 8 4
def sgp : State := (sg.wr Od.spillRegionGib 1 (dieInst 1)).wr Od.hbmChannelsActive 30 (dieInst 1)
def tr : State := (List.range 30).foldl (fun a u => a.setSpare 8 1 0 u 3) up

theorem test_witness_CellOwners :
    ((let s : State := rs R0; (let d : Nat := 1; (decide (s.stopped = false) && (decide (s.hasDie d = true))))) &&
    (let s : State := up; (let d : Nat := 1; (let head : Nat := 40; (decide (s.stopped = false) && (decide (s.hasDie d = true) &&
      (decide (s.record? d head = none))))))) &&
    (let d : Nat := 1; (let head : Nat := 40; (let kind : Nat := 3; (let r := { R0 with kind := 0 }; (let s : State := rs r;
      (decide (s.stopped = false) && (decide (s.hasDie d = true) && (decide (s.record? d head = some r) && (decide (r.refcount = false) &&
      (decide (r.kind = 0))))))))))) &&
    (let d : Nat := 1; (let head : Nat := 40; (let kind : Nat := 3; (let id : Nat := 9; (let r := R0; (let s : State := rs r;
      (decide (s.stopped = false) && (decide (s.hasDie d = true) && (decide (s.record? d head = some r) && (decide (r.refcount = false) &&
      (decide (r.kind ≠ 0) && (decide (r.freePending = false) && (decide (r.kind = kind) && (decide (r.id = id) &&
      (decide (r.users = 0)))))))))))))))) &&
    (let d : Nat := 1; (let head : Nat := 40; (let kind : Nat := 3; (let id : Nat := 9; (let r := { R0 with users := 2 }; (let s : State := rs r;
      (decide (s.stopped = false) && (decide (s.hasDie d = true) && (decide (s.record? d head = some r) && (decide (r.refcount = false) &&
      (decide (r.kind ≠ 0) && (decide (r.freePending = false) && (decide (r.kind = kind) && (decide (r.id = id) &&
      (decide (0 < r.users)))))))))))))))) &&
    (let d : Nat := 1; (let head : Nat := 40; (let r := R0; (let s : State := rs r; (let tag := 5; (decide (s.stopped = false) &&
      (decide (s.hasDie d = true) && (decide (s.record? d head = some r) && (decide (r.refcount = false) && (decide (r.kind ≠ 0) &&
      (decide (r.tag ≠ tag ∨ r.freePending = true)))))))))))) &&
    (let d : Nat := 1; (let head : Nat := 40; (let kind : Nat := 3; (let id : Nat := 8; (let r := R0; (let s : State := rs r;
      (decide (s.stopped = false) && (decide (s.hasDie d = true) && (decide (s.record? d head = some r) && (decide (r.refcount = false) &&
      (decide (r.kind ≠ 0) && (decide (r.freePending = false) && (decide (r.kind ≠ kind ∨ r.id ≠ id)))))))))))))) &&
    (let d : Nat := 1; (let head : Nat := 40; (let kind : Nat := 3; (let id : Nat := 8; (let r := { R0 with users := 1, freePending := true };
      (let s : State := rs r; (decide (s.stopped = false) && (decide (s.hasDie d = true) && (decide (s.record? d head = some r) &&
      (decide (r.refcount = false) && (decide (r.kind ≠ 0) && (decide (r.users = 1) && (decide (r.freePending = true) &&
      (decide (r.kind ≠ kind ∨ r.id ≠ id))))))))))))))) &&
    (let d : Nat := 1; (let head : Nat := 40; (let kind : Nat := 3; (let id : Nat := 9; (let r := { R0 with users := 1, freePending := true };
      (let s : State := rs r; (decide (s.stopped = false) && (decide (s.hasDie d = true) && (decide (s.record? d head = some r) &&
      (decide (r.refcount = false) && (decide (r.kind ≠ 0) && (decide (r.freePending = true) && (decide (r.kind = kind) &&
      (decide (r.id = id))))))))))))))) &&
    (let d : Nat := 1; (let head : Nat := 40; (let kind : Nat := 3; (let id : Nat := 9; (let r := { R0 with refcount := true };
      (let s : State := rs r; (let i := Instr.cellRelease d head kind id; (let tag := 4; (decide (s.stopped = false) && (decide (s.hasDie d = true) &&
      (decide (s.record? d head = some r) && (decide (r.refcount = true) &&
      (decide (i = Instr.cellRelease d head kind id ∨ i = .cellFree d head tag kind id) && (decide (r.users = 0))))))))))))))) &&
    (let d : Nat := 1; (let head : Nat := 40; (let kind : Nat := 3; (let id : Nat := 9; (let r := { R0 with refcount := true, users := 1 };
      (let s : State := rs r; (let i := Instr.cellRelease d head kind id; (let tag := 4; (decide (s.stopped = false) && (decide (s.hasDie d = true) &&
      (decide (s.record? d head = some r) && (decide (r.refcount = true) &&
      (decide (i = Instr.cellRelease d head kind id ∨ i = .cellFree d head tag kind id) && (decide (r.users = 1))))))))))))))) &&
    (let d : Nat := 1; (let head : Nat := 40; (let kind : Nat := 3; (let id : Nat := 9; (let r := { R0 with refcount := true, users := 2 };
      (let s : State := rs r; (let i := Instr.cellRelease d head kind id; (let tag := 4; (decide (s.stopped = false) && (decide (s.hasDie d = true) &&
      (decide (s.record? d head = some r) && (decide (r.refcount = true) &&
      (decide (i = Instr.cellRelease d head kind id ∨ i = .cellFree d head tag kind id) && (decide (1 < r.users)))))))))))))))) = true := by decide +kernel

theorem test_witness_CellClocks :
    ((let d : Nat := 1; (let q := 17; (let c := 2; (let s : State := full.wr Od.bpmClassPolicy 0 0 c; (let pair := true; (let o := 0;
      (let w := { port := q, cls := c, pair := pair, since := s.up }; (decide (s.stopped = false) && (decide (s.hasDie d = true) &&
      (decide (q < 18) && (decide (c < 8 ∨ 10 < c) && (decide (sparseGet (fun _ => (0, [])) s.bufs.order d = (o, [])) &&
      (((List.range (8)).all fun i => decide (s.waitingAt d i = [])) && (decide (s.rings.injects = []) &&
      (decide ((∀ x ∈ s.bufs.refill, x / 8 ≠ d)) && (decide (w = ({ port := q, cls := c, pair := pair, since := s.up } : CellRequest)) &&
      (decide (s.cellsFree d = 0) && (decide (8 ≤ q ∨ s.reserved d q = 0) && (decide (s.rd Od.bpmClassPolicy 0 c = 0) &&
      (decide (0 < s.rd Od.bpmClassWaitLimit 0 c))))))))))))))))))))) &&
    (let d : Nat := 1; (let q := 17; (let c := 2; (let s : State := full.wr Od.bpmClassPolicy 1 0 c; (let pair := true; (let o := 0;
      (let w := { port := q, cls := c, pair := pair, since := s.up }; (decide (s.stopped = false) && (decide (s.hasDie d = true) &&
      (decide (q < 18) && (decide (c < 8 ∨ 10 < c) && (decide (sparseGet (fun _ => (0, [])) s.bufs.order d = (o, [])) &&
      (((List.range (8)).all fun i => decide (s.waitingAt d i = [])) && (decide (s.rings.injects = []) &&
      (decide ((∀ x ∈ s.bufs.refill, x / 8 ≠ d)) && (decide (w = ({ port := q, cls := c, pair := pair, since := s.up } : CellRequest)) &&
      (decide (s.cellsFree d = 0) && (decide (8 ≤ q ∨ s.reserved d q = 0) && (decide (s.rd Od.bpmClassPolicy 0 c ≠ 0)))))))))))))))))))) &&
    (let s : State := up; (let d : Nat := 1; (let q := 17; (let c := 2; (let pair := true; (let o := 0;
      (let w := { port := q, cls := c, pair := pair, since := s.up }; (decide (s.stopped = false) && (decide (s.hasDie d = true) &&
      (decide (q < 18) && (decide (c < 8 ∨ 10 < c) && (decide (sparseGet (fun _ => (0, [])) s.bufs.order d = (o, [])) &&
      (((List.range (8)).all fun i => decide (s.waitingAt d i = [])) && (decide (s.rings.injects = []) &&
      (decide ((∀ x ∈ s.bufs.refill, x / 8 ≠ d)) && (decide (w = ({ port := q, cls := c, pair := pair, since := s.up } : CellRequest)) &&
      (decide (0 < s.cellsFree d) && (let got := s.serveRequest d (pair && decide (2 ≤ s.cellsFree d)) []; (decide (got ≠ []) &&
      (decide (got.length = 2 ∨ pair = false))))))))))))))))))))) &&
    (let s : State := one; (let d : Nat := 1; (let q := 17; (let c := 2; (let pair := true; (let o := 0;
      (let w := { port := q, cls := c, pair := pair, since := s.up }; (decide (s.stopped = false) && (decide (s.hasDie d = true) &&
      (decide (q < 18) && (decide (c < 8 ∨ 10 < c) && (decide (sparseGet (fun _ => (0, [])) s.bufs.order d = (o, [])) &&
      (((List.range (8)).all fun i => decide (s.waitingAt d i = [])) && (decide (s.rings.injects = []) &&
      (decide ((∀ x ∈ s.bufs.refill, x / 8 ≠ d)) && (decide (w = ({ port := q, cls := c, pair := pair, since := s.up } : CellRequest)) &&
      (decide (0 < s.cellsFree d) && (let got := s.serveRequest d (pair && decide (2 ≤ s.cellsFree d)) []; (decide (got ≠ []) &&
      (decide (got.length = 1) && (decide (pair = true)))))))))))))))))))))) &&
    (let s : State := later (up.setWaiting 1 0 [fw]); (let d : Nat := 1; (let o := 0; (let w := fw; (decide (s.stopped = false) &&
      (decide (s.hasDie d = true) && (decide (o < 8) && (decide (s.waitingAt d o = [w]) &&
      (decide (w.since + s.rd Od.bpmClassWaitLimit 0 w.pg ≤ s.up)))))))))) &&
    (let s : State := up.setWaiting 1 0 [{ fw with since := 99999999 }]; (let d : Nat := 1; (let o := 0; (let w := { fw with since := 99999999 };
      (decide (s.stopped = false) && (decide (s.hasDie d = true) && (decide (o < 8) && (decide (s.waitingAt d o = [w]) &&
      (decide (s.up < w.since + s.rd Od.bpmClassWaitLimit 0 w.pg)))))))))) &&
    (let s : State := later { up with rings := { up.rings with injects := [inj] } }; (let d : Nat := 1; (let x := inj; (decide (s.stopped = false) &&
      (decide (s.hasDie d = true) && (decide (s.rings.injects = [x]) && (decide (x.die = d) &&
      (decide (x.since + s.rd Od.bpmClassWaitLimit 0 11 ≤ s.up))))))))) &&
    (let s : State := ({ up with bufs := { up.bufs with badWords := [(1, 2, 3)] } } : State); (let d : Nat := 1; (let bank := 2; (let word := 3;
      (decide (s.stopped = false) && (decide (s.hasDie d = true) && (decide ((d, bank, word) ∈ s.bufs.badWords)))))))) &&
    (let s : State := up; (let d : Nat := 1; (let bank := 2; (let word := 3; (decide (s.stopped = false) && (decide (s.hasDie d = true) &&
      (decide ((d, bank, word) ∉ s.bufs.badWords)))))))) &&
    (let s : State := up; (let d : Nat := 1; (let key := 40; (decide (s.stopped = false) && (decide (s.hasDie d = true) &&
      (decide ((∀ e ∈ s.bufs.records, e.1 / 524288 = d → e.2.kind = 0)) && (decide ((∀ e ∈ s.bufs.held, e.1 / 32 ≠ d)) &&
      (decide (sparseRising none s.bufs.cells = true) && (decide (key / 524288 ≠ d)))))))))) &&
    (let s : State := up; (let d : Nat := 1; (decide (s.stopped = false) && (decide (s.hasDie d = true) &&
      (decide ((∀ e ∈ s.bufs.records, e.1 / 524288 = d → e.2.kind = 0)) && (decide ((∀ e ∈ s.bufs.held, e.1 / 32 ≠ d)) &&
      (decide (sparseRising none s.bufs.cells = true) && (decide (s.usedCells d = []))))))))) &&
    (let s : State := sw; (let d : Nat := 1; (decide (s.stopped = false) && (decide (s.hasDie d = true) &&
      (decide ((∀ e ∈ s.bufs.records, e.1 / 524288 = d → e.2.kind = 0)) && (decide ((∀ e ∈ s.bufs.held, e.1 / 32 ≠ d)) &&
      (decide (sparseRising none s.bufs.cells = true) && (decide (s.usedCells d ≠ [])))))))))) = true := by decide +kernel

theorem test_witness_PuntRows :
    ((let p := 1; (let k := { pp with stage := .left }; (let s : State := ring k; (decide (s.stopped = false) && (decide (s.packet? p = some k) &&
      (decide (k.stage ≠ .punting))))))) &&
    (let p := 1; (let k := pp; (let s : State := ps k; (decide (s.stopped = false) && (decide (s.packet? p = some k) &&
      (decide (k.stage = .punting) && (let r := bits k.hv 599 592 % 64; (let b := s.puntBucket k.die r; (decide (b.level < 1000000)))))))))) &&
    (let p := 1; (let k := pp; (let s : State := (pt k).setPuntQueue 1 (List.range 4096); (decide (s.stopped = false) &&
      (decide (s.packet? p = some k) && (decide (k.stage = .punting) && (let r := bits k.hv 599 592 % 64; (let b := s.puntBucket k.die r;
      (decide (1000000 ≤ b.level) && (decide (4096 ≤ (s.puntQueue k.die).length))))))))))) &&
    (let p := 1; (let k := { pp with head := noCells }; (let s : State := (pt k).setReserved 1 0 524288; (decide (s.stopped = false) &&
      (decide (s.packet? p = some k) && (decide (k.stage = .punting) && (let r := bits k.hv 599 592 % 64; (let b := s.puntBucket k.die r;
      (decide (1000000 ≤ b.level) && (decide ((s.puntQueue k.die).length < 4096) && (decide (k.charged = false) && (decide (k.flying = false) &&
      (decide (k.head = noCells) && (decide (s.cellsFree k.die < cellsOf k.frame.length))))))))))))))) &&
    (let p := 1; (let k := { pp with head := noCells }; (let s : State := pt k; (decide (s.stopped = false) && (decide (s.packet? p = some k) &&
      (decide (k.stage = .punting) && (let r := bits k.hv 599 592 % 64; (let b := s.puntBucket k.die r; (decide (1000000 ≤ b.level) &&
      (decide ((s.puntQueue k.die).length < 4096) && (decide (k.charged = false) && (decide (k.flying = false) && (decide (k.head = noCells) &&
      (decide (cellsOf k.frame.length ≤ s.cellsFree k.die))))))))))))))) &&
    (let p := 1; (let k := pp; (let s : State := pt k; (decide (s.stopped = false) && (decide (s.packet? p = some k) &&
      (decide (k.stage = .punting) && (let r := bits k.hv 599 592 % 64; (let b := s.puntBucket k.die r; (decide (1000000 ≤ b.level) &&
      (decide ((s.puntQueue k.die).length < 4096) && (decide (k.charged = false) && (decide (k.flying = false) &&
      (decide (s.record? k.die k.head = none) && (decide (k.head ≠ noCells))))))))))))))) &&
    (let p := 1; (let k := pp; (let s : State := (pt k).setRecord 1 40 R0; (let x := R0; (decide (s.stopped = false) &&
      (decide (s.packet? p = some k) && (decide (k.stage = .punting) && (let r := bits k.hv 599 592 % 64; (let b := s.puntBucket k.die r;
      (decide (1000000 ≤ b.level) && (decide ((s.puntQueue k.die).length < 4096) && (decide (k.charged = false) && (decide (k.flying = false) &&
      (decide (s.record? k.die k.head = some x) && (decide (k.head ≠ noCells)))))))))))))))) &&
    (let d := 1; (let p := 1; (let k := { dk with ended := false }; (let s : State := ring k; (decide (s.stopped = false) &&
      (decide (s.hasDie d = true) && (decide (s.puntQueue d = [p]) && (decide (s.packet? p = some k) &&
      (decide (s.rd Od.puntPriority 0 (bits k.hv 599 592 % 64) ≤ 3) && (decide (k.since ≠ 0 ∨ k.ended = false))))))))))) &&
    (let d := 1; (let p := 1; (let k := { dk with bad := true }; (let s : State := ring k; (decide (s.stopped = false) &&
      (decide (s.hasDie d = true) && (decide (s.puntQueue d = [p]) && (decide (s.packet? p = some k) &&
      (decide (s.rd Od.puntPriority 0 (bits k.hv 599 592 % 64) ≤ 3) && (decide (k.since = 0) && (decide (k.ended = true) &&
      (decide (k.bad = true))))))))))))) &&
    (let d := 1; (let p := 1; (let k := dk; (let s : State := dq k; (decide (s.stopped = false) && (decide (s.hasDie d = true) &&
      (decide (s.puntQueue d = [p]) && (decide (s.packet? p = some k) && (decide (s.rd Od.puntPriority 0 (bits k.hv 599 592 % 64) ≤ 3) &&
      (decide (k.ended = true) && (decide (k.bad = false) && (decide ((∀ e ∈ s.packets, e.2.stage = .punted → e.2.since ≠ 0 → e = (p, k))) &&
      (let r := bits k.hv 599 592 % 64; (let c := s.rd Od.puntRing 0 r; (decide (k.since = 0) && (decide (c = 0xFFFF))))))))))))))))) &&
    (let d := 1; (let p := 1; (let k := dk; (let s : State := (ring k).wr Od.cqSize 0 (cqInst 0 5); (decide (s.stopped = false) &&
      (decide (s.hasDie d = true) && (decide (s.puntQueue d = [p]) && (decide (s.packet? p = some k) &&
      (decide (s.rd Od.puntPriority 0 (bits k.hv 599 592 % 64) ≤ 3) && (decide (k.ended = true) && (decide (k.bad = false) &&
      (decide ((∀ e ∈ s.packets, e.2.stage = .punted → e.2.since ≠ 0 → e = (p, k))) && (let r := bits k.hv 599 592 % 64;
      (let c := s.rd Od.puntRing 0 r; (let fn := s.cqOwnerOf Od.puntRing 0 r; (let pool := s.rd Od.cqPool (cqInst fn c);
      (let size := s.rd Od.poolBufferSize 0 pool; (let n := (32 + (k.frame.length - 4) + size - 1) / size; (decide (k.since = 0) &&
      (decide (c ≠ 0xFFFF) && (decide (s.cqRoom fn c < n)))))))))))))))))))))) &&
    (let d := 1; (let p := 1; (let k := dk; (let s : State := (ring k).wr Od.poolState 0 0 3; (decide (s.stopped = false) &&
      (decide (s.hasDie d = true) && (decide (s.puntQueue d = [p]) && (decide (s.packet? p = some k) &&
      (decide (s.rd Od.puntPriority 0 (bits k.hv 599 592 % 64) ≤ 3) && (decide (k.ended = true) && (decide (k.bad = false) &&
      (decide ((∀ e ∈ s.packets, e.2.stage = .punted → e.2.since ≠ 0 → e = (p, k))) && (let r := bits k.hv 599 592 % 64;
      (let c := s.rd Od.puntRing 0 r; (let fn := s.cqOwnerOf Od.puntRing 0 r; (let pool := s.rd Od.cqPool (cqInst fn c);
      (let size := s.rd Od.poolBufferSize 0 pool; (let n := (32 + (k.frame.length - 4) + size - 1) / size; (decide (k.since = 0) &&
      (decide (c ≠ 0xFFFF) && (decide (n ≤ s.cqRoom fn c) && (decide (s.rd Od.poolState 0 pool ≠ 1))))))))))))))))))))))) &&
    (let d := 1; (let p := 1; (let k := dk; (let s : State := ring k; (decide (s.stopped = false) && (decide (s.hasDie d = true) &&
      (decide (s.puntQueue d = [p]) && (decide (s.packet? p = some k) && (decide (s.rd Od.puntPriority 0 (bits k.hv 599 592 % 64) ≤ 3) &&
      (decide (k.ended = true) && (decide (k.bad = false) && (decide ((∀ e ∈ s.packets, e.2.stage = .punted → e.2.since ≠ 0 → e = (p, k))) &&
      (let r := bits k.hv 599 592 % 64; (let c := s.rd Od.puntRing 0 r; (let fn := s.cqOwnerOf Od.puntRing 0 r;
      (let pool := s.rd Od.cqPool (cqInst fn c); (let size := s.rd Od.poolBufferSize 0 pool; (let n := (32 + (k.frame.length - 4) + size - 1) / size;
      (decide (c ≠ 0xFFFF) && (decide (n ≤ s.cqRoom fn c) && (decide (s.rd Od.poolState 0 pool = 1) &&
      (match s.takeBuffers pool n with | some (s1, l) => (decide (k.since = 0)) | _ => false)))))))))))))))))))))) &&
    (let d := 1; (let p := 1; (let k := { dk with since := 77 }; (let s : State := ring k; (let asking := 2; (decide (s.stopped = false) &&
      (decide (s.hasDie d = true) && (decide (s.puntQueue d = [p]) && (decide (s.packet? p = some k) &&
      (decide (s.rd Od.puntPriority 0 (bits k.hv 599 592 % 64) ≤ 3) && (decide (k.ended = true) && (decide (k.bad = false) &&
      (decide ((∀ e ∈ s.packets, e.2.stage = .punted → e.2.since ≠ 0 → e = (p, k))) && (let r := bits k.hv 599 592 % 64;
      (let c := s.rd Od.puntRing 0 r; (let fn := s.cqOwnerOf Od.puntRing 0 r; (let pool := s.rd Od.cqPool (cqInst fn c);
      (let size := s.rd Od.poolBufferSize 0 pool; (let n := (32 + (k.frame.length - 4) + size - 1) / size; (decide (c ≠ 0xFFFF) &&
      (decide (n ≤ s.cqRoom fn c) && (decide (s.rd Od.poolState 0 pool = 1) &&
      (match s.takeBuffers pool n with | some (s1, l) => (decide (d < 8) && (decide (k.since ≠ 0) && (decide (k.stage = .punted) && (decide (bitOf asking d = true) && (((List.range (8)).all fun e => decide (e ≠ d → s.puntQueue e = []))))))) | _ => false))))))))))))))))))))))) &&
    (let d := 1; (let p := 1; (let k := { dk with since := 77 }; (let s : State := (nob (ring k)).wr Od.poolPolicy 1 0 3; (let asking := 2;
      (decide (s.stopped = false) && (decide (s.hasDie d = true) && (decide (s.puntQueue d = [p]) && (decide (s.packet? p = some k) &&
      (decide (s.rd Od.puntPriority 0 (bits k.hv 599 592 % 64) ≤ 3) && (decide (k.ended = true) && (decide (k.bad = false) &&
      (decide ((∀ e ∈ s.packets, e.2.stage = .punted → e.2.since ≠ 0 → e = (p, k))) && (let r := bits k.hv 599 592 % 64;
      (let c := s.rd Od.puntRing 0 r; (let fn := s.cqOwnerOf Od.puntRing 0 r; (let pool := s.rd Od.cqPool (cqInst fn c);
      (let size := s.rd Od.poolBufferSize 0 pool; (let n := (32 + (k.frame.length - 4) + size - 1) / size; (decide (c ≠ 0xFFFF) &&
      (decide (n ≤ s.cqRoom fn c) && (decide (s.rd Od.poolState 0 pool = 1) && (decide (s.takeBuffers pool n = none) && (decide (d < 8) &&
      (decide (k.since ≠ 0) && (decide (k.stage = .punted) && (decide (bitOf asking d = true) &&
      (((List.range (8)).all fun e => decide (e ≠ d → s.puntQueue e = [])) && (decide (s.rd Od.poolPolicy 0 pool = 1)))))))))))))))))))))))))))))) &&
    (let d := 1; (let p := 1; (let k := { dk with since := 77 }; (let s : State := nob (ring k); (let asking := 2; (decide (s.stopped = false) &&
      (decide (s.hasDie d = true) && (decide (s.puntQueue d = [p]) && (decide (s.packet? p = some k) &&
      (decide (s.rd Od.puntPriority 0 (bits k.hv 599 592 % 64) ≤ 3) && (decide (k.ended = true) && (decide (k.bad = false) &&
      (decide ((∀ e ∈ s.packets, e.2.stage = .punted → e.2.since ≠ 0 → e = (p, k))) && (let r := bits k.hv 599 592 % 64;
      (let c := s.rd Od.puntRing 0 r; (let fn := s.cqOwnerOf Od.puntRing 0 r; (let pool := s.rd Od.cqPool (cqInst fn c);
      (let size := s.rd Od.poolBufferSize 0 pool; (let n := (32 + (k.frame.length - 4) + size - 1) / size; (decide (c ≠ 0xFFFF) &&
      (decide (n ≤ s.cqRoom fn c) && (decide (s.rd Od.poolState 0 pool = 1) && (decide (s.takeBuffers pool n = none) && (decide (d < 8) &&
      (decide (k.since ≠ 0) && (decide (k.stage = .punted) && (decide (bitOf asking d = true) &&
      (((List.range (8)).all fun e => decide (e ≠ d → s.puntQueue e = [])) && (decide (s.rd Od.poolPolicy 0 pool = 0)))))))))))))))))))))))))))))) &&
    (let d := 1; (let p := 1; (let k := dk; (let s : State := (nob (ring k)).wr Od.poolPolicy 1 0 3; (decide (s.stopped = false) &&
      (decide (s.hasDie d = true) && (decide (s.puntQueue d = [p]) && (decide (s.packet? p = some k) &&
      (decide (s.rd Od.puntPriority 0 (bits k.hv 599 592 % 64) ≤ 3) && (decide (k.ended = true) && (decide (k.bad = false) &&
      (decide ((∀ e ∈ s.packets, e.2.stage = .punted → e.2.since ≠ 0 → e = (p, k))) && (let r := bits k.hv 599 592 % 64;
      (let c := s.rd Od.puntRing 0 r; (let fn := s.cqOwnerOf Od.puntRing 0 r; (let pool := s.rd Od.cqPool (cqInst fn c);
      (let size := s.rd Od.poolBufferSize 0 pool; (let n := (32 + (k.frame.length - 4) + size - 1) / size; (decide (c ≠ 0xFFFF) &&
      (decide (n ≤ s.cqRoom fn c) && (decide (s.rd Od.poolState 0 pool = 1) && (decide (s.takeBuffers pool n = none) && (decide (k.since = 0) &&
      (decide (s.rd Od.poolPolicy 0 pool = 1))))))))))))))))))))))))) &&
    (let d := 1; (let p := 1; (let k := dk; (let s : State := nob (ring k); (decide (s.stopped = false) && (decide (s.hasDie d = true) &&
      (decide (s.puntQueue d = [p]) && (decide (s.packet? p = some k) && (decide (s.rd Od.puntPriority 0 (bits k.hv 599 592 % 64) ≤ 3) &&
      (decide (k.ended = true) && (decide (k.bad = false) && (decide ((∀ e ∈ s.packets, e.2.stage = .punted → e.2.since ≠ 0 → e = (p, k))) &&
      (let r := bits k.hv 599 592 % 64; (let c := s.rd Od.puntRing 0 r; (let fn := s.cqOwnerOf Od.puntRing 0 r;
      (let pool := s.rd Od.cqPool (cqInst fn c); (let size := s.rd Od.poolBufferSize 0 pool; (let n := (32 + (k.frame.length - 4) + size - 1) / size;
      (decide (c ≠ 0xFFFF) && (decide (n ≤ s.cqRoom fn c) && (decide (s.rd Od.poolState 0 pool = 1) && (decide (s.takeBuffers pool n = none) &&
      (decide (k.since = 0) && (decide (s.rd Od.poolPolicy 0 pool = 0))))))))))))))))))))))))) &&
    (let d := 1; (let p := 1; (let k := { dk with since := 77 }; (let s : State := ring k; (decide (s.stopped = false) &&
      (decide (s.hasDie d = true) && (decide (s.puntQueue d = [p]) && (decide (s.packet? p = some k) &&
      (decide (s.rd Od.puntPriority 0 (bits k.hv 599 592 % 64) ≤ 3) && (decide (k.ended = true) && (decide (k.bad = false) &&
      (decide ((∀ e ∈ s.packets, e.2.stage = .punted → e.2.since ≠ 0 → e = (p, k))) && (let r := bits k.hv 599 592 % 64;
      (let c := s.rd Od.puntRing 0 r; (let fn := s.cqOwnerOf Od.puntRing 0 r; (let pool := s.rd Od.cqPool (cqInst fn c);
      (decide (k.stage = .punted) && (decide (k.since ≠ 0) && (decide (k.since + s.rd Od.poolWaitLimit 0 pool * 1000 ≤ s.up + 1)))))))))))))))))))) &&
    (let d := 1; (let p := 1; (let k := { dk with since := 2 ^ 61 }; (let s : State := ring k; (decide (s.stopped = false) &&
      (decide (s.hasDie d = true) && (decide (s.puntQueue d = [p]) && (decide (s.packet? p = some k) &&
      (decide (s.rd Od.puntPriority 0 (bits k.hv 599 592 % 64) ≤ 3) && (decide (k.ended = true) && (decide (k.bad = false) &&
      (decide ((∀ e ∈ s.packets, e.2.stage = .punted → e.2.since ≠ 0 → e = (p, k))) && (let r := bits k.hv 599 592 % 64;
      (let c := s.rd Od.puntRing 0 r; (let fn := s.cqOwnerOf Od.puntRing 0 r; (let pool := s.rd Od.cqPool (cqInst fn c);
      (decide (k.stage = .punted) && (decide (k.since ≠ 0) && (decide (s.up + 1 < k.since + s.rd Od.poolWaitLimit 0 pool * 1000))))))))))))))))))))) = true := by decide +kernel

theorem test_witness_SpillRows :
    ((let s : State := sgp; (let d := 1; (let i := 5; (let c := { C with stage := .staged }; (decide (s.stopped = false) && (decide (s.hasDie d = true) &&
      (decide (s.stagedOn d = [(i, c)]) && (let v := c.queue; (decide (0 < s.spillDeficit d c.tc) &&
      (decide (s.cellsIn (s.queueOf d v) Copy.isSpilled ≠ 0) && (decide (s.pagesNeeded d v c.cells ≤ s.spillPagesFree d)))))))))))) &&
    (let s : State := ({ sg0 with tm := { sg0.tm with full := [1] } } : State); (let d := 1; (let i := 5; (let c := { C with stage := .staged };
      (decide (s.stopped = false) && (decide (s.hasDie d = true) && (decide (s.stagedOn d = [(i, c)]) && (let v := c.queue;
      (decide (0 < s.spillDeficit d c.tc) && (decide (s.cellsIn (s.queueOf d v) Copy.isSpilled ≠ 0) &&
      (decide (s.spillPagesFree d < s.pagesNeeded d v c.cells) && (decide (d ∈ s.tm.full))))))))))))) &&
    (let s : State := sg0; (let d := 1; (let i := 5; (let c := { C with stage := .staged }; (decide (s.stopped = false) &&
      (decide (s.hasDie d = true) && (decide (s.stagedOn d = [(i, c)]) && (let v := c.queue; (decide (0 < s.spillDeficit d c.tc) &&
      (decide (s.cellsIn (s.queueOf d v) Copy.isSpilled ≠ 0) && (decide (s.spillPagesFree d < s.pagesNeeded d v c.cells) &&
      (decide (d ∉ s.tm.full))))))))))))) &&
    (let s : State := sj; (let d := 1; (let i := 5; (let c := { C with stage := .staged }; (decide (s.stopped = false) &&
      (decide (s.hasDie d = true) && (decide (s.stagedOn d = [(i, c)]) && (let v := c.queue; (decide (0 < s.spillDeficit d c.tc) &&
      (decide (s.cellsIn (s.queueOf d v) Copy.isSpilled = 0) && (decide (s.cellsIn (s.queueOf d v) (fun (y : Copy) => y.stage = .writing) = 0) &&
      (decide (s.cellsIn (s.queueOf d v) Copy.isOnDie < s.rd Od.spillReturn))))))))))))) &&
    (let i := 5; (let c := { C with stage := .writing }; (let s : State := up.setCopy 5 c; (decide (s.stopped = false) &&
      (decide (s.copy? i = some c) && (decide (c.stage = .writing))))))) &&
    (let s : State := sr.setReserved 1 0 524288; (let d := 1; (let v := 520; (let i := 6; (let c := { C with stage := .spilled };
      (decide (s.stopped = false) && (decide (s.hasDie d = true) && (decide (s.returning d = [v]) && (decide (s.nextSpilled d v = some (i, c)) &&
      (decide (v % 8 = c.tc) && (decide (0 < s.spillDeficit d (8 + c.tc)) &&
      (decide (s.cellsFree d < c.cells ∨ s.rd Od.spillReturn ≤ s.cellsIn (s.queueOf d v) Copy.isOnDie))))))))))))) &&
    (let s : State := sr; (let d := 1; (let v := 520; (let i := 6; (let c := { C with stage := .spilled }; (decide (s.stopped = false) &&
      (decide (s.hasDie d = true) && (decide (s.returning d = [v]) && (decide (s.nextSpilled d v = some (i, c)) && (decide (v % 8 = c.tc) &&
      (decide (0 < s.spillDeficit d (8 + c.tc)) && (decide (s.cellsIn (s.queueOf d v) Copy.isOnDie < s.rd Od.spillReturn) &&
      (decide (c.cells ≤ s.cellsFree d)))))))))))))) &&
    (let i := 5; (let c := { C with stage := .reading }; (let s : State := up.setCopy 5 c; (let d := 1; (decide (s.stopped = false) &&
      (decide (s.copy? i = some c) && (decide (c.stage = .reading) && (decide (d = c.die))))))))) &&
    (let i := 5; (let c := { C with stage := .reading }; (let s : State := up.setCopy 5 c; (let d := 1; (decide (s.stopped = false) &&
      (decide (s.copy? i = some c) && (decide (c.stage = .reading) && (decide (d = c.die))))))))) &&
    (let s : State := tr; (let d := 1; (let ch := 4; (let u := 30; (decide (s.stopped = false) && (decide (s.hasDie d = true) && (decide (ch < 32) &&
      (decide (s.spareState 8 d 0 ch = 3) && (decide (s.bufs.channels = []) &&
      (decide ((spareUnits 8).find? (fun u => decide (s.spareState 8 d 0 u < 3)) = some u))))))))))) &&
    (let s : State := (tr.setSpare 8 1 0 30 4).setSpare 8 1 0 31 4; (let d := 1; (let ch := 4; (decide (s.stopped = false) &&
      (decide (s.hasDie d = true) && (decide (ch < 32) && (decide (s.spareState 8 d 0 ch = 3) && (decide (s.bufs.channels = []) &&
      (decide ((∀ u ∈ spareUnits 8, ¬ s.spareState 8 d 0 u < 3)) && (decide (s.tm.copies = []))))))))))) &&
    (let s : State := ({ up with bufs := { up.bufs with channels := [(1, 4, 30)] } } : State); (let d := 1; (let ch := 4; (let u := 30;
      (decide (s.stopped = false) && (decide (s.hasDie d = true) && (decide (s.bufs.channels = [(d, ch, u)]))))))))) = true := by decide +kernel

end Cells

namespace Fabrics

def u65 : State := (up.wr Od.portMode 9 (portInst 65)).wr Od.portState 2 (portInst 65)
def ue : State := (u65.wr Od.pfcRxEnable 255 (portInst 65)).wr Od.pfcWatchdog 0 (portInst 65)
def un : State := u65.wr Od.pfcRxEnable 0 (portInst 65)
def P0 : Pause := { until_ := 0, from_ := 0, heard := 0, storm := false }
def pz (p : Pause) : State := ue.setPause 522 (some p)
def late (s : State) : State := { s with time := { s.time with now := 2 ^ 60, up := 2 ^ 50 } }
def gt : State := (up.setGate 65 { Gate.fresh with length := 2 }).setTbl 0 0x66 (65 * 256) (5 * 2 ^ 56 + 400000)
def gx (len st : Nat) : GateSwap := { start := st, base := 3, cycle := 2000000, length := len, epoch := 5, named := 4 }
def gsw (len st : Nat) : State := gt.setGate 65 { gt.gate 65 with swap := some (gx len st) }
def m40 : List Nat := List.replicate 40 3
def blk (lane st : Nat) (m : List Nat) : List Byte :=
  let b := beBytes 4 0x7E1DC3A5 ++ [BitVec.ofNat 8 lane, BitVec.ofNat 8 st, 0, 0] ++ (List.replicate 40 7#8) ++ m.map (BitVec.ofNat 8) ++ List.replicate (76 - m.length) 0#8
  b ++ beBytes 4 (crc32c b)
def gr (x : Group) : State := up.setGroup 1 2 x
def G1 : Group := { Group.fresh with locked := [1], since := 3 }
def G2 : Group := { G1 with locked := List.range 43 }
def G3 : Group := { G1 with step := 3, locked := [5], peerLocked := [5], map := m40, echoes := 4 }
def st (v : Nat) (s : State) : State := s.wr Od.fabricGroupState v (dieInst 1) 2
def mid (s : State) : State := { s with time := { s.time with up := 5000000 } }
def cell (h : Nat) : FabricCell := { header := h, payload := [1, 2], parts := [(99, 2)] }
def SF : Superframe := { seq := 1, cells := [], fifo := 0, onward := 0, slots := 0, time := (0, 0), again := false }
def UPG : Group := { Group.fresh with step := 0 }
def pr (x y : Group) : State := (st 2 (gr x)).setGroup (1 ^^^ 3) 2 y
def hd : Nat := putFields 0 [(127, 127, 1), (124, 122, 2), (121, 119, 1), (118, 116, 2), (115, 103, 520), (102, 87, 0)]
def Y : Group := { Group.fresh with own := [cell hd], fifoUsed := 1, sfSeq := 4, step := 0 }
def sfd : State := (st 2 (gr { G3 with step := 0 })).setGroup (1 ^^^ 3) 2 Y
def C : Copy := { Copy.of { pkt with stage := .left } (putFields 0 [(799, 791, 130)]) 0 1 2 with cells := 1, kind := 2, id := 2, last := true, stage := .crossing }
def fs : State :=
  let s := ((up.setCopy 5 C).setGroup 1 2 { Group.fresh with step := 0 }).wr Od.fabricGroupState 2 (dieInst 1) 2
  { s with fabric := { s.fabric with sends := [((1 * 8 + 2) * 8192 + 1040, { seq := 9, packets := [(5, 0)] })] } }
def rv (h : Nat) : State := late (up.setRecv ((2 * 8 + 1) * 8192 + 520) { RecvStream.fresh with held := [(3, cell h)], since := 1 })
def L1 : Group := { Group.fresh with step := 0 }
def ls (x : Group) : State := st 2 (gr x)
def nosp (x : Group) : State := (List.range 4).foldl (fun a i => a.setSpare 1 1 2 i 4) (ls x)
def L2 : Group := { L1 with mirror := some (4, 0, 0) }
def rel : State := (ls L1).wrOctet Od.fabricLaneMap (dieInst (1 ^^^ 3)) 2 4 41
def L3 : Group := { L1 with job := some { lane := 4, spare := 1, step := 2, back := false }, erased := [4] }
def al : State := up.wr Od.fabricGroupState 2 (dieInst 1) 0
def ex (n : Nat) : State := al.setExchange 1 { t1 := 5, t2 := 900000, t3 := 0, offCount := n }

theorem test_witness_PauseAndGates :
    ((let s : State := up; (let n := 65; (decide (s.stopped = false) && (decide (n < 512) && (decide (s.hasDie (n / 64) = true) &&
      (decide (s.portStateOf n ≠ 2))))))) &&
    (let s : State := ue; (let n := 65; (let opcode := 0x0102; (decide (s.stopped = false) && (decide (n < 512) &&
      (decide (s.hasDie (n / 64) = true) && (decide (s.portStateOf n = 2) && (decide (opcode ≠ 0x0101))))))))) &&
    (let s : State := un; (let n := 65; (let t := 2; (decide (s.stopped = false) && (decide (n < 512) && (decide (s.hasDie (n / 64) = true) &&
      (decide (t < 8) && (decide (s.portStateOf n = 2) && (decide (bitOf (s.rd Od.pfcRxEnable (portInst n)) t = false)))))))))) &&
    (let s : State := ue; (let n := 65; (let t := 2; (let times := [1, 1, 65536]; (decide (s.stopped = false) && (decide (n < 512) &&
      (decide (s.hasDie (n / 64) = true) && (decide (t < 8) && (decide (s.portStateOf n = 2) && (let q := times.getD t 0 % 65536;
      (decide (bitOf (s.rd Od.pfcRxEnable (portInst n)) t = true) && (decide (q = 0))))))))))))) &&
    (let s : State := ue; (let n := 65; (let t := 2; (let times := [1, 1, 9]; (decide (s.stopped = false) && (decide (n < 512) &&
      (decide (s.hasDie (n / 64) = true) && (decide (t < 8) && (decide (s.portStateOf n = 2) && (let q := times.getD t 0 % 65536;
      (let pc := n * 8 + t; (decide (bitOf (s.rd Od.pfcRxEnable (portInst n)) t = true) && (decide (q ≠ 0) &&
      (decide (sparseFind? s.tm.pauses pc = none) && (decide (s.rd Od.pfcWatchdog (portInst n) = 0)))))))))))))))) &&
    (let s : State := pz P0; (let n := 65; (let t := 2; (decide (s.stopped = false) && (decide (n < 512) && (decide (s.hasDie (n / 64) = true) &&
      (let pc := n * 8 + t;
      (match sparseFind? s.tm.pauses pc with | some p => (decide (p.storm = false) && (decide (p.until_ ≤ s.up))) | _ => false)))))))) &&
    (let s : State := late (pz { P0 with storm := true }); (let n := 65; (let t := 2; (decide (s.stopped = false) && (decide (n < 512) &&
      (decide (s.hasDie (n / 64) = true) && (let pc := n * 8 + t;
      (match sparseFind? s.tm.pauses pc with | some p => (decide (p.storm = true) && (decide (p.heard + 100000000 ≤ s.up))) | _ => false)))))))) &&
    (let s : State := pz { P0 with storm := true }; (let n := 65; (let t := 2; (decide (s.stopped = false) && (decide (n < 512) &&
      (decide (s.hasDie (n / 64) = true) && (let pc := n * 8 + t;
      (match sparseFind? s.tm.pauses pc with | some p => (decide (p.storm = true) && (decide (s.up < p.heard + 100000000))) | _ => false)))))))) &&
    (let s : State := late ((pz { P0 with until_ := 2 ^ 60 }).wr Od.pfcWatchdog 10 (portInst 65)); (let n := 65; (let t := 2;
      (decide (s.stopped = false) && (decide (n < 512) && (decide (s.hasDie (n / 64) = true) && (let pc := n * 8 + t;
      (match sparseFind? s.tm.pauses pc with | some p => (let w := s.rd Od.pfcWatchdog (portInst n) * 1000; (decide (p.storm = false) && (decide (s.up < p.until_) && (decide (w ≠ 0) && (decide (p.from_ + w ≤ s.up)))))) | _ => false)))))))) &&
    (let s : State := (pz { P0 with until_ := 100 }).wr Od.pfcWatchdog 10 (portInst 65); (let n := 65; (let t := 2; (decide (s.stopped = false) &&
      (decide (n < 512) && (decide (s.hasDie (n / 64) = true) && (let pc := n * 8 + t;
      (match sparseFind? s.tm.pauses pc with | some p => (let w := s.rd Od.pfcWatchdog (portInst n) * 1000; (decide (p.storm = false) && (decide (s.up < p.until_) && (decide (w ≠ 0) && (decide (s.up < p.from_ + w)))))) | _ => false)))))))) &&
    (let s : State := up; (let n := 65; (decide (s.stopped = false) && (decide (n < 512) && (decide (s.hasDie (n / 64) = true) &&
      (decide ((s.gate n).length = 0))))))) &&
    (let s : State := gt; (let n := 65; (decide (s.stopped = false) && (decide (n < 512) && (decide (s.hasDie (n / 64) = true) &&
      (decide ((s.gate n).length ≠ 0))))))) &&
    (let s : State := gt; (let n := 65; (decide (s.stopped = false) && (decide (n < 512) && (decide (s.hasDie (n / 64) = true) &&
      (decide ((s.gate n).swap = none))))))) &&
    (let s : State := gsw 2 99; (let n := 65; (decide (s.stopped = false) && (decide (n < 512) && (decide (s.hasDie (n / 64) = true) &&
      (match (s.gate n).swap with | some x => (decide (s.ns < x.start)) | _ => false)))))) &&
    (let s : State := gsw 0 0; (let n := 65; (decide (s.stopped = false) && (decide (n < 512) && (decide (s.hasDie (n / 64) = true) &&
      (match (s.gate n).swap with | some x => (decide (x.start ≤ s.ns) && (decide (s.time.epoch < x.epoch + 2) && (decide (x.length = 0)))) | _ => false)))))) &&
    (let s : State := gsw 1 0; (let n := 65; (decide (s.stopped = false) && (decide (n < 512) && (decide (s.hasDie (n / 64) = true) &&
      (match (s.gate n).swap with | some x => (decide (x.start ≤ s.ns) && (decide (s.time.epoch < x.epoch + 2) && (decide (x.length ≠ 0)))) | _ => false)))))) &&
    (let s : State := up.wr Od.threshMode 1; (decide (s.stopped = false) && (decide (s.rd Od.threshMode ≠ 0)))) &&
    (let s : State := up; (decide (s.stopped = false) && (decide (s.rd Od.threshMode = 0) &&
      (((List.range (8)).all fun u => decide (s.rd Od.threshAlphaMin 0 u ≤ s.rd Od.threshAlpha 0 u ∧ s.rd Od.threshAlpha 0 u ≤ s.rd Od.threshAlphaMax 0 u)) &&
      (decide (s.tm.squeezed = 0) && (decide (s.tm.dropped = 0))))))) &&
    (let s : State := ({ up with tm := { up.tm with squeezed := 128 } } : State); (let t := 7; (decide (s.stopped = false) &&
      (decide (s.rd Od.threshMode = 0) &&
      (((List.range (8)).all fun u => decide (s.rd Od.threshAlphaMin 0 u ≤ s.rd Od.threshAlpha 0 u ∧ s.rd Od.threshAlpha 0 u ≤ s.rd Od.threshAlphaMax 0 u)) &&
      (decide (t < 8) && (decide (s.tm.squeezed = 2 ^ t) && (decide (s.tm.dropped = 0) && (let k := s.rd Od.threshAlpha 0 t;
      (decide (s.rd Od.threshAlphaMin 0 t < k) && (decide (s.newestPending (alphaAddress t) = none) && (decide (s.changeRoom = true))))))))))))) &&
    (let s : State := ({ up with tm := { up.tm with dropped := 128 } } : State); (let t := 7; (decide (s.stopped = false) &&
      (decide (s.rd Od.threshMode = 0) &&
      (((List.range (8)).all fun u => decide (s.rd Od.threshAlphaMin 0 u ≤ s.rd Od.threshAlpha 0 u ∧ s.rd Od.threshAlpha 0 u ≤ s.rd Od.threshAlphaMax 0 u)) &&
      (decide (t < 8) && (decide (s.tm.lowF = 0) && (decide (s.tm.squeezed = 0) && (decide (s.tm.dropped = 2 ^ t) &&
      (let k := s.rd Od.threshAlpha 0 t; (decide (k < s.rd Od.threshAlphaMax 0 t) && (decide (s.newestPending (alphaAddress t) = none) &&
      (decide (s.changeRoom = true))))))))))))))) = true := by decide +kernel

theorem test_witness_GroupTraining :
    ((let s : State := up; (let d : Nat := 1; (let g : Nat := 2; (let block := (blk 5 0 m40).set 9 0; (decide (s.stopped = false) &&
      (decide (s.hasDie d = true) &&
      (match groupPeer s.part d g with | some p => (decide (s.groupState d g ≠ 1 ∨ beNat (slice block 124 4) ≠ crc32c (block.take 124))) | _ => false))))))) &&
    (let s : State := gr G1; (let d : Nat := 1; (let g : Nat := 2; (let block := blk 5 0 m40; (decide (s.stopped = false) &&
      (decide (s.hasDie d = true) &&
      (match groupPeer s.part d g with | some p => (let x : Group := s.group d g; (decide (s.groupState d g = 1) && (decide (block.length = 128) && (decide (beNat (block.take 4) = 0x7E1DC3A5) && (decide (beNat (slice block 124 4) = crc32c (block.take 124)) && (let lane := (byteAt block 4).toNat; (decide (lane < 44) && (decide (x.step = 1) && (decide ((byteAt block 5).toNat = 0) && (decide (lane ∉ x.locked) && (let y := ({ x with locked := x.locked ++ [lane] } : Group); (decide (y.locked.length ≠ 44))))))))))))) | _ => false))))))) &&
    (let s : State := gr G2; (let d : Nat := 1; (let g : Nat := 2; (let block := blk 43 0 m40; (decide (s.stopped = false) &&
      (decide (s.hasDie d = true) &&
      (match groupPeer s.part d g with | some p => (let x : Group := s.group d g; (decide (s.groupState d g = 1) && (decide (block.length = 128) && (decide (beNat (block.take 4) = 0x7E1DC3A5) && (decide (beNat (slice block 124 4) = crc32c (block.take 124)) && (let lane := (byteAt block 4).toNat; (decide (lane < 44) && (decide (x.step = 1) && (decide ((byteAt block 5).toNat = 0) && (decide (lane ∉ x.locked) && (let y := ({ x with locked := x.locked ++ [lane] } : Group); (decide (y.locked.length = 44))))))))))))) | _ => false))))))) &&
    (let s : State := gr G3; (let d : Nat := 1; (let g : Nat := 2; (let block := blk 5 2 (m40.set 3 9); (decide (s.stopped = false) &&
      (decide (s.hasDie d = true) &&
      (match groupPeer s.part d g with | some p => (let x : Group := s.group d g; (decide (s.groupState d g = 1) && (decide (block.length = 128) && (decide (beNat (block.take 4) = 0x7E1DC3A5) && (decide (beNat (slice block 124 4) = crc32c (block.take 124)) && (let lane := (byteAt block 4).toNat; (decide (lane < 44) && (decide (x.step = 3) && (decide ((byteAt block 5).toNat = 2) && (decide (lane ∈ x.locked) && (decide (lane ∈ x.peerLocked) && (decide ((slice block 48 40).map (·.toNat) ≠ x.map))))))))))))) | _ => false))))))) &&
    (let s : State := gr G3; (let d : Nat := 1; (let g : Nat := 2; (let block := blk 5 2 m40; (decide (s.stopped = false) &&
      (decide (s.hasDie d = true) &&
      (match groupPeer s.part d g with | some p => (let x : Group := s.group d g; (decide (s.groupState d g = 1) && (decide (block.length = 128) && (decide (beNat (block.take 4) = 0x7E1DC3A5) && (decide (beNat (slice block 124 4) = crc32c (block.take 124)) && (let lane := (byteAt block 4).toNat; (decide (lane < 44) && (decide (x.step = 3) && (decide ((byteAt block 5).toNat = 2) && (decide (lane ∈ x.locked) && (decide (lane ∈ x.peerLocked) && (decide ((slice block 48 40).map (·.toNat) = x.map) && (decide (x.echoes ≠ 15)))))))))))))) | _ => false))))))) &&
    (let s : State := gr { G3 with echoes := 15 }; (let d : Nat := 1; (let g : Nat := 2; (let block := blk 5 2 m40; (decide (s.stopped = false) &&
      (decide (s.hasDie d = true) &&
      (match groupPeer s.part d g with | some p => (let x : Group := s.group d g; (decide (s.groupState d g = 1) && (decide (block.length = 128) && (decide (beNat (block.take 4) = 0x7E1DC3A5) && (decide (beNat (slice block 124 4) = crc32c (block.take 124)) && (let lane := (byteAt block 4).toNat; (decide (lane < 44) && (decide (x.step = 3) && (decide ((byteAt block 5).toNat = 2) && (decide (lane ∈ x.locked) && (decide (lane ∈ x.peerLocked) && (decide ((slice block 48 40).map (·.toNat) = x.map) && (decide (x.echoes = 15)))))))))))))) | _ => false))))))) &&
    (let s : State := ({ up with recov := { up.recov with fenced := [1] } } : State); (let d : Nat := 1; (let g : Nat := 2;
      (decide (s.stopped = false) && (decide (s.hasDie d = true) &&
      (match groupPeer s.part d g with | some p => (decide (s.isFenced d = true)) | _ => false)))))) &&
    (let s : State := late (st 3 (gr G1)); (let d : Nat := 1; (let g : Nat := 2; (decide (s.stopped = false) && (decide (s.hasDie d = true) &&
      (match groupPeer s.part d g with | some p => (let x : Group := s.group d g; (decide (s.isFenced d = false) && (decide (s.isFenced p = false) && (decide (s.groupState d g = 3) && (decide (x.since + 10000000 ≤ s.up)))))) | _ => false)))))) &&
    (let s : State := st 2 (gr G1); (let d : Nat := 1; (let g : Nat := 2; (decide (s.stopped = false) && (decide (s.hasDie d = true) &&
      (match groupPeer s.part d g with | some p => (decide (s.isFenced d = false) && (decide (s.isFenced p = false) && (decide (s.groupState d g = 2)))) | _ => false)))))) &&
    (let s : State := gr G1; (let d : Nat := 1; (let g : Nat := 2; (decide (s.stopped = false) && (decide (s.hasDie d = true) &&
      (match groupPeer s.part d g with | some p => (let x : Group := s.group d g; (decide (s.isFenced d = false) && (decide (s.isFenced p = false) && (decide (s.groupState d g = 1) && (decide (x.step = 1) && (decide (s.up < x.since + 2000000))))))) | _ => false)))))) &&
    (let s : State := late (gr G2); (let d : Nat := 1; (let g : Nat := 2; (decide (s.stopped = false) && (decide (s.hasDie d = true) &&
      (match groupPeer s.part d g with | some p => (let x : Group := s.group d g; (decide (s.isFenced d = false) && (decide (s.isFenced p = false) && (decide (s.groupState d g = 1) && (decide (x.step = 1) && (decide (x.since + 2000000 ≤ s.up) && (decide (40 ≤ x.locked.length)))))))) | _ => false)))))) &&
    (let s : State := mid (gr G1); (let d : Nat := 1; (let g : Nat := 2; (decide (s.stopped = false) && (decide (s.hasDie d = true) &&
      (match groupPeer s.part d g with | some p => (let x : Group := s.group d g; (decide (s.isFenced d = false) && (decide (s.isFenced p = false) && (decide (s.groupState d g = 1) && (decide (x.step = 1) && (decide (x.since + 2000000 ≤ s.up) && (decide (s.up < x.since + 10000000) && (decide (x.locked.length < 40))))))))) | _ => false)))))) &&
    (let s : State := gr { G3 with step := 4 }; (let d : Nat := 1; (let g : Nat := 2; (decide (s.stopped = false) && (decide (s.hasDie d = true) &&
      (match groupPeer s.part d g with | some p => (let x : Group := s.group d g; (decide (s.groupState d g = 1) && (decide (x.step = 4)))) | _ => false)))))) &&
    (let s : State := gr { G3 with step := 5 }; (let d : Nat := 1; (let g : Nat := 2; (decide (s.stopped = false) && (decide (s.hasDie d = true) &&
      (match groupPeer s.part d g with | some p => (let x : Group := s.group d g; (decide (s.groupState d g = 1) && (decide (x.step = 5)))) | _ => false)))))) &&
    (let s : State := pr UPG { UPG with window := List.replicate 32 SF }; (let d : Nat := 1; (let g : Nat := 2; (let corrected := 6;
      (decide (s.stopped = false) && (decide (s.hasDie d = true) &&
      (match groupPeer s.part d g with | some p => (let s1 := s.bump Od.fabricCorrectedSymbols (dieInst d) g corrected; (decide (s.groupState d g = 2) && (decide ((s1.formFrame p d g).2 = none)))) | _ => false))))))) &&
    (let s : State := pr { UPG with nak := true } UPG; (let d : Nat := 1; (let g : Nat := 2; (let corrected := 6; (decide (s.stopped = false) &&
      (decide (s.hasDie d = true) &&
      (match groupPeer s.part d g with | some p => (let x : Group := s.group d g; (let s1 := s.bump Od.fabricCorrectedSymbols (dieInst d) g corrected; (decide (s.groupState d g = 2) && (decide (sparseRising none s.fabric.groups = true) && (match (s1.formFrame p d g).2 with | some f => (decide (x.nak = true) && (decide (f.again = false))) | _ => false))))) | _ => false))))))) &&
    (let s : State := pr { UPG with retries := 3, retryFrom := 0 } UPG; (let d : Nat := 1; (let g : Nat := 2; (let corrected := 6;
      (decide (s.stopped = false) && (decide (s.hasDie d = true) &&
      (match groupPeer s.part d g with | some p => (let x : Group := s.group d g; (let s1 := s.bump Od.fabricCorrectedSymbols (dieInst d) g corrected; (decide (s.groupState d g = 2) && (decide (sparseRising none s.fabric.groups = true) && (let r := (s1.formFrame p d g).1; (match (s1.formFrame p d g).2 with | some f => (decide (x.nak = false) && (let y := r.group d g; (let fresh := decide (y.retryFrom + 1000000 ≤ r.up); (let n := (if fresh then 1 else y.retries + 1); (decide (n ≠ 17)))))) | _ => false)))))) | _ => false))))))) &&
    (let s : State := pr { UPG with retries := 16 } UPG; (let d : Nat := 1; (let g : Nat := 2; (let corrected := 6; (decide (s.stopped = false) &&
      (decide (s.hasDie d = true) &&
      (match groupPeer s.part d g with | some p => (let x : Group := s.group d g; (let s1 := s.bump Od.fabricCorrectedSymbols (dieInst d) g corrected; (decide (s.groupState d g = 2) && (decide (sparseRising none s.fabric.groups = true) && (let r := (s1.formFrame p d g).1; (match (s1.formFrame p d g).2 with | some f => (decide (x.nak = false) && (let y := r.group d g; (let fresh := decide (y.retryFrom + 1000000 ≤ r.up); (let n := (if fresh then 1 else y.retries + 1); (decide (n = 17)))))) | _ => false)))))) | _ => false))))))) &&
    (let s : State := pr UPG { UPG with sfSeq := 0 }; (let d : Nat := 1; (let g : Nat := 2; (let corrected := 6; (decide (s.stopped = false) &&
      (decide (s.hasDie d = true) &&
      (match groupPeer s.part d g with | some p => (let x : Group := s.group d g; (let s1 := s.bump Od.fabricCorrectedSymbols (dieInst d) g corrected; (decide (s.groupState d g = 2) && (decide (sparseRising none s.fabric.groups = true) && (match (s1.formFrame p d g).2 with | some f => (decide (x.nak = false) && (decide (f.seq % 4096 = 0) && (decide (f.cells = [])))) | _ => false))))) | _ => false))))))) &&
    (let s : State := pr UPG { UPG with sfSeq := 4, own := [cell hd], fifoUsed := 1 }; (let d : Nat := 1; (let g : Nat := 2; (let corrected := 6;
      (let c := cell hd; (decide (s.stopped = false) && (decide (s.hasDie d = true) &&
      (match groupPeer s.part d g with | some p => (let x : Group := s.group d g; (let s1 := s.bump Od.fabricCorrectedSymbols (dieInst d) g corrected; (decide (s.groupState d g = 2) && (decide (sparseRising none s.fabric.groups = true) && (match (s1.formFrame p d g).2 with | some f => (decide (x.nak = false) && (decide (f.seq % 4096 ≠ 0) && (decide (f.cells = [c]) && (decide (bits c.header 121 119 = d))))) | _ => false))))) | _ => false)))))))) &&
    (let s : State := pr UPG { UPG with window := List.replicate 32 SF }; (let d : Nat := 1; (let g : Nat := 2; (decide (s.stopped = false) &&
      (decide (s.hasDie d = true) &&
      (match groupPeer s.part d g with | some p => (let y := s.group p g; (decide (y.resend = []) && (decide (32 ≤ y.window.length)))) | _ => false)))))) &&
    (let s : State := pr UPG { UPG with sfSeq := 4, own := [cell hd], fifoUsed := 1, times := [(1, 77)] }; (let d : Nat := 1; (let g : Nat := 2;
      (decide (s.stopped = false) && (decide (s.hasDie d = true) &&
      (match groupPeer s.part d g with | some p => (let y := s.group p g; (decide (y.resend = []) && (decide (y.window.length < 32) && (decide (y.sfSeq % 4096 ≠ 0) && (decide (y.transit = []) && (decide (y.slotsFreed = []))))))) | _ => false))))))) = true := by decide +kernel

theorem test_witness_FabricCells :
    ((let s : State := up; (let d : Nat := 1; (let dst := 1; (decide (s.stopped = false) && (decide (s.hasDie d = true) &&
      (decide (dst = d ∨ s.hasDie dst = false))))))) &&
    (let s : State := up; (let d : Nat := 1; (let dst := 2; (decide (s.stopped = false) && (decide (s.hasDie d = true) && (decide (dst ≠ d) &&
      (decide (s.hasDie dst = true) && (((List.range (7)).all fun g => decide (groupPeer s.part d g = none ∨ s.groupState d g ≠ 2)))))))))) &&
    (let s : State := fs; (let d : Nat := 1; (let dst := 2; (let v := 1040; (decide (s.stopped = false) && (decide (s.hasDie d = true) &&
      (decide (dst ≠ d) && (decide (s.hasDie dst = true) && (let x := sparseGet (fun _ => SendStream.fresh) s.fabric.sends ((d * 8 + dst) * 8192 + v);
      (match nextOf (sparseGet (fun _ => 6) s.fabric.turn (d * 8 + dst)) (s.openGroups d dst) with | some g => (decide (d < 8) && (decide (dst < 8) && (decide (v < 8192) && (decide (x.seq < 65536) && (match s.fillCell x.packets { payload := [], parts := [], first := 256, ends := [], left := [] } with | some y => (decide (y.payload ≠ [])) | _ => false))))) | _ => false)))))))))) &&
    (let s : State := up; (let d : Nat := 1; (let src := 2; (let v := 520; (decide (s.stopped = false) && (decide (s.hasDie d = true) &&
      (let x := s.recv ((src * 8 + d) * 8192 + v); (decide (x.held = [] ∨ s.up + 1 < x.since + s.rd Od.fabricReseqTimeout))))))))) &&
    (let s : State := rv (putBits hd 78 70 256); (let d : Nat := 1; (let src := 2; (let v := 520; (let seq := 3;
      (let c := cell (putBits hd 78 70 256); (decide (s.stopped = false) && (decide (s.hasDie d = true) &&
      (let x := s.recv ((src * 8 + d) * 8192 + v); (decide (x.since + s.rd Od.fabricReseqTimeout ≤ s.up + 1) && (decide (x.held = [(seq, c)]) &&
      (decide (s.tm.copies = []) && (decide (bits c.header 78 70 = 256)))))))))))))) &&
    (let s : State := rv hd; (let d : Nat := 1; (let src := 2; (let v := 520; (let seq := 3; (let c := cell hd; (decide (s.stopped = false) &&
      (decide (s.hasDie d = true) && (let x := s.recv ((src * 8 + d) * 8192 + v); (decide (x.since + s.rd Od.fabricReseqTimeout ≤ s.up + 1) &&
      (decide (x.held = [(seq, c)]) && (decide (s.tm.copies = []) && (decide (bits c.header 78 70 ≠ 256))))))))))))))) = true := by decide +kernel

theorem test_witness_FabricLanes :
    ((let s : State := ls L1; (let d : Nat := 1; (let g : Nat := 2; (let l := 40; (decide (s.stopped = false) && (decide (s.hasDie d = true) &&
      (match groupPeer s.part d g with | some p => (decide (40 ≤ l ∨ s.groupState d g ≠ 2)) | _ => false))))))) &&
    (let s : State := ls L1; (let d : Nat := 1; (let g : Nat := 2; (let l := 39; (let i := 0; (decide (s.stopped = false) &&
      (decide (s.hasDie d = true) &&
      (match groupPeer s.part d g with | some p => (let x : Group := s.group d g; (decide (l < 40) && (decide (s.groupState d g = 2) && (decide (x.job = none) && (decide (l ∉ x.erased) && (decide (s.spareLane d g = some i))))))) | _ => false)))))))) &&
    (let d : Nat := 1; (let g : Nat := 2; (let x : Group := L1; (let s : State := nosp x; (let l := 4; (decide (s.stopped = false) &&
      (decide (s.hasDie d = true) &&
      (match groupPeer s.part d g with | some p => (decide (x = s.group d g) && (decide (l < 40) && (decide (s.groupState d g = 2) && (decide (x.job = none) && (decide (l ∉ x.erased) && (decide (s.spareLane d g = none) && (decide (x.erased = [])))))))) | _ => false)))))))) &&
    (let d : Nat := 1; (let g : Nat := 2; (let x : Group := { L1 with erased := [9] }; (let s : State := nosp x; (let l := 4;
      (decide (s.stopped = false) && (decide (s.hasDie d = true) &&
      (match groupPeer s.part d g with | some p => (decide (x = s.group d g) && (decide (l < 40) && (decide (s.groupState d g = 2) && (decide (x.job = none) && (decide (l ∉ x.erased) && (decide (s.spareLane d g = none) && (decide (x.erased ≠ [])))))))) | _ => false)))))))) &&
    (let s : State := ls L2; (let d : Nat := 1; (let g : Nat := 2; (let i := 0; (let l := 4; (decide (s.stopped = false) &&
      (decide (s.hasDie d = true) &&
      (match groupPeer s.part d g with | some p => (let x : Group := s.group d g; (decide (l < 40) && (decide (i < 4) && (decide (x.mirror ≠ none))))) | _ => false)))))))) &&
    (let s : State := ls L2; (let d : Nat := 1; (let g : Nat := 2; (let i := 0; (let l := 4; (decide (s.stopped = false) &&
      (decide (s.hasDie d = true) &&
      (match groupPeer s.part d g with | some p => (let x : Group := s.group d g; (decide (l < 40) && (decide (i < 4) && (decide (x.mirror = some (l, i, 0)))))) | _ => false)))))))) &&
    (let s : State := ls L1; (let d : Nat := 1; (let g : Nat := 2; (let i := 0; (let l := 4; (decide (s.stopped = false) &&
      (decide (s.hasDie d = true) &&
      (match groupPeer s.part d g with | some p => (let x : Group := s.group d g; (decide (l < 40) && (decide (i < 4) && (decide (x.mirror ≠ some (l, i, 0)))))) | _ => false)))))))) &&
    (let s : State := rel; (let d : Nat := 1; (let g : Nat := 2; (let i := 1; (let l := 4; (decide (s.stopped = false) &&
      (decide (s.hasDie d = true) &&
      (match groupPeer s.part d g with | some p => (let x : Group := s.group d g; (decide (l < 40) && (decide (i < 4) && (let y := s.group p g; (decide (x.mirror = none) && (decide (y.job = none) && (decide (s.laneOf p g l = 40 + i) && (decide (s.laneRetired p g l = false))))))))) | _ => false)))))))) &&
    (let s : State := ls L1; (let d : Nat := 1; (let g : Nat := 2; (let i := 0; (let l := 4; (decide (s.stopped = false) &&
      (decide (s.hasDie d = true) &&
      (match groupPeer s.part d g with | some p => (decide (l < 40) && (decide (i < 4) && (decide (s.laneOf p g l ≠ 40 + i)))) | _ => false)))))))) &&
    (let s : State := ls L1; (let d : Nat := 1; (let g : Nat := 2; (let i := 0; (let l := 4; (decide (s.stopped = false) &&
      (decide (s.hasDie d = true) &&
      (match groupPeer s.part d g with | some p => (let x : Group := s.group d g; ((x.job.all fun j => j.lane ≠ l || j.spare ≠ i || j.step ≠ 2))) | _ => false)))))))) &&
    (let s : State := ls L3; (let d : Nat := 1; (let g : Nat := 2; (let i := 1; (let l := 4; (decide (s.stopped = false) &&
      (decide (s.hasDie d = true) &&
      (match groupPeer s.part d g with | some p => (let x : Group := s.group d g; (decide (x.job = some { lane := l, spare := i, step := 2, back := false }) && (decide (x.waiting = []) && (decide (s.laneOf d g l < 40) && (let s1 := s.setGroup d g { x with job := none, erased := x.erased.filter (· ≠ l) }; (let s2 := (((s1.wrOctet Od.fabricLaneMap (dieInst d) g l (40 + i)).setSpare 1 d g i 3).bump Od.fabricLaneSwitchovers (dieInst d) g); (let s3 := ((s2.faultSpare d 0x01 1 (g * 256 + s.laneOf d g l) (if l ∈ x.erased then 1 else 2)).fire d 0x153).retire 1 d g (s.laneOf d g l) 0x01; (decide ((s3.group d g).waiting = []))))))))) | _ => false)))))))) &&
    (let s : State := up; (let d : Nat := 1; (let g : Nat := 2; (decide (s.stopped = false) && (decide (s.hasDie d = true) &&
      (match groupPeer s.part d g with | some p => (decide (s.alignTo d = none)) | _ => false)))))) &&
    (let s : State := al; (let d : Nat := 1; (let g : Nat := 2; (decide (s.stopped = false) && (decide (s.hasDie d = true) &&
      (match groupPeer s.part d g with | some p => (match s.alignTo d with | some (r, relayed) => (decide (r ≠ p)) | _ => false) | _ => false)))))) &&
    (let s : State := al; (let d : Nat := 1; (let g : Nat := 0; (decide (s.stopped = false) && (decide (s.hasDie d = true) &&
      (match groupPeer s.part d g with | some p => (match s.alignTo d with | some (r, relayed) => (decide (r = p)) | _ => false) | _ => false)))))) &&
    (let s : State := al; (let d : Nat := 1; (let g : Nat := 2; (let value := 5; (decide (s.stopped = false) && (decide (s.hasDie d = true) &&
      (match groupPeer s.part d g with | some p => (decide (value < 2 ^ 64) && (match s.alignTo d with | some (r, relayed) => (decide (r ≠ p)) | _ => false)) | _ => false))))))) &&
    (let s : State := ex 3; (let d : Nat := 1; (let g : Nat := 0; (let value := 5; (let relayed := false; (decide (s.stopped = false) &&
      (decide (s.hasDie d = true) &&
      (match groupPeer s.part d g with | some p => (decide (value < 2 ^ 64) && (let e := s.exchange d; (let offset := (timeDiff e.t2 e.t1 - timeDiff value e.t3) / 2; (decide (s.alignTo d = some (p, relayed)) && (let n := (if offset.natAbs ≤ 65536 then 0 else e.offCount + 1); (decide (n ≠ 16))))))) | _ => false)))))))) &&
    (let s : State := ex 15; (let d : Nat := 1; (let g : Nat := 0; (let value := 5; (let relayed := false; (decide (s.stopped = false) &&
      (decide (s.hasDie d = true) &&
      (match groupPeer s.part d g with | some p => (decide (value < 2 ^ 64) && (let e := s.exchange d; (let offset := (timeDiff e.t2 e.t1 - timeDiff value e.t3) / 2; (decide (s.alignTo d = some (p, relayed)) && (let n := (if offset.natAbs ≤ 65536 then 0 else e.offCount + 1); (decide (n = 16))))))) | _ => false))))))))) = true := by decide +kernel

end Fabrics

namespace Tables

def mk (mac lp st : Nat) : LearnRequest := { bd := 5, mac := mac, lport := lp, stamp := ofTime96 st, port := 65, waits := false }
def late (s : State) : State := { s with time := { s.time with now := 2 ^ 60 } }
def lq (lp : Nat) (s : State) : State := late { s with learning := { s.learning with queue := [mk 0xAB lp 0] } }
def known (r : Nat) : State := (up.putMac r).getD up
def kr : Nat := macRecord false 0 5 0xAB 66 0
def gd (s : State) : State := { s with learning := { s.learning with guards := [(5 * 2 ^ 48 + 0xAB, 0)] } }
def lim1 : State := (known (macRecord false 0 5 0x77 66 0)).setTbl 0 0x42 5 (1 * 2 ^ 29)
def k5 : Nat := 5 * 2 ^ 48 + 0xAB
def age0 : State := ((known kr).setTbl 0 0x42 5 (2 ^ 49)).wr Od.macAgePeriod 10
def age1 : State := ((known (macRecord false 0 5 0xAB 0xFFF 66)).setTbl 0 0x42 5 (2 ^ 49)).wr Od.macAgePeriod 10
def bk (s : State) : State := { s with learning := { s.learning with buckets := (List.range 15).map fun i => 3 * 4096 + i } }
def eg : State := (((up.setTbl 0 0x4B 3 (2 * 2 ^ 35 + 4 * 2 ^ 10)).setTbl 0 0x4C 0 (10 * 2 ^ 22 + 1 * 2 ^ 30)).setTbl 0 0x4C 1 (10 * 2 ^ 22 + 1 * 2 ^ 30)).wr Od.ecmpMode 0
def ev' : State := (eg.setTbl 0 0x4C 0 (255 * 2 ^ 22)).setTbl 0 0x4C 1 (255 * 2 ^ 22)
def wt (a b : Nat) (s : State) : State := (s.setTbl 0 0x4F (3 * 512) (256 + a)).setTbl 0 0x4F (3 * 512 + 1) (256 + b)
def eg' : State := wt 5 5 eg
def nsp : State := (spareUnits 6).foldl (fun a u => a.setSpare 6 1 (1 * 4096 + 5) u 4) up
def E0 : EventSource := { enable := true, wake := false, priority := 9, targetKind := 2, target := 7, state := 0, lost := 0, takenKind := 0, takenBy := 0 }
def ev (e : EventSource) : State := up.setSource (0 * 4096 + 0x140) e
def E2 : EventSource := { E0 with targetKind := 1, target := 1, state := 1 }
def E3 : EventSource := { E0 with state := 1, target := 3 }
def pw (d0 pme mx : Bool) (s : State) : State :=
  { s with events := { s.events with power := sparseSet (fun _ => { d0 := true, linkLow := false, pmeEnable := false, msixEnable := false }) s.events.power 0 { d0 := d0, linkLow := false, pmeEnable := pme, msixEnable := mx } } }
def tmr (p : Nat) : State := let s := up.wr Od.timerPeriod p (dieInst 0) 2; { s with events := { s.events with timers := [(2, 500)] } }

theorem test_witness_LearningRows :
    ((let s : State := ({ up with learning := { up.learning with queue := List.replicate 16384 (mk 1 1 0) } } : State); (decide (s.stopped = false) &&
      (decide (16384 ≤ s.learning.queue.length)))) &&
    (let s : State := ({ up with learning := { up.learning with queue := List.replicate 16383 (mk 1 1 0) } } : State); (decide (s.stopped = false) &&
      (decide (s.learning.queue.length < 16384)))) &&
    (let s : State := ({ up with learning := { up.learning with queue := [mk 0xAB 66 (2 ^ 40)] } } : State); (decide (s.stopped = false) &&
      (decide ((∀ q ∈ s.learning.queue, s.time.now < q.stamp + 2000 * 65536 ∨ q.waits = true))))) &&
    (let s : State := lq 66 (known kr); (decide (s.stopped = false) &&
      (match s.learning.queue with | [q] => (decide (q.waits = false) && (decide (q.stamp + 2000 * 65536 ≤ s.time.now) && (match s.macEntry q.bd q.mac with | some r => (decide (bits r 53 42 = q.lport)) | _ => false))) | _ => false))) &&
    (let s : State := lq 67 (known (kr + 2 ^ 126)); (decide (s.stopped = false) &&
      (match s.learning.queue with | [q] => (decide (q.waits = false) && (decide (q.stamp + 2000 * 65536 ≤ s.time.now) && (match s.macEntry q.bd q.mac with | some r => (decide (bits r 53 42 ≠ q.lport) && (decide (bitOf r 126 = true))) | _ => false))) | _ => false))) &&
    (let s : State := lq 67 (gd (known kr)); (decide (s.stopped = false) &&
      (match s.learning.queue with | [q] => (decide (q.waits = false) && (decide (q.stamp + 2000 * 65536 ≤ s.time.now) && (let number := q.bd * 2 ^ 48 + q.mac; (match s.macEntry q.bd q.mac with | some r => (decide (bits r 53 42 ≠ q.lport) && (decide (bitOf r 126 = false) && (match sparseFind? s.learning.guards number with | some moved => (decide (moved ≤ q.stamp) && (decide (q.stamp < moved + s.rd Od.moveGuard * 1000 * 65536))) | _ => false))) | _ => false)))) | _ => false))) &&
    (let s : State := lq 67 (known (kr + 2 ^ 124)); (decide (s.stopped = false) &&
      (match s.learning.queue with | [q] => (decide (q.waits = false) && (decide (q.stamp + 2000 * 65536 ≤ s.time.now) && (let number := q.bd * 2 ^ 48 + q.mac; (match s.macEntry q.bd q.mac with | some r => (decide (bits r 53 42 ≠ q.lport) && (decide (bitOf r 126 = false) && (decide (bitOf r 124 = true) && (decide (sparseFind? s.learning.guards number = none))))) | _ => false)))) | _ => false))) &&
    (let s : State := lq 67 (known kr); (decide (s.stopped = false) &&
      (match s.learning.queue with | [q] => (decide (q.waits = false) && (decide (q.stamp + 2000 * 65536 ≤ s.time.now) && (let s1 : State := { s with learning := { s.learning with queue := [] } }; (let number := q.bd * 2 ^ 48 + q.mac; (match s.macEntry q.bd q.mac with | some r => (decide (bits r 53 42 ≠ q.lport) && (decide (bitOf r 126 = false) && (decide (bitOf r 124 = false) && (decide (sparseFind? s.learning.guards number = none) && (match s1.putMac (macRecord true (s.time.epoch + 4) q.bd q.mac q.lport (bits r 53 42)) with | some t => true | _ => false))))) | _ => false))))) | _ => false))) &&
    (let s : State := lq 66 lim1; (decide (s.stopped = false) &&
      (match s.learning.queue with | [q] => (decide (q.waits = false) && (decide (q.stamp + 2000 * 65536 ≤ s.time.now) && (decide (s.macEntry q.bd q.mac = none) && (let full := (s.limitReached (bits (s.tbl (s.fam 0x42).live 0x42 q.bd) 48 29) (fun r => bits r 115 102 = q.bd) || s.limitReached (bits (s.tbl (s.fam 0x40).live 0x40 q.lport) 62 43) (fun r => bits r 53 42 = q.lport)); (decide (full = true)))))) | _ => false))) &&
    (let s : State := lq 66 up; (decide (s.stopped = false) &&
      (match s.learning.queue with | [q] => (decide (q.waits = false) && (decide (q.stamp + 2000 * 65536 ≤ s.time.now) && (let s1 : State := { s with learning := { s.learning with queue := [] } }; (decide (s.macEntry q.bd q.mac = none) && (let full := (s.limitReached (bits (s.tbl (s.fam 0x42).live 0x42 q.bd) 48 29) (fun r => bits r 115 102 = q.bd) || s.limitReached (bits (s.tbl (s.fam 0x40).live 0x40 q.lport) 62 43) (fun r => bits r 53 42 = q.lport)); (decide (full = false) && (match s1.putMac (macRecord true (s.time.epoch + 4) q.bd q.mac q.lport 0xFFF) with | some t => true | _ => false))))))) | _ => false))) &&
    (let s : State := up.wr Od.macAgePeriod 0; (decide (s.stopped = false) && (decide (s.rd Od.macAgePeriod = 0)))) &&
    (let s : State := ({ age0 with learning := { age0.learning with hits := [(1, k5)], idle := [k5] } } : State);
      (let i := ((s.bankRecords 0x43 (s.fam 0x43).live).headD (0, 0)).1; (let r := ((s.bankRecords 0x43 (s.fam 0x43).live).headD (0, 0)).2;
      (decide (s.stopped = false) && (decide (s.rd Od.macAgePeriod ≠ 0) && (decide (s.bankRecords 0x43 (s.fam 0x43).live = [(i, r)]) &&
      (decide (bitOf r 126 = false) && (decide (bitOf (s.tbl (s.fam 0x42).live 0x42 (bits r 115 102)) 49 = true) &&
      (let k := bits r 115 102 * 2 ^ 48 + bits r 101 54; (decide ((∃ h ∈ s.learning.hits, h.2 = k)))))))))))) &&
    (let s : State := age0; (let i := ((s.bankRecords 0x43 (s.fam 0x43).live).headD (0, 0)).1;
      (let r := ((s.bankRecords 0x43 (s.fam 0x43).live).headD (0, 0)).2; (decide (s.stopped = false) && (decide (s.rd Od.macAgePeriod ≠ 0) &&
      (decide (s.bankRecords 0x43 (s.fam 0x43).live = [(i, r)]) && (decide (bitOf r 126 = false) &&
      (decide (bitOf (s.tbl (s.fam 0x42).live 0x42 (bits r 115 102)) 49 = true) && (let k := bits r 115 102 * 2 ^ 48 + bits r 101 54;
      (decide ((∀ h ∈ s.learning.hits, h.2 ≠ k)) && (decide (k ∉ s.learning.idle)))))))))))) &&
    (let s : State := ({ age1 with learning := { age1.learning with idle := [k5] } } : State);
      (let i := ((s.bankRecords 0x43 (s.fam 0x43).live).headD (0, 0)).1; (let r := ((s.bankRecords 0x43 (s.fam 0x43).live).headD (0, 0)).2;
      (decide (s.stopped = false) && (decide (s.rd Od.macAgePeriod ≠ 0) && (decide (s.bankRecords 0x43 (s.fam 0x43).live = [(i, r)]) &&
      (decide (bitOf r 126 = false) && (decide (bitOf (s.tbl (s.fam 0x42).live 0x42 (bits r 115 102)) 49 = true) &&
      (let k := bits r 115 102 * 2 ^ 48 + bits r 101 54; (decide ((∀ h ∈ s.learning.hits, h.2 ≠ k)) && (decide (k ∈ s.learning.idle) &&
      (decide (bits r 53 42 = 0xFFF))))))))))))) &&
    (let s : State := ({ age0 with learning := { age0.learning with idle := [k5] } } : State);
      (let i := ((s.bankRecords 0x43 (s.fam 0x43).live).headD (0, 0)).1; (let r := ((s.bankRecords 0x43 (s.fam 0x43).live).headD (0, 0)).2;
      (decide (s.stopped = false) && (decide (s.rd Od.macAgePeriod ≠ 0) && (decide (s.bankRecords 0x43 (s.fam 0x43).live = [(i, r)]) &&
      (decide (bitOf r 126 = false) && (decide (bitOf (s.tbl (s.fam 0x42).live 0x42 (bits r 115 102)) 49 = true) &&
      (let k := bits r 115 102 * 2 ^ 48 + bits r 101 54; (decide ((∀ h ∈ s.learning.hits, h.2 ≠ k)) && (decide (k ∈ s.learning.idle) &&
      (decide (bits r 53 42 ≠ 0xFFF))))))))))))) &&
    (let s : State := up.wr Od.ecmpMode 1; (decide (s.stopped = false) &&
      (decide (s.rd Od.ecmpMode = 1 ∨ s.bankState 0x4B ≠ 0 ∨ s.changeRoom = false)))) &&
    (let s : State := bk (wt 16 0 ev'); (let grp := 3; (let targets := [16, 0]; (let j := 15; (decide (s.stopped = false) &&
      (decide (s.rd Od.ecmpMode ≠ 1) && (let live := (s.fam 0x4B).live; (let r := s.tbl live 0x4B grp; (decide (bits r 44 35 ≠ 0) &&
      (decide (targets.length = bits r 44 35) && (decide (s.bankState 0x4B = 0) && (decide (s.changeRoom = true) && (let b := 2 ^ bits r 13 10;
      (decide (16 ≤ b) && (decide (j < b) && (((List.range (b)).all fun i => decide ((grp * 4096 + i ∈ s.learning.buckets ↔ i ≠ j))) &&
      (let now := (List.range b).map (fun i => bits (s.tbl live 0x4D (bits r 34 14 + i)) 15 7);
      (let fit := targets.zipIdx.map (fun w => max (bits (s.tbl live 0x4C (bits r 63 45 + w.2)) 37 30) (min (bits (s.tbl live 0x4C (bits r 63 45 + w.2)) 29 22) w.1));
      (decide ((∀ w ∈ fit.zipIdx, s.memberWeight live grp w.2 = w.1)) && (let next := moveBucket b fit now j;
      (decide (next = now)))))))))))))))))))))) &&
    (let s : State := bk eg'; (let grp := 3; (let targets := [5, 5]; (let j := 15; (decide (s.stopped = false) && (decide (s.rd Od.ecmpMode ≠ 1) &&
      (let live := (s.fam 0x4B).live; (let r := s.tbl live 0x4B grp; (decide (bits r 44 35 ≠ 0) && (decide (targets.length = bits r 44 35) &&
      (decide (s.bankState 0x4B = 0) && (decide (s.changeRoom = true) && (let b := 2 ^ bits r 13 10; (decide (16 ≤ b) && (decide (j < b) &&
      (((List.range (b)).all fun i => decide ((grp * 4096 + i ∈ s.learning.buckets ↔ i ≠ j))) &&
      (let now := (List.range b).map (fun i => bits (s.tbl live 0x4D (bits r 34 14 + i)) 15 7);
      (let fit := targets.zipIdx.map (fun w => max (bits (s.tbl live 0x4C (bits r 63 45 + w.2)) 37 30) (min (bits (s.tbl live 0x4C (bits r 63 45 + w.2)) 29 22) w.1));
      (decide ((∀ w ∈ fit.zipIdx, s.memberWeight live grp w.2 = w.1)) && (let next := moveBucket b fit now j;
      (decide (next ≠ now))))))))))))))))))))))) = true := by decide +kernel

theorem test_witness_ScrubRows :
    ((let s : State := up; (let d : Nat := 1; (decide (s.stopped = false) && (decide (s.hasDie d = true))))) &&
    (let s : State := up; (let d : Nat := 1; (decide (s.stopped = false) && (decide (s.hasDie d = true))))) &&
    (let s : State := up; (let d : Nat := 1; (decide (s.stopped = false) && (decide (s.hasDie d = true))))) &&
    (let s : State := up; (let d : Nat := 1; (decide (s.stopped = false) && (decide (s.hasDie d = true) && (decide (s.asa.rowFails = [])))))) &&
    (let d : Nat := 1; (let kind := 0x40; (let s : State := ({ up with badRows := [{ die := 1, kind := 0x40, index := 7 }] } : State);
      (decide (s.stopped = false) && (decide (s.hasDie d = true)))))) &&
    (let s : State := up; (let d : Nat := 1; (let array := 3; (let bank := 1; (decide (s.stopped = false) && (decide (s.hasDie d = true) &&
      (decide ([d, array, bank] ∉ s.asa.copying)))))))) &&
    (let s : State := ({ up with asa := { up.asa with copying := [[1, 3, 1]] } } : State); (let d : Nat := 1; (let array := 3; (let bank := 1;
      (decide (s.stopped = false) && (decide (s.hasDie d = true) && (decide ([d, array, bank] ∈ s.asa.copying)))))))) &&
    (let s : State := up; (let d : Nat := 1; (let kind := 1; (let mac := 5; (decide (s.stopped = false) && (decide (s.hasDie d = true) &&
      (decide (kind ≠ 0) && (match s.pickSpare 6 d (kind * 4096 + mac) with | some u => true | _ => false)))))))) &&
    (let s : State := nsp; (let d : Nat := 1; (let kind := 1; (let mac := 5; (decide (s.stopped = false) && (decide (s.hasDie d = true) &&
      (decide (kind ≠ 0) && (decide (s.pickSpare 6 d (kind * 4096 + mac) = none))))))))) &&
    (let s : State := ({ up with recov := { up.recov with copying := [[1, 1, 5, 77, 0, 0]] } } : State); (let d : Nat := 1; (let kind := 1;
      (let mac := 5; (let row := 77; (let u := 0; (decide (s.stopped = false) && (decide (s.hasDie d = true) &&
      (decide (s.recov.copying = [[d, kind, mac, row, u, 0]])))))))))) &&
    (let s : State := up; (let d : Nat := 1; (decide (s.stopped = false) && (decide (s.hasDie d = true) && (decide (s.recov.copying = []))))))) = true := by decide +kernel

theorem test_witness_EventCommands :
    ((let s : State := up; (let d := 0; (let n := 0x1FF; (decide (s.stopped = false) && (decide (s.hasDie d = true) &&
      (decide (s.sourceExists d n = false))))))) &&
    (let s : State := ev E0; (let d := 0; (let n := 0x140; (let t := 7; (decide (s.stopped = false) && (decide (s.hasDie d = true) &&
      (let e := s.source (d * 4096 + n); (decide (s.sourceExists d n = true) && (decide (s.rd Od.powerState = 0) && (decide (e.enable = true) &&
      (decide (e.targetKind = 2) && (decide (e.state = 0) && (decide (t = s.targetOf 2 e.target) &&
      (decide ((s.fnPower (s.activeFn (t / 256))).d0 = true) && (decide ((s.fnPower (s.activeFn (t / 256))).linkLow = false) &&
      (decide ((s.fnPower (s.activeFn (t / 256))).msixEnable = false ∨ sparseGet (fun _ => false) s.events.unmasked t = false))))))))))))))))) &&
    (let s : State := up; (let d := 0; (let core := 1; (let t := 1; (decide (s.stopped = false) && (decide (s.hasDie d = true) &&
      (decide (t = d * 8 + core) && (decide (s.bestFor 1 t = none))))))))) &&
    (let s : State := ev E2; (let d := 0; (let core := 1; (let t := 1; (decide (s.stopped = false) && (decide (s.hasDie d = true) &&
      (decide (t = d * 8 + core) && (match s.bestFor 1 t with | some (key, e) => true | _ => false)))))))) &&
    (let s : State := up.setActive 1 1 [{ code := 0x140, group := 9 }]; (let d := 0; (let core := 1; (let t := 1; (decide (s.stopped = false) &&
      (decide (s.hasDie d = true) && (decide (t = d * 8 + core) && (match s.activeOf 1 t with | a :: rest => true | _ => false)))))))) &&
    (let s : State := up; (let d := 0; (let core := 1; (let t := 1; (let code := 0x141; (decide (s.stopped = false) && (decide (s.hasDie d = true) &&
      (decide (t = d * 8 + core) && (((s.activeOf 1 t).all fun a => a.code ≠ code)))))))))) &&
    (let s : State := up.setActive 2 3 [{ code := 0x140, group := 9 }]; (let h := 0; (let f := 0; (let v := 3; (let t := 3;
      (decide (s.stopped = false) && (decide (t = s.fnOf h f * 256 + v) && (match s.activeOf 2 t with | a :: rest => true | _ => false)))))))) &&
    (let s : State := up; (let h := 0; (let f := 0; (let v := 3; (let t := 3; (let code := 0x141; (decide (s.stopped = false) &&
      (decide (t = s.fnOf h f * 256 + v) && (((s.activeOf 2 t).all fun a => a.code ≠ code)))))))))) &&
    (let s : State := up; (let h := 0; (let f := 0; (let v := 3; (let t := 3; (decide (s.stopped = false) && (decide (t = s.fnOf h f * 256 + v) &&
      (let u : State := { s with events := { s.events with unmasked := sparseSet (fun _ => false) s.events.unmasked t true } };
      (decide (u.bestFor 2 t = none)))))))))) &&
    (let s : State := pw true false true (ev E3); (let h := 0; (let f := 0; (let v := 3; (let t := 3; (decide (s.stopped = false) &&
      (decide (t = s.fnOf h f * 256 + v) &&
      (let u : State := { s with events := { s.events with unmasked := sparseSet (fun _ => false) s.events.unmasked t true } };
      (decide (u.vectorReady t = true) &&
      (match u.bestFor 2 t with | some (key, e) => (let w : State := (u.activate key 2 t).emit (.msix (u.activeFn (t / 256)) (t % 256) ((key / 4096 * 4096 + key % 4096) % 32768)); (decide (w.bestFor 2 t = none))) | _ => false)))))))))) &&
    (let s : State := up; (let h := 0; (let f := 0; (decide (s.stopped = false) &&
      (let vs := (if s.activeFn (s.fnOf h f) = fnKey h f then s.waitingVectors (s.fnOf h f) else []); (decide (vs = []))))))) &&
    (let s : State := ev E3; (let h := 0; (let f := 0;
      (let p : FunctionPower := { d0 := false, linkLow := false, pmeEnable := true, msixEnable := false }; (let v := 3; (decide (s.stopped = false) &&
      (let vs := (if s.activeFn (s.fnOf h f) = fnKey h f then s.waitingVectors (s.fnOf h f) else []); (decide (vs = [v]) && (decide (p.d0 = false) &&
      (decide (p.pmeEnable = true))))))))))) &&
    (let s : State := up; (let d := 0; (let t := 2; (decide (s.stopped = false) && (decide (s.hasDie d = true) &&
      (decide (sparseFind? s.events.timers (d * 16 + t) = none))))))) &&
    (let s : State := tmr 30; (let d := 0; (let t := 2; (decide (s.stopped = false) && (decide (s.hasDie d = true) &&
      (let period := s.rd Od.timerPeriod (dieInst d) t;
      (match sparseFind? s.events.timers (d * 16 + t) with | some at_ => (decide (period ≠ 0)) | _ => false))))))) &&
    (let s : State := tmr 0; (let d := 0; (let t := 2; (decide (s.stopped = false) && (decide (s.hasDie d = true) &&
      (let period := s.rd Od.timerPeriod (dieInst d) t;
      (match sparseFind? s.events.timers (d * 16 + t) with | some at_ => (decide (period = 0)) | _ => false)))))))) = true := by decide +kernel

end Tables

namespace Rings

def qi : Nat := wqInst 0 3
def q1 : State := (((((up.wr Od.wqState 1 qi).wr Od.wqSize 64 qi).wr Od.wqCq 2 qi).wr Od.cqState 1 (cqInst 0 2)).wr Od.cqSize 64 (cqInst 0 2)).wr Od.wqPi 2 qi
def qk (k : Nat) : State := q1.wr Od.wqKind k qi
def dt (op table index user body : Nat) : Nat := op + 2 ^ 8 + 2 ^ 9 + table * 2 ^ 16 + index * 2 ^ 32 + user * 2 ^ 64 + body * 2 ^ 128
def dd (op user body : Nat) : Nat := dt op 0 0 user body
def tc : Nat := ((List.range 256).find? fun t => 1 < chainNeed t).getD 0
def dch : Nat := dt 0x10 tc 0 5 77 - 2 ^ 9
def ib (len port : Nat) : Nat := len * 2 ^ 64 + port * 2 ^ 80 + 3 * 2 ^ 93
def qj : State := ((qk 2).wr Od.portMode 9 (portInst 65)).wr Od.portState 2 (portInst 65)
def pb (m : Nat) : State := (((((qk 3).wr Od.poolState 1 0 2).wr Od.poolBufferSize 2048 0 2).wr Od.poolCount 16 0 2).wr Od.poolBase 4096 0 2).wr Od.poolMode m 0 2
def xb (own c : Nat) : PoolBuffer := { (pb 0).poolBuffer 2 15 with used := true, owner := own, tag := 9, count := c }
def body3 : Nat := 4096 + 15 * 2048 + 2 * 2 ^ 64 + 9 * 2 ^ 72
def ch0 (b : List Nat) : State := let s := qk 1; s.setWq 0 3 { s.wq 0 3 with chain := some { head := dch, bodies := b, start := 0 }, fetch := 1 }
def ct (last : Bool) (b : Nat) : Nat := 0x0F + (if last then 2 ^ 9 else 0) + b * 2 ^ 128
def o0 (rcv : List Nat) (acks : List (Nat × Option Status)) : TableOp :=
  { seq := 5, table := 0x30, index := 5, record := 77, delete := false, fn := 0, wq := 3, token := 1, received := rcv, acks := acks, beforeSwap := false }
def so (o : TableOp) : State := { q1 with rings := { q1.rings with ops := [o] } }
def held : State := ((qk 1).holdOp 0 3 (((qk 1).wq 0 3).fetch) false 5).1
def oall : TableOp := o0 [0, 1, 2, 3, 4, 5, 6, 7] [(0, none), (2, none), (3, none), (4, none), (5, none), (6, none), (7, none)]

theorem test_witness_Descriptors :
    ((let s : State := qk 1; (let h : Nat := 0; (let f : Nat := 0; (let w : Nat := 3; (let d : Nat := dd 0 5 0; (let desc : Option Nat := some d;
      (decide (h < 2) && (decide (f < 4) && (decide (w < 1024) && (let fn : Nat := s.fnOf h f; (decide (sparseRising none s.rings.wqs = true) &&
      (decide (s.takes fn w 0x00 desc d = true) && (decide (dLast d = true)))))))))))))) &&
    (let s : State := qk 1; (let h : Nat := 0; (let f : Nat := 0; (let w : Nat := 3; (let d : Nat := dt 0x10 0x7f 0 5 1;
      (let desc : Option Nat := some d; (let op := 0x10; (decide (h < 2) && (decide (f < 4) && (decide (w < 1024) && (let fn : Nat := s.fnOf h f;
      (decide (sparseRising none s.rings.wqs = true) && (decide ((op = 0x10 ∨ op = 0x11)) && (decide (s.takes fn w op desc d = true) &&
      (decide (opRecordSize (dTable d) = 0)))))))))))))))) &&
    (let s : State := qk 1; (let h : Nat := 0; (let f : Nat := 0; (let w : Nat := 3; (let d : Nat := dt 0x11 0x80 (2097152 + 77) 5 999;
      (let desc : Option Nat := some d; (let op := 0x11; (decide (h < 2) && (decide (f < 4) && (decide (w < 1024) && (let fn : Nat := s.fnOf h f;
      (decide (sparseRising none s.rings.wqs = true) && (let b : Nat := dBody d; (decide ((op = 0x10 ∨ op = 0x11)) &&
      (decide (s.takes fn w op desc d = true) && (let del : Bool := decide (op = 0x11); (decide (chainNeed (dTable d) = 1) &&
      (decide (dLast d = true) && (decide (tableFormOk (dTable d) (dIndex d) b del = false)))))))))))))))))))) &&
    (let s : State := (qk 1).wr Od.bootStage 2; (let h : Nat := 0; (let f : Nat := 0; (let w : Nat := 3;
      (let d : Nat := dt 0x10 0x80 (2097152 + 77) 5 999; (let desc : Option Nat := some d; (let op := 0x10; (decide (h < 2) && (decide (f < 4) &&
      (decide (w < 1024) && (let fn : Nat := s.fnOf h f; (decide (sparseRising none s.rings.wqs = true) && (let b : Nat := dBody d;
      (decide ((op = 0x10 ∨ op = 0x11)) && (decide (s.takes fn w op desc d = true) && (let del : Bool := decide (op = 0x11);
      (decide (chainNeed (dTable d) = 1) && (decide (dLast d = true) && (decide (tableFormOk (dTable d) (dIndex d) b del = true) &&
      (decide (s.rd Od.bootStage ≠ 3))))))))))))))))))))) &&
    (let s : State := qk 1; (let h : Nat := 0; (let f : Nat := 0; (let w : Nat := 3; (let d : Nat := dt 0x10 0x80 (2097152 + 2097151) 5 999;
      (let desc : Option Nat := some d; (let op := 0x10; (decide (h < 2) && (decide (f < 4) && (decide (w < 1024) && (let fn : Nat := s.fnOf h f;
      (decide (sparseRising none s.rings.wqs = true) && (let b : Nat := dBody d; (decide ((op = 0x10 ∨ op = 0x11)) &&
      (decide (s.takes fn w op desc d = true) && (let del : Bool := decide (op = 0x11); (decide (chainNeed (dTable d) = 1) &&
      (decide (dLast d = true) && (decide (tableFormOk (dTable d) (dIndex d) b del = true) && (decide (s.rd Od.bootStage = 3) &&
      (decide (dTable d = 0x80) && (decide (s.hasDie (dIndex d / 2097152) = true))))))))))))))))))))))) &&
    (let s : State := qk 1; (let h : Nat := 0; (let f : Nat := 0; (let w : Nat := 3; (let d : Nat := dt 0x10 0x64 65541 5 0;
      (let desc : Option Nat := some d; (let op := 0x10; (decide (h < 2) && (decide (f < 4) && (decide (w < 1024) && (let fn : Nat := s.fnOf h f;
      (decide (sparseRising none s.rings.wqs = true) && (let b : Nat := dBody d; (decide ((op = 0x10 ∨ op = 0x11)) &&
      (decide (s.takes fn w op desc d = true) && (let del : Bool := decide (op = 0x11); (decide (chainNeed (dTable d) = 1) &&
      (decide (dLast d = true) && (decide (tableFormOk (dTable d) (dIndex d) b del = true) && (decide (s.rd Od.bootStage = 3) &&
      (decide (dTable d = 0x64) && (decide (s.hasDie (dIndex d / 65536) = true) && (decide (badMeter b = false)))))))))))))))))))))))) &&
    (let s : State := qk 1; (let h : Nat := 0; (let f : Nat := 0; (let w : Nat := 3; (let d : Nat := dt 0x10 0x30 5 5 77;
      (let desc : Option Nat := some d; (let op := 0x10; (decide (h < 2) && (decide (f < 4) && (decide (w < 1024) && (let fn : Nat := s.fnOf h f;
      (decide (sparseRising none s.rings.wqs = true) && (let b : Nat := dBody d; (decide ((op = 0x10 ∨ op = 0x11)) &&
      (decide (s.takes fn w op desc d = true) && (let del : Bool := decide (op = 0x11); (decide (chainNeed (dTable d) = 1) &&
      (decide (dLast d = true) && (decide (tableFormOk (dTable d) (dIndex d) b del = true) && (decide (s.rd Od.bootStage = 3) &&
      (decide (dTable d ≠ 0x80) && (decide (dTable d ≠ 0x50) && (decide (dTable d ≠ 0x64)))))))))))))))))))))))) &&
    (let s : State := qk 1; (let h : Nat := 0; (let f : Nat := 0; (let w : Nat := 3; (let d : Nat := dch; (let desc : Option Nat := some d;
      (let op := 0x10; (decide (h < 2) && (decide (f < 4) && (decide (w < 1024) && (let fn : Nat := s.fnOf h f;
      (decide (sparseRising none s.rings.wqs = true) && (decide ((op = 0x10 ∨ op = 0x11)) && (decide (s.takes fn w op desc d = true) &&
      (decide (1 < chainNeed (dTable d)) && (decide (dLast d = false))))))))))))))))) &&
    (let s : State := qk 1; (let h : Nat := 0; (let f : Nat := 0; (let w : Nat := 3; (let d : Nat := dt 0x12 0x80 77 5 (64 * 1000 + 2 ^ 68);
      (let desc : Option Nat := some d; (decide (h < 2) && (decide (f < 4) && (decide (w < 1024) && (let fn : Nat := s.fnOf h f;
      (decide (sparseRising none s.rings.wqs = true) && (let b : Nat := dBody d; (decide (s.takes fn w 0x12 desc d = true) &&
      (decide (dLast d = true) && (decide (b / 2 ^ 68 % 2 ^ 60 ≠ 0)))))))))))))))) &&
    (let s : State := qk 1; (let h : Nat := 0; (let f : Nat := 0; (let w : Nat := 3; (let d : Nat := dt 0x12 0x80 (2097152 + 77) 5 64000;
      (let desc : Option Nat := some d; (decide (h < 2) && (decide (f < 4) && (decide (w < 1024) && (let fn : Nat := s.fnOf h f;
      (decide (sparseRising none s.rings.wqs = true) && (let b : Nat := dBody d; (decide (s.takes fn w 0x12 desc d = true) &&
      (decide (dLast d = true) && (decide (dTable d = 0x80) && (let i := dIndex d; (decide (i / 2097152 < 8) &&
      (decide (s.hasDie (i / 2097152) = true) && (decide (s.hasDie 0 = true) && (decide (b < 2 ^ 64) && (decide (b % 64 = 0)))))))))))))))))))))) &&
    (let s : State := qk 2; (let h : Nat := 0; (let f : Nat := 0; (let w : Nat := 3; (let d : Nat := dd 0x20 5 (ib 59 65);
      (let desc : Option Nat := some d; (decide (h < 2) && (decide (f < 4) && (decide (w < 1024) && (let fn : Nat := s.fnOf h f;
      (decide (sparseRising none s.rings.wqs = true) && (let b : Nat := dBody d; (decide (s.takes fn w 0x20 desc d = true) &&
      (decide (dLast d = true) && (decide (bits b 79 64 < 60) && (decide (bits b 91 89 = 0) && (decide (b < 2 ^ 96)))))))))))))))))) &&
    (let s : State := qj; (let h : Nat := 0; (let f : Nat := 0; (let w : Nat := 3; (let d : Nat := dd 0x20 5 (ib 60 65);
      (let desc : Option Nat := some d; (decide (h < 2) && (decide (f < 4) && (decide (w < 1024) && (let fn : Nat := s.fnOf h f;
      (decide (sparseRising none s.rings.wqs = true) && (let b : Nat := dBody d; (decide (s.takes fn w 0x20 desc d = true) &&
      (decide (dLast d = true) && (decide (60 ≤ bits b 79 64) && (decide (bits b 79 64 ≤ 10236) && (decide (bits b 91 89 = 0) &&
      (decide (b < 2 ^ 96) && (decide (bitOf b 92 = false) && (decide (s.hasDie (bits b 88 80 / 64) = true) &&
      (decide (s.portModeOf (bits b 88 80) ≠ 0) && (decide (cellsOf (bits b 79 64 + 4) ≤ s.cellsFree (bits b 88 80 / 64)))))))))))))))))))))))) &&
    (let s : State := (pb 0).setPoolBuffer 2 15 (xb 0 0); (let h : Nat := 0; (let f : Nat := 0; (let w : Nat := 3; (let d : Nat := dd 0x30 5 body3;
      (let desc : Option Nat := some d; (let i := 15; (decide (h < 2) && (decide (f < 4) && (decide (w < 1024) && (let fn : Nat := s.fnOf h f;
      (decide (sparseRising none s.rings.wqs = true) && (let b : Nat := dBody d; (let k := bits b 71 64; (let size := s.rd Od.poolBufferSize 0 k;
      (let x := s.poolBuffer k i; (decide (k < 64) && (decide (s.rd Od.poolState 0 k ≠ 0) && (decide (0 < size) &&
      (decide (i < s.rd Od.poolCount 0 k) && (decide (bits b 63 0 = s.rd Od.poolBase 0 k + i * size) && (decide (dLast d = true) &&
      (decide (b < 2 ^ 88) && (decide (x.used = true) && (decide (s.takes fn w 0x30 desc d = true) && (decide (s.rd Od.poolMode 0 k = 0) &&
      (decide (x.owner = fn) && (decide (x.tag = bits b 87 72))))))))))))))))))))))))))))) &&
    (let s : State := (pb 0).setPoolBuffer 2 15 (xb 6 0); (let h : Nat := 0; (let f : Nat := 0; (let w : Nat := 3; (let d : Nat := dd 0x30 5 body3;
      (let desc : Option Nat := some d; (let i := 15; (decide (h < 2) && (decide (f < 4) && (decide (w < 1024) && (let fn : Nat := s.fnOf h f;
      (decide (sparseRising none s.rings.wqs = true) && (let b : Nat := dBody d; (let k := bits b 71 64; (let size := s.rd Od.poolBufferSize 0 k;
      (let x := s.poolBuffer k i; (decide (k < 64) && (decide (s.rd Od.poolState 0 k ≠ 0) && (decide (0 < size) &&
      (decide (i < s.rd Od.poolCount 0 k) && (decide (bits b 63 0 = s.rd Od.poolBase 0 k + i * size) && (decide (dLast d = true) &&
      (decide (b < 2 ^ 88) && (decide (x.used = true) && (decide (s.takes fn w 0x30 desc d = true) && (decide (s.rd Od.poolMode 0 k = 0) &&
      (decide (x.owner ≠ fn)))))))))))))))))))))))))))) &&
    (let s : State := (pb 1).setPoolBuffer 2 15 (xb 0 1); (let h : Nat := 0; (let f : Nat := 0; (let w : Nat := 3; (let d : Nat := dd 0x31 5 body3;
      (let desc : Option Nat := some d; (let i := 15; (decide (h < 2) && (decide (f < 4) && (decide (w < 1024) && (let fn : Nat := s.fnOf h f;
      (decide (sparseRising none s.rings.wqs = true) && (let b : Nat := dBody d; (let k := bits b 71 64; (let size := s.rd Od.poolBufferSize 0 k;
      (let x := s.poolBuffer k i; (decide (k < 64) && (decide (s.rd Od.poolState 0 k ≠ 0) && (decide (0 < size) &&
      (decide (i < s.rd Od.poolCount 0 k) && (decide (bits b 63 0 = s.rd Od.poolBase 0 k + i * size) && (decide (dLast d = true) &&
      (decide (b < 2 ^ 88) && (decide (x.used = true) && (decide (s.takes fn w 0x31 desc d = true) &&
      (decide (s.rd Od.poolMode 0 k = 1)))))))))))))))))))))))))))) = true := by decide +kernel

theorem test_witness_QueueRows :
    ((let s : State := q1; (let h := 0; (let f := 0; (let w := 3; (let value := 64; (decide (s.stopped = false) && (decide (h < 2) && (decide (f < 4) &&
      (decide (w < 1024) && (let fn := s.fnOf h f; (decide (s.hostUp = true) && (let i := wqInst fn w; (let n := s.rd Od.wqSize i;
      (let ci := s.rd Od.wqCi i; (decide (value < 2 * n) && (decide (ringDiff n (s.rd Od.wqPi i) ci ≤ ringDiff n value ci) &&
      (decide (ringDiff n value ci ≤ n)))))))))))))))))) &&
    (let s : State := q1; (let h := 0; (let f := 0; (let w := 3; (let value := 128; (decide (s.stopped = false) && (decide (h < 2) &&
      (decide (f < 4) && (decide (w < 1024) && (let fn := s.fnOf h f; (decide (s.hostUp = true) && (let i := wqInst fn w; (let n := s.rd Od.wqSize i;
      (let ci := s.rd Od.wqCi i;
      (decide (2 * n ≤ value ∨ n < ringDiff n value ci ∨ ringDiff n value ci < ringDiff n (s.rd Od.wqPi i) ci)))))))))))))))) &&
    (let s : State := (q1.wr Od.cqPi 4 (cqInst 0 2)).wr Od.cqCi 3 (cqInst 0 2); (let h := 0; (let f := 0; (let w := 2; (let value := 4;
      (decide (s.stopped = false) && (decide (h < 2) && (decide (f < 4) && (decide (w < 1024) && (let fn := s.fnOf h f; (decide (s.hostUp = true) &&
      (let i := cqInst fn w; (let n := s.rd Od.cqSize i; (decide (value < 2 * n) && (decide (value < 2 ^ 31) &&
      (decide (ringDiff n (s.rd Od.cqPi i) value ≤ ringDiff n (s.rd Od.cqPi i) (s.rd Od.cqCi i)) &&
      (decide (s.rd Od.cqPi i = value)))))))))))))))))) &&
    (let s : State := q1.wr Od.cqPi 4 (cqInst 0 2); (let h := 0; (let f := 0; (let w := 2; (let value := 3; (decide (s.stopped = false) &&
      (decide (h < 2) && (decide (f < 4) && (decide (w < 1024) && (let fn := s.fnOf h f; (decide (s.hostUp = true) && (let i := cqInst fn w;
      (let n := s.rd Od.cqSize i; (decide (value < 2 * n) && (decide (value < 2 ^ 31) &&
      (decide (ringDiff n (s.rd Od.cqPi i) value ≤ ringDiff n (s.rd Od.cqPi i) (s.rd Od.cqCi i)) &&
      (decide (s.rd Od.cqPi i ≠ value)))))))))))))))))) &&
    (let s : State := q1; (let h := 0; (let f := 0; (let w := 2; (let value := 128; (decide (s.stopped = false) && (decide (h < 2) &&
      (decide (f < 4) && (decide (w < 1024) && (let fn := s.fnOf h f; (decide (s.hostUp = true) && (let i := cqInst fn w; (let n := s.rd Od.cqSize i;
      (decide (2 * n ≤ value % 2 ^ 31 ∨ 2 ^ 32 ≤ value ∨ ringDiff n (s.rd Od.cqPi i) (s.rd Od.cqCi i) < ringDiff n (s.rd Od.cqPi i) (value % 2 ^ 31)))))))))))))))) &&
    (let s : State := q1.wr Od.wqPi 64 qi; (let h := 0; (let f := 0; (let w := 3; (let bytes := List.replicate 64 7; (decide (s.stopped = false) &&
      (decide (h < 2) && (decide (f < 4) && (decide (w < 1024) && (let fn := s.fnOf h f; (decide (s.hostUp = true) && (decide (bytes.length = 64) &&
      (let i := wqInst fn w; (let n := s.rd Od.wqSize i; (let pi := s.rd Od.wqPi i;
      (decide (n < ringDiff n (pi + 1) (s.rd Od.wqCi i)))))))))))))))))) &&
    (let s : State := q1; (let h := 0; (let f := 0; (let w := 3; (let bytes := List.replicate 64 7; (decide (s.stopped = false) && (decide (h < 2) &&
      (decide (f < 4) && (decide (w < 1024) && (let fn := s.fnOf h f; (decide (s.hostUp = true) && (decide (bytes.length = 64) &&
      (let i := wqInst fn w; (let n := s.rd Od.wqSize i; (let pi := s.rd Od.wqPi i;
      (decide (ringDiff n (pi + 1) (s.rd Od.wqCi i) ≤ n))))))))))))))))) &&
    (let s : State := ch0 []; (let h := 0; (let f := 0; (let w := 3; (let d := ct false 9; (let desc := some d;
      (let c := { head := dch, bodies := [], start := 0 }; (decide (s.stopped = false) && (decide (h < 2) && (decide (f < 4) && (decide (w < 1024) &&
      (let fn := s.fnOf h f; (decide (s.hostUp = true) && (let q := s.wq fn w; (decide (q.chain = some c) && (decide (s.fetches fn w = true) &&
      (decide (s.mustWait fn w 0x0F = false) && (decide ((s.peekDesc fn w desc).word = d) && (decide ((s.peekDesc fn w desc).sound = true) &&
      (decide (dOp d = 0x0F) && (decide (dFirst d = false) && (decide (contOk d = true) && (decide (sparseRising none s.rings.wqs = true) &&
      (decide (dLast d = false) && (decide (c.bodies.length + 1 ≠ chainNeed (dTable c.head))))))))))))))))))))))))))) &&
    (let s : State := ch0 [1, 2, 3]; (let h := 0; (let f := 0; (let w := 3; (let d := ct true 9; (let desc := some d;
      (let c := { head := dch, bodies := [1, 2, 3], start := 0 }; (decide (s.stopped = false) && (decide (h < 2) && (decide (f < 4) &&
      (decide (w < 1024) && (let fn := s.fnOf h f; (decide (s.hostUp = true) && (let q := s.wq fn w; (decide (q.chain = some c) &&
      (decide (s.fetches fn w = true) && (decide (s.mustWait fn w 0x0F = false) && (decide ((s.peekDesc fn w desc).word = d) &&
      (decide ((s.peekDesc fn w desc).sound = true) && (decide (dOp d = 0x0F) && (decide (dFirst d = false) && (decide (contOk d = true) &&
      (decide (sparseRising none s.rings.wqs = true) && (decide (dLast d = true) &&
      (decide (c.bodies.length + 1 = chainNeed (dTable c.head))))))))))))))))))))))))))) &&
    (let s : State := ch0 [1, 2]; (let h := 0; (let f := 0; (let w := 3; (let d := ct true 9; (let desc := some d;
      (let c := { head := dch, bodies := [1, 2], start := 0 }; (decide (s.stopped = false) && (decide (h < 2) && (decide (f < 4) &&
      (decide (w < 1024) && (let fn := s.fnOf h f; (decide (s.hostUp = true) && (let q := s.wq fn w; (decide (q.chain = some c) &&
      (decide (s.fetches fn w = true) && (decide (s.mustWait fn w 0x0F = false) && (decide ((s.peekDesc fn w desc).word = d) &&
      (decide ((s.peekDesc fn w desc).sound = true) && (decide (dOp d = 0x0F) && (decide (dFirst d = false) && (decide (contOk d = true) &&
      (decide (sparseRising none s.rings.wqs = true) && (decide (dLast d = true) &&
      (decide (c.bodies.length + 1 ≠ chainNeed (dTable c.head))))))))))))))))))))))))))) &&
    (let s : State := qk 1; (let h := 0; (let f := 0; (let w := 3; (let d := ct true 9; (let desc := some d; (decide (s.stopped = false) &&
      (decide (h < 2) && (decide (f < 4) && (decide (w < 1024) && (let fn := s.fnOf h f; (decide (s.hostUp = true) &&
      (decide (s.fetches fn w = true) && (decide (s.mustWait fn w 0x0F = false) && (decide ((s.wq fn w).chain = none) &&
      (decide ((s.peekDesc fn w desc).word = d) && (decide ((s.peekDesc fn w desc).sound = true) && (decide (dOp d = 0x0F) &&
      (decide (sparseRising none s.rings.wqs = true)))))))))))))))))))) &&
    (let s : State := q1; (let h := 0; (let f := 0; (let w := 3; (decide (s.stopped = false) && (decide (h < 2) && (decide (f < 4) &&
      (decide (w < 1024) && (let fn := s.fnOf h f; (decide (s.hostUp = true) && (let i := wqInst fn w; (let st := s.rd Od.wqState i;
      (decide (st ≠ 2) && (decide (st ≠ 3))))))))))))))) &&
    (let s : State := held; (let h := 0; (let f := 0; (let w := 3; (decide (s.stopped = false) && (decide (h < 2) && (decide (f < 4) &&
      (decide (w < 1024) && (let fn := s.fnOf h f; (decide (s.hostUp = true) && (decide ((s.wq fn w).inflight ≠ [])))))))))))) &&
    (let s : State := q1.wr Od.wqState 2 qi; (let h := 0; (let f := 0; (let w := 3; (decide (s.stopped = false) && (decide (h < 2) &&
      (decide (f < 4) && (decide (w < 1024) && (let fn := s.fnOf h f; (decide (s.hostUp = true) && (let i := wqInst fn w;
      (let st := s.rd Od.wqState i; (decide ((s.wq fn w).inflight = []) && (decide ((s.wq fn w).doneTo = s.rd Od.wqCi i) &&
      (decide (st = 2)))))))))))))))) &&
    (let s : State := q1.wr Od.wqState 3 qi; (let h := 0; (let f := 0; (let w := 3; (decide (s.stopped = false) && (decide (h < 2) &&
      (decide (f < 4) && (decide (w < 1024) && (let fn := s.fnOf h f; (decide (s.hostUp = true) && (let i := wqInst fn w;
      (let st := s.rd Od.wqState i; (decide ((s.wq fn w).inflight = []) && (decide ((s.wq fn w).doneTo = s.rd Od.wqCi i) &&
      (decide (st = 3)))))))))))))))) &&
    (let s : State := so (o0 [] []); (let d := 1; (decide (s.stopped = false) && (decide (s.hasDie d = true) &&
      (match s.rings.ops with | [o] => (decide (d ∉ o.received)) | _ => false))))) &&
    (let s : State := so (o0 [] []); (let d := 1; (let seq := 6; (decide (s.stopped = false) && (decide (s.hasDie d = true) &&
      (match s.rings.ops with | [o] => (decide (seq ≠ o.seq ∨ d ∈ o.received)) | _ => false)))))) &&
    (let s : State := so (o0 [] []); (let d := 1; (let seq := 5; (decide (s.stopped = false) && (decide (s.hasDie d = true) &&
      (match s.rings.ops with | [o] => (decide (seq ≠ o.seq ∨ d ∉ o.received)) | _ => false)))))) &&
    (let s : State := so (o0 [1] []); (let d := 1; (decide (s.stopped = false) && (decide (s.hasDie d = true) &&
      (match s.rings.ops with | [o] => (decide ((∀ a ∈ o.acks, a.1 ≠ d)) && (decide (d ∈ o.received) && (decide ((∃ e ∈ s.part.dies, e ≠ d ∧ s.isFenced e = false ∧ ∀ a ∈ o.acks, a.1 ≠ e))))) | _ => false))))) &&
    (let s : State := so oall; (let d := 1; (decide (s.stopped = false) && (decide (s.hasDie d = true) &&
      (match s.rings.ops with | [o] => (decide ((∀ a ∈ o.acks, a.1 ≠ d)) && (decide (d ∈ o.received) && (decide ((∀ e ∈ s.part.dies, e = d ∨ s.isFenced e = true ∨ ∃ a ∈ o.acks, a.1 = e))))) | _ => false)))))) = true := by decide +kernel

end Rings

namespace Reports

def quiet : State := ((((up.wr Od.faultReaction 0 0 9).wr Od.faultReaction 0 0 0x15).wr Od.faultReaction 0 0 0x11).wr Od.faultReaction 0 0 0x12).wr Od.faultReaction 0 0 0x14
def e1 : FaultError := { die := 1, source := 9, cls := 0, location := 5, detail0 := 1, detail1 := 2, spareUsed := false, repairing := false }
def recOf (s : State) (e : FaultError) : FaultRecord :=
  { seq := s.recov.seq + 1, time := 0, die := e.die, cls := e.cls, spareUsed := e.spareUsed, reacted := 0, overflowBefore := false, source := e.source, merged := 255,
    location := e.location, detail0 := e.detail0, detail1 := e.detail1, last := s.up, lastTime := s.nanoseconds, isOpen := true, repairing := e.repairing }
def s1i : State := quiet.wr Od.faultReaction (1 * 256 ^ 2 + 16 * 256) 0 9
def m1 : State := { quiet with recov := { quiet.recov with log := [recOf quiet e1] } }
def full : State := { quiet with recov := { quiet.recov with log := (List.range 16).map fun k => recOf quiet { e1 with location := 100 + k } } }
def rp : State := { quiet with recov := { quiet.recov with log := [recOf quiet { e1 with repairing := true }] } }
def pp : State := quiet.wr Od.pciePairing 1
def mo : List Nat := List.replicate 12 100
def cw : State := ((((up.wr Od.cwinFunctionEnable 2).wr Od.cwinCount 256 65536 255).wr Od.cwinDie 1 65536 255).wr Od.cwinBase 70 65536 255).setCounter 1 325 555
def bw : State := ({ up with time := { up.time with now := 2 * 10 ^ 9 * 65536 } } : State).bwCount 70 1000 false
def sd : State := ({ up with ctrs := { up.ctrs with samples := [(2, [(77, 5), (78, 6)])] } } : State).wr Od.cqSize 64 (cqInst 0 2)
def sd2 : State := let s := sd.wr Od.sampleRing 2 (dieInst 2); s.wr Od.sampleBuffered 2 (dieInst 2)

theorem test_witness_FaultRecords :
    ((let s : State := quiet; (let e : FaultError := e1; (decide (s.stopped = false) && (decide (s.hasDie e.die = true) &&
      (decide (e.source ≠ 0x0D ∨ e.cls ≠ 2)))))) &&
    (let s : State := quiet; (let e : FaultError := { e1 with source := 0x0D, cls := 2 }; (decide (s.stopped = false) &&
      (decide (s.hasDie e.die = true) && (decide (e.source = 0x0D) && (decide (e.cls = 2))))))) &&
    (let s : State := s1i; (let e : FaultError := { e1 with cls := 2 }; (decide (s.stopped = false) && (decide (s.rd Od.powerState ≠ 2) &&
      (let held : List FaultRecord := (s.recov.log.map fun r => { r with isOpen := r.isOpen &&
      (r.repairing || decide (s.up < r.last + s.rd Od.faultMergeWindow * 1000)) });
      (let c : State := { s with recov := { s.recov with log := held } }; (decide ((∀ r ∈ c.recov.log, r.sameFault e = false)) &&
      (decide ((c.recov.log.filter fun r => r.isOpen && r.die = e.die).length < 16))))))))) &&
    (let s : State := m1; (let e : FaultError := e1; (let r := recOf quiet e1; (decide (s.stopped = false) && (decide (s.rd Od.powerState ≠ 2) &&
      (let held : List FaultRecord := (s.recov.log.map fun r => { r with isOpen := r.isOpen &&
      (r.repairing || decide (s.up < r.last + s.rd Od.faultMergeWindow * 1000)) });
      (let c : State := { s with recov := { s.recov with log := held } }; (decide ((c.recov.log.find? fun x => x.sameFault e) = some r))))))))) &&
    (let s : State := full; (let e : FaultError := e1; (decide (s.stopped = false) && (decide (s.rd Od.powerState ≠ 2) &&
      (let held : List FaultRecord := (s.recov.log.map fun r => { r with isOpen := r.isOpen &&
      (r.repairing || decide (s.up < r.last + s.rd Od.faultMergeWindow * 1000)) });
      (let c : State := { s with recov := { s.recov with log := held } }; (decide ((∀ r ∈ c.recov.log, r.sameFault e = false)) &&
      (decide (16 ≤ (c.recov.log.filter fun r => r.isOpen && r.die = e.die).length))))))))) &&
    (let s : State := quiet; (decide (s.stopped = false))) &&
    (let s : State := quiet; (let d := 1; (decide (s.stopped = false) && (decide (s.hasDie d = true) && (decide (s.rd Od.powerState ≠ 2) &&
      (decide (s.reactionMask 0x15 1 = 0))))))) &&
    (let s : State := rp; (let d := 1; (decide (s.stopped = false) && (decide (s.hasDie d = true))))) &&
    (let s : State := ({ quiet with recov := { quiet.recov with fenced := [3] } } : State); (let d := 3; (decide (s.stopped = false) &&
      (decide (s.hasDie d = true) && (decide (d ∈ s.recov.fenced)))))) &&
    (let s : State := quiet; (let d := 3; (decide (s.stopped = false) && (decide (s.hasDie d = true) && (decide (d ∉ s.recov.fenced)))))) &&
    (let s : State := quiet.wr Od.portState 2 (portInst 255); (let d := 3; (let i := 63; (decide (s.stopped = false) && (decide (s.hasDie d = true) &&
      (decide (s.sound = true) && (decide (i < 64)))))))) &&
    (let s : State := ({ quiet with recov := { quiet.recov with pin := true } } : State); (decide (s.stopped = false) &&
      (decide (s.recov.pin = true)))) &&
    (let s : State := ({ quiet with recov := { quiet.recov with lampRunning := true } } : State).wr Od.lampState 1; (decide (s.stopped = false) &&
      (decide (s.recov.pin = false) && (decide (s.recov.lampRunning = true) && (decide (s.rd Od.lampState ≠ 3)))))) &&
    (let s : State := ({ quiet with recov := { quiet.recov with lampRunning := false } } : State); (decide (s.stopped = false) &&
      (decide (s.recov.pin = false) && (decide (s.recov.lampRunning = false ∨ s.rd Od.lampState = 3))))) &&
    (let s : State := ({ quiet with recov := { quiet.recov with lampRunning := true }, time := { quiet.time with up := 10 ^ 20 } } : State).wr Od.lampState 1;
      (decide (s.stopped = false) && (let limit := s.recov.lampRefreshed + max (s.rd Od.lampPeriod) 200 * 1000000;
      (decide (s.recov.lampRunning = true) && (decide (s.lampAlone = false) && (decide (limit ≤ s.up))))))) &&
    (let s : State := quiet; (decide (s.stopped = false) && (let limit := s.recov.lampRefreshed + max (s.rd Od.lampPeriod) 200 * 1000000;
      (decide (s.recov.lampRunning = false ∨ s.lampAlone = true ∨ s.up < limit)))))) = true := by decide +kernel

theorem test_witness_SpareRows :
    ((let s : State := up; (let d := 2; (let cls := 1; (let group := 3; (let unit := 1; (decide (s.stopped = false) && (decide (s.hasDie d = true) &&
      (decide (s.spareState cls d group unit = 0))))))))) &&
    (let s : State := up.setSpare 1 2 3 1 2; (let d := 2; (let cls := 1; (let group := 3; (let unit := 1; (decide (s.stopped = false) &&
      (decide (s.hasDie d = true) && (decide (s.spareState cls d group unit ≠ 0))))))))) &&
    (let s : State := up.setSpare 1 2 3 1 2; (let d := 2; (let cls := 1; (let group := 3; (let unit := 1; (decide (s.stopped = false) &&
      (decide (s.hasDie d = true) && (decide (s.spareState cls d group unit = 2))))))))) &&
    (let s : State := up; (let d := 2; (let cls := 1; (let group := 3; (let unit := 1; (decide (s.stopped = false) && (decide (s.hasDie d = true) &&
      (decide (s.spareState cls d group unit ≠ 2))))))))) &&
    (let s : State := up.wr Od.sparePipelineClaim 3 (dieInst 2); (let d := 2; (decide (s.stopped = false) && (decide (s.hasDie d = true) &&
      (decide (s.rd Od.sparePipelineClaim (dieInst d) = 3)))))) &&
    (let s : State := up; (let d := 2; (decide (s.stopped = false) && (decide (s.hasDie d = true) &&
      (decide (s.rd Od.sparePipelineClaim (dieInst d) ≠ 3)))))) &&
    (let s : State := quiet; (let d := 2; (let core := 1; (let unit := 1; (let cause := 7; (decide (s.stopped = false) &&
      (decide (s.hasDie d = true) && (decide (core < 5) &&
      (decide (unit = (if s.rdOctet Od.keeperCoreState (dieInst d) 0 core = 4 then 4 else core)) &&
      (let t : State := (if unit < 4 ∧ s.rdOctet Od.keeperCoreState (dieInst d) 0 4 < 3 then s.faultSpare d 0x11 1 core cause else s.fault d 0x11 (if core < 4 then 3 else 1) core cause);
      (decide (t.coreUnit d core = unit)))))))))))) &&
    (let s : State := up.wr Od.faultReaction (256 * 2) 0 0x11; (let d := 2; (let core := 1; (let unit := 1; (let cause := 7;
      (decide (s.stopped = false) && (decide (s.hasDie d = true) && (decide (core < 5) &&
      (decide (unit = (if s.rdOctet Od.keeperCoreState (dieInst d) 0 core = 4 then 4 else core)) &&
      (let t : State := (if unit < 4 ∧ s.rdOctet Od.keeperCoreState (dieInst d) 0 4 < 3 then s.faultSpare d 0x11 1 core cause else s.fault d 0x11 (if core < 4 then 3 else 1) core cause);
      (decide (t.coreUnit d core ≠ unit)))))))))))) &&
    (let s : State := (quiet.wrOctet Od.keeperCoreState (dieInst 2) 0 1 4).wrOctet Od.keeperCoreState (dieInst 2) 0 4 4; (let d := 2; (let core := 1;
      (let unit := 4; (decide (s.stopped = false) && (decide (s.hasDie d = true) && (decide (core < 5) &&
      (decide (unit = (if s.rdOctet Od.keeperCoreState (dieInst d) 0 core = 4 then 4 else core)) &&
      (decide (s.rdOctet Od.keeperCoreState (dieInst d) 0 unit = 4)))))))))) &&
    (let s : State := quiet; (let d := 2; (let core := 1; (let unit := 1; (decide (s.stopped = false) && (decide (s.hasDie d = true) &&
      (decide (core < 5) && (decide (unit = (if s.rdOctet Od.keeperCoreState (dieInst d) 0 core = 4 then 4 else core)) &&
      (decide (s.rdOctet Od.keeperCoreState (dieInst d) 0 unit ≠ 4) && (let u : State := s.wrOctet Od.keeperCoreState (dieInst d) 0 unit 4;
      (let v : State := (if unit < 4 ∧ u.rdOctet Od.keeperCoreState (dieInst d) 0 4 < 3 then (({ u with recov := { u.recov with replaced := sparsePut u.recov.replaced (spareKey 9 d 0 core) 4 } } : State).wrOctet Od.keeperCoreState (dieInst d) 0 4 3).fire d 0x175 else u);
      (let w : State := (v.retire 9 d 0 unit 0x11).handCore (d * 8 + core); (decide (w.rd Od.leadDie ≠ d ∨ w.coresOut d < 2)))))))))))))) &&
    (let s : State := quiet.wrOctet Od.keeperCoreState (dieInst 0) 0 0 4; (let d := 0; (let core := 1; (let unit := 1; (decide (s.stopped = false) &&
      (decide (s.hasDie d = true) && (decide (core < 5) &&
      (decide (unit = (if s.rdOctet Od.keeperCoreState (dieInst d) 0 core = 4 then 4 else core)) &&
      (decide (s.rdOctet Od.keeperCoreState (dieInst d) 0 unit ≠ 4) && (let u : State := s.wrOctet Od.keeperCoreState (dieInst d) 0 unit 4;
      (let v : State := (if unit < 4 ∧ u.rdOctet Od.keeperCoreState (dieInst d) 0 4 < 3 then (({ u with recov := { u.recov with replaced := sparsePut u.recov.replaced (spareKey 9 d 0 core) 4 } } : State).wrOctet Od.keeperCoreState (dieInst d) 0 4 3).fire d 0x175 else u);
      (let w : State := (v.retire 9 d 0 unit 0x11).handCore (d * 8 + core); (decide (w.rd Od.leadDie = d) &&
      (decide (2 ≤ w.coresOut d))))))))))))))) &&
    (let s : State := quiet.setSpare 10 2 0 0 4; (let d := 2; (let pll := 0; (decide (s.stopped = false) && (decide (s.hasDie d = true) &&
      (decide (pll < 2) && (decide (s.spareState 10 d 0 pll = 4)))))))) &&
    (let s : State := quiet.setSpare 10 2 0 1 4; (let d := 2; (let pll := 0; (decide (s.stopped = false) && (decide (s.hasDie d = true) &&
      (decide (pll < 2) && (let u := s.setSpare 10 d 0 pll 4; (decide (s.spareState 10 d 0 pll ≠ 4) &&
      (decide (u.spareState 10 d 0 (1 - pll) = 4)))))))))) &&
    (let s : State := quiet; (let d := 2; (let pll := 1; (decide (s.stopped = false) && (decide (s.hasDie d = true) && (decide (pll < 2) &&
      (let u := s.setSpare 10 d 0 pll 4; (decide (s.spareState 10 d 0 pll ≠ 4) && (decide (u.spareState 10 d 0 (1 - pll) ≠ 4) &&
      (decide (s.rd Od.pllInUse (dieInst d) ≠ pll))))))))))) &&
    (let s : State := quiet; (let d := 2; (let pll := 0; (decide (s.stopped = false) && (decide (s.hasDie d = true) && (decide (pll < 2) &&
      (let u := s.setSpare 10 d 0 pll 4; (decide (s.spareState 10 d 0 pll ≠ 4) && (decide (u.spareState 10 d 0 (1 - pll) ≠ 4) &&
      (decide (s.rd Od.pllInUse (dieInst d) = pll))))))))))) &&
    (let s : State := ({ quiet with recov := { quiet.recov with fenced := [quiet.part.secondHost] } } : State); (decide (s.stopped = false) &&
      (let new := (if s.rd Od.leadDie = 0 then s.part.secondHost else 0); (decide (new ∈ s.recov.fenced))))) &&
    (let s : State := quiet; (decide (s.stopped = false) && (let new := (if s.rd Od.leadDie = 0 then s.part.secondHost else 0);
      (decide (new ∉ s.recov.fenced))))) &&
    (let s : State := quiet; (let h := 0; (let f := 1; (decide (s.stopped = false) && (decide (h < 2) && (decide (f < 4) &&
      (decide (s.rd Od.pciePairing ≠ 1 ∨ s.spareState 11 0 0 (1 - h) = 4)))))))) &&
    (let s : State := pp; (let h := 0; (let f := 1; (let aer := 7; (let address := 9; (decide (s.stopped = false) && (decide (h < 2) &&
      (decide (f < 4) && (decide (s.rd Od.pciePairing = 1) && (decide (s.spareState 11 0 0 (1 - h) ≠ 4) &&
      (let u : State := s.faultSpare (s.hostDie h) 0x14 1 (fnKey h f) aer (low 32 address);
      (decide (u.rd Od.pcieActiveDie = s.hostDie h))))))))))))) &&
    (let s : State := pp; (let h := 1; (let f := 3; (let aer := 7; (let address := 9; (decide (s.stopped = false) && (decide (h < 2) &&
      (decide (f < 4) && (decide (s.rd Od.pciePairing = 1) && (decide (s.spareState 11 0 0 (1 - h) ≠ 4) &&
      (let u : State := s.faultSpare (s.hostDie h) 0x14 1 (fnKey h f) aer (low 32 address); (decide (u.rd Od.pcieActiveDie ≠ s.hostDie h)))))))))))))) = true := by decide +kernel

theorem test_witness_CounterRows :
    ((let s : State := up; (let months : List Nat := mo; (decide (s.stopped = false) &&
      (let m : List Nat := ((List.range 12).map fun c => min 0xFFFF (months.getD c 0xFFFF));
      (((List.range (12)).all fun c => decide ((24 ≤ m.getD c 0 ∨ s.rd Od.wearForecast / 65536 ^ (11 - c) % 65536 < 24) ∧ (s.recov.forecastAt.getD c 0 < 2 * m.getD c 0 ∨ s.recov.forecastAt.getD c 0 ≤ m.getD c 0)))))))) &&
    (let s : State := ({ up with recov := { up.recov with forecastAt := List.replicate 12 300 } } : State); (let months : List Nat := mo;
      (decide (s.stopped = false) && (let m : List Nat := ((List.range 12).map fun c => min 0xFFFF (months.getD c 0xFFFF));
      ((List.range 12).any fun c => (m.getD c 0 < 24 &&
      24 ≤ s.rd Od.wearForecast / 65536 ^ (11 - c) % 65536) || (2 * m.getD c 0 ≤ s.recov.forecastAt.getD c 0 &&
      m.getD c 0 < s.recov.forecastAt.getD c 0)))))) &&
    (let s : State := ({ up with recov := { up.recov with samples := List.replicate 179 [1] } } : State); (let d := 2; (decide (s.stopped = false) &&
      (decide (s.hasDie d = true) && (decide (s.recov.samples.length < 180)))))) &&
    (let s : State := ({ up with recov := { up.recov with samples := List.replicate 180 [1] } } : State); (let d := 2; (decide (s.stopped = false) &&
      (decide (s.hasDie d = true) && (decide (180 ≤ s.recov.samples.length)))))) &&
    (let s : State := up; (let h := 1; (let f := 3; (let w := 255; (let j := 255; (decide (s.stopped = false) && (decide (h < 2) && (decide (f < 4) &&
      (decide (w < 256) && (decide (j < 256) && (let fn := s.fnOf h f; (let i := fn * 65536;
      (decide (bitOf (s.rd Od.cwinFunctionEnable) fn = false ∨ s.rd Od.cwinCount i w ≤ j)))))))))))))) &&
    (let s : State := cw; (let h := 0; (let f := 1; (let w := 255; (let j := 255; (decide (s.stopped = false) && (decide (h < 2) && (decide (f < 4) &&
      (decide (w < 256) && (decide (j < 256) && (let fn := s.fnOf h f; (let i := fn * 65536; (decide (bitOf (s.rd Od.cwinFunctionEnable) fn = true) &&
      (decide (j < s.rd Od.cwinCount i w))))))))))))))) &&
    (let s : State := ({ bw with ctrs := { bw.ctrs with bwFrom := 2 * 10 ^ 9, bwOld := (7, 11) } } : State); (let n := 70;
      (decide (s.stopped = false) && (decide (n < 512) && (decide (s.hasDie (n / 64) = true) && (decide (s.bwEnded = none))))))) &&
    (let s : State := bw; (let n := 70; (decide (s.stopped = false) && (decide (n < 512) && (decide (s.hasDie (n / 64) = true) &&
      (match s.bwEnded with | some (stop, tick, ticks) => (decide (s.ctrs.stepAt = none ∨ (∃ a, s.ctrs.stepAt = some a ∧ a + tick * ticks * 1000 ≤ stop)) && (decide (s.ctrs.stepAt = none))) | _ => false)))))) &&
    (let s : State := ({ bw with ctrs := { bw.ctrs with stepAt := some 1999999999 } } : State); (let n := 70; (decide (s.stopped = false) &&
      (decide (n < 512) && (decide (s.hasDie (n / 64) = true) &&
      (match s.bwEnded with | some (stop, tick, ticks) => (match s.ctrs.stepAt with | some a => (decide (stop < a + tick * ticks * 1000)) | _ => false) | _ => false)))))) &&
    (let s : State := up; (let d := 2; (decide (s.stopped = false) && (decide (s.hasDie d = true) &&
      (decide (sparseGet (fun _ => []) s.ctrs.samples d = [])))))) &&
    (let s : State := sd; (let d := 2; (decide (s.stopped = false) && (decide (s.hasDie d = true) && (let i := dieInst d;
      (let c := s.rd Od.sampleRing i; (let fn := s.cqOwnerOf Od.sampleRing i; (decide (c = 0xFFFF ∨ s.cqFull fn c = true))))))))) &&
    (let s : State := sd2; (let d := 2; (decide (s.stopped = false) && (decide (s.hasDie d = true) && (let i := dieInst d;
      (let c := s.rd Od.sampleRing i; (let fn := s.cqOwnerOf Od.sampleRing i;
      (match sparseGet (fun _ => []) s.ctrs.samples d with | (record, seq) :: rest => (decide (c ≠ 0xFFFF) && (decide (s.cqFull fn c = false))) | _ => false))))))))) = true := by decide +kernel

end Reports

end Sys2Proof.Tests
end

section
/-! PROOFS. The stored responses of critical requests (R13, R339): check 5 on a counter that is not fresh, and the critical request of a function. -/

namespace Sys2Proof.Machine

section
variable {s : State} {r : Req}

/-! Check 5. -/

/-- A repeat of the last accepted request of a slot is answered with the stored result. -/
theorem judgeCounter_repeat {j : Job} {x : StoredResponse} (hx : sparseFind? s.dict.live.stored j.slot = some x)
    (hc : j.counter = s.counterLast j.slot) (ho : j.ops = [x.op]) : s.judgeCounter j = some (.ok, some x.result) := by
  simp [State.judgeCounter, hx, hc, ho]

/-- A counter that is not fresh is STALE_COUNTER on any request but that repeat. -/
theorem judgeCounter_stale {j : Job} {x : StoredResponse} (hx : sparseFind? s.dict.live.stored j.slot = some x)
    (hc : j.counter < s.counterLast j.slot ∨ (j.counter = s.counterLast j.slot ∧ j.ops ≠ [x.op])) :
    s.judgeCounter j = some (.staleCounter, none) := by
  have hle : ¬ s.counterLast j.slot < j.counter := by omega
  have hne : ¬ (j.counter = s.counterLast j.slot ∧ j.ops = [x.op]) := by
    rintro ⟨heq, hop⟩
    rcases hc with hlt | ⟨-, hop'⟩
    · omega
    · exact hop' hop
  simp [State.judgeCounter, hle, hx, hne]

/-- A request that check 5 does not pass is answered and goes no further. -/
theorem addCritical_of_judgeCounter {j : Job} {v : Status × Option OpResult} (h : s.judgeCounter j = some v) :
    s.addCritical j = s.answerCounter j v := by
  simp [State.addCritical, h]

/-- A repeat is answered with the stored result, and its operation does not run. -/
theorem addCritical_repeat {j : Job} {x : StoredResponse} (hx : sparseFind? s.dict.live.stored j.slot = some x)
    (hc : j.counter = s.counterLast j.slot) (ho : j.ops = [x.op]) :
    s.addCritical j = (s.bump Od.repeatsAnswered).finishJob { j with ops := [], done := [(x.op, x.result)] } .ok := by
  rw [addCritical_of_judgeCounter (judgeCounter_repeat hx hc ho)]
  simp [State.answerCounter, ho]

/-- A stale request is answered so. -/
theorem addCritical_stale {j : Job} {x : StoredResponse} (hx : sparseFind? s.dict.live.stored j.slot = some x)
    (hc : j.counter < s.counterLast j.slot ∨ (j.counter = s.counterLast j.slot ∧ j.ops ≠ [x.op])) :
    s.addCritical j = (s.bump Od.staleCounters).finishJob j .staleCounter := by
  rw [addCritical_of_judgeCounter (judgeCounter_stale hx hc)]
  rfl

/-! Critical requests of functions. -/

/-- The sessions of functions. -/
theorem isFunction_iff (y : Session) : isFunction y = true ↔ ∃ h f, h < 2 ∧ f < 4 ∧ y = .pcie h f := by
  cases y <;> simp [isFunction]

/-- A critical request of a function that passes check 4 comes to check 5, whatever its counter and whatever stands in the queue. -/
theorem row_to_addCritical (o : DictOp) (k : Nat) (hlen : o.len ≤ 1376) (hrun : s.stopped = false) (hup : s.hostUp = true)
    (hslot : r.keySlot = some k) (hk : k < 8) (hcrit : r.critical = true) (hf : isFunction r.session = true)
    (ha : s.authentic true true k (rowHeader false r (requestRecord false o).length ++ requestRecord false o) (beBytes 16 r.check) = true) :
    s.row r o = .next (s.addCritical (critJobOf s r o k)) := by
  obtain ⟨h, f, hh, hf4, hs⟩ := (isFunction_iff r.session).mp hf
  have hl : ¬ 1400 < (requestRecord false o).length := by rw [requestRecord_length]; omega
  have hans : s.answerSlot k = k := by simp [State.answerSlot, hk, authentic_set true true k _ _ hk ha]
  have hreq : s.request (rowJob s r o) (rowHeader false r (requestRecord false o).length ++ requestRecord false o) (beBytes 16 r.check) =
      s.addCritical (critJobOf s r o k) := by
    simp [State.request, critJobOf, rowJob, hs, State.sessionOf, hslot, hcrit, hans, ha, hk]
  simp [State.row, hs, Nat.not_le.mpr hh, Nat.not_le.mpr hf4, running_eq, hrun, hup, State.rowBlock, hl, hreq]

/-- The answer to a row of a function with one result is the response that carries it. -/
theorem finishJob_row_one {j : Job} {h f : Nat} {o : DictOp} {x : OpResult} (hs : j.session = .pcie h f) (hr : j.reply = .row)
    (hd : j.done = [(o, x)]) : s.finishJob j .ok = s.emit (.response j.session j.tag x.status x.type x.epoch x.len x.value) := by
  simp [State.finishJob, State.keepLast, State.sendReply, hs, hr, hd]

/-- A repeat from a function is answered with the stored result under its own TAG, and nothing else changes but REPEATS_ANSWERED. -/
theorem addCritical_critJobOf_repeat (k : Nat) {x : StoredResponse} (hx : sparseFind? s.dict.live.stored k = some x)
    (hf : isFunction r.session = true) (hc : r.counter = s.counterLast k) :
    s.addCritical (critJobOf s r x.op k) = (s.bump Od.repeatsAnswered).emit
      (.response (s.sessionOf r.session) r.tag x.result.status x.result.type x.result.epoch x.result.len x.result.value) := by
  obtain ⟨h, f, -, -, hs⟩ := (isFunction_iff r.session).mp hf
  have hsess : s.sessionOf r.session = .pcie (s.fnOf h f / 4) (s.fnOf h f % 4) := by rw [hs]; rfl
  rw [addCritical_repeat (j := critJobOf s r x.op k) hx hc rfl, finishJob_row_one hsess rfl rfl]
  rfl

end

/-- Settles O6: check 5 answers from the stored response or with STALE_COUNTER before the queue is looked at, and a function's request comes to it. -/
theorem storedResponses : Obligations.StoredResponses := by
  intro s k x hx
  refine ⟨?repeated, ?stale, ?row⟩
  case repeated =>
    rintro j rfl hc ho
    exact addCritical_repeat hx hc ho
  case stale =>
    rintro j rfl hc
    exact addCritical_stale hx hc
  case row =>
    intro r a len v o ho hlen hrun hup hslot hk hcrit hf _ ha hc hxo
    subst hxo
    have hlen' : x.op.len ≤ 1376 := by rw [ho]; exact hlen
    have hexec : exec (.writeObj r a len v) s = s.row r x.op := by rw [ho]; rfl
    rw [hexec, row_to_addCritical x.op k hlen' hrun hup hslot hk hcrit hf ha, addCritical_critJobOf_repeat k hx hf hc]

end Sys2Proof.Machine
end

section
/-! PROOFS. The ingress priority group of a received frame (R282): what judging XOFF and taking cells leave as they were, frame start, and FRAME_RECEIVE. -/

namespace Sys2Proof.Machine

section
variable {s t u : State}

/-! The octets that give the group. -/

/-- Two octets in a row, those beyond the end 0. -/
theorem slice_two (l : List Byte) (i : Nat) : slice l i 2 = [byteAt l i, byteAt l (i + 1)] := by
  have h0 : byteAt l i = (l.drop i).getD 0 0 := by simp [byteAt, List.getD_eq_getElem?_getD]
  have h1 : byteAt l (i + 1) = (l.drop i).getD 1 0 := by simp [byteAt, List.getD_eq_getElem?_getD]
  rw [h0, h1, slice]
  match l.drop i with
  | [] => rfl
  | [_] => rfl
  | _ :: _ :: _ => simp

/-- The PCP is the top three bits of the tag's first octet. -/
theorem pcp_eq (frame : List Byte) : bits (beNat (slice frame 14 2)) 15 13 = (byteAt frame 14).toNat / 32 := by
  have h0 := (byteAt frame 14).isLt
  have h1 := (byteAt frame 15).isLt
  simp only [slice_two, bits, beNat, List.foldl_cons, List.foldl_nil]
  omega

/-- The PG of a frame, by the PCP of its outer tag. -/
theorem framePg_eq (n : Nat) (frame : List Byte) : s.framePg n frame =
    if beNat (slice frame 12 2) = 0x8100 then s.rdOctet Od.portPgMap (portInst n) 0 (bits (beNat (slice frame 14 2)) 15 13)
    else s.rd Od.portDefaultPg (portInst n) := by
  rw [pcp_eq, State.framePg]

/-- The PG of a frame is below 8 where the port's registers name such groups alone. -/
theorem framePg_lt (n : Nat) (frame : List Byte) (hmap : ∀ p, p < 8 → s.rdOctet Od.portPgMap (portInst n) 0 p < 8)
    (hdef : s.rd Od.portDefaultPg (portInst n) < 8) : s.framePg n frame < 8 := by
  have hpcp : (byteAt frame 14).toNat / 32 < 8 := by have := (byteAt frame 14).isLt; omega
  unfold State.framePg
  split
  · exact hmap _ hpcp
  · exact hdef

/-! The counters of a port's MAC. -/

/-- `t` is `s` with other counters. -/
def CountersApart (s t : State) : Prop := ∃ c, t = { s with ctrs := c }

theorem CountersApart.trans (h1 : CountersApart s t) (h2 : CountersApart t u) : CountersApart s u := by
  obtain ⟨c, rfl⟩ := h1
  obtain ⟨c', rfl⟩ := h2
  exact ⟨c', rfl⟩

theorem macCount_countersApart (s : State) (n k v : Nat) : CountersApart s (s.macCount n k v) := ⟨_, rfl⟩

theorem bwCount_countersApart (s : State) (n bytes : Nat) (tx : Bool) : CountersApart s (s.bwCount n bytes tx) := ⟨_, rfl⟩

theorem countControl_countersApart (s : State) (n : Nat) (tx pfc : Bool) : CountersApart s (s.countControl n tx pfc) := by
  have hgood := ((macCount_countersApart s n (if tx then 6 else 0) 1).trans (macCount_countersApart _ n (if tx then 7 else 1) 64)).trans
    (bwCount_countersApart _ n 64 tx)
  cases pfc
  · exact hgood
  · exact hgood.trans (macCount_countersApart _ _ _ _)

/-! What the work on cells leaves as it was. -/

/-- `t` has the packets, the packet records and the charges of the PGs of `s`, and its register file still rises. -/
structure SameCharges (s t : State) : Prop where
  packets : t.packets = s.packets
  records : t.bufs.records = s.bufs.records
  rising : sparseRising none s.regs = true → sparseRising none t.regs = true
  pgCells : sparseRising none s.regs = true → ∀ inst g, t.rd Od.pgCells inst g = s.rd Od.pgCells inst g

/-- A change outside the packets, the records and the registers. -/
theorem SameCharges.of_eq (hp : t.packets = s.packets) (hr : t.bufs.records = s.bufs.records) (hg : t.regs = s.regs) : SameCharges s t where
  packets := hp
  records := hr
  rising h := by rwa [hg]
  pgCells _ inst g := by simp only [State.rd, hg]

theorem SameCharges.refl (s : State) : SameCharges s s := .of_eq rfl rfl rfl

theorem SameCharges.trans (h1 : SameCharges s t) (h2 : SameCharges t u) : SameCharges s u where
  packets := h2.packets.trans h1.packets
  records := h2.records.trans h1.records
  rising h := h2.rising (h1.rising h)
  pgCells h inst g := (h2.pgCells (h1.rising h) inst g).trans (h1.pgCells h inst g)

theorem SameCharges.foldl {α : Type} (f : State → α → State) (h : ∀ a x, SameCharges a (f a x)) (l : List α) (s : State) :
    SameCharges s (l.foldl f s) := by
  induction l generalizing s with
  | nil => exact .refl s
  | cons x l ih => exact (h s x).trans (ih (f s x))

/-- A write of a register keeps the keys rising. -/
theorem sparseRising_wr (o : Obj) (v inst k : Nat) (h : sparseRising none s.regs = true) : sparseRising none (s.wr o v inst k).regs = true := by
  rw [State.wr_regs, sparseSet]
  split
  · exact sparseRising_erase _ _ none h
  · exact sparseRising_put _ _ _ none (by simp) h

/-- PFC_XOFF_SENT is never PG_CELLS: their sub-indices differ. -/
theorem pfcXoffSent_key_ne (i k j l : Nat) : Od.pfcXoffSent.key i k ≠ Od.pgCells.key j l := by
  simp only [Obj.key, dictKey, Od.pfcXoffSent, Od.pgCells]
  omega

theorem bump_pfcXoffSent_sameCharges (s : State) (inst k n : Nat) : SameCharges s (s.bump Od.pfcXoffSent inst k n) where
  packets := rfl
  records := rfl
  rising h := sparseRising_wr _ _ _ _ h
  pgCells h j g := by
    simp only [State.rd, State.bump]
    rw [State.regs_wr _ _ _ _ _ _ h, if_neg (pfcXoffSent_key_ne inst k j g)]

theorem countControl_sameCharges (s : State) (n : Nat) (tx pfc : Bool) : SameCharges s (s.countControl n tx pfc) := by
  obtain ⟨c, hc⟩ := countControl_countersApart s n tx pfc
  rw [hc]
  exact .of_eq rfl rfl rfl

theorem emit_sameCharges (s : State) (o : Out) : SameCharges s (s.emit o) := .of_eq rfl rfl rfl

theorem later_sameCharges (s : State) (ns : Nat) (i : Instr) : SameCharges s (s.later ns i) := .of_eq rfl rfl rfl

theorem withXoff_sameCharges (s : State) (m : Sparse Nat) : SameCharges s { s with bufs := { s.bufs with xoff := m } } := .of_eq rfl rfl rfl

theorem sendXoff_sameCharges (s : State) (n g : Nat) : SameCharges s (s.sendXoff n g) :=
  (((withXoff_sameCharges s _).trans (countControl_sameCharges _ n true true)).trans (emit_sameCharges _ _)).trans (later_sameCharges _ _ _)

/-- Judging XOFF and XON charges nothing. -/
theorem judgePfc_sameCharges (s : State) (n g : Nat) : SameCharges s (s.judgePfc n g) := by
  unfold State.judgePfc
  dsimp only
  split
  · split
    · exact (sendXoff_sameCharges s n g).trans (bump_pfcXoffSent_sameCharges _ _ _ _)
    · exact .refl s
  · split
    · exact ((withXoff_sameCharges s _).trans (countControl_sameCharges _ n true true)).trans (emit_sameCharges _ _)
    · exact .refl s

theorem refill_sameCharges (s : State) (d o : Nat) : SameCharges s (s.refill d o) := .of_eq rfl rfl rfl

theorem noteF_sameCharges (s : State) (d : Nat) : SameCharges s (s.noteF d) := by
  unfold State.noteF
  dsimp only
  split
  · exact .refl s
  · exact .of_eq rfl rfl rfl

/-- What follows a change of F charges nothing. -/
theorem fMoved_sameCharges (s : State) (d : Nat) : SameCharges s (s.fMoved d) := by
  have hrefill : SameCharges s (s.refillDie d) := .foldl _ (fun a x => refill_sameCharges a d (x % 8)) _ s
  exact (hrefill.trans (noteF_sameCharges _ d)).trans (.foldl _ (fun a k => judgePfc_sameCharges a (k / 8) (k % 8)) _ _)

theorem setReserved_markCells_sameCharges (s : State) (d path v : Nat) (l : List Nat) :
    SameCharges s ((s.setReserved d path v).markCells d l) := .of_eq rfl rfl rfl

theorem markCells_setHeld_sameCharges (s : State) (d port : Nat) (l : List Nat) (m : List (Nat × Nat)) :
    SameCharges s ((s.markCells d l).setHeld d port m) := .of_eq rfl rfl rfl

/-- Cells are taken before they are charged. -/
theorem takeCells_sameCharges (d port path cls fuel n : Nat) (s : State) : SameCharges s (s.takeCells d port path cls fuel n).1 := by
  induction fuel generalizing s n with
  | zero => exact .refl s
  | succ fuel ih =>
    cases n with
    | zero => exact .refl s
    | succ n =>
      simp only [State.takeCells]
      split
      · exact .trans (t := s.setHeld d port _) (.of_eq rfl rfl rfl) (ih _ _)
      · split
        · split
          · exact (setReserved_markCells_sameCharges s d path _ _).trans (ih _ _)
          · exact .refl s
        · exact (markCells_setHeld_sameCharges s d port _ _).trans (ih _ _)

/-- A record set on both sides, and what follows a change of F. -/
theorem SameCharges.setRecord_fMoved (h : SameCharges s t) {d head : Nat} {r : PacketRecord} (hp : u.packets = t.packets) (hg : u.regs = t.regs)
    (hr : u.bufs.records = sparsePut t.bufs.records (cellKey d head) r) : SameCharges (s.setRecord d head r) (u.fMoved d) := by
  have hset : SameCharges (s.setRecord d head r) (t.setRecord d head r) :=
    { packets := h.packets, records := congrArg (sparsePut · _ _) h.records, rising := h.rising, pgCells := h.pgCells }
  exact (hset.trans (.of_eq hp hr hg)).trans (fMoved_sameCharges u d)

/-- A packet's record opens with its class and its number of cells, and nothing is charged yet. -/
theorem openRecord_sameCharges (d port path cls bytes kind id : Nat) (s : State) :
    ∃ r : PacketRecord, SameCharges (s.setRecord d (s.openRecord d port path cls bytes kind id).2.1 r) (s.openRecord d port path cls bytes kind id).1 ∧
      r.cls = cls ∧ r.cells = cellsOf bytes := by
  have htake := takeCells_sameCharges d port path cls (2 * cellsOf bytes + 2) (cellsOf bytes) s
  unfold State.openRecord
  dsimp only
  generalize s.takeCells d port path cls (2 * cellsOf bytes + 2) (cellsOf bytes) = x at htake ⊢
  exact ⟨_, htake.setRecord_fMoved rfl rfl rfl, rfl, rfl⟩

/-- Charging cells to a pair: the pair has so many more, and the packets and their records stand. -/
theorem chargePg_charges (s : State) (n g cells : Nat) (h : sparseRising none s.regs = true) :
    (s.chargePg n g cells).packets = s.packets ∧ (s.chargePg n g cells).bufs.records = s.bufs.records ∧
      (s.chargePg n g cells).rd Od.pgCells (portInst n) g = s.rd Od.pgCells (portInst n) g + cells ∧
      sparseRising none (s.chargePg n g cells).regs = true := by
  have hjudge := judgePfc_sameCharges (s.wr Od.pgCells (s.rd Od.pgCells (portInst n) g + cells) (portInst n) g) n g
  have hrise := sparseRising_wr (s := s) Od.pgCells (s.rd Od.pgCells (portInst n) g + cells) (portInst n) g h
  refine ⟨hjudge.packets, hjudge.records, (hjudge.pgCells hrise (portInst n) g).trans ?_, hjudge.rising hrise⟩
  rw [State.rd, State.regs_wr _ _ _ _ _ _ h, if_pos rfl]

/-! Frame start. -/

/-- What a started frame leaves: its packet is received in its PG, and its cells are of that class and charged to that pair (R259, R282, R283). -/
def FrameStarted (s t : State) (n g bytes : Nat) : Prop :=
  ∃ k rec, t.packet? s.nextPacket = some k ∧ k.stage = .received ∧ k.pg = g ∧ t.record? (n / 64) k.head = some rec ∧ rec.cls = g ∧
    rec.cells = cellsOf bytes ∧ t.rd Od.pgCells (portInst n) g = s.rd Od.pgCells (portInst n) g + cellsOf bytes

/-- A frame has started once its packet and its record stand and its cells are charged. -/
theorem frameStarted_of_chargePg (v : State) {n g bytes : Nat} {k : Packet} {r : PacketRecord} (hu : SameCharges (t.chargePg n g (cellsOf bytes)) u)
    (hrise : sparseRising none s.regs = true) (hp : t.packets = sparsePut v.packets s.nextPacket k) (hr : t.bufs.records = v.bufs.records)
    (hg : t.regs = v.regs) (hopen : SameCharges (s.setRecord (n / 64) k.head r) v) (hcls : r.cls = g) (hcells : r.cells = cellsOf bytes)
    (hstage : k.stage = .received) (hpg : k.pg = g) : FrameStarted s u n g bytes := by
  have hrise' : sparseRising none t.regs = true := by rw [hg]; exact hopen.rising hrise
  obtain ⟨hpackets, hrecords, hcharge, hrise''⟩ := chargePg_charges t n g (cellsOf bytes) hrise'
  have hrd : t.rd Od.pgCells (portInst n) g = s.rd Od.pgCells (portInst n) g := by
    rw [State.rd, hg]
    exact hopen.pgCells hrise (portInst n) g
  refine ⟨k, r, ?packet, hstage, hpg, ?record, hcls, hcells, ?charge⟩
  case packet => rw [State.packet?, hu.packets, hpackets, hp, sparseFind?_put, if_pos rfl]
  case record =>
    rw [State.record?, hu.records, hrecords, hr, hopen.records]
    exact (sparseFind?_put _ _ _ _).trans (if_pos rfl)
  case charge => rw [hu.pgCells hrise'', hcharge, hrd]

/-- Every frame of up to 10,240 octets that starts carries its PG, and its cells are charged there. -/
theorem startFrame_started (s : State) (n g hv born : Nat) (frame : List Byte) (hrise : sparseRising none s.regs = true)
    (hlen : frame.length ≤ 10240) : FrameStarted s (s.startFrame n g hv born frame) n g frame.length := by
  obtain ⟨r, hopen, hcls, hcells⟩ := openRecord_sameCharges (n / 64) (n % 64 / 8) (n % 64 / 8) g frame.length 1
    (n / 64 * 16 + s.pipeOf (n / 64) false (n % 64 / 8)) s
  unfold State.startFrame
  rw [List.take_of_length_le hlen]
  dsimp only
  generalize s.openRecord (n / 64) (n % 64 / 8) (n % 64 / 8) g frame.length 1 (n / 64 * 16 + s.pipeOf (n / 64) false (n % 64 / 8)) = x at hopen ⊢
  by_cases hlong : 516 < frame.length
  · simp only [hlong, decide_true, if_true]
    exact frameStarted_of_chargePg x.1 (.refl _) hrise rfl rfl rfl hopen hcls hcells rfl rfl
  · simp only [hlong, decide_false, if_false, Bool.false_eq_true]
    exact frameStarted_of_chargePg x.1 (refill_sameCharges _ _ _) hrise rfl rfl rfl hopen hcls hcells rfl rfl

/-! A frame that is presented. -/

/-- With no frame waiting in its octet, a frame that may start does. -/
theorem tryStart_starts {n : Nat} {frame : List Byte} (hw : s.waitingAt (n / 64) (n % 64 / 8) = [])
    (hm : s.mayStart n (s.framePg n frame) = true) : s.tryStart n frame =
      (s.addFlight (n / 64) (hvGen (s.freshHv n frame.length))).startFrame n (s.framePg n frame) (s.freshHv n frame.length) s.up frame := by
  have hm' : (s.addFlight (n / 64) (hvGen (s.freshHv n frame.length))).mayStart n (s.framePg n frame) = true := hm
  simp only [State.tryStart, State.retryStarts, hw, List.foldl_nil, hm', if_true]

/-- With no frame waiting in its octet, a frame that may not start waits with its PG where its class has the WAIT policy (R261). -/
theorem tryStart_waits {n : Nat} {frame : List Byte} (hw : s.waitingAt (n / 64) (n % 64 / 8) = [])
    (hm : s.mayStart n (s.framePg n frame) = false) (hpol : s.rd Od.bpmClassPolicy 0 (s.framePg n frame) = 0) (hlen : frame.length ≤ 20480) :
    (s.tryStart n frame).waitingAt (n / 64) (n % 64 / 8) =
        [{ port := n, frame := frame, pg := s.framePg n frame, since := s.up, hv := s.freshHv n frame.length }] ∧
      (s.tryStart n frame).packets = s.packets := by
  have hm' : (s.addFlight (n / 64) (hvGen (s.freshHv n frame.length))).mayStart n (s.framePg n frame) = false := hm
  have hw' : (s.addFlight (n / 64) (hvGen (s.freshHv n frame.length))).waitingAt (n / 64) (n % 64 / 8) = [] := hw
  simp only [State.tryStart, State.retryStarts, hw, List.foldl_nil, hm', hw', hpol, List.nil_append, Nat.zero_add, hlen, and_self, if_true,
    Bool.false_eq_true, if_false]
  refine ⟨?_, rfl⟩
  simp [State.waitingAt, State.setWaiting, sparseSet, sparseGet, sparseFind?_put]

/-- A good frame that is no MAC control frame is presented at frame start, and its MAC counts it. -/
theorem frameReceive_presents {n : Nat} {frame : List Byte} (hrun : s.stopped = false) (hn : n < 512) (hdie : s.hasDie (n / 64) = true)
    (hup : s.portStateOf n = 2) (hmin : 64 ≤ frame.length) (hmax : frame.length ≤ 10240) (hfcs : 516 < frame.length ∨ goodFcs frame = true)
    (hctl : beNat (slice frame 12 2) ≠ 0x8808) : ∃ t, CountersApart s t ∧ exec (.frameReceive n frame) s = .next (t.tryStart n frame) := by
  have hexec : exec (.frameReceive n frame) s = execFrameReceive n frame s := rfl
  have hbad : ¬ (frame.length ≤ 516 ∧ goodFcs frame = false) := by
    rintro ⟨hshort, hf⟩
    rcases hfcs with hlong | hgood
    · omega
    · simp [hf] at hgood
  rw [hexec, execFrameReceive, withLane_next _ _ _ hn hdie, running_eq, hrun]
  simp only [Bool.false_eq_true, if_false, ne_eq, hup, not_true_eq_false, Nat.not_lt.mpr hmin, hbad, hctl,
    List.take_of_length_le (Nat.le_succ_of_le hmax)]
  refine ⟨_, ?_, rfl⟩
  split
  · exact ((bwCount_countersApart s n _ false).trans (macCount_countersApart _ n 0 1)).trans (macCount_countersApart _ n 1 _)
  · exact bwCount_countersApart s n _ false

end

/-- Settles O7: the frame comes to frame start with the PG of its tag, and either starts in it, its cells charged there, or waits with it. -/
theorem priorityGroups : Obligations.PriorityGroups := by
  intro s n g frame hsound hrun hn hdie hup hmin hmax hfcs hctl hmap hdef hg hw
  have hpg : s.framePg n frame = g := by rw [framePg_eq, hg]
  have hrise : sparseRising none s.regs = true := by
    simp only [State.sound, sparseWf, Bool.and_eq_true] at hsound
    obtain ⟨⟨⟨⟨hrise, -⟩, -⟩, -⟩, -⟩ := hsound
    exact hrise
  obtain ⟨t, ⟨c, rfl⟩, hexec⟩ := frameReceive_presents hrun hn hdie hup hmin hmax hfcs hctl
  subst hpg
  refine ⟨framePg_lt n frame hmap hdef, ?starts, ?waits⟩
  case starts =>
    intro hm
    refine ⟨_, hexec.trans (congrArg _ (tryStart_starts hw hm)), ?_⟩
    exact startFrame_started _ n _ _ _ frame hrise hmax
  case waits =>
    intro hm hpol
    exact ⟨_, hexec, tryStart_waits hw hm hpol (by omega)⟩

end Sys2Proof.Machine
end

section
/-! PROOFS. A fire of an event source that is ignored or lost (R387). -/

namespace Sys2Proof.Machine

section
variable {s : State} {d n : Nat}

/-- EVENT_FIRE on a die of a package that runs is the fire of the source. -/
theorem exec_eventFire (hrun : s.stopped = false) (hdie : s.hasDie d = true) : exec (.eventFire d n) s = .next (s.fire d n) := by
  have hexec : exec (.eventFire d n) s = withDie s d (s.fire d n) := rfl
  simp [hexec, withDie_next s _ d hdie, running_eq, hrun]

/-- A disabled source ignores its fire. -/
theorem fire_disabled (h : (s.source (d * 4096 + n)).enable = false) : s.fire d n = s := by
  simp [State.fire, h]

/-- A source with no target ignores its fire. -/
theorem fire_untargeted (h : (s.source (d * 4096 + n)).targetKind = 0) : s.fire d n = s := by
  simp [State.fire, h]

/-- The fire of an enabled and targeted source that is not IDLE changes its LOST and the die's EVC_LOST_TOTAL, and nothing else. -/
theorem fire_lost {e : EventSource} (he : e = s.source (d * 4096 + n)) (hex : s.sourceExists d n = true) (hcan : s.canFire d n = true)
    (hen : e.enable = true) (htgt : e.targetKind ≠ 0) (hbusy : e.state ≠ 0) :
    s.fire d n = (s.setSource (d * 4096 + n) { e with lost := min 255 (e.lost + 1) }).bump Od.evcLostTotal (dieInst d) := by
  subst he
  simp [State.fire, hex, hcan, hen, htgt, hbusy]

end

/-- Settles O8: EVENT_FIRE is the fire of the source, which a disabled or untargeted source ignores and a source that is not IDLE loses. -/
theorem lostFires : Obligations.LostFires := by
  intro s d n e hrun hdie he
  rw [exec_eventFire hrun hdie]
  refine ⟨?ignored, ?lost⟩
  case ignored =>
    subst he
    rintro (hdisabled | huntargeted)
    · rw [fire_disabled hdisabled]
    · rw [fire_untargeted huntargeted]
  case lost =>
    intro hex hcan hen htgt hbusy
    rw [fire_lost he hex hcan hen htgt hbusy]

end Sys2Proof.Machine
end

section
/-! PROOFS. Sparse lists that rise, under the operations of the model. -/

namespace Sys2Proof.Machine

theorem sparseRising_set {α : Type} [DecidableEq α] (dflt : Nat → α) (m : Sparse α) (k : Nat) (v : α) (h : sparseRising none m = true) :
    sparseRising none (sparseSet dflt m k v) = true := by
  unfold sparseSet
  split
  · exact sparseRising_erase m k none h
  · exact sparseRising_put m k v none (by simp) h

theorem sparseRising_tail {α : Type} {lo : Option Nat} {e : Nat × α} {m : Sparse α} (h : sparseRising lo (e :: m) = true) :
    sparseRising (some e.1) m = true := by
  cases lo <;> simp_all [sparseRising]

/-- A part of a rising list rises. -/
theorem sparseRising_filter {α : Type} (p : Nat × α → Bool) (m : Sparse α) (lo : Option Nat) (h : sparseRising lo m = true) :
    sparseRising lo (m.filter p) = true := by
  induction m generalizing lo with
  | nil => exact h
  | cons e rest ih =>
    have hrest := sparseRising_tail h
    by_cases hp : p e = true
    · rw [List.filter_cons_of_pos hp]
      cases lo with
      | none => exact ih _ hrest
      | some b => simp_all [sparseRising]
    · rw [List.filter_cons_of_neg hp]
      cases lo with
      | none =>
        cases rest with
        | nil => rfl
        | cons e' rest' => exact ih none (by simpa [sparseRising] using sparseRising_tail hrest)
      | some b => exact ih _ (sparseRising_mono rest b e.1 hrest (by simp_all [sparseRising]; omega))

theorem sparseRising_foldl {α β : Type} (f : Sparse α → β → Sparse α) (hf : ∀ m x, sparseRising none m = true → sparseRising none (f m x) = true)
    (l : List β) (m : Sparse α) (h : sparseRising none m = true) : sparseRising none (l.foldl f m) = true := by
  induction l generalizing m with
  | nil => exact h
  | cons x l ih => exact ih _ (hf m x h)

/-- A part of a canonical list is canonical. -/
theorem sparseWf_filter {α : Type} [DecidableEq α] (dflt : Nat → α) (p : Nat × α → Bool) (m : Sparse α) (h : sparseWf dflt m = true) :
    sparseWf dflt (m.filter p) = true := by
  simp only [sparseWf, Bool.and_eq_true, List.all_eq_true] at h ⊢
  exact ⟨sparseRising_filter p m none h.1, fun e he => h.2 e ((List.mem_filter.mp he).1)⟩

end Sys2Proof.Machine
end

section
/-! PROOFS. What `State.writeEpoch` gives, by the outcome of its checks. -/

namespace Sys2Proof.Machine

section
variable {s : State} {c : WriteCtx} {epoch : Nat}

/-- The kernel must not compare `State.writeEpoch` with its body while the resolved epoch stands in it: it would evaluate `epoch + 2 ^ 32` in unary.
So the definition is opened as a function, and the resolved epoch is made a variable at once. -/
theorem writeEpoch_tooLate (hr : s.resolveEpoch epoch = none) : s.writeEpoch c epoch = (WriteRes.refuse s .tooLate, 0) := by
  have he : State.writeEpoch = State.writeEpoch := rfl
  conv at he => rhs; delta State.writeEpoch
  have h := congrFun (congrFun (congrFun he s) c) epoch
  generalize s.resolveEpoch epoch = o at h hr
  subst hr
  exact h

theorem writeEpoch_resolved {e : Nat} (hr : s.resolveEpoch epoch = some e) : s.writeEpoch c epoch =
    match (s.yieldEcmp c.addr (byKeeper c.session)).checkEpoch c.addr c.value e c.principal with
    | .ok =>
      let s1 := (s.yieldEcmp c.addr (byKeeper c.session)).addChange e c.addr c.value (byKeeper c.session) c.writer
      ({ status := .deferred, record := 0, state :=
          if decide (0x3800 ≤ c.addr.index) && decide (c.addr.index < 0x380C) && c.addr.sub = 6 then
            s1.gateEpoch (c.addr.index - 0x3800) 0 (some e) else s1 }, low 32 e)
    | .resourceBusy => (WriteRes.busy s (Od.sparePipelineClaim.key c.addr.inst 0), 0)
    | st => (WriteRes.refuse s st, 0) := by
  have he : State.writeEpoch = State.writeEpoch := rfl
  conv at he => rhs; delta State.writeEpoch
  have h := congrFun (congrFun (congrFun he s) c) epoch
  generalize s.resolveEpoch epoch = o at h hr
  subst hr
  cases hc : (s.yieldEcmp c.addr (byKeeper c.session)).checkEpoch c.addr c.value e c.principal <;> (simp only [hc] at h ⊢; exact h)

end

end Sys2Proof.Machine
end

section
/-! PROOFS. What every operation of the model keeps of a state: its queue, its part, the canonical form of its registers and NVS images and the order of its
keyed lists. One lemma for each operation, in the order of the model, each made of the lemmas of the operations it calls. -/

namespace Sys2Proof.Machine

-- The theorems are elaborated one after the other: at once they would need more threads than the check has memory for.
set_option Elab.async false

/-- The parts of a state that O2 to O4 speak of. -/
def State.core (s : State) :=
  (s.pending, s.part, s.regs, s.dict.live, s.dict.nvs0.body, s.dict.nvs1.body, s.rings.wqs, s.ae.contexts, s.ae.holders, s.asa.queues, s.bufs.cells,
    s.bufs.xoff, s.fams, s.links.lanes, s.links.slices, s.placing.credits, s.fabric.groups)

/-- What every command keeps of a state. -/
structure Keeps (s t : State) : Prop where
  pending : t.pending = s.pending
  part : t.part = s.part
  sound : s.sound = true → t.sound = true
  ordered : s.ordered = true → t.ordered = true

namespace Keeps
section
variable {s t u : State}

theorem of_core (h : t.core = s.core) : Keeps s t := by
  simp only [State.core, Prod.mk.injEq] at h
  obtain ⟨h1, h2, h3, h4, h5, h6, h7, h8, h9, h10, h11, h12, h13, h14, h15, h16, h17⟩ := h
  exact ⟨h1, h2, by simp only [State.sound, h3, h4, h5, h6, imp_self],
    by simp only [State.ordered, h7, h8, h9, h10, h11, h12, h13, h14, h15, h16, h17, imp_self]⟩

theorem refl (s : State) : Keeps s s := ⟨rfl, rfl, id, id⟩

theorem trans (h : Keeps s t) (h' : Keeps t u) : Keeps s u :=
  ⟨h'.pending.trans h.pending, h'.part.trans h.part, h'.sound ∘ h.sound, h'.ordered ∘ h.ordered⟩

theorem same (h : Keeps s t) (hu : u.core = t.core := by unfold State.core; rfl) : Keeps s u := h.trans (of_core hu)

/-- A change of the register file that keeps its canonical form. -/
theorem regs (h : Keeps s t) (hm : sparseWf Od.defaultAt t.regs = true → sparseWf Od.defaultAt u.regs = true)
    (hu : u.core = { t with regs := u.regs }.core := by unfold State.core; rfl) : Keeps s u := by
  refine (h.trans (u := { t with regs := u.regs }) ⟨rfl, rfl, fun hs => ?_, id⟩).trans (of_core hu)
  simp only [State.sound, Bool.and_eq_true] at hs ⊢
  exact ⟨⟨⟨hm hs.1.1.1, hs.1.1.2⟩, hs.1.2⟩, hs.2⟩

theorem setReg (h : Keeps s t) (key v) : Keeps s { t with regs := sparseSet Od.defaultAt t.regs key v } :=
  h.regs (sparseWf_set _ _ _ _)

/-- A change of the cells that keeps them in order. -/
theorem cells (h : Keeps s t) (hm : sparseRising none t.bufs.cells = true → sparseRising none u.bufs.cells = true)
    (hu : u.core = { t with bufs := { t.bufs with cells := u.bufs.cells } }.core := by unfold State.core; rfl) : Keeps s u := by
  refine (h.trans (u := { t with bufs := { t.bufs with cells := u.bufs.cells } }) ⟨rfl, rfl, id, fun ho => ?_⟩).trans (of_core hu)
  simp only [State.ordered, Bool.and_eq_true] at ho ⊢
  simp only [ho, hm, and_self]

theorem xoff (h : Keeps s t) (hm : sparseRising none t.bufs.xoff = true → sparseRising none u.bufs.xoff = true)
    (hu : u.core = { t with bufs := { t.bufs with xoff := u.bufs.xoff } }.core := by unfold State.core; rfl) : Keeps s u := by
  refine (h.trans (u := { t with bufs := { t.bufs with xoff := u.bufs.xoff } }) ⟨rfl, rfl, id, fun ho => ?_⟩).trans (of_core hu)
  simp only [State.ordered, Bool.and_eq_true] at ho ⊢
  simp only [ho, hm, and_self]

theorem holders (h : Keeps s t) (hm : sparseRising none t.ae.holders = true → sparseRising none u.ae.holders = true)
    (hu : u.core = { t with ae := { t.ae with holders := u.ae.holders } }.core := by unfold State.core; rfl) : Keeps s u := by
  refine (h.trans (u := { t with ae := { t.ae with holders := u.ae.holders } }) ⟨rfl, rfl, id, fun ho => ?_⟩).trans (of_core hu)
  simp only [State.ordered, Bool.and_eq_true] at ho ⊢
  simp only [ho, hm, and_self]

/-- A change of the lists that `ordered` speaks of, each of which stays in order. -/
theorem lists (h : Keeps s t) (hp : u.pending = t.pending := by rfl) (hpart : u.part = t.part := by rfl) (hr : u.regs = t.regs := by rfl)
    (hd : u.dict = t.dict := by rfl) (ho : t.ordered = true → u.ordered = true) : Keeps s u :=
  h.trans ⟨hp, hpart, by simp only [State.sound, hr, hd, imp_self], ho⟩

theorem ite {c : Prop} [Decidable c] (ht : Keeps s t) (hu : Keeps s u) : Keeps s (if c then t else u) := by split <;> assumption

theorem iteFst {α : Type} {c : Prop} [Decidable c] {x y : State × α} (hx : Keeps s x.1) (hy : Keeps s y.1) : Keeps s (if c then x else y).1 := by
  split <;> assumption

theorem iteSnd {α : Type} {c : Prop} [Decidable c] {x y : α × State} (hx : Keeps s x.2) (hy : Keeps s y.2) : Keeps s (if c then x else y).2 := by
  split <;> assumption

theorem iteMid {α β : Type} {c : Prop} [Decidable c] {x y : α × State × β} (hx : Keeps s x.2.1) (hy : Keeps s y.2.1) :
    Keeps s (if c then x else y).2.1 := by
  split <;> assumption

theorem iteLast {α β : Type} {c : Prop} [Decidable c] {x y : α × β × State} (hx : Keeps s x.2.2) (hy : Keeps s y.2.2) :
    Keeps s (if c then x else y).2.2 := by
  split <;> assumption

theorem iteWr {c : Prop} [Decidable c] {x y : WriteRes} (hx : Keeps s x.state) (hy : Keeps s y.state) : Keeps s (if c then x else y).state := by
  split <;> assumption

theorem foldl {α : Type} {f : State → α → State} {l : List α} (h : Keeps s t) (hf : ∀ a x, Keeps s a → Keeps s (f a x)) : Keeps s (l.foldl f t) := by
  induction l generalizing t with
  | nil => exact h
  | cons x l ih => exact ih (hf t x h)

theorem foldlFst {α β : Type} {f : State × β → α → State × β} {l : List α} {x : State × β} (h : Keeps s x.1) (hf : ∀ a y, Keeps s a.1 → Keeps s
  (f a y).1) :
    Keeps s (l.foldl f x).1 := by
  induction l generalizing x with
  | nil => exact h
  | cons y l ih => exact ih (hf x y h)

theorem foldlSnd {α β : Type} {f : β × State → α → β × State} {l : List α} {x : β × State} (h : Keeps s x.2) (hf : ∀ a y, Keeps s a.2 → Keeps s
  (f a y).2) :
    Keeps s (l.foldl f x).2 := by
  induction l generalizing x with
  | nil => exact h
  | cons y l ih => exact ih (hf x y h)

theorem foldlClock {α : Type} {f : AllocClock → α → AllocClock} {l : List α} {x : AllocClock} (h : Keeps s x.state)
    (hf : ∀ a y, Keeps s a.state → Keeps s (f a y).state) : Keeps s (l.foldl f x).state := by
  induction l generalizing x with
  | nil => exact h
  | cons y l ih => exact ih (hf x y h)

theorem iteSt {c : Prop} [Decidable c] {x y : Look} (hx : Keeps s x.st) (hy : Keeps s y.st) : Keeps s (if c then x else y).st := by
  split <;> assumption

theorem iteFound {c : Prop} [Decidable c] {x y : Found} (hx : Keeps s x.st) (hy : Keeps s y.st) : Keeps s (if c then x else y).st := by
  split <;> assumption

theorem iteClock {c : Prop} [Decidable c] {x y : AllocClock} (hx : Keeps s x.state) (hy : Keeps s y.state) : Keeps s (if c then x else y).state := by
  split <;> assumption

theorem wr (h : Keeps s t) (o v inst k) : Keeps s (t.wr o v inst k) :=
  h.setReg ..

theorem bump (h : Keeps s t) (o inst k n) : Keeps s (t.bump o inst k n) :=
  h.wr ..

theorem useFree (h : Keeps s t) : Keeps s t.useFree :=
  h.same

theorem emit (h : Keeps s t) (o) : Keeps s (t.emit o) :=
  h.same

theorem later (h : Keeps s t) (ns i) : Keeps s (t.later ns i) :=
  h.same

theorem wrOctet (h : Keeps s t) (o inst k i b) : Keeps s (t.wrOctet o inst k i b) :=
  h.wr ..

theorem setFam (h : Keeps s t) (f x) : Keeps s (t.setFam f x) :=
  h.lists (ho := fun ho => by simp_all [State.ordered, State.setFam, sparseRising_set])

theorem setGroup (h : Keeps s t) (d g x) : Keeps s (t.setGroup d g x) :=
  h.lists (ho := fun ho => by simp_all [State.ordered, State.setGroup, sparseRising_set])

theorem freeTransit (h : Keeps s t) (d c) : Keeps s (t.freeTransit d c) :=
  h.setGroup ..

theorem emptyGroup (h : Keeps s t) (d g) : Keeps s (t.emptyGroup d g) :=
  .setGroup (.foldl h fun _ _ h => (h.freeTransit ..)) ..

theorem breakGroup (h : Keeps s t) (d g v) : Keeps s (t.breakGroup d g v) := by
  unfold State.breakGroup
  split
  · exact h
  · exact .later (.later (.wr (.wr (.emptyGroup (h.emptyGroup ..) ..) ..) ..) ..) ..

theorem setRc (h : Keeps s t) (pipe l) : Keeps s (t.setRc pipe l) :=
  h.same

theorem setSource (h : Keeps s t) (key e) : Keeps s (t.setSource key e) :=
  h.same

theorem setActive (h : Keeps s t) (kind target l) : Keeps s (t.setActive kind target l) :=
  h.same

theorem activate (h : Keeps s t) (key kind target) : Keeps s (t.activate key kind target) :=
  .setActive (h.setSource ..) ..

theorem unpresent (h : Keeps s t) (target keep) : Keeps s (t.unpresent target keep) :=
  h.same

theorem presentCore (h : Keeps s t) (target) : Keeps s (t.presentCore target) :=
  .ite (by split; (exact .ite (h.unpresent ..) (.emit (.setSource (h.unpresent ..) ..) ..); exact h.unpresent ..)) (h.unpresent ..)

theorem sendVector (h : Keeps s t) (n target) : Keeps s (State.sendVector n t target) := by
  induction n generalizing t with
  | zero => exact h
  | succ n ih =>
    unfold State.sendVector
    split
    · split
      · exact ih (.emit (h.activate ..) ..)
      · exact h
    · exact h

theorem serveTarget (h : Keeps s t) (kind target) : Keeps s (t.serveTarget kind target) :=
  .ite (h.presentCore ..) (.ite (h.sendVector ..) h)

theorem wakeTarget (h : Keeps s t) (kind target) : Keeps s (t.wakeTarget kind target) :=
  .ite (.emit h.same ..) h

theorem signalPme (h : Keeps s t) (kind target) : Keeps s (t.signalPme kind target) :=
  .ite (h.emit ..) h

theorem startWake (h : Keeps s t) (reason source) : Keeps s (t.startWake reason source) :=
  .ite h (.ite (.later (.later (.wr (.wr (h.wr ..) ..) ..) ..) ..) (.later (.wr (.wr (h.wr ..) ..) ..) ..))

theorem wakePackage (h : Keeps s t) (wake code) : Keeps s (t.wakePackage wake code) :=
  .ite (h.startWake ..) h

theorem wakeFault (h : Keeps s t) (d source) : Keeps s (t.wakeFault d source) :=
  .ite (h.startWake ..) h

theorem fire (h : Keeps s t) (d n) : Keeps s (t.fire d n) :=
  .ite h (.ite (.bump (h.setSource ..) ..) (.serveTarget (.signalPme (.wakeTarget (.wakePackage (h.setSource ..) ..) ..) ..) ..))

theorem fireLead (h : Keeps s t) (n) : Keeps s (t.fireLead n) :=
  h.fire ..

theorem endEvent (h : Keeps s t) (kind target code) : Keeps s (t.endEvent kind target code) :=
  .serveTarget (.setSource (h.setActive ..) ..) ..

theorem serveSource (h : Keeps s t) (key) : Keeps s (t.serveSource key) :=
  h.serveTarget ..

theorem setLaneLink (h : Keeps s t) (n x) : Keeps s (t.setLaneLink n x) :=
  h.lists (ho := fun ho => by simp_all [State.ordered, State.setLaneLink, sparseRising_set])

theorem setPortLink (h : Keeps s t) (n x1) : Keeps s (t.setPortLink n x1) :=
  h.same

theorem sendTraining (h : Keeps s t) (n control status) : Keeps s (t.sendTraining n control status) :=
  .emit (h.setLaneLink ..) ..

theorem beginLane (h : Keeps s t) (p again n) : Keeps s (t.beginLane p again n) :=
  .sendTraining (.useFree (h.setLaneLink ..)) ..

theorem startTraining (h : Keeps s t) (n quick) : Keeps s (t.startTraining n quick) :=
  .ite (.foldl (.foldl (.wr (h.setPortLink ..) ..) fun _ _ h => (h.wr ..)) fun _ _ h => (h.beginLane ..)) (.emit (.foldl (.foldl (.wr
    (h.setPortLink ..) ..) fun _ _ h => (h.wr ..)) fun _ _ h => (h.setLaneLink ..)) ..)

theorem restartTraining (h : Keeps s t) (n) : Keeps s (t.restartTraining n) :=
  .foldl (.bump (h.setPortLink ..) ..) fun _ _ h => (h.beginLane ..)

theorem squelch (h : Keeps s t) (n) : Keeps s (t.squelch n) :=
  .foldl (.emit (h.wr ..) ..) fun _ _ h => (h.setLaneLink ..)

theorem beginDrain (h : Keeps s t) (n) : Keeps s (t.beginDrain n) :=
  .wr (h.setPortLink ..) ..

theorem codeFrame (h : Keeps s t) (n frame) : Keeps s (t.codeFrame n frame) :=
  .ite (h.setPortLink ..) h

theorem sendCodeword (h : Keeps s t) (n) : Keeps s (t.sendCodeword n) :=
  .emit (.setLaneLink (h.setPortLink ..) ..) ..

theorem linePort (h : Keeps s t) (n) : Keeps s (t.linePort n) :=
  .ite h (.ite (h.setPortLink ..) (.ite (.sendCodeword (.ite (.bump (h.setPortLink ..) ..) (h.setPortLink ..)) ..) (.ite (.bump
    (h.setPortLink ..) ..) (h.setPortLink ..))))

theorem lineClock (h : Keeps s t) : Keeps s t.lineClock :=
  .foldl h fun _ _ h => (h.linePort ..)

theorem nvs (h : Keeps s t) (hs : t.sound = true → u.dict.live.sound = true ∧ u.dict.nvs0.body.sound = true ∧ u.dict.nvs1.body.sound = true)
    (hu : u.core = { t with dict := { t.dict with live := u.dict.live, nvs0 := u.dict.nvs0, nvs1 := u.dict.nvs1 } }.core := by
      unfold State.core; rfl) : Keeps s u := by
  refine (h.trans (u := { t with dict := { t.dict with live := u.dict.live, nvs0 := u.dict.nvs0, nvs1 := u.dict.nvs1 } })
    ⟨rfl, rfl, fun ht => ?_, id⟩).trans (of_core hu)
  obtain ⟨hlive, h0, h1⟩ := hs ht
  simp only [State.sound, Bool.and_eq_true] at ht ⊢
  exact ⟨⟨⟨ht.1.1.1, hlive⟩, h0⟩, h1⟩

theorem ifWritable_sound {c c' : NvsCopy} (hc : c.body.sound = true) (hc' : c'.body.sound = true) :
    (if c.writable then c' else c).body.sound = true := by
  split <;> assumption

theorem bestNvs_sound (h : s.sound = true) : s.dict.bestNvs.sound = true := by
  simp only [State.sound, Bool.and_eq_true] at h
  unfold Dictionary.bestNvs
  split
  · exact h.1.2
  · split
    · exact h.2
    · exact h.1.1.2

theorem resetRegs_wf (s : State) (cause detail : Nat) (h : sparseWf Od.defaultAt s.dict.bestNvs.objects = true) :
    sparseWf Od.defaultAt (s.resetRegs cause detail) = true :=
  sparseWf_set _ _ _ _ (sparseWf_set _ _ _ _ (sparseWf_set _ _ _ _ (sparseWf_set _ _ _ _ (sparseWf_set _ _ _ _ (sparseWf_set _ _ _ _ h)))))

theorem engineReset (h : Keeps s t) (cause detail) : Keeps s (t.engineReset cause detail) := by
  refine h.trans ⟨rfl, rfl, fun hs => ?_, fun _ => rfl⟩
  have hbest := bestNvs_sound hs
  simp only [State.sound, Bool.and_eq_true] at hs ⊢
  exact ⟨⟨⟨resetRegs_wf t cause detail (by simp only [NvsBody.sound, Bool.and_eq_true] at hbest; exact hbest.1), hbest⟩, hs.1.2⟩, hs.2⟩

theorem pinReaction (h : Keeps s t) : Keeps s t.pinReaction :=
  .emit (.wr (.wr h.same ..) ..) ..

theorem setSpare (h : Keeps s t) (cls d group unit v) : Keeps s (t.setSpare cls d group unit v) :=
  .ite (h.wr ..) (.ite (h.wrOctet ..) (.ite (h.wrOctet ..) (.ite (h.wrOctet ..) (.ite (.ite (h.wrOctet ..) (h.wrOctet ..)) (.ite (h.wrOctet ..)
    (.ite (h.wrOctet ..) h.same))))))

theorem lampUpdate (h : Keeps s t) : Keeps s t.lampUpdate :=
  .ite (h.wr ..) h

theorem countRetired (h : Keeps s t) (cls) : Keeps s (t.countRetired cls) :=
  h.wr ..

theorem retire (h : Keeps s t) (cls d group unit source) : Keeps s (t.retire cls d group unit source) :=
  .ite (.lampUpdate (.fireLead (.fireLead (.countRetired h.same ..) ..) ..)) (.fireLead (.countRetired h.same ..) ..)

theorem handCore (h : Keeps s t) (x0) : Keeps s (t.handCore x0) :=
  .presentCore (.foldl (h.unpresent ..) fun _ _ h => (h.endEvent ..)) ..

theorem takeCore (h : Keeps s t) (d core) : Keeps s (t.takeCore d core) := by
  unfold State.takeCore
  extract_lets _ s1 _ s2 s3
  have hs1 : Keeps s s1 := h.wrOctet ..
  have hs2 : Keeps s s2 := .ite (.fire (.wrOctet (.same hs1) ..) ..) hs1
  have hs3 : Keeps s s3 := .handCore (.retire hs2 ..) ..
  exact .ite h (.ite (.same hs3) hs3)

theorem trapCore (h : Keeps s t) (d core) : Keeps s (t.trapCore d core) :=
  .emit (h.takeCore ..) ..

theorem resetCore (h : Keeps s t) (d core) : Keeps s (t.resetCore d core) :=
  .handCore h.same ..

theorem resetPort (h : Keeps s t) (n) : Keeps s (t.resetPort n) := by
  unfold State.resetPort
  split
  · exact h
  · exact .ite h (.startTraining (.ite (h.fire ..) h) ..)

theorem blockReset (h : Keeps s t) (die source location) : Keeps s (t.blockReset die source location) := by
  unfold State.blockReset
  extract_lets _ s1
  have hs1 : Keeps s s1 := .ite (h.resetPort ..) (.ite (h.breakGroup ..) (.ite (h.breakGroup ..) (.ite h.same (.ite (h.resetCore ..) h))))
  exact .emit hs1 ..

theorem react (h : Keeps s t) (mask die source location) : Keeps s (t.react mask die source location) := by
  unfold State.react
  extract_lets s1 s2 s3 s4
  have hs1 : Keeps s s1 := .ite h.pinReaction h
  have hs2 : Keeps s s2 := .ite (.fire hs1 ..) hs1
  have hs3 : Keeps s s3 := .ite (.trapCore hs2 ..) hs2
  have hs4 : Keeps s s4 := .ite (.blockReset hs3 ..) hs3
  exact .ite (.engineReset hs4 ..) hs4

theorem keepHistory (h : Keeps s t) (e) : Keeps s (t.keepHistory e) :=
  .ite h.same h

theorem newRecord (h : Keeps s t) (e mask) : Keeps s (t.newRecord e mask) :=
  .react (.keepHistory (.wr (.ite (.bump h.same ..) h.same) ..) ..) ..

theorem closeRecords (h : Keeps s t) : Keeps s t.closeRecords :=
  h.same

theorem recordFault (h : Keeps s t) (e) : Keeps s (t.recordFault e) := by
  unfold State.recordFault
  extract_lets s' _ _ s1 s1'
  have hs' : Keeps s s' := .closeRecords (h.wakeFault ..)
  have hs1 : Keeps s s1 := .same hs'
  have hs1' : Keeps s s1' := .same hs'
  split
  · exact .react hs1 ..
  · exact .ite (.react (.bump hs1' ..) ..) (.newRecord hs' ..)

theorem fault (h : Keeps s t) (die source cls location d0 d1) : Keeps s (t.fault die source cls location d0 d1) :=
  h.recordFault ..

theorem faultSpare (h : Keeps s t) (die source cls location d0 d1) : Keeps s (t.faultSpare die source cls location d0 d1) :=
  h.recordFault ..

theorem takeLead (h : Keeps s t) : Keeps s t.takeLead :=
  .fire (.fault (.wr h.same ..) ..) ..

theorem takeTime (h : Keeps s t) : Keeps s t.takeTime :=
  .fireLead (.ite (.emit h.same ..) h.same) ..

theorem portsDown (h : Keeps s t) (d) : Keeps s (t.portsDown d) :=
  .foldl h fun _ _ h => .ite (h.wr ..) h

theorem groupsDown (h : Keeps s t) (d) : Keeps s (t.groupsDown d) :=
  .foldl h fun _ _ h => .foldl h fun _ _ h => .ite (.wr (h.emptyGroup ..) ..) h

theorem recov (h : Keeps s t) (r) : Keeps s { t with recov := r } := h.same

theorem fence (h : Keeps s t) (d cause) : Keeps s (t.fence d cause) := by
  unfold State.fence
  extract_lets _ s1 _ _ s2 s3
  have hs1 : Keeps s s1 := .groupsDown (.portsDown h.same ..) ..
  have hs2 : Keeps s s2 := .ite (hs1.recov _) hs1
  have hs3 : Keeps s s3 := .ite (.takeTime hs2) hs2
  exact .ite h (.fire (.fault hs3 ..) ..)

theorem setWq (h : Keeps s t) (fn w x) : Keeps s (t.setWq fn w x) :=
  h.lists (ho := fun ho => by simp_all [State.ordered, State.setWq, sparseRising_set])

theorem setCq (h : Keeps s t) (fn c x2) : Keeps s (t.setCq fn c x2) :=
  h.same

theorem fireCq (h : Keeps s t) (fn c) : Keeps s (t.fireCq fn c) :=
  .ite (.fire (h.setCq ..) ..) h

theorem postEntry (h : Keeps s t) (fn c entry) : Keeps s (t.postEntry fn c entry) :=
  .fireCq (.wr (h.emit ..) ..) ..

theorem pumpCq (h : Keeps s t) (n fn c) : Keeps s (State.pumpCq n t fn c) := by
  induction n generalizing t with
  | zero => exact h
  | succ n ih =>
    unfold State.pumpCq
    dsimp only
    split
    · exact h
    · split
      · exact ih (.postEntry (h.setCq ..) ..)
      · exact ih (.postEntry (h.setCq ..) ..)
      · exact h

theorem serveCq (h : Keeps s t) (fn c) : Keeps s (t.serveCq fn c) :=
  .wr (h.pumpCq ..) ..

theorem giveCompletion (h : Keeps s t) (fn c entry) : Keeps s (t.giveCompletion fn c entry) :=
  .ite (.fire (.bump (.setCq (.serveCq (h.setCq ..) ..) ..) ..) ..) (.serveCq (h.setCq ..) ..)

theorem giveReport (h : Keeps s t) (fn c kind entry) : Keeps s (t.giveReport fn c kind entry) :=
  .ite (h.bump ..) (.serveCq (h.setCq ..) ..)

theorem coverTo (h : Keeps s t) (fn w last st forced aux user) : Keeps s (t.coverTo fn w last st forced aux user) :=
  .giveCompletion (h.wr ..) ..

theorem finishOps (h : Keeps s t) (n fn w) : Keeps s (State.finishOps n t fn w) := by
  induction n generalizing t with
  | zero => exact h
  | succ n ih =>
    unfold State.finishOps
    dsimp only
    split
    · exact h
    · split
      · exact h
      · exact ih (.ite (.coverTo (h.setWq ..) ..) (.ite (.coverTo (h.setWq ..) ..) (h.setWq ..)))

theorem completeToken (h : Keeps s t) (fn w token st aux) : Keeps s (t.completeToken fn w token st aux) :=
  .finishOps (h.setWq ..) ..

theorem schedReport (h : Keeps s t) (entry) : Keeps s (t.schedReport entry) :=
  .ite h (h.giveReport ..)

theorem addChange (h : Keeps s t) (epoch a value keeper writer) : Keeps s (t.addChange epoch a value keeper writer) :=
  .foldl h.same fun _ _ h => .ite (h.emit ..) (.later (h.emit ..) ..)

theorem gateEpoch (h : Keeps s t) (set old epoch) : Keeps s (t.gateEpoch set old epoch) :=
  h.same

theorem moveGates (h : Keeps s t) (set old new) : Keeps s (t.moveGates set old new) :=
  h.same

theorem cancelChanges (h : Keeps s t) (p st) : Keeps s (t.cancelChanges p st) :=
  .foldl (.foldl h.same fun _ _ h => (by split; (exact h.gateEpoch ..; exact h))) fun _ _ h => (h.schedReport ..)

theorem advanceGen (h : Keeps s t) : Keeps s t.advanceGen :=
  .same (h.wr ..)

theorem changeReg (h : Keeps s t) (key value tagged) : Keeps s (t.changeReg key value tagged) :=
  .same (h.setReg key value)

theorem flipBank (h : Keeps s t) (f a epoch tagged) : Keeps s (t.flipBank f a epoch tagged) := by
  unfold State.flipBank
  extract_lets _ _ s1
  have hs1 : Keeps s s1 := h.setFam ..
  exact .same hs1

theorem reportIdle (h : Keeps s t) (d mask) : Keeps s (t.reportIdle d mask) :=
  h.same

theorem announceRelease (h : Keeps s t) (x0) : Keeps s (t.announceRelease x0) :=
  .fireLead (h.schedReport ..) ..

theorem touchFam (h : Keeps s t) (f writer) : Keeps s (t.touchFam f writer) :=
  h.setFam ..

theorem orphan (h : Keeps s t) (writer) : Keeps s (t.orphan writer) :=
  .ite (.foldl h fun _ _ h => (h.setFam ..)) (.fireLead (.wr (.foldl h fun _ _ h => (h.setFam ..)) ..) ..)

theorem adopt (h : Keeps s t) (f) : Keeps s (t.adopt f) :=
  .ite (h.setFam ..) (.wr (h.setFam ..) ..)

theorem toTimeState (h : Keeps s t) (v) : Keeps s (t.toTimeState v) := by
  unfold State.toTimeState
  extract_lets s1
  have hs1 : Keeps s s1 := .wr (h.wr ..) ..
  exact .ite h (.fireLead (.same hs1) ..)

theorem sourceQualifies (h : Keeps s t) : Keeps s t.sourceQualifies :=
  .ite (h.toTimeState ..) h

theorem sourceLost (h : Keeps s t) : Keeps s t.sourceLost :=
  .ite (h.toTimeState ..) (.ite (h.toTimeState ..) h)

theorem decideStep (h : Keeps s t) (offset) : Keeps s (t.decideStep offset) :=
  h.same

theorem refuseStep (h : Keeps s t) (offset) : Keeps s (t.refuseStep offset) :=
  .fireLead (.ite (.wr (.wr (.wr h.same ..) ..) ..) (.wr (.wr h.same ..) ..)) ..

theorem measure (h : Keeps s t) (offset) : Keeps s (t.measure offset) := by
  unfold State.measure
  extract_lets s1 _ _ _ s2
  have hs1 : Keeps s s1 := h.wr ..
  have hs2 : Keeps s s2 := .same hs1
  exact .ite (.ite (.ite (.refuseStep hs1 ..) (.decideStep hs1 ..)) (.ite (.toTimeState hs2 ..) hs2)) (.ite (.same hs1) hs1)

theorem advance (h : Keeps s t) : Keeps s t.advance :=
  h.same

theorem applyTod (h : Keeps s t) (v) : Keeps s (t.applyTod v) :=
  .measure (.sourceQualifies h.same) ..

theorem retimeTimers (h : Keeps s t) (forward) : Keeps s (t.retimeTimers forward) :=
  .foldl h fun _ _ h => .ite (.ite (.wr (.same (.ite (h.fire ..) h)) ..) (.ite (h.fire ..) h)) (.same (.ite (h.fire ..) h))

theorem good (h : Keeps s t) : Keeps s (WriteRes.good t).state :=
  h

theorem refuse (h : Keeps s t) (st) : Keeps s (WriteRes.refuse t st).state :=
  h

theorem setHolder (h : Keeps s t) (a principal) : Keeps s (t.setHolder a principal) :=
  h.same

theorem dropHolder (h : Keeps s t) (key) : Keeps s (t.dropHolder key) :=
  h.same

theorem busy (h : Keeps s t) (key) : Keeps s (WriteRes.busy t key).state :=
  h

theorem claim (h : Keeps s t) (c) : Keeps s (t.claim c).state :=
  .iteWr (h.busy ..) (.iteWr (.good (.dropHolder (h.setReg ..) ..)) (.iteWr (.good (h.setReg ..)) (.good (.setHolder (h.setReg ..) ..))))

theorem store (h : Keeps s t) (c) : Keeps s (t.store c).state :=
  h.setReg ..

theorem storeCq (h : Keeps s t) (c kind) : Keeps s (t.storeCq c kind).state := by
  unfold State.storeCq
  split
  · exact .iteWr (h.store ..) (.iteWr (h.refuse ..) (.good (.same (h.store ..))))
  · exact .iteWr (h.store ..) (h.refuse ..)

theorem setTod (h : Keeps s t) (v) : Keeps s (t.setTod v) :=
  .ite (.fireLead h.same ..) h.same

theorem schedCancel (h : Keeps s t) (v) : Keeps s (t.schedCancel v).state :=
  .iteWr (h.refuse ..) (by split; (exact h.refuse ..; exact .iteWr (.good (h.cancelChanges ..)) (h.refuse ..)))

theorem writeTime (h : Keeps s t) (c) : Keeps s (t.writeTime c).state := by
  unfold State.writeTime
  extract_lets _ _ s1
  have hs1 : Keeps s s1 := h.store ..
  refine .iteWr (.iteWr (.good (.toTimeState (.same hs1) ..)) (.good hs1)) (.iteWr (.good (h.setTod ..)) (.iteWr (.iteWr (h.refuse ..) (h.store ..))
      (.iteWr (.iteWr (h.refuse ..) (h.store ..)) (.iteWr ?_ (.iteWr (h.claim ..) (.iteWr (h.schedCancel ..) (.iteWr (h.storeCq ..)
      (h.store ..))))))))
  split
  · exact h.refuse ..
  · exact .good (h.decideStep ..)

theorem armTimer (h : Keeps s t) (d x1) : Keeps s (t.armTimer d x1) := by
  unfold State.armTimer
  extract_lets _ _ _ s1 _ s2
  have hs1 : Keeps s s1 := h.wr ..
  have hs2 : Keeps s s2 := .fire hs1 ..
  exact .ite (.same hs1) (.ite (.wr hs2 ..) (.same hs2))

theorem disarmTimer (h : Keeps s t) (d x1) : Keeps s (t.disarmTimer d x1) :=
  .wr h.same ..

theorem writeSource (h : Keeps s t) (c d n) : Keeps s (t.writeSource c d n).state :=
  .iteWr (h.refuse ..) (.iteWr (h.refuse ..) (.iteWr (h.refuse ..) (.iteWr (h.refuse ..) (.iteWr (h.refuse ..) (.good (.serveSource (.serveTarget
    (.wr (h.setSource ..) ..) ..) ..))))))

theorem writeEvents (h : Keeps s t) (c) : Keeps s (t.writeEvents c).state := by
  unfold State.writeEvents
  extract_lets _ _ _ _ _ r
  have hr : Keeps s r.state := h.claim ..
  refine .iteWr (h.writeSource ..) (.iteWr (.iteWr (.iteWr (.disarmTimer hr ..) hr) (.iteWr (h.busy ..) (.iteWr (h.refuse ..) (.iteWr (.good (.ite
      (h.armTimer ..) (h.disarmTimer ..))) (h.store ..))))) (.iteWr ?_ (h.store ..)))
  split
  · exact .iteWr (.good (h.endEvent ..)) (h.refuse ..)
  · exact h.refuse ..

theorem setSlice (h : Keeps s t) (o x) : Keeps s (t.setSlice o x) :=
  h.lists (ho := fun ho => by simp_all [State.ordered, State.setSlice, sparseRising_set])

theorem fireLane (h : Keeps s t) (n) : Keeps s (t.fireLane n) :=
  h.fire ..

theorem listenOn (h : Keeps s t) (o l) : Keeps s (t.listenOn o l) :=
  .wr (h.setSlice ..) ..

theorem judgeSlice (h : Keeps s t) (o) : Keeps s (t.judgeSlice o) :=
  .ite (.ite (h.wr ..) (.listenOn (h.wr ..) ..)) h

theorem judgeSlices (h : Keeps s t) : Keeps s t.judgeSlices :=
  .foldl h fun _ _ h => (h.judgeSlice ..)

theorem turnSlices (h : Keeps s t) : Keeps s t.turnSlices :=
  .foldl h fun _ _ h => .ite (.useFree (h.later ..)) h

theorem startJob (h : Keeps s t) (o j) : Keeps s (t.startJob o j) :=
  .wr (h.setSlice ..) ..

theorem endJob (h : Keeps s t) (o j) : Keeps s (t.endJob o j) := by
  unfold State.endJob
  extract_lets _ _ _ s1 s1' s2
  have hs1 : Keeps s s1 := .wr (.wr (.wr (h.setSlice ..) ..) ..) ..
  have hs1' : Keeps s s1' := .wr (.wr (.wr (h.setSlice ..) ..) ..) ..
  have hs2 : Keeps s s2 := .fireLane hs1' ..
  exact .ite (.fireLane (by split; (exact .startJob hs1 ..; exact .judgeSlice hs1 ..)) ..) (.ite (.retire (.fireLead (.recordFault hs2 ..) ..) ..) hs2)

theorem loseNvs (h : Keeps s t) (e) : Keeps s (t.loseNvs e) :=
  .ite h (.ite h.same h.same)

theorem startLamp (h : Keeps s t) : Keeps s t.startLamp :=
  .emit h.same ..

theorem lampClock (h : Keeps s t) : Keeps s t.lampClock := by
  unfold State.lampClock
  refine .ite h ?_
  dsimp only
  split <;> split <;> exact h.same

theorem releaseFaultN (h : Keeps s t) : Keeps s t.releaseFaultN.state :=
  .iteWr (h.refuse ..) (.good (.startLamp (.emit (.wr (.wr h.same ..) ..) ..)))

theorem spareTested (h : Keeps s t) (cls d group unit pass) : Keeps s (t.spareTested cls d group unit pass) :=
  .ite h (.ite (.judgeSlice (h.setSlice ..) ..) (.ite (h.setSpare ..) (.retire (h.setSpare ..) ..)))

theorem keeperClaim (h : Keeps s t) (d v) : Keeps s (t.keeperClaim d v) :=
  .ite (.fireLead (.setHolder (h.wr ..) ..) ..) (.setHolder (h.wr ..) ..)

theorem octetDown (h : Keeps s t) (d o) : Keeps s (t.octetDown d o) :=
  .foldl h fun _ _ h => .ite (.fire (h.wr ..) ..) h

theorem moveOctet (h : Keeps s t) (d egress o) : Keeps s (t.moveOctet d egress o) :=
  .fire (.fireLead (.wrOctet (.setSpare (.ite h (h.setRc ..)) ..) ..) ..) ..

theorem failOver (h : Keeps s t) (d egress p items tag) : Keeps s (t.failOver d egress p items tag) := by
  unfold State.failOver
  extract_lets _ _ _ s1 s2
  have hs1 : Keeps s s1 := h.recordFault ..
  have hs2 : Keeps s s2 := .keeperClaim (.retire hs1 ..) ..
  split
  · exact h
  · exact .ite (.ite (.moveOctet hs2 ..) (.same hs2)) (.octetDown (.retire hs1 ..) ..)

theorem takeoverDone (h : Keeps s t) (d egress pass) : Keeps s (t.takeoverDone d egress pass) := by
  unfold State.takeoverDone
  split
  · exact h
  · exact .ite (.moveOctet h.same ..) (.octetDown (.retire (.setSpare h.same ..) ..) ..)

theorem migrate (h : Keeps s t) (d o) : Keeps s (t.migrate d o) :=
  .keeperClaim (.setSpare (.setSpare (.wrOctet (.wrOctet (h.setRc ..) ..) ..) ..) ..) ..

theorem recoveryCancel (h : Keeps s t) : Keeps s t.recoveryCancel :=
  h.cancelChanges ..

theorem setCounter (h : Keeps s t) (d c v) : Keeps s (t.setCounter d c v) :=
  h.same

theorem addCounter (h : Keeps s t) (d c n) : Keeps s (t.addCounter d c n) :=
  h.setCounter ..

theorem macCount (h : Keeps s t) (n k by_) : Keeps s (t.macCount n k by_) :=
  h.addCounter ..

theorem scrubCounter (h : Keeps s t) (d c correctable) : Keeps s (t.scrubCounter d c correctable) :=
  .ite (h.fault ..) (.fault (.bump (h.setCounter ..) ..) ..)

theorem bwCount (h : Keeps s t) (n bytes tx) : Keeps s (t.bwCount n bytes tx) :=
  h.same

theorem countControl (h : Keeps s t) (n tx pfc) : Keeps s (t.countControl n tx pfc) :=
  .ite (.macCount (.bwCount (.macCount (h.macCount ..) ..) ..) ..) (.bwCount (.macCount (h.macCount ..) ..) ..)

theorem bwReport (h : Keeps s t) (n stop tick ticks) : Keeps s (t.bwReport n stop tick ticks) :=
  .wr (.wr (.wr (.wr (h.wr ..) ..) ..) ..) ..

theorem addSample (h : Keeps s t) (d record) : Keeps s (t.addSample d record) :=
  .ite h (.ite (.bump (.same h.same) ..) (.wr (.same h.same) ..))

theorem sampleDispatch (h : Keeps s t) (p egress) : Keeps s (t.sampleDispatch p egress).1 :=
  .iteFst h (.iteFst (.same h.useFree) (.iteFst (.bump (.same h.useFree) ..) h.same))

theorem writeWindow (h : Keeps s t) (c) : Keeps s (t.writeWindow c).state := by
  unfold State.writeWindow
  split
  · exact .iteWr (h.refuse ..) (.iteWr (h.refuse ..) (h.store ..))
  · exact h.refuse ..

theorem writeBw (h : Keeps s t) (c) : Keeps s (t.writeBw c).state := by
  unfold State.writeBw
  extract_lets t'
  have ht' : Keeps s t' := h.store ..
  exact .good (.same ht')

theorem writeCounters (h : Keeps s t) (c) : Keeps s (t.writeCounters c).state :=
  .iteWr (h.writeWindow ..) (.iteWr (h.writeBw ..) (.iteWr (h.storeCq ..) (.iteWr (.iteWr (h.refuse ..) (h.store ..)) (h.store ..))))

theorem resetPortObjects (h : Keeps s t) (n) : Keeps s (t.resetPortObjects n) := by
  refine (h.regs (u := { t with regs := (t.resetPortObjects n).regs }) (sparseWf_filter _ _ _)).lists (ho := fun ho => ?_)
  simp only [State.ordered, State.resetPortObjects, Bool.and_eq_true] at ho ⊢
  simp only [ho, sparseRising_erase, and_self]

theorem newMode (h : Keeps s t) (n v) : Keeps s (t.newMode n v) :=
  .ite h (.wr (h.resetPortObjects ..) ..)

theorem enablePort (h : Keeps s t) (n v) : Keeps s (t.enablePort n v).2 := by
  unfold State.enablePort
  extract_lets _ s1
  have hs1 : Keeps s s1 := h.wr ..
  exact .iteSnd (.iteSnd (.startTraining (.setPortLink hs1 ..) ..) (.iteSnd (.wr hs1 ..) (.iteSnd hs1 hs1))) (.iteSnd (.squelch hs1 ..) (.iteSnd
      (.beginDrain hs1 ..) (.iteSnd (.wr hs1 ..) hs1)))

theorem setRateGroup (h : Keeps s t) (n v) : Keeps s (t.setRateGroup n v).state :=
  .iteWr (h.refuse ..) (.good (.wr (.foldl h fun _ _ h => .ite (h.newMode ..) h) ..))

theorem writePorts (h : Keeps s t) (c) : Keeps s (t.writePorts c).state := by
  unfold State.writePorts
  extract_lets _ _ _ r t'
  have hr : Keeps s r.2 := h.enablePort ..
  have ht' : Keeps s t' := h.store ..
  refine .iteWr ?_ (.iteWr (h.refuse ..) (.iteWr hr (.iteWr (.good (.ite (.startTraining ht' ..) ht')) (.iteWr (.iteWr (h.refuse ..) (h.store ..))
      (.iteWr (h.setRateGroup ..) (h.store ..))))))
  split
  · exact .good (h.newMode ..)
  · exact h.refuse ..

theorem setTap (h : Keeps s t) (n x1 v) : Keeps s (t.setTap n x1 v) :=
  h.wrOctet ..

theorem answerTap (h : Keeps s t) (n tap request) : Keeps s (t.answerTap n tap request).1 :=
  .iteFst h (.iteFst h (.iteFst (.foldl h fun _ _ h => (h.setTap ..)) (.iteFst h (h.setTap ..))))

theorem stopJob (h : Keeps s t) (o j) : Keeps s (t.stopJob o j) :=
  .ite (h.endJob ..) (.fireLane (.judgeSlice (.wr (.wr (h.setSlice ..) ..) ..) ..) ..)

theorem linkLost (h : Keeps s t) (n) : Keeps s (t.linkLost n) := by
  unfold State.linkLost
  extract_lets _ s0 s1 s2 s3
  have hs0 : Keeps s s0 := .ite h.sourceLost h
  have hs1 : Keeps s s1 := .fireLane (.wr hs0 ..) ..
  have hs2 : Keeps s s2 := by unfold s2; split; (exact .ite (.stopJob hs1 ..) hs1; exact hs1)
  have hs3 : Keeps s s3 := .judgeSlice (.foldl hs2 fun _ _ h => (h.setLaneLink ..)) ..
  exact .ite h (.ite (.later hs3 ..) hs3)

theorem preempt (h : Keeps s t) (o lane) : Keeps s (t.preempt o lane) :=
  .foldl (h.cancelChanges ..) fun _ _ h => (h.fireLane ..)

theorem countWindow (h : Keeps s t) (n p trigger heavy lost) : Keeps s (t.countWindow n p trigger heavy lost) :=
  .ite (.ite (.useFree (.bump (.wr (h.bump ..) ..) ..)) (.bump (.wr (h.bump ..) ..) ..)) (h.bump ..)

theorem applyChangeover (h : Keeps s t) (a lane) : Keeps s (t.applyChangeover a lane) :=
  .ite (.ite (h.startJob ..) (h.fireLane ..)) (.ite (h.setSlice ..) h)

theorem setTbl (h : Keeps s t) (bank x1 index v) : Keeps s (t.setTbl bank x1 index v) :=
  h.same

theorem moveChain (h : Keeps s t) (x bank l) : Keeps s (t.moveChain x bank l) := by
  induction l generalizing t with
  | nil => exact h
  | cons a l ih =>
    cases l with
    | nil => exact h
    | cons b rest => exact ih (.setTbl (h.setTbl ..) ..)

theorem hashInsert (h : Keeps s t) {x bank r} (hu : t.hashInsert x bank r = some u) : Keeps s u := by
  unfold State.hashInsert at hu
  dsimp only at hu
  split at hu
  · cases hu
    exact h.setTbl ..
  · split at hu
    · cases hu
      exact h.setTbl ..
    · split at hu
      · cases hu
      · obtain ⟨i, -, rfl⟩ := Option.map_eq_some_iff.mp hu
        exact .setTbl (h.moveChain ..) ..

theorem refreshMarkers (h : Keeps s t) (x0 bank vrf l) : Keeps s (t.refreshMarkers x0 bank vrf l) :=
  .foldl h fun _ _ h => (by split; (exact h.setTbl ..; exact h))

theorem trimMarker (h : Keeps s t) (x0 bank vrf p len m) : Keeps s (t.trimMarker x0 bank vrf p len m) := by
  unfold State.trimMarker
  dsimp only
  split
  · exact h
  · exact .ite h (.ite (h.setTbl ..) (h.setTbl ..))

theorem lpmDelete (h : Keeps s t) (x0 bank r) : Keeps s (t.lpmDelete x0 bank r).2 := by
  unfold State.lpmDelete
  dsimp only
  split
  · exact h
  · exact .iteSnd h (.iteSnd h (.refreshMarkers (.foldl (.ite (.setTbl (h.setTbl ..) ..) (h.setTbl ..)) fun _ _ h => (h.trimMarker ..)) ..))

theorem fillBuckets (h : Keeps s t) (bank grp r) : Keeps s (t.fillBuckets bank grp r) :=
  .foldl (.foldl h fun _ _ h => (h.setTbl ..)) fun _ _ h => .ite h (h.setTbl ..)

theorem rehash (h : Keeps s t) (x0) : Keeps s (t.rehash x0) :=
  .fireLead (h.bump ..) ..

theorem addMarker (h : Keeps s t) {x bank vrf p len m} (hu : t.addMarker x bank vrf p len m = some u) : Keeps s u := by
  unfold State.addMarker at hu
  dsimp only at hu
  split at hu
  · cases hu
    exact h.setTbl ..
  · exact h.hashInsert hu

theorem addMarkers {x bank vrf p len} (l : List Nat) {o : Option State} (ho : ∀ u, o = some u → Keeps s u)
    (hu : l.foldl (fun a m => a.bind fun y => y.addMarker x bank vrf p len m) o = some u) : Keeps s u := by
  induction l generalizing o with
  | nil => exact ho u hu
  | cons m l ih =>
    refine ih (fun v hv => ?_) hu
    obtain ⟨y, hy, hv⟩ := Option.bind_eq_some_iff.mp hv
    exact (ho y hy).addMarker hv

theorem lpmInsert (h : Keeps s t) {x bank r} (hu : t.lpmInsert x bank r = some u) : Keeps s u := by
  unfold State.lpmInsert at hu
  dsimp only at hu
  split at hu
  · cases hu
  · obtain ⟨y, hy, rfl⟩ := Option.map_eq_some_iff.mp hu
    exact .refreshMarkers (addMarkers _ (fun _ => h.hashInsert) hy) ..

theorem applyRecord (h : Keeps s t) (bank x index r delete) : Keeps s (t.applyRecord bank x index r delete).2 := by
  have hput : ∀ f : Option State, (∀ u, f = some u → Keeps s u) →
      Keeps s (match f with | some y => (Status.ok, y) | none => (Status.tableFull, t.rehash x)).2 := fun f hf => by
    split
    · exact hf _ rfl
    · exact h.rehash ..
  refine .iteSnd (.iteSnd (.iteSnd (.iteSnd (h.rehash ..) (h.lpmDelete ..)) (.iteSnd h (hput _ fun _ => h.lpmInsert)))
    (.iteSnd ?_ (.iteSnd h (hput _ fun _ => h.hashInsert))))
    (.iteSnd h (.iteSnd h (.iteSnd (h.setTbl ..) (.iteSnd h (.iteSnd h (.ite (.fillBuckets (h.setTbl ..) ..) (h.setTbl ..)))))))
  split
  · exact h.setTbl ..
  · exact h

theorem logWrite (h : Keeps s t) (f x1) : Keeps s (t.logWrite f x1) :=
  .ite h (.ite (h.setFam ..) (h.setFam ..))

theorem searchFault (h : Keeps s t) (die own set banks o) : Keeps s (t.searchFault die own set banks o) :=
  .ite (h.fault ..) h

theorem putRow (h : Keeps s t) (key r) : Keeps s (t.putRow key r) :=
  h.same

theorem dropRow (h : Keeps s t) (key) : Keeps s (t.dropRow key) :=
  h.same

theorem gated (h : Keeps s t) {x} (hx : Keeps s x.2) : Keeps s (gated t x).2 :=
  .iteSnd h hx

theorem moveRow (h : Keeps s t) (banks per m) : Keeps s (t.moveRow banks per m) := by
  unfold State.moveRow
  split
  · exact .dropRow (h.putRow ..) ..
  · exact h

theorem placeRow (h : Keeps s t) (set banks lo hi r) : Keeps s (t.placeRow set banks lo hi r).2 := by
  unfold State.placeRow
  dsimp only
  split
  · exact h.fireLead ..
  · exact .putRow (.foldl h fun _ _ h => (h.moveRow ..)) ..

theorem insertRow (h : Keeps s t) (set banks r) : Keeps s (t.insertRow set banks r).2 :=
  h.placeRow ..

theorem asaInsert (h : Keeps s t) (set shadow key mask priority result) : Keeps s (t.asaInsert set shadow key mask priority result).2 := by
  unfold State.asaInsert
  dsimp only
  split
  · exact .gated h (h.insertRow ..)
  · exact .iteSnd h (.iteSnd (.iteSnd (h.putRow ..) (.iteSnd (.gated h (.insertRow (h.dropRow ..) ..)) (h.fireLead ..))) (.iteSnd (.iteSnd (.gated h
      (.insertRow (h.putRow ..) ..)) (h.fireLead ..)) (.iteSnd (.gated h (.putRow (h.putRow ..) ..)) (.iteSnd (.gated h (.placeRow
      (h.putRow ..) ..)) (h.fireLead ..)))))

theorem asaDelete (h : Keeps s t) (set shadow key mask) : Keeps s (t.asaDelete set shadow key mask).2 := by
  unfold State.asaDelete
  dsimp only
  split
  · exact h
  · exact .iteSnd h (.iteSnd (h.dropRow ..) (.iteSnd h (.gated h (h.putRow ..))))

theorem applyAsa (h : Keeps s t) (r delete held) : Keeps s (t.applyAsa r delete held).2 :=
  .iteSnd h (.iteSnd h (.iteSnd h (.iteSnd h (.iteSnd (h.asaDelete ..) (h.asaInsert ..)))))

theorem resolveGates (h : Keeps s t) (set epoch) : Keeps s (t.resolveGates set epoch) :=
  h.same

theorem newRcGen (h : Keeps s t) (set epoch) : Keeps s (t.newRcGen set epoch) :=
  .ite h h.same

theorem setReserved (h : Keeps s t) (d path v) : Keeps s (t.setReserved d path v) :=
  h.same

theorem markCells (h : Keeps s t) (d l) : Keeps s (t.markCells d l) :=
  h.cells (sparseRising_foldl _ (fun _ _ => sparseRising_put _ _ _ none (by simp)) _ _)

theorem setHeld (h : Keeps s t) (d port l) : Keeps s (t.setHeld d port l) :=
  h.same

theorem refill (h : Keeps s t) (d o) : Keeps s (t.refill d o) :=
  .same (t := t) h

theorem refillDie (h : Keeps s t) (d) : Keeps s (t.refillDie d) :=
  .foldl h fun _ _ h => (h.refill ..)

theorem sendXoff (h : Keeps s t) (n g) : Keeps s (t.sendXoff n g) :=
  .later (.emit (.countControl (h.xoff (sparseRising_put _ _ _ none (by simp))) ..) ..) ..

theorem judgePfc (h : Keeps s t) (n g) : Keeps s (t.judgePfc n g) := by
  unfold State.judgePfc
  dsimp only
  split
  · exact .ite (.bump (h.sendXoff ..) ..) h
  · exact .ite (.emit (.countControl (h.xoff (sparseRising_erase _ _ none)) ..) ..) h

theorem chargePg (h : Keeps s t) (n g cells) : Keeps s (t.chargePg n g cells) :=
  .judgePfc (h.wr ..) ..

theorem dischargePg (h : Keeps s t) (n g cells) : Keeps s (t.dischargePg n g cells) :=
  .judgePfc (h.wr ..) ..

theorem noteF (h : Keeps s t) (d) : Keeps s (t.noteF d) :=
  .ite h h.same

theorem fMoved (h : Keeps s t) (d) : Keeps s (t.fMoved d) :=
  .foldl (.noteF (h.refillDie ..) ..) fun _ _ h => (h.judgePfc ..)

theorem drawReserve (h : Keeps s t) (d l n) : Keeps s (t.drawReserve d l n) := by
  induction l generalizing t n with
  | nil => exact h
  | cons p rest ih => exact ih (h.setReserved ..) _

theorem clockRefuse {t : AllocClock} (h : Keeps s t.state) (d q) : Keeps s (AllocClock.refuse t d q).state :=
  .iteClock (h.bump ..) (.ite (.bump (h.bump ..) ..) (h.bump ..))

theorem clockTake {t : AllocClock} (h : Keeps s t.state) (d q) : Keeps s (AllocClock.take t d q).state := by
  unfold AllocClock.take
  dsimp only
  split
  · exact .iteClock (h.clockRefuse ..) h
  · exact .iteClock (.setHeld (.markCells (.ite (h.drawReserve ..) h) ..) ..) (.setHeld (.markCells (.ite (h.drawReserve ..) h) ..) ..)

theorem allocClock (h : Keeps s t) (d reqs) : Keeps s (t.allocClock d reqs) :=
  .same (.foldlClock h fun _ _ h => h.clockTake ..)

theorem takeCells (h : Keeps s t) (d port path cls fuel n) : Keeps s (t.takeCells d port path cls fuel n).1 := by
  induction fuel generalizing t n with
  | zero => exact h
  | succ fuel ih =>
    cases n with
    | zero => exact h
    | succ n =>
      rw [State.takeCells.eq_3 _ _ _ _ _ _ _ (Nat.succ_ne_zero n)]
      split
      · exact ih (h.setHeld ..) _
      · split
        · dsimp only
          split
          · exact ih (.markCells (h.setReserved ..) ..) _
          · exact h
        · exact ih (.setHeld (h.markCells ..) ..) _

theorem linkCells_rising (d last bytes : Nat) (l : List Nat) (m : Sparse Cell) (h : sparseRising none m = true) :
    sparseRising none (linkCells m d last bytes l) = true := by
  induction l generalizing m bytes with
  | nil => exact h
  | cons c l ih =>
    cases l with
    | nil => exact sparseRising_put _ _ _ none (by simp) h
    | cons n rest => exact ih _ _ (sparseRising_put _ _ _ none (by simp) h)

theorem openRecord (h : Keeps s t) (d port path cls bytes kind id) : Keeps s (t.openRecord d port path cls bytes kind id).1 := by
  unfold State.openRecord
  extract_lets _ x _ _ _ _ _ s1
  have hx : Keeps s x.1 := h.takeCells ..
  clear_value x
  have hs1 : Keeps s s1 := hx.useFree.cells fun hc => linkCells_rising _ _ _ _ _ hc
  exact hs1.fMoved ..

theorem setRecord (h : Keeps s t) (d head r) : Keeps s (t.setRecord d head r) :=
  h.same

theorem returnCells (h : Keeps s t) (d head) : Keeps s (t.returnCells d head) :=
  .fMoved (h.cells (sparseRising_foldl _ (fun _ _ => sparseRising_erase _ _ none) _ _)) ..

theorem cellFault (h : Keeps s t) (o d head tag kind id) : Keeps s (t.cellFault o d head tag kind id) :=
  .fault (h.bump ..) ..

theorem decrement (h : Keeps s t) (d head kind id r) : Keeps s (t.decrement d head kind id r) :=
  .ite (h.cellFault ..) (.ite (h.returnCells ..) (h.setRecord ..))

theorem releasePacket (h : Keeps s t) (d head kind id) : Keeps s (t.releasePacket d head kind id) := by
  unfold State.releasePacket
  split
  · exact h.cellFault ..
  · exact .ite (h.decrement ..) (.ite (h.cellFault ..) (.ite (h.cellFault ..) (.ite (h.cellFault ..) (.ite (.returnCells (h.setRecord ..) ..)
      (h.setRecord ..)))))

theorem freePacket (h : Keeps s t) (d head tag kind id) : Keeps s (t.freePacket d head tag kind id) := by
  unfold State.freePacket
  split
  · exact h.cellFault ..
  · exact .ite (h.decrement ..) (.ite (h.cellFault ..) (.ite (h.cellFault ..) (.ite (h.returnCells ..) (h.setRecord ..))))

theorem giveTo (h : Keeps s t) (d head kind id users) : Keeps s (t.giveTo d head kind id users) := by
  unfold State.giveTo
  split
  · exact h
  · exact h.setRecord ..

theorem cutChain (h : Keeps s t) (d c) : Keeps s (t.cutChain d c) := by
  unfold State.cutChain
  split
  · exact h.cells (sparseRising_put _ _ _ none (by simp))
  · exact h

theorem setPacket (h : Keeps s t) (p k) : Keeps s (t.setPacket p k) :=
  h.same

theorem addFlight (h : Keeps s t) (d g) : Keeps s (t.addFlight d g) :=
  h.same

theorem dropFlight (h : Keeps s t) (d g) : Keeps s (t.dropFlight d g) :=
  h.same

theorem endPass (h : Keeps s t) (k) : Keeps s (t.endPass k) :=
  .ite (.dischargePg (.ite (h.dropFlight ..) h) ..) (.ite (h.dropFlight ..) h)

theorem removePacket (h : Keeps s t) (p) : Keeps s (t.removePacket p) :=
  h.same

theorem endIngress (h : Keeps s t) (p k) : Keeps s (t.endIngress p k) :=
  .endPass (h.removePacket ..) ..

theorem dropPacket (h : Keeps s t) (p k) : Keeps s (t.dropPacket p k) :=
  .freePacket (h.endIngress ..) ..

theorem toPunt (h : Keeps s t) (p k reason) : Keeps s (t.toPunt p k reason) :=
  h.setPacket ..

theorem startFrame (h : Keeps s t) (n g hv born frame) : Keeps s (t.startFrame n g hv born frame) := by
  unfold State.startFrame
  extract_lets _ _ _ _ _ x _ _ _ s1 _ s2 s3
  have hx : Keeps s x.1 := h.openRecord ..
  clear_value x
  have hs1 : Keeps s s1 := .same hx
  have hs2 : Keeps s s2 := .ite (.same hs1) hs1
  have hs3 : Keeps s s3 := .chargePg hs2 ..
  exact .ite hs3 (.refill hs3 ..)

theorem dropStart (h : Keeps s t) (n g) : Keeps s (t.dropStart n g) :=
  .ite (.bump (.bump (h.bump ..) ..) ..) (.bump (h.bump ..) ..)

theorem dropWaiting (h : Keeps s t) (w) : Keeps s (t.dropWaiting w) :=
  .dropStart (h.dropFlight ..) ..

theorem setWaiting (h : Keeps s t) (d o l) : Keeps s (t.setWaiting d o l) :=
  h.same

theorem retryStarts (h : Keeps s t) (d o) : Keeps s (t.retryStarts d o) :=
  .foldl h fun _ _ h => .ite (.startFrame (h.setWaiting ..) ..) (h.bump ..)

theorem tryStart (h : Keeps s t) (n frame) : Keeps s (t.tryStart n frame) :=
  .ite (.startFrame (.addFlight (h.retryStarts ..) ..) ..) (.ite (.later (.setWaiting (.bump (.addFlight (h.retryStarts ..) ..) ..) ..) ..)
    (.dropStart (.dropFlight (.bump (.addFlight (h.retryStarts ..) ..) ..) ..) ..))

theorem parseCount (h : Keeps s t) (k o n) : Keeps s (t.parseCount k o n) :=
  .ite h (h.bump ..)

theorem puntCopy (h : Keeps s t) (k reason) : Keeps s (t.puntCopy k reason) :=
  h.same

theorem lateLength (h : Keeps s t) (k) : Keeps s (t.lateLength k) :=
  .bump (h.puntCopy ..) ..

theorem noteParsed (h : Keeps s t) (p k) : Keeps s (t.noteParsed p k) := by
  unfold State.noteParsed
  split
  · exact h.same
  · exact h

theorem parsePacket (h : Keeps s t) (p k) : Keeps s (t.parsePacket p k) := by
  unfold State.parsePacket
  extract_lets _ _ _ _ _ _ _ _ _ _ s1 s2 _ s3 _ _ _ _ _ _ _ _ _ _ s2' s3' _ _ s4
  have hs1 : Keeps s s1 := h.parseCount ..
  have hs2 : Keeps s s2 := .ite (.parseCount hs1 ..) (.ite (.parseCount hs1 ..) (.parseCount hs1 ..))
  have hs3 : Keeps s s3 := .ite (.lateLength hs2 ..) hs2
  have hs2' : Keeps s s2' := .parseCount hs1 ..
  have hs3' : Keeps s s3' := .ite (.parseCount hs2' ..) hs2'
  have hs4 : Keeps s s4 := .ite (.lateLength hs3' ..) hs3'
  exact .ite (.setPacket (.noteParsed hs3 ..) ..) (.setPacket (.noteParsed hs4 ..) ..)

theorem tableMiss (h : Keeps s t) (d x1 bank i) : Keeps s (t.tableMiss d x1 bank i) :=
  .fault (h.bump ..) ..

theorem lookParity {t : Look} (h : Keeps s t.st) (c x bank i) {miss : Look → Look} (hm : ∀ l : Look, Keeps s l.st → Keeps s (miss l).st) :
    Keeps s (t.parity c x bank i miss).st :=
  .iteSt (h.tableMiss ..) (hm _ (h.tableMiss ..))

theorem lookMk (h : Keeps s t) (hv lport bd limit route leave) : Keeps s (Look.st ⟨t, hv, lport, bd, limit, route, leave⟩) := h

theorem lookDrop {t : Look} (h : Keeps s t.st) : Keeps s t.drop.st := by
  unfold Look.drop
  exact .lookMk h ..

theorem lookDirect {t : Look} (h : Keeps s t.st) (c x i) {hit : Nat → Look → Look} (hh : ∀ r (l : Look), Keeps s l.st → Keeps s (hit r l).st) :
    Keeps s (t.direct c x i hit).st :=
  .iteSt h (.iteSt (h.lookParity _ _ _ _ fun _ => lookDrop) (hh _ _ h))

theorem lookHashed {t : Look} (h : Keeps s t.st) (c x key) {hit : Nat → Look → Look} {miss : Look → Look}
    (hh : ∀ r (l : Look), Keeps s l.st → Keeps s (hit r l).st) (hm : ∀ l : Look, Keeps s l.st → Keeps s (miss l).st) :
    Keeps s (t.hashed c x key hit miss).st := by
  refine .iteSt h ?_
  dsimp only
  split
  · exact h.lookParity _ _ _ _ hm
  · exact hh _ _ h
  · exact hm _ h

theorem lookStage0 {t : Look} (h : Keeps s t.st) (c) : Keeps s (t.stage0 c).st :=
  h.lookDirect _ _ _ fun _ _ hl => .lookMk hl ..

theorem lookStage1 {t : Look} (h : Keeps s t.st) (c) : Keeps s (t.stage1 c).st :=
  .iteSt (h.lookHashed _ _ _ (fun _ _ => id) fun _ => id) h

theorem lookBlock {t : Look} (h : Keeps s t.st) (c) : Keeps s (Look.block t c).st :=
  .iteSt (h.bump ..) h

theorem lookStage3 {t : Look} (h : Keeps s t.st) (c) : Keeps s (t.stage3 c).st := by
  unfold Look.stage3
  extract_lets _ _ _ _ _ ask miss
  have hask : ∀ l : Look, Keeps s l.st → Keeps s (ask l).st := fun l hl => .iteSt (hl.emit ..) hl
  have hmiss : ∀ l : Look, Keeps s l.st → Keeps s (miss l).st := fun l hl => hask _ (.iteSt hl hl)
  exact h.lookHashed _ _ _ (fun _ _ hl => .iteSt (hmiss _ hl) (.iteSt (hask _ hl.same) hl.same)) hmiss

theorem lookStage4 {t : Look} (h : Keeps s t.st) (c) : Keeps s (t.stage4 c).st := by
  unfold Look.stage4
  extract_lets _ miss
  have hmiss : ∀ l : Look, Keeps s l.st → Keeps s (miss l).st := fun _ hl => .lookMk hl ..
  exact h.lookHashed _ _ _ (fun _ _ hl => .iteSt (hmiss _ hl) (.lookMk hl ..)) hmiss

theorem lookStage6 {t : Look} (h : Keeps s t.st) (c) : Keeps s (t.stage6 c).st := by
  unfold Look.stage6
  split
  · exact h
  · exact h.lookHashed _ _ _ (fun _ _ => id) fun _ => id

theorem lookStage78 {t : Look} (h : Keeps s t.st) (c vrf vrec level) : Keeps s (t.stage78 c vrf vrec level).st := by
  unfold Look.stage78
  split
  · exact h
  · refine .iteSt h (lookHashed ?_ _ _ _ (fun _ _ => id) fun _ hl => .iteSt hl hl)
    split
    · exact h.lookParity _ _ _ _ fun _ => id
    · exact .iteSt h h

theorem lookStage9 {t : Look} (h : Keeps s t.st) (c) : Keeps s (t.stage9 c).st :=
  .iteSt h (.iteSt (h.lookParity _ _ _ _ fun _ => lookDrop) (.lookMk h ..))

theorem lookStages {t : Look} (h : Keeps s t.st) (c) : Keeps s (Look.stages t c).st := by
  unfold Look.stages
  extract_lets l2 l2' l3 _ l5 l6
  have hl2 : Keeps s l2.st := .lookBlock (.lookStage1 (h.lookStage0 ..) ..) ..
  have hl2' : Keeps s l2'.st := hl2.lookDirect _ _ _ fun _ _ hl => .lookMk hl ..
  have hl3 : Keeps s l3.st := .iteSt (.lookStage3 hl2' ..) hl2'
  have hl5 : Keeps s l5.st := hl3.lookDirect _ _ _ fun _ _ hl => .lookMk hl ..
  have hl6 : Keeps s l6.st := .iteSt (.lookStage6 hl5 ..) hl5
  exact .iteSt hl3 (.iteSt (.lookStage4 hl3 ..) (.lookStage9 (.lookStage78 hl6 ..) ..))

theorem finishLookups (h : Keeps s t) (p) : Keeps s (t.finishLookups p) := by
  unfold State.finishLookups
  split
  · exact h
  · refine .ite h (.ite (.toPunt (.iteFst h ?_) ..) (.setPacket (.iteFst h ?_) ..))
    · split
      · exact h
      · exact .iteFst (h.bump ..) (.iteFst (h.bump ..) (.iteFst (h.bump ..) (h.bump ..)))
      · exact h
      · exact h
    · split
      · exact h
      · exact .iteFst (h.bump ..) (.iteFst (h.bump ..) (.iteFst (h.bump ..) (h.bump ..)))
      · exact h
      · exact h

theorem applyOutcome (h : Keeps s t) (k i set o hv) : Keeps s (t.applyOutcome k i set o hv).1 := by
  unfold State.applyOutcome
  split
  · exact .iteFst h (.iteFst (.ite (h.bump ..) h) (.ite (h.bump ..) h))
  · exact h

theorem takeOutcomes (h : Keeps s t) (p o) : Keeps s (t.takeOutcomes p o) := by
  unfold State.takeOutcomes
  split
  · exact h
  · exact .ite (.toPunt (.applyOutcome (h.applyOutcome ..) ..) ..) (.finishLookups (.setPacket (.applyOutcome (h.applyOutcome ..) ..) ..) ..)

theorem setAsaQueue (h : Keeps s t) (o l) : Keeps s (t.setAsaQueue o l) :=
  h.lists (ho := fun ho => by simp_all [State.ordered, State.setAsaQueue, sparseRising_set])

theorem freeFollowers (h : Keeps s t) (p k) : Keeps s (t.freeFollowers p k) := by
  unfold State.freeFollowers
  extract_lets s1 _ s2
  have hs1 : Keeps s s1 := h.setAsaQueue ..
  have hs2 : Keeps s s2 := by unfold s2; split; (exact .same hs1; exact hs1)
  exact .setRc hs2 ..

theorem deferSearch (h : Keeps s t) (p) : Keeps s (t.deferSearch p) := by
  unfold State.deferSearch
  split
  · exact h
  · exact .ite (.dropPacket (.ite (.puntCopy (.freeFollowers (.ite (.fire (.same (h.bump ..)) ..) (.same (h.bump ..))) ..) ..) (.freeFollowers (.ite
      (.fire (.same (h.bump ..)) ..) (.same (h.bump ..))) ..)) ..) (.ite (.toPunt (.ite (.puntCopy (.freeFollowers (.ite (.fire (.same
      (h.bump ..)) ..) (.same (h.bump ..))) ..) ..) (.freeFollowers (.ite (.fire (.same (h.bump ..)) ..) (.same (h.bump ..))) ..)) ..)
      (.finishLookups (.setPacket (.ite (.puntCopy (.freeFollowers (.ite (.fire (.same (h.bump ..)) ..) (.same (h.bump ..))) ..) ..) (.freeFollowers
      (.ite (.fire (.same (h.bump ..)) ..) (.same (h.bump ..))) ..)) ..) ..))

theorem enterQueue (h : Keeps s t) (p k w) : Keeps s (t.enterQueue p k w) := by
  refine .ite (.bump (h.setAsaQueue ..) ..) (.ite (h.deferSearch ..) ?_)
  split
  · exact .bump (.setAsaQueue (.deferSearch (h.setAsaQueue ..) ..) ..) ..
  · exact h.same

theorem beginSearch (h : Keeps s t) (p k) : Keeps s (t.beginSearch p k) := by
  unfold State.beginSearch
  extract_lets _ _ _ _ s0
  have hs0 : Keeps s s0 := h.setPacket ..
  refine .ite (.finishLookups (h.setPacket ..) ..) (.ite (.enterQueue (.bump hs0 ..) ..) ?_)
  split
  · dsimp only
    split
    · exact .takeOutcomes (.bump (.setRc hs0 ..) ..) ..
    · exact .enterQueue (.setRc hs0 ..) ..
  · exact .enterQueue (.setRc hs0 ..) ..

theorem searchOne (h : Keeps s t) (p set) : Keeps s (t.searchOne p set).1 := by
  unfold State.searchOne
  split
  · exact h
  · exact h.searchFault ..

theorem serveSlot (h : Keeps s t) (o second p) : Keeps s (t.serveSlot o second p) := by
  unfold State.serveSlot
  dsimp only
  split
  · exact h
  · exact .setAsaQueue (h.searchOne ..) ..

theorem leaveQueue (h : Keeps s t) (o w) : Keeps s (t.leaveQueue o w) := by
  unfold State.leaveQueue
  split
  · exact h.setAsaQueue ..
  · exact .foldl (.takeOutcomes (.ite (.setAsaQueue (.bump (h.setRc ..) ..) ..) (.same (.setAsaQueue (.bump (h.setRc ..) ..) ..))) ..) fun _ _ h =>
      (.takeOutcomes (h.bump ..) ..)

theorem settleQueue (h : Keeps s t) (o) : Keeps s (t.settleQueue o) := by
  unfold State.settleQueue
  extract_lets _ s1 _ s2
  have hs1 : Keeps s s1 := .foldl h fun _ _ h => (h.leaveQueue ..)
  have hs2 : Keeps s s2 := .same hs1
  split
  · exact hs1
  · exact .ite (by split; (exact .enterQueue hs2 ..; exact hs2)) (.bump hs1 ..)

theorem setPlaceCredits (h : Keeps s t) (o v) : Keeps s (t.setPlaceCredits o v) :=
  h.lists (ho := fun ho => by simp_all [State.ordered, State.setPlaceCredits, sparseRising_set])

theorem setPlaceQueue (h : Keeps s t) (o l) : Keeps s (t.setPlaceQueue o l) :=
  h.same

theorem issuePlace (h : Keeps s t) (p) : Keeps s (t.issuePlace p) := by
  unfold State.issuePlace
  split
  · exact .bump (h.setPacket ..) ..
  · exact h

theorem resumePlace (h : Keeps s t) (o) : Keeps s (t.resumePlace o) := by
  unfold State.resumePlace
  split
  · exact .ite (by dsimp only; split; (exact .bump (.setPlaceQueue (.setPacket h.same ..) ..) ..; exact h.same)) h
  · exact h

theorem usePlaceCredits (h : Keeps s t) (o n) : Keeps s (t.usePlaceCredits o n) := by
  induction n generalizing t with
  | zero => exact h
  | succ n ih =>
    unfold State.usePlaceCredits
    split
    · split
      · exact h
      · exact ih (.resumePlace (.issuePlace (.setPlaceQueue (h.setPlaceCredits ..) ..) ..) ..)
    · exact h

theorem lendCredit (h : Keeps s t) (d) : Keeps s (t.lendCredit d) := by
  unfold State.lendCredit
  dsimp only
  split
  · exact .usePlaceCredits (.setPlaceCredits h.same ..) ..
  · exact h

theorem learnReport (h : Keeps s t) (kind status bd mac lport prev from_) : Keeps s (t.learnReport kind status bd mac lport prev from_) :=
  .ite h (h.giveReport ..)

theorem rewriteMac (h : Keeps s t) (bd mac f) : Keeps s (t.rewriteMac bd mac f) :=
  .foldl h fun _ _ h => (by split; (exact .ite h (h.setTbl ..); exact h))

theorem noteLearn (h : Keeps s t) (bd mac stamp) : Keeps s (t.noteLearn bd mac stamp) :=
  h.same

theorem freshMac (h : Keeps s t) (bd mac) : Keeps s (t.freshMac bd mac) :=
  h.same

theorem holdLearn (h : Keeps s t) (q) : Keeps s (t.holdLearn q) :=
  h.same

theorem dropLearn (h : Keeps s t) (q) : Keeps s (t.dropLearn q) :=
  h.same

theorem putMacIn (h : Keeps s t) {bank r} (hu : t.putMacIn bank r = some u) : Keeps s u := by
  unfold State.putMacIn at hu
  split at hu
  · cases hu
    exact h
  · exact h.hashInsert hu

theorem putMac (h : Keeps s t) {r} (hu : t.putMac r = some u) : Keeps s u := by
  obtain ⟨v, hv, hu⟩ := Option.bind_eq_some_iff.mp hu
  exact (h.putMacIn hv).putMacIn hu

theorem applyLearn (h : Keeps s t) (q) : Keeps s (t.applyLearn q) := by
  unfold State.applyLearn
  extract_lets
  have hd : Keeps s (t.dropLearn q) := h.dropLearn ..
  split
  · refine .ite hd (.ite (.learnReport (hd.bump ..) ..) (.ite (.learnReport (.fireLead (hd.bump ..) ..) ..) (.ite (h.holdLearn ..) ?_)))
    split
    · next hv => exact .learnReport (.fireLead ((hd.putMac hv).noteLearn ..) ..) ..
    · exact .learnReport (.rehash (hd.bump ..) ..) ..
  · refine .ite hd (.ite (.learnReport (hd.bump ..) ..) ?_)
    split
    · next hv => exact .learnReport (.noteLearn ((hd.putMac hv).freshMac ..) ..) ..
    · exact .learnReport (.rehash (hd.bump ..) ..) ..

theorem clearPend (h : Keeps s t) : Keeps s t.clearPend :=
  .foldl (.foldl h.same fun _ _ h => (h.rewriteMac ..)) fun _ _ h => (h.applyLearn ..)

theorem ageVisit (h : Keeps s t) (r) : Keeps s (t.ageVisit r) := by
  unfold State.ageVisit
  extract_lets _ _ _ _ _ s1 _ _ _ t'
  have hs1 : Keeps s s1 := h.same
  have ht' : Keeps s t' := .rewriteMac (.same hs1) ..
  exact .ite (.same hs1) (.ite (.same hs1) (.ite hs1 (.learnReport (.bump (.same ht') ..) ..)))

theorem keeperWrite (h : Keeps s t) (table index record) : Keeps s (t.keeperWrite table index record) :=
  .logWrite (h.setTbl ..) ..

theorem rowFault (h : Keeps s t) (d kind index cls) : Keeps s (t.rowFault d kind index cls) :=
  .ite (h.fault ..) (.ite (h.fault ..) (h.fault ..))

theorem markBad (h : Keeps s t) (d kind index) : Keeps s (t.markBad d kind index) :=
  .later h.same ..

theorem searchRowFail (h : Keeps s t) (d key) : Keeps s (t.searchRowFail d key) := by
  unfold State.searchRowFail
  extract_lets _ _ _ _ _ _ s1
  have hs1 : Keeps s s1 := .fault h.same ..
  exact .ite (by split; (exact .later (.same hs1) ..; exact hs1)) hs1

theorem setMeter (h : Keeps s t) (d m x2) : Keeps s (t.setMeter d m x2) :=
  h.same

theorem chargeMeter (h : Keeps s t) (d m bytes pre) : Keeps s (t.chargeMeter d m bytes pre).1 :=
  h.setMeter ..

theorem refundMeter (h : Keeps s t) (d x1) : Keeps s (t.refundMeter d x1) :=
  h.setMeter ..

theorem applyMeter (h : Keeps s t) (index r) : Keeps s (t.applyMeter index r) :=
  h.setMeter ..

theorem setCopy (h : Keeps s t) (i c) : Keeps s (t.setCopy i c) :=
  h.same

theorem restoreStanding (h : Keeps s t) (c) : Keeps s (t.restoreStanding c) :=
  .ite (.emit (.ite h (h.setReserved ..)) ..) h

theorem endCopy (h : Keeps s t) (i c) : Keeps s (t.endCopy i c) := by
  unfold State.endCopy
  extract_lets _ s1
  have hs1 : Keeps s s1 := h.same
  exact .ite hs1 (.ite (.freePacket hs1 ..) (.releasePacket hs1 ..))

theorem setItem (h : Keeps s t) (eg i k) : Keeps s (t.setItem eg i k) :=
  .ite (by split; (exact h.setCopy ..; exact h)) (h.setPacket ..)

theorem aeCount (h : Keeps s t) (p eg o n) : Keeps s (t.aeCount p eg o n) :=
  h.bump ..

theorem setExitOrder (h : Keeps s t) (e l) : Keeps s (t.setExitOrder e l) :=
  h.same

theorem setRestartQueue (h : Keeps s t) (e l) : Keeps s (t.setRestartQueue e l) :=
  h.same

theorem outOfEngine (h : Keeps s t) (e i) : Keeps s (t.outOfEngine e i) :=
  .setRestartQueue (h.setExitOrder ..) ..

theorem setThread (h : Keeps s t) (p eg x2 th) : Keeps s (t.setThread p eg x2 th) :=
  h.same

theorem endThread (h : Keeps s t) (p eg x2) : Keeps s (t.endThread p eg x2) :=
  h.same

theorem endThreadsOf (h : Keeps s t) (p eg i) : Keeps s (t.endThreadsOf p eg i) :=
  h.same

theorem setContext (h : Keeps s t) (d c v) : Keeps s (t.setContext d c v) :=
  h.lists (ho := fun ho => by simp_all [State.ordered, State.setContext, sparseRising_set])

theorem setCtxWaiters (h : Keeps s t) (key l) : Keeps s (t.setCtxWaiters key l) :=
  h.same

theorem writeContext (h : Keeps s t) (w) : Keeps s (t.writeContext w) := by
  unfold State.writeContext
  extract_lets s1
  have hs1 : Keeps s s1 := h.setContext ..
  exact .completeToken (.same hs1) ..

theorem serveHosts (h : Keeps s t) (key n) : Keeps s (t.serveHosts key n) := by
  induction n generalizing t with
  | zero => exact h
  | succ n ih =>
    unfold State.serveHosts
    split
    · exact h
    · split
      · dsimp only
        split
        · exact ih (.writeContext (h.setCtxWaiters ..) ..)
        · exact ih (h.setCtxWaiters ..)
      · exact h

theorem unlockCtx (h : Keeps s t) (i k) : Keeps s (t.unlockCtx i k) := by
  unfold State.unlockCtx
  split
  · exact h
  · exact .ite (.serveHosts (.holders (h.setCtxWaiters ..) (sparseRising_erase _ _ none)) ..) (h.setCtxWaiters ..)

theorem discardLog (h : Keeps s t) (i k) : Keeps s (t.discardLog i k) :=
  .unlockCtx (.foldl h fun _ _ h => (h.refundMeter ..)) ..

theorem dropItem (h : Keeps s t) (eg i k) : Keeps s (t.dropItem eg i k) := by
  unfold State.dropItem
  extract_lets s1
  have hs1 : Keeps s s1 := .discardLog (.outOfEngine (h.endThreadsOf ..) ..) ..
  exact .ite (by split; (exact .endCopy (.restoreStanding hs1 ..) ..; exact hs1)) (.dropPacket hs1 ..)

theorem puntItem (h : Keeps s t) (eg i k reason) : Keeps s (t.puntItem eg i k reason) := by
  unfold State.puntItem
  extract_lets s1
  have hs1 : Keeps s s1 := .discardLog (.outOfEngine (h.endThreadsOf ..) ..) ..
  exact .ite (by split; (exact .endCopy (.restoreStanding (.puntCopy hs1 ..) ..) ..; exact hs1)) (.toPunt hs1 ..)

theorem metUnit (h : Keeps s t) (p eg x2 th k w) : Keeps s (t.metUnit p eg x2 th k w) := by
  unfold State.metUnit
  dsimp only
  split
  · exact h.setThread ..
  · exact .setThread (.setItem (h.chargeMeter ..) ..) ..

theorem ctxParity (h : Keeps s t) (p eg i k c bad) : Keeps s (t.ctxParity p eg i k c bad) :=
  .ite (.puntItem (.setContext (.fault (h.aeCount ..) ..) ..) ..) (.dropItem (.setContext (.fault (h.aeCount ..) ..) ..) ..)

theorem ctxOperate (h : Keeps s t) (p eg x2 th k w ecc bad) : Keeps s (t.ctxOperate p eg x2 th k w ecc bad) :=
  .ite (.ite (h.ctxParity ..) (.setThread (.ite (h.fault ..) h) ..)) (.ite (h.setThread ..) (h.setThread ..))

theorem ctxUnit (h : Keeps s t) (p eg x th k w ecc bad) : Keeps s (t.ctxUnit p eg x th k w ecc bad) :=
  .ite (h.ctxOperate ..) (.ite (.ctxOperate (.setItem (h.holders (sparseRising_put _ _ _ none (by simp))) ..) ..)
    (.setThread (.setItem (h.setCtxWaiters ..) ..) ..))

theorem runUnit (h : Keeps s t) (p eg x2 u) : Keeps s (t.runUnit p eg x2 u) := by
  unfold State.runUnit
  split
  · exact h
  · split
    · exact h
    · exact .ite h (.ite (h.setThread ..) (.ite (h.setThread ..) (.ite (h.setThread ..) (.ite (.ite (h.setThread ..) (h.ctxUnit ..)) (.ite
        (h.setThread ..) (.ite (.ite (h.setThread ..) (h.metUnit ..)) (.ite (h.setThread ..) (.ite (h.setThread ..) (h.setThread ..)))))))))

theorem noteRestart (h : Keeps s t) (p eg x2) : Keeps s (t.noteRestart p eg x2) :=
  .ite (.later h.same ..) h.same

theorem restartItem (h : Keeps s t) (p eg x2 th k faulted) : Keeps s (t.restartItem p eg x2 th k faulted) := by
  unfold State.restartItem
  extract_lets _ s1 s2 s3
  have hs1 : Keeps s s1 := .aeCount (h.endThread ..) ..
  have hs2 : Keeps s s2 := .ite (.noteRestart hs1 ..) hs1
  have hs3 : Keeps s s3 := .fault (.aeCount hs2 ..) ..
  exact .ite (.puntItem (.fault (.aeCount hs1 ..) ..) ..) (.setRestartQueue (.setItem hs3 ..) ..)

theorem trapItem (h : Keeps s t) (p eg x2 th k cause) : Keeps s (t.trapItem p eg x2 th k cause) :=
  .puntItem (.ite (.aeCount (.aeCount (h.endThread ..) ..) ..) (.fault (.aeCount (.aeCount (h.endThread ..) ..) ..) ..)) ..

theorem fillThreads (h : Keeps s t) (p eg) : Keeps s (t.fillThreads p eg) := by
  unfold State.fillThreads
  extract_lets _ _ s1
  have hs1 : Keeps s s1 := by unfold s1; split; (exact .same (h.setSpare ..); exact h)
  exact .wr hs1 ..

theorem retireThread (h : Keeps s t) (p eg x2) : Keeps s (t.retireThread p eg x2) :=
  .fillThreads (.fire (.recordFault (.retire (h.setSpare ..) ..) ..) ..) ..

theorem threadEvent (h : Keeps s t) (p eg x2 th k) : Keeps s (t.threadEvent p eg x2 th k) :=
  .ite (h.setItem ..) (h.restartItem ..)

theorem wordEvent (h : Keeps s t) (p eg x2 th k) : Keeps s (t.wordEvent p eg x2 th k) :=
  .threadEvent (h.fault ..) ..

theorem fetchFault (h : Keeps s t) (p eg pc ecc) : Keeps s (t.fetchFault p eg pc ecc) :=
  .ite h (.fault (.ite (h.aeCount ..) h) ..)

theorem noRoutine (h : Keeps s t) (p eg i k) : Keeps s (t.noRoutine p eg i k) :=
  .dropItem (.ite (.aeCount (h.setRestartQueue ..) ..) (h.setRestartQueue ..)) ..

theorem dispatchItem (h : Keeps s t) (p eg i x3 ecc k) : Keeps s (t.dispatchItem p eg i x3 ecc k) := by
  unfold State.dispatchItem
  extract_lets _ _ _ _ s0 x s1 _ _ s2 _ s3 s4
  have hs0 : Keeps s s0 := h.setRestartQueue ..
  have hx : Keeps s x.1 := .iteFst (.sampleDispatch hs0 ..) hs0
  have hs1 : Keeps s s1 := .ite (.aeCount hx ..) hx
  have hs2 : Keeps s s2 := .setItem (.setExitOrder hs1 ..) ..
  have hs3 : Keeps s s3 := .setThread hs2 ..
  have hs4 : Keeps s s4 := .fetchFault hs3 ..
  exact .ite (.wordEvent hs4 ..) hs4

theorem endRoutine (h : Keeps s t) (p eg x2 th k) : Keeps s (t.endRoutine p eg x2 th k) :=
  .ite (.retireThread (.setItem (.aeCount (h.endThread ..) ..) ..) ..) (.setItem (.aeCount (h.endThread ..) ..) ..)

theorem runWord (h : Keeps s t) (p eg x2) : Keeps s (t.runWord p eg x2) :=
  .foldl h fun _ _ h => (h.runUnit ..)

theorem fetchNext (h : Keeps s t) (p eg th wait ecc) : Keeps s (t.fetchNext p eg th wait ecc).1 :=
  h.fetchFault ..

theorem stepWord (h : Keeps s t) (p eg x2 w wait ecc) : Keeps s (t.stepWord p eg x2 w wait ecc) := by
  unfold State.stepWord
  split
  · exact h
  · split
    · exact h
    · refine .ite h (.ite (h.trapItem ..) (.ite (h.trapItem ..) (.ite (h.endRoutine ..) (.ite ?_ (.setThread (.setItem (h.fetchNext ..) ..) ..)))))
      dsimp only
      split
      · exact .ite (.endRoutine (.wordEvent (.setThread (.setItem (h.fetchNext ..) ..) ..) ..) ..) (.wordEvent (.setThread (.setItem
          (h.fetchNext ..) ..) ..) ..)
      · exact .wordEvent (.setThread (.setItem (h.fetchNext ..) ..) ..) ..

theorem releaseOp (h : Keeps s t) (eg i k o) : Keeps s (t.releaseOp eg i k o) := by
  unfold State.releaseOp
  split
  · exact .ite (.addCounter (h.addCounter ..) ..) (.same (h.addCounter ..))
  · exact h.addCounter ..
  · exact h

theorem releaseSample (h : Keeps s t) (p eg k) : Keeps s (t.releaseSample p eg k) :=
  .ite (h.addSample ..) h

theorem releaseLog (h : Keeps s t) (p eg i k) : Keeps s (t.releaseLog p eg i k) := by
  refine .setItem (.releaseSample (.unlockCtx ?_ ..) ..) ..
  split
  · exact .setContext (.foldl h fun _ _ h => (h.releaseOp ..)) ..
  · exact .foldl h fun _ _ h => (h.releaseOp ..)

theorem leaveLookups (h : Keeps s t) (i k) : Keeps s (t.leaveLookups i k) := by
  unfold State.leaveLookups
  extract_lets s0 s1 s2 _ s3
  have hs0 : Keeps s s0 := h.freeFollowers ..
  have hs1 : Keeps s s1 := .setAsaQueue hs0 ..
  have hs2 : Keeps s s2 := .setPlaceQueue hs1 ..
  have hs3 : Keeps s s3 := .ite (.same hs2) hs2
  exact .ite (.bump (.same hs3) ..) hs3

theorem replayItem (h : Keeps s t) (p eg i k target spare) : Keeps s (t.replayItem p eg i k target spare) := by
  unfold State.replayItem
  extract_lets s1 _ _ _ s' s2
  have hs1 : Keeps s s1 := .ite (h.endThreadsOf ..) (.leaveLookups (h.endThreadsOf ..) ..)
  have hs' : Keeps s s' := .outOfEngine hs1 ..
  have hs2 : Keeps s s2 := .ite (.setRestartQueue hs1 ..) (.ite (.setExitOrder hs' ..) hs')
  exact .aeCount (.setItem (.ite hs2 (.giveTo hs2 ..)) ..) ..

theorem moveItems (h : Keeps s t) (p eg target spare) : Keeps s (t.moveItems p eg target spare) :=
  .foldl h fun _ _ h => (by split; (exact h; exact (by split; (exact h.replayItem ..; exact h.dropItem ..))))

theorem replayDrop (h : Keeps s t) (p eg i k items) : Keeps s (t.replayDrop p eg i k items) :=
  .dropItem (.fault (h.aeCount ..) ..) ..

theorem failCheck (h : Keeps s t) (p eg i k items) : Keeps s (t.failCheck p eg i k items) :=
  .ite (.ite (.replayDrop (h.fault ..) ..) (.replayItem (h.fault ..) ..)) (.moveItems (.ite (.replayDrop (.ite (h.failOver ..) (h.fault ..)) ..)
    (.setItem (.ite (h.failOver ..) (h.fault ..)) ..)) ..)

theorem none_ (h : Keeps s t) : Keeps s (Found.none_ t).st :=
  h

theorem toLport (h : Keeps s t) (d g hash l nh replica) : Keeps s (t.toLport d g hash l nh replica).st := by
  refine .iteFound (.none_ (h.bump ..)) (.iteFound (.iteFound h (.none_ (h.bump ..))) (.iteFound (.iteFound h (.none_ (h.bump ..))) ?_))
  split
  · exact .iteFound h (.none_ (h.bump ..))
  · exact .none_ (h.bump ..)

theorem useBucket (h : Keeps s t) (grp hash) : Keeps s (t.useBucket grp hash) :=
  .ite h h.same

theorem toEcmp (h : Keeps s t) (d g hash grp replica) : Keeps s (t.toEcmp d g hash grp replica).st := by
  unfold State.toEcmp
  split
  · exact .none_ (h.bump ..)
  · exact .toLport (h.useBucket ..) ..

theorem toNexthop (h : Keeps s t) (d g hash nh replica) : Keeps s (t.toNexthop d g hash nh replica).st :=
  .iteFound (h.toLport ..) (.iteFound (h.toEcmp ..) h)

theorem placeTargets (h : Keeps s t) (k hash) : Keeps s (t.placeTargets k hash).1 :=
  .ite (.bump (.foldlFst (.ite (.bump (.ite h (h.bump ..)) ..) (.ite h (h.bump ..))) fun _ _ h => (h.toNexthop ..)) ..) (.foldlFst (.ite (.bump
    (.ite h (h.bump ..)) ..) (.ite h (h.bump ..))) fun _ _ h => (h.toNexthop ..))

theorem lagTargets (h : Keeps s t) (k bank r hash) : Keeps s (t.lagTargets k bank r hash).1 :=
  .foldlFst h fun _ _ h => (by split; (exact h.bump ..; exact .iteFst h (.iteFst (h.bump ..) (.iteFst h (h.toLport ..)))))

theorem setQueue (h : Keeps s t) (d v l) : Keeps s (t.setQueue d v l) :=
  h.same

theorem setStandingUsed (h : Keeps s t) (d n v) : Keeps s (t.setStandingUsed d n v) :=
  h.same

theorem addCopy (h : Keeps s t) (c) : Keeps s (t.addCopy c).1 :=
  h.same

theorem nameOwner (h : Keeps s t) (d head copies users) : Keeps s (t.nameOwner d head copies users) := by
  unfold State.nameOwner
  split
  · exact h
  · exact (by split; (exact h; exact .giveTo (h.setCopy ..) ..))

theorem setInFlight (h : Keeps s t) (pc v) : Keeps s (t.setInFlight pc v) :=
  h.same

theorem land (h : Keeps s t) (i c) : Keeps s (t.land i c) := by
  unfold State.land
  extract_lets s1
  have hs1 : Keeps s s1 := .ite h (h.setInFlight ..)
  exact .ite (h.setCopy ..) (.ite (.endCopy (.restoreStanding (.bump hs1 ..) ..) ..) (.ite (.endCopy (.restoreStanding (.bump hs1 ..) ..) ..)
      (.setCopy hs1 ..)))

theorem sendCells (h : Keeps s t) (i c) : Keeps s (t.sendCells i c) :=
  .ite (h.land ..) (.same (h.setCopy i { c with stage := .crossing }))

theorem pumpRequests (h : Keeps s t) (d v n) : Keeps s (t.pumpRequests d v n) := by
  induction n generalizing t with
  | zero => exact h
  | succ n ih =>
    unfold State.pumpRequests
    dsimp only
    split
    · exact h
    · split
      · exact h
      · exact .ite h (ih (.emit (h.setCopy ..) ..))

theorem enqueueOnDie (h : Keeps s t) (i c) : Keeps s (t.enqueueOnDie i c) :=
  .ite (.sendCells (h.setStandingUsed ..) ..) (.pumpRequests (.setQueue (h.setCopy ..) ..) ..)

theorem ecnMarks (h : Keeps s t) (x0 q) : Keeps s (t.ecnMarks x0 q).1 :=
  h.useFree

theorem dropCopy (h : Keeps s t) (i c o inst k) : Keeps s (t.dropCopy i c o inst k) :=
  .endCopy (h.bump ..) ..

theorem stage (h : Keeps s t) (i c) : Keeps s (t.stage i c) :=
  .setQueue (h.setCopy ..) ..

theorem noteFull (h : Keeps s t) (d) : Keeps s (t.noteFull d) :=
  .ite h (.fire h.same ..)

theorem admitCopy (h : Keeps s t) (i c) : Keeps s (t.admitCopy i c) := by
  unfold State.admitCopy
  extract_lets _ _ _ _ _ _ _ _ _ _ s1
  have hs1 : Keeps s s1 := .ite (h.noteFull ..) h
  exact .ite (h.enqueueOnDie ..) (.ite (h.stage ..) (.ite (.ite (.stage hs1 ..) (.dropCopy (.same hs1) ..)) (.ite (.enqueueOnDie hs1 ..) (.dropCopy
      (.same hs1) ..))))

theorem decideCopy (h : Keeps s t) (i) : Keeps s (t.decideCopy i) := by
  unfold State.decideCopy
  split
  · exact h
  · refine .ite (.admitCopy (h.ecnMarks ..) ..) (.ite ?_ (.ite (.dropCopy (h.ecnMarks ..) ..) (.admitCopy (h.ecnMarks ..) ..)))
    split
    · exact .admitCopy (h.ecnMarks ..) ..
    · exact .admitCopy (.setCopy (.bump (h.ecnMarks ..) ..) ..) ..

theorem enqueueCopy (h : Keeps s t) (i) : Keeps s (t.enqueueCopy i) := by
  unfold State.enqueueCopy
  split
  · exact h
  · exact .noteF (h.decideCopy ..) ..

theorem setLoopQueue (h : Keeps s t) (d share l) : Keeps s (t.setLoopQueue d share l) :=
  h.same

theorem mirrorStep (h : Keeps s t) (d sess rec) : Keeps s (t.mirrorStep d sess rec).1 :=
  .iteFst h h.same

theorem mirrorCopy (h : Keeps s t) (bank d sess k origin shares) : Keeps s (t.mirrorCopy bank d sess k origin shares).1 := by
  unfold State.mirrorCopy
  extract_lets _ x _ _ _ _ _ _ s1
  have hx : Keeps s x.1 := h.mirrorStep ..
  have hs1 : Keeps s s1 := .same hx
  exact .iteFst hx (.iteFst (.bump (.puntCopy hx ..) ..) (.iteFst (.bump hx ..) (.iteFst (.bump hx ..) (.bump (.setLoopQueue hs1 ..) ..))))

theorem sideCopies (h : Keeps s t) (p k) : Keeps s (t.sideCopies p k).1 :=
  .foldlFst (.foldl h fun _ _ h => (by split; (exact h.puntCopy ..; exact h))) fun _ _ h => (by split; (exact h.mirrorCopy ..; exact h))

theorem leaveToMirrors (h : Keeps s t) (p k users) : Keeps s (t.leaveToMirrors p k users) :=
  .ite (h.dropPacket ..) (by dsimp only; split; (exact .setPacket (.giveTo (h.endIngress ..) ..) ..; exact .giveTo (h.endIngress ..) ..))

theorem puntEnqueued (h : Keeps s t) (p k reason users) : Keeps s (t.puntEnqueued p k reason users) :=
  .setPacket (.giveTo (h.endPass ..) ..) ..

theorem countTrim (h : Keeps s t) (d cut) : Keeps s (t.countTrim d cut) :=
  .ite h (.bump (h.bump ..) ..)

theorem recirc (h : Keeps s t) (p k profile users) : Keeps s (t.recirc p k profile users) := by
  refine .ite (.puntEnqueued (h.bump ..) ..) (.ite (.leaveToMirrors (h.bump ..) ..) (.ite (.leaveToMirrors (h.bump ..) ..) ?_))
  split
  · exact .leaveToMirrors (h.bump ..) ..
  · exact .puntEnqueued (h.bump ..) ..
  · exact .ite (.leaveToMirrors (h.bump ..) ..) (.ite (.leaveToMirrors (h.bump ..) ..) (.countTrim (.bump (.setLoopQueue (.setPacket (.giveTo
      (h.endPass ..) ..) ..) ..) ..) ..))

theorem portCopy (h : Keeps s t) (c x1 kind) : Keeps s (t.portCopy c x1 kind).1 :=
  .iteFst (h.bump ..) (.iteFst (h.bump ..) (.bump (h.addCopy ..) ..))

theorem groupCopies (h : Keeps s t) (c grp) : Keeps s (t.groupCopies c grp).1 :=
  .foldlFst h fun _ _ h => (by split; (exact h.bump ..; exact .iteFst h (by split; (exact h.bump ..; exact .iteFst h (h.portCopy ..)))))

theorem portCopies (h : Keeps s t) (c users) : Keeps s (t.portCopies c users).1 := by
  unfold State.portCopies
  extract_lets x y
  have hx : Keeps s x.1 := by unfold x; split; (exact h.groupCopies ..; exact h)
  have hy : Keeps s y.1 := .foldlFst hx fun _ _ h => h.portCopy ..
  exact .ite (hy.bump ..) (hy.nameOwner ..)

theorem fanOut (h : Keeps s t) (p k hash group dies extra users) : Keeps s (t.fanOut p k hash group dies extra users) := by
  unfold State.fanOut
  extract_lets _ _ _ _ _ s0 x _ y s1 s2
  have hs0 : Keeps s s0 := h.endIngress ..
  have hx : Keeps s x.1 := .foldlFst hs0 fun _ _ h => (h.addCopy ..)
  have hy : Keeps s y.1 := .iteFst (.portCopies hx ..) hx
  have hs1 : Keeps s s1 := .ite hy (.ite (.nameOwner hy ..) hy)
  have hs2 : Keeps s s2 := .foldl hs1 fun _ _ h => (by split; (exact h.enqueueOnDie ..; exact h))
  exact .ite (.ite (.freePacket hs2 ..) (.leaveToMirrors hs2 ..)) hs2

theorem unicast (h : Keeps s t) (p k hash x3 kind users) : Keeps s (t.unicast p k hash x3 kind users) :=
  .enqueueCopy (.nameOwner (.addCopy (h.endIngress ..) ..) ..) ..

theorem toFound (h : Keeps s t) (p k hash) {f : Found} (hf : Keeps s f.st) (kind users) : Keeps s (t.toFound p k hash f kind users) := by
  have hregs : Keeps s ({ t with regs := f.st.regs, learning := f.st.learning } : State) := by
    refine ⟨h.pending, h.part, fun hs => ?_, h.ordered⟩
    have ht := h.sound hs
    have hfs := hf.sound hs
    simp only [State.sound, Bool.and_eq_true] at ht hfs ⊢
    exact ⟨⟨⟨hfs.1.1.1, ht.1.1.2⟩, ht.1.2⟩, ht.2⟩
  unfold State.toFound
  dsimp only
  split
  · exact hregs.unicast ..
  · exact .ite (hregs.puntEnqueued ..) (hregs.leaveToMirrors ..)

theorem tmEnqueue (h : Keeps s t) (p k) : Keeps s (t.tmEnqueue p k) := by
  unfold State.tmEnqueue
  extract_lets _ _ _ _ _ side s1 _ _ bad x
  have hside : Keeps s side.1 := h.sideCopies ..
  have hs1 : Keeps s s1 := hside
  have hbad : Keeps s bad := .leaveToMirrors (.bump hs1 ..) ..
  have hx : Keeps s x.1 := .placeTargets hs1 ..
  split
  · exact .toFound h _ _ _ (h.toNexthop ..) ..
  · refine .ite (.leaveToMirrors hs1 ..) (.ite (.puntEnqueued hs1 ..) (.ite (.recirc hs1 ..) ?_))
    split
    · exact .ite (.ite hbad (.toFound hs1 _ _ _ (.toNexthop hs1 ..) ..)) (.ite hbad (.toFound hs1 _ _ _ (.toLport hs1 ..) ..))
    · exact .ite hbad (.toFound hs1 _ _ _ (.toEcmp hs1 ..) ..)
    · exact .ite hbad (by split; (exact hbad; exact .ite (.leaveToMirrors hs1 ..) (.fanOut (.lagTargets hs1 ..) ..)))
    · exact .ite hbad (.fanOut hx ..)
    · exact .puntEnqueued hs1 ..
    · exact .leaveToMirrors hs1 ..
    · exact hbad

theorem setRequests (h : Keeps s t) (pc l) : Keeps s (t.setRequests pc l) :=
  h.same

theorem setFanRequests (h : Keeps s t) (d l) : Keeps s (t.setFanRequests d l) :=
  h.same

theorem setDeficit (h : Keeps s t) (pc d v) : Keeps s (t.setDeficit pc d v) :=
  h.same

theorem giveGrant (h : Keeps s t) (d q) : Keeps s (t.giveGrant d q) :=
  .emit (.ite h (h.setReserved ..)) ..

theorem deficitTurn (h : Keeps s t) (pc dies n) : Keeps s (t.deficitTurn pc dies n).1 := by
  induction n generalizing t with
  | zero => exact h
  | succ n ih =>
    unfold State.deficitTurn
    split
    · exact h
    · exact ih (.foldl h fun _ _ h => h.setDeficit ..)

theorem arbitrate (h : Keeps s t) (pc) : Keeps s (t.arbitrate pc) := by
  unfold State.arbitrate
  dsimp only
  split
  · exact h
  · refine .ite h (.ite (.giveGrant (.setInFlight (h.setRequests ..) ..) ..) (.ite ?_ h))
    split
    · exact h
    · exact .giveGrant (.setInFlight (.setRequests (.setDeficit (h.deficitTurn ..) ..) ..) ..) ..

theorem noteReturn (h : Keeps s t) (d v) : Keeps s (t.noteReturn d v) :=
  .ite h h.same

theorem joinStaged (h : Keeps s t) (d v n) : Keeps s (t.joinStaged d v n) := by
  induction n generalizing t with
  | zero => exact h
  | succ n ih =>
    unfold State.joinStaged
    dsimp only
    refine .ite ?_ h
    split
    · exact h
    · split
      · exact h
      · exact .ite (ih (.pumpRequests (h.setCopy ..) ..)) h

theorem egressSearch (h : Keeps s t) (d c hv) : Keeps s (t.egressSearch d c hv).1 :=
  .iteFst h (.iteFst h (.iteFst (.ite (.searchFault (h.bump ..) ..) h) (.ite (.searchFault (h.bump ..) ..) h)))

theorem egressStages (h : Keeps s t) (d c hv) : Keeps s (t.egressStages d c hv).1 := by
  refine .iteFst (h.tableMiss ..) ?_
  dsimp only
  split
  · exact .iteFst (h.tableMiss ..) (.egressSearch (h.tableMiss ..) ..)
  · exact h.egressSearch ..
  · exact h.egressSearch ..

theorem egressEntry (h : Keeps s t) (i c) : Keeps s (t.egressEntry i c) :=
  .ite (.puntItem (.setCopy (h.egressStages ..) ..) ..) (.setCopy (h.egressStages ..) ..)

theorem dropEgress (h : Keeps s t) (i c o) : Keeps s (t.dropEgress i c o) :=
  .endCopy (.restoreStanding (h.bump ..) ..) ..

theorem puntEgress (h : Keeps s t) (i c reason) : Keeps s (t.puntEgress i c reason) :=
  .endCopy (.restoreStanding (h.puntCopy ..) ..) ..

theorem setTxQueue (h : Keeps s t) (pc l) : Keeps s (t.setTxQueue pc l) :=
  h.same

theorem egressSide (h : Keeps s t) (c output) : Keeps s (t.egressSide c output) := by
  refine .foldl (.foldl h fun a o h => ?_) fun a o h => ?_
  · split
    · exact h.puntCopy ..
    · exact h
  · split
    · refine .ite (h.bump ..) ?_
      split
      · exact h
      · exact h.mirrorCopy ..
    · exact h

theorem rewriteStep (h : Keeps s t) (i c) : Keeps s (t.rewriteStep i c) := by
  unfold State.rewriteStep
  extract_lets made _ s1
  have hs1 : Keeps s s1 := h.egressSide ..
  refine .ite (hs1.dropEgress ..) (.ite (hs1.dropEgress ..) (.ite (hs1.puntEgress ..)
    (.ite (hs1.dropEgress ..) (.ite (hs1.puntEgress ..) (.ite (hs1.dropEgress ..) ?_)))))
  generalize made = m
  split
  · exact hs1.dropEgress ..
  · exact .puntEgress (hs1.bump ..) ..
  · exact .ite (hs1.dropEgress ..) (.countTrim (.setTxQueue (hs1.setCopy ..) ..) ..)

theorem ptpStamp (h : Keeps s t) (n c frame) : Keeps s (t.ptpStamp n c frame) :=
  .ite (h.emit ..) h

theorem setGate (h : Keeps s t) (n g) : Keeps s (t.setGate n g) :=
  h.same

theorem settleGate (h : Keeps s t) (n) : Keeps s (t.settleGate n) :=
  .ite h (h.setGate ..)

theorem armGates (h : Keeps s t) (n epoch named) : Keeps s (t.armGates n epoch named) :=
  h.setGate ..

theorem swapDone (h : Keeps s t) (f a stepped named lastSeq) : Keeps s (t.swapDone f a stepped named lastSeq) :=
  .adopt (.fireLead (h.schedReport ..) ..) ..

theorem chargeShapers (h : Keeps s t) (pc bytes) : Keeps s (t.chargeShapers pc bytes) := by
  unfold State.chargeShapers
  dsimp only
  split <;> split <;> exact h.same

theorem dropBad (h : Keeps s t) (pc n) : Keeps s (t.dropBad pc n) := by
  induction n generalizing t with
  | zero => exact h
  | succ n ih =>
    unfold State.dropBad
    split
    · exact h
    · split
      · exact ih (h.setTxQueue ..)
      · exact .ite (ih (.endCopy (.restoreStanding (h.setTxQueue ..) ..) ..)) h

theorem countHeld (h : Keeps s t) (n x1) : Keeps s (t.countHeld n x1) := by
  unfold State.countHeld
  split
  · exact h
  · exact (by split; (exact h; exact .ite h (.bump (h.setCopy ..) ..)))

theorem setWeight (h : Keeps s t) (pc v) : Keeps s (t.setWeight pc v) :=
  h.same

theorem weightTurn (h : Keeps s t) (n classes fuel) : Keeps s (t.weightTurn n classes fuel).1 := by
  induction fuel generalizing t with
  | zero => exact h
  | succ fuel ih =>
    unfold State.weightTurn
    split
    · exact h
    · exact ih (.foldl h fun _ _ h => h.setWeight ..)

theorem pickClass (h : Keeps s t) (n ready) : Keeps s (t.pickClass n ready).1 := by
  unfold State.pickClass
  split
  · exact h
  · exact h.weightTurn ..

theorem settleCharge (h : Keeps s t) (n c bytes) : Keeps s (t.settleCharge n c bytes) := by
  unfold State.settleCharge
  refine .ite h (.ite ?_ (.setWeight ?_ ..)) <;> split <;> split <;> exact h.same

theorem settleShapers (h : Keeps s t) (a) : Keeps s (t.settleShapers a) :=
  .ite h.same (.ite h.same h)

theorem watchPauses (h : Keeps s t) (n) : Keeps s (t.watchPauses n) :=
  .ite h (.foldl h fun _ _ h => (by split; (exact .ite h (h.later ..); exact h)))

theorem beginFrame (h : Keeps s t) (n x1) : Keeps s (t.beginFrame n x1) := by
  unfold State.beginFrame
  dsimp only
  split
  · exact h
  · split
    · exact h.setTxQueue ..
    · exact .same (.ite (.chargeShapers (.setCopy (h.setTxQueue ..) ..) ..) (.setWeight (.chargeShapers (.setCopy (h.setTxQueue ..) ..) ..) ..))

theorem discardQueues (h : Keeps s t) (n) : Keeps s (t.discardQueues n) :=
  .foldl h fun _ _ h => .foldl (h.setTxQueue ..) fun _ _ h => (by split; (exact .endCopy (.restoreStanding (h.bump ..) ..) ..; exact h))

theorem frameStart (h : Keeps s t) (n) : Keeps s (t.frameStart n) := by
  unfold State.frameStart
  extract_lets s0 s1 x
  have hs0 : Keeps s s0 := .foldl (h.settleGate ..) fun _ _ h => (h.dropBad ..)
  have hs1 : Keeps s s1 := .foldl hs0 fun _ _ h => .ite (h.countHeld ..) h
  have hx : Keeps s x.1 := .pickClass hs1 ..
  exact .ite h (.ite (h.discardQueues ..) (.ite hs0 (by split; (exact hs1; exact .beginFrame hx ..))))

theorem transmitDone (h : Keeps s t) (n i c) : Keeps s (t.transmitDone n i c) := by
  unfold State.transmitDone
  extract_lets _ s0 _ s1 s2
  have hs0 : Keeps s s0 := .settleCharge (.codeFrame (h.ptpStamp ..) ..) ..
  have hs1 : Keeps s s1 := .same hs0
  have hs2 : Keeps s s2 := .ite (.macCount hs1 ..) (.macCount (.macCount hs1 ..) ..)
  exact .endCopy (.restoreStanding (.emit (.bwCount hs2 ..) ..) ..) ..

theorem endCopyFrame (h : Keeps s t) (i c bad) : Keeps s (t.endCopyFrame i c bad) :=
  .ite (.ite (.setCopy (h.bump ..) ..) (.endCopy (.restoreStanding (.setTxQueue (h.bump ..) ..) ..) ..)) (h.setCopy ..)

theorem frameEnd (h : Keeps s t) (p n frame parsed truncated) : Keeps s (t.frameEnd p n frame parsed truncated) := by
  unfold State.frameEnd
  extract_lets _ _ _ _ _ whole late _ s1 s2 s3 s4 _ _ s5
  have hs1 : Keeps s s1 := .ite (h.macCount ..) (.ite (.macCount (h.macCount ..) ..) (h.macCount ..))
  have hs2 : Keeps s s2 := by unfold s2; generalize late = b; generalize whole = w; split; (exact .lateLength hs1 ..; exact hs1)
  have hs3 : Keeps s s3 := .same hs2
  have hs4 : Keeps s s4 := .foldl hs3 fun _ _ h => (h.endCopyFrame ..)
  have hs5 : Keeps s s5 := .foldl (.same hs4) fun _ _ h => (h.addCounter ..)
  exact .refill (.same hs5) ..

theorem setPause (h : Keeps s t) (pc p) : Keeps s (t.setPause pc p) :=
  .wr h.same ..

theorem pauseClass (h : Keeps s t) (n x1 quanta) : Keeps s (t.pauseClass n x1 quanta) := by
  refine .ite (h.setPause ..) ?_
  dsimp only
  split
  · exact .ite (.later (h.setPause ..) ..) (.later (h.setPause ..) ..)
  · exact .ite (.later (h.setPause ..) ..) (.later (.later (h.setPause ..) ..) ..)

theorem writeLoop (h : Keeps s t) (c) : Keeps s (t.writeLoop c).state :=
  .iteWr (h.claim ..) (.foldl (h.claim ..) fun _ _ h => (.setReserved (h.setReserved ..) ..))

theorem leaveOldCells (h : Keeps s t) (k) : Keeps s (t.leaveOldCells k) :=
  .ite h (.ite (h.freePacket ..) (h.releasePacket ..))

theorem dropLoop (h : Keeps s t) (p k) : Keeps s (t.dropLoop p k) :=
  .leaveOldCells (.endIngress (h.setLoopQueue ..) ..) ..

theorem serveLoop (h : Keeps s t) (d p k) : Keeps s (t.serveLoop d p k) := by
  unfold State.serveLoop
  extract_lets _ _ _ s1 s2 x
  have hs1 : Keeps s s1 := (h.setLoopQueue d k.share ((t.loopQueue d k.share).filter (· ≠ p))).same
  have hs2 : Keeps s s2 := .leaveOldCells hs1 ..
  have hx : Keeps s x.1 := .openRecord hs2 ..
  exact .ite (.endIngress hs2 ..) (.setPacket hx ..)

theorem removeLate (h : Keeps s t) (p k) : Keeps s (t.removeLate p k) :=
  .ite h (.ite (.ite (.dropLoop (h.bump ..) ..) (.dropPacket (.giveTo (h.bump ..) ..) ..)) (.ite (.dropItem (.leaveLookups (h.bump ..) ..) ..) h))

theorem removeLateStarts (h : Keeps s t) (d o) : Keeps s (t.removeLateStarts d o) :=
  .foldl (h.setWaiting ..) fun _ _ h => (.bump (h.dropFlight ..) ..)

theorem setPage (h : Keeps s t) (d page x2) : Keeps s (t.setPage d page x2) :=
  h.same

theorem beginPage (h : Keeps s t) {d v x} (hx : t.beginPage d v = some x) : Keeps s x.1 := by
  simp only [State.beginPage, Option.map_eq_some_iff] at hx
  obtain ⟨p, -, rfl⟩ := hx
  dsimp only
  split
  · exact h.setPage ..
  · exact h

theorem fillPages (h : Keeps s t) (d v i r fuel n) : Keeps s (t.fillPages d v i r fuel n) := by
  induction fuel generalizing t r n with
  | zero => cases r <;> exact h
  | succ fuel ih =>
    cases n with
    | zero => exact h
    | succ n =>
      rw [State.fillPages.eq_3 _ _ _ _ _ _ _ (Nat.succ_ne_zero n)]
      split
      · exact h
      · next hx =>
        rcases Option.or_eq_some_iff.mp hx with hopen | ⟨-, hbegin⟩
        · simp only [Option.map_eq_some_iff, Prod.mk.injEq] at hopen
          obtain ⟨e, -, rfl, -⟩ := hopen
          exact ih (h.setPage ..) _ _
        · exact ih (.setPage (h.beginPage hbegin) ..) _ _

theorem setSpillRecord (h : Keeps s t) (d i f) : Keeps s (t.setSpillRecord d i f) :=
  h.same

theorem dropPage (h : Keeps s t) (d p) : Keeps s (t.dropPage d p) :=
  h.same

theorem leavePages (h : Keeps s t) (d i) : Keeps s (t.leavePages d i) :=
  .foldl h.same fun _ _ h => (h.dropPage ..)

theorem setSpillDeficit (h : Keeps s t) (d k v) : Keeps s (t.setSpillDeficit d k v) :=
  h.same

theorem spillTurn (h : Keeps s t) (d base classes n) : Keeps s (t.spillTurn d base classes n).1 := by
  induction n generalizing t with
  | zero => exact h
  | succ n ih =>
    unfold State.spillTurn
    split
    · exact h
    · exact ih (.foldl h fun _ _ h => h.setSpillDeficit ..)

theorem spillWrite (h : Keeps s t) (d) : Keeps s (t.spillWrite d) := by
  unfold State.spillWrite
  extract_lets _ x
  have hx : Keeps s x.1 := h.spillTurn ..
  split
  · exact h
  · exact .ite (h.joinStaged ..) (.ite (h.noteFull ..) (.ite (.noteFull (.setCopy (.fillPages (.setSpillDeficit hx ..) ..) ..) ..) (.setCopy
      (.fillPages (.setSpillDeficit hx ..) ..) ..)))

theorem toSpill (h : Keeps s t) (d i head v) : Keeps s (t.toSpill d i head v) := by
  unfold State.toSpill
  split
  · exact h
  · exact .freePacket (.setRecord (h.setSpillRecord ..) ..) ..

theorem setReturning (h : Keeps s t) (d l) : Keeps s (t.setReturning d l) :=
  h.same

theorem spillRead (h : Keeps s t) (d) : Keeps s (t.spillRead d) := by
  unfold State.spillRead
  dsimp only
  split
  · exact h
  · exact .ite h (.setCopy (.setReserved (.setSpillDeficit (h.spillTurn ..) ..) ..) ..)

theorem settleReturn (h : Keeps s t) (d v) : Keeps s (t.settleReturn d v) :=
  .joinStaged (.ite (h.setReturning ..) h) ..

theorem settleReturns (h : Keeps s t) : Keeps s t.settleReturns :=
  .foldl h fun _ _ h => (.noteReturn (h.settleReturn ..) ..)

theorem loseSpilled (h : Keeps s t) (i c channel) : Keeps s (t.loseSpilled i c channel) :=
  .settleReturn (.fault (.endCopy (.ite (.setReserved (.bump (.setQueue (h.leavePages ..) ..) ..) ..) (.bump (.setQueue
    (h.leavePages ..) ..) ..)) ..) ..) ..

theorem moveUsers (h : Keeps s t) (d old head r) : Keeps s (t.moveUsers d old head r) := by
  unfold State.moveUsers
  split
  · exact h
  · exact .ite h (.returnCells (.giveTo h.same ..) ..)

theorem setPoolBuffer (h : Keeps s t) (k b x2) : Keeps s (t.setPoolBuffer k b x2) :=
  h.same

theorem setEnabling (h : Keeps s t) (k fn) : Keeps s (t.setEnabling k fn) :=
  h.same

theorem settlePool (h : Keeps s t) (k) : Keeps s (t.settlePool k) :=
  .ite h (.ite (.wr (h.wr ..) ..) (.ite (.setEnabling (.wr (h.wr ..) ..) ..) h))

theorem poolFault (h : Keeps s t) (o k b fn) : Keeps s (t.poolFault o k b fn) :=
  .fault (h.bump ..) ..

theorem checkBuffer (h : Keeps s t) (fn k address tag) : Keeps s (t.checkBuffer fn k address tag).2.1 :=
  .iteMid h (.iteMid h (.iteMid h (.iteMid (h.poolFault ..) (.iteMid (h.poolFault ..) h))))

theorem freeBuffer (h : Keeps s t) (fn k address tag) : Keeps s (t.freeBuffer fn k address tag).2 :=
  .iteSnd (h.checkBuffer ..) (.iteSnd (h.setPoolBuffer ..) (.settlePool (h.setPoolBuffer ..) ..))

theorem addRefs (h : Keeps s t) (fn k address tag n) : Keeps s (t.addRefs fn k address tag n).2 :=
  .iteSnd (h.checkBuffer ..) (.iteSnd h (.iteSnd h (h.setPoolBuffer ..)))

theorem resetPools (h : Keeps s t) (fn) : Keeps s (t.resetPools fn) :=
  .foldl h fun _ _ h => .ite (.settlePool (.foldl h fun _ _ h => (h.setPoolBuffer ..)) ..) h

theorem setPuntQueue (h : Keeps s t) (d l) : Keeps s (t.setPuntQueue d l) :=
  h.same

theorem dropPunt (h : Keeps s t) (p k) : Keeps s (t.dropPunt p k) :=
  .ite (h.endIngress ..) (h.dropPacket ..)

theorem puntOwns (h : Keeps s t) (p k) : Keeps s (t.puntOwns p k) := by
  unfold State.puntOwns
  split
  · exact h.setRecord ..
  · exact h

theorem holdPunt (h : Keeps s t) {p k x} (hx : t.holdPunt p k = some x) : Keeps s x.1 := by
  unfold State.holdPunt at hx
  split at hx
  · rw [← Option.some.inj hx]
    exact h.puntOwns ..
  · split at hx
    · cases hx
    · extract_lets y at hx
      have hy : Keeps s y.1 := h.openRecord ..
      clear_value y
      rw [← Option.some.inj hx]
      exact hy

theorem puntStep (h : Keeps s t) (p k) : Keeps s (t.puntStep p k) := by
  unfold State.puntStep
  extract_lets _ _ _ _ s1
  have hs1 : Keeps s s1 := h.same
  refine .ite (.dropPunt (h.bump ..) ..) (.ite (.dropPunt (hs1.bump ..) ..) ?_)
  split
  · exact .dropPunt (hs1.bump ..) ..
  · next hx => exact .setPuntQueue (((hs1.endPass k).holdPunt hx).setPacket ..) ..

theorem leavePunt (h : Keeps s t) (p k) : Keeps s (t.leavePunt p k) :=
  .ite (.removePacket (h.setPuntQueue ..) ..) (.freePacket (.removePacket (h.setPuntQueue ..) ..) ..)

theorem fillBuffers (h : Keeps s t) (fn c pool reason lost first l octets) :
    Keeps s (t.fillBuffers fn c pool reason lost first l octets) := by
  induction l generalizing t first octets with
  | nil => exact h
  | cons b rest ih => exact ih (.postEntry (h.emit ..) ..) _ _

theorem waitBuffer (h : Keeps s t) (p k) : Keeps s (t.waitBuffer p k) :=
  .ite h (.later (h.setPacket ..) ..)

theorem turnPool (h : Keeps s t) (pool d) : Keeps s (t.turnPool pool d) :=
  h.same

theorem takeBuffers (h : Keeps s t) {k n x} (hx : t.takeBuffers k n = some x) : Keeps s x.1 := by
  unfold State.takeBuffers at hx
  dsimp only at hx
  split at hx
  · cases hx
  · cases hx
    exact .foldl h fun _ _ h => h.setPoolBuffer ..

theorem takeDelivery (h : Keeps s t) (p k) : Keeps s (t.takeDelivery p k) := by
  unfold State.takeDelivery
  obtain ⟨c, fn⟩ := t.ringFor k
  dsimp only
  split
  · exact .ite (.leavePunt (.bump (h.bump ..) ..) ..) (.waitBuffer (h.bump ..) ..)
  · next hx => exact .turnPool (.leavePunt (.bump (.bump (.fillBuffers ((h.takeBuffers hx).setCq ..) ..) ..) ..) ..) ..

theorem deliver (h : Keeps s t) (p k) : Keeps s (t.deliver p k) := by
  unfold State.deliver
  split
  · exact .ite (.leavePunt (h.bump ..) ..) (.ite (.leavePunt (.bump (h.setCq ..) ..) ..) (.ite (.leavePunt (h.bump ..) ..) (.ite (h.waitBuffer ..)
      (h.takeDelivery ..))))

theorem settlePunts (h : Keeps s t) (r) : Keeps s (t.settlePunts r) :=
  h.same

theorem dropWaits (h : Keeps s t) (pool) : Keeps s (t.dropWaits pool) :=
  .foldl h fun _ _ h => (.leavePunt (h.bump ..) ..)

theorem poolOn (h : Keeps s t) (k fn) : Keeps s (t.poolOn k fn).state :=
  .iteWr (.iteWr (h.refuse ..) (.iteWr (h.refuse ..) (.good (.wr (.wr (h.wr ..) ..) ..)))) (.iteWr (.good (h.wr ..)) (.iteWr (.good (.setEnabling
    (.wr (h.wr ..) ..) ..)) (.good (h.wr ..))))

theorem poolOff (h : Keeps s t) (k) : Keeps s (t.poolOff k) :=
  .ite (.settlePool (.dropWaits (.wr (h.wr ..) ..) ..) ..) (.ite (.setEnabling (.wr (h.wr ..) ..) ..) (h.wr ..))

theorem enablePool (h : Keeps s t) (c k) : Keeps s (t.enablePool c k).state :=
  .iteWr (.good (h.poolOff ..)) (by split; (exact h.poolOn ..; exact .iteWr (h.poolOn ..) (h.refuse ..)))

theorem writePool (h : Keeps s t) (c) : Keeps s (t.writePool c).state :=
  .iteWr (h.enablePool ..) (.iteWr (h.refuse ..) (.iteWr (h.refuse ..) (.iteWr (h.refuse ..) (.iteWr (h.refuse ..) (h.store ..)))))

theorem sendCell (h : Keeps s t) (d dst v) : Keeps s (t.sendCell d dst v) := by
  unfold State.sendCell
  extract_lets
  split
  · extract_lets _ _ _ s1 _ _ s2
    have hs1 : Keeps s s1 := h.setGroup ..
    have hs2 : Keeps s s2 := hs1.same
    exact .ite h (.ite hs2 (hs2.bump ..))
  · exact h

theorem acceptCopy (h : Keeps s t) (i c) : Keeps s (t.acceptCopy i c) :=
  .land (.openRecord (.setReserved (.ite (h.freePacket ..) (h.releasePacket ..)) ..) ..) ..

theorem giveUpCrossing (h : Keeps s t) (i c) : Keeps s (t.giveUpCrossing i c) :=
  .endCopy (.ite (h.emit ..) (.ite (h.setReserved ..) (.setInFlight (h.setReserved ..) ..))) ..

theorem loseCopy (h : Keeps s t) (i c) : Keeps s (t.loseCopy i c) :=
  .giveUpCrossing (h.bump ..) ..

theorem setRecv (h : Keeps s t) (key x1) : Keeps s (t.setRecv key x1) :=
  h.same

theorem takePart (h : Keeps s t) (key part) : Keeps s (t.takePart key part) := by
  unfold State.takePart
  split
  · exact h
  · exact .ite (.acceptCopy (h.setRecv ..) ..) (h.setRecv ..)

theorem deliverCells (h : Keeps s t) (key n) : Keeps s (t.deliverCells key n) := by
  induction n generalizing t with
  | zero => exact h
  | succ n ih =>
    unfold State.deliverCells
    dsimp only
    split
    · exact h
    · exact ih (.foldl (h.setRecv ..) fun _ _ h => h.takePart ..)

theorem watchGap (h : Keeps s t) (d src v before) : Keeps s (t.watchGap d src v before) :=
  .ite h (.later (h.setRecv ..) ..)

theorem giveUpGap (h : Keeps s t) (d src v) : Keeps s (t.giveUpGap d src v) := by
  unfold State.giveUpGap
  dsimp only
  split
  · exact h.setRecv ..
  · exact .watchGap (.deliverCells (.foldl (.fault (.foldl (h.setRecv ..) fun _ _ h => (h.loseCopy ..)) ..) fun _ _ h => (h.takePart ..)) ..) ..

theorem recvCell (h : Keeps s t) (d c bad) : Keeps s (t.recvCell d c bad) :=
  .ite (h.bump ..) (.ite h (.ite (.setRecv (.deliverCells (h.setRecv ..) ..) ..) (.ite (.giveUpGap (.deliverCells (h.setRecv ..) ..) ..) (.watchGap
    (.deliverCells (h.setRecv ..) ..) ..))))

theorem relayed (h : Keeps s t) (d c) : Keeps s (t.relayed d c) :=
  .bump (h.freeTransit ..) ..

theorem takeSlots (h : Keeps s t) (d g) : Keeps s (t.takeSlots d g).1 :=
  .foldl (h.setGroup ..) fun _ _ h => (h.relayed ..)

theorem driveLanes (h : Keeps s t) (d p g octets) : Keeps s (t.driveLanes d p g octets) :=
  h.emit ..

theorem sendAlignment (h : Keeps s t) (d p g) : Keeps s (t.sendAlignment d p g) :=
  .setGroup (h.driveLanes ..) ..

theorem sendSuperframe (h : Keeps s t) (d p g f) : Keeps s (t.sendSuperframe d p g f) :=
  .setGroup (h.driveLanes ..) ..

theorem newSuperframe (h : Keeps s t) (d g) : Keeps s (t.newSuperframe d g).1 :=
  .setGroup (h.takeSlots ..) ..

theorem formFrame (h : Keeps s t) (d p g) : Keeps s (t.formFrame d p g).1 :=
  .iteFst h (.setGroup (.iteFst (h.sendAlignment ..) (.sendSuperframe (by split; (exact h.setGroup ..; exact h.newSuperframe ..)) ..)) ..)

theorem cellIn (h : Keeps s t) (d g c bad) : Keeps s (t.cellIn d g c bad) :=
  .ite (h.recvCell ..) (by split; (exact h; exact h.setGroup ..))

theorem mapSpares (h : Keeps s t) (d g map) : Keeps s (t.mapSpares d g map) :=
  .foldl h fun _ _ h => .ite (h.setSpare ..) (.ite (h.setSpare ..) h)

theorem groupUp (h : Keeps s t) (d g) : Keeps s (t.groupUp d g) :=
  .mapSpares (.wr (.wr (h.setGroup ..) ..) ..) ..

theorem countRetry (h : Keeps s t) (d g seq) : Keeps s (t.countRetry d g seq) :=
  .ite (.emit (.fault (.bump (h.setGroup ..) ..) ..) ..) (.fault (.bump (h.setGroup ..) ..) ..)

theorem superframeBad (h : Keeps s t) (d p g) : Keeps s (t.superframeBad d p g) := by
  unfold State.superframeBad
  dsimp only
  split
  · exact h
  · exact .ite (h.formFrame ..) (.countRetry (h.formFrame ..) ..)

theorem checkSpare (h : Keeps s t) (d g) : Keeps s (t.checkSpare d g) := by
  unfold State.checkSpare
  dsimp only
  split
  · exact .ite (.ite (.emit (h.setGroup ..) ..) (h.setGroup ..)) h
  · exact h

theorem takeControl (h : Keeps s t) (d g f acked nak) : Keeps s (t.takeControl d g f acked nak) :=
  h.setGroup ..

theorem superframeGood (h : Keeps s t) (d p g crcBad) : Keeps s (t.superframeGood d p g crcBad) := by
  unfold State.superframeGood
  dsimp only
  split
  · exact h
  · exact .ite (h.formFrame ..) (.foldl (.ite (.checkSpare (.setGroup (h.formFrame ..) ..) ..) (.takeControl (.setGroup
      (h.formFrame ..) ..) ..)) fun _ _ h => (h.cellIn ..))

theorem superframe (h : Keeps s t) (d p g corrected ok crcBad) : Keeps s (t.superframe d p g corrected ok crcBad) :=
  .ite (.ite (.superframeGood (h.bump ..) ..) (.superframeBad (h.bump ..) ..)) (.ite (.setGroup (h.bump ..) ..) (.ite (.groupUp (h.bump ..) ..) h))

theorem trainStep (h : Keeps s t) (d g step x3) : Keeps s (t.trainStep d g step x3) :=
  .later (h.setGroup ..) ..

theorem buildMap (h : Keeps s t) (d g x2) : Keeps s (t.buildMap d g x2) :=
  h.trainStep ..

theorem readBlock (h : Keeps s t) (d g block) : Keeps s (t.readBlock d g block) :=
  .ite (.ite (h.trainStep ..) (h.setGroup ..)) (.ite (.ite (h.buildMap ..) (h.setGroup ..)) (.ite (.ite (h.trainStep ..) (h.setGroup ..))
    (h.setGroup ..)))

theorem trainingBlock (h : Keeps s t) (d g block) : Keeps s (t.trainingBlock d g block) :=
  .emit (h.readBlock ..) ..

theorem restartGroup (h : Keeps s t) (d g) : Keeps s (t.restartGroup d g) :=
  .emit (.wr (h.trainStep ..) ..) ..

theorem trainTimeout (h : Keeps s t) (d p g) : Keeps s (t.trainTimeout d p g) := by
  unfold State.trainTimeout
  extract_lets _ _ s1
  have hs1 : Keeps s s1 := .fault (h.fire ..) ..
  exact .ite h (.ite (.ite (h.restartGroup ..) h) (.ite h (.ite (h.trainStep ..) (.ite (h.buildMap ..) (.ite (.ite (.later hs1 ..)
      (.restartGroup hs1 ..)) (.ite (h.later ..) (h.restartGroup ..)))))))

theorem groupLost (h : Keeps s t) (d g) : Keeps s (t.groupLost d g) :=
  .fault (h.breakGroup ..) ..

theorem replaceLane (h : Keeps s t) (d g l) : Keeps s (t.replaceLane d g l) := by
  unfold State.replaceLane
  dsimp only
  split
  · exact .emit (h.setGroup ..) ..
  · exact .fault (h.fire ..) ..

theorem laneTrigger (h : Keeps s t) (d g l cause) : Keeps s (t.laneTrigger d g l cause) :=
  .ite (h.groupLost ..) (by dsimp only; split; (exact .ite (h.setGroup ..) (.setGroup (h.setGroup ..) ..); exact .replaceLane (h.setGroup ..) ..))

theorem nextLane (h : Keeps s t) (d g) : Keeps s (t.nextLane d g) := by
  unfold State.nextLane
  dsimp only
  split
  · exact h
  · exact .replaceLane (h.setGroup ..) ..

theorem switchLane (h : Keeps s t) (d g j) : Keeps s (t.switchLane d g j) := by
  unfold State.switchLane
  extract_lets _ _ s1 _ s2 s3
  have hs1 : Keeps s s1 := h.setGroup ..
  have hs2 : Keeps s s2 := .bump (.setSpare (.wrOctet hs1 ..) ..) ..
  have hs3 : Keeps s s3 := .ite (.setSpare hs2 ..) hs2
  exact .ite (.nextLane (.setSpare (.wrOctet hs1 ..) ..) ..) (.nextLane (.retire (.fire (.faultSpare hs3 ..) ..) ..) ..)

theorem setExchange (h : Keeps s t) (d x1) : Keeps s (t.setExchange d x1) :=
  h.same

theorem sendTime (h : Keeps s t) (d g kind value) : Keeps s (t.sendTime d g kind value) :=
  h.setGroup ..

theorem timeEcho (h : Keeps s t) (d value) : Keeps s (t.timeEcho d value) :=
  .ite (.fault (.fire (.wr (h.setExchange ..) ..) ..) ..) (.wr (h.setExchange ..) ..)

theorem emptyTable (h : Keeps s t) (bank x1) : Keeps s (t.emptyTable bank x1) :=
  h.same

theorem copyTable (h : Keeps s t) (live x1) : Keeps s (t.copyTable live x1) := by
  unfold State.copyTable
  extract_lets _ s1
  have hs1 : Keeps s s1 := h.emptyTable ..
  exact .same hs1

theorem copyFamily (h : Keeps s t) (f) : Keeps s (t.copyFamily f) :=
  .setFam (.foldl (.foldl h fun _ _ h => (h.copyTable ..)) fun _ _ h => .foldl h fun _ _ h => (h.wr ..)) ..

theorem writeParser (h : Keeps s t) (c o k) : Keeps s (t.writeParser c o k).state :=
  .iteWr (h.refuse ..) (.iteWr (h.refuse ..) (.iteWr (h.refuse ..) (.good (.touchFam (h.wr ..) ..))))

theorem emptyBanks (h : Keeps s t) (banks) : Keeps s (t.emptyBanks banks) :=
  h.same

theorem writeSet (h : Keeps s t) (c set) : Keeps s (t.writeSet c set).state :=
  .iteWr (.iteWr (h.refuse ..) (.iteWr (h.refuse ..) (.good (.store (h.emptyBanks ..) ..)))) (.iteWr (.iteWr (h.refuse ..) (.good (.store
    (h.emptyBanks ..) ..))) (.iteWr (.iteWr (h.refuse ..) (.iteWr (h.refuse ..) (.good (.store (h.emptyBanks ..) ..)))) (.iteWr (.iteWr
    (h.refuse ..) (.iteWr (h.refuse ..) (.good (.store (h.emptyBanks ..) ..)))) (.iteWr (.iteWr (h.refuse ..) (h.store ..)) (.iteWr (.iteWr
    (h.refuse ..) (.iteWr (h.refuse ..) (h.store ..))) (h.store ..))))))

theorem emptyShadow (h : Keeps s t) (f x1 o k v writer) : Keeps s (t.emptyShadow f x1 o k v writer) :=
  .touchFam (.setFam (.wr (h.emptyTable ..) ..) ..) ..

theorem writeSeed (h : Keeps s t) (c x1) : Keeps s (t.writeSeed c x1).state :=
  .iteWr (h.refuse ..) (.good (h.emptyShadow ..))

theorem writeTiles (h : Keeps s t) (c x1 most o k) : Keeps s (t.writeTiles c x1 most o k).state :=
  .iteWr (h.refuse ..) (.iteWr (h.refuse ..) (.iteWr (h.refuse ..) (.good (h.emptyShadow ..))))

theorem codeError (h : Keeps s t) (i addr reason) : Keeps s (t.codeError i addr reason).state :=
  .refuse (h.wr ..) ..

theorem writeCodeBlock (h : Keeps s t) (c i) : Keeps s (t.writeCodeBlock c i).state :=
  .iteWr (h.codeError ..) (by split; (exact h.codeError ..; exact .iteWr (h.refuse ..) (.good (.touchFam (.foldl h fun _ _ h => (h.setTbl ..)) ..))))

theorem writeEntry (h : Keeps s t) (c i) : Keeps s (t.writeEntry c i).state :=
  .iteWr (h.refuse ..) (.iteWr (h.codeError ..) (.iteWr (h.codeError ..) (.iteWr (h.refuse ..) (.good (.touchFam (h.setTbl ..) ..)))))

theorem clearCode (h : Keeps s t) (i) : Keeps s (t.clearCode i) :=
  .setFam (.emptyTable (h.emptyTable ..) ..) ..

theorem writeCode (h : Keeps s t) (c i) : Keeps s (t.writeCode c i).state :=
  .iteWr (h.writeCodeBlock ..) (.iteWr (h.writeEntry ..) (.iteWr (.iteWr (h.refuse ..) (.good (.touchFam (h.clearCode ..) ..))) (.good (.touchFam
    (h.wr ..) ..))))

theorem writeWindowBound (h : Keeps s t) (c) : Keeps s (t.writeWindowBound c).state :=
  .iteWr (h.refuse ..) (h.store ..)

theorem regrant (h : Keeps s t) (old) : Keeps s (t.regrant old) :=
  .ite h (.foldl h fun _ _ h => (.fMoved (h.setReserved ..) ..))

theorem writeQueues (h : Keeps s t) (c) : Keeps s (t.writeQueues c).state :=
  .iteWr (.iteWr (h.refuse ..) (h.store ..)) (.iteWr (h.writePool ..) (.iteWr (.iteWr (h.refuse ..) (h.store ..)) (.iteWr (.iteWr (h.refuse ..)
    (h.store ..)) (.iteWr (.iteWr (h.refuse ..) (.good (.regrant (h.store ..) ..))) (.iteWr (.good (.settleReturns (h.store ..))) (.iteWr (.store
    (h.settlePunts ..) ..) (.iteWr (.good (.watchPauses (h.store ..) ..)) (.iteWr (.iteWr (h.refuse ..) (h.store ..)) (.iteWr (.iteWr (h.refuse ..)
    (h.store ..)) (h.store ..))))))))))

theorem writeForwarding (h : Keeps s t) (c) : Keeps s (t.writeForwarding c).state := by
  unfold State.writeForwarding
  dsimp only
  split
  · exact h.writeParser ..
  · exact .iteWr (h.writeSet ..) (.iteWr (h.writeTiles ..) (.iteWr (h.writeSeed ..) (.iteWr (h.storeCq ..) (.iteWr (h.writeTiles ..) (.iteWr
      (h.writeCode ..) (.iteWr (h.writeWindowBound ..) (.iteWr (h.writeTiles ..) (.iteWr (h.writeLoop ..) (.iteWr (h.writeQueues ..)
      (h.store ..))))))))))

theorem clearShadows (h : Keeps s t) : Keeps s t.clearShadows := by
  unfold State.clearShadows
  extract_lets s1 s2
  have hs1 : Keeps s s1 := .foldl h fun _ _ h => (.setFam (.ite (.foldl (.foldl h fun _ _ h => (h.emptyTable ..)) fun _ _ h => .foldl h fun _ _ h =>
    (h.wr ..)) (.foldl h fun _ _ h => (h.emptyTable ..))) ..)
  have hs2 : Keeps s s2 := .foldl hs1 fun _ _ h => (.setFam (h.emptyBanks ..) ..)
  exact .foldl hs2 fun _ _ h => (.setFam (.wr h.same ..) ..)

theorem recoveryClear (h : Keeps s t) : Keeps s t.recoveryClear.state :=
  .iteWr (h.refuse ..) (.good h.clearShadows)

theorem pushSlot (h : Keeps s t) (fn w offset bytes k) : Keeps s (t.pushSlot fn w offset bytes k) :=
  .ite h (.ite (h.bump ..) (h.setWq ..))

theorem addOp (h : Keeps s t) (fn w o) : Keeps s (t.addOp fn w o) :=
  h.setWq ..

theorem endOp (h : Keeps s t) (fn w last batch user st aux) : Keeps s (t.endOp fn w last batch user st aux) :=
  .finishOps (h.addOp ..) ..

theorem holdOp (h : Keeps s t) (fn w last batch user) : Keeps s (t.holdOp fn w last batch user).1 :=
  .addOp h.same ..

theorem breakChain (h : Keeps s t) (fn w) : Keeps s (t.breakChain fn w) := by
  unfold State.breakChain
  dsimp only
  split
  · exact h
  · exact .foldl (h.setWq ..) fun _ _ h => (h.endOp ..)

theorem descStep (h : Keeps s t) (fn w op desc) {run : State → Taken → State} (hrun : ∀ a x, Keeps s a → Keeps s (run a x)) :
    Keeps s (t.descStep fn w op desc run) := by
  unfold State.descStep
  extract_lets _ _ _ _ _ s1 _ s2 bad
  have hs1 : Keeps s s1 := h.setWq ..
  have hs2 : Keeps s s2 := .ite hs1 (.breakChain hs1 ..)
  have hbad : Keeps s bad := .endOp hs2 ..
  exact .ite h (.ite h (.ite (hrun _ _ hs2) (.ite hbad (hrun _ _ hs2))))

theorem single (h : Keeps s t) (fn w x) {f : State → Status × Nat × State} (hf : Keeps s (f t).2.2) : Keeps s (t.single fn w x f) :=
  .ite (h.endOp ..) (hf.endOp ..)

theorem applyGateEntry (h : Keeps s t) (index r delete held) : Keeps s (t.applyGateEntry index r delete held).2 :=
  .iteSnd h (.iteSnd h (.iteSnd h (h.setTbl ..)))

theorem applyNow (h : Keeps s t) (o held) : Keeps s (t.applyNow o held).2 :=
  .iteSnd (h.applyAsa ..) (.iteSnd (h.applyGateEntry ..) (.iteSnd h (.iteSnd h (.iteSnd h (.iteSnd (.logWrite (h.applyRecord ..) ..)
    (h.applyRecord ..))))))

theorem landWrites (h : Keeps s t) (f) : Keeps s (t.landWrites f) :=
  .foldl h fun _ _ h => .ite (h.applyAsa ..) (.ite (h.applyGateEntry ..) (h.applyRecord ..))

theorem applyTableOp (h : Keeps s t) (o) : Keeps s (t.applyTableOp o).2 :=
  .iteSnd (.iteSnd (h.setFam ..) (.ite (h.rehash ..) h)) (h.applyNow ..)

theorem finishTableOp (h : Keeps s t) (o) : Keeps s (t.finishTableOp o) :=
  .ite (.completeToken (.setFam (h.applyTableOp ..) ..) ..) (.completeToken (.fault (.setFam (h.applyTableOp ..) ..) ..) ..)

theorem settleTables (h : Keeps s t) (n) : Keeps s (State.settleTables n t) := by
  induction n generalizing t with
  | zero => exact h
  | succ n ih =>
    unfold State.settleTables
    split
    · exact h
    · exact .ite (ih (.finishTableOp h.same ..)) h

theorem tableOp (h : Keeps s t) (fn w last batch user x5 index r delete) : Keeps s (t.tableOp fn w last batch user x5 index r delete) := by
  unfold State.tableOp
  extract_lets _ _ s1 _ x _ _ _ _ s2
  have hs1 : Keeps s s1 := h.same
  have hx : Keeps s x.1 := .holdOp hs1 ..
  have hs2 : Keeps s s2 := .same hx
  refine .ite (h.endOp ..) (.ite (.endOp hs1 ..) (.ite (.ite (.endOp hs1 ..) (.endOp (.setCounter hs1 ..) ..)) (.ite ?_ (.foldl hs2 fun _ _ h =>
      (h.emit ..)))))
  split
  · exact .endOp hs1 ..
  · exact .same hx

theorem tableDesc (h : Keeps s t) (fn w x2 delete) : Keeps s (t.tableDesc fn w x2 delete) :=
  .ite (h.endOp ..) (.ite (.ite (h.endOp ..) (h.tableOp ..)) (.ite (h.endOp ..) (h.setWq ..)))

theorem contDesc (h : Keeps s t) (fn w x2) : Keeps s (t.contDesc fn w x2) := by
  unfold State.contDesc
  dsimp only
  split
  · exact h
  · exact .ite (.endOp (h.setWq ..) ..) (.ite (.tableOp (h.setWq ..) ..) (h.setWq ..))

theorem tableRead (h : Keeps s t) (fn w x) : Keeps s (t.tableRead fn w x) := by
  refine h.single _ _ _ ?_
  extract_lets
  split
  · exact h
  · split
    · exact h
    · split
      · exact h
      · exact .emit (.ite (h.bump ..) h) ..

theorem startInject (h : Keeps s t) (x) : Keeps s (t.startInject x) := by
  unfold State.startInject
  extract_lets _ _ _ r _ _ _ _ _ s1
  have hr : Keeps s r.1 := h.openRecord ..
  clear_value r
  have hs1 : Keeps s s1 := .same hr
  exact .ite (.unicast hs1 ..) (.addFlight (.ite hs1 (.bump hs1 ..)) ..)

theorem inject (h : Keeps s t) (fn w x2 x3 data free) : Keeps s (t.inject fn w x2 x3 data free) := by
  unfold State.inject
  extract_lets _ _ _ _ _ _ _ s1 y
  have hs1 : Keeps s s1 := h.bump ..
  have hy : Keeps s y.1 := .holdOp hs1 ..
  exact .ite (h.endOp ..) (.ite (h.endOp ..) (.ite (.endOp (h.startInject ..) ..) (.ite (.later (.same hy) ..) (.endOp hs1 ..))))

theorem retryInjects (h : Keeps s t) (d n) : Keeps s (t.retryInjects d n) := by
  induction n generalizing t with
  | zero => exact h
  | succ n ih =>
    unfold State.retryInjects
    split
    · exact h
    · exact .ite (ih (.completeToken (.startInject h.same ..) ..)) (h.bump ..)

theorem endDrain (h : Keeps s t) (fn w) : Keeps s (t.endDrain fn w) :=
  .ite h (.wr (.ite h (h.coverTo ..)) ..)

theorem enableWq (h : Keeps s t) (c fn w) : Keeps s (t.enableWq c fn w).state := by
  unfold State.enableWq
  extract_lets _ _ s1 _ _ _ _ s2
  have hs1 : Keeps s s1 := h.wr ..
  have hs2 : Keeps s s2 := .wr (.breakChain hs1 ..) ..
  exact .iteWr (.iteWr (.iteWr (h.refuse ..) (.good (.wr (.setWq hs1 ..) ..))) (.iteWr (.good hs1) (.good (.wr hs1 ..)))) (.iteWr (.good (.ite
      (.later hs2 ..) hs2)) (.iteWr (.good (.wr hs1 ..)) (.good hs1)))

theorem writeWq (h : Keeps s t) (c fn w) : Keeps s (t.writeWq c fn w).state :=
  .iteWr (h.enableWq ..) (.iteWr (h.refuse ..) (.iteWr (.good (.setWq (.wr (.wr (h.store ..) ..) ..) ..)) (h.store ..)))

theorem enableCq (h : Keeps s t) (v fn c) : Keeps s (t.enableCq v fn c).state :=
  .iteWr (.good (h.wr ..)) (.iteWr (.iteWr (h.refuse ..) (.good (.wr (.wr (.wr (h.wr ..) ..) ..) ..))) (.iteWr (h.refuse ..) (.good (.wr
    (h.wr ..) ..))))

theorem writeCq (h : Keeps s t) (v fn c) : Keeps s (t.writeCq v fn c).state :=
  .iteWr (h.enableCq ..) (.iteWr (h.refuse ..) (.iteWr (.good (.wr (.wr (h.store ..) ..) ..)) (h.store ..)))

theorem writeRings (h : Keeps s t) (c) : Keeps s (t.writeRings c).state :=
  .iteWr (h.writeWq ..) (.iteWr (h.writeCq ..) (.iteWr (h.storeCq ..) (.iteWr (.iteWr (h.refuse ..) (h.store ..)) (h.store ..))))

theorem setMailbox (h : Keeps s t) (fn m) : Keeps s (t.setMailbox fn m) :=
  h.same

theorem sendReply (h : Keeps s t) (j frame) : Keeps s (t.sendReply j frame) := by
  unfold State.sendReply
  split
  · exact .ite (.foldl h fun _ _ h => (h.emit ..)) (h.emit ..)
  · exact .emit (h.setMailbox ..) ..
  · exact h.emit ..
  · exact .completeToken (h.emit ..) ..
  · split
    · exact .ite (h.completeToken ..) (h.completeToken ..)
    · exact h.completeToken ..
  · exact h.same
  · exact h.same

theorem keepLast (h : Keeps s t) (j) : Keeps s (t.keepLast j) := by
  unfold State.keepLast
  split
  · exact (by split; (exact .ite h h.same; exact h))
  · exact h

theorem finishJob (h : Keeps s t) (j frame) : Keeps s (t.finishJob j frame) :=
  .sendReply (.ite (h.keepLast ..) h) ..

theorem postIfRoom (h : Keeps s t) (fn c entry) : Keeps s (t.postIfRoom fn c entry) :=
  .ite h (h.postEntry ..)

theorem coverIfRoom (h : Keeps s t) (fn w last st user) : Keeps s (t.coverIfRoom fn w last st user) :=
  .postIfRoom (h.wr ..) ..

theorem postAborts (h : Keeps s t) (fn) : Keeps s (t.postAborts fn) :=
  .foldl (.foldl (.foldl h fun _ _ h => .foldl h fun _ _ h => (h.postIfRoom ..)) fun _ _ h => .foldl h fun _ _ h => (h.coverIfRoom ..)) fun _ _ h =>
    (by split; (exact h; exact .foldl h fun _ _ h => (h.coverIfRoom ..)))

theorem dropCqNames (h : Keeps s t) (fn) : Keeps s (t.dropCqNames fn) :=
  .foldl (.foldl (.ite (.wr (.ite (h.wr ..) h) ..) (.ite (h.wr ..) h)) fun _ _ h => .ite (h.wr ..) h) fun _ _ h => .ite (h.wr ..) h

theorem wqs (h : Keeps s t) (hm : sparseRising none t.rings.wqs = true → sparseRising none u.rings.wqs = true)
    (hu : u.core = { t with rings := { t.rings with wqs := u.rings.wqs } }.core := by unfold State.core; rfl) : Keeps s u := by
  refine (h.trans (u := { t with rings := { t.rings with wqs := u.rings.wqs } }) ⟨rfl, rfl, id, fun ho => ?_⟩).trans (of_core hu)
  simp only [State.ordered, Bool.and_eq_true] at ho ⊢
  simp only [ho, hm, and_self]

theorem clearQueues (h : Keeps s t) (fn) : Keeps s (t.clearQueues fn) :=
  (h.regs (u := { t with regs := (t.clearQueues fn).regs }) (sparseWf_filter _ _ _)).wqs (sparseRising_filter _ _ _)

theorem disablePools (h : Keeps s t) (fn) : Keeps s (t.disablePools fn) :=
  .foldl h fun _ _ h => .ite (.wr (.wr (.wr (h.resetPools ..) ..) ..) ..) h

theorem endEvents (h : Keeps s t) (fn) : Keeps s (t.endEvents fn) :=
  .foldl h fun _ _ h => (h.endEvent ..)

theorem dropRequests (h : Keeps s t) (x0 answer) : Keeps s (t.dropRequests x0 answer) :=
  .ite (.foldl h.same fun _ _ h => (h.finishJob ..)) h.same

theorem dropSessionRegs (h : Keeps s t) (x0) : Keeps s (t.dropSessionRegs x0) :=
  h.same

theorem functionReset (h : Keeps s t) (fn session) : Keeps s (t.functionReset fn session) := by
  unfold State.functionReset
  extract_lets _ s1 s2
  have hs1 : Keeps s s1 := h.dropRequests ..
  have hs2 : Keeps s s2 := .ite (hs1.postAborts ..) (hs1.setMailbox ..)
  exact .orphan (.dropSessionRegs (.endEvents (.disablePools (.dropCqNames (hs2.clearQueues ..) ..) ..) ..) ..) ..

theorem closeKdp (h : Keeps s t) (n) : Keeps s (t.closeKdp n) := by
  unfold State.closeKdp
  split
  · exact h
  · extract_lets x s1
    have hs1 : Keeps s s1 := .dropSessionRegs (h.dropRequests ..) ..
    exact hs1.same.orphan ..

theorem resetSession (h : Keeps s t) (x0) : Keeps s (t.resetSession x0) := by
  unfold State.resetSession
  split
  · exact h.functionReset ..
  · exact h.closeKdp ..
  · exact h.dropSessionRegs ..

theorem decideThrottle (h : Keeps s t) (d k) : Keeps s (t.decideThrottle d k) :=
  .ite h (.later h.same ..)

theorem driveAlert (h : Keeps s t) (old) : Keeps s (t.driveAlert old) :=
  .ite h (h.emit ..)

theorem autoThrottle (h : Keeps s t) (d temp) : Keeps s (t.autoThrottle d temp) :=
  .ite (h.decideThrottle ..) (.ite h.same (.ite h (.later h.same ..)))

theorem keepLateRails (h : Keeps s t) : Keeps s t.keepLateRails := by
  unfold State.keepLateRails
  extract_lets _ s1
  have hs1 : Keeps s s1 := .foldl h fun _ _ h => (h.keepHistory ..)
  exact .same hs1

theorem toPower (h : Keeps s t) (v) : Keeps s (t.toPower v) :=
  .wr (h.fireLead ..) ..

theorem drainPorts (h : Keeps s t) : Keeps s t.drainPorts :=
  .foldl h fun _ _ h => (.wr (h.enablePort ..) ..)

theorem dropQueued (h : Keeps s t) : Keeps s t.dropQueued := by
  unfold State.dropQueued
  extract_lets s1
  have hs1 : Keeps s s1 := .foldl h fun _ _ h => (.endCopy (.restoreStanding (.ite h (h.bump ..)) ..) ..)
  exact .same hs1

theorem dropDeliveries (h : Keeps s t) : Keeps s t.dropDeliveries :=
  .foldl (.foldl h fun _ _ h => .foldl h fun _ _ h => (.leavePunt (h.bump ..) ..)) fun _ _ h => (.wr (.bump h.same ..) ..)

theorem events (h : Keeps s t) (e) : Keeps s { t with events := e } := h.same

theorem closeHosts (h : Keeps s t) : Keeps s t.closeHosts :=
  .events (.foldl (.foldl h fun _ _ h => h.closeKdp ..) fun _ _ h => h.functionReset ..) _

theorem endEntryStep (h : Keeps s t) : Keeps s t.endEntryStep :=
  .ite h.dropQueued (.ite h.dropDeliveries (.ite h.closeHosts h))

theorem toEntryStep (h : Keeps s t) (k ns) : Keeps s (t.toEntryStep k ns) :=
  .later h.same ..

theorem powerEntry (h : Keeps s t) (v) : Keeps s (t.powerEntry v) := by
  unfold State.powerEntry
  extract_lets s1 _ s2
  have hs1 : Keeps s s1 := h.toPower ..
  have hs2 : Keeps s s2 := .same hs1
  exact .toEntryStep (.drainPorts hs2) ..

theorem reopenPorts (h : Keeps s t) : Keeps s t.reopenPorts :=
  .foldl h fun _ _ h => .ite (h.startTraining ..) h

theorem retrainFabric (h : Keeps s t) : Keeps s t.retrainFabric :=
  .foldl h fun _ _ h => .foldl h fun _ _ h => (by split; (exact .ite (h.breakGroup ..) h; exact h))

theorem serveAll (h : Keeps s t) : Keeps s t.serveAll :=
  .foldl h fun _ _ h => .ite (h.serveSource ..) h

theorem resume (h : Keeps s t) : Keeps s t.resume := by
  unfold State.resume
  extract_lets s1 _ _ s2
  have hs1 : Keeps s s1 := .retrainFabric (h.toPower ..)
  have hs2 : Keeps s s2 := .same hs1
  exact .serveAll (.reopenPorts hs2)

theorem emberTime (h : Keeps s t) (seconds) : Keeps s (t.emberTime seconds) :=
  .wr h.same ..

theorem emptyCustomerCode (h : Keeps s t) : Keeps s t.emptyCustomerCode :=
  .foldl h fun _ _ h => .foldl h fun _ _ h => (.emptyTable (h.emptyTable ..) ..)

theorem writePower (h : Keeps s t) (c) : Keeps s (t.writePower c).state := by
  refine .iteWr ?_ (.iteWr (.good (h.startWake ..)) (.iteWr (.good (.foldl (h.store ..) fun _ _ h => .ite (h.decideThrottle ..) h)) (.iteWr (.iteWr
      (h.refuse ..) (.iteWr (h.refuse ..) (.good (.decideThrottle (h.store ..) ..)))) (h.store ..))))
  split
  · exact .good (h.powerEntry ..)
  · exact h.refuse ..

theorem reconcileNvs (h : Keeps s t) : Keeps s t.reconcileNvs := by
  refine h.nvs fun ht => ?_
  have hbest := bestNvs_sound ht
  simp only [State.sound, Bool.and_eq_true] at ht
  exact ⟨hbest, ifWritable_sound ht.1.2 hbest, ifWritable_sound ht.2 hbest⟩

theorem trainGroups (h : Keeps s t) : Keeps s t.trainGroups :=
  .foldl h fun _ _ h => .foldl h fun _ _ h => .ite (h.restartGroup ..) h

theorem logAttempt (h : Keeps s t) (i die slot code version) : Keeps s (t.logAttempt i die slot code version) :=
  .foldl h fun _ _ h => (h.wrOctet ..)

theorem bootImage (h : Keeps s t) (i die slot f) : Keeps s (t.bootImage i die slot f) := by
  unfold State.bootImage
  extract_lets s1 s2 s3 s4 _ _ s5
  have hs1 : Keeps s s1 := .wr (.wr (h.wr ..) ..) ..
  have hs2 : Keeps s s2 := .wr (.wr (hs1.wr ..) ..) ..
  have hs3 : Keeps s s3 := .wr (.wr (.wr (hs2.wr ..) ..) ..) ..
  have hs4 : Keeps s s4 := hs3.wr ..
  clear_value s4
  have hs5 : Keeps s s5 := hs4.same
  exact .ite (hs5.emit ..) hs5

theorem bootFailed (h : Keeps s t) : Keeps s t.bootFailed := by
  unfold State.bootFailed
  extract_lets s1
  have hs1 : Keeps s s1 := .wr (.wr (h.wr ..) ..) ..
  clear_value s1
  exact .emit (hs1.same.emit ..) ..

theorem bootNext (h : Keeps s t) (i code) : Keeps s (t.bootNext i code) :=
  .ite h.bootFailed (.ite (.emit h.same ..) h.same)

theorem startSecond (h : Keeps s t) : Keeps s t.startSecond :=
  .ite h.same h

theorem applyDefault (h : Keeps s t) (a v) : Keeps s (t.applyDefault a v) := by
  unfold State.applyDefault
  split
  · exact h
  · exact .ite h (h.setReg ..)

theorem bringIn (h : Keeps s t) (r) : Keeps s (t.bringIn r) := by
  unfold State.bringIn
  extract_lets _ s1 s1'
  have hs1 : Keeps s s1 := h.setSpare ..
  have hs1' : Keeps s s1' := h.setSpare ..
  refine .ite (.wr (.setSpare (h.wr ..) ..) ..) (.ite (.ite (h.setSpare ..) h) (.ite (.ite (h.setSpare ..) (.setSpare (h.wrOctet ..) ..)) (.ite
      (.foldl hs1 fun _ _ h => .ite (h.setSpare ..) h) (.ite (.foldl hs1' fun _ _ h => .ite (h.setSpare ..) h) (.ite (.ite (.setSpare
      (h.setSpare ..) ..) (h.setSpare ..)) (.ite (.wr (h.setSpare ..) ..) (.ite (.wr (h.setSpare ..) ..) (.ite ?_ (h.setSpare ..)))))))))
  split
  · exact h.setSpare ..
  · exact h

theorem fillReserves (h : Keeps s t) (d) : Keeps s (t.fillReserves d) :=
  .setReserved (.foldl h fun _ _ h => (h.setReserved ..)) ..

theorem setSlots (h : Keeps s t) (k v) : Keeps s (t.setSlots k v) :=
  h.same

theorem setPreferred (h : Keeps s t) (k) : Keeps s (t.setPreferred k) :=
  h.same

theorem setFwSlot (h : Keeps s t) (k v) : Keeps s (t.setFwSlot k v) :=
  h.same

theorem programBlock (h : Keeps s t) (k off v) : Keeps s (t.programBlock k off v) :=
  h.same

theorem flashBlock (h : Keeps s t) (v) : Keeps s (t.flashBlock v).state :=
  .iteWr (h.refuse ..) (.iteWr (h.refuse ..) (.iteWr (h.refuse ..) (.good (.programBlock (.ite h (h.setSlots ..)) ..))))

theorem activateValid (h : Keeps s t) (v) : Keeps s (t.activate? v).state := by
  unfold State.activate?
  extract_lets _ s1
  have hs1 : Keeps s s1 := .setPreferred h.useFree ..
  exact .iteWr (h.refuse ..) (.iteWr (h.refuse ..) (.iteWr (.good (h.setPreferred ..)) (.iteWr (.refuse h.useFree ..) (.good (.later
      (.same hs1) ..)))))

theorem writeBoot (h : Keeps s t) (c) : Keeps s (t.writeBoot c).state :=
  .iteWr (h.flashBlock ..) (.iteWr (.iteWr (h.refuse ..) (.good (h.setFwSlot ..))) (.iteWr (h.activateValid ..) (.iteWr (.iteWr (h.refuse ..) (.good
    (h.wr ..))) h.good)))

theorem selectIr (h : Keeps s t) (ir) : Keeps s (t.selectIr ir) :=
  h.same

theorem extestDrive (h : Keeps s t) (ir value) : Keeps s (t.extestDrive ir value) := by
  unfold State.extestDrive
  extract_lets s1
  have hs1 : Keeps s s1 := .ite h (h.engineReset ..)
  exact .same hs1

theorem spoilCopy (h : Keeps s t) (i c) : Keeps s (t.spoilCopy i c) :=
  h.setCopy ..

theorem leaveStream (h : Keeps s t) (key i) : Keeps s (t.leaveStream key i) := by
  unfold State.leaveStream
  split
  · exact h.same
  · exact h

theorem loseCellCopy (h : Keeps s t) (i c) : Keeps s (t.loseCellCopy i c) := by
  unfold State.loseCellCopy
  split
  · exact .endCopy (.setQueue (h.leavePages ..) ..) ..
  · exact .endCopy (.setQueue (h.leavePages ..) ..) ..
  · exact .endCopy (.setQueue (h.leavePages ..) ..) ..
  · exact h.spoilCopy ..
  · exact h.spoilCopy ..
  · split
    · exact .giveUpCrossing (h.leaveStream ..) ..
    · exact h.spoilCopy ..
    · exact h
  · exact .endCopy (h.restoreStanding ..) ..
  · exact h.dropItem ..
  · exact .endCopy (.restoreStanding (h.setTxQueue ..) ..) ..
  · exact h
  · exact h

theorem loseCellPacket (h : Keeps s t) (p k) : Keeps s (t.loseCellPacket p k) := by
  refine .ite (.dropItem (h.leaveLookups ..) ..) ?_
  split
  · exact h.dropLoop ..
  · exact .dropPacket (h.giveTo ..) ..
  · exact h.dropPunt ..
  · exact h.leavePunt ..
  · exact h.dropPacket ..

theorem loseCell (h : Keeps s t) (d c) : Keeps s (t.loseCell d c) := by
  unfold State.loseCell
  split
  · exact h
  · exact .bump (.foldl (.foldl (.ite (.cutChain h.useFree ..) h.useFree) fun _ _ h => (by split; (exact h.loseCellCopy ..; exact h))) fun _ _ h =>
      (by split; (exact h.loseCellPacket ..; exact h))) ..

theorem discardFor (h : Keeps s t) (i c) : Keeps s (t.discardFor i c) := by
  unfold State.discardFor
  extract_lets s0 s1 s2 s3
  have hs0 : Keeps s s0 := .ite h (h.bump ..)
  have hs1 : Keeps s s1 := .setQueue (.leavePages hs0 ..) ..
  have hs2 : Keeps s s2 := by unfold s2; split; (exact .leaveStream hs1 ..; exact hs1)
  have hs3 : Keeps s s3 := .ite (.setReserved hs2 ..) hs2
  exact .endCopy hs3 ..

theorem loseBound (h : Keeps s t) (i c) : Keeps s (t.loseBound i c) := by
  unfold State.loseBound
  split
  · exact h.giveUpCrossing ..
  · exact h

theorem loseDie (h : Keeps s t) (d) : Keeps s (t.loseDie d) := by
  unfold State.loseDie
  extract_lets s1
  have hs1 : Keeps s s1 := .foldl h fun a e h => by
    split
    · exact h
    · exact h
    · exact h
    · exact h
    · exact .ite (h.discardFor ..) (.ite (h.loseBound ..) h)
  clear_value s1
  refine hs1.lists (ho := fun ho => ?_)
  simp only [State.ordered, Bool.and_eq_true] at ho
  obtain ⟨⟨⟨⟨⟨⟨⟨⟨⟨⟨hwqs, hctx⟩, hholders⟩, hasa⟩, hcells⟩, hxoff⟩, hfams⟩, hlanes⟩, hslices⟩, hcredits⟩, hgroups⟩ := ho
  simp only [State.ordered, Bool.and_eq_true]
  exact ⟨⟨⟨⟨⟨⟨⟨⟨⟨⟨hwqs, sparseRising_filter _ _ _ hctx⟩, sparseRising_filter _ _ _ hholders⟩, sparseRising_filter _ _ _ hasa⟩,
    sparseRising_filter _ _ _ hcells⟩, sparseRising_filter _ _ _ hxoff⟩, hfams⟩, hlanes⟩, hslices⟩, hcredits⟩, hgroups⟩

theorem performFences (h : Keeps s t) : Keeps s t.performFences :=
  .foldl h fun _ _ h => (h.loseDie ..)

theorem setSessionReg (h : Keeps s t) (x0 k v) : Keeps s (t.setSessionReg x0 k v) :=
  h.same

theorem readValue (h : Keeps s t) (x o a) : Keeps s (t.readValue x o a).2.2 := by
  refine .iteLast h (.iteLast ?_ (.iteLast ?_ (.iteLast ?_ (.iteLast h.useFree ?_))))
  · split
    · exact h
    · exact h
  · split
    · split
      · exact h.activate ..
      · exact h
    · exact h
  · split
    · exact .iteLast h h
    · exact h
  · split
    · exact h
    · exact h

theorem setLive (h : Keeps s t) {b : NvsBody} (hb : b.objects = t.dict.live.objects := by rfl) : Keeps s (t.setLive b) := by
  refine h.trans ⟨rfl, rfl, fun hs => ?_, id⟩
  simp only [State.sound, State.setLive, NvsBody.sound, hb] at hs ⊢
  exact hs

theorem commitNvs (h : Keeps s t) : Keeps s t.commitNvs := by
  unfold State.commitNvs
  extract_lets _ body _ put _ s1
  have hs1 : Keeps s s1 := h.nvs fun ht => by
    simp only [State.sound, Bool.and_eq_true] at ht
    have hbody : body.sound = true := by
      simp only [NvsBody.sound, Bool.and_eq_true]
      exact ⟨sparseWf_filter _ _ _ ht.1.1.1, by simp [body]⟩
    have hput : ∀ c : NvsCopy, c.body.sound = true → (put c).body.sound = true := fun c hc => by
      unfold put
      split
      · exact hbody
      · exact hc
    exact ⟨hbody, hput _ ht.1.2, hput _ ht.2⟩
  exact .ite hs1 (hs1.fault ..)

theorem sealEngine (h : Keeps s t) : Keeps s t.sealEngine.state :=
  .iteWr (h.refuse ..) (.good h.setLive)

theorem writeIdentity (h : Keeps s t) (c) : Keeps s (t.writeIdentity c).state :=
  .iteWr h.good (.iteWr h.sealEngine (.iteWr (.good h.setLive) (.iteWr (by split; (exact h.good; exact h.refuse ..))
    (.iteWr (.iteWr (h.refuse ..) (.good h.setLive)) (.iteWr (.good h.setLive) (.iteWr (.good h.setLive) (h.store ..)))))))

theorem writeFaults (h : Keeps s t) (c) : Keeps s (t.writeFaults c).state := by
  unfold State.writeFaults
  extract_lets
  exact .iteWr (.good (h.setSessionReg ..)) (.iteWr (.iteWr (h.refuse ..) (.iteWr (h.refuse ..) (h.store ..)))
    (.iteWr h.releaseFaultN (.iteWr (.good h.recoveryCancel) (.iteWr h.recoveryClear (.iteWr (.iteWr (h.refuse ..) (h.claim ..)) (h.store ..))))))

theorem writeCopy (h : Keeps s t) (c f) : Keeps s (t.writeCopy c f).state := by
  unfold State.writeCopy
  split
  · exact .good (.touchFam (h.copyFamily ..) ..)
  · exact h.refuse ..

theorem writeObject (h : Keeps s t) (c) : Keeps s (t.writeObject c).state := by
  unfold State.writeObject
  dsimp only
  split
  · exact h.writeCopy ..
  · exact .iteWr (h.writeIdentity ..) (.iteWr (h.writeTime ..) (.iteWr (h.writePorts ..) (.iteWr (h.writeForwarding ..) (.iteWr (h.writeFaults ..)
      (.iteWr (h.writeCounters ..) (.iteWr (h.writePower ..) (.iteWr (h.writeRings ..) (.iteWr (h.writeEvents ..) (.iteWr (h.writeBoot ..)
      (h.store ..))))))))))

theorem yieldEcmp (h : Keeps s t) (a keeper) : Keeps s (t.yieldEcmp a keeper) :=
  .ite (h.cancelChanges ..) h

theorem writeEpoch (h : Keeps s t) (c epoch) : Keeps s (t.writeEpoch c epoch).1.state := by
  cases hr : t.resolveEpoch epoch with
  | none =>
    rw [writeEpoch_tooLate hr]
    exact h.refuse ..
  | some e =>
    rw [writeEpoch_resolved hr]
    have hs : Keeps s ((t.yieldEcmp c.addr (byKeeper c.session)).addChange e c.addr c.value (byKeeper c.session) c.writer) :=
      .addChange (h.yieldEcmp ..) ..
    split
    · exact .ite (hs.gateEpoch ..) hs
    · exact h.busy ..
    · exact h.refuse ..

theorem result {t : WriteRes} (h : Keeps s t.state) (x0 type epoch) : Keeps s (WriteRes.result t x0 type epoch).2 :=
  .iteSnd (h.setSessionReg ..) h

theorem doOp (h : Keeps s t) (j o) : Keeps s (t.doOp j o).2 := by
  unfold State.doOp
  split
  · exact h
  · dsimp only
    split
    · refine .iteSnd (.iteSnd (h.readValue ..) (h.readValue ..)) (.iteSnd ?_ (.iteSnd (.result (h.writeEpoch ..) ..) (.result (h.writeObject ..) ..)))
      split
      · exact h
      · exact h
    · exact h

theorem runJob (h : Keeps s t) (n j) : Keeps s (State.runJob n t j) := by
  induction n generalizing t j with
  | zero => exact h.finishJob ..
  | succ n ih =>
    unfold State.runJob
    split
    · exact h.finishJob ..
    · split
      · exact .later h.same ..
      · exact .ite (.resetSession (.finishJob (h.doOp ..) ..) ..) (ih (h.doOp ..) _)

theorem answerCounter (h : Keeps s t) (j r) : Keeps s (t.answerCounter j r) := by
  unfold State.answerCounter
  split
  · exact .finishJob (h.bump ..) ..
  · exact .finishJob (h.bump ..) ..

theorem serveCritical (h : Keeps s t) (n) : Keeps s (State.serveCritical n t) := by
  induction n generalizing t with
  | zero => exact h
  | succ n ih =>
    unfold State.serveCritical
    split
    · exact h
    · refine .ite h ?_
      dsimp only
      split
      · exact ih (.answerCounter h.same ..)
      · exact .ite (ih (.finishJob (.bump h.same ..) ..)) (.later (.same (.doOp (h.bump ..) _ _)) ..)

theorem addCritical (h : Keeps s t) (j) : Keeps s (t.addCritical j) := by
  unfold State.addCritical
  split
  · exact h.answerCounter ..
  · exact .ite (.finishJob (h.bump ..) ..) (.serveCritical h.same ..)

theorem afterCritical (h : Keeps s t) (j o) : Keeps s (t.afterCritical j o) :=
  .ite (h.resetSession ..) (.ite (.later h.same ..) h)

theorem authFailed (h : Keeps s t) : Keeps s t.authFailed := by
  unfold State.authFailed
  extract_lets s1
  have hs1 : Keeps s s1 := h.bump ..
  exact .ite hs1 (.fireLead (.same hs1) ..)

theorem hear (h : Keeps s t) (n) : Keeps s (t.hear n) := by
  unfold State.hear
  split
  · exact .later h.same ..
  · exact h

theorem runRequest (h : Keeps s t) (j) : Keeps s (t.runRequest j) := by
  unfold State.runRequest
  split
  · split
    · exact h.finishJob ..
    · exact .ite (.runJob h.same ..) (.ite (h.sendReply ..) (h.finishJob ..))
  · exact h.runJob ..

theorem request (h : Keeps s t) (j message check) : Keeps s (t.request j message check) := by
  unfold State.request
  extract_lets _ _ _ s1
  have hs1 : Keeps s s1 := by unfold s1; split; (exact .ite h (h.hear ..); exact h)
  exact .ite (h.finishJob ..) (.ite (.finishJob (.authFailed hs1) ..) (.ite (.addCritical hs1 ..) (.runRequest hs1 ..)))

theorem malformed (h : Keeps s t) (j) : Keeps s (t.malformed j) :=
  h.finishJob ..

theorem serveBlock (h : Keeps s t) (b pcie exact_ x3 reply) : Keeps s (t.serveBlock b pcie exact_ x3 reply) := by
  unfold State.serveBlock
  split
  · exact h.malformed ..
  · exact h.request ..

theorem openKdp (h : Keeps s t) (d b) : Keeps s (t.openKdp d b) :=
  .ite (h.emit ..) (.ite (.emit h.authFailed ..) (by split; (exact h.emit ..; exact .emit (.later (.same h.useFree) ..) ..)))

theorem closeBlock (h : Keeps s t) (d b) : Keeps s (t.closeBlock d b) :=
  .ite (h.malformed ..) (.ite (h.finishJob ..) (.ite (.finishJob h.authFailed ..) (.closeKdp (h.finishJob ..) ..)))

theorem kdpDatagram (h : Keeps s t) (d block) : Keeps s (t.kdpDatagram d block) :=
  .ite h (.ite (h.bump ..) (.ite (h.serveBlock ..) (.ite (h.openKdp ..) (.ite (h.closeBlock ..) (h.bump ..)))))

theorem boardOp (h : Keeps s t) (x0 o) : Keeps s (t.boardOp x0 o).2 :=
  .iteSnd (.iteSnd (.iteSnd (h.doOp ..) h) h) (.iteSnd (.iteSnd (h.doOp ..) h) (.iteSnd (h.doOp ..) (.iteSnd (.commitNvs (h.doOp ..)) (.iteSnd
    (.resetSession (h.doOp ..) ..) (h.doOp ..)))))

theorem provision (h : Keeps s t) (bad o) : Keeps s (t.provision bad o) := by
  unfold State.provision
  extract_lets s1 x r
  have hs1 : Keeps s s1 := .emit (h.selectIr ..) ..
  have hx : Keeps s x.2 := .boardOp hs1 ..
  have hr : Keeps s r.2 := .iteSnd hs1 (.iteSnd hs1 hx)
  exact .same hr

theorem rowBlock (h : Keeps s t) (be r o) : Keeps s (t.rowBlock be r o) :=
  .ite (h.malformed ..) (h.request ..)

theorem rowBoard (h : Keeps s t) (x0 r o) : Keeps s (t.rowBoard x0 r o) :=
  .emit (h.boardOp ..) ..

theorem exchangeGroups (h : Keeps s t) (set) : Keeps s (t.exchangeGroups set) :=
  .wr (h.wr ..) ..

theorem swapBanks (h : Keeps s t) (f e c) : Keeps s (t.swapBanks f e c) :=
  .swapDone (.ite (.newRcGen (.exchangeGroups (.flipBank (h.setFam ..) ..) ..) ..) (.flipBank (h.setFam ..) ..)) ..

theorem commitSet (h : Keeps s t) (set e c) : Keeps s (t.commitSet set e c) :=
  .touchFam (.newRcGen h.same ..) ..

theorem changeValue (h : Keeps s t) (c) : Keeps s (t.changeValue c) :=
  .ite (.fireLead (.changeReg (h.settleShapers ..) ..) ..) (.changeReg (h.settleShapers ..) ..)

theorem applyChange (h : Keeps s t) (e c) : Keeps s (t.applyChange e c) := by
  unfold State.applyChange
  dsimp only
  split
  · exact .ite (h.schedReport ..) (.ite (.touchFam (h.armGates ..) ..) (h.swapBanks ..))
  · split
    · exact .schedReport (h.commitSet ..) ..
    · exact .ite (.schedReport (h.applyChangeover ..) ..) (.ite (.schedReport (h.migrate ..) ..) (.schedReport (h.changeValue ..) ..))

theorem replayLog (h : Keeps s t) (f bank) : Keeps s (t.replayLog f bank) :=
  .setFam (.landWrites (.ite (h.setFam ..) (.foldl h fun _ _ h => (h.applyRecord ..))) ..) ..

theorem releaseBank (h : Keeps s t) (x0) : Keeps s (t.releaseBank x0) :=
  .announceRelease (.ite (.resolveGates h.same ..) (.replayLog h.same ..)) ..

theorem releaseBanks (h : Keeps s t) : Keeps s t.releaseBanks :=
  .foldl h fun _ _ h => (h.releaseBank ..)

theorem boundaryAgenda (h : Keeps s t) : Keeps s t.boundaryAgenda := by
  unfold State.boundaryAgenda
  extract_lets _ s1 s2 s3
  have hs1 : Keeps s s1 := .foldl h fun _ _ h => .ite (h.later ..) h
  have hs2 : Keeps s s2 := .ite (.later hs1 ..) hs1
  have hs3 : Keeps s s3 := .ite (.foldl hs2 fun _ _ h => .ite h (h.later ..)) hs2
  split
  · exact .ite (.later hs3 ..) hs3
  · exact hs3

theorem boundary (h : Keeps s t) : Keeps s t.boundary := by
  unfold State.boundary
  extract_lets _ _ _ s1 s2 _ _ s3 s4
  have hs1 : Keeps s s1 := h.same
  have hs2 : Keeps s s2 := .settleTables hs1 ..
  have hs3 : Keeps s s3 := .same hs2
  have hs4 : Keeps s s4 := .ite (.advanceGen hs3) hs3
  exact .boundaryAgenda (.clearPend (.releaseBanks (.foldl hs4 fun _ _ h => (h.applyChange ..))))

theorem ppsEnd (h : Keeps s t) : Keeps s t.ppsEnd := by
  unfold State.ppsEnd
  split
  · exact .ite (.emit h.same ..) h
  · exact h

theorem resetPipe (h : Keeps s t) (p) : Keeps s (t.resetPipe p) :=
  .foldl (h.setRc ..) fun _ _ h => (h.moveItems ..)

theorem resetThread (h : Keeps s t) (p x1) : Keeps s (t.resetThread p x1) :=
  .foldl h fun _ _ h => (by split; (exact h; exact (by split; (exact h; exact .ite (h.replayItem ..) (h.restartItem ..)))))

theorem performResets (h : Keeps s t) : Keeps s t.performResets :=
  .foldl h.same fun _ _ h => .ite (h.resetPipe ..) (h.resetThread ..)

theorem clock (h : Keeps s t) : Keeps s t.clock := by
  unfold State.clock
  extract_lets s1 s2 s3
  have hs1 : Keeps s s1 := .ppsEnd h.advance
  have hs2 : Keeps s s2 := .ite (.later hs1 ..) hs1
  have hs3 : Keeps s s3 := .turnSlices (.judgeSlices (.lineClock (.lampClock (.performResets (.performFences hs2)))))
  exact .ite hs2 (.foldl hs3 fun _ _ h => (h.later ..))

end
end Keeps
namespace Keeps
section
variable {s t : State}

theorem tm (h : Keeps s t) (x) : Keeps s { t with tm := x } := h.same

theorem power (h : Keeps s t) (x) : Keeps s { t with power := x } := h.same

theorem jtag (h : Keeps s t) (x) : Keeps s { t with jtag := x } := h.same

theorem boot (h : Keeps s t) (x) : Keeps s { t with boot := x } := h.same

theorem time (h : Keeps s t) (x) : Keeps s { t with time := x } := h.same

theorem mbxReady (h : Keeps s t) (b) : Keeps s { t with dict := { t.dict with mbxReady := b } } := h.same

end
end Keeps

end Sys2Proof.Machine
end

section
/-! PROOFS. What every command keeps: one lemma for each, and the step. -/

namespace Sys2Proof.Machine

-- The theorems are elaborated one after the other: at once they would need more threads than the check has memory for.
set_option Elab.async false

/-- A command leaves a state that keeps what every command keeps, if it leaves a state at all. -/
structure Leaves (s : State) (a : Answer) : Prop where
  keeps : ∀ u, a = .next u → Keeps s u

namespace Leaves
section
variable {s t : State}

theorem next (h : Keeps s t) : Leaves s (.next t) := by
  constructor
  rintro _ ⟨⟩
  exact h

theorem fault {f : Fault} : Leaves s (.fault f) := by
  constructor
  rintro _ ⟨⟩

theorem ite {c : Prop} [Decidable c] {a b : Answer} (ha : Leaves s a) (hb : Leaves s b) : Leaves s (if c then a else b) := by split <;> assumption

theorem running (h : Keeps s t) {f} (hf : Keeps s f) : Leaves s (running t f) := .next (.ite h hf)

theorem withDie (h : Keeps s t) {d f} (hf : Keeps s f) : Leaves s (withDie t d f) := .ite (.running h hf) .fault

theorem withLane (h : Keeps s t) {n f} (hf : Keeps s f) : Leaves s (withLane t n f) := .ite (.running h hf) .fault

theorem withPipe (h : Keeps s t) {p f} (hf : Keeps s f) : Leaves s (withPipe t p f) := .ite (.running h hf) .fault

theorem withPacket (h : Keeps s t) {p ok f} (hf : ∀ k, Keeps s (f k)) : Leaves s (withPacket t p ok f) := by
  unfold Machine.withPacket
  split
  · exact .running h (.ite (hf _) h)
  · exact .next h

theorem withCopy (h : Keeps s t) {i ok f} (hf : ∀ c, Keeps s (f c)) : Leaves s (withCopy t i ok f) := by
  unfold Machine.withCopy
  split
  · exact .running h (.ite (hf _) h)
  · exact .next h

theorem withGroup (h : Keeps s t) {d g f} (hf : ∀ p, Keeps s (f p)) : Leaves s (withGroup t d g f) := by
  unfold Machine.withGroup
  split
  · exact .withDie h (hf _)
  · exact .fault

theorem withQueue (h : Keeps s t) {host f q u} (hu : Keeps s u) : Leaves s (withQueue t host f q u) := .ite (.running h (.ite hu h)) .fault

theorem unitRow (h : Keeps s t) {p eg x u op} : Leaves s (t.unitRow p eg x u op) :=
  .withPipe h (by split; (exact .ite (h.runUnit ..) h; exact h))

theorem seqRow (h : Keeps s t) {p eg x seq wait ecc} : Leaves s (t.seqRow p eg x seq wait ecc) := by
  refine .withPipe h ?_
  split
  · exact h
  · dsimp only
    split
    · exact h
    · exact .ite h (.ite (h.trapItem ..) (.stepWord (h.runWord ..) ..))

theorem row (h : Keeps s t) {r o} : Leaves s (t.row r o) := by
  unfold State.row
  split
  · exact .ite .fault (.running h (.ite (h.rowBlock ..) h))
  · exact .running h (.ite (h.rowBlock ..) h)
  · exact .running h (h.rowBoard ..)
  · exact .running h (.ite (h.rowBoard ..) (h.emit ..))
  · exact .running h (h.runJob ..)

theorem execTimeOffsetMeasure (h : Keeps s t) (offset) : Leaves s (execTimeOffsetMeasure offset t) :=
  .next (h.measure ..)

theorem execPpsInEdge (h : Keeps s t) (x0) : Leaves s (execPpsInEdge x0 t) := by
  refine .ite (.next h) (.ite (.next h.same) ?_)
  split
  · exact .ite (.next (.applyTod h.same ..)) (.next (.same h.same))
  · exact .ite (.next (.measure (.sourceQualifies h.same) ..)) (.next h.same)

theorem execPpsInMissed (h : Keeps s t) : Leaves s (execPpsInMissed t) :=
  .ite (.next h) (.ite (.next (.sourceLost h.same)) (.next h.same))

theorem execPtpMessageRx (h : Keeps s t) (n masterSelected) : Leaves s (execPtpMessageRx n masterSelected t) :=
  .withLane h (.ite h (.ite (.sourceQualifies (h.emit ..)) (h.emit ..)))

theorem execPtpAnnounceTimeout (h : Keeps s t) : Leaves s (execPtpAnnounceTimeout t) :=
  .ite (.next h.sourceLost) (.next h)

theorem execFreqSourceLost (h : Keeps s t) : Leaves s (execFreqSourceLost t) :=
  .ite (.next h.sourceLost) (.next h)

theorem execTimeStep (h : Keeps s t) : Leaves s (execTimeStep t) := by
  unfold Machine.execTimeStep
  split
  · exact .next h
  · refine .ite (.next h) ?_
    extract_lets _ _ _ _ s0 _ _ s1
    have hs0 : Keeps s s0 := .foldl h fun a c h => by
      split
      · exact h.moveGates ..
      · exact h
    clear_value s0
    have hs1 : Keeps s s1 := hs0.same
    exact .next (.fireLead (.retimeTimers (.emit (hs1.wr ..) ..) ..) ..)

theorem execScheduleMsg (h : Keeps s t) (d order) : Leaves s (execScheduleMsg d order t) :=
  .withDie h (.emit h.same ..)

theorem execDieAckTimeout (h : Keeps s t) (d) : Leaves s (execDieAckTimeout d t) :=
  .withDie h (.ite (h.fence ..) h)

theorem execPpsOutPulse (h : Keeps s t) : Leaves s (execPpsOutPulse t) :=
  .ite (.next (.emit h.same ..)) (.ite (.next (.ite (.emit (.same h.same) ..) h.same)) (.next h))

theorem execEventFire (h : Keeps s t) (d source) : Leaves s (execEventFire d source t) :=
  .withDie h (h.fire ..)

theorem execEvcCoreClaim (h : Keeps s t) (d core) : Leaves s (execEvcCoreClaim d core t) :=
  .withDie h (by split; (exact .emit (.presentCore (.activate (h.unpresent ..) ..) ..) ..; exact h.emit ..))

theorem execEvcCoreEoi (h : Keeps s t) (d core code) : Leaves s (execEvcCoreEoi d core code t) :=
  .withDie h (by split; (exact .ite (h.endEvent ..) (.fault (h.bump ..) ..); exact .fault (h.bump ..) ..))

theorem execEvcVecEoi (h : Keeps s t) (x0 f vector code) : Leaves s (execEvcVecEoi x0 f vector code t) := by
  unfold Machine.execEvcVecEoi
  dsimp only
  split
  · exact .ite (.next (h.endEvent ..)) (.next (h.bump ..))
  · exact .next (h.bump ..)

theorem execMsixUnmask (h : Keeps s t) (x0 f vector) : Leaves s (execMsixUnmask x0 f vector t) :=
  .next (.serveTarget h.same ..)

theorem execPciePowerStateChange (h : Keeps s t) (x0 f d0 linkLow pmeEnable msixEnable) : Leaves s
  (execPciePowerStateChange x0 f d0 linkLow pmeEnable msixEnable t) :=
  .next (.foldl (.ite (.emit h.same ..) h.same) fun _ _ h => (h.serveTarget ..))

theorem execTimerExpire (h : Keeps s t) (d x1) : Leaves s (execTimerExpire d x1 t) := by
  unfold Machine.execTimerExpire
  extract_lets _ s1
  have hs1 : Keeps s s1 := h.fire ..
  exact .withDie h (by split; (exact h; exact .ite (.disarmTimer hs1 ..) (.same hs1)))

theorem execFaultRecordClose (h : Keeps s t) (d source location) : Leaves s (execFaultRecordClose d source location t) :=
  .withDie h (.closeRecords h.same)

theorem execLampRefresh (h : Keeps s t) : Leaves s (execLampRefresh t) :=
  .ite (.next h) (.ite (.next h.same) (.next (.startLamp (h.wr ..))))

theorem execLampRefreshLapse (h : Keeps s t) : Leaves s (execLampRefreshLapse t) :=
  .ite (.next (.wr h.same ..)) (.next h)

theorem execSpareTestStart (h : Keeps s t) (cls d group unit) : Leaves s (execSpareTestStart cls d group unit t) :=
  .withDie h (.ite (h.setSpare ..) h)

theorem execSpareRetest (h : Keeps s t) (cls d group unit) : Leaves s (execSpareRetest cls d group unit t) :=
  .withDie h (.ite (h.emit ..) h)

theorem execMigrateDrainEnd (h : Keeps s t) (d) : Leaves s (execMigrateDrainEnd d t) :=
  .withDie h (.ite (.dropHolder (.wr (.setSpare (h.setSpare ..) ..) ..) ..) h)

theorem execKeeperCoreFault (h : Keeps s t) (d core cause) : Leaves s (execKeeperCoreFault d core cause t) :=
  .withDie h (.ite (.takeCore (.ite (h.faultSpare ..) (h.fault ..)) ..) (.ite (h.faultSpare ..) (h.fault ..)))

theorem execKeeperCheckpoint (h : Keeps s t) (d) : Leaves s (execKeeperCheckpoint d t) :=
  .withDie h (.foldl h fun _ _ h => h.same)

theorem execKeeperTakeover (h : Keeps s t) : Leaves s (execKeeperTakeover t) :=
  .ite (.next h) (.next h.takeLead)

theorem execKeeperMsg (h : Keeps s t) (d toDie) : Leaves s (execKeeperMsg d toDie t) :=
  .withDie h (.emit h.same ..)

theorem execPllFault (h : Keeps s t) (d pll ppm) : Leaves s (execPllFault d pll ppm t) := by
  unfold Machine.execPllFault
  extract_lets s1 _ s2 s3
  have hs1 : Keeps s s1 := h.setSpare ..
  have hs2 : Keeps s s2 := .ite (.wr hs1 ..) hs1
  have hs3 : Keeps s s3 := .recordFault hs2 ..
  exact .withDie h (.ite h (.ite (.fence (.retire (.fault hs1 ..) ..) ..) (.retire (.ite (.fireLead hs3 ..) hs3) ..)))

theorem execTimeMasterFail (h : Keeps s t) (offset) : Leaves s (execTimeMasterFail offset t) :=
  .ite (.next (.takeTime (h.recordFault ..))) (.next (h.recordFault ..))

theorem execPcieFailover (h : Keeps s t) (x0 f aer address) : Leaves s (execPcieFailover x0 f aer address t) :=
  .ite (.next (.fireLead (.retire (.setSpare (.ite (.emit (.wr (h.faultSpare ..) ..) ..) (h.faultSpare ..)) ..) ..) ..)) (.next (h.fault ..))

theorem execDieFence (h : Keeps s t) (d cause) : Leaves s (execDieFence d cause t) :=
  .withDie h (h.fence ..)

theorem execWearForecast (h : Keeps s t) (months) : Leaves s (execWearForecast months t) := by
  unfold Machine.execWearForecast
  extract_lets _ _ _ s1
  have hs1 : Keeps s s1 := h.wr ..
  exact .ite (.next (.fireLead (.same hs1) ..)) (.next hs1)

theorem execWearSample (h : Keeps s t) (d readings) : Leaves s (execWearSample d readings t) :=
  .withDie h h.same

theorem execSramRowRepair (h : Keeps s t) (d kind mac row) : Leaves s (execSramRowRepair d kind mac row t) :=
  .withDie h (.ite (by split; (exact .recordFault (.same h.same) ..; exact h.same)) (by split; (exact .recordFault (.same h.same) ..; exact h.same)))

theorem execSramSpareSwitch (h : Keeps s t) (d kind mac) : Leaves s (execSramSpareSwitch d kind mac t) :=
  .withDie h (by split; (exact h; exact .fireLead (.retire (.setSpare h.same ..) ..) ..))

theorem execCwinValueRead (h : Keeps s t) (x0 f w j) : Leaves s (execCwinValueRead x0 f w j t) :=
  .ite (.next (h.emit ..)) (.next (.emit h.same ..))

theorem execCounterScrub (h : Keeps s t) (d bad) : Leaves s (execCounterScrub d bad t) :=
  .withDie h (.foldl h fun _ _ h => (h.scrubCounter ..))

theorem execBwWindowEnd (h : Keeps s t) (n) : Leaves s (execBwWindowEnd n t) := by
  unfold Machine.execBwWindowEnd
  extract_lets t'
  have ht' : Keeps s t' := by unfold t'; split; (exact h; exact (by split; (exact .ite h (h.bwReport ..); exact h.bwReport ..)))
  exact .withLane h (.same ht')

theorem execSampleDrain (h : Keeps s t) (d) : Leaves s (execSampleDrain d t) :=
  .withDie h (by dsimp only; split; (exact h; exact .ite h (.postEntry (.emit (.bump (.wr h.same ..) ..) ..) ..)))

theorem execLinkRetrainStart (h : Keeps s t) (n) : Leaves s (execLinkRetrainStart n t) :=
  .withLane h (.ite (h.startTraining ..) h)

theorem execTrainingFrameRx (h : Keeps s t) (n control status targetMet) : Leaves s (execTrainingFrameRx n control status targetMet t) := by
  refine .withLane h ?_
  split
  · exact h
  · exact .ite h (.ite (h.setPortLink ..) (.sendTraining (.ite (.useFree (.setLaneLink (.setPortLink (h.answerTap ..) ..) ..)) (.setLaneLink
      (.setPortLink (h.answerTap ..) ..) ..)) ..))

theorem execL400TrainStepTimeout (h : Keeps s t) (n) : Leaves s (execL400TrainStepTimeout n t) :=
  .withLane h (.ite (h.restartTraining ..) h)

theorem execL400NoPartner (h : Keeps s t) (n) : Leaves s (execL400NoPartner n t) :=
  .withLane h (.ite (.restartTraining (.ite (h.setPortLink ..) (.fireLane (h.setPortLink ..) ..)) ..) h)

theorem execAlignmentBlockRx (h : Keeps s t) (n block) : Leaves s (execAlignmentBlockRx n block t) :=
  .withLane h (by split; (exact h; exact .ite (.linkLost (h.setLaneLink ..) ..) (h.setLaneLink ..)))

theorem execLinkUp (h : Keeps s t) (n) : Leaves s (execLinkUp n t) :=
  .withLane h (.ite (.fireLane (.judgeSlice (.foldl (.wr (h.setPortLink ..) ..) fun _ _ h => (.useFree (h.wr ..))) ..) ..) h)

theorem execLinkDown (h : Keeps s t) (n) : Leaves s (execLinkDown n t) :=
  .withLane h (h.linkLost ..)

theorem execSpareSliceListen (h : Keeps s t) (n marginOk) : Leaves s (execSpareSliceListen n marginOk t) :=
  .withLane h (.ite (.judgeSlice (.listenOn (h.setSlice ..) ..) ..) h)

theorem execLaneRepairTrigger (h : Keeps s t) (n trigger heavy lost) : Leaves s (execLaneRepairTrigger n trigger heavy lost t) := by
  refine .withLane h ?_
  dsimp only
  split
  · exact h
  · refine .ite (h.countWindow ..) (.ite (.fault (h.countWindow ..) ..) (.ite (.setSlice (h.countWindow ..) ..) (.ite (.setSlice
      (h.countWindow ..) ..) (.ite (.fault (h.countWindow ..) ..) (.ite (.startJob (.preempt (h.countWindow ..) ..) ..) ?_)))))
    split
    · exact .ite (h.countWindow ..) (.setSlice (.preempt (h.countWindow ..) ..) ..)
    · exact .fault (h.countWindow ..) ..

theorem execRxChangeover (h : Keeps s t) (n) : Leaves s (execRxChangeover n t) :=
  .withLane h (by dsimp only; split; (exact .ite (h.setSlice ..) h; exact h))

theorem execTxChangeover (h : Keeps s t) (n) : Leaves s (execTxChangeover n t) :=
  .withLane h (by split; (exact .ite (h.endJob ..) h; exact h))

theorem execPfcXoffRefresh (h : Keeps s t) (n g) : Leaves s (execPfcXoffRefresh n g t) :=
  .withLane h (by dsimp only; split; (exact .ite (.sendXoff (h.judgePfc ..) ..) (h.judgePfc ..); exact h.judgePfc ..))

theorem execCellFree (h : Keeps s t) (d head tag kind id) : Leaves s (execCellFree d head tag kind id t) :=
  .withDie h (h.freePacket ..)

theorem execCellRelease (h : Keeps s t) (d head kind id) : Leaves s (execCellRelease d head kind id t) :=
  .withDie h (h.releasePacket ..)

theorem execBitmapParityFail (h : Keeps s t) (d bank word) : Leaves s (execBitmapParityFail d bank word t) :=
  .withDie h (.ite h (.later (.fault h.same ..) ..))

theorem execBitmapRebuildDone (h : Keeps s t) (d bank word) : Leaves s (execBitmapRebuildDone d bank word t) :=
  .withDie h (.fMoved h.same ..)

theorem execBpmSweep (h : Keeps s t) (d) : Leaves s (execBpmSweep d t) :=
  .withDie h (.ite h (.fMoved (.bump (h.cells (sparseRising_foldl _ (fun _ _ => sparseRising_erase _ _ none) _ _)) ..) ..))

theorem execFrameReceive (h : Keeps s t) (n frame) : Leaves s (execFrameReceive n frame t) :=
  .withLane h (.ite h (.ite (.macCount (h.bwCount ..) ..) (.ite (.macCount (h.bwCount ..) ..) (.ite h (.tryStart (.ite (.macCount (.macCount
    (h.bwCount ..) ..) ..) (h.bwCount ..)) ..)))))

theorem execParse (h : Keeps s t) (p) : Leaves s (execParse p t) :=
  .withPacket h (fun _ => h.parsePacket ..)

theorem execIngressLookups (h : Keeps s t) (p) : Leaves s (execIngressLookups p t) :=
  .withPacket h (fun _ => .ite (.dropPacket (h.lookStages ..) ..) (.ite (.toPunt (h.lookStages ..) ..) (.beginSearch (h.lookStages ..) ..)))

theorem execAsaSearchSlot (h : Keeps s t) (d) : Leaves s (execAsaSearchSlot d t) := by
  refine .withDie h ?_
  extract_lets _ _ _ _ s1 sideB s2 _ s3
  have hs1 : Keeps s s1 := .ite (.foldl h fun _ _ h => h.serveSlot ..) h
  have hside : ∀ a q, Keeps s a → Keeps s (sideB a q) := fun a q ha => by
    unfold sideB
    dsimp only
    split
    · exact .serveSlot ha.same ..
    · exact .foldl ha fun _ _ h => h.serveSlot ..
  have hs2 : Keeps s s2 := .ite (hside _ _ (hside _ _ hs1)) hs1
  clear_value s2
  have hs3 : Keeps s s3 := hs2.same
  exact .foldl hs3 fun _ _ h => h.settleQueue ..

theorem execRcSweep (h : Keeps s t) (p) : Leaves s (execRcSweep p t) :=
  .withPipe h (h.setRc ..)

theorem execPlaceCreditRefill (h : Keeps s t) (d) : Leaves s (execPlaceCreditRefill d t) :=
  .withDie h (.foldl (.foldl (.foldl h fun _ _ h => (.usePlaceCredits (h.setPlaceCredits ..) ..)) fun _ _ h => (h.setPlaceCredits ..)) fun _ _ h =>
    (h.lendCredit ..))

theorem execPlacementLookup (h : Keeps s t) (p) : Leaves s (execPlacementLookup p t) :=
  .withPacket h (fun _ => .ite (.issuePlace (h.setPlaceCredits ..) ..) (.ite (.finishLookups (.bump (h.setPacket ..) ..) ..) (.ite (.setPlaceQueue
    (h.setPacket ..) ..) (.ite h.same h))))

theorem execPlaceReadReturn (h : Keeps s t) (p) : Leaves s (execPlaceReadReturn p t) :=
  .withPacket h (fun _ => .ite (.finishLookups (.setPacket (.fault (h.bump ..) ..) ..) ..) (.ite (.finishLookups (.setPacket (.fault
    (h.bump ..) ..) ..) ..) (.ite (.finishLookups (h.setPacket ..) ..) (.finishLookups (h.setPacket ..) ..))))

theorem execLearn (h : Keeps s t) (bd mac lport stamp port) : Leaves s (execLearn bd mac lport stamp port t) :=
  .running h (.ite (h.bump ..) h.same)

theorem execLearnApply (h : Keeps s t) : Leaves s (execLearnApply t) :=
  .running h (by split; (exact h.applyLearn ..; exact h))

theorem execMacAgeVisit (h : Keeps s t) : Leaves s (execMacAgeVisit t) :=
  .running h (.ite h (.foldl h fun _ _ h => (h.ageVisit ..)))

theorem execEcmpRebalance (h : Keeps s t) (group targets others) : Leaves s (execEcmpRebalance group targets others t) := by
  unfold Machine.execEcmpRebalance
  extract_lets _ _ t'
  have ht' : Keeps s t' := .foldl h fun _ _ h => (h.keeperWrite ..)
  exact .running h (.ite h.same (.ite h.same (.fireLead (.addChange (.same ht') ..) ..)))

theorem execTableScrub (h : Keeps s t) (d bad) : Leaves s (execTableScrub d bad t) :=
  .withDie h (.foldl h fun _ _ h => .ite (h.rowFault ..) (.markBad (h.rowFault ..) ..))

theorem execAeCsScrub (h : Keeps s t) (d bad) : Leaves s (execAeCsScrub d bad t) :=
  .withDie h (.foldl h fun _ _ h => .ite (.markBad (h.fault ..) ..) (h.fault ..))

theorem execRowRewriteDone (h : Keeps s t) (d kind index) : Leaves s (execRowRewriteDone d kind index t) :=
  .withDie h h.same

theorem execAsaScrub (h : Keeps s t) (d bad) : Leaves s (execAsaScrub d bad t) :=
  .withDie h (.foldl h fun _ _ h => (by split; (exact h.searchRowFail ..; exact .markBad (h.searchRowFail ..) ..; exact .markBad (h.searchRowFail ..) ..)))

theorem execAsaBankSpareSwitch (h : Keeps s t) (d array bank) : Leaves s (execAsaBankSpareSwitch d array bank t) :=
  .withDie h (.ite (.fireLead (.retire (.faultSpare (.setSpare h.same ..) ..) ..) ..) h)

theorem execThreadFault (h : Keeps s t) (p egress x2 kind) : Leaves s (execThreadFault p egress x2 kind t) := by
  refine .withPipe h ?_
  split
  · exact .ite (h.retireThread ..) h
  · split
    · exact h
    · exact .ite (.ite (h.setThread ..) (.retireThread (h.restartItem ..) ..)) (.ite (h.wordEvent ..) (h.threadEvent ..))

theorem execThreadRetire (h : Keeps s t) (p egress x selfCheckFailed) : Leaves s (execThreadRetire p egress x selfCheckFailed t) :=
  .ite (.ite (.execThreadFault h ..) (.withPipe h h)) (.withPipe h h)

theorem execAeDispatch (h : Keeps s t) (p egress item x3) : Leaves s (execAeDispatch p egress item x3 t) :=
  .withPipe h (by dsimp only; split; (exact h; exact .ite h (.ite (h.noRoutine ..) (.ite (h.aeCount ..) (.ite h (h.dispatchItem ..))))))

theorem execCtxRead (h : Keeps s t) (p egress x2 ecc bad) : Leaves s (execCtxRead p egress x2 ecc bad t) :=
  .withPipe h (by split; (exact h; exact (by split; (exact h; exact .ite (h.ctxUnit ..) h))))

theorem execCtxLockGrant (h : Keeps s t) (d context waited ecc bad) : Leaves s (execCtxLockGrant d context waited ecc bad t) := by
  refine .withDie h (.ite h ?_)
  split
  · exact h
  · refine .ite (h.serveHosts ..) ?_
    extract_lets i _ _ s1
    have hs1 : Keeps s s1 := (h.setCtxWaiters ..).holders (sparseRising_put _ _ _ none (by simp))
    split
    · exact hs1
    · dsimp only
      split
      · exact hs1
      · exact .ctxOperate (hs1.aeCount ..) ..

theorem execExitCheck (h : Keeps s t) (egress item failed) : Leaves s (execExitCheck egress item failed t) := by
  unfold Machine.execExitCheck
  split
  · exact .next h
  · exact .running h (.ite h (.ite (h.releaseLog ..) (h.failCheck ..)))

theorem execAeExit (h : Keeps s t) (p egress) : Leaves s (execAeExit p egress t) :=
  .withPipe h (by dsimp only; split; (exact h; exact (by split; (exact h.setExitOrder ..; exact .ite (.setItem (h.setExitOrder ..) ..) h))))

theorem execSpareTakeoverCheckDone (h : Keeps s t) (d egress pass) : Leaves s (execSpareTakeoverCheckDone d egress pass t) :=
  .withDie h (.ite h (.foldl (h.takeoverDone ..) fun _ _ h => (by split; (exact h; exact .ite (h.setItem ..) (h.dropItem ..)))))

theorem execSpareTestDone (h : Keeps s t) (cls d group unit pass) : Leaves s (execSpareTestDone cls d group unit pass t) :=
  .withDie h (.ite (.fillThreads (h.spareTested ..) ..) (h.spareTested ..))

theorem execFlowContextApply (h : Keeps s t) (d context) : Leaves s (execFlowContextApply d context t) :=
  .withDie h (.ite (h.setCtxWaiters ..) (.serveHosts (h.setCtxWaiters ..) ..))

theorem execMeterApply (h : Keeps s t) : Leaves s (execMeterApply t) :=
  .running h (.foldl h fun _ _ h => (.completeToken (.same (h.applyMeter ..)) ..))

theorem execTmEnqueue (h : Keeps s t) (p) : Leaves s (execTmEnqueue p t) :=
  .withPacket h (fun _ => h.tmEnqueue ..)

theorem execRequest (h : Keeps s t) (d source v cells) : Leaves s (execRequest d source v cells t) :=
  .withDie h (.ite (h.setRequests ..) (h.setFanRequests ..))

theorem execArbiterGrant (h : Keeps s t) (v) : Leaves s (execArbiterGrant v t) :=
  .ite (.withLane h (h.arbitrate ..)) (.withDie h (by split; (exact h; exact .ite (.giveGrant (h.setFanRequests ..) ..) h)))

theorem execGrant (h : Keeps s t) (d v) : Leaves s (execGrant d v t) := by
  refine .withDie h ?_
  dsimp only
  split
  · exact h
  · split
    · exact h
    · exact .joinStaged (.noteReturn (.pumpRequests (.sendCells (h.setQueue ..) ..) ..) ..) ..

theorem execStandingRestore (h : Keeps s t) (d n cells) : Leaves s (execStandingRestore d n cells t) :=
  .withDie h (h.setStandingUsed ..)

theorem execDieCopyArrival (h : Keeps s t) (i) : Leaves s (execDieCopyArrival i t) :=
  .withCopy h (fun _ => .ite (.endCopy (h.portCopies ..) ..) (.same (h.portCopies ..)))

theorem execEgressEntry (h : Keeps s t) (i) : Leaves s (execEgressEntry i t) :=
  .withCopy h (fun _ => h.egressEntry ..)

theorem execRewriteCopy (h : Keeps s t) (i) : Leaves s (execRewriteCopy i t) :=
  .withCopy h (fun _ => h.rewriteStep ..)

theorem execGateEntryChange (h : Keeps s t) (n) : Leaves s (execGateEntryChange n t) :=
  .withLane h (h.settleGate ..)

theorem execGclSwapApply (h : Keeps s t) (n) : Leaves s (execGclSwapApply n t) := by
  refine .withLane h ?_
  split
  · exact h
  · refine .ite h (.settleGate (.ite ?_ (.swapDone (.flipBank (.setGate (h.wr ..) ..) ..) ..)) ..)
    split
    · exact .announceRelease (.same (.swapDone (.flipBank (.setGate (h.wr ..) ..) ..) ..)) ..
    · exact .swapDone (.flipBank (.setGate (h.wr ..) ..) ..) ..

theorem execPortFrameStart (h : Keeps s t) (n) : Leaves s (execPortFrameStart n t) :=
  .withLane h (h.frameStart ..)

theorem execTransmitDone (h : Keeps s t) (n) : Leaves s (execTransmitDone n t) :=
  .withLane h (by split; (exact h; exact (by split; (exact h.same; exact .ite (h.transmitDone ..) h))))

theorem execPortDrainEnd (h : Keeps s t) (n expired) : Leaves s (execPortDrainEnd n expired t) := by
  refine .withLane h ?_
  extract_lets _ left s1 _ _ s2
  have hs1 : Keeps s s1 := .foldl h fun _ _ h => .endCopy (.restoreStanding (.bump (.outOfEngine (h.endThreadsOf ..) ..) ..) ..) ..
  have hs2 : Keeps s s2 := .tm (.foldl hs1 fun _ _ h => h.setTxQueue ..) _
  exact .ite h (.ite (hs2.startTraining ..) (hs2.squelch ..))

theorem execFrameEnd (h : Keeps s t) (p truncated) : Leaves s (execFrameEnd p truncated t) := by
  unfold Machine.execFrameEnd
  split
  · exact .next h
  · exact .running h (h.frameEnd ..)

theorem execPfcFrameRx (h : Keeps s t) (n opcode vector times) : Leaves s (execPfcFrameRx n opcode vector times t) :=
  .withLane h (.ite h (.ite (.bump (h.countControl ..) ..) (.foldl (h.countControl ..) fun _ _ h => .ite (h.pauseClass ..) h)))

theorem execPfcPauseExpire (h : Keeps s t) (n x1) : Leaves s (execPfcPauseExpire n x1 t) :=
  .withLane h (by split; (exact .ite (h.setPause ..) h; exact h))

theorem execPfcWatchdogExpire (h : Keeps s t) (n x1) : Leaves s (execPfcWatchdogExpire n x1 t) :=
  .withLane h (by dsimp only; split; (exact .ite (.ite (.later (.fire (h.setPause ..) ..) ..) (h.later ..)) h; exact h))

theorem execPfcStormEnd (h : Keeps s t) (n x1) : Leaves s (execPfcStormEnd n x1 t) :=
  .withLane h (by split; (exact .ite (h.setPause ..) h; exact h))

theorem execThreshAdjust (h : Keeps s t) : Leaves s (execThreshAdjust t) := by
  unfold Machine.execThreshAdjust
  extract_lets _ s1
  have hs1 : Keeps s s1 := .ite h (.foldl h fun _ _ h => .ite h (h.addChange ..))
  exact .running h (.later (.same hs1) ..)

theorem execLoopbackSlot (h : Keeps s t) (d) : Leaves s (execLoopbackSlot d t) :=
  .withDie h (by split; (exact h.serveLoop ..; exact h))

theorem execLoopbackInject (h : Keeps s t) (p free) : Leaves s (execLoopbackInject p free t) :=
  .withPacket h (fun _ => .setPacket (.giveTo (.ite h (h.bump ..)) ..) ..)

theorem execLateRemoval (h : Keeps s t) (d) : Leaves s (execLateRemoval d t) :=
  .withDie h (.foldl (.foldl h fun _ _ h => (h.removeLateStarts ..)) fun _ _ h => (h.removeLate ..))

theorem execSpillWrite (h : Keeps s t) (d) : Leaves s (execSpillWrite d t) :=
  .withDie h (h.spillWrite ..)

theorem execSpillWriteDone (h : Keeps s t) (i) : Leaves s (execSpillWriteDone i t) :=
  .withCopy h (fun _ => .noteReturn (.setCopy (.ite (h.toSpill ..) (h.releasePacket ..)) ..) ..)

theorem execSpillRead (h : Keeps s t) (d) : Leaves s (execSpillRead d t) :=
  .withDie h (h.spillRead ..)

theorem execSpillReadDone (h : Keeps s t) (i lost channel) : Leaves s (execSpillReadDone i lost channel t) := by
  refine .withCopy h (fun _ => .ite (h.loseSpilled ..) (.settleReturn (.pumpRequests (.setCopy ?_ ..) ..) ..))
  split
  · exact .moveUsers (.openRecord (.setReserved (h.leavePages ..) ..) ..) ..
  · exact .openRecord (.setReserved (h.leavePages ..) ..) ..

theorem execHbmChannelRepair (h : Keeps s t) (d channel trigger) : Leaves s (execHbmChannelRepair d channel trigger t) := by
  refine .withDie h (.ite h ?_)
  split
  · exact .later (.recordFault h.same ..) ..
  · exact .fire (.fault (.foldl (.retire (.wr (.setSpare h.same ..) ..) ..) fun _ _ h => (h.loseSpilled ..)) ..) ..

theorem execHbmChannelCopyDone (h : Keeps s t) (d channel) : Leaves s (execHbmChannelCopyDone d channel t) :=
  .withDie h (by split; (exact h; exact .fire (.same (.retire (.setSpare (h.setSpare ..) ..) ..)) ..))

theorem execPunt (h : Keeps s t) (p) : Leaves s (execPunt p t) :=
  .withPacket h (fun _ => h.puntStep ..)

theorem execPuntDeliver (h : Keeps s t) (d) : Leaves s (execPuntDeliver d t) :=
  .withDie h (by split; (exact h; exact .ite (h.leavePunt ..) (h.deliver ..)))

theorem execPoolAllocate (h : Keeps s t) (pool asking) : Leaves s (execPoolAllocate pool asking t) :=
  .running h (by dsimp only; split; (exact h; exact h.takeDelivery ..))

theorem execPoolWaitExpire (h : Keeps s t) (p) : Leaves s (execPoolWaitExpire p t) :=
  .withPacket h (fun _ => .leavePunt (h.bump ..) ..)

theorem execFabricCellSend (h : Keeps s t) (d dst v) : Leaves s (execFabricCellSend d dst v t) :=
  .withDie h (.ite (h.sendCell ..) h)

theorem execReseqTimeout (h : Keeps s t) (d src v) : Leaves s (execReseqTimeout d src v t) :=
  .withDie h (.ite (h.giveUpGap ..) h)

theorem execSuperframeRx (h : Keeps s t) (d g corrected ok crcBad) : Leaves s (execSuperframeRx d g corrected ok crcBad t) :=
  .withGroup h (fun _ => h.superframe ..)

theorem execTrainingBlockRx (h : Keeps s t) (d g block) : Leaves s (execTrainingBlockRx d g block t) :=
  .withGroup h (fun _ => .ite (h.trainingBlock ..) h)

theorem execFabricTrainTimeout (h : Keeps s t) (d g) : Leaves s (execFabricTrainTimeout d g t) :=
  .withGroup h (fun _ => h.trainTimeout ..)

theorem execFabricLaneTrigger (h : Keeps s t) (d g lane cause) : Leaves s (execFabricLaneTrigger d g lane cause t) :=
  .withGroup h (fun _ => .ite (h.laneTrigger ..) h)

theorem execLaneCmdMirror (h : Keeps s t) (d g spare lane) : Leaves s (execLaneCmdMirror d g spare lane t) :=
  .withGroup h (fun _ => .ite (h.setGroup ..) h)

theorem execLaneCmdReady (h : Keeps s t) (d g spare lane) : Leaves s (execLaneCmdReady d g spare lane t) :=
  .withGroup h (fun _ => .ite (.emit (h.setGroup ..) ..) h)

theorem execLaneCmdSwitch (h : Keeps s t) (d g spare lane) : Leaves s (execLaneCmdSwitch d g spare lane t) :=
  .withGroup h (fun _ => (by split; (exact .ite (h.switchLane ..) h; exact h)))

theorem execLaneCmdRelease (h : Keeps s t) (d g spare lane) : Leaves s (execLaneCmdRelease d g spare lane t) :=
  .withGroup h (fun _ => .ite (.setGroup (h.setGroup ..) ..) h)

theorem execFabricTimeExchange (h : Keeps s t) (d) : Leaves s (execFabricTimeExchange d t) :=
  .withDie h (.foldl (h.setExchange ..) fun _ _ h => (h.sendTime ..))

theorem execTimeStampRx (h : Keeps s t) (d g value arrival) : Leaves s (execTimeStampRx d g value arrival t) := by
  refine .withGroup h fun p => ?_
  dsimp only
  split
  · exact .ite (.setExchange (.wr (h.sendTime ..) ..) ..) (.wr (h.sendTime ..) ..)
  · exact .wr (h.sendTime ..) ..

theorem execTimeEchoRx (h : Keeps s t) (d g value) : Leaves s (execTimeEchoRx d g value t) :=
  .withGroup h (fun _ => .ite (h.timeEcho ..) h)

theorem execWqDoorbell (h : Keeps s t) (x0 f w value) : Leaves s (execWqDoorbell x0 f w value t) :=
  .withQueue h (.ite (h.wr ..) (.fire (h.bump ..) ..))

theorem execCqDoorbell (h : Keeps s t) (x0 f c value) : Leaves s (execCqDoorbell x0 f c value t) :=
  .withQueue h (.ite (.serveCq (.ite (h.wr ..) (.ite (.setCq (h.wr ..) ..) (.fireCq (.setCq (h.wr ..) ..) ..))) ..) (h.bump ..))

theorem execWqPush (h : Keeps s t) (x0 f w offset bytes) : Leaves s (execWqPush x0 f w offset bytes t) :=
  .withQueue h (.ite h (.foldl h fun _ _ h => (h.pushSlot ..)))

theorem execNopDescriptor (h : Keeps s t) (host f w desc) : Leaves s (execNopDescriptor host f w desc t) :=
  .withQueue h (h.descStep _ _ _ _ fun _ _ h => h.single _ _ _ h)

theorem execFabricTableWrite (h : Keeps s t) (d seq) : Leaves s (execFabricTableWrite d seq t) :=
  .withDie h (by split; (exact h; exact .ite h (.emit h.same ..)))

theorem execTableAck (h : Keeps s t) (d seq bad) : Leaves s (execTableAck d seq bad t) :=
  .withDie h (by split; (exact h; exact .ite h (.settleTables h.same ..)))

theorem execTableWrite (h : Keeps s t) (host f w desc) : Leaves s (execTableWrite host f w desc t) :=
  .withQueue h (h.descStep _ _ _ _ fun _ _ h => h.tableDesc ..)

theorem execTableDelete (h : Keeps s t) (host f w desc) : Leaves s (execTableDelete host f w desc t) :=
  .withQueue h (h.descStep _ _ _ _ fun _ _ h => h.tableDesc ..)

theorem execContDescriptor (h : Keeps s t) (host f w desc) : Leaves s (execContDescriptor host f w desc t) :=
  .withQueue h (h.descStep _ _ _ _ fun _ _ h => h.contDesc ..)

theorem execTableRead (h : Keeps s t) (host f w desc) : Leaves s (execTableRead host f w desc t) :=
  .withQueue h (h.descStep _ _ _ _ fun _ _ h => h.tableRead ..)

theorem execInjectDescriptor (h : Keeps s t) (host f w desc data free) : Leaves s (execInjectDescriptor host f w desc data free t) :=
  .withQueue h (h.descStep _ _ _ _ fun _ _ h => h.inject ..)

theorem execCellAllocate (h : Keeps s t) (d reqs) : Leaves s (execCellAllocate d reqs t) :=
  .withDie h (.retryInjects (.foldl (.fMoved (.allocClock (h.refillDie ..) ..) ..) fun _ _ h => (h.retryStarts ..)) ..)

theorem execClassWaitExpire (h : Keeps s t) (d octet) : Leaves s (execClassWaitExpire d octet t) :=
  .withDie h (.ite (.foldl h.same fun _ _ h => (h.completeToken ..)) (.foldl (h.setWaiting ..) fun _ _ h => (h.dropWaiting ..)))

theorem execBufferFree (h : Keeps s t) (host f w desc) : Leaves s (execBufferFree host f w desc t) := by
  refine .withQueue h (h.descStep _ _ _ _ fun a x ha => ha.single _ _ _ ?_)
  dsimp only
  split
  · exact ha
  · exact ha.freeBuffer ..

theorem execBufferRefAdd (h : Keeps s t) (host f w desc) : Leaves s (execBufferRefAdd host f w desc t) := by
  refine .withQueue h (h.descStep _ _ _ _ fun a x ha => ha.single _ _ _ ?_)
  dsimp only
  split
  · exact ha
  · exact ha.useFree.addRefs ..

theorem execWqDrainEnd (h : Keeps s t) (x0 f w) : Leaves s (execWqDrainEnd x0 f w t) :=
  .withQueue h (h.endDrain ..)

theorem execFunctionLevelReset (h : Keeps s t) (x0 f) : Leaves s (execFunctionLevelReset x0 f t) :=
  .ite (.running h (h.functionReset ..)) .fault

theorem execKdpSessionIdleExpire (h : Keeps s t) (n) : Leaves s (execKdpSessionIdleExpire n t) :=
  .running h (by split; (exact .ite (h.closeKdp ..) h; exact h))

theorem execThrottleStep (h : Keeps s t) (d) : Leaves s (execThrottleStep d t) := by
  unfold Machine.execThrottleStep
  extract_lets _ s1
  have hs1 : Keeps s s1 := h.same
  exact .withDie h (by split; (exact h; exact .ite hs1 (.driveAlert (.fire (.bump (.wr hs1 ..) ..) ..) ..)))

theorem execThermalSample (h : Keeps s t) (d temps) : Leaves s (execThermalSample d temps t) := by
  refine .withDie h ?_
  split
  · exact h
  · exact .driveAlert (.ite (.autoThrottle (.ite (.fire (.ite (.bump (.wr (.wr h.same ..) ..) ..) (.wr (.wr h.same ..) ..)) ..) (.ite (.bump (.wr
      (.wr h.same ..) ..) ..) (.wr (.wr h.same ..) ..))) ..) (.ite (.fire (.ite (.bump (.wr (.wr h.same ..) ..) ..) (.wr (.wr h.same ..) ..)) ..)
      (.ite (.bump (.wr (.wr h.same ..) ..) ..) (.wr (.wr h.same ..) ..)))) ..

theorem execThrottleRelaxExpire (h : Keeps s t) (d) : Leaves s (execThrottleRelaxExpire d t) := by
  unfold Machine.execThrottleRelaxExpire
  extract_lets _ s1
  have hs1 : Keeps s s1 := h.decideThrottle ..
  exact .withDie h (by split; (exact h; exact .ite (.ite (.later (.same hs1) ..) hs1) h))

theorem execJunctionTrip (h : Keeps s t) (d sensor temp) : Leaves s (execJunctionTrip d sensor temp t) := by
  unfold Machine.execJunctionTrip
  extract_lets s1 s2 _ power
  have hs1 : Keeps s s1 := h.fault ..
  have hs2 : Keeps s s2 := .foldl hs1 fun _ _ h => .ite (h.emit ..) h
  clear_value s2
  exact .ite .fault (.ite (.next h) (.next (.driveAlert hs2.same ..)))

theorem execRailWarning (h : Keeps s t) (d rail) : Leaves s (execRailWarning d rail t) :=
  .withDie h (.ite (h.fire ..) h)

theorem execRailFault (h : Keeps s t) (rail) : Leaves s (execRailFault rail t) := by
  unfold Machine.execRailFault
  extract_lets _ s1
  have hs1 : Keeps s s1 := .ite h (h.fault ..)
  exact .ite .fault (.ite (.next h) (.next (.same hs1)))

theorem execRailInTolerance (h : Keeps s t) (rail) : Leaves s (execRailInTolerance rail t) := by
  unfold Machine.execRailInTolerance
  extract_lets _ _ s1 s2
  have hs1 : Keeps s s1 := h.same
  have hs2 : Keeps s s2 := .engineReset hs1 ..
  exact .ite (.next h) (.ite (.next hs1) (.next (.same hs2)))

theorem execPowerEntryStep (h : Keeps s t) : Leaves s (execPowerEntryStep t) := by
  unfold Machine.execPowerEntryStep
  extract_lets _ s1 _ s2
  have hs1 : Keeps s s1 := h.endEntryStep
  have hs2 : Keeps s s2 := .same hs1
  exact .running h (.ite h (.ite (h.later ..) (.ite (.ite (.later hs2 ..) hs2) (.ite (.toPower (.same hs1) ..) (.ite (.toEntryStep hs1 ..) (.ite
      (.toEntryStep hs1 ..) (.ite (.toPower (.same hs1) ..) (.toEntryStep hs1 ..))))))))

theorem execWakeN (h : Keeps s t) (lowUs) : Leaves s (execWakeN lowUs t) :=
  .running h (.ite h (h.startWake ..))

theorem execSmoulderWake (h : Keeps s t) : Leaves s (execSmoulderWake t) :=
  .running h (.ite h.resume h)

theorem execBankedWake (h : Keeps s t) (emberSeconds) : Leaves s (execBankedWake emberSeconds t) :=
  .running h (.ite (.recov (.retimeTimers (.resume (.emptyCustomerCode (h.keepLateRails.emberTime ..))) ..) _) h)

theorem execPowerOn (h : Keeps s t) : Leaves s (execPowerOn t) := by
  unfold Machine.execPowerOn
  extract_lets _ s1 _ _ s2
  have hs1 : Keeps s s1 := .wr (h.engineReset ..) ..
  clear_value s1
  have hs2 : Keeps s s2 := hs1.same
  exact .next (.ite (hs2.wr ..) hs2)

theorem execResetN (h : Keeps s t) (lowUs) : Leaves s (execResetN lowUs t) :=
  .ite (.next h) (.ite (.next (.recov (.wr (h.engineReset ..) ..) _)) (.next (h.engineReset ..)))

theorem execEngineResetDelayEnd (h : Keeps s t) : Leaves s (execEngineResetDelayEnd t) :=
  .running h (.ite (h.engineReset ..) h)

theorem execPerstN (h : Keeps s t) (x0) : Leaves s (execPerstN x0 t) :=
  .ite .fault (.running h (.emit (.foldl (.ite (.fireLead (.emit (h.wr ..) ..) ..) h) fun _ _ h => (h.functionReset ..)) ..))

theorem execKindlingStart (h : Keeps s t) : Leaves s (execKindlingStart t) := by
  refine .running h ?_
  extract_lets s1 _ _ s2
  have hs1 : Keeps s s1 := .wr (.wr (h.reconcileNvs.wr ..) ..) ..
  clear_value s1
  have hs2 : Keeps s s2 := hs1.same
  exact .ite h (.ite h (.later hs2.keepLateRails.startLamp.trainGroups ..))

theorem execBootAttempt (h : Keeps s t) (f) : Leaves s (execBootAttempt f t) :=
  .running h (.ite h (.ite (.bootImage (h.logAttempt ..) ..) (.bootNext (h.logAttempt ..) ..)))

theorem execBootClaim (h : Keeps s t) : Leaves s (execBootClaim t) :=
  .running h h.same

theorem execBootYield (h : Keeps s t) : Leaves s (execBootYield t) :=
  .running h h.startSecond

theorem execBootClaimTimeout (h : Keeps s t) : Leaves s (execBootClaimTimeout t) :=
  .running h (.ite h.startSecond h)

theorem execHostReady (h : Keeps s t) (defaults) : Leaves s (execHostReady defaults t) :=
  .running h (.ite h (.mbxReady (.wr (.foldl h fun _ _ h => h.applyDefault ..) ..) _))

theorem execForwardingReady (h : Keeps s t) : Leaves s (execForwardingReady t) :=
  .running h (.ite h (.wr (.lampUpdate (.foldl (.foldl h fun _ _ h => (h.fillReserves ..)) fun _ _ h => (h.bringIn ..))) ..))

theorem execFwVerifyDone (h : Keeps s t) (slot code version svn keeperOnly) : Leaves s (execFwVerifyDone slot code version svn keeperOnly t) := by
  refine .running h ?_
  extract_lets s1
  have hs1 : Keeps s s1 := .wr (h.setFwSlot ..) ..
  exact .ite h (.ite (.boot (hs1.setSlots ..) _) hs1)

theorem execKeeperNowRestartDone (h : Keeps s t) : Leaves s (execKeeperNowRestartDone t) :=
  .running h (by split; (exact h; exact .wr (.useFree h.same) ..))

theorem execJtagBypass (h : Keeps s t) (x0) : Leaves s (execJtagBypass x0 t) :=
  .next (.emit (h.selectIr ..) ..)

theorem execIdcode (h : Keeps s t) : Leaves s (execIdcode t) :=
  .next (.emit (h.selectIr ..) ..)

theorem execSamplePreload (h : Keeps s t) (value) : Leaves s (execSamplePreload value t) := by
  unfold Machine.execSamplePreload
  extract_lets s1
  have hs1 : Keeps s s1 := h.selectIr ..
  exact .next (.useFree (.emit (.same hs1) ..))

theorem execExtest (h : Keeps s t) (value) : Leaves s (execExtest value t) :=
  .next (h.extestDrive ..)

theorem execExtestPulse (h : Keeps s t) (value) : Leaves s (execExtestPulse value t) :=
  .next (h.extestDrive ..)

theorem execExtestTrain (h : Keeps s t) (value) : Leaves s (execExtestTrain value t) :=
  .next (h.extestDrive ..)

theorem execResetEngine (h : Keeps s t) (bit) : Leaves s (execResetEngine bit t) :=
  .next (.ite (.engineReset (h.selectIr ..) ..) (h.selectIr ..))

theorem execFaultRecordOpen (h : Keeps s t) (e) : Leaves s (execFaultRecordOpen e t) :=
  .withDie h (.ite (.loseCell (.recordFault (h.loseNvs ..) ..) ..) (.recordFault (h.loseNvs ..) ..))

theorem execCopyLiveDone (h : Keeps s t) (f) : Leaves s (execCopyLiveDone f t) :=
  .running h (by split; (exact h; exact (by dsimp only; split; (exact h.same; exact .runJob (.doOp h.same ..) ..))))

theorem execNvsCommit (h : Keeps s t) : Leaves s (execNvsCommit t) := by
  refine .running h ?_
  split
  · exact h
  · split
    · exact .serveCritical (.ite (.afterCritical (.ite (.commitNvs (.setLive h.same ..)) (.finishJob (.commitNvs (.setLive h.same ..)) ..)) ..)
        (.ite (.commitNvs (.setLive h.same ..)) (.finishJob (.commitNvs (.setLive h.same ..)) ..))) ..
    · exact h

theorem execMbxDoorbell (h : Keeps s t) (x0 f v block) : Leaves s (execMbxDoorbell x0 f v block t) :=
  .ite .fault (.running h (.ite h (.ite (.emit (.setMailbox (h.setMailbox ..) ..) ..) (.serveBlock (h.setMailbox ..) ..))))

theorem execKdpRequest (h : Keeps s t) (d block) : Leaves s (execKdpRequest d block t) :=
  .withDie h (h.kdpDatagram ..)

theorem execOpenSession (h : Keeps s t) (d block) : Leaves s (execOpenSession d block t) :=
  .withDie h (h.kdpDatagram ..)

theorem execCloseSession (h : Keeps s t) (d block) : Leaves s (execCloseSession d block t) :=
  .withDie h (h.kdpDatagram ..)

theorem execDictDescriptor (h : Keeps s t) (host f w desc block) : Leaves s (execDictDescriptor host f w desc block t) :=
  .withQueue h (h.descStep _ _ _ _ fun _ _ h => .ite (h.endOp ..) (.serveBlock (h.holdOp ..) ..))

theorem execScheduleDescriptor (h : Keeps s t) (host f w desc) : Leaves s (execScheduleDescriptor host f w desc t) :=
  .withQueue h (h.descStep _ _ _ _ fun _ _ h => .ite (h.endOp ..) (.request (h.holdOp ..) ..))

theorem execSmbusSelect (h : Keeps s t) (a) : Leaves s (execSmbusSelect a t) :=
  .running h h.same

theorem execSmbusRead (h : Keeps s t) : Leaves s (execSmbusRead t) :=
  .running h (by split; (exact h.emit ..; exact .emit (h.boardOp ..) ..))

theorem execSmbusWrite (h : Keeps s t) (data) : Leaves s (execSmbusWrite data t) := by
  unfold Machine.execSmbusWrite
  extract_lets r
  have hr : Keeps s r.2 := by unfold r; split; (exact h; exact h.boardOp ..)
  exact .running h (.same hr)

theorem execSmbusLastStatus (h : Keeps s t) : Leaves s (execSmbusLastStatus t) :=
  .running h (h.emit ..)

theorem execJtagProvisionKey (h : Keeps s t) (rsvd key) : Leaves s (execJtagProvisionKey rsvd key t) :=
  .next (h.provision ..)

theorem execJtagProvisionSeal (h : Keeps s t) (rsvd key) : Leaves s (execJtagProvisionSeal rsvd key t) :=
  .next (h.provision ..)

theorem execFaultNRelease (h : Keeps s t) (r v) : Leaves s (execFaultNRelease r v t) := .ite (.next (h.emit ..)) (.row h)

theorem execFlightIdle (h : Keeps s t) (d idle) : Leaves s (execFlightIdle d idle t) :=
  .withDie h (.releaseBanks (h.reportIdle ..))

theorem execEpochBoundary (h : Keeps s t) : Leaves s (execEpochBoundary t) :=
  .running h (.ite h h.boundary)

theorem execEpochHoldEnd (h : Keeps s t) : Leaves s (execEpochHoldEnd t) :=
  .running h (.ite (.boundary h.same) h)

theorem exec (h : Keeps s t) (i) : Leaves s (exec i t) := by
  cases i
  case contWord | jumpWord | branchWord | callWord | returnWord | dispatchWord | endWord | trapWord => exact .seqRow h
  case aluNop | aluAdd | aluSub | aluAnd | aluOr | aluXor | aluShl | aluShr | aluSar | aluMin | aluMax | aluCmp | aluPass | aluExtract | aluAddoc |
    aluBswap | aluMul16 | aluCrc32c | moveWord | hvw | ctxWrite | ctxInit | cntInc | cntAdd | metBlind | metAware | emitEncap | emitDecap |
    emitSetNexthop | emitTtlDec | replRecirc | replMirror | replDrop | replPunt | copyToHost | perfMark | perfSample => exact .unitRow h
  case engineReset | todSet | timeSource | timeStepAccept | schedCancel | ppsOutFunction | octetRateGroup | portMode | portEnable |
    linkRetrainAuto | spareChangeover | spareRelease | loopbackClaim | poolEnable | gclSwap | wqEnable | cqEnable | readObj | writeObj |
    writeEpoch | readPending | sessionReset | keySet | keyClear | keyProvision | sealWrite | tableSwap | tableCopyLive | tableShadowSeed |
    tableShadowTiles | ecmpSwap | parserSwap | parserCopyLive | asaSetSwap | asaSetCommit | placeSwap | placeCopyLive | rewriteSwap |
    rewriteCopyLive | aeCodeClear | aeCodeBlock | aeDispatchEntry | aeCodeSwap | aeCodeCopyLive | evcClaim | evcEoi | evcSource | timerClaim |
    timerArm | sparePipelineClaim | pipelineMigrate | recoveryCancel | recoveryClearShadows | throttleStepLimit | throttleStepSet | powerRequest |
    powerWake | fwFlashBlock | fwVerify | fwActivateNextReset | fwActivateKeeperNow | fwSvnCommit => exact .row h
  case resetN => exact execResetN h ..
  case bootAttempt => exact execBootAttempt h ..
  case hostReady => exact execHostReady h ..
  case perstN => exact execPerstN h ..
  case functionLevelReset => exact execFunctionLevelReset h ..
  case ppsInEdge => exact execPpsInEdge h ..
  case ptpMessageRx => exact execPtpMessageRx h ..
  case timeOffsetMeasure => exact execTimeOffsetMeasure h ..
  case flightIdle => exact execFlightIdle h ..
  case dieAckTimeout => exact execDieAckTimeout h ..
  case linkRetrainStart => exact execLinkRetrainStart h ..
  case trainingFrameRx => exact execTrainingFrameRx h ..
  case l400TrainStepTimeout => exact execL400TrainStepTimeout h ..
  case l400NoPartner => exact execL400NoPartner h ..
  case alignmentBlockRx => exact execAlignmentBlockRx h ..
  case linkUp => exact execLinkUp h ..
  case linkDown => exact execLinkDown h ..
  case portDrainEnd => exact execPortDrainEnd h ..
  case spareSliceListen => exact execSpareSliceListen h ..
  case laneRepairTrigger => exact execLaneRepairTrigger h ..
  case rxChangeover => exact execRxChangeover h ..
  case txChangeover => exact execTxChangeover h ..
  case frameReceive => exact execFrameReceive h ..
  case pfcXoffRefresh => exact execPfcXoffRefresh h ..
  case parse => exact execParse h ..
  case frameEnd => exact execFrameEnd h ..
  case ingressLookups => exact execIngressLookups h ..
  case asaSearchSlot => exact execAsaSearchSlot h ..
  case rcSweep => exact execRcSweep h ..
  case placeCreditRefill => exact execPlaceCreditRefill h ..
  case placementLookup => exact execPlacementLookup h ..
  case placeReadReturn => exact execPlaceReadReturn h ..
  case aeDispatch => exact execAeDispatch h ..
  case ctxRead => exact execCtxRead h ..
  case ctxLockGrant => exact execCtxLockGrant h ..
  case threadFault => exact execThreadFault h ..
  case threadRetire => exact execThreadRetire h ..
  case exitCheck => exact execExitCheck h ..
  case spareTakeoverCheckDone => exact execSpareTakeoverCheckDone h ..
  case aeExit => exact execAeExit h ..
  case tmEnqueue => exact execTmEnqueue h ..
  case request => exact execRequest h ..
  case arbiterGrant => exact execArbiterGrant h ..
  case grant => exact execGrant h ..
  case standingRestore => exact execStandingRestore h ..
  case dieCopyArrival => exact execDieCopyArrival h ..
  case egressEntry => exact execEgressEntry h ..
  case rewriteCopy => exact execRewriteCopy h ..
  case portFrameStart => exact execPortFrameStart h ..
  case transmitDone => exact execTransmitDone h ..
  case loopbackSlot => exact execLoopbackSlot h ..
  case loopbackInject => exact execLoopbackInject h ..
  case lateRemoval => exact execLateRemoval h ..
  case cellAllocate => exact execCellAllocate h ..
  case classWaitExpire => exact execClassWaitExpire h ..
  case cellFree => exact execCellFree h ..
  case cellRelease => exact execCellRelease h ..
  case bitmapParityFail => exact execBitmapParityFail h ..
  case bpmSweep => exact execBpmSweep h ..
  case poolAllocate => exact execPoolAllocate h ..
  case poolWaitExpire => exact execPoolWaitExpire h ..
  case spillWrite => exact execSpillWrite h ..
  case spillWriteDone => exact execSpillWriteDone h ..
  case spillRead => exact execSpillRead h ..
  case spillReadDone => exact execSpillReadDone h ..
  case hbmChannelRepair => exact execHbmChannelRepair h ..
  case hbmChannelCopyDone => exact execHbmChannelCopyDone h ..
  case pfcFrameRx => exact execPfcFrameRx h ..
  case pfcPauseExpire => exact execPfcPauseExpire h ..
  case pfcWatchdogExpire => exact execPfcWatchdogExpire h ..
  case pfcStormEnd => exact execPfcStormEnd h ..
  case gateEntryChange => exact execGateEntryChange h ..
  case gclSwapApply => exact execGclSwapApply h ..
  case flowContextApply => exact execFlowContextApply h ..
  case punt => exact execPunt h ..
  case puntDeliver => exact execPuntDeliver h ..
  case trainingBlockRx => exact execTrainingBlockRx h ..
  case fabricTrainTimeout => exact execFabricTrainTimeout h ..
  case superframeRx => exact execSuperframeRx h ..
  case fabricCellSend => exact execFabricCellSend h ..
  case reseqTimeout => exact execReseqTimeout h ..
  case fabricLaneTrigger => exact execFabricLaneTrigger h ..
  case laneCmdMirror => exact execLaneCmdMirror h ..
  case laneCmdReady => exact execLaneCmdReady h ..
  case laneCmdSwitch => exact execLaneCmdSwitch h ..
  case laneCmdRelease => exact execLaneCmdRelease h ..
  case fabricTimeExchange => exact execFabricTimeExchange h ..
  case timeStampRx => exact execTimeStampRx h ..
  case timeEchoRx => exact execTimeEchoRx h ..
  case fabricTableWrite => exact execFabricTableWrite h ..
  case tableAck => exact execTableAck h ..
  case scheduleMsg => exact execScheduleMsg h ..
  case learn => exact execLearn h ..
  case keeperMsg => exact execKeeperMsg h ..
  case ecmpRebalance => exact execEcmpRebalance h ..
  case tableScrub => exact execTableScrub h ..
  case asaScrub => exact execAsaScrub h ..
  case asaBankSpareSwitch => exact execAsaBankSpareSwitch h ..
  case aeCsScrub => exact execAeCsScrub h ..
  case counterScrub => exact execCounterScrub h ..
  case sramRowRepair => exact execSramRowRepair h ..
  case tableWrite => exact execTableWrite h ..
  case tableDelete => exact execTableDelete h ..
  case tableRead => exact execTableRead h ..
  case contDescriptor => exact execContDescriptor h ..
  case nopDescriptor => exact execNopDescriptor h ..
  case dictDescriptor => exact execDictDescriptor h ..
  case scheduleDescriptor => exact execScheduleDescriptor h ..
  case injectDescriptor => exact execInjectDescriptor h ..
  case bufferFree => exact execBufferFree h ..
  case bufferRefAdd => exact execBufferRefAdd h ..
  case wqDoorbell => exact execWqDoorbell h ..
  case wqPush => exact execWqPush h ..
  case cqDoorbell => exact execCqDoorbell h ..
  case wqDrainEnd => exact execWqDrainEnd h ..
  case mbxDoorbell => exact execMbxDoorbell h ..
  case kdpRequest => exact execKdpRequest h ..
  case openSession => exact execOpenSession h ..
  case closeSession => exact execCloseSession h ..
  case kdpSessionIdleExpire => exact execKdpSessionIdleExpire h ..
  case smbusSelect => exact execSmbusSelect h ..
  case smbusWrite => exact execSmbusWrite h ..
  case eventFire => exact execEventFire h ..
  case evcCoreClaim => exact execEvcCoreClaim h ..
  case evcCoreEoi => exact execEvcCoreEoi h ..
  case evcVecEoi => exact execEvcVecEoi h ..
  case msixUnmask => exact execMsixUnmask h ..
  case timerExpire => exact execTimerExpire h ..
  case faultRecordOpen => exact execFaultRecordOpen h ..
  case faultRecordClose => exact execFaultRecordClose h ..
  case spareTestStart => exact execSpareTestStart h ..
  case spareTestDone => exact execSpareTestDone h ..
  case spareRetest => exact execSpareRetest h ..
  case migrateDrainEnd => exact execMigrateDrainEnd h ..
  case keeperCoreFault => exact execKeeperCoreFault h ..
  case keeperCheckpoint => exact execKeeperCheckpoint h ..
  case pllFault => exact execPllFault h ..
  case timeMasterFail => exact execTimeMasterFail h ..
  case pcieFailover => exact execPcieFailover h ..
  case dieFence => exact execDieFence h ..
  case wearForecast => exact execWearForecast h ..
  case wearSample => exact execWearSample h ..
  case cwinValueRead => exact execCwinValueRead h ..
  case bwWindowEnd => exact execBwWindowEnd h ..
  case sampleDrain => exact execSampleDrain h ..
  case thermalSample => exact execThermalSample h ..
  case throttleStep => exact execThrottleStep h ..
  case throttleRelaxExpire => exact execThrottleRelaxExpire h ..
  case junctionTrip => exact execJunctionTrip h ..
  case railWarning => exact execRailWarning h ..
  case railFault => exact execRailFault h ..
  case wakeN => exact execWakeN h ..
  case bankedWake => exact execBankedWake h ..
  case fwVerifyDone => exact execFwVerifyDone h ..
  case jtagBypass tdi => exact execJtagBypass h tdi
  case samplePreload => exact execSamplePreload h ..
  case extest => exact execExtest h ..
  case extestPulse => exact execExtestPulse h ..
  case extestTrain => exact execExtestTrain h ..
  case jtagProvisionKey => exact execJtagProvisionKey h ..
  case jtagProvisionSeal => exact execJtagProvisionSeal h ..
  case resetEngine => exact execResetEngine h ..
  case railInTolerance => exact execRailInTolerance h ..
  case pciePowerStateChange => exact execPciePowerStateChange h ..
  case rowRewriteDone => exact execRowRewriteDone h ..
  case bitmapRebuildDone => exact execBitmapRebuildDone h ..
  case copyLiveDone => exact execCopyLiveDone h ..
  case sramSpareSwitch => exact execSramSpareSwitch h ..
  case faultNRelease => exact execFaultNRelease h ..
  case powerOn => exact execPowerOn h
  case kindlingStart => exact execKindlingStart h
  case bootClaim => exact execBootClaim h
  case bootYield => exact execBootYield h
  case bootClaimTimeout => exact execBootClaimTimeout h
  case forwardingReady => exact execForwardingReady h
  case engineResetDelayEnd => exact execEngineResetDelayEnd h
  case ppsInMissed => exact execPpsInMissed h
  case ptpAnnounceTimeout => exact execPtpAnnounceTimeout h
  case timeStep => exact execTimeStep h
  case epochHoldEnd => exact execEpochHoldEnd h
  case epochBoundary => exact execEpochBoundary h
  case ppsOutPulse => exact execPpsOutPulse h
  case threshAdjust => exact execThreshAdjust h
  case meterApply => exact execMeterApply h
  case learnApply => exact execLearnApply h
  case macAgeVisit => exact execMacAgeVisit h
  case nvsCommit => exact execNvsCommit h
  case smbusRead => exact execSmbusRead h
  case smbusLastStatus => exact execSmbusLastStatus h
  case lampRefresh => exact execLampRefresh h
  case lampRefreshLapse => exact execLampRefreshLapse h
  case keeperTakeover => exact execKeeperTakeover h
  case powerEntryStep => exact execPowerEntryStep h
  case smoulderWake => exact execSmoulderWake h
  case keeperNowRestartDone => exact execKeeperNowRestartDone h
  case idcode => exact execIdcode h
  case freqSourceLost => exact execFreqSourceLost h

theorem tick (h : Keeps s t) : Leaves s (tick t) := by
  unfold Machine.tick
  split
  · exact .exec h.same _
  · exact .next h.clock

end
end Leaves

end Sys2Proof.Machine
end

section
/-! PROOFS. O2, O3 and O4. -/

namespace Sys2Proof.Machine

/-- Every step keeps, of the state whose queue has lost its front command, what every command keeps. -/
theorem step_leaves (s : State) : Leaves { s with pending := s.pending.tail } (step s) := by
  unfold step
  cases hq : s.pending with
  | nil => exact .tick (.of_core (by simp [State.core, hq]))
  | cons c rest => exact .exec (.refl _) c

/-- Settles O2: no command touches the queue it is run with, or the part. -/
theorem stepTakesOne : Obligations.StepTakesOne := by
  intro s t ht
  have h := (step_leaves s).keeps t ht
  exact ⟨h.pending, h.part⟩

/-- Settles O3: every command writes registers and NVS images through operations that keep their canonical form. -/
theorem registersKeepForm : Obligations.RegistersKeepForm :=
  fun s t hs ht => ((step_leaves s).keeps t ht).sound hs

/-- Settles O4: every command changes the keyed lists through operations that keep their order. -/
theorem listsKeepOrder : Obligations.ListsKeepOrder :=
  fun s t _ ho ht => ((step_leaves s).keeps t ht).ordered ho

end Sys2Proof.Machine
end

section
namespace Sys2Proof.Machine

/-! What one step runs, and the state right after reset. -/

/-- Settles O1: the queue's front first, then the agenda, then the clock. -/
theorem stepRunsFront : Obligations.StepRunsFront := by
  intro s
  refine ⟨fun c => rfl, fun hq => ⟨fun hd => ?_, fun due c hd => ?_⟩⟩
  · simp only [step, hq, tick, hd]
  · simp only [step, hq, tick, hd]

theorem sparseGet_nil {α : Type} (d : Nat → α) (k : Nat) : sparseGet d [] k = d k := rfl

/-- The number and member of an object are what its key holds. -/
theorem defaultAt_dictKey (inst idx sub : Nat) (hi : idx < 65536) (hs : sub < 256) :
    Od.defaultAt (dictKey inst idx sub) = (((Od.areaOf (idx / 256)).find? fun o => o.covers idx sub && o.kindFits (InstKind.ofInst inst)).map
      fun o => o.dfltAt (o.member idx sub)).getD 0 := by
  have h1 : dictKey inst idx sub / 256 % 65536 = idx := by unfold dictKey; omega
  have h2 : dictKey inst idx sub % 256 = sub := by unfold dictKey; omega
  have h3 : dictKey inst idx sub / 16777216 = inst := by unfold dictKey; omega
  have he : Od.defaultAt = Od.defaultAt := rfl
  conv at he => rhs; delta Od.defaultAt
  have h := congrFun he (dictKey inst idx sub)
  rw [h1, h2, h3] at h
  extract_lets i at h
  unfold i at h
  rw [h]
  generalize ((Od.areaOf (idx / 256)).find? fun o => o.covers idx sub && o.kindFits (InstKind.ofInst inst)) = x
  cases x <;> rfl

theorem portMode_default (inst : Nat) : Od.defaultAt (Od.portMode.key inst 0) = 0 := by
  have hk : Od.portMode.key inst 0 = dictKey inst Od.portMode.index Od.portMode.sub := rfl
  rw [hk, defaultAt_dictKey _ _ _ (by decide) (by decide)]
  cases InstKind.ofInst inst <;> decide +kernel

/-- Settles O5: the register file of the reset state is empty, so that every register reads its default. -/
theorem resetState : Obligations.ResetState := by
  have hrd : ∀ (o : Obj) inst k, State.reset.rd o inst k = Od.defaultAt (o.key inst k) := fun o inst k => sparseGet_nil ..
  refine ⟨rfl, rfl, rfl, hrd, ?_, ?_, ?_, ?_, rfl, rfl, rfl, rfl, rfl, rfl, rfl, rfl, rfl, rfl, fun n => ?_, fun d c => rfl⟩
  · decide +kernel
  · decide +kernel
  · decide +kernel
  · decide +kernel
  · have hmode : State.reset.portModeOf n = 0 := (hrd ..).trans (portMode_default _)
    simp only [State.portStateOf, hmode, if_true]
end Sys2Proof.Machine
end

section
namespace Sys2Proof.Machine
section
variable {s : State} {r : Req}

/-! Objects that a function without a key writes. -/

/-- Member `b` of index `i` is one that every package with the object has. -/
def memberKept (i b : Nat) : Bool :=
  !(decide (0x4000 ≤ i) && decide (i < 0x400F) && b = 9 && i ≠ 0x4005) && !(decide (0xA200 ≤ i) && decide (i < 0xA300)) &&
    !(decide (0x7010 ≤ i) && decide (i < 0x7014) && decide (0x1A < (i - 0x7010) * 16 + (b - 1)))

theorem memberAbsent_of_kept (a : Address) (h : memberKept a.index a.sub = true) : s.memberAbsent a = false := by
  simp only [memberKept, Bool.and_eq_true, Bool.not_eq_true'] at h
  obtain ⟨⟨h4, ha⟩, h7⟩ := h
  simp only [State.memberAbsent, h4, ha, h7, Bool.false_and, Bool.or_false]

/-- Object `ob` stands at index `i`, member `b`, of instances of class `c`, in every package. -/
structure Stands (c : InstClass) (ob : Obj) (i b : Nat) : Prop where
  stands : objectAt c i b = some ob
  kept : memberKept i b = true
  notSource : i < 0xA200 ∨ 0xA300 ≤ i
  index : i < 65536
  sub : b < 256

/-- `Stands` as a test, which `decide` runs on an object of the dictionary. -/
def standsAt (c : InstClass) (ob : Obj) (i b : Nat) : Bool :=
  decide (objectAt c i b = some ob ∧ memberKept i b = true ∧ (i < 0xA200 ∨ 0xA300 ≤ i) ∧ i < 65536 ∧ b < 256)

theorem Stands.of {c : InstClass} {ob : Obj} {i b : Nat} (h : standsAt c ob i b = true) : Stands c ob i b := by
  obtain ⟨h1, h2, h3, h4, h5⟩ := of_decide_eq_true h
  exact ⟨h1, h2, h3, h4, h5⟩

/-- A request without a key may write the object: it is neither critical nor read-only, no copy of a live bank, no key and no SESSION_RESET. -/
structure PlainObject (c : InstClass) (ob : Obj) (i b : Nat) : Prop extends Stands c ob i b where
  plain : ob.critical = false
  access : ob.accessAt ⟨0, i, b⟩ = .rw ∨ ob.accessAt ⟨0, i, b⟩ = .wo
  noKey : ¬(i = 0x1100 ∧ b = 3)
  noReset : ¬(i = 0x1011 ∧ b = 3)
  noCopy : copyFamilyOf ⟨0, i, b⟩ = none
  size : ob.type.size ≤ 1376

/-- `PlainObject` as a test. -/
def plainObject (c : InstClass) (ob : Obj) (i b : Nat) : Bool :=
  standsAt c ob i b && decide (ob.critical = false ∧ (ob.accessAt ⟨0, i, b⟩ = .rw ∨ ob.accessAt ⟨0, i, b⟩ = .wo) ∧ ¬(i = 0x1100 ∧ b = 3) ∧
    ¬(i = 0x1011 ∧ b = 3) ∧ copyFamilyOf ⟨0, i, b⟩ = none ∧ ob.type.size ≤ 1376)

theorem PlainObject.of {c : InstClass} {ob : Obj} {i b : Nat} (h : plainObject c ob i b = true) : PlainObject c ob i b := by
  obtain ⟨hs, h⟩ := Bool.and_eq_true_iff.mp h
  obtain ⟨h1, h2, h3, h4, h5, h6⟩ := of_decide_eq_true h
  exact ⟨.of hs, h1, h2, h3, h4, h5, h6⟩

/-- A value that checks 10 and 11 let pass. -/
def Obj.takes (ob : Obj) (v : Nat) : Prop := v < 256 ^ ob.type.size ∧ ob.type.allows v = true ∧ ob.permit.allows ob.type v = true

/-- The object at an address is defined, and present in the package. -/
structure Placed (s : State) (a : Address) (ob : Obj) : Prop where
  defined : definedAt a = some ob
  present : ∀ x, s.object? x a = some ob

theorem placed_package {ob : Obj} {i b : Nat} (h : Stands .package ob i b) : Placed s ⟨0, i, b⟩ ob :=
  ⟨defined_package i b ob h.stands h.notSource,
    fun x => object_package x i b ob h.stands h.notSource h.index h.sub (memberAbsent_of_kept _ h.kept)⟩

theorem placed_die {ob : Obj} {d i b : Nat} (h : Stands .die ob i b) (hd : d < 8) (hs : s.hasDie d = true) (hi : ob.inst ≠ .hostDie) :
    Placed s ⟨dieInst d, i, b⟩ ob :=
  ⟨defined_die d i b ob h.stands hd h.notSource,
    fun x => object_die x d i b ob h.stands hd hs h.notSource h.index h.sub (memberAbsent_of_kept _ h.kept) hi⟩

theorem placed_port {ob : Obj} {n i b : Nat} (h : Stands .lanePort ob i b) (hn : n < 512) (hs : s.hasDie (n / 64) = true)
    (hi : ob.inst ≠ .octet ∨ n % 8 = 0) : Placed s ⟨portInst n, i, b⟩ ob :=
  ⟨defined_port n i b ob h.stands hn h.notSource,
    fun x => object_port x n i b ob h.stands hn hs h.notSource h.index h.sub (memberAbsent_of_kept _ h.kept) hi⟩

/-- A write without a key that succeeds, or is refused by the chapter of its object, is answered with its status. -/
theorem row_plainObject {c : InstClass} {ob : Obj} {inst i b v : Nat} (ho : PlainObject c ob i b) (hpl : Placed s ⟨inst, i, b⟩ ob)
    (hp : s.hearsPlain r = true) (hsm : s.smoulder = false ∨ smoulderServes false (writeOp ⟨inst, i, b⟩ v) = true) (hv : ob.takes v) {st : Status}
    {u : State} {rec : Nat} (hst : st ≠ .resourceBusy)
    (hw : s.writeObject (s.plainCtx r (writeOp ⟨inst, i, b⟩ v)) = { status := st, state := u, record := rec }) :
    s.row r (writeOp ⟨inst, i, b⟩ v) = .next (u.answers s r st ob 0) :=
  row_good ⟨inst, i, b⟩ v ob u hp hsm hpl.defined (hpl.present _) ho.plain ho.access ho.noKey ho.noReset ho.noCopy ho.size hv.1 hv.2.1 hv.2.2 st hst rec hw

/-- A write without a key of a unit that another principal holds. -/
theorem row_plainObject_busy {c : InstClass} {ob : Obj} {inst i b v : Nat} (ho : PlainObject c ob i b) (hpl : Placed s ⟨inst, i, b⟩ ob)
    (hp : s.hearsPlain r = true) (hsm : s.smoulder = false) (hv : ob.takes v)
    (hw : s.writeObject (s.plainCtx r (writeOp ⟨inst, i, b⟩ v)) = WriteRes.busy s (addrKey ⟨inst, i, b⟩)) :
    s.row r (writeOp ⟨inst, i, b⟩ v) = .next (s.answersBusy r ⟨inst, i, b⟩ ob) :=
  row_busy ⟨inst, i, b⟩ v ob hp (.inl hsm) hpl.defined (hpl.present _) ho.plain ho.access ho.noKey ho.noReset ho.noCopy ho.size hv.1 hv.2.1 hv.2.2 hw

/-! What the write of such an object is given. -/

@[simp] theorem plainCtx_value (a : Address) (v : Nat) : (s.plainCtx r (writeOp a v)).value = v := rfl

@[simp] theorem plainCtx_principal (a : Address) (v : Nat) : (s.plainCtx r (writeOp a v)).principal = s.principal (s.sessionOf r.session) := rfl

theorem plainCtx_addr {inst i b v : Nat} (h : inst < 0x2000) : (s.plainCtx r (writeOp ⟨inst, i, b⟩ v)).addr = ⟨inst, i, b⟩ := by
  have hs : s.scoped (rowJob s r (writeOp ⟨inst, i, b⟩ v)).session ⟨inst, i, b⟩ = ⟨inst, i, b⟩ := by
    unfold State.scoped
    split
    · rw [if_neg fun h' => absurd h (Nat.not_lt.mpr h'.1)]
    · rfl
  exact hs

theorem dieInst_lt {d : Nat} (hd : d < 8) : dieInst d < 0x2000 := by unfold dieInst; omega

theorem portInst_lt {n : Nat} (hn : n < 512) : portInst n < 0x2000 := by unfold portInst; omega

/-- The dies of a package are numbered below 8. -/
theorem hasDie_lt {d : Nat} (h : s.hasDie d = true) : d < 8 := by
  unfold State.hasDie at h
  generalize s.part = p at h
  cases p <;> simp [Part.dies] at h <;> omega

/-! Registers that are not the one written. -/

theorem State.rd_wr_same (hs : s.sound = true) (o : Obj) (v inst k : Nat) : (s.wr o v inst k).rd o inst k = v := by
  simp only [State.sound, sparseWf, Bool.and_eq_true] at hs
  simp only [State.rd, State.regs_wr _ _ _ _ _ _ hs.1.1.1.1, if_true]

theorem State.rd_wr_ne (hs : s.sound = true) {o o' : Obj} {v inst k inst' k' : Nat} (h : o.key inst k ≠ o'.key inst' k') :
    (s.wr o v inst k).rd o' inst' k' = s.rd o' inst' k' := by
  simp only [State.sound, sparseWf, Bool.and_eq_true] at hs
  simp only [State.rd, State.regs_wr _ _ _ _ _ _ hs.1.1.1.1, if_neg h]

end
end Sys2Proof.Machine
end

section
namespace Sys2Proof.Machine
section
variable {s : State} {r : Req} {v : Nat}

/-! Values and claims. -/

theorem Obj.takes_span {ob : Obj} {lo hi v : Nat} (hp : ob.permit = .span lo hi) (ht : ∀ v, ob.type.allows v = true) (hs : hi < 256 ^ ob.type.size)
    (hlo : lo ≤ v) (hhi : v ≤ hi) : ob.takes v :=
  ⟨by omega, ht v, by simp [hp, Permit.allows, hlo, hhi]⟩

theorem addrKey_at (o : Obj) (inst k : Nat) : addrKey (Obj.at_ o inst k) = o.key inst k := rfl

/-- A value that is stored as it is written. -/
theorem store_eq {c : WriteCtx} (o : Obj) {inst k : Nat} (ha : c.addr = Obj.at_ o inst k) : s.store c = WriteRes.good (s.wr o c.value inst k) := by
  unfold State.store
  rw [ha]
  rfl

/-- A claim of a unit that no other principal holds. -/
theorem claim_free {c : WriteCtx} (h : s.heldByOther (addrKey c.addr) c.principal = false) :
    s.claim c = WriteRes.good (s.claimed c.addr c.principal c.value) := by
  unfold State.claim State.claimed
  rw [if_neg (by simp [h])]
  dsimp only
  by_cases hv : c.value = 0
  · rw [if_pos hv, if_pos hv]
  · rw [if_neg hv, if_neg hv]
    exact (apply_ite WriteRes.good _ _ _).symm

theorem claim_held {c : WriteCtx} (h : s.heldByOther (addrKey c.addr) c.principal = true) : s.claim c = WriteRes.busy s (addrKey c.addr) := by
  unfold State.claim
  exact if_pos h

/-- What a claim over a plain row answers, where no other principal holds the unit and where one does (R346). -/
structure ClaimAnswers (s : State) (r : Req) (a : Address) (ob : Obj) (answer : Answer) (t : State) : Prop where
  free : s.heldByOther (addrKey a) (s.principal (s.sessionOf r.session)) = false → answer = .next (t.answers s r .ok ob 0)
  held : s.heldByOther (addrKey a) (s.principal (s.sessionOf r.session)) = true → answer = .next (s.answersBusy r a ob)

theorem row_claim {c : InstClass} {ob : Obj} {inst i b : Nat} (ho : PlainObject c ob i b) (hpl : Placed s ⟨inst, i, b⟩ ob)
    (hp : s.hearsPlain r = true) (hsm : s.smoulder = false) (hv : ob.takes v) (hi : inst < 0x2000)
    (hw : s.writeObject (s.plainCtx r (writeOp ⟨inst, i, b⟩ v)) = s.claim (s.plainCtx r (writeOp ⟨inst, i, b⟩ v))) :
    ClaimAnswers s r ⟨inst, i, b⟩ ob (s.row r (writeOp ⟨inst, i, b⟩ v)) (s.claimed ⟨inst, i, b⟩ (s.principal (s.sessionOf r.session)) v) := by
  have ha := plainCtx_addr (s := s) (r := r) (i := i) (b := b) (v := v) hi
  constructor <;> intro h
  · refine row_plainObject ho hpl hp (.inl hsm) hv (by decide) (rec := 0) ?_
    rw [hw, claim_free (by rw [ha]; exact h), ha]
    rfl
  · refine row_plainObject_busy ho hpl hp hsm hv ?_
    rw [hw, claim_held (by rw [ha]; exact h), ha]

theorem ppsOutFunction_plain : PlainObject .package Od.ppsOutFunction 0x1406 1 := .of (by decide +kernel)
theorem sparePipelineClaim_plain : PlainObject .die Od.sparePipelineClaim 0x7401 1 := .of (by decide +kernel)
theorem loopbackClaim_plain : PlainObject .package Od.loopbackClaim 0x5420 1 := .of (by decide +kernel)
theorem throttleStepLimit_plain : PlainObject .package Od.throttleStepLimit 0x9010 2 := .of (by decide +kernel)
theorem throttleStepSet_plain : PlainObject .die Od.throttleStepSet 0x9010 3 := .of (by decide +kernel)
theorem powerWake_plain : PlainObject .package Od.powerWake 0x9000 3 := .of (by decide +kernel)

/-- The write of LOOPBACK_CLAIM reserves the cells of the shares that its value names. -/
theorem writeLoop_free {c : WriteCtx} (h : s.heldByOther (addrKey c.addr) c.principal = false) (hs : s.sound = true) (ha : c.addr = ⟨0, 0x5420, 1⟩) :
    s.writeLoop c = WriteRes.good (s.part.dies.foldl (fun t d =>
      (t.setReserved d 8 (if c.value = 1 ∨ c.value = 3 then 512 else 0)).setReserved d 9 (if c.value = 2 ∨ c.value = 3 then 512 else 0))
        (s.claimed c.addr c.principal c.value)) := by
  have hrd : (s.claimed c.addr c.principal c.value).rd Od.loopbackClaim = c.value := by
    have hregs : (s.claimed c.addr c.principal c.value).regs = (s.wr Od.loopbackClaim c.value).regs := by
      unfold State.claimed
      rw [ha]
      split
      · rfl
      · split <;> rfl
    unfold State.rd
    rw [hregs]
    exact State.rd_wr_same hs ..
  unfold State.writeLoop
  rw [claim_free h]
  simp only [WriteRes.good, State.loopShare, hrd, ne_eq, not_true_eq_false, if_false, WriteRes.mk.injEq, and_true, true_and]
  congr 1
  funext t d
  simp [or_comm]

theorem claim_ppsOut (hp : s.hearsPlain r = true) (hsm : s.smoulder = false) (hv : v ≤ 2) :
    ClaimAnswers s r ⟨0, 0x1406, 1⟩ Od.ppsOutFunction (exec (.ppsOutFunction r v) s) (s.claimed ⟨0, 0x1406, 1⟩ (s.principal (s.sessionOf r.session)) v) :=
  row_claim ppsOutFunction_plain (placed_package ppsOutFunction_plain.toStands) hp hsm (Obj.takes_span rfl (fun _ => rfl) (by decide) (Nat.zero_le _) hv)
    (by decide) (by simp [State.writeObject, State.writeTime, copyFamilyOf, plainCtx_addr])

theorem claim_sparePipeline {d : Nat} (hp : s.hearsPlain r = true) (hsm : s.smoulder = false) (hv : v ≤ 1) (hd : s.hasDie d = true) :
    ClaimAnswers s r ⟨dieInst d, 0x7401, 1⟩ Od.sparePipelineClaim (exec (.sparePipelineClaim r d v) s)
      (s.claimed ⟨dieInst d, 0x7401, 1⟩ (s.principal (s.sessionOf r.session)) v) := by
  have hinst := dieInst_lt (hasDie_lt hd)
  have hv' : ¬(v = 2 ∨ v = 3) := by omega
  exact row_claim sparePipelineClaim_plain (placed_die sparePipelineClaim_plain.toStands (hasDie_lt hd) hd (by decide)) hp hsm
    (Obj.takes_span rfl (fun _ => rfl) (by decide) (Nat.zero_le _) hv) hinst
    (by simp [State.writeObject, State.writeFaults, copyFamilyOf, plainCtx_addr hinst, hv'])

theorem claim_loopback (hp : s.hearsPlain r = true) (hsm : s.smoulder = false) (hs : s.sound = true) (hv : v ≤ 3) :
    ClaimAnswers s r ⟨0, 0x5420, 1⟩ Od.loopbackClaim (exec (.loopbackClaim r v) s) (s.part.dies.foldl (fun t d =>
      (t.setReserved d 8 (if v = 1 ∨ v = 3 then 512 else 0)).setReserved d 9 (if v = 2 ∨ v = 3 then 512 else 0))
        (s.claimed ⟨0, 0x5420, 1⟩ (s.principal (s.sessionOf r.session)) v)) := by
  have ho := loopbackClaim_plain
  have htakes : Od.loopbackClaim.takes v := Obj.takes_span rfl (fun _ => rfl) (by decide) (Nat.zero_le _) hv
  have hw : s.writeObject (s.plainCtx r (writeOp ⟨0, 0x5420, 1⟩ v)) = s.writeLoop (s.plainCtx r (writeOp ⟨0, 0x5420, 1⟩ v)) := by
    simp [State.writeObject, State.writeForwarding, parserObj, copyFamilyOf, plainCtx_addr]
  have ha : (s.plainCtx r (writeOp ⟨0, 0x5420, 1⟩ v)).addr = ⟨0, 0x5420, 1⟩ := plainCtx_addr (by decide)
  constructor <;> intro h
  · refine row_plainObject ho (placed_package ho.toStands) hp (.inl hsm) htakes (by decide) (rec := 0) ?_
    rw [hw, writeLoop_free (by rw [ha]; exact h) hs ha, ha]
    rfl
  · refine row_plainObject_busy (i := 0x5420) (b := 1) ho (placed_package ho.toStands) hp hsm htakes ?_
    rw [hw, State.writeLoop, claim_held (by rw [ha]; exact h), ha]
    rfl

/-- A fold over dies each of which is left alone. -/
theorem foldl_id {α : Type} (f : State → α → State) (l : List α) (h : ∀ x ∈ l, f s x = s) : l.foldl f s = s := by
  induction l with
  | nil => rfl
  | cons x l ih =>
    rw [List.foldl_cons, h x (by simp)]
    exact ih fun y hy => h y (by simp [hy])

theorem exec_throttleStepLimit (hp : s.hearsPlain r = true) (hsm : s.smoulder = false) (hs : s.sound = true) (hv : v ≤ 3)
    (hle : ∀ d ∈ s.part.dies, s.stepOf d ≤ v) :
    exec (.throttleStepLimit r v) s = .next ((s.wr Od.throttleStepLimit v).answers s r .ok Od.throttleStepLimit 0) := by
  have ho := throttleStepLimit_plain
  refine row_plainObject ho (placed_package ho.toStands) hp (.inl hsm) (Obj.takes_span rfl (fun _ => rfl) (by decide) (Nat.zero_le _) hv) (by decide) (rec := 0) ?_
  have hstep : ∀ d, (s.wr Od.throttleStepLimit v).stepOf d = s.stepOf d := fun d => by
    unfold State.stepOf
    rw [State.rd_wr_ne hs (by simp [Obj.key, dictKey, Od.throttleStepLimit, Od.searchThrottleStep]; omega)]
    rfl
  have hfold : s.part.dies.foldl (fun (a : State) x => if v < a.stepOf x then a.decideThrottle x v else a) (s.wr Od.throttleStepLimit v) =
      s.wr Od.throttleStepLimit v :=
    foldl_id _ _ fun d hd => if_neg (by rw [hstep]; exact Nat.not_lt.mpr (hle d hd))
  have ha : (s.plainCtx r (writeOp ⟨0, 0x9010, 2⟩ v)).addr = ⟨0, 0x9010, 2⟩ := plainCtx_addr (by decide)
  simp only [State.writeObject, State.writePower, copyFamilyOf, ha, plainCtx_value, State.store]
  exact congrArg WriteRes.good hfold

theorem exec_throttleStepSet {d : Nat} (hp : s.hearsPlain r = true) (hsm : s.smoulder = false) (hd : s.hasDie d = true) (hv : v ≤ 3)
    (hl : v ≤ s.rd Od.throttleStepLimit) (hm : s.rd Od.throttleMode ≠ 0) :
    exec (.throttleStepSet r d v) s = .next (((s.wr Od.throttleStepSet v (dieInst d)).decideThrottle d v).answers s r .ok Od.throttleStepSet 0) := by
  have ho := throttleStepSet_plain
  have hlt := hasDie_lt hd
  have hdie : dieInst d % 65536 - 0x0100 = d := by unfold dieInst; omega
  refine row_plainObject ho (placed_die ho.toStands hlt hd (by decide)) hp (.inl hsm) (Obj.takes_span rfl (fun _ => rfl) (by decide) (Nat.zero_le _) hv)
    (by decide) (rec := 0) ?_
  simp [State.writeObject, State.writePower, copyFamilyOf, plainCtx_addr (dieInst_lt hlt), State.store, hdie, Nat.not_lt.mpr hl, hm]
  rfl

theorem exec_powerWake (hp : s.hearsPlain r = true) (h2 : s.rd Od.powerState = 2) :
    exec (.powerWake r 1) s = .next (((((((s.wr Od.powerState 5).wr Od.wakeReason 3).wr Od.wakeSource 0x0FFF).later 0
      (.eventFire (s.rd Od.leadDie) 0x162))).later 300000000 .smoulderWake).answers s r .ok Od.powerWake 0) := by
  have ho := powerWake_plain
  refine row_plainObject ho (placed_package ho.toStands) hp (.inr (by decide)) ⟨by decide, by decide, by decide⟩ (by decide) (rec := 0) ?_
  simp [State.writeObject, State.writePower, copyFamilyOf, plainCtx_addr, State.startWake, h2]
  rfl

/-- Settles O9: each row is a write without a key of one object, whose chapter then acts. -/
theorem packageWrites : Obligations.PackageWrites := by
  intro s r v hs hp
  refine ⟨?_, fun h2 => exec_powerWake hp h2⟩
  rintro hsm p rfl
  refine ⟨?_, ?_, ?_, fun hv hle => exec_throttleStepLimit hp hsm hs hv hle, fun d hd hv hl hm => exec_throttleStepSet hp hsm hd hv hl hm⟩
  · rintro hv a rfl
    have h := claim_ppsOut hp hsm hv
    exact ⟨h.free, h.held⟩
  · rintro hv d a hd rfl
    have h := claim_sparePipeline hp hsm hv hd
    exact ⟨h.free, h.held⟩
  · rintro hv a rfl
    have h := claim_loopback hp hsm hs hv
    exact ⟨h.free, h.held⟩

end
end Sys2Proof.Machine
end

section
namespace Sys2Proof.Machine
section
variable {s : State} {r : Req} {n v : Nat}

theorem octetRateGroup_plain : PlainObject .lanePort Od.octetRateGroup 0x2200 1 := .of (by decide +kernel)
theorem portMode_plain : PlainObject .lanePort Od.portMode 0x2001 1 := .of (by decide +kernel)
theorem portEnable_plain : PlainObject .lanePort Od.portEnable 0x2000 1 := .of (by decide +kernel)
theorem linkRetrainAuto_plain : PlainObject .lanePort Od.linkRetrainAuto 0x2000 3 := .of (by decide +kernel)

theorem portLink_wr (o : Obj) (x inst k : Nat) : (s.wr o x inst k).portLink n = s.portLink n := rfl

theorem enablePort_disabled (h0 : s.portStateOf n = 0) : s.enablePort n 1 = (.ok, ((s.wr Od.portEnable 1 (portInst n)).setPortLink n
    { s.portLink n with noPartner := false, stored := none }).startTraining n false) := by
  unfold State.enablePort
  dsimp only
  rw [if_pos rfl, if_pos h0, portLink_wr]

theorem portInst_sub (hn : n < 512) : portInst n % 65536 - 0x1000 = n := by unfold portInst; omega

/-- A plain row of a port is answered as the write of its object among those of 0x2000 to 0x27FF ends. -/
theorem row_port {ob : Obj} {i b : Nat} (ho : PlainObject .lanePort ob i b) (hoct : ob.inst ≠ .octet ∨ n % 8 = 0) (hp : s.hearsPlain r = true)
    (hsm : s.smoulder = false) (hn : n < 512) (hd : s.hasDie (n / 64) = true) (hi : 0x2000 ≤ i) (hi2 : i < 0x2800) (hv : ob.takes v) {st : Status}
    {u : State} (hst : st ≠ .resourceBusy)
    (hw : s.writePorts (s.plainCtx r (writeOp ⟨portInst n, i, b⟩ v)) = { status := st, state := u, record := 0 }) :
    s.row r (writeOp ⟨portInst n, i, b⟩ v) = .next (u.answers s r st ob 0) := by
  refine row_plainObject ho (placed_port ho.toStands hn hd hoct) hp (.inl hsm) hv hst (rec := 0) ?_
  have ha : (s.plainCtx r (writeOp ⟨portInst n, i, b⟩ v)).addr = ⟨portInst n, i, b⟩ := plainCtx_addr (portInst_lt hn)
  have hc : copyFamilyOf ⟨portInst n, i, b⟩ = none := ho.noCopy
  simp only [State.writeObject, ha, hc]
  rw [if_neg (by omega), if_neg (by omega), if_pos ⟨hi, hi2⟩, hw]

section
variable (hp : s.hearsPlain r = true) (hsm : s.smoulder = false) (hn : n < 512) (hd : s.hasDie (n / 64) = true)
include hp hsm hn hd

theorem exec_octetRateGroup (h8 : n % 8 = 0) (hv : v ≤ 1)
    (hoff : ∀ k < 8, s.portStateOf (n + k) = 0 ∧ (s.portModeOf (n + k) = 0 ∨ modeGroup (s.portModeOf (n + k)) = v)) :
    exec (.octetRateGroup r n v) s = .next ((s.wr Od.octetRateGroup v (portInst n)).answers s r .ok Od.octetRateGroup 0) := by
  refine row_port octetRateGroup_plain (.inr h8) hp hsm hn hd (by decide) (by decide) (Obj.takes_span rfl (fun _ => rfl) (by decide) (Nat.zero_le _) hv)
    (by decide) ?_
  have hoctet : octetLane n = n := by unfold octetLane; omega
  have hidle : (((List.range 8).map (n + ·)).any fun m => decide (s.portStateOf m ≠ 0)) = false := by
    simp only [List.any_eq_false, List.mem_map, List.mem_range]
    rintro _ ⟨k, hk, rfl⟩
    simp [(hoff k hk).1]
  have hkeep : ((List.range 8).map (n + ·)).foldl (fun a m => if a.portModeOf m ≠ 0 ∧ modeGroup (a.portModeOf m) ≠ v then a.newMode m 0 else a) s = s := by
    refine foldl_id _ _ fun m hm => if_neg ?_
    simp only [List.mem_map, List.mem_range] at hm
    obtain ⟨k, hk, rfl⟩ := hm
    rintro ⟨h0, hg⟩
    exact (hoff k hk).2.elim h0 hg
  have hset : s.setRateGroup n v = WriteRes.good (s.wr Od.octetRateGroup v (portInst n)) := by
    unfold State.setRateGroup
    dsimp only
    rw [hoctet, hidle, hkeep]
    rfl
  simp [State.writePorts, plainCtx_addr (portInst_lt hn), portInst_sub hn, hset]
  rfl

theorem exec_portMode (hv : v ≤ 12) (hc : s.checkMode n v = .ok) :
    exec (.portMode r n v) s = .next ((s.newMode n v).answers s r .ok Od.portMode 0) := by
  refine row_port portMode_plain (.inl (by decide)) hp hsm hn hd (by decide) (by decide)
    (Obj.takes_span rfl (fun _ => rfl) (by decide) (Nat.zero_le _) hv) (by decide) ?_
  simp only [State.writePorts, plainCtx_addr (portInst_lt hn), portInst_sub hn, plainCtx_value, hc]
  rfl

theorem exec_portEnable (hm : s.portModeOf n ≠ 0) (hv : v ≤ 1) {st : Status} {u : State} (hst : st ≠ .resourceBusy) (he : s.enablePort n v = (st, u)) :
    exec (.portEnable r n v) s = .next (u.answers s r st Od.portEnable 0) := by
  refine row_port portEnable_plain (.inl (by decide)) hp hsm hn hd (by decide) (by decide)
    ⟨by simp [Od.portEnable, ObjType.size]; omega, by simpa [Od.portEnable, ObjType.allows] using hv, by simpa [Od.portEnable, Permit.allows] using hv⟩ hst ?_
  simp only [State.writePorts, plainCtx_addr (portInst_lt hn), portInst_sub hn, plainCtx_value, hm, he]
  rfl

theorem exec_linkRetrainAuto (hm : s.portModeOf n ≠ 0) (hv : v ≤ 1) :
    exec (.linkRetrainAuto r n v) s = .next ((if v = 1 ∧ s.portStateOf n = 3 then (s.wr Od.linkRetrainAuto v (portInst n)).startTraining n true
      else s.wr Od.linkRetrainAuto v (portInst n)).answers s r .ok Od.linkRetrainAuto 0) := by
  refine row_port linkRetrainAuto_plain (.inl (by decide)) hp hsm hn hd (by decide) (by decide)
    ⟨by simp [Od.linkRetrainAuto, ObjType.size]; omega, by simpa [Od.linkRetrainAuto, ObjType.allows] using hv,
      by simpa [Od.linkRetrainAuto, Permit.allows] using hv⟩ (by decide) ?_
  have hst := store_eq (s := s) (c := s.plainCtx r (writeOp ⟨portInst n, 0x2000, 3⟩ v)) Od.linkRetrainAuto (inst := portInst n) (k := 0)
    ((plainCtx_addr (portInst_lt hn)).trans rfl)
  simp [State.writePorts, plainCtx_addr (portInst_lt hn), portInst_sub hn, hm, hst, WriteRes.good]

end

/-- Settles O10: each row is a write without a key of one object of the port. -/
theorem portWrites : Obligations.PortWrites := by
  intro s r n v hs hp hsm hn hd
  refine ⟨exec_octetRateGroup hp hsm hn hd, ?_, ?_, fun hm => ⟨?_, ?_, ?_, ?_, ?_, ?_⟩⟩
  · intro hv hc hne
    rw [exec_portMode hp hsm hn hd hv hc, State.newMode, if_neg hne]
  · intro hv hc heq
    rw [exec_portMode hp hsm hn hd hv hc, State.newMode, if_pos heq]
  · intro h0
    exact exec_portEnable hp hsm hn hd hm (by decide) (by decide) (enablePort_disabled h0)
  · intro h4
    exact exec_portEnable hp hsm hn hd hm (by decide) (by decide) (by simp [State.enablePort, h4])
  · intro h25
    refine exec_portEnable hp hsm hn hd hm (by decide) (by decide) ?_
    rcases h25 with h | h <;> simp [State.enablePort, h]
  · intro h13
    refine exec_portEnable hp hsm hn hd hm (by decide) (by decide) ?_
    rcases h13 with h | h <;> simp [State.enablePort, h]
  · intro hv h
    rw [exec_linkRetrainAuto hp hsm hn hd hm hv, if_neg (by omega)]
  · intro h3
    rw [exec_linkRetrainAuto hp hsm hn hd hm (by decide), if_pos ⟨rfl, h3⟩]

end
end Sys2Proof.Machine
end

section
namespace Sys2Proof.Machine
section
variable {s : State} {r : Req} {k : Nat}

/-! The state in which a critical request is judged: `State.judging` differs from the state in the critical queue and in CRIT_WRITES alone. -/

theorem key_critWrites_ne {o : Obj} {inst j : Nat} (h : o.key inst j % 16777216 ≠ 0x103004) : Od.critWrites.key 0 0 ≠ o.key inst j := by
  have hk : Od.critWrites.key 0 0 = 0x103004 := rfl
  rw [hk]
  omega

theorem rd_judging (hs : s.sound = true) (o : DictOp) {ob : Obj} {inst j : Nat} (h : ob.key inst j % 16777216 ≠ 0x103004) :
    (s.judging r o k).rd ob inst j = s.rd ob inst j :=
  State.rd_wr_ne (s := { s with dict := { s.dict with critQueue := [{ job := critJobOf s r o k, result := none, mute := false }] } }) hs
    (key_critWrites_ne h)

theorem resolveEpoch_judging (o : DictOp) (epoch : Nat) : (s.judging r o k).resolveEpoch epoch = s.resolveEpoch epoch := by
  have ht : (s.judging r o k).time = s.time := rfl
  unfold State.resolveEpoch State.epoch32
  rw [ht]

theorem smoulder_judging (hs : s.sound = true) (o : DictOp) : (s.judging r o k).smoulder = s.smoulder := by
  unfold State.smoulder
  rw [rd_judging hs o (by decide)]
  rfl

theorem critCtx_addr (hp : ∃ h f, r.session = .pcie h f) {o : DictOp} (h : o.addr.inst < 0x2000) : (s.critCtx r o k).addr = o.addr := by
  obtain ⟨x, f, hs⟩ := hp
  have h' : ¬(0x2000 ≤ o.addr.inst ∧ o.addr.inst < 0x3000) := by omega
  simp [State.critCtx, State.ctxOf, critJobOf, rowJob, hs, State.sessionOf, State.scoped, h']

theorem critCtx_writer (hp : ∃ h f, r.session = .pcie h f) (o : DictOp) : (s.critCtx r o k).writer = s.principal (s.sessionOf r.session) := by
  obtain ⟨x, f, hs⟩ := hp
  simp [State.critCtx, State.ctxOf, critJobOf, rowJob, hs, State.sessionOf, WriteCtx.writer, State.principal]

theorem critCtx_keeper (hp : ∃ h f, r.session = .pcie h f) (o : DictOp) : byKeeper (s.critCtx r o k).session = false := by
  obtain ⟨x, f, hs⟩ := hp
  simp [State.critCtx, State.ctxOf, critJobOf, rowJob, hs, State.sessionOf, byKeeper]

theorem critCtx_principal (hp : ∃ h f, r.session = .pcie h f) (o : DictOp) : (s.critCtx r o k).principal = s.principal (s.sessionOf r.session) := by
  obtain ⟨x, f, hs⟩ := hp
  simp [State.critCtx, State.ctxOf, critJobOf, rowJob, hs, State.sessionOf, State.principal]

theorem hearsCritical_pcie {o : DictOp} (hp : s.hearsCritical r o k = true) : ∃ h f, r.session = .pcie h f := by
  obtain ⟨-, -, -, -, -, ⟨h, f, -, -, hs⟩, -⟩ := (hearsCritical_iff o k).mp hp
  exact ⟨h, f, hs⟩

/-! WRITE_EPOCH of a critical request. -/

/-- Checks 7 to 10 of a WRITE_EPOCH let it pass to the chapter of its object. -/
theorem doOp_epoch {o : DictOp} {ob : Obj} (hp : s.hearsCritical r o k = true) (h3 : o.op = 3)
    (hob : (s.judging r o k).object? (s.sessionOf r.session) o.addr = some ob) (hs : s.sound = true) (hsm : s.smoulder = false)
    (hacc : ob.accessAt o.addr = .rwe) (h1 : slot1Only o.addr = false) (hl : o.len = ob.type.size) (hv : ob.takes o.value) :
    (s.judging r o k).doOp (critJobOf s r o k) o =
      (((s.judging r o k).writeEpoch (s.critCtx r o k) o.epoch).1.result (s.sessionOf r.session) ob.type.code
        ((s.judging r o k).writeEpoch (s.critCtx r o k) o.epoch).2) := by
  obtain ⟨-, -, -, -, h5, ⟨h, f, -, -, hsess⟩, -, -, -, -, hri⟩ := (hearsCritical_iff o k).mp hp
  have hri' : (s.judging r o k).hasRight k o.addr.index = true := hri
  have hca : (s.judging r o k).checkOp (critJobOf s r o k) ob o = .ok := by
    have : (s.judging r o k).checkAccess (critJobOf s r o k) ob o = .ok := by
      simp [State.checkAccess, critJobOf, rowJob, hsess, State.sessionOf, h3, hacc, h5, hri', h1, byKeeper]
    simp [State.checkOp, this, h3, hl, Nat.not_le.mpr hv.1, hv.2.1, hv.2.2, smoulder_judging hs, hsm]
  have hj : (critJobOf s r o k).session = s.sessionOf r.session := rfl
  unfold State.doOp
  rw [hj, hob]
  dsimp only
  rw [hca]
  simp [h3]
  rfl

/-- A WRITE_EPOCH that its chapter lets pass is accepted DEFERRED, with its change pending (R345). -/
theorem row_epoch {o : DictOp} {ob : Obj} {e : Nat} (hp : s.hearsCritical r o k = true) (h3 : o.op = 3)
    (hob : (s.judging r o k).object? (s.sessionOf r.session) o.addr = some ob) (hs : s.sound = true) (hsm : s.smoulder = false)
    (hacc : ob.accessAt o.addr = .rwe) (h1 : slot1Only o.addr = false) (hl : o.len = ob.type.size) (hl2 : ob.type.size ≤ 1376) (hv : ob.takes o.value)
    (hinst : o.addr.inst < 0x2000) (he : s.resolveEpoch o.epoch = some e) (hy : (s.judging r o k).yieldEcmp o.addr false = s.judging r o k)
    (hc : (s.judging r o k).checkEpoch o.addr o.value e (s.principal (s.sessionOf r.session)) = .ok) :
    s.row r o = .next ((if decide (0x3800 ≤ o.addr.index) && decide (o.addr.index < 0x380C) && o.addr.sub = 6 then
        ((s.judging r o k).addChange e o.addr o.value false (s.principal (s.sessionOf r.session))).gateEpoch (o.addr.index - 0x3800) 0 (some e)
      else (s.judging r o k).addChange e o.addr o.value false (s.principal (s.sessionOf r.session))).accepted s r o k .deferred ob (low 32 e)) := by
  have hpcie := hearsCritical_pcie hp
  have hw : (s.judging r o k).writeEpoch (s.critCtx r o k) o.epoch = _ := writeEpoch_resolved (e := e) (by rw [resolveEpoch_judging]; exact he)
  have hval : (s.critCtx r o k).value = o.value := rfl
  rw [critCtx_keeper hpcie, critCtx_addr hpcie hinst, hy, hval, critCtx_principal hpcie, critCtx_writer hpcie, hc] at hw
  have hd := doOp_epoch hp h3 hob hs hsm hacc h1 hl hv
  rw [hw] at hd
  rw [row_critical o k hp (by omega) _ _ hd]
  rfl

/-- An object that a critical WRITE_EPOCH of any slot with the right writes. -/
structure EpochObject (c : InstClass) (ob : Obj) (i b : Nat) : Prop extends Stands c ob i b where
  access : ob.accessAt ⟨0, i, b⟩ = .rwe
  anySlot : slot1Only ⟨0, i, b⟩ = false
  size : ob.type.size ≤ 1376

/-- `EpochObject` as a test. -/
def epochObject (c : InstClass) (ob : Obj) (i b : Nat) : Bool :=
  standsAt c ob i b && decide (ob.accessAt ⟨0, i, b⟩ = .rwe ∧ slot1Only ⟨0, i, b⟩ = false ∧ ob.type.size ≤ 1376)

theorem EpochObject.of {c : InstClass} {ob : Obj} {i b : Nat} (h : epochObject c ob i b = true) : EpochObject c ob i b := by
  obtain ⟨hs, h⟩ := Bool.and_eq_true_iff.mp h
  obtain ⟨h1, h2, h3⟩ := of_decide_eq_true h
  exact ⟨.of hs, h1, h2, h3⟩

/-- A critical WRITE_EPOCH of an object, but for the commit of a rule set, answers DEFERRED and its change stands pending. -/
theorem row_defers {c : InstClass} {ob : Obj} {inst i b v epoch e : Nat} (ho : EpochObject c ob i b) (hpl : ∀ t : State, t.part = s.part → Placed t ⟨inst, i, b⟩ ob)
    (hp : s.hearsCritical r (epochOp ⟨inst, i, b⟩ v epoch) k = true) (hs : s.sound = true) (hsm : s.smoulder = false) (hv : ob.takes v)
    (hinst : inst < 0x2000) (he : s.resolveEpoch epoch = some e) (hcommit : ¬(0x3800 ≤ i ∧ i < 0x380C ∧ b = 6))
    (hy : (s.judging r (epochOp ⟨inst, i, b⟩ v epoch) k).yieldEcmp ⟨inst, i, b⟩ false = s.judging r (epochOp ⟨inst, i, b⟩ v epoch) k)
    (hc : (s.judging r (epochOp ⟨inst, i, b⟩ v epoch) k).checkEpoch ⟨inst, i, b⟩ v e (s.principal (s.sessionOf r.session)) = .ok) :
    s.row r (epochOp ⟨inst, i, b⟩ v epoch) = .next (s.defers r (epochOp ⟨inst, i, b⟩ v epoch) k e ob) := by
  have hdef : definedAt ⟨inst, i, b⟩ = some ob := (hpl s rfl).defined
  have hlen : (epochOp ⟨inst, i, b⟩ v epoch).len = ob.type.size := by
    show ((definedAt ⟨inst, i, b⟩).map fun o => o.type.size).getD 0 = _
    rw [hdef]
    rfl
  rw [row_epoch (o := epochOp ⟨inst, i, b⟩ v epoch) hp rfl ((hpl (s.judging r (epochOp ⟨inst, i, b⟩ v epoch) k) rfl).present _) hs hsm ho.access ho.anySlot
    hlen ho.size hv hinst he hy hc]
  have hif : ¬((decide (0x3800 ≤ i) && decide (i < 0x380C) && decide (b = 6)) = true) := by simpa [and_assoc] using hcommit
  have hif' : ¬((decide (0x3800 ≤ (epochOp ⟨inst, i, b⟩ v epoch).addr.index) && decide ((epochOp ⟨inst, i, b⟩ v epoch).addr.index < 0x380C) &&
    decide ((epochOp ⟨inst, i, b⟩ v epoch).addr.sub = 6)) = true) := hif
  rw [if_neg hif']
  rfl

theorem yieldEcmp_other {a : Address} (h : swapFamily a ≠ some 0x4B) : s.yieldEcmp a false = s := if_neg fun h' => h h'.1

end
end Sys2Proof.Machine
end

section
namespace Sys2Proof.Machine

/-! The digest of an image fits its object. -/

theorem beNat_from_lt (l : List Byte) (a : Nat) : l.foldl (fun a b => a * 256 + b.toNat) a < (a + 1) * 256 ^ l.length := by
  induction l generalizing a with
  | nil => simp
  | cons b l ih =>
    have hb : b.toNat < 256 := b.isLt
    have hstep : (a * 256 + b.toNat + 1) * 256 ^ l.length ≤ (a + 1) * 256 * 256 ^ l.length := Nat.mul_le_mul_right _ (by omega)
    rw [List.foldl_cons, List.length_cons, Nat.pow_succ', ← Nat.mul_assoc]
    exact Nat.lt_of_lt_of_le (ih _) hstep

theorem beNat_lt (l : List Byte) : beNat l < 256 ^ l.length := by
  have h := beNat_from_lt l 0
  rwa [Nat.zero_add, Nat.one_mul] at h

theorem shaBlocks_length (n : Nat) (h : List Nat) (m : List Byte) : (shaBlocks n h m).length ≤ h.length := by
  induction n generalizing h m with
  | zero => exact Nat.le_refl _
  | succ n ih =>
    refine Nat.le_trans (ih _ _) ?_
    simp only [shaBlock, List.length_zipWith]
    exact Nat.min_le_left _ _

theorem sha256_length (m : List Byte) : (sha256 m).length ≤ 32 := by
  have h : (shaBlocks ((shaPad m).length / 64) shaH (shaPad m)).length ≤ 8 := shaBlocks_length _ _ _
  simp only [sha256, List.length_flatMap, beBytes_length, List.map_const', List.sum_replicate_nat]
  omega

section
variable {s : State} {r : Req} {k : Nat}

theorem imageDigest_lt (i bank : Nat) : s.imageDigest i bank < 256 ^ 32 :=
  Nat.lt_of_lt_of_le (beNat_lt _) (Nat.pow_le_pow_right (by decide) (sha256_length _))

/-! The chapters' checks, in the state in which a critical request is judged. -/

@[simp] theorem epochOp_addr (a : Address) (v epoch : Nat) : (epochOp a v epoch).addr = a := rfl

theorem checkSwap_ok {f : Nat} (hsw : s.swapPending f = false) (hh : s.famHeld f = false) (hd : (s.fam f).disagree = []) (hst : (s.fam f).stale = false) :
    s.checkSwap f = .ok := by
  simp [State.checkSwap, hsw, hh, hd, hst]

theorem checkEpoch_swap {a : Address} {f v e p : Nat} (hroom : s.changeRoom = true) (hf : swapFamily a = some f) (hlow : f < 0x100)
    (hc : s.checkSwap f = .ok) : s.checkEpoch a v e p = .ok := by
  unfold State.checkEpoch
  rw [if_neg (by simp [hroom]), hf]
  dsimp only
  rw [if_neg (by omega), if_neg (by omega), if_neg (by omega), hc]

theorem swapFamily_of_swap {c : Change} {f : Nat} (h : s.swapPending f = false) (hc : c ∈ s.sched.changes) :
    (swapFamily { inst := c.inst, index := c.index, sub := c.sub } == some f) = false := by
  simp only [State.swapPending, List.any_eq_false] at h
  simpa using h c hc

/-- Cancelling changes of which none is meant changes nothing. -/
theorem cancelChanges_none {p : Change → Bool} {st : Status} (h : ∀ c ∈ s.sched.changes, p c = false) : s.cancelChanges p st = s := by
  have h1 : s.sched.changes.filter p = [] := by
    rw [List.filter_eq_nil_iff]
    intro c hc
    simp [h c hc]
  have h2 : (s.sched.changes.filter fun c => !p c) = s.sched.changes := by
    rw [List.filter_eq_self]
    intro c hc
    simp [h c hc]
  unfold State.cancelChanges
  rw [h1, h2]
  rfl

/-- A host's ECMP swap has nothing of the Keeper's to cancel. -/
theorem yieldEcmp_none {a : Address} (h : s.swapPending 0x4B = false) : s.yieldEcmp a false = s := by
  unfold State.yieldEcmp
  split
  · refine cancelChanges_none fun c hc => ?_
    rw [swapFamily_of_swap h hc, Bool.and_false]
  · rfl

theorem changeRoom_judging (hs : s.sound = true) (o : DictOp) : (s.judging r o k).changeRoom = s.changeRoom := by
  unfold State.changeRoom State.schedRoom
  rw [rd_judging hs o (by decide)]
  rfl

theorem setBanks_judging (hs : s.sound = true) (o : DictOp) {set : Nat} (h : set < 12) (shadow : Bool) :
    (s.judging r o k).setBanks set shadow = s.setBanks set shadow := by
  unfold State.setBanks
  rw [rd_judging hs o (by simp [Obj.key, dictKey, Od.asaSetMode]; omega)]
  cases shadow
  · rw [rd_judging hs o (by simp [Obj.key, dictKey, Od.asaSetBanks]; omega)]
  · rw [rd_judging hs o (by simp [Obj.key, dictKey, Od.asaSetShadowBanks]; omega)]

theorem checkCodeSwap_ok {i v : Nat} (hv : v = s.imageDigest i (s.shadowOf (0x200 + i)))
    (hl : s.rd Od.aeCodeLinkedVersion (bankInst (s.shadowOf (0x200 + i))) i = s.rd Od.aeDechusVersion) (hsw : s.swapPending (0x200 + i) = false)
    (hh : s.famHeld (0x200 + i) = false) (hd : (s.fam (0x200 + i)).disagree = []) : s.checkCodeSwap i v = .ok := by
  unfold State.checkCodeSwap
  dsimp only
  rw [if_neg (not_not_intro hv), if_neg (by simp [hl, hd]), if_neg (by simp [hsw, hh])]

theorem checkAsaCommit_ok {set : Nat} (hsw : s.swapPending (0x100 + set) = false) (hcm : s.commitPending set = false) (hg : s.pendingGate set = true) :
    s.checkAsaCommit set = .ok := by
  unfold State.checkAsaCommit
  rw [if_neg (by simp [hsw, hcm]), if_pos hg]

theorem takes_upTo7 {ob : Obj} {v : Nat} (ht : ob.type = .u8) (hp : ob.permit = .span 0 7) (h : v ≤ 7) : ob.takes v := by
  refine ⟨?_, ?_, ?_⟩
  · rw [ht]
    exact (by omega : v < 256)
  · rw [ht]
    rfl
  · rw [ht, hp]
    simpa [Permit.allows] using h

theorem checkChangeover_ok {n b v x : Nat} (hlate : s.ns + 2000000 ≤ x * s.epochNs)
    (h4 : b = 4 → s.sliceState (n / 8) = 2 ∧ (s.spareSlice (n / 8)).job = none) (h5 : b = 5 → s.sliceRetired (n / 8) v = false) :
    s.checkChangeover ⟨portInst n, 0x2200, b⟩ v x = .ok := by
  unfold State.checkChangeover
  dsimp only
  rw [show (portInst n - 0x1000) / 8 = n / 8 by simp [portInst], if_neg (by omega), if_neg, if_neg]
  · rintro ⟨hb, hr⟩
    simp [h5 hb] at hr
  · rintro ⟨hb, hr⟩
    simp [h4 hb] at hr

theorem checkMigrate_ok {d i b p : Nat} (h0 : s.rdOctet Od.sparePipelineState (dieInst d) 0 0 = 2)
    (h1 : s.rdOctet Od.sparePipelineState (dieInst d) 0 1 = 2) (hcl : s.rd Od.sparePipelineClaim (dieInst d) = 0)
    (hno : ∀ c ∈ s.sched.changes, c.isFor ⟨dieInst d, i, b⟩ = false) : s.checkMigrate ⟨dieInst d, i, b⟩ p = .ok := by
  have hany : (s.sched.changes.any fun c => c.isFor ⟨dieInst d, i, b⟩) = false := List.any_eq_false.mpr fun c hc => by simp [hno c hc]
  unfold State.checkMigrate
  dsimp only
  rw [if_neg (by simp [h0, h1]), if_neg (by simp [hcl]), if_neg (by simp [hany])]

/-! A change that is added leaves the registers and the search arrays. -/

theorem foldl_same {α β γ : Type} (f : α → β) {g : α → γ → α} (h : ∀ a x, f (g a x) = f a) (l : List γ) (a : α) : f (l.foldl g a) = f a := by
  induction l generalizing a with
  | nil => rfl
  | cons x l ih => exact (ih _).trans (h a x)

@[simp] theorem addChange_regs (x : Nat) (a : Address) (v : Nat) (keeper : Bool) (p : Nat) : (s.addChange x a v keeper p).regs = s.regs := by
  unfold State.addChange
  refine (foldl_same State.regs (fun t d => ?_) _ _).trans rfl
  dsimp only
  split <;> rfl

@[simp] theorem addChange_asa (x : Nat) (a : Address) (v : Nat) (keeper : Bool) (p : Nat) : (s.addChange x a v keeper p).asa = s.asa := by
  unfold State.addChange
  refine (foldl_same State.asa (fun t d => ?_) _ _).trans rfl
  dsimp only
  split <;> rfl

theorem setBanks_addChange (x : Nat) (a : Address) (v : Nat) (keeper : Bool) (p set : Nat) (shadow : Bool) :
    (s.addChange x a v keeper p).setBanks set shadow = s.setBanks set shadow := by
  simp only [State.setBanks, State.rd, addChange_regs]

/-- The rows that a commit marks depend on the search arrays and the banks of their set. -/
theorem gateEpoch_accepted {t u : State} {o : DictOp} {st : Status} {ob : Obj} {set old n : Nat} {x : Option Nat} (ha : t.asa = s.asa)
    (hb : t.setBanks set false = s.setBanks set false) :
    (t.gateEpoch set old x).accepted u r o k st ob n = { t.accepted u r o k st ob n with asa := (s.gateEpoch set old x).asa } := by
  simp only [State.gateEpoch, hb, ha]
  rfl

/-! The swaps. -/

theorem takes_one {ob : Obj} (ht : ob.type = .bool) (hp : ob.permit = .oneOf [1]) : ob.takes 1 := by
  refine ⟨?_, ?_, ?_⟩ <;> simp [ht, hp, ObjType.size, ObjType.allows, Permit.allows]

theorem row_swap {ob : Obj} {i b epoch e f : Nat} (ho : EpochObject .package ob i b) (ht : ob.type = .bool) (hpm : ob.permit = .oneOf [1])
    (hfam : swapFamily ⟨0, i, b⟩ = some f) (hlow : f < 0x100) (hset : ¬(0x3800 ≤ i ∧ i < 0x380C ∧ b = 6)) (hs : s.sound = true) (hsm : s.smoulder = false)
    (hroom : s.changeRoom = true) (he : s.resolveEpoch epoch = some e) (hc : s.checkSwap f = .ok) (hsw : s.swapPending f = false)
    (hp : s.hearsCritical r (epochOp ⟨0, i, b⟩ 1 epoch) k = true) :
    s.row r (epochOp ⟨0, i, b⟩ 1 epoch) = .next (s.defers r (epochOp ⟨0, i, b⟩ 1 epoch) k e ob) := by
  refine row_defers ho (fun t _ => placed_package ho.toStands) hp hs hsm (takes_one ht hpm) (by decide) he hset ?_ ?_
  · by_cases h4b : f = 0x4B
    · subst h4b
      exact yieldEcmp_none hsw
    · exact yieldEcmp_other (by rw [hfam]; simpa using h4b)
  · exact checkEpoch_swap ((changeRoom_judging hs _).trans hroom) hfam hlow hc

theorem tableSwap_epoch {t : Nat} (h : t < 15) : EpochObject .package Od.tableSwap (0x4000 + t) 4 := by
  have hall : ∀ t < 15, epochObject .package Od.tableSwap (0x4000 + t) 4 = true := by decide +kernel
  exact .of (hall t h)
theorem ecmpSwap_epoch : EpochObject .package Od.ecmpSwap 0x6A00 3 := .of (by decide +kernel)
theorem parserSwap_epoch : EpochObject .package Od.parserSwap 0x3000 1 := .of (by decide +kernel)
theorem placeSwap_epoch : EpochObject .package Od.placeSwap 0x4800 1 := .of (by decide +kernel)
theorem rewriteSwap_epoch : EpochObject .package Od.rewriteSwap 0x5400 1 := .of (by decide +kernel)
theorem gclSwap_epoch : EpochObject .lanePort Od.gclSwap 0x6800 1 := .of (by decide +kernel)
theorem aeCodeSwap_epoch {i : Nat} (h : i < 2) : EpochObject .package Od.aeCodeSwap (0x5000 + 32 * i) 8 := by
  have hall : ∀ i < 2, epochObject .package Od.aeCodeSwap (0x5000 + 32 * i) 8 = true := by decide +kernel
  exact .of (hall i h)
theorem asaSetSwap_epoch {set : Nat} (h : set < 12) : EpochObject .package Od.asaSetSwap (0x3800 + set) 5 := by
  have hall : ∀ i < 12, epochObject .package Od.asaSetSwap (0x3800 + i) 5 = true := by decide +kernel
  exact .of (hall set h)
theorem asaSetCommit_epoch {set : Nat} (h : set < 12) : EpochObject .package Od.asaSetCommit (0x3800 + set) 6 := by
  have hall : ∀ i < 12, epochObject .package Od.asaSetCommit (0x3800 + i) 6 = true := by decide +kernel
  exact .of (hall set h)
theorem spareChangeover_epoch : EpochObject .lanePort Od.spareChangeover 0x2200 4 := .of (by decide +kernel)
theorem spareRelease_epoch : EpochObject .lanePort Od.spareRelease 0x2200 5 := .of (by decide +kernel)
theorem pipelineMigrate_epoch : EpochObject .die Od.pipelineMigrate 0x7401 3 := .of (by decide +kernel)

theorem tableSwap_at (t : Nat) : Obj.at_ Od.tableSwap 0 t = ⟨0, 0x4000 + t, 4⟩ := by simp [Obj.at_, Od.tableSwap, Nat.mod_one]
theorem aeCodeSwap_at (i : Nat) : Obj.at_ Od.aeCodeSwap 0 i = ⟨0, 0x5000 + 32 * i, 8⟩ := by simp [Obj.at_, Od.aeCodeSwap, Nat.mod_one]
theorem asaSetSwap_at (t : Nat) : Obj.at_ Od.asaSetSwap 0 t = ⟨0, 0x3800 + t, 5⟩ := by simp [Obj.at_, Od.asaSetSwap, Nat.mod_one]
theorem asaSetCommit_at (t : Nat) : Obj.at_ Od.asaSetCommit 0 t = ⟨0, 0x3800 + t, 6⟩ := by simp [Obj.at_, Od.asaSetCommit, Nat.mod_one]

section
variable {epoch e : Nat} (hs : s.sound = true) (hsm : s.smoulder = false) (hroom : s.changeRoom = true) (he : s.resolveEpoch epoch = some e)
include hs hsm hroom he

theorem row_gclSwap {n : Nat} (hn : n < 512) (hd : s.hasDie (n / 64) = true) (hsw : (s.gate n).swap = none) (hc : s.checkSwap (gateFam n) = .ok)
    (hp : s.hearsCritical r (epochOp ⟨portInst n, 0x6800, 1⟩ 1 epoch) k = true) :
    s.row r (epochOp ⟨portInst n, 0x6800, 1⟩ 1 epoch) = .next (s.defers r (epochOp ⟨portInst n, 0x6800, 1⟩ 1 epoch) k e Od.gclSwap) := by
  have hf : swapFamily ⟨portInst n, 0x6800, 1⟩ = some (0x1000 + n) := by simp [swapFamily, portInst]
  refine row_defers gclSwap_epoch (fun t ht => placed_port gclSwap_epoch.toStands hn (by rw [State.hasDie, ht]; exact hd) (.inl (by decide))) hp hs hsm
    (takes_one rfl rfl) (portInst_lt hn) he (by decide) (yieldEcmp_other (by rw [hf]; simp; omega)) ?_
  have hgate : ((s.judging r (epochOp ⟨portInst n, 0x6800, 1⟩ 1 epoch) k).gate n).swap = none := hsw
  unfold State.checkEpoch
  rw [if_neg (by rw [changeRoom_judging hs, hroom]; decide), hf]
  dsimp only
  rw [if_pos (by omega), show 0x1000 + n - 0x1000 = n by omega]
  unfold State.checkGateSwap
  rw [hgate]
  exact hc

theorem row_aeCodeSwap {i f v : Nat} (hi : i < 2) (hf : f = 0x200 + i) (hv : v = s.imageDigest i (s.shadowOf f))
    (hl : s.rd Od.aeCodeLinkedVersion (bankInst (s.shadowOf f)) i = s.rd Od.aeDechusVersion) (hsw : s.swapPending f = false) (hh : s.famHeld f = false)
    (hd : (s.fam f).disagree = []) (hp : s.hearsCritical r (epochOp ⟨0, 0x5000 + 32 * i, 8⟩ v epoch) k = true) :
    s.row r (epochOp ⟨0, 0x5000 + 32 * i, 8⟩ v epoch) = .next (s.defers r (epochOp ⟨0, 0x5000 + 32 * i, 8⟩ v epoch) k e Od.aeCodeSwap) := by
  have hfam : swapFamily ⟨0, 0x5000 + 32 * i, 8⟩ = some f := by
    have h01 : i = 0 ∨ i = 1 := by omega
    rcases h01 with rfl | rfl <;> subst hf <;> decide
  refine row_defers (aeCodeSwap_epoch hi) (fun t _ => placed_package (aeCodeSwap_epoch hi).toStands) hp hs hsm
    ⟨hv ▸ imageDigest_lt .., rfl, rfl⟩ (by decide) he (by omega) (yieldEcmp_other (by rw [hfam]; simp; omega)) ?_
  unfold State.checkEpoch
  rw [if_neg (by rw [changeRoom_judging hs, hroom]; decide), hfam]
  dsimp only
  rw [if_neg (by omega), if_pos (by omega), show f - 0x200 = i by omega]
  subst hf
  exact checkCodeSwap_ok (s := s.judging r _ k) hv
    (((rd_judging hs _ (by simp [Obj.key, dictKey, Od.aeCodeLinkedVersion, Nat.mod_one]; omega)).trans hl).trans (rd_judging hs _ (by decide)).symm) hsw hh hd

theorem row_asaSetSwap {set f : Nat} (hset : set < 12) (hf : f = 0x100 + set) (hcm : s.commitPending set = false) (hb : s.setBanks set true ≠ [])
    (hsw : s.swapPending f = false) (hh : s.famHeld f = false) (hd : (s.fam f).disagree = [])
    (hp : s.hearsCritical r (epochOp ⟨0, 0x3800 + set, 5⟩ 1 epoch) k = true) :
    s.row r (epochOp ⟨0, 0x3800 + set, 5⟩ 1 epoch) = .next (s.defers r (epochOp ⟨0, 0x3800 + set, 5⟩ 1 epoch) k e Od.asaSetSwap) := by
  have hfam : swapFamily ⟨0, 0x3800 + set, 5⟩ = some f := by
    have hall : ∀ x < 12, swapFamily ⟨0, 0x3800 + x, 5⟩ = some (0x100 + x) := by decide
    rw [hall set hset, hf]
  refine row_defers (asaSetSwap_epoch hset) (fun t _ => placed_package (asaSetSwap_epoch hset).toStands) hp hs hsm (takes_one rfl rfl) (by decide) he
    (by omega) (yieldEcmp_other (by rw [hfam]; simp; omega)) ?_
  unfold State.checkEpoch
  rw [if_neg (by rw [changeRoom_judging hs, hroom]; decide), hfam]
  dsimp only
  rw [if_neg (by omega), if_neg (by omega), if_pos (by omega), hf, show 0x100 + set - 0x100 = set by omega]
  unfold State.checkAsaSwap
  rw [← hf, setBanks_judging hs _ hset, if_neg, if_neg]
  · simp only [not_or, Classical.not_not]
    exact ⟨hb, hd⟩
  · simp only [not_or, Bool.not_eq_true]
    exact ⟨hsw, hcm, hh⟩

theorem row_asaSetCommit {set : Nat} (hset : set < 12) (hsw : s.swapPending (0x100 + set) = false) (hcm : s.commitPending set = false)
    (hg : s.pendingGate set = true) (hp : s.hearsCritical r (epochOp ⟨0, 0x3800 + set, 6⟩ 1 epoch) k = true) :
    s.row r (epochOp ⟨0, 0x3800 + set, 6⟩ 1 epoch) =
      .next { s.defers r (epochOp ⟨0, 0x3800 + set, 6⟩ 1 epoch) k e Od.asaSetCommit with asa := (s.gateEpoch set 0 (some e)).asa } := by
  have hfam : swapFamily ⟨0, 0x3800 + set, 6⟩ = none := by
    have hall : ∀ x < 12, swapFamily ⟨0, 0x3800 + x, 6⟩ = none := by decide
    exact hall set hset
  have hgj : (s.judging r (epochOp ⟨0, 0x3800 + set, 6⟩ 1 epoch) k).pendingGate set = true := by
    unfold State.pendingGate
    rw [setBanks_judging hs _ hset]
    exact hg
  have hc : (s.judging r (epochOp ⟨0, 0x3800 + set, 6⟩ 1 epoch) k).checkEpoch ⟨0, 0x3800 + set, 6⟩ 1 e (s.principal (s.sessionOf r.session)) = .ok := by
    unfold State.checkEpoch
    rw [if_neg (by rw [changeRoom_judging hs, hroom]; decide), hfam]
    dsimp only
    rw [if_pos (by omega), show 0x3800 + set - 0x3800 = set by omega]
    exact checkAsaCommit_ok hsw hcm hgj
  have ho := asaSetCommit_epoch hset
  have hpl : ∀ t : State, Placed t ⟨0, 0x3800 + set, 6⟩ Od.asaSetCommit := fun t => placed_package ho.toStands
  have hlen : (epochOp ⟨0, 0x3800 + set, 6⟩ 1 epoch).len = Od.asaSetCommit.type.size := by
    show ((definedAt ⟨0, 0x3800 + set, 6⟩).map fun o => o.type.size).getD 0 = _
    rw [(hpl s).defined]
    rfl
  rw [row_epoch (o := epochOp ⟨0, 0x3800 + set, 6⟩ 1 epoch) hp rfl ((hpl _).present _) hs hsm ho.access ho.anySlot hlen ho.size (takes_one rfl rfl)
    (show 0 < 0x2000 by decide) he (yieldEcmp_other (show swapFamily ⟨0, 0x3800 + set, 6⟩ ≠ _ by rw [hfam]; simp)) hc]
  rw [epochOp_addr, if_pos (by simp; omega), show 0x3800 + set - 0x3800 = set by omega, gateEpoch_accepted (s := s) (addChange_asa (s := s.judging r _ k) ..)
    ((setBanks_addChange (s := s.judging r _ k) ..).trans (setBanks_judging hs _ hset _))]
  rfl

/-- SPARE_CHANGEOVER is member 4, SPARE_RELEASE member 5. -/
theorem row_slice {ob : Obj} {n b v : Nat} (ho : EpochObject .lanePort ob 0x2200 b) (ht : ob.type = .u8) (hpm : ob.permit = .span 0 7) (hn : n < 512)
    (h8 : n % 8 = 0) (hd : s.hasDie (n / 64) = true) (hlate : s.ns + 2000000 ≤ e * s.epochNs) (hv : v ≤ 7)
    (h4 : b = 4 → s.sliceState (n / 8) = 2 ∧ (s.spareSlice (n / 8)).job = none) (h5 : b = 5 → s.sliceRetired (n / 8) v = false)
    (hp : s.hearsCritical r (epochOp ⟨portInst n, 0x2200, b⟩ v epoch) k = true) :
    s.row r (epochOp ⟨portInst n, 0x2200, b⟩ v epoch) = .next (s.defers r (epochOp ⟨portInst n, 0x2200, b⟩ v epoch) k e ob) := by
  have hf : swapFamily ⟨portInst n, 0x2200, b⟩ = none := by simp [swapFamily]
  refine row_defers ho (fun t ht => placed_port ho.toStands hn (by rw [State.hasDie, ht]; exact hd) (.inr h8)) hp hs hsm
    (takes_upTo7 ht hpm hv) (portInst_lt hn) he (by omega) (yieldEcmp_other (by rw [hf]; simp)) ?_
  unfold State.checkEpoch
  rw [if_neg (by rw [changeRoom_judging hs, hroom]; decide), hf]
  dsimp only
  rw [if_neg (by omega), if_pos rfl]
  refine checkChangeover_ok (s := s.judging r _ k) ?_ (fun hb => ⟨(rd_judging hs _ ?_).trans (h4 hb).1, (h4 hb).2⟩) h5
  · rw [State.epochNs, rd_judging hs _ (by decide)]
    exact hlate
  · simp [Obj.key, dictKey, Od.spareSliceState, portInst]
    omega

theorem row_pipelineMigrate {d v : Nat} (hd : s.hasDie d = true) (hv : v ≤ 7) (h0 : s.rdOctet Od.sparePipelineState (dieInst d) 0 0 = 2)
    (h1 : s.rdOctet Od.sparePipelineState (dieInst d) 0 1 = 2) (hcl : s.rd Od.sparePipelineClaim (dieInst d) = 0)
    (hno : ∀ c ∈ s.sched.changes, c.isFor ⟨dieInst d, 0x7401, 3⟩ = false)
    (hp : s.hearsCritical r (epochOp ⟨dieInst d, 0x7401, 3⟩ v epoch) k = true) :
    s.row r (epochOp ⟨dieInst d, 0x7401, 3⟩ v epoch) = .next (s.defers r (epochOp ⟨dieInst d, 0x7401, 3⟩ v epoch) k e Od.pipelineMigrate) := by
  have hd8 := hasDie_lt hd
  have hf : swapFamily ⟨dieInst d, 0x7401, 3⟩ = none := by simp [swapFamily]
  refine row_defers pipelineMigrate_epoch (fun t ht => placed_die pipelineMigrate_epoch.toStands hd8 (by rw [State.hasDie, ht]; exact hd) (by decide)) hp hs hsm
    (takes_upTo7 rfl rfl hv) (dieInst_lt hd8) he (by omega) (yieldEcmp_other (by rw [hf]; simp)) ?_
  have hst : ∀ i, (s.judging r (epochOp ⟨dieInst d, 0x7401, 3⟩ v epoch) k).rdOctet Od.sparePipelineState (dieInst d) 0 i =
      s.rdOctet Od.sparePipelineState (dieInst d) 0 i := fun i => by
    rw [State.rdOctet, rd_judging hs _ (by simp [Obj.key, dictKey, Od.sparePipelineState, dieInst]; omega)]
    rfl
  have hc0 : (s.judging r (epochOp ⟨dieInst d, 0x7401, 3⟩ v epoch) k).rd Od.sparePipelineClaim (dieInst d) = 0 := by
    rw [rd_judging hs _ (by simp [Obj.key, dictKey, Od.sparePipelineClaim, dieInst]; omega), hcl]
  unfold State.checkEpoch
  rw [if_neg (by rw [changeRoom_judging hs, hroom]; decide), hf]
  dsimp only
  rw [if_neg (by omega), if_neg (by omega), if_pos rfl]
  exact checkMigrate_ok ((hst 0).trans h0) ((hst 1).trans h1) hc0 hno

end
end

theorem famOfTable_lt {t : Nat} (h : t ≤ 14) : famOfTable (0x40 + t) < 0x100 := by
  have hall : ∀ x < 15, famOfTable (0x40 + x) < 0x100 := by decide
  exact hall t (by omega)

theorem swapFamily_tableSwap {t : Nat} (h : t ≤ 14) : swapFamily ⟨0, 0x4000 + t, 4⟩ = some (famOfTable (0x40 + t)) := by
  have hall : ∀ x < 15, swapFamily ⟨0, 0x4000 + x, 4⟩ = some (famOfTable (0x40 + x)) := by decide
  exact hall t (by omega)

/-- Settles O11: the chapter's check sees the state of the bank, the slice or the pipeline as it was, and passes. -/
theorem swapsDeferred : Obligations.SwapsDeferred := by
  intro s r k v epoch e hs hsm hroom he
  refine ⟨fun f hsw hh hd hst => ?_, fun set hset hsw hcm hg hp => ?_, fun n hn h8 hd hlate hv => ⟨fun h2 hj hp => ?_, fun hr hp => ?_⟩,
    fun d hd hv h0 h1 hcl hno hp => ?_⟩
  · have hc := checkSwap_ok hsw hh hd hst
    refine ⟨fun t ht hf hp => ?_, fun hf hp => ?_, fun hf hp => ?_, fun hf hp => ?_, fun hf hp => ?_, fun n hn hdie hf hg hp => ?_,
      fun i hi hf hv hl hp => ?_, fun set hset hf hcm hb hp => ?_⟩
    · subst hf
      rw [tableSwap_at] at hp ⊢
      show s.row r (epochOp (Obj.at_ Od.tableSwap 0 t) 1 epoch) = _
      rw [tableSwap_at]
      exact row_swap (tableSwap_epoch (by omega)) rfl rfl (swapFamily_tableSwap ht) (famOfTable_lt ht) (by omega) hs hsm hroom he hc hsw hp
    · subst hf
      exact row_swap ecmpSwap_epoch rfl rfl (by decide) (by decide) (by decide) hs hsm hroom he hc hsw hp
    · subst hf
      exact row_swap parserSwap_epoch rfl rfl (by decide) (by decide) (by decide) hs hsm hroom he hc hsw hp
    · subst hf
      exact row_swap placeSwap_epoch rfl rfl (by decide) (by decide) (by decide) hs hsm hroom he hc hsw hp
    · subst hf
      exact row_swap rewriteSwap_epoch rfl rfl (by decide) (by decide) (by decide) hs hsm hroom he hc hsw hp
    · subst hf
      exact row_gclSwap hs hsm hroom he hn hdie hg hc hp
    · rw [aeCodeSwap_at] at hp ⊢
      show s.row r (epochOp (Obj.at_ Od.aeCodeSwap 0 i) v epoch) = _
      rw [aeCodeSwap_at]
      exact row_aeCodeSwap hs hsm hroom he (by omega) hf hv hl hsw hh hd hp
    · rw [asaSetSwap_at] at hp ⊢
      show s.row r (epochOp (Obj.at_ Od.asaSetSwap 0 set) 1 epoch) = _
      rw [asaSetSwap_at]
      exact row_asaSetSwap hs hsm hroom he hset hf hcm hb hsw hh hd hp
  · refine ⟨_, ?_, rfl⟩
    rw [asaSetCommit_at] at hp ⊢
    show s.row r (epochOp (Obj.at_ Od.asaSetCommit 0 set) 1 epoch) = _
    rw [asaSetCommit_at]
    exact row_asaSetCommit hs hsm hroom he hset hsw hcm hg hp
  · exact row_slice hs hsm hroom he spareChangeover_epoch rfl rfl hn h8 hd hlate hv (fun _ => ⟨h2, hj⟩) (fun h => absurd h (by decide)) hp
  · exact row_slice hs hsm hroom he spareRelease_epoch rfl rfl hn h8 hd hlate hv (fun h => absurd h (by decide)) (fun _ => hr) hp
  · exact row_pipelineMigrate hs hsm hroom he hd hv h0 h1 hcl hno hp
end Sys2Proof.Machine
end

section
namespace Sys2Proof.Machine

/-! A copy of a live bank that the tiles left free have no room for (R156). -/

/-- A request of function 0 of host interface 0 without a key. -/
def plainReq : Req := { session := .pcie 0 0, keySlot := none, check := 0, counter := 0, critical := false, tag := 0 }

/-- Host-ready, with 64 tiles in the live banks of tables 0x43 and 0x48 and 240 of the 256 in use, so that a copy of table 0x43 finds too few free. -/
def crowdedTiles : State := ((State.reset.wr Od.bootStage 2).wr Od.tableShadowTiles 64 (bankInst 0) 3).wr Od.tableShadowTiles 64 (bankInst 0) 8

theorem crowdedTiles_heard : crowdedTiles.sound = true ∧ crowdedTiles.hearsPlain plainReq = true ∧ crowdedTiles.smoulder = false ∧
    crowdedTiles.swapPending 0x43 = false ∧ crowdedTiles.famHeld 0x43 = false ∧ crowdedTiles.tilesUsed = 240 := by
  decide +kernel

/-- How many copies wait after a step. -/
def Answer.copyCount : Answer → Nat
  | .next t => t.copies.length
  | _ => 0

theorem crowdedTiles_tableFull : Answer.copyCount (exec (.tableCopyLive plainReq 3 1) crowdedTiles) = 0 := by decide +kernel

/-- Refutes O12: with too few tiles free for the copy, TABLE_COPY_LIVE answers TABLE_FULL and no copy begins. -/
theorem not_shadowAndCopyWrites : ¬ Obligations.ShadowAndCopyWrites := by
  rintro ⟨-, h⟩
  obtain ⟨hs, hp, hsm, hsw, hh, -⟩ := crowdedTiles_heard
  have hcopy := (h crowdedTiles plainReq hs hp hsm 0x43 hsw hh).1 3 (by decide) rfl
  have hone := congrArg Answer.copyCount hcopy
  rw [crowdedTiles_tableFull] at hone
  exact absurd hone (by simp [Answer.copyCount, State.copyBegun, State.later])
end Sys2Proof.Machine
end

section
namespace Sys2Proof.Machine
section
variable {s : State} {r : Req} {k : Nat}

/-! WRITE of a critical request. -/

/-- An object that a critical WRITE with the right writes. -/
structure CriticalObject (c : InstClass) (ob : Obj) (i b : Nat) : Prop extends Stands c ob i b where
  access : ob.accessAt ⟨0, i, b⟩ = .rw ∨ ob.accessAt ⟨0, i, b⟩ = .wo
  noKey : ¬(i = 0x1100 ∧ b = 3)
  size : ob.type.size ≤ 1376

/-- `CriticalObject` as a test. -/
def criticalObject (c : InstClass) (ob : Obj) (i b : Nat) : Bool :=
  standsAt c ob i b && decide ((ob.accessAt ⟨0, i, b⟩ = .rw ∨ ob.accessAt ⟨0, i, b⟩ = .wo) ∧ ¬(i = 0x1100 ∧ b = 3) ∧ ob.type.size ≤ 1376)

theorem CriticalObject.of {c : InstClass} {ob : Obj} {i b : Nat} (h : criticalObject c ob i b = true) : CriticalObject c ob i b := by
  obtain ⟨hs, h⟩ := Bool.and_eq_true_iff.mp h
  obtain ⟨h1, h2, h3⟩ := of_decide_eq_true h
  exact ⟨.of hs, h1, h2, h3⟩

@[simp] theorem writeOp_addr (a : Address) (v : Nat) : (writeOp a v).addr = a := rfl

/-- A critical write of a package object that its chapter answers with a status other than RESOURCE_BUSY is accepted with that status (R340). -/
theorem row_critWrite {ob : Obj} {i b v : Nat} (ho : CriticalObject .package ob i b) (hp : s.hearsCritical r (writeOp ⟨0, i, b⟩ v) k = true)
    (hs : s.sound = true) (hsm : s.smoulder = false) (h1 : slot1Only ⟨0, i, b⟩ = false ∨ k = 1) (hv : ob.takes v) {st : Status} {u : State} {rec : Nat}
    (hst : st ≠ .resourceBusy)
    (hw : (s.judging r (writeOp ⟨0, i, b⟩ v) k).writeObject (s.critCtx r (writeOp ⟨0, i, b⟩ v) k) = { status := st, state := u, record := rec }) :
    s.row r (writeOp ⟨0, i, b⟩ v) = .next (u.accepted s r (writeOp ⟨0, i, b⟩ v) k st ob 0) := by
  have hpl : ∀ t : State, Placed t ⟨0, i, b⟩ ob := fun t => placed_package ho.toStands
  have hlen : (writeOp ⟨0, i, b⟩ v).len = ob.type.size := by
    show ((definedAt ⟨0, i, b⟩).map fun o => o.type.size).getD 0 = _
    rw [(hpl s).defined]
    rfl
  obtain ⟨-, -, -, -, -, -, -, -, -, -, hri⟩ := (hearsCritical_iff _ k).mp hp
  have hd := doOp_critical (writeOp ⟨0, i, b⟩ v) k hp ob rfl ((hpl _).present _) ((smoulder_judging hs _).trans hsm) hri ho.access ho.noKey h1 hlen
    hv.1 hv.2.1 hv.2.2
  have hres : ({ status := st, state := u, record := rec } : WriteRes).result (s.sessionOf r.session) ob.type.code 0 =
      ({ status := st, type := ob.type.code, len := 0, value := 0, epoch := 0 }, u) := if_neg hst
  rw [hw, hres] at hd
  exact row_critical _ k hp (hlen ▸ ho.size) _ _ hd

@[simp] theorem critCtx_value (o : DictOp) : (s.critCtx r o k).value = o.value := rfl

@[simp] theorem critCtx_counter (o : DictOp) : (s.critCtx r o k).counter = r.counter := rfl

/-- The address that the chapter of a package object is given. -/
theorem critCtx_writeOp {i b v : Nat} (hp : s.hearsCritical r (writeOp ⟨0, i, b⟩ v) k = true) : (s.critCtx r (writeOp ⟨0, i, b⟩ v) k).addr = ⟨0, i, b⟩ :=
  critCtx_addr (hearsCritical_pcie hp) (show 0 < 0x2000 by decide)

/-- The chapters by the index of the object, but for the copies of live banks. -/
theorem writeObject_of {c : WriteCtx} (h : copyFamilyOf c.addr = none) : s.writeObject c =
    if c.addr.index < 0x1400 then s.writeIdentity c
    else if c.addr.index < 0x1800 then s.writeTime c
    else if 0x2000 ≤ c.addr.index ∧ c.addr.index < 0x2800 then s.writePorts c
    else if 0x3000 ≤ c.addr.index ∧ c.addr.index < 0x7000 then s.writeForwarding c
    else if 0x7000 ≤ c.addr.index ∧ c.addr.index < 0x8000 then s.writeFaults c
    else if 0x8000 ≤ c.addr.index ∧ c.addr.index < 0x9000 then s.writeCounters c
    else if 0x9000 ≤ c.addr.index ∧ c.addr.index < 0xA000 then s.writePower c
    else if 0xA000 ≤ c.addr.index ∧ c.addr.index < 0xA200 then s.writeRings c
    else if 0xA200 ≤ c.addr.index ∧ c.addr.index < 0xA400 then s.writeEvents c
    else if 0xB000 ≤ c.addr.index ∧ c.addr.index < 0xC000 then s.writeBoot c
    else s.store c := by
  unfold State.writeObject
  rw [h]

end
end Sys2Proof.Machine
end

section
namespace Sys2Proof.Machine
section
variable {s : State} {r : Req} {k v : Nat} {c : WriteCtx}

/-! What the chapters do with each object. -/

theorem writeObject_todSet (ha : c.addr = ⟨0, 0x1403, 3⟩) : s.writeObject c = .good (s.setTod c.value) := by
  rw [writeObject_of (by rw [ha]; rfl)]
  simp [ha, State.writeTime]

theorem writeObject_timeSource (ha : c.addr = ⟨0, 0x1403, 1⟩) : s.writeObject c =
    if c.value = 0 then .good ({ s.wr Od.timeSource c.value with time := { s.time with todKnown := false, tod := none } }.toTimeState 0)
    else .good (s.wr Od.timeSource c.value) := by
  rw [writeObject_of (by rw [ha]; rfl)]
  have hst : s.store c = .good (s.wr Od.timeSource c.value) := store_eq Od.timeSource ha
  have hw : s.writeTime c = if c.value = 0 then .good ({ (s.store c).state with time := { (s.store c).state.time with todKnown := false, tod := none } }.toTimeState 0)
      else .good (s.store c).state := by
    simp [ha, State.writeTime]
  simp only [ha]
  rw [if_neg (by decide), if_pos (by decide), hw, hst]
  rfl

theorem writeObject_timeStepAccept (ha : c.addr = ⟨0, 0x1405, 3⟩) {x : Int} (hx : s.time.refused = some x) : s.writeObject c = .good (s.decideStep x) := by
  rw [writeObject_of (by rw [ha]; rfl)]
  simp [ha, State.writeTime, hx]

theorem writeObject_schedCancel (ha : c.addr = ⟨0, 0x1408, 2⟩) : s.writeObject c = s.schedCancel c.value := by
  rw [writeObject_of (by rw [ha]; rfl)]
  simp [ha, State.writeTime]

theorem writeObject_recoveryCancel (ha : c.addr = ⟨0, 0x7050, 2⟩) : s.writeObject c = .good s.recoveryCancel := by
  rw [writeObject_of (by rw [ha]; rfl)]
  simp [ha, State.writeFaults]

theorem writeObject_recoveryClear (ha : c.addr = ⟨0, 0x7050, 3⟩) : s.writeObject c = s.recoveryClear := by
  rw [writeObject_of (by rw [ha]; rfl)]
  simp [ha, State.writeFaults]

theorem writeObject_faultNRelease (ha : c.addr = ⟨0, 0x7040, 3⟩) : s.writeObject c = s.releaseFaultN := by
  rw [writeObject_of (by rw [ha]; rfl)]
  simp [ha, State.writeFaults]

theorem writeObject_powerRequest (ha : c.addr = ⟨0, 0x9000, 2⟩) (hc : s.checkPower = .ok) : s.writeObject c = .good (s.powerEntry c.value) := by
  rw [writeObject_of (by rw [ha]; rfl)]
  simp [ha, State.writePower, hc]

theorem setTod_late {e : Nat} (he : s.time.lastEdge = some e) (hl : e + 1000000000 < s.up + 100000000) :
    s.setTod v = ({ s with time := { s.time with tod := some (v, 2) } } : State).fireLead 0x141 := by
  simp [State.setTod, he, hl]

theorem setTod_intime (h : s.time.lastEdge = none ∨ (∃ e, s.time.lastEdge = some e ∧ s.up + 100000000 ≤ e + 1000000000)) :
    s.setTod v = { s with time := { s.time with tod := some (v, 1) } } := by
  rcases h with h | ⟨e, h, hl⟩
  · simp [State.setTod, h]
  · simp [State.setTod, h, Nat.not_lt.mpr hl]

theorem schedCancel_due {e : Nat} (h0 : bits v 55 32 = 0) (he : s.resolveEpoch (low 32 v) = some e)
    (hc : ∃ c ∈ s.sched.changes, c.isFor { inst := bits v 95 80, index := bits v 79 64, sub := bits v 63 56 } = true ∧ c.epoch = e) :
    s.schedCancel v = .good (s.cancelChanges (fun c => c.isFor { inst := bits v 95 80, index := bits v 79 64, sub := bits v 63 56 } && c.epoch = e) .ok) := by
  have hany : (s.sched.changes.any fun c => c.isFor { inst := bits v 95 80, index := bits v 79 64, sub := bits v 63 56 } && c.epoch = e) = true := by
    simpa using hc
  unfold State.schedCancel
  dsimp only
  rw [if_neg (not_not_intro h0), he]
  dsimp only
  rw [if_pos hany]

theorem recoveryClear_free (h : s.shadowsBusy = false) : s.recoveryClear = .good s.clearShadows := if_neg (by simp [h])

theorem releaseFaultN_pin (hpin : s.recov.pin = true) (htrip : s.recov.trip = false) : s.releaseFaultN =
    .good (((({ s with recov := { s.recov with pin := false } } : State).wr Od.faultNAsserted 0).wr Od.lampState (if s.sparesLow = 0 then 1 else 2)).emit
      (.pin 4 1)).startLamp :=
  if_neg (by simp [hpin, htrip])

theorem checkPower_ok (h0 : s.rd Od.powerState = 0) (h1 : s.sched.changes = []) (h2 : s.shadowsBusy = false) (h3 : s.recov.pin = false) :
    s.checkPower = .ok := by
  simp [State.checkPower, h0, h1, h2, h3]

end

theorem todSet_critical : CriticalObject .package Od.todSet 0x1403 3 := .of (by decide +kernel)
theorem timeSource_critical : CriticalObject .package Od.timeSource 0x1403 1 := .of (by decide +kernel)
theorem timeStepAccept_critical : CriticalObject .package Od.timeStepAccept 0x1405 3 := .of (by decide +kernel)
theorem schedCancel_critical : CriticalObject .package Od.schedCancel 0x1408 2 := .of (by decide +kernel)
theorem recoveryCancel_critical : CriticalObject .package Od.recoveryCancel 0x7050 2 := .of (by decide +kernel)
theorem recoveryClearShadows_critical : CriticalObject .package Od.recoveryClearShadows 0x7050 3 := .of (by decide +kernel)
theorem faultNRelease_critical : CriticalObject .package Od.faultNRelease 0x7040 3 := .of (by decide +kernel)
theorem powerRequest_critical : CriticalObject .package Od.powerRequest 0x9000 2 := .of (by decide +kernel)

/-- Settles O13: each object's chapter runs in the state in which the request is judged. -/
theorem criticalTimeAndRecovery : Obligations.CriticalTimeAndRecovery := by
  intro s r k v hs hsm
  refine ⟨fun o j ho hp hj hv hns => ⟨fun hedge => ?_, fun e hedge hlate => ?_⟩, fun o j ho hp hj hv => ⟨fun h0 => ?_, fun h0 => ?_⟩,
    fun o j x ho hp hj hx => ?_, fun o j a e ho hp hj hv h0 ha he hc => ?_, fun o j ho hp hj => ?_, fun o j ho hp hj hb => ?_,
    fun o j ho hp hj hpin htrip => ?_, fun htrip => ?_, fun o j ho hp hj hv hst hch hb hpin => ?_⟩
  · subst ho hj
    have htake : Od.todSet.takes v := ⟨hv, by simpa [Od.todSet, ObjType.allows] using hns, rfl⟩
    exact row_critWrite todSet_critical hp hs hsm (.inl (by decide)) htake (by decide)
      ((writeObject_todSet (critCtx_writeOp hp)).trans (congrArg _ (setTod_intime hedge)))
  · subst ho hj
    have htake : Od.todSet.takes v := ⟨hv, by simpa [Od.todSet, ObjType.allows] using hns, rfl⟩
    exact row_critWrite todSet_critical hp hs hsm (.inl (by decide)) htake (by decide)
      ((writeObject_todSet (critCtx_writeOp hp)).trans (congrArg _ (setTod_late hedge hlate)))
  · subst ho hj
    have htake : Od.timeSource.takes v := by
      refine ⟨?_, ?_, ?_⟩ <;> simp [Od.timeSource, ObjType.size, ObjType.allows, Permit.allows] <;> omega
    exact row_critWrite timeSource_critical hp hs hsm (.inl (by decide)) htake (by decide)
      ((writeObject_timeSource (critCtx_writeOp hp)).trans (if_neg h0))
  · subst ho hj h0
    exact row_critWrite timeSource_critical hp hs hsm (.inl (by decide)) ⟨by decide, rfl, rfl⟩ (by decide)
      ((writeObject_timeSource (critCtx_writeOp hp)).trans (if_pos rfl))
  · subst ho hj
    exact row_critWrite timeStepAccept_critical hp hs hsm (.inl (by decide)) (takes_one rfl rfl) (by decide)
      (writeObject_timeStepAccept (critCtx_writeOp hp) hx)
  · subst ho hj ha
    exact row_critWrite schedCancel_critical hp hs hsm (.inl (by decide)) ⟨hv, rfl, rfl⟩ (by decide)
      ((writeObject_schedCancel (critCtx_writeOp hp)).trans (schedCancel_due h0 ((resolveEpoch_judging _ _).trans he) hc))
  · subst ho hj
    exact row_critWrite recoveryCancel_critical hp hs hsm (.inl (by decide)) (takes_one rfl rfl) (by decide)
      (writeObject_recoveryCancel (critCtx_writeOp hp))
  · subst ho hj
    exact row_critWrite recoveryClearShadows_critical hp hs hsm (.inl (by decide)) (takes_one rfl rfl) (by decide)
      ((writeObject_recoveryClear (critCtx_writeOp hp)).trans (recoveryClear_free hb))
  · subst ho hj
    refine (if_neg (by simp [htrip])).trans ?_
    exact row_critWrite faultNRelease_critical hp hs hsm (.inl (by decide)) (takes_one rfl rfl) (by decide)
      ((writeObject_faultNRelease (critCtx_writeOp hp)).trans (releaseFaultN_pin hpin htrip))
  · exact if_pos htrip
  · subst ho hj
    have htake : Od.powerRequest.takes v := by
      rcases hv with rfl | rfl <;> exact ⟨by decide, rfl, by decide⟩
    exact row_critWrite powerRequest_critical hp hs hsm (.inl (by decide)) htake (by decide)
      (writeObject_powerRequest (critCtx_writeOp hp) (checkPower_ok ((rd_judging hs _ (by decide)).trans hst) hch hb hpin))
end Sys2Proof.Machine
end

section
namespace Sys2Proof.Machine
section
variable {s : State} {r : Req} {k v : Nat} {c : WriteCtx}

/-! Keys, the seal and the resets of sessions. -/

theorem writeObject_keySet (ha : c.addr = ⟨0, 0x1100, 4⟩) {x : Nat × Nat} (hx : unwrapKey (s.slotKey 1) c.counter c.value = some x) :
    s.writeObject c = .good s := by
  rw [writeObject_of (by rw [ha]; rfl)]
  simp [ha, State.writeIdentity, hx]

theorem writeObject_keyClear (ha : c.addr = ⟨0, 0x1100, 5⟩) (h2 : 2 ≤ c.value) (h7 : c.value ≤ 7) :
    s.writeObject c = .good (s.setLive { s.dict.live with keys := sparseErase s.dict.live.keys c.value }) := by
  rw [writeObject_of (by rw [ha]; rfl)]
  simp [ha, State.writeIdentity, Nat.not_lt.mpr h2, Nat.not_lt.mpr h7]

theorem writeObject_seal (ha : c.addr = ⟨0, 0x1100, 2⟩) (h1 : s.slotState 1 ≠ 0) : s.writeObject c = .good (s.setLive { s.dict.live with security := 1 }) := by
  rw [writeObject_of (by rw [ha]; rfl)]
  simp [ha, State.writeIdentity, State.sealEngine, h1]

theorem writeObject_engineReset (ha : c.addr = ⟨0, 0xB001, 3⟩) : s.writeObject c = .good s := by
  rw [writeObject_of (by rw [ha]; rfl)]
  simp [ha, State.writeBoot]

theorem writeObject_keyProvision (ha : c.addr = ⟨0, 0x1100, 3⟩) :
    s.writeObject c = .good (s.setLive { s.dict.live with keys := sparsePut s.dict.live.keys 1 { key := c.value, state := 1 } }) := by
  rw [writeObject_of (by rw [ha]; rfl)]
  simp [ha, State.writeIdentity]

theorem writeObject_sessionReset (ha : c.addr = ⟨0, 0x1011, 3⟩) : s.writeObject c = .good s := by
  rw [writeObject_of (by rw [ha]; rfl)]
  simp [ha, State.writeIdentity]

/-- Slot 1 holds a key when a request under it is heard. -/
theorem slotState_heard {o : DictOp} (hp : s.hearsCritical r o k = true) : s.slotState k = 1 := by
  obtain ⟨-, -, -, hk, -, -, ha, -⟩ := (hearsCritical_iff o k).mp hp
  exact authentic_set true true k _ _ hk ha

theorem keySet_critical : CriticalObject .package Od.keySet 0x1100 4 := .of (by decide +kernel)
theorem keyClear_critical : CriticalObject .package Od.keyClear 0x1100 5 := .of (by decide +kernel)
theorem seal_critical : CriticalObject .package Od.sealObj 0x1100 2 := .of (by decide +kernel)
theorem engineReset_critical : CriticalObject .package Od.engineReset 0xB001 3 := .of (by decide +kernel)
theorem keyProvision_stands : Stands .package Od.keyProvision 0x1100 3 := .of (by decide +kernel)
theorem sessionReset_stands : Stands .package Od.sessionReset 0x1011 3 := .of (by decide +kernel)

/-- A WRITE that checks 7 to 11 let pass goes to the chapter of its object. -/
theorem doOp_write {j : Job} {o : DictOp} {ob : Obj} (hob : s.object? j.session o.addr = some ob) (h2 : o.op = 2) (hc : s.checkOp j ob o = .ok) :
    s.doOp j o = (s.writeObject (s.ctxOf j o)).result j.session ob.type.code 0 := by
  unfold State.doOp
  rw [hob]
  dsimp only
  rw [hc]
  dsimp only
  rw [if_neg (by omega), if_neg (by omega), if_neg (by omega)]

/-- KEY_PROVISION is the one writable object that no host function writes. -/
theorem row_keyProvision (hp : s.hearsPlain r = true) (v : Nat) :
    s.row r (writeOp ⟨0, 0x1100, 3⟩ v) = .next (s.answers s r .access Od.keyProvision 0) := by
  obtain ⟨-, -, h4, h5, h, f, -, -, hs⟩ := hearsPlain_iff.mp hp
  have hpl : Placed s ⟨0, 0x1100, 3⟩ Od.keyProvision := placed_package keyProvision_stands
  have hacc : s.checkAccess (rowJob s r (writeOp ⟨0, 0x1100, 3⟩ v)) Od.keyProvision (writeOp ⟨0, 0x1100, 3⟩ v) = .access := by
    simp [State.checkAccess, rowJob, hs, State.sessionOf, writeOp]
  have hd : s.doOp (rowJob s r (writeOp ⟨0, 0x1100, 3⟩ v)) (writeOp ⟨0, 0x1100, 3⟩ v) = (OpResult.bare .access Od.keyProvision.type.code, s) := by
    unfold State.doOp State.checkOp
    rw [writeOp_addr, hpl.present]
    dsimp only
    rw [hacc]
  exact row_plain _ hp (show 32 ≤ 1376 by decide) (show copyFamilyOf ⟨0, 0x1100, 3⟩ = none by decide) (fun h => absurd h.1 (show ¬(0x1100 = 0x1011) by decide)) _ _ hd

/-- KEY_PROVISION over SMBus in a part that is not sealed is committed to the NVS at once. -/
theorem row_keyProvision_smbus (hr : r.session = .smbus) (hst : s.stopped = false) (hup : s.hostUp = true) (hsec : s.dict.live.security = 0)
    (hv : v < 2 ^ 256) : s.row r (writeOp ⟨0, 0x1100, 3⟩ v) = .next
      (((s.setLive { s.dict.live with keys := sparsePut s.dict.live.keys 1 { key := v, state := 1 } }).commitNvs).answers s r .ok Od.keyProvision 0) := by
  have hpl : Placed s ⟨0, 0x1100, 3⟩ Od.keyProvision := placed_package keyProvision_stands
  simp only [State.hostUp, Bool.and_eq_true, Bool.or_eq_true, decide_eq_true_eq, Bool.not_eq_true'] at hup
  obtain ⟨hstage, hbank⟩ := hup
  have hk : (decide (s.rd Od.bootStage < 2) || decide (s.rd Od.bootStage = 4)) = false := by
    rcases hstage with h | h <;> simp [h]
  have hd : ∀ j : Job, j.session = .smbus → s.doOp j (writeOp ⟨0, 0x1100, 3⟩ v) =
      ({ status := .ok, type := Od.keyProvision.type.code, len := 0, value := 0, epoch := 0 },
        s.setLive { s.dict.live with keys := sparsePut s.dict.live.keys 1 { key := v, state := 1 } }) := by
    intro j hj
    have hacc : s.checkAccess j Od.keyProvision (writeOp ⟨0, 0x1100, 3⟩ v) = .ok := by
      simp [State.checkAccess, hj, State.checkBoard, hsec, writeOp]
    have hop : s.checkOp j Od.keyProvision (writeOp ⟨0, 0x1100, 3⟩ v) = .ok := by
      unfold State.checkOp
      rw [hacc]
      dsimp only
      rw [if_neg (by rw [writeOp, hpl.defined]; simp), if_neg, if_neg (by simp [hj])]
      simp [writeOp, Od.keyProvision, ObjType.size, ObjType.allows, Permit.allows]
      omega
    have hc : (s.ctxOf j (writeOp ⟨0, 0x1100, 3⟩ v)).addr = ⟨0, 0x1100, 3⟩ := by
      simp [State.ctxOf, hj, State.scoped]
    rw [doOp_write (hpl.present _) rfl hop, writeObject_keyProvision hc]
    rfl
  have hb : s.boardOp .smbus (writeOp ⟨0, 0x1100, 3⟩ v) =
      ({ status := .ok, type := Od.keyProvision.type.code, len := 0, value := 0, epoch := 0 },
        (s.setLive { s.dict.live with keys := sparsePut s.dict.live.keys 1 { key := v, state := 1 } }).commitNvs) := by
    unfold State.boardOp
    dsimp only
    rw [hbank, hk, hd _ rfl]
    simp [writeOp]
  unfold State.row
  rw [hr]
  simp only [running_eq, hst, State.rowBoard, hb]
  simp [State.answers, hr, State.sessionOf]

/-- A function that is numbered as its pair shows it keeps its number. -/
theorem fnOf_fnOf {h f : Nat} (hf : f < 4) : s.fnOf (s.fnOf h f / 4) (s.fnOf h f % 4) = s.fnOf h f := by
  unfold State.fnOf fnKey
  split <;> omega

/-- SESSION_RESET is answered, and then resets the function that asked. -/
theorem row_sessionReset (hp : s.hearsPlain r = true) (hsm : s.smoulder = false) {h f : Nat} (hr : r.session = .pcie h f) :
    s.row r (writeOp ⟨0, 0x1011, 3⟩ 1) = .next ((s.answers s r .ok Od.sessionReset 0).functionReset (s.fnOf h f) true) := by
  have hpl : Placed s ⟨0, 0x1011, 3⟩ Od.sessionReset := placed_package sessionReset_stands
  obtain ⟨h1, hu, h4, h5, h', f', hh, hf, hs⟩ := hearsPlain_iff.mp hp
  obtain ⟨rfl, rfl⟩ : h' = h ∧ f' = f := by simpa [hs] using hr
  have hd : s.doOp (rowJob s r (writeOp ⟨0, 0x1011, 3⟩ 1)) (writeOp ⟨0, 0x1011, 3⟩ 1) =
      ({ status := .ok, type := Od.sessionReset.type.code, len := 0, value := 0, epoch := 0 }, s) := by
    rw [doOp_plain _ hp _ rfl (.inl hsm) (hpl.present _) rfl (.inr rfl) (by simp) rfl (show 1 < 256 by decide) rfl rfl,
      writeObject_sessionReset (plainCtx_addr (by decide))]
    rfl
  have hcopy : s.copying? (rowJob s r (writeOp ⟨0, 0x1011, 3⟩ 1)) (writeOp ⟨0, 0x1011, 3⟩ 1) = none := by
    unfold State.copying?
    rw [writeOp_addr, hpl.present]
    rfl
  rw [row_heard _ hp (show 1 ≤ 1376 by decide)]
  have hrun : State.runJob 33 s (rowJob s r (writeOp ⟨0, 0x1011, 3⟩ 1)) = (s.answers s r .ok Od.sessionReset 0).resetSession
      (s.ctxOf (rowJob s r (writeOp ⟨0, 0x1011, 3⟩ 1)) (writeOp ⟨0, 0x1011, 3⟩ 1)).session := by
    have hops : (rowJob s r (writeOp ⟨0, 0x1011, 3⟩ 1)).ops = [writeOp ⟨0, 0x1011, 3⟩ 1] := rfl
    unfold State.runJob
    rw [hops]
    dsimp only
    rw [hcopy, hd]
    dsimp only
    rw [if_pos ⟨rfl, rfl, rfl, rfl⟩]
    simp [State.finishJob, State.keepLast, State.sendReply, Job.abort, rowJob, hs, State.sessionOf, State.answers]
  have hsess : (s.ctxOf (rowJob s r (writeOp ⟨0, 0x1011, 3⟩ 1)) (writeOp ⟨0, 0x1011, 3⟩ 1)).session = .pcie (s.fnOf h' f' / 4) (s.fnOf h' f' % 4) := by
    simp [State.ctxOf, rowJob, hs, State.sessionOf, fnOf_fnOf hf]
  rw [hrun, hsess]
  simp only [State.resetSession, fnKey, Nat.div_add_mod']

end

/-- Settles O14: each object's chapter changes the live key store, or leaves the change to the commit. -/
theorem keysAndSessions : Obligations.KeysAndSessions := by
  intro s r v hs hsm
  refine ⟨fun o x ho hp hv hx => ?_, fun o ho hp h2 h7 => ?_, fun o ho hp => ?_, fun o k ho hp => ?_, fun hp _ => ?_,
    fun hr hst hup hsec hv => ?_, fun h f hp hr => ?_⟩
  · subst ho
    exact row_critWrite keySet_critical hp hs hsm (.inr rfl) ⟨hv, rfl, rfl⟩ (by decide) (writeObject_keySet (critCtx_writeOp hp) hx)
  · subst ho
    have htake : Od.keyClear.takes v := by
      refine ⟨?_, rfl, ?_⟩ <;> simp [Od.keyClear, ObjType.size, Permit.allows] <;> omega
    exact row_critWrite keyClear_critical hp hs hsm (.inr rfl) htake (by decide) (writeObject_keyClear (critCtx_writeOp hp) h2 h7)
  · subst ho
    exact row_critWrite seal_critical hp hs hsm (.inr rfl) (takes_one rfl rfl) (by decide)
      (writeObject_seal (critCtx_writeOp hp) (show s.slotState 1 ≠ 0 by rw [slotState_heard hp]; decide))
  · subst ho
    exact row_critWrite engineReset_critical hp hs hsm (.inl (by decide)) (takes_one rfl rfl) (by decide) (writeObject_engineReset (critCtx_writeOp hp))
  · exact row_keyProvision hp v
  · exact row_keyProvision_smbus hr hst hup hsec hv
  · exact row_sessionReset hp hsm hr
end Sys2Proof.Machine
end

section
namespace Sys2Proof.Machine
section
variable {s : State} {r : Req} {k v slot off : Nat} {c : WriteCtx}

/-! The flash, its slots and the fused SVN. -/

theorem writeObject_fwFlashBlock (ha : c.addr = ⟨0, 0xB020, 1⟩) : s.writeObject c = s.flashBlock c.value := by
  rw [writeObject_of (by rw [ha]; rfl)]
  simp [ha, State.writeBoot]

theorem writeObject_fwVerify (ha : c.addr = ⟨0, 0xB020, 2⟩) (h : c.value ≤ 1) : s.writeObject c = .good (s.setFwSlot c.value 2) := by
  rw [writeObject_of (by rw [ha]; rfl)]
  simp [ha, State.writeBoot, Nat.not_lt.mpr h]

theorem writeObject_fwActivate (ha : c.addr = ⟨0, 0xB020, 3⟩) : s.writeObject c = s.activate? c.value := by
  rw [writeObject_of (by rw [ha]; rfl)]
  simp [ha, State.writeBoot]

theorem writeObject_fwSvnCommit (ha : c.addr = ⟨0, 0xB020, 7⟩) (h : s.rd Od.bootFallbacks = 0) :
    s.writeObject c = .good (s.wr Od.fusedSvn (max (s.rd Od.fusedSvn) (s.rd Od.imageSvn))) := by
  rw [writeObject_of (by rw [ha]; rfl)]
  simp [ha, State.writeBoot, h]

/-- What stands above octet 1024 of a block is its slot and its offset. -/
theorem octetOf_block (hv : v = slot * 256 ^ 1031 + off * 256 ^ 1024 + v % 256 ^ 1024) {i : Nat} (hi : i ≤ 7) :
    octetOf 1032 i v = (slot * 256 ^ 7 + off) / 256 ^ (7 - i) % 256 := by
  have hpos : 0 < 256 ^ 1024 := Nat.pow_pos (Nat.zero_lt_succ 255)
  have hdiv : v / 256 ^ 1024 = slot * 256 ^ 7 + off := by
    have hsum : v = 256 ^ 1024 * (slot * 256 ^ 7 + off) + v % 256 ^ 1024 := by
      rw [Nat.mul_add, Nat.mul_comm _ off, Nat.mul_left_comm, ← Nat.pow_add]
      exact hv
    have hlow : v % 256 ^ 1024 < 256 ^ 1024 := Nat.mod_lt _ hpos
    generalize 256 ^ 1024 = m at *
    rw [hsum, Nat.mul_add_div hpos, Nat.div_eq_of_lt hlow, Nat.add_zero]
  unfold octetOf
  rw [show 1032 - 1 - i = 1024 + (7 - i) by omega, Nat.pow_add, ← Nat.div_div_eq_div_mul, hdiv]

theorem beNat_octets (a b c d : Nat) (ha : a < 256) (hb : b < 256) (hc : c < 256) (hd : d < 256) :
    beNat [BitVec.ofNat 8 a, BitVec.ofNat 8 b, BitVec.ofNat 8 c, BitVec.ofNat 8 d] = ((a * 256 + b) * 256 + c) * 256 + d := by
  simp only [beNat, List.foldl_cons, List.foldl_nil, BitVec.toNat_ofNat]
  omega

/-- A block for a slot that is neither running nor under verification (R485). -/
theorem flashBlock_good (hslot : slot ≤ 1) (hv : v = slot * 256 ^ 1031 + off * 256 ^ 1024 + v % 256 ^ 1024) (hoff : off < 33554432)
    (hal : off % 1024 = 0) (hrun : s.rd Od.bootSlot ≠ slot) (h0 : s.fwSlot 0 ≠ 2) (h1 : s.fwSlot 1 ≠ 2) : s.flashBlock v =
      .good ((if s.boot.flash0.slot slot = 1 ∧ s.boot.flash1.slot slot = 1 then s else s.setSlots slot 1).programBlock slot off v) := by
  have hk : octetOf 1032 0 v = slot := by rw [octetOf_block hv (by decide)]; omega
  have hz : ∀ i, 1 ≤ i → i ≤ 3 → octetOf 1032 i v = 0 := by
    intro i hi hi'
    rw [octetOf_block hv (by omega)]
    obtain rfl | rfl | rfl : i = 1 ∨ i = 2 ∨ i = 3 := by omega
    all_goals omega
  have ho : beNat ((List.range 4).map fun i => BitVec.ofNat 8 (octetOf 1032 (4 + i) v)) = off := by
    have hr : (List.range 4).map (fun i => BitVec.ofNat 8 (octetOf 1032 (4 + i) v)) = [BitVec.ofNat 8 (octetOf 1032 4 v),
        BitVec.ofNat 8 (octetOf 1032 5 v), BitVec.ofNat 8 (octetOf 1032 6 v), BitVec.ofNat 8 (octetOf 1032 7 v)] := rfl
    rw [hr, octetOf_block hv (by decide), octetOf_block hv (by decide), octetOf_block hv (by decide), octetOf_block hv (by decide),
      beNat_octets _ _ _ _ (Nat.mod_lt _ (by decide)) (Nat.mod_lt _ (by decide)) (Nat.mod_lt _ (by decide)) (Nat.mod_lt _ (by decide))]
    omega
  unfold State.flashBlock
  dsimp only
  rw [hk, ho, hz 1 (by decide) (by decide), hz 2 (by decide) (by decide), hz 3 (by decide) (by decide), if_neg (by omega), if_neg hrun,
    if_neg (not_or.mpr ⟨h0, h1⟩)]

theorem activate_next (hslot : slot ≤ 1) (hst : s.fwSlot slot = 3) : s.activate? (slot * 256 + 1) = .good (s.setPreferred slot) := by
  unfold State.activate?
  dsimp only
  rw [show (slot * 256 + 1) / 256 = slot by omega, show (slot * 256 + 1) % 256 = 1 by omega, if_neg (by omega), if_neg (not_not_intro hst), if_pos rfl]

theorem activate_keeperNow (hslot : slot ≤ 1) (hst : s.fwSlot slot = 3) (hk : sparseFind? s.boot.keeperOnly slot = some true) :
    s.activate? (slot * 256 + 2) = .good (({ s.useFree.setPreferred slot with
      boot := { (s.useFree.setPreferred slot).boot with activating := some slot } } : State).later 3000000000 .keeperNowRestartDone) := by
  unfold State.activate?
  dsimp only
  rw [show (slot * 256 + 2) / 256 = slot by omega, show (slot * 256 + 2) % 256 = 2 by omega, if_neg (by omega), if_neg (not_not_intro hst),
    if_neg (by decide), hk, if_neg (by simp)]

theorem fwSlot_judging (hs : s.sound = true) (o : DictOp) (i : Nat) : (s.judging r o k).fwSlot i = s.fwSlot i := by
  unfold State.fwSlot State.bootFlash
  rw [rd_judging hs o (by decide), rd_judging hs o (by decide)]
  rfl

end

theorem fwFlashBlock_critical : CriticalObject .package Od.fwFlashBlock 0xB020 1 := .of (by decide +kernel)
theorem fwVerify_critical : CriticalObject .package Od.fwVerify 0xB020 2 := .of (by decide +kernel)
theorem fwActivate_critical : CriticalObject .package Od.fwActivate 0xB020 3 := .of (by decide +kernel)
theorem fwSvnCommit_critical : CriticalObject .package Od.fwSvnCommit 0xB020 7 := .of (by decide +kernel)

/-- A value that is a multiple of a power and less than it, and what it leaves. -/
theorem block_lt {v slot off : Nat} (hslot : slot ≤ 1) (hoff : off < 33554432)
    (hv : v = slot * 256 ^ 1031 + off * 256 ^ 1024 + v % 256 ^ 1024) : v < 256 ^ 1032 := by
  have hlow : v % 256 ^ 1024 < 256 ^ 1024 := Nat.mod_lt _ (Nat.pow_pos (Nat.zero_lt_succ 255))
  have h7 : 256 ^ 1031 = 256 ^ 7 * 256 ^ 1024 := by rw [← Nat.pow_add]
  have h8 : 256 ^ 1032 = 256 ^ 8 * 256 ^ 1024 := by rw [← Nat.pow_add]
  rw [h7] at hv
  rw [h8]
  generalize 256 ^ 1024 = m at *
  have hs : slot * (256 ^ 7 * m) ≤ 1 * (256 ^ 7 * m) := Nat.mul_le_mul_right _ hslot
  have ho : off * m ≤ 33554432 * m := Nat.mul_le_mul_right _ (Nat.le_of_lt hoff)
  omega

theorem takes_slot {slot b : Nat} (hslot : slot ≤ 1) (hb : b < 256) : Od.fwActivate.takes (slot * 256 + b) :=
  ⟨show slot * 256 + b < 256 ^ 2 by omega, rfl, rfl⟩

/-- Settles O15: each object's chapter acts on the flash directories or the fuses in the state in which the request is judged. -/
theorem firmwareWrites : Obligations.FirmwareWrites := by
  intro s r k v slot hs hsm hslot
  refine ⟨fun o j off ho hp hj hv hoff hal hrun h0 h1 => ?_, fun o j ho hp hj => ?_, fun o j ho hp hj hst => ?_, fun o j ho hp hj hst hk => ?_,
    fun o j ho hp hj h0 => ?_⟩
  · subst ho hj
    exact row_critWrite fwFlashBlock_critical hp hs hsm (.inl (by decide)) ⟨block_lt hslot hoff hv, rfl, rfl⟩ (by decide)
      ((writeObject_fwFlashBlock (critCtx_writeOp hp)).trans (flashBlock_good hslot hv hoff hal (by rw [rd_judging hs _ (by decide)]; exact hrun)
        (by rw [fwSlot_judging hs]; exact h0) (by rw [fwSlot_judging hs]; exact h1)))
  · subst ho hj
    have htake : Od.fwVerify.takes slot := by
      refine ⟨?_, rfl, ?_⟩ <;> simp [Od.fwVerify, ObjType.size, Permit.allows] <;> omega
    exact row_critWrite fwVerify_critical hp hs hsm (.inl (by decide)) htake (by decide) (writeObject_fwVerify (critCtx_writeOp hp) hslot)
  · subst ho hj
    exact row_critWrite fwActivate_critical hp hs hsm (.inl (by decide)) (takes_slot hslot (by decide)) (by decide)
      ((writeObject_fwActivate (critCtx_writeOp hp)).trans (activate_next hslot ((fwSlot_judging hs _ _).trans hst)))
  · subst ho hj
    refine ⟨_, row_critWrite fwActivate_critical hp hs hsm (.inl (by decide)) (takes_slot hslot (by decide)) (by decide)
      ((writeObject_fwActivate (critCtx_writeOp hp)).trans (activate_keeperNow hslot ((fwSlot_judging hs _ _).trans hst) hk)), rfl, ?_, rfl, rfl⟩
    simp [State.accepted, State.later, State.up, State.setPreferred, State.useFree, State.judging, State.bump]
  · subst ho hj
    have hw := writeObject_fwSvnCommit (s := s.judging r (writeOp (Obj.at_ Od.fwSvnCommit 0 0) 1) k) (critCtx_writeOp hp)
      ((rd_judging hs (writeOp (Obj.at_ Od.fwSvnCommit 0 0) 1) (by decide)).trans h0)
    rw [rd_judging hs _ (by decide), rd_judging hs _ (by decide)] at hw
    exact row_critWrite fwSvnCommit_critical hp hs hsm (.inl (by decide)) (takes_one rfl rfl) (by decide) hw
end Sys2Proof.Machine
end

section
namespace Sys2Proof.Machine
section
variable {s : State} {r : Req}

/-! The checks of an operation without a key, in their order. -/

theorem doOp_noObject {j : Job} {o : DictOp} (h : s.object? j.session o.addr = none) : s.doOp j o = (OpResult.bare .noObject 0, s) := by
  unfold State.doOp
  rw [h]

theorem doOp_refused {j : Job} {o : DictOp} {ob : Obj} {st : Status} (hob : s.object? j.session o.addr = some ob) (hc : s.checkOp j ob o = st)
    (hst : st ≠ .ok) : s.doOp j o = (OpResult.bare st ob.type.code, s) := by
  unfold State.doOp
  rw [hob]
  dsimp only
  rw [hc]
  split
  · exact absurd rfl hst
  · rfl

/-- Checks 7 to 11 of an operation that check 9 lets pass. -/
theorem checkOp_passed {j : Job} {o : DictOp} {ob : Obj} (ha : s.checkAccess j ob o = .ok) : s.checkOp j ob o =
    if (o.op = 2 ∨ o.op = 3) ∧ o.len ≠ ob.type.size then .badType
    else if (o.op = 2 ∨ o.op = 3) ∧ (256 ^ ob.type.size ≤ o.value ∨ ob.type.allows o.value = false ∨ ob.permit.allows ob.type o.value = false) then .range
    else if s.smoulder = true ∧ smoulderServes j.critical o = false ∧ j.session ≠ .smbus then .state
    else .ok := by
  unfold State.checkOp
  rw [ha]

theorem checkOp_refused {j : Job} {o : DictOp} {ob : Obj} {st : Status} (ha : s.checkAccess j ob o = st) (hst : st ≠ .ok) : s.checkOp j ob o = st := by
  unfold State.checkOp
  rw [ha]
  split
  · exact absurd rfl hst
  · rfl

/-- Check 8 of a request of a host function without a key. -/
theorem checkAccess_plain {o : DictOp} {ob : Obj} (hp : s.hearsPlain r = true) : s.checkAccess (rowJob s r o) ob o =
    if o.op = 1 then (if ob.accessAt o.addr = .wo then .access else .ok)
    else if o.op = 4 then (if ob.accessAt o.addr = .rwe then .ok else .access)
    else if o.op = 3 then (if ob.accessAt o.addr ≠ .rwe ∨ ob.critical = true then .access else .ok)
    else if ob.accessAt o.addr = .ro ∨ ob.accessAt o.addr = .rwe ∨ ob.critical = true ∨ (o.addr.index = 0x1100 ∧ o.addr.sub = 3) then .access
    else .ok := by
  obtain ⟨-, -, -, h5, h, f, -, -, hs⟩ := hearsPlain_iff.mp hp
  have hj : (rowJob s r o).session = .pcie (s.fnOf h f / 4) (s.fnOf h f % 4) := by simp [rowJob, hs, State.sessionOf]
  have hcr : (rowJob s r o).critical = false := h5
  unfold State.checkAccess
  simp [hj, hcr, byKeeper]

/-- An operation that is refused before its object's chapter is answered with its status. -/
theorem row_bare {o : DictOp} {st : Status} {type : Nat} (hp : s.hearsPlain r = true) (hlen : o.len ≤ 1376) (hcopy : s.copying? (rowJob s r o) o = none)
    (hst : st ≠ .ok) (hd : s.doOp (rowJob s r o) o = (OpResult.bare st type, s)) :
    s.row r o = .next (s.emit (.response (s.sessionOf r.session) r.tag st type 0 0 0)) := by
  obtain ⟨-, -, -, -, h, f, -, -, hs⟩ := hearsPlain_iff.mp hp
  have hops : (rowJob s r o).ops = [o] := rfl
  rw [row_heard o hp hlen]
  unfold State.runJob
  rw [hops]
  dsimp only
  rw [hcopy, hd]
  dsimp only
  rw [if_neg (show ¬(o.op = 2 ∧ o.addr.index = 0x1011 ∧ o.addr.sub = 3 ∧ (OpResult.bare st type).status = .ok) from fun x => hst x.2.2.2)]
  conv => lhs; unfold State.runJob
  simp [State.finishJob, State.keepLast, State.sendReply, rowJob, hs, State.sessionOf, OpResult.bare]

theorem copying_noObject {j : Job} {o : DictOp} (h : s.object? j.session o.addr = none) : s.copying? j o = none := by
  unfold State.copying?
  rw [h]

/-- An operation on what is no object (check 7). -/
theorem row_noObject {o : DictOp} (hp : s.hearsPlain r = true) (hlen : o.len ≤ 1376) (h : s.object? (s.sessionOf r.session) o.addr = none) :
    s.row r o = .next (s.emit (.response (s.sessionOf r.session) r.tag .noObject 0 0 0 0)) :=
  row_bare hp hlen (copying_noObject h) (by decide) (doOp_noObject h)

/-- Below the instances of queues an address is the same for every function. -/
theorem scoped_low {x : Session} {a : Address} (h : a.inst < 0x2000) : s.scoped x a = a := by
  unfold State.scoped
  split
  · rw [if_neg (by omega)]
  · rfl

theorem object_customer {x : Session} {a : Address} {ob : Obj} (h1 : 0xC000 ≤ a.index) (h2 : a.index < 0xE000) (h : s.object? x a = some ob) :
    ob = customerObj ∧ a.inst = 0 := by
  unfold State.object? at h
  split at h
  · simp at h
  · rename_i hb
    have hc : objectAt (instClassOf a) a.index a.sub = if instClassOf a = .package ∧ a.sub = 1 then some customerObj else none := if_pos ⟨h1, h2⟩
    rw [hc] at h
    split at h
    · simp at h
    · rename_i o ho
      split at ho
      · rename_i hcl
        simp only [Option.ite_none_right_eq_some, Option.some.injEq] at h ho
        refine ⟨h.2.symm.trans ho.symm, ?_⟩
        have hk : InstKind.ofInst a.inst = .package := (if_neg (by omega)).symm.trans hcl.1
        have hz : a.inst % 65536 = 0 := by
          unfold InstKind.ofInst at hk
          dsimp only at hk
          by_cases h0 : a.inst % 65536 = 0
          · exact h0
          · rw [if_neg h0] at hk
            repeat' split at hk
            all_goals cases hk
        omega
      · simp at ho

section
variable {a : Address} {ob : Obj} (hp : s.hearsPlain r = true) (hob : s.object? (s.sessionOf r.session) a = some ob) (hcopy : copyFamilyOf a = none)
  (hreset : ¬(a.index = 0x1011 ∧ a.sub = 3))
include hp hob hcopy hreset

theorem row_refused {o : DictOp} {st : Status} (ho : o.addr = a) (hlen : o.len ≤ 1376) (hc : s.checkOp (rowJob s r o) ob o = st) (hst : st ≠ .ok) :
    s.row r o = .next (s.answers s r st ob 0) := by
  subst ho
  exact row_plain o hp hlen hcopy hreset _ _ (doOp_refused hob hc hst)

theorem row_denied {o : DictOp} (ho : o.addr = a) (hlen : o.len ≤ 1376) (ha : s.checkAccess (rowJob s r o) ob o = .access) :
    s.row r o = .next (s.answers s r .access ob 0) :=
  row_refused hp hob hcopy hreset ho hlen (checkOp_refused ha (by decide)) (by decide)

variable (hsm : s.smoulder = false)
include hsm

theorem row_read {v : Nat} {t : State} (hacc : ob.accessAt a ≠ .wo) (hv : s.readValue (s.sessionOf r.session) ob a = (.ok, v, t)) :
    s.row r (readOp a) = .next (t.emit (.response (s.sessionOf r.session) r.tag .ok ob.type.code 0 ob.type.size v)) := by
  have hc : s.checkOp (rowJob s r (readOp a)) ob (readOp a) = .ok := by
    rw [checkOp_passed (by rw [checkAccess_plain hp]; simp [readOp, hacc])]
    simp [readOp, hsm]
  have hd : s.doOp (rowJob s r (readOp a)) (readOp a) =
      ({ status := .ok, type := ob.type.code, len := ob.type.size, value := v, epoch := 0 }, t) := by
    unfold State.doOp
    rw [show s.object? (rowJob s r (readOp a)).session (readOp a).addr = some ob from hob]
    dsimp only
    rw [hc]
    dsimp only
    rw [if_pos (show (readOp a).op = 1 from rfl), show s.readValue (rowJob s r (readOp a)).session ob (readOp a).addr = (.ok, v, t) from hv]
    rfl
  exact row_plain _ hp (show 0 ≤ 1376 by decide) hcopy hreset _ _ hd

theorem checkOp_write {o : DictOp} (ho : o.addr = a) (h2 : o.op = 2) (hacc : ob.accessAt a = .rw) (hcrit : ob.critical = false)
    (hk : ¬(a.index = 0x1100 ∧ a.sub = 3)) : s.checkOp (rowJob s r o) ob o =
      if o.len ≠ ob.type.size then .badType
      else if 256 ^ ob.type.size ≤ o.value ∨ ob.type.allows o.value = false ∨ ob.permit.allows ob.type o.value = false then .range
      else .ok := by
  subst ho
  rw [checkOp_passed (by rw [checkAccess_plain hp]; simp [h2, hacc, hcrit, hk])]
  simp [h2, hsm]

/-- A customer object is one of the package, and stands at member 1. -/
theorem row_customer {v : Nat} (h1 : 0xC000 ≤ a.index) (h2 : a.index < 0xE000) (hv : v < 2 ^ 512) :
    s.row r { op := 2, addr := a, len := 64, value := v, epoch := 0 } =
      .next (({ s with regs := sparseSet Od.defaultAt s.regs (addrKey a) v } : State).answers s r .ok ob 0) := by
  obtain ⟨rfl, hinst⟩ := object_customer h1 h2 hob
  have hacc : customerObj.accessAt a = .rw := by
    unfold Obj.accessAt
    dsimp only
    rw [if_neg (by omega), if_neg (by omega), if_neg (by omega)]
    rfl
  have hc : s.checkOp (rowJob s r { op := 2, addr := a, len := 64, value := v, epoch := 0 }) customerObj
      { op := 2, addr := a, len := 64, value := v, epoch := 0 } = .ok := by
    refine (checkOp_write hp hob hcopy hreset hsm rfl rfl hacc rfl (by omega)).trans ((if_neg fun h => h rfl).trans (if_neg ?_))
    rintro (h | h | h)
    · exact absurd hv (Nat.not_lt.mpr (Nat.le_trans (Nat.le_of_eq (Nat.pow_mul 2 8 64)) h))
    · exact Bool.noConfusion h
    · exact Bool.noConfusion h
  have hctx : (s.ctxOf (rowJob s r { op := 2, addr := a, len := 64, value := v, epoch := 0 })
      { op := 2, addr := a, len := 64, value := v, epoch := 0 }).addr = a := scoped_low (by rw [hinst]; decide)
  have hd : s.doOp (rowJob s r { op := 2, addr := a, len := 64, value := v, epoch := 0 }) { op := 2, addr := a, len := 64, value := v, epoch := 0 } =
      ({ status := .ok, type := customerObj.type.code, len := 0, value := 0, epoch := 0 },
        { s with regs := sparseSet Od.defaultAt s.regs (addrKey a) v }) := by
    rw [doOp_write hob rfl hc, writeObject_of (by rw [hctx]; exact hcopy), hctx]
    rw [if_neg (by omega), if_neg (by omega), if_neg (by omega), if_neg (by omega), if_neg (by omega), if_neg (by omega), if_neg (by omega),
      if_neg (by omega), if_neg (by omega), if_neg (by omega)]
    unfold State.store
    rw [hctx]
    rfl
  exact row_plain _ hp (show 64 ≤ 1376 by decide) hcopy hreset _ _ hd

omit hcopy hreset in
theorem doOp_writeEpoch {v epoch : Nat} (hacc : ob.accessAt a = .rwe) (hcrit : ob.critical = false) (hv : ob.takes v) :
    s.doOp (rowJob s r { op := 3, addr := a, len := ob.type.size, value := v, epoch := epoch })
        { op := 3, addr := a, len := ob.type.size, value := v, epoch := epoch } =
      (s.writeEpoch (s.ctxOf (rowJob s r { op := 3, addr := a, len := ob.type.size, value := v, epoch := epoch })
          { op := 3, addr := a, len := ob.type.size, value := v, epoch := epoch }) epoch).1.result (s.sessionOf r.session) ob.type.code
        (s.writeEpoch (s.ctxOf (rowJob s r { op := 3, addr := a, len := ob.type.size, value := v, epoch := epoch })
          { op := 3, addr := a, len := ob.type.size, value := v, epoch := epoch }) epoch).2 := by
  generalize ho : ({ op := 3, addr := a, len := ob.type.size, value := v, epoch := epoch } : DictOp) = o
  have h3 : o.op = 3 := by rw [← ho]
  have ha : o.addr = a := by rw [← ho]
  have hval : o.value = v := by rw [← ho]
  have hl : o.len = ob.type.size := by rw [← ho]
  have he : o.epoch = epoch := by rw [← ho]
  have hc : s.checkOp (rowJob s r o) ob o = .ok := by
    rw [checkOp_passed (by rw [checkAccess_plain hp]; simp [h3, ha, hacc, hcrit])]
    simp [h3, hl, hval, Nat.not_le.mpr hv.1, hv.2.1, hv.2.2, hsm]
  unfold State.doOp
  rw [show s.object? (rowJob s r o).session o.addr = some ob by rw [ha]; exact hob]
  dsimp only
  rw [hc]
  dsimp only
  rw [if_neg (by omega), if_neg (by omega), if_pos h3, he]
  rfl

theorem row_writeEpoch_tooLate {v epoch : Nat} (hacc : ob.accessAt a = .rwe) (hcrit : ob.critical = false) (hv : ob.takes v) (hl : ob.type.size ≤ 1376)
    (he : s.resolveEpoch epoch = none) :
    s.row r { op := 3, addr := a, len := ob.type.size, value := v, epoch := epoch } = .next (s.answers s r .tooLate ob 0) := by
  have hd := doOp_writeEpoch hp hob hsm (epoch := epoch) hacc hcrit hv
  rw [writeEpoch_tooLate he] at hd
  exact row_plain _ hp hl hcopy hreset _ _ hd

theorem row_writeEpoch_deferred {v epoch e : Nat} (hacc : ob.accessAt a = .rwe) (hcrit : ob.critical = false) (hv : ob.takes v) (hl : ob.type.size ≤ 1376)
    (he : s.resolveEpoch epoch = some e) (hroom : s.changeRoom = true) (h7 : a.index < 0x7000) (hsw : swapFamily a = none) (h22 : a.index ≠ 0x2200)
    (h38 : ¬(0x3800 ≤ a.index ∧ a.index < 0x380C)) (hsc : s.scoped (s.sessionOf r.session) a = a) (hck : s.checkForwarding a v = .ok) :
    s.row r { op := 3, addr := a, len := ob.type.size, value := v, epoch := epoch } =
      .next ((s.addChange e a v false (s.principal (s.sessionOf r.session))).answers s r .deferred ob (low 32 e)) := by
  obtain ⟨-, -, -, -, h, f, -, -, hs⟩ := hearsPlain_iff.mp hp
  have hd := doOp_writeEpoch hp hob hsm (epoch := epoch) hacc hcrit hv
  have hck' : s.checkEpoch a v e (s.principal (s.sessionOf r.session)) = .ok := by
    unfold State.checkEpoch
    rw [if_neg (by simp [hroom]), hsw]
    dsimp only
    rw [if_neg (by omega), if_neg h22, if_neg (by omega), hck]
  generalize hctx : s.ctxOf (rowJob s r { op := 3, addr := a, len := ob.type.size, value := v, epoch := epoch })
    { op := 3, addr := a, len := ob.type.size, value := v, epoch := epoch } = c at hd
  have hca : c.addr = a := by rw [← hctx]; exact hsc
  have hcv : c.value = v := by rw [← hctx]; rfl
  have hcp : c.principal = s.principal (s.sessionOf r.session) := by rw [← hctx]; rfl
  have hsess : c.session = .pcie (s.fnOf (s.fnOf h f / 4) (s.fnOf h f % 4) / 4) (s.fnOf (s.fnOf h f / 4) (s.fnOf h f % 4) % 4) := by
    rw [← hctx]
    simp [State.ctxOf, rowJob, hs, State.sessionOf]
  have hck2 : byKeeper c.session = false := by rw [hsess]; rfl
  have hcw : c.writer = s.principal (s.sessionOf r.session) := by simp [WriteCtx.writer, hsess, hcp]
  have hw := writeEpoch_resolved (c := c) he
  rw [hca, hck2, yieldEcmp_other (by rw [hsw]; simp), hcv, hcp, hck', hcw] at hw
  dsimp only at hw
  have hcommit : ¬((decide (0x3800 ≤ a.index) && decide (a.index < 0x380C) && decide (a.sub = 6)) = true) := by
    simp only [Bool.and_eq_true, decide_eq_true_eq]
    omega
  rw [if_neg hcommit] at hw
  rw [hw] at hd
  exact row_plain _ hp hl hcopy hreset _ _ hd

theorem row_readPending (hacc : ob.accessAt a = .rwe) : s.row r { op := 4, addr := a, len := 0, value := 0, epoch := 0 } =
    match s.newestPending a with
    | some c => .next (s.emit (.response (s.sessionOf r.session) r.tag .ok ob.type.code (low 32 c.epoch) ob.type.size c.value))
    | none => .next (s.answers s r .state ob 0) := by
  have hc : s.checkOp (rowJob s r { op := 4, addr := a, len := 0, value := 0, epoch := 0 }) ob
      { op := 4, addr := a, len := 0, value := 0, epoch := 0 } = .ok := by
    rw [checkOp_passed (by rw [checkAccess_plain hp]; simp [hacc])]
    simp [hsm]
  have hd : s.doOp (rowJob s r { op := 4, addr := a, len := 0, value := 0, epoch := 0 }) { op := 4, addr := a, len := 0, value := 0, epoch := 0 } =
      match s.newestPending a with
      | some c => ({ status := .ok, type := ob.type.code, len := ob.type.size, value := c.value, epoch := low 32 c.epoch }, s)
      | none => (OpResult.bare .state ob.type.code, s) := by
    unfold State.doOp
    rw [show s.object? (rowJob s r { op := 4, addr := a, len := 0, value := 0, epoch := 0 }).session a = some ob from hob]
    dsimp only
    rw [hc]
    rfl
  cases hn : s.newestPending a with
  | none =>
    rw [hn] at hd
    exact row_plain _ hp (show 0 ≤ 1376 by decide) hcopy hreset _ _ hd
  | some c =>
    rw [hn] at hd
    exact row_plain _ hp (show 0 ≤ 1376 by decide) hcopy hreset _ _ hd
end
end

/-- Settles O16: the object, check 8, check 10, check 11 and then the object's chapter, for each of the four operations. -/
theorem checkOrder : Obligations.CheckOrder := by
  intro s r a hs hp hsm x hx
  subst hx
  refine ⟨fun hob len v epoch hlen => ⟨row_noObject hp (show 0 ≤ 1376 by decide) hob, row_noObject hp hlen hob, row_noObject hp hlen hob,
    row_noObject hp (show 0 ≤ 1376 by decide) hob⟩, fun ob hob hcopy hreset hcrit => ⟨fun hacc => ?_, fun v t hacc hv => ?_, fun len v hlen hacc => ?_,
    fun hacc hk len v hlen => ⟨fun hne => ?_, fun heq hr => ?_, fun h1 h2 heq hv => ?_⟩, fun hacc v epoch hv ht hpm hl => ⟨fun he => ?_,
      fun e he hroom h7 hsw h22 h38 hsc hck => ?_, fun c hc => ?_, fun hc => ?_⟩⟩⟩
  · exact row_denied hp hob hcopy hreset (o := readOp a) rfl (show 0 ≤ 1376 by decide) (by rw [checkAccess_plain hp]; simp [readOp, hacc])
  · exact row_read hp hob hcopy hreset hsm hacc hv
  · exact row_denied hp hob hcopy hreset (o := { op := 2, addr := a, len := len, value := v, epoch := 0 }) rfl hlen
      (by rw [checkAccess_plain hp]; rcases hacc with h | h <;> simp [h])
  · exact row_refused hp hob hcopy hreset (o := { op := 2, addr := a, len := len, value := v, epoch := 0 }) rfl hlen
      ((checkOp_write hp hob hcopy hreset hsm rfl rfl hacc hcrit hk).trans (if_pos hne)) (by decide)
  · exact row_refused hp hob hcopy hreset (o := { op := 2, addr := a, len := len, value := v, epoch := 0 }) rfl hlen
      ((checkOp_write hp hob hcopy hreset hsm rfl rfl hacc hcrit hk).trans (by rw [if_neg (not_not_intro heq), if_pos (.inr (.inr hr))])) (by decide)
  · subst heq
    exact row_customer hp hob hcopy hreset hsm h1 h2 hv
  · exact row_writeEpoch_tooLate hp hob hcopy hreset hsm hacc hcrit ⟨hv, ht, hpm⟩ hl he
  · exact row_writeEpoch_deferred hp hob hcopy hreset hsm hacc hcrit ⟨hv, ht, hpm⟩ hl he hroom h7 hsw h22 h38 hsc hck
  · exact (row_readPending hp hob hcopy hreset hsm hacc).trans (by rw [hc])
  · exact (row_readPending hp hob hcopy hreset hsm hacc).trans (by rw [hc])
end Sys2Proof.Machine
end

section
namespace Sys2Proof.Machine

/-! EVC_CLAIM in a package whose host interfaces are paired. -/

/-- A waiting event whose record names vector 0 of function 0 of interface 1. -/
def farVectorSource : EventSource :=
  { enable := true, wake := false, priority := 0x80, targetKind := 2, target := 1024, state := 1, lost := 0, takenKind := 0, takenBy := 0 }

/-- Host-ready with paired interfaces, where the vectors of interface 1 are those of the functions of the pair. -/
def pairedWaiting : State := ((State.reset.wr Od.bootStage 2).wr Od.pciePairing 1).setSource 0x100 farVectorSource

theorem pairedWaiting_best : pairedWaiting.sound = true ∧ pairedWaiting.hearsPlain plainReq = true ∧ pairedWaiting.smoulder = false ∧
    pairedWaiting.bestMasked (pairedWaiting.fnOf 0 0) = some (0x100, farVectorSource) := by
  decide +kernel

/-- The vector that source 0x100 is active for after a step. -/
def Answer.takenBy : Answer → Nat
  | .next t => (t.source 0x100).takenBy
  | _ => 0

theorem Answer.takenBy_emit (t : State) (o : Out) : Answer.takenBy (.next (t.emit o)) = (t.source 0x100).takenBy := rfl

theorem pairedWaiting_claim : Answer.takenBy (exec (.evcClaim plainReq) pairedWaiting) = 0 := by decide +kernel

theorem pairedWaiting_activate : ((pairedWaiting.activate 0x100 2 1024).source 0x100).takenBy = 1024 := by decide +kernel

/-- Refutes O17: in a paired package EVC_CLAIM activates the event for the pair's vector, not for the one that its record names. -/
theorem not_eventRows : ¬ Obligations.EventRows := by
  intro h
  obtain ⟨hs, hp, hsm, hbest⟩ := pairedWaiting_best
  have hclaim := (h pairedWaiting plainReq 0 0 0 hs hp hsm rfl _ _ rfl rfl).1 0x100 farVectorSource hbest
  have htaken := congrArg Answer.takenBy hclaim
  rw [pairedWaiting_claim, Answer.takenBy_emit, farVectorSource, pairedWaiting_activate] at htaken
  exact absurd htaken (by decide)
end Sys2Proof.Machine
end

section
namespace Sys2Proof.Machine
section
variable {s : State} {r : Req} {h f q v : Nat}

/-! WQ_ENABLE and CQ_ENABLE of the function that asks. -/

theorem class_wq (hq : q < 1024) : InstKind.ofInst (0x2000 + q) = .wq := by
  have hm : (0x2000 + q) % 65536 = 0x2000 + q := Nat.mod_eq_of_lt (by omega)
  simp only [InstKind.ofInst, hm]
  rw [if_neg (by omega), if_neg (by omega), if_neg (by omega), if_neg (by omega), if_pos (by omega)]

theorem class_cq (hq : q < 1024) : InstKind.ofInst (0x2400 + q) = .cq := by
  have hm : (0x2400 + q) % 65536 = 0x2400 + q := Nat.mod_eq_of_lt (by omega)
  simp only [InstKind.ofInst, hm]
  rw [if_neg (by omega), if_neg (by omega), if_neg (by omega), if_neg (by omega), if_neg (by omega), if_pos (by omega)]

/-- A write without a key of an object of a queue, by a function of the host. -/
theorem row_queueObject {c : InstClass} {ob : Obj} {inst i b : Nat} (ho : PlainObject c ob i b) (hc : c = .wq ∨ c = .cq) (hcl : InstKind.ofInst inst = c)
    (hi : inst < 65536) (hp : s.hearsPlain r = true) (hsm : s.smoulder = false) (hv : ob.takes v) {st : Status} {u : State} (hst : st ≠ .resourceBusy)
    (hw : s.writeObject (s.plainCtx r (writeOp ⟨inst, i, b⟩ v)) = { status := st, state := u, record := 0 }) :
    s.row r (writeOp ⟨inst, i, b⟩ v) = .next (u.answers s r st ob 0) := by
  obtain ⟨-, -, -, -, x, y, -, -, hsess⟩ := hearsPlain_iff.mp hp
  have hns : ¬(0xA200 ≤ i ∧ i < 0xA300) := by
    have := ho.notSource
    omega
  have hclass : instClassOf ⟨inst, i, b⟩ = c := (if_neg hns).trans hcl
  have hob : s.object? (s.sessionOf r.session) ⟨inst, i, b⟩ = some ob := by
    have hpres : s.instPresent (s.sessionOf r.session) ob inst = true := by
      unfold State.instPresent
      rw [hsess, hcl]
      rcases hc with rfl | rfl <;> rfl
    unfold State.object?
    rw [if_neg (show ¬(65536 ≤ inst ∨ 65536 ≤ i ∨ 256 ≤ b) by have := ho.index; have := ho.sub; omega), hclass, ho.stands]
    dsimp only
    rw [if_pos ⟨hpres, memberAbsent_of_kept _ ho.kept⟩]
  have hdef : definedAt ⟨inst, i, b⟩ = some ob := by
    unfold definedAt
    rw [hclass, ho.stands]
  exact row_good ⟨inst, i, b⟩ v ob u hp (.inl hsm) hdef hob ho.plain ho.access ho.noKey ho.noReset ho.noCopy ho.size hv.1 hv.2.1 hv.2.2 st hst 0 hw

/-- A queue's object is that of the function that asks. -/
theorem plainCtx_queue {inst i b : Nat} (hr : r.session = .pcie h f) (hf : f < 4) (hi : 0x2000 ≤ inst) (hi' : inst < 0x3000) :
    (s.plainCtx r (writeOp ⟨inst, i, b⟩ v)).addr = ⟨s.fnOf h f * 65536 + inst, i, b⟩ := by
  have hfn := fnOf_fnOf (s := s) (h := h) hf
  simp [State.plainCtx, State.ctxOf, rowJob, hr, State.sessionOf, State.scoped, hi, hi', hfn]

theorem plainCtx_session (hr : r.session = .pcie h f) (hf : f < 4) (a : Address) :
    (s.plainCtx r (writeOp a v)).session = .pcie (s.fnOf h f / 4) (s.fnOf h f % 4) := by
  have hfn := fnOf_fnOf (s := s) (h := h) hf
  simp [State.plainCtx, State.ctxOf, rowJob, hr, State.sessionOf, hfn]

theorem wqEnable_plain : PlainObject .wq Od.wqEnable 0xA010 5 := .of (by decide +kernel)
theorem cqEnable_plain : PlainObject .cq Od.cqEnable 0xA020 5 := .of (by decide +kernel)
theorem poolEnable_plain {k : Nat} (hk : k < 64) : PlainObject .package Od.poolEnable (0x6100 + k) 5 := by
  have hall : ∀ k < 64, plainObject .package Od.poolEnable (0x6100 + k) 5 = true := by decide +kernel
  exact .of (hall k hk)

theorem writeObject_wqEnable {c : WriteCtx} {fn : Nat} (ha : c.addr = ⟨fn * 65536 + (0x2000 + q), 0xA010, 5⟩) (hq : q < 1024) :
    s.writeObject c = s.enableWq c fn q := by
  have h1 : (fn * 65536 + (0x2000 + q)) / 65536 = fn := by omega
  have h2 : (0x2000 + q) % 65536 - 0x2000 = q := by omega
  rw [writeObject_of (by rw [ha]; rfl)]
  simp [ha, State.writeRings, State.writeWq, h1, h2]

theorem writeObject_cqEnable {c : WriteCtx} {fn : Nat} (ha : c.addr = ⟨fn * 65536 + (0x2400 + q), 0xA020, 5⟩) (hq : q < 1024) :
    s.writeObject c = s.enableCq c fn q := by
  have h1 : (fn * 65536 + (0x2400 + q)) / 65536 = fn := by omega
  have h2 : (0x2400 + q) % 65536 - 0x2400 = q := by omega
  rw [writeObject_of (by rw [ha]; rfl)]
  simp [ha, State.writeRings, State.writeCq, h1, h2]

theorem writeObject_poolEnable {c : WriteCtx} {k : Nat} (ha : c.addr = ⟨0, 0x6100 + k, 5⟩) (hk : k < 64) : s.writeObject c = s.enablePool c k := by
  have hcopy : copyFamilyOf ⟨0, 0x6100 + k, 5⟩ = none := by simp [copyFamilyOf]
  have hparse : parserObj (0x6100 + k) 5 = none := by
    unfold parserObj
    rw [if_neg (by omega), if_neg (by omega), if_neg (by omega)]
  have hf : s.writeForwarding c = s.writeQueues c := by
    unfold State.writeForwarding
    simp only [ha]
    rw [hparse]
    dsimp only
    rw [if_neg (by omega), if_neg (by omega), if_neg (by omega), if_neg (by omega), if_neg (by omega), if_neg (by omega), if_neg (by omega),
      if_neg (by omega), if_neg (by omega), if_pos (by omega)]
  have hq : s.writeQueues c = s.writePool c := by
    unfold State.writeQueues
    simp only [ha]
    rw [if_neg (by omega), if_pos (by omega)]
  rw [writeObject_of (by rw [ha]; exact hcopy), ha]
  dsimp only
  rw [if_neg (by omega), if_neg (by omega), if_neg (by omega), if_pos (by omega), hf, hq]
  simp [State.writePool, ha]

/-! What enabling and disabling do, by the state of the queue or pool. -/

variable {c : WriteCtx} {fn : Nat}

theorem wq_wr (o : Obj) (v inst k : Nat) : (s.wr o v inst k).wq fn q = s.wq fn q := rfl

theorem enableWq_start (hv : c.value = 1) (h0 : s.rd Od.wqState (wqInst fn q) = 0) (hcq : s.rd Od.cqState (cqInst fn (s.rd Od.wqCq (wqInst fn q))) = 1)
    (hk : s.rd Od.cqKind (cqInst fn (s.rd Od.wqCq (wqInst fn q))) = 0) : s.enableWq c fn q =
      .good (((s.wr Od.wqEnable 1 (wqInst fn q)).setWq fn q { s.wq fn q with fetch := s.rd Od.wqCi (wqInst fn q), doneTo := s.rd Od.wqCi (wqInst fn q) }).wr
        Od.wqState 1 (wqInst fn q)) := by
  unfold State.enableWq
  dsimp only
  rw [if_pos hv, if_pos h0, if_neg (by simp [hcq, hk]), hv, wq_wr]

theorem enableWq_wait (hv : c.value = 1) (h2 : s.rd Od.wqState (wqInst fn q) = 2) : s.enableWq c fn q =
    { WriteRes.good ((s.wr Od.wqEnable 1 (wqInst fn q)).wr Od.wqState 3 (wqInst fn q)) with status := .deferred } := by
  unfold State.enableWq
  dsimp only
  rw [if_pos hv, if_neg (by omega), if_neg (by omega), hv]

theorem breakChain_none (h : (s.wq fn q).chain = none) : s.breakChain fn q = s := by
  unfold State.breakChain
  dsimp only
  rw [h]

theorem enableWq_drain (hv : c.value = 0) (h1 : s.rd Od.wqState (wqInst fn q) = 1) (hch : (s.wq fn q).chain = none) (hin : (s.wq fn q).inflight ≠ []) :
    s.enableWq c fn q = .good ((s.wr Od.wqEnable 0 (wqInst fn q)).wr Od.wqState 2 (wqInst fn q)) := by
  unfold State.enableWq
  dsimp only
  rw [if_neg (by omega), if_pos h1, breakChain_none (s := s.wr _ _ _) hch, wq_wr, wq_wr, if_neg hin, hv]

theorem enableCq_start (hv : c.value = 1) (h0 : s.rd Od.cqState (cqInst fn q) = 0) (hk : s.rd Od.cqKind (cqInst fn q) ≠ 1) : s.enableCq c fn q =
    .good ((((s.wr Od.cqEnable 1 (cqInst fn q)).wr Od.cqPi 0 (cqInst fn q)).wr Od.cqCi 0 (cqInst fn q)).wr Od.cqState 1 (cqInst fn q)) := by
  unfold State.enableCq
  dsimp only
  rw [if_neg (by omega), if_pos hv, if_neg (by simp [hk]), hv]

theorem enableCq_unused (hv : c.value = 0) (h1 : s.rd Od.cqState (cqInst fn q) = 1)
    (hw : ∀ w < 1024, s.rd Od.wqCq (wqInst fn w) = q → s.rd Od.wqState (wqInst fn w) = 0) (hh : (s.cq fn q).hold = []) (hr : (s.cq fn q).reports = [])
    (hn : s.cqNamed fn q = false) : s.enableCq c fn q = .good ((s.wr Od.cqEnable 0 (cqInst fn q)).wr Od.cqState 0 (cqInst fn q)) := by
  have hany : ((List.range 1024).any fun w => s.rd Od.wqCq (wqInst fn w) = q && decide (s.rd Od.wqState (wqInst fn w) ≠ 0)) = false := by
    rw [List.any_eq_false]
    intro w hw'
    have := hw w (List.mem_range.mp hw')
    simpa using this
  unfold State.enableCq
  dsimp only
  rw [if_neg (by omega), if_neg (by omega), if_neg (by simp only [hany, hh, hr, hn]; simp), hv]

theorem enablePool_on {k h' f' : Nat} (hv : c.value = 1) (hsess : c.session = .pcie h' f') : s.enablePool c k = s.poolOn k (fnKey h' f') := by
  unfold State.enablePool
  rw [if_neg (by simp [hv]), hsess]

theorem poolOn_start {k : Nat} (h0 : s.rd Od.poolState 0 k = 0) (hc : s.rd Od.poolCount 0 k ≠ 0) (hfit : s.poolFits k = true) :
    s.poolOn k fn = .good (((s.wr Od.poolEnable 1 0 k).wr Od.poolState 1 0 k).wr Od.poolFunction fn 0 k) := by
  unfold State.poolOn
  dsimp only
  rw [if_pos h0, if_neg hc, if_neg (by simp [hfit])]

theorem poolOn_wait {k : Nat} (h2 : s.rd Od.poolState 0 k = 2) :
    s.poolOn k fn = { WriteRes.good (((s.wr Od.poolEnable 1 0 k).wr Od.poolState 3 0 k).setEnabling k fn) with status := .deferred } := by
  unfold State.poolOn
  dsimp only
  rw [if_neg (by omega), if_neg (by omega), if_pos h2]

theorem enablePool_off {k : Nat} (hv : c.value = 0) (h1 : s.rd Od.poolState 0 k = 1) :
    s.enablePool c k = .good ((((s.wr Od.poolEnable 0 0 k).wr Od.poolState 2 0 k).dropWaits k).settlePool k) := by
  unfold State.enablePool State.poolOff
  dsimp only
  rw [if_pos (by omega), if_pos h1]

theorem takes_bit {ob : Obj} (ht : ob.type = .bool) (hp : ob.permit = .span 0 1) (h : v ≤ 1) : ob.takes v := by
  refine ⟨?_, ?_, ?_⟩ <;> rw [ht]
  · exact (by omega : v < 256)
  · simpa [ObjType.allows] using h
  · rw [hp]
    simpa [Permit.allows] using h

theorem poolEnable_at (k : Nat) : Obj.at_ Od.poolEnable 0 k = ⟨0, 0x6100 + k, 5⟩ := by simp [Obj.at_, Od.poolEnable, Nat.mod_one]

end

/-- Settles O18: the chapter of the queue or the pool acts by the state it is in. -/
theorem queueEnables : Obligations.QueueEnables := by
  intro s r h f q hs hp hsm hr hq fn hfn
  obtain ⟨-, -, -, -, h', f', -, hf, hr'⟩ := hearsPlain_iff.mp hp
  obtain ⟨rfl, rfl⟩ : h' = h ∧ f' = f := by simpa [hr'] using hr
  have hwq : ∀ v, (s.plainCtx r (writeOp ⟨0x2000 + q, 0xA010, 5⟩ v)).addr = ⟨fn * 65536 + (0x2000 + q), 0xA010, 5⟩ := fun v => by
    rw [hfn]
    exact plainCtx_queue hr hf (by omega) (by omega)
  have hcq : ∀ v, (s.plainCtx r (writeOp ⟨0x2400 + q, 0xA020, 5⟩ v)).addr = ⟨fn * 65536 + (0x2400 + q), 0xA020, 5⟩ := fun v => by
    rw [hfn]
    exact plainCtx_queue hr hf (by omega) (by omega)
  refine ⟨fun h0 h1 hk => ?_, fun h1 hch hin => ?_, fun h2 => ?_, fun h0 hk => ?_, fun h1 hw hh hre hn => ?_, fun k hk => ⟨fun h0 hc hfit => ?_, fun h2 => ?_, fun h1 => ?_⟩⟩
  · exact row_queueObject wqEnable_plain (.inl rfl) (class_wq hq) (by omega) hp hsm (takes_bit rfl rfl (by decide)) (by decide)
      ((writeObject_wqEnable (hwq 1) hq).trans (enableWq_start rfl h0 h1 hk))
  · exact row_queueObject wqEnable_plain (.inl rfl) (class_wq hq) (by omega) hp hsm (takes_bit rfl rfl (by decide)) (by decide)
      ((writeObject_wqEnable (hwq 0) hq).trans (enableWq_drain rfl h1 hch hin))
  · exact row_queueObject wqEnable_plain (.inl rfl) (class_wq hq) (by omega) hp hsm (takes_bit rfl rfl (by decide)) (by decide)
      ((writeObject_wqEnable (hwq 1) hq).trans (enableWq_wait rfl h2))
  · exact row_queueObject cqEnable_plain (.inr rfl) (class_cq hq) (by omega) hp hsm (takes_bit rfl rfl (by decide)) (by decide)
      ((writeObject_cqEnable (hcq 1) hq).trans (enableCq_start rfl h0 hk))
  · exact row_queueObject cqEnable_plain (.inr rfl) (class_cq hq) (by omega) hp hsm (takes_bit rfl rfl (by decide)) (by decide)
      ((writeObject_cqEnable (hcq 0) hq).trans (enableCq_unused rfl h1 hw hh hre hn))
  all_goals
    have hpl : Placed s ⟨0, 0x6100 + k, 5⟩ Od.poolEnable := placed_package (poolEnable_plain hk).toStands
    have hsess : ∀ v, (s.plainCtx r (writeOp ⟨0, 0x6100 + k, 5⟩ v)).session = .pcie (fn / 4) (fn % 4) := fun v => hfn ▸ plainCtx_session hr hf _
    have hkey : fnKey (fn / 4) (fn % 4) = fn := Nat.div_add_mod' fn 4
  · show s.row r (writeOp (Obj.at_ Od.poolEnable 0 k) 1) = _
    rw [poolEnable_at]
    refine row_plainObject (poolEnable_plain hk) hpl hp (.inl hsm) (takes_bit rfl rfl (by decide)) (rec := 0) (by decide)
      ((writeObject_poolEnable (plainCtx_addr (by decide)) hk).trans ((enablePool_on rfl (hsess 1)).trans ?_))
    rw [hkey]
    exact poolOn_start h0 hc hfit
  · show s.row r (writeOp (Obj.at_ Od.poolEnable 0 k) 1) = _
    rw [poolEnable_at]
    refine row_plainObject (poolEnable_plain hk) hpl hp (.inl hsm) (takes_bit rfl rfl (by decide)) (rec := 0) (by decide)
      ((writeObject_poolEnable (plainCtx_addr (by decide)) hk).trans ((enablePool_on rfl (hsess 1)).trans ?_))
    rw [hkey]
    exact poolOn_wait h2
  · show s.row r (writeOp (Obj.at_ Od.poolEnable 0 k) 0) = _
    rw [poolEnable_at]
    exact row_plainObject (poolEnable_plain hk) hpl hp (.inl hsm) (takes_bit rfl rfl (by decide)) (rec := 0) (by decide)
      ((writeObject_poolEnable (plainCtx_addr (by decide)) hk).trans (enablePool_off rfl h1))
end Sys2Proof.Machine
end

section
namespace Sys2Proof.Machine
section
variable {s t : State} {cause detail n : Nat}

/-! The register file after a reset of the engine: the NVS image, the fuses, the wear registers and the cause. -/

theorem sparseGet_absent {α : Type} (dflt : Nat → α) {m : Sparse α} {k : Nat} (h : ∀ e ∈ m, e.1 ≠ k) : sparseGet dflt m k = dflt k := by
  induction m with
  | nil => rfl
  | cons e m ih =>
    have he : e.1 ≠ k := h e List.mem_cons_self
    have hm : sparseGet dflt m k = dflt k := ih fun x hx => h x (List.mem_cons_of_mem _ hx)
    simp only [sparseGet, sparseFind?, he, if_false] at hm ⊢
    split
    · rfl
    · exact hm

theorem resetRegs_at (hs : s.sound = true) (j : Nat) : sparseGet Od.defaultAt (s.resetRegs cause detail) j =
    if Od.resetCount.key 0 0 = j then low 32 (s.rd Od.resetCount + 1)
    else if Od.resetCauseDetail.key 0 0 = j then detail
    else if Od.resetCause.key 0 0 = j then cause
    else if Od.wearRetired.key 0 0 = j then s.rd Od.wearRetired
    else if Od.wearForecast.key 0 0 = j then s.rd Od.wearForecast
    else if Od.fusedSvn.key 0 0 = j then s.rd Od.fusedSvn
    else sparseGet Od.defaultAt s.dict.bestNvs.objects j := by
  have hb := Keeps.bestNvs_sound hs
  simp only [NvsBody.sound, Bool.and_eq_true] at hb
  have h0 := hb.1
  have rising : ∀ {m : Sparse Nat}, sparseWf Od.defaultAt m = true → sparseRising none m = true := fun h => (Bool.and_eq_true_iff.mp h).1
  have h1 := sparseWf_set _ _ (Od.fusedSvn.key 0 0) (s.rd Od.fusedSvn) h0
  have h2 := sparseWf_set _ _ (Od.wearForecast.key 0 0) (s.rd Od.wearForecast) h1
  have h3 := sparseWf_set _ _ (Od.wearRetired.key 0 0) (s.rd Od.wearRetired) h2
  have h4 := sparseWf_set _ _ (Od.resetCause.key 0 0) cause h3
  have h5 := sparseWf_set _ _ (Od.resetCauseDetail.key 0 0) detail h4
  unfold State.resetRegs
  rw [sparseGet_set _ _ _ _ _ (rising h5), sparseGet_set _ _ _ _ _ (rising h4), sparseGet_set _ _ _ _ _ (rising h3), sparseGet_set _ _ _ _ _ (rising h2),
    sparseGet_set _ _ _ _ _ (rising h1), sparseGet_set _ _ _ _ _ (rising h0)]

/-- What a reset of the engine leaves, in any state. -/
theorem engineReset_after (hs : s.sound = true) : AfterReset s cause detail (low 32 (s.rd Od.resetCount + 1)) (s.engineReset cause detail) := by
  have hat : ∀ j, sparseGet Od.defaultAt (s.engineReset cause detail).regs j = _ := resetRegs_at hs
  have hb := Keeps.bestNvs_sound hs
  simp only [NvsBody.sound, Bool.and_eq_true, List.all_eq_true] at hb
  refine ⟨(hat _).trans ?_, (hat _).trans ?_, (hat _).trans ?_, (hat _).trans ?_, fun j hj hw => (hat _).trans ?_, fun j hj => (hat _).trans ?_,
    ⟨rfl, rfl, rfl⟩, ⟨rfl, rfl, rfl, rfl⟩, ⟨rfl, rfl, rfl, rfl⟩, ⟨rfl, rfl, rfl, rfl, rfl⟩, ⟨rfl, rfl, rfl⟩, ⟨rfl, rfl, rfl, rfl⟩, ⟨rfl, rfl, rfl, rfl⟩⟩
  · rw [if_neg (by decide), if_neg (by decide), if_pos rfl]
  · rw [if_neg (by decide), if_pos rfl]
  · rw [if_pos rfl]
  · rw [if_neg (by decide), if_neg (by decide), if_neg (by decide), if_neg (by decide), if_neg (by decide), if_pos rfl]
  · simp only [resetWrites, List.map_cons, List.map_nil, List.mem_cons, List.not_mem_nil, or_false, not_or] at hw
    obtain ⟨h1, h2, h3, h4, h5, h6⟩ := hw
    rw [if_neg (Ne.symm h6), if_neg (Ne.symm h5), if_neg (Ne.symm h4), if_neg (Ne.symm h3), if_neg (Ne.symm h2), if_neg (Ne.symm h1)]
    refine sparseGet_absent _ fun e he hej => ?_
    have := hb.2 e he
    rw [hej, hj] at this
    exact Bool.noConfusion this
  · have hne : ∀ o : Obj, nvRegister (o.key 0 0) = false → o.key 0 0 ≠ j := fun o ho h => by
      rw [h, hj] at ho
      exact Bool.noConfusion ho
    rw [if_neg (hne _ (by decide)), if_neg (hne _ (by decide)), if_neg (hne _ (by decide)), if_neg (hne _ (by decide)), if_neg (hne _ (by decide)),
      if_neg (hne _ (by decide))]

/-- JTAG, the rails and the pins of the boot hold nothing that a reset promises. -/
theorem AfterReset.shell (h : AfterReset s cause detail n t) (j : Jtag) (b : Boot) (p : Power) :
    AfterReset s cause detail n { t with jtag := j, boot := b, power := p } :=
  ⟨h.cause, h.detail, h.count, h.fuses, h.volatile, h.nonVolatile, h.copies, h.sessions, h.time, h.data, h.host, h.faults, h.kept⟩

theorem AfterReset.ofShell {j : Jtag} {b : Boot} {p : Power} (h : AfterReset { s with jtag := j, boot := b, power := p } cause detail n t) :
    AfterReset s cause detail n t :=
  ⟨h.cause, h.detail, h.count, h.fuses, h.volatile, h.nonVolatile, h.copies, h.sessions, h.time, h.data, h.host, h.faults, h.kept⟩

/-- What the registers that a reset writes hold after one more write of RESET_COUNT. -/
theorem AfterReset.setCount (h : AfterReset s cause detail n t) (ht : t.sound = true) (v : Nat) :
    AfterReset s cause detail v (t.wr Od.resetCount v) := by
  simp only [State.sound, sparseWf, Bool.and_eq_true] at ht
  have hat := fun j => State.regs_wr (s := t) Od.resetCount v 0 0 j ht.1.1.1.1
  refine ⟨(hat _).trans ?_, (hat _).trans ?_, (hat _).trans ?_, (hat _).trans ?_, fun j hj hw => (hat _).trans ?_, fun j hj => (hat _).trans ?_,
    h.copies, h.sessions, h.time, h.data, h.host, h.faults, h.kept⟩
  · rw [if_neg (by decide)]
    exact h.cause
  · rw [if_neg (by decide)]
    exact h.detail
  · exact if_pos rfl
  · rw [if_neg (by decide)]
    exact h.fuses
  · rw [if_neg, h.volatile j hj hw]
    rintro rfl
    exact hw (by decide)
  · rw [if_neg, h.nonVolatile j hj]
    rintro rfl
    exact absurd hj (by decide)

/-- A trip leaves its cause, with LAMP_STATE showing FAULT. -/
theorem AfterReset.lampFault (h : AfterReset s cause detail n t) (ht : t.sound = true) {u : State} (hu : u.regs = (t.wr Od.lampState 3).regs)
    (hr : u.recov = { t.recov with lampRunning := false }) : u.rd Od.resetCause = cause ∧ u.rd Od.resetCauseDetail = detail ∧
      u.rd Od.resetCount = n ∧ u.rd Od.lampState = 3 ∧ u.recov.trip = false ∧ u.recov.lampRunning = false := by
  have hrd : ∀ o, u.rd o = (t.wr Od.lampState 3).rd o := fun o => by rw [State.rd, State.rd, hu]
  have hne : ∀ o : Obj, Od.lampState.key 0 0 ≠ o.key 0 0 → u.rd o = t.rd o := fun o ho => (hrd o).trans (State.rd_wr_ne ht ho)
  rw [hr]
  exact ⟨(hne Od.resetCause (by decide)).trans h.cause, (hne Od.resetCauseDetail (by decide)).trans h.detail,
    (hne Od.resetCount (by decide)).trans h.count, (hrd _).trans (State.rd_wr_same ht Od.lampState 3 0 0), h.faults.2.2.2, rfl⟩

theorem engineReset_sound (hs : s.sound = true) : (s.engineReset cause detail).sound = true :=
  ((Keeps.refl s).engineReset cause detail).sound hs

theorem AfterReset.extestDrive (hs : s.sound = true) (he : s.extest = false) (ir v : Nat) :
    AfterReset s 4 0 (low 32 (s.rd Od.resetCount + 1)) (s.extestDrive ir v) ∧ (s.extestDrive ir v).jtag.ir = ir ∧
      (s.extestDrive ir v).jtag.boundary = v ∧ (s.extestDrive ir v).boot.held = true := by
  unfold State.extestDrive
  rw [if_neg (by simp [he])]
  exact ⟨(engineReset_after hs).shell _ _ _, rfl, rfl, rfl⟩

end

/-- A command that stops with the engine runs while it does not. -/
theorem running_live {s : State} (h : s.stopped = false) (t : State) : running s t = .next t := by
  rw [running_eq, h]
  rfl

/-- Settles O19: each of the resets is a reset of the engine with its cause, in a state that differs from it in the pins alone. -/
theorem engineResets : Obligations.EngineResets := by
  intro s hs again hagain
  subst hagain
  refine ⟨fun us hus ht => ⟨_, (if_neg (Nat.not_lt.mpr hus)).trans (if_neg (by simp [ht])), engineReset_after hs⟩, fun us hus ht => ?_, fun us hus => if_pos hus,
    fun hst hdue => ⟨_, (running_live hst _).trans (congrArg _ (if_pos hdue)), engineReset_after hs⟩,
    ⟨_, rfl, AfterReset.ofShell (p := s.power) (engineReset_after (s := s.selectIr 0x0C02) hs)⟩,
    fun v he => ⟨⟨_, rfl, AfterReset.extestDrive hs he 3 v⟩, ⟨_, rfl, AfterReset.extestDrive hs he 4 v⟩, ⟨_, rfl, AfterReset.extestDrive hs he 5 v⟩⟩,
    fun hp => ?_, fun rail hr he => ?_⟩
  · refine ⟨_, (if_neg (Nat.not_lt.mpr hus)).trans (if_pos ht), ?_⟩
    refine (engineReset_after hs).lampFault (engineReset_sound hs) ?_ ?_
    · dsimp only
    · rfl
  · have hcount := (engineReset_after (cause := 0) (detail := 0) hs).setCount (engineReset_sound hs) 1
    refine ⟨_, rfl, ?_⟩
    rw [if_neg (by simp [hp])]
    exact ⟨hcount.shell _ _ _, rfl, rfl⟩
  · have hin : s.power.railsOut.contains rail = true := by simp [hr]
    have hleft : s.power.railsOut.filter (· ≠ rail) = [] := by simp [hr]
    refine ⟨_, (if_neg (by rw [hin]; decide)).trans (if_neg (not_not_intro hleft)), ?_, ?_⟩
    · exact (AfterReset.ofShell (j := s.jtag) (b := s.boot) (engineReset_after (cause := 0) (detail := 0)
        (s := { s with power := { s.power with railsOut := s.power.railsOut.filter (· ≠ rail) } }) hs)).shell _ _ _
    · exact he
end Sys2Proof.Machine
end

section
namespace Sys2Proof.Machine

-- One evaluation of the model at a time.
set_option Elab.async false

/-! A provisioning that neither NVS copy keeps, where the fault that it raises resets the engine. -/

/-- Host-ready, with no NVS copy writable and the reset reaction set for a corrected error of source 0x15. FAULT_REACTION refuses such a value (R402), but the
statement is about every state. -/
def resetOnNvsFault : State :=
  let s := (State.reset.wr Od.bootStage 2).wr Od.faultReaction (8 * 256) 0 0x15
  { s with dict := { s.dict with nvs0 := { s.dict.nvs0 with writable := false }, nvs1 := { s.dict.nvs1 with writable := false } } }

theorem resetOnNvsFault_serves : resetOnNvsFault.stopped = false ∧ resetOnNvsFault.power.railsOut = [] ∧ resetOnNvsFault.hostUp = true ∧
    resetOnNvsFault.smoulder = false ∧ resetOnNvsFault.dict.live.security = 0 := by
  decide +kernel

/-- The keys that the live store holds after a step. -/
def Answer.liveKeys : Answer → Sparse KeySlot
  | .next t => t.dict.live.keys
  | _ => []

theorem resetOnNvsFault_loses : Answer.liveKeys (exec (.jtagProvisionKey 0 5) resetOnNvsFault) = [] := by decide +kernel

/-- Refutes O20: where no NVS copy is writable and the fault's reaction resets the engine, PROVISION of the key leaves the key store of the old image. -/
theorem not_jtagRows : ¬ Obligations.JtagRows := by
  intro h
  obtain ⟨hst, hr, hup, hsm, hsec⟩ := resetOnNvsFault_serves
  obtain ⟨-, -, -, -, -, hkey, -⟩ := h resetOnNvsFault _ rfl
  obtain ⟨t, ht, -, -, hkeys, -⟩ := hkey hst hr hup hsm hsec 5 (by decide)
  have hlost := resetOnNvsFault_loses
  rw [ht] at hlost
  have hput : sparseFind? t.dict.live.keys 1 = some { key := 5, state := 1 } := by
    rw [hkeys, sparseFind?_put, if_pos rfl]
  rw [show t.dict.live.keys = [] from hlost] at hput
  exact absurd hput (by decide)
end Sys2Proof.Machine
end

section
namespace Sys2Proof.Machine
section
variable {s t : State}

/-! Registers after a chain of writes. -/

theorem State.rd_wr (hs : s.sound = true) (o o' : Obj) (v inst k inst' k' : Nat) :
    (s.wr o v inst k).rd o' inst' k' = if o.key inst k = o'.key inst' k' then v else s.rd o' inst' k' := by
  split
  · rename_i h
    have he : (s.wr o v inst k).rd o' inst' k' = (s.wr o v inst k).rd o inst k := by rw [State.rd, State.rd, h]
    rw [he, State.rd_wr_same hs]
  · rename_i h
    exact State.rd_wr_ne hs h

theorem State.sound_wr (hs : s.sound = true) (o : Obj) (v inst k : Nat) : (s.wr o v inst k).sound = true := ((Keeps.refl s).wr o v inst k).sound hs

/-- Two states with one register file read alike. -/
theorem State.rd_congr (h : t.regs = s.regs) (o : Obj) (inst k : Nat) : t.rd o inst k = s.rd o inst k := by rw [State.rd, State.rd, h]

theorem State.wr_regs_congr (h : t.regs = s.regs) (o : Obj) (v inst k : Nat) : (t.wr o v inst k).regs = (s.wr o v inst k).regs := by
  rw [State.wr_regs, State.wr_regs, h]

/-- Writes of registers of the package, in their order. -/
def State.wrAll (s : State) (l : List (Obj × Nat)) : State := l.foldl (fun a e => a.wr e.1 e.2) s

theorem State.wrAll_sound (hs : s.sound = true) (l : List (Obj × Nat)) : (s.wrAll l).sound = true := by
  induction l generalizing s with
  | nil => exact hs
  | cons e l ih => exact ih (State.sound_wr hs e.1 e.2 0 0)

/-- A register that is not written keeps its value. -/
theorem State.wrAll_rd_other (hs : s.sound = true) {l : List (Obj × Nat)} {o : Obj} {inst k : Nat} (h : ∀ e ∈ l, e.1.key 0 0 ≠ o.key inst k) :
    (s.wrAll l).rd o inst k = s.rd o inst k := by
  induction l generalizing s with
  | nil => rfl
  | cons e l ih =>
    have hrest : (s.wrAll (e :: l)).rd o inst k = (s.wr e.1 e.2).rd o inst k := ih (State.sound_wr hs e.1 e.2 0 0) fun x hx => h x (List.mem_cons_of_mem _ hx)
    rw [hrest, State.rd_wr_ne hs (h e List.mem_cons_self)]

/-- Of registers that differ, each holds what was written to it. -/
theorem State.wrAll_rd_mem (hs : s.sound = true) {l : List (Obj × Nat)} (hn : ((l.map (·.1)).map fun o => o.key 0 0).Nodup) {o : Obj} {v : Nat}
    (h : (o, v) ∈ l) : (s.wrAll l).rd o = v := by
  induction l generalizing s with
  | nil => exact absurd h List.not_mem_nil
  | cons e l ih =>
    rw [List.map_cons, List.map_cons, List.nodup_cons] at hn
    have hs' := State.sound_wr hs e.1 e.2 0 0
    rcases List.mem_cons.mp h with rfl | h
    · have hrest : ((s.wr o v).wrAll l).rd o = (s.wr o v).rd o := State.wrAll_rd_other hs' fun x hx hk =>
        hn.1 (List.mem_map.mpr ⟨x.1, List.mem_map.mpr ⟨x, hx, rfl⟩, hk⟩)
      exact hrest.trans (State.rd_wr_same hs _ _ _ _)
    · exact ih hs' hn.2 h

/-- The registers that show the image that has been started. -/
def State.showImage (s : State) (i die slot : Nat) (f : ImageFacts) : State :=
  s.wrAll [(Od.bootDie, die), (Od.bootSlot, slot), (Od.bootFallbacks, i), (Od.keeperFwVersion, leNat (slice f.header 12 4)),
    (Od.imageSvn, leNat (slice f.header 20 4)), (Od.aeDechusVersion, leNat (slice f.header 16 4)), (Od.patchLevel, f.patchLevel),
    (Od.imageDigest, f.digest), (Od.leadDie, die), (Od.bootStage, 1)]

theorem showImage_rd (hs : s.sound = true) (i die slot : Nat) (f : ImageFacts) :
    (s.showImage i die slot f).rd Od.bootStage = 1 ∧ (s.showImage i die slot f).rd Od.bootDie = die ∧ (s.showImage i die slot f).rd Od.bootSlot = slot ∧
      (s.showImage i die slot f).rd Od.bootFallbacks = i ∧ (s.showImage i die slot f).rd Od.leadDie = die ∧
      (s.showImage i die slot f).rd Od.imageSvn = leNat (slice f.header 20 4) ∧
      (s.showImage i die slot f).rd Od.keeperFwVersion = leNat (slice f.header 12 4) := by
  have hn : ([Od.bootDie, Od.bootSlot, Od.bootFallbacks, Od.keeperFwVersion, Od.imageSvn, Od.aeDechusVersion, Od.patchLevel, Od.imageDigest, Od.leadDie,
    Od.bootStage].map fun o => o.key 0 0).Nodup := by decide
  unfold State.showImage
  refine ⟨?_, ?_, ?_, ?_, ?_, ?_, ?_⟩
  all_goals
    refine State.wrAll_rd_mem hs (by exact hn) ?_
    simp

theorem showImage_sound (hs : s.sound = true) (i die slot : Nat) (f : ImageFacts) : (s.showImage i die slot f).sound = true :=
  State.wrAll_sound hs _

/-- The state that a started image runs in, before the second host die is claimed. -/
def State.imageStarted (s : State) : State :=
  let s4 := s.wr Od.lampState s.lampLevel
  { s4 with boot := { s4.boot with attempt := 4 }, recov := { s4.recov with lampRefreshed := s4.up } }

theorem bootImage_eq (i die slot : Nat) (f : ImageFacts) : s.bootImage i die slot f =
    if die = 0 ∧ (s.showImage i die slot f).imageStarted.canClaim = true then
      (s.showImage i die slot f).imageStarted.emit (.control 0 (s.showImage i die slot f).imageStarted.part.secondHost 10 [])
    else (s.showImage i die slot f).imageStarted := by
  unfold State.bootImage
  extract_lets s1 s2 s3 s4 s5
  have h3 : s3 = s.showImage i die slot f := rfl
  clear_value s3
  subst h3
  rfl

theorem bootImage_regs (i die slot : Nat) (f : ImageFacts) :
    (s.bootImage i die slot f).regs = ((s.showImage i die slot f).wr Od.lampState (s.showImage i die slot f).lampLevel).regs := by
  rw [bootImage_eq]
  split <;> rfl

theorem bootImage_rd (hs : s.sound = true) (i die slot : Nat) (f : ImageFacts) {o : Obj} (ho : Od.lampState.key 0 0 ≠ o.key 0 0) :
    (s.bootImage i die slot f).rd o = (s.showImage i die slot f).rd o :=
  (State.rd_congr (bootImage_regs i die slot f) o 0 0).trans (State.rd_wr_ne (showImage_sound hs i die slot f) ho)

theorem bootImage_attempt (i die slot : Nat) (f : ImageFacts) : (s.bootImage i die slot f).boot.attempt = 4 := by
  rw [bootImage_eq]
  split <;> rfl

/-! Whether the boot die can claim the second host die depends on the fabric's group states. -/

theorem canClaim_congr (hp : t.part = s.part) (h : ∀ d g, t.rd Od.fabricGroupState (dieInst d) g = s.rd Od.fabricGroupState (dieInst d) g) :
    t.canClaim = s.canClaim := by
  unfold State.canClaim State.groupState
  simp only [hp, h]

/-- The register of a die is no register of the package. -/
theorem groupState_key (d g : Nat) : 0x1000000 ≤ Od.fabricGroupState.key (dieInst d) g := by
  simp only [Obj.key, dictKey, dieInst]
  omega

theorem canClaim_wr (hs : s.sound = true) {o : Obj} {v k : Nat} (ho : o.key 0 k < 0x1000000) : (s.wr o v 0 k).canClaim = s.canClaim :=
  canClaim_congr rfl fun d g => State.rd_wr_ne hs (by have := groupState_key d g; omega)

theorem State.wrAll_part (l : List (Obj × Nat)) : (s.wrAll l).part = s.part := by
  induction l generalizing s with
  | nil => rfl
  | cons e l ih => exact ih

theorem showImage_part (i die slot : Nat) (f : ImageFacts) : (s.showImage i die slot f).part = s.part := State.wrAll_part _

theorem showImage_canClaim (hs : s.sound = true) (i die slot : Nat) (f : ImageFacts) : (s.showImage i die slot f).canClaim = s.canClaim := by
  have hkeys : ∀ o ∈ [Od.bootDie, Od.bootSlot, Od.bootFallbacks, Od.keeperFwVersion, Od.imageSvn, Od.aeDechusVersion, Od.patchLevel, Od.imageDigest,
    Od.leadDie, Od.bootStage], o.key 0 0 < 0x1000000 := by decide
  refine canClaim_congr (showImage_part ..) fun d g => State.wrAll_rd_other hs fun e he => ?_
  have hlt := hkeys e.1 (List.mem_map.mpr ⟨e, he, rfl⟩)
  have := groupState_key d g
  omega

theorem imageStarted_canClaim (hs : s.sound = true) : s.imageStarted.canClaim = s.canClaim :=
  (canClaim_congr (s := s.wr Od.lampState s.lampLevel) rfl fun _ _ => State.rd_congr rfl _ _ _).trans (canClaim_wr hs (by decide))

theorem imageStarted_part (s : State) : s.imageStarted.part = s.part := rfl

theorem bootImage_claims (hs : s.sound = true) (i slot : Nat) (f : ImageFacts) (hc : s.canClaim = true) :
    .control 0 s.part.secondHost 10 [] ∈ (s.bootImage i 0 slot f).out := by
  have hclaim : (s.showImage i 0 slot f).imageStarted.canClaim = true :=
    (imageStarted_canClaim (showImage_sound hs i 0 slot f)).trans ((showImage_canClaim hs i 0 slot f).trans hc)
  have hpart : (s.showImage i 0 slot f).imageStarted.part = s.part := (imageStarted_part _).trans (showImage_part i 0 slot f)
  rw [bootImage_eq, if_pos ⟨rfl, hclaim⟩, hpart]
  exact List.mem_cons_self

/-! The log of the attempts. -/

/-- `t` differs from `s` in BOOT_LOG alone. -/
structure LogsBoot (s t : State) : Prop where
  sound : t.sound = true
  rd : ∀ (o : Obj) (inst k : Nat), Od.bootLog.key 0 0 ≠ o.key inst k → t.rd o inst k = s.rd o inst k
  boot : t.boot = s.boot
  part : t.part = s.part
  out : t.out = s.out
  recov : t.recov = s.recov

theorem logAttempt_logs (hs : s.sound = true) (i die slot code version : Nat) : LogsBoot s (s.logAttempt i die slot code version) := by
  unfold State.logAttempt
  generalize (die :: slot :: code :: 0 :: (beBytes 4 version).map (·.toNat)).zipIdx = l
  have hgen : ∀ t, LogsBoot s t → LogsBoot s (l.foldl (fun (a : State) e => a.wrOctet Od.bootLog 0 0 (8 * i + e.2) e.1) t) := by
    induction l with
    | nil => exact fun t h => h
    | cons e l ih =>
      intro t h
      refine ih _ ⟨State.sound_wr h.sound _ _ _ _, fun o inst k ho => ?_, h.boot, h.part, h.out, h.recov⟩
      exact (State.rd_wr_ne h.sound ho).trans (h.rd o inst k ho)
  exact hgen s ⟨hs, fun _ _ _ _ => rfl, rfl, rfl, rfl, rfl⟩

theorem LogsBoot.canClaim (h : LogsBoot s t) : t.canClaim = s.canClaim :=
  canClaim_congr h.part fun d g => h.rd _ _ _ (by
    have := groupState_key d g
    have hk : Od.bootLog.key 0 0 < 0x1000000 := by decide
    omega)

end

section
variable {s t : State}

/-! Training the groups and keeping the late rails leave what a start has set. -/

/-- What the steps of a start after the NVS leave as it is: `t` has the boot, the time, the lamp and the dictionary of `s`, and all that `s` has sent. -/
structure StartKept (s t : State) : Prop where
  boot : t.boot = s.boot
  time : t.time = s.time
  lamp : t.recov.lampRunning = s.recov.lampRunning
  dict : t.dict = s.dict
  out : ∀ o ∈ s.out, o ∈ t.out

theorem StartKept.refl (s : State) : StartKept s s := ⟨rfl, rfl, rfl, rfl, fun _ h => h⟩

theorem StartKept.trans {u : State} (h : StartKept s t) (k : StartKept t u) : StartKept s u :=
  ⟨k.boot.trans h.boot, k.time.trans h.time, k.lamp.trans h.lamp, k.dict.trans h.dict, fun o ho => k.out o (h.out o ho)⟩

theorem StartKept.foldl {α : Type} {g : State → α → State} (hg : ∀ a x, StartKept a (g a x)) (l : List α) (s : State) : StartKept s (l.foldl g s) := by
  induction l generalizing s with
  | nil => exact .refl s
  | cons x l ih => exact (hg s x).trans (ih _)

theorem StartKept.emit (h : StartKept s t) (o : Out) : StartKept s (t.emit o) :=
  ⟨h.boot, h.time, h.lamp, h.dict, fun x hx => List.mem_cons_of_mem _ (h.out x hx)⟩

theorem StartKept.wr (h : StartKept s t) (o : Obj) (v inst k : Nat) : StartKept s (t.wr o v inst k) := ⟨h.boot, h.time, h.lamp, h.dict, h.out⟩

theorem StartKept.later (h : StartKept s t) (n : Nat) (i : Instr) : StartKept s (t.later n i) := ⟨h.boot, h.time, h.lamp, h.dict, h.out⟩

theorem StartKept.setGroup (h : StartKept s t) (d g : Nat) (x : Group) : StartKept s (t.setGroup d g x) := ⟨h.boot, h.time, h.lamp, h.dict, h.out⟩

theorem restartGroup_kept (d g : Nat) : StartKept s (s.restartGroup d g) :=
  ((((StartKept.refl s).setGroup ..).later ..).wr ..).emit ..

theorem trainGroups_kept (s : State) : StartKept s s.trainGroups := by
  refine .foldl (fun a d => .foldl (fun b g => ?_) _ _) _ _
  split
  · exact restartGroup_kept d g
  · exact .refl _

theorem keepHistory_kept (e : FaultError) : StartKept s (s.keepHistory e) := by
  unfold State.keepHistory
  dsimp only
  split
  · exact ⟨rfl, rfl, rfl, rfl, fun _ h => h⟩
  · exact .refl _

theorem keepLateRails_kept (s : State) : StartKept s s.keepLateRails :=
  (StartKept.foldl (fun _ _ => keepHistory_kept _) _ _).trans ⟨rfl, rfl, rfl, rfl, fun _ h => h⟩

/-- The state that the groups are trained in, once the reset has been released. -/
def State.released (s : State) : State :=
  let s1 := ((s.reconcileNvs.wr Od.epochLengthInForce (s.rd Od.epochLength)).wr Od.bootLog bootLogEmpty).wr Od.lampState 0
  { s1 with time := { TimeUnit.reset with up := s1.up, master := s1.time.master }
            boot := { s1.boot with started := true, released := s1.up } }

theorem exec_kindlingStart (hst : s.stopped = false) (h1 : s.boot.started = false) (h2 : s.rd Od.bootStage = 0) (h3 : s.rd Od.resetCause ≠ 5) :
    exec .kindlingStart s = .next ((s.released.keepLateRails.startLamp.trainGroups).later 1500000000 .bootClaimTimeout) := by
  refine (running_live hst _).trans (congrArg _ ?_)
  rw [if_neg (by simp [h1, h2]), if_neg (fun h => h3 h.1)]
  dsimp only [State.released]

theorem kindlingStart_runs (hst : s.stopped = false) (h1 : s.boot.started = false) (h2 : s.rd Od.bootStage = 0) (h3 : s.rd Od.resetCause ≠ 5) :
    Runs .kindlingStart s fun t => t.boot.started = true ∧ t.boot.released = s.up ∧ t.time.now = 0 ∧ t.recov.lampRunning = true ∧
      t.dict.live = s.dict.bestNvs ∧ .pin 3 1 ∈ t.out ∧ (s.up + 1500000000, .bootClaimTimeout) ∈ t.agenda := by
  have hk := keepLateRails_kept s.released
  have ht := trainGroups_kept s.released.keepLateRails.startLamp
  have hboot : s.released.keepLateRails.startLamp.trainGroups.boot = s.released.boot := ht.boot.trans hk.boot
  have htime : s.released.keepLateRails.startLamp.trainGroups.time = s.released.time := ht.time.trans hk.time
  have hdict : s.released.keepLateRails.startLamp.trainGroups.dict = s.released.dict := ht.dict.trans hk.dict
  refine ⟨_, exec_kindlingStart hst h1 h2 h3, ?_, ?_, ?_, ht.lamp, ?_, ht.out _ List.mem_cons_self, ?_⟩
  · exact congrArg Boot.started hboot
  · exact congrArg Boot.released hboot
  · exact congrArg TimeUnit.now htime
  · exact congrArg (fun d : Dictionary => d.live) hdict
  · simp only [State.later, List.mem_append, List.mem_singleton, Prod.mk.injEq, and_true]
    right
    rw [htime]
    rfl

/-! The attempts to boot. -/

theorem exec_bootAttempt (hst : s.stopped = false) {f : ImageFacts} {i : Nat} (hs : s.boot.started = true) (h0 : s.rd Od.bootStage = 0)
    (hi : s.boot.attempt = i) (h4 : i < 4) (h2 : i < 2 ∨ s.boot.second = true) :
    ∀ die slot code, die = (if i < 2 then 0 else s.part.secondHost) →
      slot = (if i % 2 = 0 then (if i < 2 then s.boot.flash0 else s.boot.flash1).preferred else 1 - (if i < 2 then s.boot.flash0 else s.boot.flash1).preferred) →
      code = s.bootCode ((if i < 2 then s.boot.flash0 else s.boot.flash1).slot slot) f →
      exec (.bootAttempt f) s = .next (if code = 0 then
        (s.logAttempt i die slot code (if code = 9 ∨ code = 1 then 0 else leNat (slice f.header 12 4))).bootImage i die slot f
      else (s.logAttempt i die slot code (if code = 9 ∨ code = 1 then 0 else leNat (slice f.header 12 4))).bootNext i code) := by
  intro die slot code hd hsl hc
  subst hd hsl hc hi
  refine (running_live hst _).trans (congrArg _ (if_neg ?_))
  rintro (h | h | h | ⟨h, hn⟩)
  · exact absurd hs (by simp [h])
  · exact h h0
  · omega
  · rcases h2 with h2 | h2
    · omega
    · exact absurd h2 (by simp [hn])

/-- An image that passes its checks is started and shown (R482). -/
theorem bootAttempt_boots (hsd : s.sound = true) (hst : s.stopped = false) {f : ImageFacts} {i slot : Nat} (hi : i < 2) (hs : s.boot.started = true)
    (h0 : s.rd Od.bootStage = 0) (hat : s.boot.attempt = i) (hslot : slot = (if i = 0 then s.boot.flash0.preferred else 1 - s.boot.flash0.preferred))
    (hc : s.bootCode (s.boot.flash0.slot slot) f = 0) :
    Runs (.bootAttempt f) s fun t => t.rd Od.bootStage = 1 ∧ t.rd Od.bootDie = 0 ∧ t.rd Od.bootSlot = slot ∧
      t.rd Od.bootFallbacks = i ∧ t.rd Od.leadDie = 0 ∧ t.boot.attempt = 4 ∧ t.rd Od.imageSvn = leNat (slice f.header 20 4) ∧
      t.rd Od.keeperFwVersion = leNat (slice f.header 12 4) ∧ (s.canClaim = true → .control 0 s.part.secondHost 10 [] ∈ t.out) := by
  have hmod : (i % 2 = 0) = (i = 0) := by
    rw [eq_iff_iff]
    omega
  have hex := exec_bootAttempt hst (f := f) hs h0 hat (by omega) (.inl hi) 0 slot 0 (if_pos hi).symm (by rw [if_pos hi, hslot]; simp only [hmod])
    (by rw [if_pos hi, hc])
  rw [if_pos rfl] at hex
  generalize hv : (if 0 = 9 ∨ 0 = 1 then 0 else leNat (slice f.header 12 4)) = ver at hex
  have hlog := logAttempt_logs hsd i 0 slot 0 ver
  generalize s.logAttempt i 0 slot 0 ver = u at hex hlog
  have hrd := fun (o : Obj) (ho : Od.lampState.key 0 0 ≠ o.key 0 0) => bootImage_rd hlog.sound i 0 slot f ho
  obtain ⟨h1, h2, h3, h5, h6, h7, h8⟩ := showImage_rd hlog.sound i 0 slot f
  refine ⟨_, hex, (hrd _ (by decide)).trans h1, (hrd _ (by decide)).trans h2, (hrd _ (by decide)).trans h3, (hrd _ (by decide)).trans h5,
    (hrd _ (by decide)).trans h6, bootImage_attempt .., (hrd _ (by decide)).trans h7, (hrd _ (by decide)).trans h8, fun hcl => ?_⟩
  have := bootImage_claims hlog.sound i slot f (hlog.canClaim.trans hcl)
  rwa [hlog.part] at this

theorem bootNext_early {i code : Nat} (hi : i < 2) (h9 : code ≠ 9) : s.bootNext i code =
    if i = 1 ∧ s.canClaim = true then ({ s with boot := { s.boot with attempt := i + 1 } } : State).emit (.control 0 s.part.secondHost 11 [])
    else { s with boot := { s.boot with attempt := i + 1 } } := by
  have hn : (if code = 9 then (if i < 2 then 2 else 4) else i + 1) = i + 1 := if_neg h9
  have hc : ({ s with boot := { s.boot with attempt := i + 1 } } : State).canClaim = s.canClaim := canClaim_congr rfl fun _ _ => State.rd_congr rfl _ _ _
  have hif : (i < 2 ∧ i + 1 = 2 ∧ code ≠ 9 ∧ s.canClaim = true) = (i = 1 ∧ s.canClaim = true) := by
    rw [eq_iff_iff]
    constructor
    · rintro ⟨-, h, -, h'⟩
      exact ⟨by omega, h'⟩
    · rintro ⟨h, h'⟩
      exact ⟨hi, by omega, h9, h'⟩
  unfold State.bootNext
  dsimp only
  rw [hn, if_neg (by omega), hc]
  simp only [hif]

/-- An image that fails its checks leaves the start to the next attempt, and the second host die hears of the boot die's last (R482). -/
theorem bootAttempt_fails (hsd : s.sound = true) (hst : s.stopped = false) {f : ImageFacts} {i slot : Nat} (hi : i < 2) (hs : s.boot.started = true)
    (h0 : s.rd Od.bootStage = 0) (hat : s.boot.attempt = i) (hslot : slot = (if i = 0 then s.boot.flash0.preferred else 1 - s.boot.flash0.preferred))
    (hne : s.bootCode (s.boot.flash0.slot slot) f ≠ 0) (h9 : s.bootCode (s.boot.flash0.slot slot) f ≠ 9) :
    Runs (.bootAttempt f) s fun t => t.rd Od.bootStage = 0 ∧ t.boot.attempt = i + 1 ∧
      (i = 1 → s.canClaim = true → .control 0 s.part.secondHost 11 [] ∈ t.out) := by
  have hmod : (i % 2 = 0) = (i = 0) := by
    rw [eq_iff_iff]
    omega
  have hex := exec_bootAttempt hst (f := f) hs h0 hat (by omega) (.inl hi) 0 slot _ (if_pos hi).symm (by rw [if_pos hi, hslot]; simp only [hmod])
    (congrArg (fun x : Flash => s.bootCode (x.slot slot) f) (if_pos hi).symm)
  generalize s.bootCode (s.boot.flash0.slot slot) f = code at *
  rw [if_neg hne, bootNext_early hi h9] at hex
  generalize hv : (if code = 9 ∨ code = 1 then 0 else leNat (slice f.header 12 4)) = ver at hex
  have hlog := logAttempt_logs hsd i 0 slot code ver
  generalize s.logAttempt i 0 slot code ver = u at hex hlog
  have hrd : u.rd Od.bootStage = 0 := (hlog.rd _ _ _ (by decide)).trans h0
  refine ⟨_, hex, ?_, ?_, fun h1 hcl => ?_⟩
  · split <;> exact hrd
  · split <;> rfl
  · rw [if_pos ⟨h1, hlog.canClaim.trans hcl⟩, hlog.part]
    exact List.mem_cons_self

theorem bootFailed_shows (hsd : s.sound = true) : s.bootFailed.rd Od.bootStage = 4 ∧ s.bootFailed.rd Od.faultNAsserted = 1 ∧
    s.bootFailed.recov.pin = true ∧ s.bootFailed.recov.lampRunning = false := by
  have hregs : s.bootFailed.regs = (s.wrAll [(Od.bootStage, 4), (Od.faultNAsserted, 1), (Od.lampState, 3)]).regs := by
    unfold State.bootFailed State.wrAll
    simp only [List.foldl_cons, List.foldl_nil, State.emit_regs]
  have hn : ([Od.bootStage, Od.faultNAsserted, Od.lampState].map fun o => o.key 0 0).Nodup := by decide
  refine ⟨(State.rd_congr hregs _ _ _).trans (State.wrAll_rd_mem hsd (by exact hn) (by simp)),
    (State.rd_congr hregs _ _ _).trans (State.wrAll_rd_mem hsd (by exact hn) (by simp)), rfl, rfl⟩

theorem bootAttempt_ends (hsd : s.sound = true) (hst : s.stopped = false) {f : ImageFacts} (hs : s.boot.started = true)
    (h0 : s.rd Od.bootStage = 0) (hat : s.boot.attempt = 3) (h2 : s.boot.second = true)
    (hne : s.bootCode (s.boot.flash1.slot (1 - s.boot.flash1.preferred)) f ≠ 0) :
    Runs (.bootAttempt f) s fun t => t.rd Od.bootStage = 4 ∧ t.rd Od.faultNAsserted = 1 ∧ t.recov.pin = true ∧ t.recov.lampRunning = false := by
  have hex := exec_bootAttempt hst (f := f) hs h0 hat (by decide) (.inr h2) s.part.secondHost (1 - s.boot.flash1.preferred) _ rfl rfl rfl
  have hcode : s.bootCode ((if 3 < 2 then s.boot.flash0 else s.boot.flash1).slot (1 - s.boot.flash1.preferred)) f =
      s.bootCode (s.boot.flash1.slot (1 - s.boot.flash1.preferred)) f := rfl
  rw [hcode] at hex
  generalize s.bootCode (s.boot.flash1.slot (1 - s.boot.flash1.preferred)) f = code at *
  rw [if_neg hne] at hex
  generalize hv : (if code = 9 ∨ code = 1 then 0 else leNat (slice f.header 12 4)) = ver at hex
  have hlog := logAttempt_logs hsd 3 s.part.secondHost (1 - s.boot.flash1.preferred) code ver
  have hnext : ∀ u : State, u.bootNext 3 code = u.bootFailed := fun u => by
    unfold State.bootNext
    dsimp only
    rw [if_pos (by split <;> rfl)]
  rw [hnext] at hex
  exact ⟨_, hex, bootFailed_shows hlog.sound⟩

theorem startSecond_eq (h1 : s.boot.claimed = false) (h2 : s.boot.started = true) (h3 : s.rd Od.bootStage = 0) :
    s.startSecond = { s with boot := { s.boot with second := true, attempt := max 2 s.boot.attempt } } := if_pos ⟨h1, h2, h3⟩

/-! Forwarding-ready. -/

/-- What bringing the fabric, the reserves and the spares in leaves as it is. -/
structure DataKept (s t : State) : Prop where
  dict : t.dict = s.dict
  packets : t.packets = s.packets
  tables : t.tables = s.tables
  time : t.time = s.time

namespace DataKept

theorem refl (s : State) : DataKept s s := ⟨rfl, rfl, rfl, rfl⟩

theorem wr (h : DataKept s t) (o : Obj) (v inst k : Nat) : DataKept s (t.wr o v inst k) := ⟨h.dict, h.packets, h.tables, h.time⟩

theorem wrOctet (h : DataKept s t) (o : Obj) (inst k i b : Nat) : DataKept s (t.wrOctet o inst k i b) := h.wr ..

theorem setReserved (h : DataKept s t) (d path v : Nat) : DataKept s (t.setReserved d path v) := ⟨h.dict, h.packets, h.tables, h.time⟩

theorem ite {u : State} {p : Prop} [Decidable p] (h : DataKept s t) (k : DataKept s u) : DataKept s (if p then t else u) := by
  split <;> assumption

theorem foldl {α : Type} {g : State → α → State} {l : List α} (h : DataKept s t) (hg : ∀ a x, DataKept s a → DataKept s (g a x)) :
    DataKept s (l.foldl g t) := by
  induction l generalizing t with
  | nil => exact h
  | cons x l ih => exact ih (hg t x h)

theorem setSpare (h : DataKept s t) (cls d group unit v : Nat) : DataKept s (t.setSpare cls d group unit v) :=
  .ite (h.wr ..) (.ite (h.wrOctet ..) (.ite (h.wrOctet ..) (.ite (h.wrOctet ..) (.ite (.ite (h.wrOctet ..) (h.wrOctet ..)) (.ite (h.wrOctet ..)
    (.ite (h.wrOctet ..) ⟨h.dict, h.packets, h.tables, h.time⟩))))))

theorem bringIn (h : DataKept s t) (r : Retirement) : DataKept s (t.bringIn r) := by
  unfold State.bringIn
  extract_lets _ s1 s2
  have hs1 : DataKept s s1 := h.setSpare ..
  have hs2 : DataKept s s2 := h.setSpare ..
  refine .ite (.wr (.setSpare (.wr h ..) ..) ..) (.ite (.ite (h.setSpare ..) h) (.ite (.ite (h.setSpare ..) (.setSpare (.wrOctet h ..) ..))
    (.ite (.foldl hs1 fun _ _ ha => .ite (ha.setSpare ..) ha) (.ite (.foldl hs2 fun _ _ ha => .ite (ha.setSpare ..) ha)
      (.ite (.ite (.setSpare (.setSpare h ..) ..) (h.setSpare ..)) (.ite (.wr (.setSpare h ..) ..) (.ite (.wr (.setSpare h ..) ..) (.ite ?_
        (h.setSpare ..)))))))))
  split
  · exact h.setSpare ..
  · exact h

theorem fillReserves (h : DataKept s t) (d : Nat) : DataKept s (t.fillReserves d) :=
  (h.foldl fun _ _ ha => ha.setReserved ..).setReserved ..

theorem lampUpdate (h : DataKept s t) : DataKept s t.lampUpdate := .ite (h.wr ..) h

end DataKept

end

theorem exec_forwardingReady {s : State} (hst : s.stopped = false) (h2 : s.rd Od.bootStage = 2) : ∃ u, Keeps s u ∧ DataKept s u ∧
    exec .forwardingReady s = .next (u.wr Od.bootStage 3) := by
  have hf := (DataKept.refl s).foldl (g := fun a d => a.fillReserves d) (l := s.part.dies) (fun _ d ha => ha.fillReserves d)
  have hk := (Keeps.refl s).foldl (f := fun a d => a.fillReserves d) (l := s.part.dies) (fun _ d ha => ha.fillReserves d)
  refine ⟨_, ?_, ?_, (running_live hst _).trans (congrArg _ (if_neg (not_not_intro h2)))⟩
  · exact (hk.foldl fun _ r ha => ha.bringIn r).lampUpdate
  · exact (hf.foldl fun _ r ha => ha.bringIn r).lampUpdate

/-! The outcome of a verification, and the end of a Keeper restart. -/

/-- A verification that ended well: the slot is VALID in both directories, with its version and SVN. -/
def State.slotValid (s : State) (slot version svn : Nat) (only : Bool) : State :=
  { s.setSlots slot 2 with boot := { (s.setSlots slot 2).boot with
      slotVersion := sparsePut s.boot.slotVersion slot version, slotSvn := sparsePut s.boot.slotSvn slot svn
      keeperOnly := sparsePut s.boot.keeperOnly slot only } }

theorem fwSlot_known {s : State} {slot v : Nat} (h : sparseFind? s.boot.slotState slot = some v) : s.fwSlot slot = v := by
  unfold State.fwSlot
  rw [h]

section
variable {s : State} {slot version svn : Nat} {only : Bool}

theorem slotValid_flash (hslot : slot ≤ 1) :
    (s.slotValid slot version svn only).boot.flash0.slot slot = 2 ∧ (s.slotValid slot version svn only).boot.flash1.slot slot = 2 := by
  have h01 : slot = 0 ∨ slot = 1 := by omega
  rcases h01 with rfl | rfl <;> exact ⟨rfl, rfl⟩

theorem slotValid_versions : sparseFind? (s.slotValid slot version svn only).boot.slotVersion slot = some version ∧
    sparseFind? (s.slotValid slot version svn only).boot.slotSvn slot = some svn := by
  constructor
  · exact (sparseFind?_put ..).trans (if_pos rfl)
  · exact (sparseFind?_put ..).trans (if_pos rfl)

theorem slotValid_kept : (s.slotValid slot version svn only).boot.slotState = s.boot.slotState ∧ (s.slotValid slot version svn only).regs = s.regs ∧
    (s.slotValid slot version svn only).dict = s.dict := ⟨rfl, rfl, rfl⟩

theorem low_of_lt {w n : Nat} (h : n < 2 ^ w) : low w n = n := Nat.mod_eq_of_lt h

end

section
variable {s : State} (hst : s.stopped = false) {slot code version svn : Nat} {only : Bool} (hslot : slot ≤ 1) (h2 : s.fwSlot slot = 2)
include hst hslot h2

theorem exec_fwVerifyDone (hc : code < 2 ^ 8) (hv : code = 0 → version < 2 ^ 32 ∧ svn < 2 ^ 32) : exec (.fwVerifyDone slot code version svn only) s =
    .next (if code = 0 then ((s.setFwSlot slot 3).wr Od.fwVerifyCode code).slotValid slot version svn only
      else (s.setFwSlot slot 4).wr Od.fwVerifyCode code) := by
  show execFwVerifyDone slot code version svn only s = _
  unfold execFwVerifyDone
  rw [running_live hst, if_neg (by omega), low_of_lt hc]
  by_cases h0 : code = 0
  · obtain ⟨hv, hsv⟩ := hv h0
    rw [if_pos h0, if_pos h0, low_of_lt hv, low_of_lt hsv, if_pos h0]
    rfl
  · rw [if_neg h0, if_neg h0, if_neg h0]

theorem fwVerifyDone_valid (hv : version < 2 ^ 32) (hsv : svn < 2 ^ 32) : Runs (.fwVerifyDone slot 0 version svn only) s fun t =>
    t.fwSlot slot = 3 ∧ t.boot.flash0.slot slot = 2 ∧ t.boot.flash1.slot slot = 2 ∧ sparseFind? t.boot.slotVersion slot = some version ∧
      sparseFind? t.boot.slotSvn slot = some svn ∧ t.regs = (s.wr Od.fwVerifyCode 0).regs ∧ t.dict = s.dict := by
  have hex := exec_fwVerifyDone hst hslot h2 (code := 0) (only := only) (by decide) (fun _ => ⟨hv, hsv⟩)
  rw [if_pos rfl] at hex
  obtain ⟨hf0, hf1⟩ := slotValid_flash (s := (s.setFwSlot slot 3).wr Od.fwVerifyCode 0) (version := version) (svn := svn) (only := only) hslot
  obtain ⟨hver, hsvn⟩ := slotValid_versions (s := (s.setFwSlot slot 3).wr Od.fwVerifyCode 0) (slot := slot) (version := version) (svn := svn) (only := only)
  obtain ⟨hstate, hregs, hdict⟩ :=
    slotValid_kept (s := (s.setFwSlot slot 3).wr Od.fwVerifyCode 0) (slot := slot) (version := version) (svn := svn) (only := only)
  exact ⟨_, hex, fwSlot_known (hstate ▸ (sparseFind?_put ..).trans (if_pos rfl)), hf0, hf1, hver, hsvn, hregs.trans (State.wr_regs_congr (s := s) rfl ..),
    hdict.trans (State.wr_dict ..)⟩

theorem fwVerifyDone_bad (hc : code ≠ 0) (hc' : code < 256) : Runs (.fwVerifyDone slot code version svn only) s fun t =>
    t.fwSlot slot = 4 ∧ t.boot.flash0 = s.boot.flash0 ∧ t.boot.flash1 = s.boot.flash1 ∧ t.regs = (s.wr Od.fwVerifyCode code).regs ∧ t.dict = s.dict := by
  have hex := exec_fwVerifyDone hst hslot h2 (version := version) (svn := svn) (only := only) hc' (fun h => absurd h hc)
  rw [if_neg hc] at hex
  exact ⟨_, hex, fwSlot_known ((sparseFind?_put ..).trans (if_pos rfl)), rfl, rfl,
    State.wr_regs_congr (s := s) (t := s.setFwSlot slot 4) rfl .., State.wr_dict ..⟩

end

theorem keeperNowRestartDone_runs {s : State} (hst : s.stopped = false) {k v : Nat} (hk : s.boot.activating = some k)
    (hv : sparseFind? s.boot.slotVersion k = some v) : Runs .keeperNowRestartDone s fun t => t.boot.activating = none ∧
      t.regs = (s.wr Od.keeperFwVersion v).regs ∧ t.dict = s.dict ∧ t.recov = s.recov := by
  have hex : exec .keeperNowRestartDone s = .next (({ s with boot := { s.boot with activating := none } } : State).useFree.wr Od.keeperFwVersion v) := by
    refine (running_live hst _).trans (congrArg _ ?_)
    rw [hk]
    dsimp only
    rw [hv]
    rfl
  exact ⟨_, hex, rfl, State.wr_regs_congr (s := s) rfl .., rfl, rfl⟩

/-- Settles O21: each step of a start by the state that it finds, through the registers that it writes and what it leaves. -/
theorem startRows : Obligations.StartRows := by
  refine ⟨fun s hs hst => ⟨kindlingStart_runs hst, fun f i hi hstart h0 hat slot hslot => ⟨bootAttempt_boots hs hst hi hstart h0 hat hslot,
      bootAttempt_fails hs hst hi hstart h0 hat hslot⟩,
    fun f => bootAttempt_ends hs hst, running_live hst _, fun hcl hstart h0 => ⟨?_, fun hup => ?_⟩, fun h1 => ?_, fun h2 => ?_⟩,
    fun s hst => ⟨fun slot version svn only hsl h2 hv hsv => fwVerifyDone_valid hst hsl h2 hv hsv,
      fun slot code version svn only hsl h2 hc hc' => fwVerifyDone_bad hst hsl h2 hc hc', fun k v => keeperNowRestartDone_runs hst⟩⟩
  · exact (running_live hst _).trans (congrArg _ (startSecond_eq hcl hstart h0))
  · exact (running_live hst _).trans (congrArg _ ((if_pos hup).trans (startSecond_eq hcl hstart h0)))
  · exact (running_live hst _).trans (congrArg _ (if_neg (not_not_intro h1)))
  · obtain ⟨u, hk, hd, hex⟩ := exec_forwardingReady hst h2
    exact ⟨_, hex, State.rd_wr_same (hk.sound hs) _ _ _ _, (State.wr_dict ..).trans hd.dict, (State.wr_packets ..).trans hd.packets,
      (State.wr_tables ..).trans hd.tables, (State.wr_time ..).trans hd.time⟩
end Sys2Proof.Machine
end

section
namespace Sys2Proof.Machine

-- Many short lemmas: in turn, as each thread of its own takes stack.
set_option Elab.async false

/-! What the event controller, the fault records and the lamp leave: all but the registers, the events, the agenda, what is sent and the recovery state. -/

/-- The state without the parts that events, faults and the lamp change. -/
def State.quiet (s : State) : State :=
  { s with regs := [], events := State.reset.events, out := [], agenda := [], recov := State.reset.recov }

/-- `t` is `s` but for registers, events, agenda, output and recovery state. -/
def Quiet (s t : State) : Prop := t.quiet = s.quiet

namespace Quiet
section
variable {s t : State} (h : Quiet s t)
include h

theorem eq : t.quiet = s.quiet := h

theorem pending : t.pending = s.pending := (congrArg State.pending (eq h) :)
theorem part : t.part = s.part := (congrArg State.part (eq h) :)
theorem time : t.time = s.time := (congrArg State.time (eq h) :)
theorem sched : t.sched = s.sched := (congrArg State.sched (eq h) :)
theorem fams : t.fams = s.fams := (congrArg State.fams (eq h) :)
theorem dict : t.dict = s.dict := (congrArg State.dict (eq h) :)
theorem rings : t.rings = s.rings := (congrArg State.rings (eq h) :)
theorem ctrs : t.ctrs = s.ctrs := (congrArg State.ctrs (eq h) :)
theorem power : t.power = s.power := (congrArg State.power (eq h) :)
theorem boot : t.boot = s.boot := (congrArg State.boot (eq h) :)
theorem jtag : t.jtag = s.jtag := (congrArg State.jtag (eq h) :)
theorem links : t.links = s.links := (congrArg State.links (eq h) :)
theorem tables : t.tables = s.tables := (congrArg State.tables (eq h) :)
theorem packets : t.packets = s.packets := (congrArg State.packets (eq h) :)
theorem bufs : t.bufs = s.bufs := (congrArg State.bufs (eq h) :)
theorem tm : t.tm = s.tm := (congrArg State.tm (eq h) :)
theorem fabric : t.fabric = s.fabric := (congrArg State.fabric (eq h) :)
theorem learning : t.learning = s.learning := (congrArg State.learning (eq h) :)
theorem asa : t.asa = s.asa := (congrArg State.asa (eq h) :)
theorem ae : t.ae = s.ae := (congrArg State.ae (eq h) :)
theorem placing : t.placing = s.placing := (congrArg State.placing (eq h) :)
theorem copies : t.copies = s.copies := (congrArg State.copies (eq h) :)
theorem badRows : t.badRows = s.badRows := (congrArg State.badRows (eq h) :)
theorem nextPacket : t.nextPacket = s.nextPacket := (congrArg State.nextPacket (eq h) :)
theorem freeCount : t.freeCount = s.freeCount := (congrArg State.freeCount (eq h) :)

theorem same {u : State} (k : u.quiet = t.quiet := by unfold State.quiet; rfl) : Quiet s u := Eq.trans k h

theorem trans {u : State} (k : Quiet t u) : Quiet s u := Eq.trans k h

theorem wr (o : Obj) (v inst k : Nat) : Quiet s (t.wr o v inst k) := h.same

theorem wrOctet (o : Obj) (inst k i b : Nat) : Quiet s (t.wrOctet o inst k i b) := h.wr ..

theorem bump (o : Obj) (inst k n : Nat) : Quiet s (t.bump o inst k n) := h.wr ..

theorem emit (o : Out) : Quiet s (t.emit o) := h.same

theorem later (n : Nat) (i : Instr) : Quiet s (t.later n i) := h.same

theorem setSource (key : Nat) (e : EventSource) : Quiet s (t.setSource key e) := h.same

theorem setActive (kind target : Nat) (l : List ActiveEvent) : Quiet s (t.setActive kind target l) := h.same

theorem unpresent (target : Nat) (keep : Option Nat) : Quiet s (t.unpresent target keep) := h.same
end

section
variable {s t : State}

theorem refl (s : State) : Quiet s s := rfl

theorem ite {u : State} {p : Prop} [Decidable p] (h : Quiet s t) (k : Quiet s u) : Quiet s (if p then t else u) := by
  split <;> assumption

theorem foldl {α : Type} {g : State → α → State} {l : List α} (h : Quiet s t) (hg : ∀ a x, Quiet s a → Quiet s (g a x)) : Quiet s (l.foldl g t) := by
  induction l generalizing t with
  | nil => exact h
  | cons x l ih => exact ih (hg t x h)

theorem activate (h : Quiet s t) (key kind target : Nat) : Quiet s (t.activate key kind target) := .setActive (h.setSource ..) ..

theorem presentCore (h : Quiet s t) (target : Nat) : Quiet s (t.presentCore target) :=
  .ite (by split; (exact .ite (h.unpresent ..) (.emit (.setSource (h.unpresent ..) ..) ..); exact h.unpresent ..)) (h.unpresent ..)

theorem sendVector (h : Quiet s t) (n target : Nat) : Quiet s (State.sendVector n t target) := by
  induction n generalizing t with
  | zero => exact h
  | succ n ih =>
    unfold State.sendVector
    split
    · split
      · exact ih (.emit (h.activate ..) ..)
      · exact h
    · exact h

theorem serveTarget (h : Quiet s t) (kind target : Nat) : Quiet s (t.serveTarget kind target) := .ite (h.presentCore ..) (.ite (h.sendVector ..) h)

theorem startWake (h : Quiet s t) (reason source : Nat) : Quiet s (t.startWake reason source) :=
  .ite h (.ite (.later (.later (.wr (.wr (h.wr ..) ..) ..) ..) ..) (.later (.wr (.wr (h.wr ..) ..) ..) ..))

theorem wakePackage (h : Quiet s t) (wake : Bool) (code : Nat) : Quiet s (t.wakePackage wake code) := .ite (h.startWake ..) h

theorem wakeTarget (h : Quiet s t) (kind target : Nat) : Quiet s (t.wakeTarget kind target) := .ite (.emit h.same ..) h

theorem signalPme (h : Quiet s t) (kind target : Nat) : Quiet s (t.signalPme kind target) := .ite (h.emit ..) h

theorem fire (h : Quiet s t) (d n : Nat) : Quiet s (t.fire d n) :=
  .ite h (.ite (.bump (h.setSource ..) ..) (.serveTarget (.signalPme (.wakeTarget (.wakePackage (h.setSource ..) ..) ..) ..) ..))

theorem fireLead (h : Quiet s t) (n : Nat) : Quiet s (t.fireLead n) := h.fire ..

theorem endEvent (h : Quiet s t) (kind target code : Nat) : Quiet s (t.endEvent kind target code) := .serveTarget (.setSource (h.setActive ..) ..) ..

theorem handCore (h : Quiet s t) (k : Nat) : Quiet s (t.handCore k) := .presentCore (.foldl (h.unpresent ..) fun _ _ h => h.endEvent ..) ..

theorem countRetired (h : Quiet s t) (cls : Nat) : Quiet s (t.countRetired cls) := h.wr ..

theorem lampUpdate (h : Quiet s t) : Quiet s t.lampUpdate := .ite (h.wr ..) h

theorem retire (h : Quiet s t) (cls d group unit source : Nat) : Quiet s (t.retire cls d group unit source) :=
  .ite (.lampUpdate (.fireLead (.fireLead (.countRetired h.same ..) ..) ..)) (.fireLead (.countRetired h.same ..) ..)

theorem takeCore (h : Quiet s t) (d core : Nat) : Quiet s (t.takeCore d core) := by
  unfold State.takeCore
  extract_lets _ s1 _ s2 s3
  have hs1 : Quiet s s1 := h.wrOctet ..
  have hs2 : Quiet s s2 := .ite (.fire (.wrOctet (.same hs1) ..) ..) hs1
  have hs3 : Quiet s s3 := .handCore (.retire hs2 ..) ..
  exact .ite h (.ite (.same hs3) hs3)

theorem trapCore (h : Quiet s t) (d core : Nat) : Quiet s (t.trapCore d core) := .emit (h.takeCore ..) ..

theorem pinReaction (h : Quiet s t) : Quiet s t.pinReaction := .emit (.wr (.wr h.same ..) ..) ..

theorem wakeFault (h : Quiet s t) (d source : Nat) : Quiet s (t.wakeFault d source) := .ite (h.startWake ..) h

theorem closeRecords (h : Quiet s t) : Quiet s t.closeRecords := h.same

theorem keepHistory (h : Quiet s t) (e : FaultError) : Quiet s (t.keepHistory e) := .ite h.same h

/-- A fault's reactions, where none resets a port or a fabric group: but for a reset of the engine at their end they are quiet. -/
theorem react (h : Quiet s t) {mask source : Nat} (hb : bitOf mask 2 = false ∨ 2 < source) (die location : Nat) :
    ∃ u, Quiet s u ∧ t.react mask die source location = if bitOf mask 3 then u.engineReset 3 (die * 256 + source) else u := by
  unfold State.react
  extract_lets s1 s2 s3 s4
  have hs1 : Quiet s s1 := .ite h.pinReaction h
  have hs2 : Quiet s s2 := .ite (.fire hs1 ..) hs1
  have hs3 : Quiet s s3 := .ite (.trapCore hs2 ..) hs2
  refine ⟨s4, ?_, rfl⟩
  unfold s4
  split
  · rename_i hbit
    obtain hn | hsrc := hb
    · exact absurd hbit (by simp [hn])
    · unfold State.blockReset
      rw [if_neg (by omega), if_neg (by omega), if_neg (by omega)]
      exact .emit (.ite (.same hs3) (.ite (.handCore (.same hs3) ..) hs3)) ..
  · exact hs3

theorem newRecord (h : Quiet s t) {e : FaultError} {mask : Nat} (hb : bitOf mask 2 = false ∨ 2 < e.source) :
    ∃ u, Quiet s u ∧ t.newRecord e mask = if bitOf mask 3 then u.engineReset 3 (e.die * 256 + e.source) else u :=
  Quiet.react (.keepHistory (.wr (.ite (.bump h.same ..) h.same) ..) ..) hb ..

end
end Quiet

section
variable {s : State}

/-! A fault and its reactions. -/

theorem bitOf_eq_testBit (n i : Nat) : bitOf n i = n.testBit i := by
  simp only [bitOf, Nat.testBit_eq_decide_div_mod_eq]
  rfl

theorem bitsMinus_bit {a b i : Nat} (h : bitOf a i = false) : bitOf (bitsMinus a b) i = false := by
  rw [bitOf_eq_testBit] at h ⊢
  simp [bitsMinus, h]

theorem bitOf_zero (i : Nat) : bitOf 0 i = false := by simp [bitOf]

/-- A wake writes POWER_STATE, WAKE_REASON and WAKE_SOURCE. -/
theorem startWake_rd (hs : s.sound = true) {o : Obj} {inst k : Nat} (h1 : Od.powerState.key 0 0 ≠ o.key inst k) (h2 : Od.wakeReason.key 0 0 ≠ o.key inst k)
    (h3 : Od.wakeSource.key 0 0 ≠ o.key inst k) (reason source : Nat) : (s.startWake reason source).rd o inst k = s.rd o inst k := by
  have hw : (((s.wr Od.powerState 5).wr Od.wakeReason reason).wr Od.wakeSource source).rd o inst k = s.rd o inst k := by
    have hs1 := State.sound_wr hs Od.powerState 5 0 0
    have hs2 := State.sound_wr hs1 Od.wakeReason reason 0 0
    rw [State.rd_wr_ne hs2 h3, State.rd_wr_ne hs1 h2, State.rd_wr_ne hs h1]
  unfold State.startWake
  split
  · rfl
  · dsimp only
    split
    · exact (State.rd_congr (by simp only [State.later_regs]) o inst k).trans hw
    · exact (State.rd_congr (by simp only [State.later_regs]) o inst k).trans hw

/-- The reactions that are set for an error do not change when the error wakes the package. -/
theorem reactionMask_woken (hs : s.sound = true) (d source cls : Nat) {src : Nat} (hsrc : src < 256) :
    ((s.wakeFault d source).closeRecords).reactionMask src cls = s.reactionMask src cls := by
  have hkey : Od.faultReaction.key 0 src = (0x7010 + src / 16) * 256 + (1 + src % 16) := by
    simp only [Obj.key, dictKey, Od.faultReaction]
    omega
  have hne : ∀ n, 0x900000 ≤ n → n ≠ Od.faultReaction.key 0 src := fun n hn => by omega
  have hrd : ((s.wakeFault d source).closeRecords).rd Od.faultReaction 0 src = s.rd Od.faultReaction 0 src := by
    unfold State.wakeFault
    split
    · exact startWake_rd hs (hne _ (by decide)) (hne _ (by decide)) (hne _ (by decide)) ..
    · rfl
  unfold State.reactionMask
  rw [hrd]

/-- The reactions that an error finds set, once it has woken the package. -/
def State.reactions (s : State) (e : FaultError) : Nat := ((s.wakeFault e.die e.source).closeRecords).reactionMask e.source e.cls

/-- What an error does when its reactions reset no port and no fabric group. -/
theorem recordFault_reacts (e : FaultError) (hb : bitOf (s.reactions e) 2 = false ∨ 2 < e.source) :
    ∃ u m, Quiet s u ∧ (bitOf (s.reactions e) 3 = false → bitOf m 3 = false) ∧
      s.recordFault e = if bitOf m 3 then u.engineReset 3 (e.die * 256 + e.source) else u := by
  unfold State.recordFault
  extract_lets s' mask
  have hmask : s.reactions e = mask := rfl
  have hs' : Quiet s s' := .closeRecords (.wakeFault (.refl s) ..)
  rw [hmask] at hb ⊢
  clear_value mask s'
  split
  · rename_i r _
    have hb' : bitOf (if r.cls < e.cls then bitsMinus mask r.reacted else 0) 2 = false ∨ 2 < e.source :=
      hb.imp_left fun h => by split; (exact bitsMinus_bit h; exact bitOf_zero 2)
    obtain ⟨u, hu, heq⟩ := Quiet.react (s := s) (t := { s' with recov := { s'.recov with
      log := s'.recov.log.map fun x => if x.sameFault e then x.mergeError e s'.up s'.nanoseconds mask else x } }) (.same hs') hb' e.die e.location
    exact ⟨u, _, hu, fun h => by split; (exact bitsMinus_bit h; exact bitOf_zero 3), heq⟩
  · split
    · obtain ⟨u, hu, heq⟩ := Quiet.react (s := s) (t := ({ s' with recov := { s'.recov with
        overflow := e.die :: s'.recov.overflow.filter (· ≠ e.die) } } : State).bump Od.faultOverflow (dieInst e.die)) (.bump (.same hs') ..) hb e.die e.location
      exact ⟨u, mask, hu, id, heq⟩
    · obtain ⟨u, hu, heq⟩ := Quiet.newRecord hs' hb
      exact ⟨u, mask, hu, id, heq⟩

/-- The same of a sound state, where what wakes the package leaves the reactions that are set. -/
theorem recordFault_quiet (hs : s.sound = true) (e : FaultError) (hsrc : e.source < 256)
    (hb : bitOf (s.reactionMask e.source e.cls) 2 = false ∨ 2 < e.source) :
    ∃ u m, Quiet s u ∧ (bitOf (s.reactionMask e.source e.cls) 3 = false → bitOf m 3 = false) ∧
      s.recordFault e = if bitOf m 3 then u.engineReset 3 (e.die * 256 + e.source) else u := by
  have hmask : s.reactions e = s.reactionMask e.source e.cls := reactionMask_woken hs _ _ _ hsrc
  rw [← hmask] at hb ⊢
  exact recordFault_reacts e hb

end
end Sys2Proof.Machine
end

section
namespace Sys2Proof.Machine
section
variable {s : State}

/-! The entry steps of a power state. -/

theorem exec_powerEntryStep (hst : s.stopped = false) (hk : s.power.entryStep ≠ 0) (hd : s.stepDrained = true) : exec .powerEntryStep s = .next (
    if s.endEntryStep.rd Od.powerState = 5 then
      (if s.power.entryStep < 5 then
        ({ s.endEntryStep with power := { s.endEntryStep.power with entryStep := 0, target := if s.power.entryStep < 5 then 2 else 4 } } : State).later 0 .smoulderWake
      else { s.endEntryStep with power := { s.endEntryStep.power with entryStep := 0, target := if s.power.entryStep < 5 then 2 else 4 } })
    else if s.power.entryStep = 3 ∧ s.endEntryStep.power.target = 2 then
      ({ s.endEntryStep with power := { s.endEntryStep.power with entryStep := 0 } } : State).toPower 2
    else if s.power.entryStep = 3 then s.endEntryStep.toEntryStep 5 0
    else if s.power.entryStep = 5 then s.endEntryStep.toEntryStep 6 2000000000
    else if s.power.entryStep = 6 then ({ s.endEntryStep with power := { s.endEntryStep.power with entryStep := 0 } } : State).toPower 4
    else s.endEntryStep.toEntryStep (s.power.entryStep + 1) (if s.power.entryStep = 1 then 1000000 else 0)) := by
  refine (running_live hst _).trans (congrArg _ ?_)
  dsimp only
  rw [if_neg hk, if_neg (by simp [hd])]

theorem foldl_idle {α : Type} {g : State → α → State} {l : List α} (h : ∀ x ∈ l, g s x = s) : l.foldl g s = s := by
  induction l with
  | nil => rfl
  | cons x l ih =>
    rw [List.foldl_cons, h x List.mem_cons_self]
    exact ih fun y hy => h y (List.mem_cons_of_mem _ hy)

/-- With no punt queued and no sample held there is nothing to drop. -/
theorem dropDeliveries_none (hp : s.part.dies.all (fun d => s.puntOrder d = []) = true) (hc : s.ctrs.samples = []) : s.dropDeliveries = s := by
  have hp' : ∀ d ∈ s.part.dies, s.puntOrder d = [] := by simpa using hp
  have hfold : (s.part.dies.foldl (fun (a : State) d =>
      (a.puntOrder d).foldl (fun (b : State) e => (b.bump Od.puntDropRate (dieInst d) (e.2.reason % 64)).leavePunt e.1 e.2) a) s) = s :=
    foldl_idle fun d hd => by rw [hp' d hd]; rfl
  unfold State.dropDeliveries
  rw [hfold]
  dsimp only
  rw [hc]
  rfl

theorem endEntryStep_two (h : s.power.entryStep = 2) : s.endEntryStep = s.dropDeliveries := by
  unfold State.endEntryStep
  rw [if_neg (by omega), if_pos h]

theorem endEntryStep_other (h1 : s.power.entryStep ≠ 1) (h2 : s.power.entryStep ≠ 2) (h5 : s.power.entryStep ≠ 5) : s.endEntryStep = s := by
  unfold State.endEntryStep
  rw [if_neg h1, if_neg h2, if_neg h5]

theorem stepDrained_other (h1 : s.power.entryStep ≠ 1) (h2 : s.power.entryStep ≠ 2) : s.stepDrained = true := by
  unfold State.stepDrained
  rw [if_neg h1, if_neg h2]

theorem startWake_banked (h4 : s.rd Od.powerState = 4) (reason source : Nat) : s.startWake reason source =
    (((s.wr Od.powerState 5).wr Od.wakeReason reason).wr Od.wakeSource source).later 0 (.eventFire (s.rd Od.leadDie) 0x162) := by
  unfold State.startWake
  rw [if_neg (by omega)]
  dsimp only
  rw [if_neg (by omega)]

/-! The throttle. -/

theorem withDie_live {d : Nat} (hd : s.hasDie d = true) (hst : s.stopped = false) (t : State) : withDie s d t = .next t := by
  unfold withDie
  rw [if_pos hd, running_live hst]

theorem exec_throttleRelax {d at_ : Nat} (hst : s.stopped = false) (hd : s.hasDie d = true) (hc : sparseFind? s.power.coolSince d = some at_) :
    exec (.throttleRelaxExpire d) s = .next (if s.rd Od.throttleMode = 0 ∧ at_ + 10000000 ≤ s.up ∧ 0 < s.stepOf d then
        (if 0 < s.stepOf d - 1 ∧ sparseGet (fun _ => 0) (s.decideThrottle d (s.stepOf d - 1)).power.hottest d < stepRelax (s.stepOf d - 1) then
          ({ s.decideThrottle d (s.stepOf d - 1) with power := { (s.decideThrottle d (s.stepOf d - 1)).power with
            coolSince := sparsePut (s.decideThrottle d (s.stepOf d - 1)).power.coolSince d (s.decideThrottle d (s.stepOf d - 1)).up } } : State).later 10000000
              (.throttleRelaxExpire d)
        else s.decideThrottle d (s.stepOf d - 1))
      else s) := by
  refine (withDie_live hd hst _).trans (congrArg _ ?_)
  rw [hc]

theorem throttleRelax_idle {d : Nat} (hst : s.stopped = false) (hd : s.hasDie d = true) (h : sparseFind? s.power.coolSince d = none ∨
    s.rd Od.throttleMode ≠ 0 ∨ s.stepOf d = 0 ∨ (∃ at_, sparseFind? s.power.coolSince d = some at_ ∧ s.up < at_ + 10000000)) :
    exec (.throttleRelaxExpire d) s = .next s := by
  cases hc : sparseFind? s.power.coolSince d with
  | none =>
    refine (withDie_live hd hst _).trans (congrArg _ ?_)
    rw [hc]
  | some at_ =>
    rw [exec_throttleRelax hst hd hc, if_neg]
    rintro ⟨hm, hup, hpos⟩
    rcases h with h | h | h | ⟨x, hx, hlt⟩
    · simp [hc] at h
    · exact h hm
    · omega
    · rw [hc, Option.some.injEq] at hx
      omega

theorem exec_throttleStep {d k : Nat} (hst : s.stopped = false) (hd : s.hasDie d = true) (hk : sparseFind? s.power.decided d = some k)
    (hne : s.rd Od.searchThrottleStep (dieInst d) ≠ k) : exec (.throttleStep d) s =
      .next ((((({ s with power := { s.power with decided := sparseErase s.power.decided d } } : State).wr Od.searchThrottleStep k (dieInst d)).bump
        Od.throttleChanges (dieInst d)).fire d 0x160).driveAlert s) := by
  refine (withDie_live hd hst _).trans (congrArg _ ?_)
  rw [hk]
  dsimp only
  rw [if_neg hne]

/-! Sensors and rails. -/

/-- The readings of a die after a sample. -/
def State.readings (s : State) (d : Nat) (t : Int) : State :=
  { s with power := { s.power with
    hottest := sparsePut s.power.hottest d t, peak := sparsePut s.power.peak d (max t ((sparseFind? s.power.peak d).getD t)),
    tooHot := sparseSet (fun _ => false) s.power.tooHot d (decide (1050 < t) && decide (s.rd Od.bootStage ≠ 0)) } }

/-- The state in which a sample has been shown, before the throttle looks at it. -/
def State.sampled (s : State) (d : Nat) (t : Int) : State :=
  ((s.readings d t).wr Od.tjMax (ofSigned 32 t) (dieInst d)).wr Od.tjPeak (ofSigned 32 (max t ((sparseFind? s.power.peak d).getD t))) (dieInst d)

/-- A sample above the limit is counted, and its first raises its event. -/
def State.warnHot (s old : State) (d : Nat) (above : Bool) : State :=
  let s1 := if above then s.bump Od.thermalOverLimitTime (dieInst d) 0 20 else s
  if above && !(sparseGet (fun _ => false) old.power.tooHot d) then s1.fire d 0x161 else s1

theorem exec_thermalSample {d : Nat} {first : Int} {rest : List Int} (hst : s.stopped = false) (hd : s.hasDie d = true) {u : State}
    (hu : u = (s.sampled d (rest.foldl max first)).warnHot s d (decide (1050 < rest.foldl max first) && decide (s.rd Od.bootStage ≠ 0))) :
    exec (.thermalSample d (first :: rest)) s =
      .next ((if u.rd Od.throttleMode = 0 ∧ u.rd Od.bootStage ≠ 0 then u.autoThrottle d (rest.foldl max first) else u).driveAlert s) := by
  subst hu
  exact withDie_live hd hst _

theorem driveAlert_keeps (s old : State) : (s.driveAlert old).regs = s.regs ∧ (s.driveAlert old).power = s.power ∧ (s.driveAlert old).dict = s.dict ∧
    (s.driveAlert old).packets = s.packets := by
  unfold State.driveAlert
  split <;> exact ⟨rfl, rfl, rfl, rfl⟩

theorem readings_sound (hs : s.sound = true) (d : Nat) (t : Int) : (s.readings d t).sound = true := hs

theorem sampled_shows (hs : s.sound = true) (d : Nat) (t : Int) : (s.sampled d t).rd Od.tjMax (dieInst d) = ofSigned 32 t ∧
    (s.sampled d t).rd Od.tjPeak (dieInst d) = ofSigned 32 (max t ((sparseFind? s.power.peak d).getD t)) := by
  have hk : Od.tjPeak.key (dieInst d) 0 ≠ Od.tjMax.key (dieInst d) 0 := by
    simp only [Obj.key, dictKey, Od.tjPeak, Od.tjMax]
    omega
  unfold State.sampled
  constructor
  · rw [State.rd_wr_ne (State.sound_wr (readings_sound hs d t) _ _ _ _) hk, State.rd_wr_same (readings_sound hs d t)]
  · rw [State.rd_wr_same (State.sound_wr (readings_sound hs d t) _ _ _ _)]

/-- A sample writes registers of its die alone. -/
theorem sampled_bootStage (hs : s.sound = true) (d : Nat) (t : Int) : (s.sampled d t).rd Od.bootStage = s.rd Od.bootStage := by
  have hk : Od.bootStage.key 0 0 < 0x1000000 := by decide
  have h1 : Od.tjPeak.key (dieInst d) 0 ≠ Od.bootStage.key 0 0 := by
    simp only [Obj.key, dictKey, dieInst] at hk ⊢
    omega
  have h2 : Od.tjMax.key (dieInst d) 0 ≠ Od.bootStage.key 0 0 := by
    simp only [Obj.key, dictKey, dieInst] at hk ⊢
    omega
  unfold State.sampled
  rw [State.rd_wr_ne (State.sound_wr (readings_sound hs d t) _ _ _ _) h1, State.rd_wr_ne (readings_sound hs d t) h2]
  rfl

theorem exec_bankedWake {n : Nat} {t : State} (hst : s.stopped = false) (h5 : s.rd Od.powerState = 5) (h0 : s.power.entryStep = 0) (h4 : s.power.target = 4)
    (ht : t = ((s.keepLateRails.emberTime n).emptyCustomerCode.resume).retimeTimers true) :
    exec (.bankedWake n) s = .next { t with recov := { t.recov with lampRefreshed := t.up } } := by
  show execBankedWake n s = _
  unfold execBankedWake
  rw [running_live hst, if_pos ⟨h5, h0, h4⟩, ht]

/-- Before a host die has booted a sample is shown and nothing else. -/
theorem thermalSample_boot (hs : s.sound = true) {d : Nat} {t : Int} (hst : s.stopped = false) (hd : s.hasDie d = true) (h0 : s.rd Od.bootStage = 0) :
    Runs (.thermalSample d [t]) s fun u => u.rd Od.tjMax (dieInst d) = ofSigned 32 t ∧
      u.rd Od.tjPeak (dieInst d) = ofSigned 32 (max t ((sparseFind? s.power.peak d).getD t)) ∧ sparseFind? u.power.hottest d = some t ∧
      u.power.decided = s.power.decided ∧ u.dict = s.dict ∧ u.packets = s.packets := by
  have hu : s.sampled d t = (s.sampled d ([].foldl max t)).warnHot s d (decide (1050 < [].foldl max t) && decide (s.rd Od.bootStage ≠ 0)) := by
    rw [h0]
    simp [State.warnHot]
  have hex := exec_thermalSample hst hd hu
  rw [sampled_bootStage hs, h0, if_neg (by simp)] at hex
  obtain ⟨hregs, hpower, hdict, hpk⟩ := driveAlert_keeps (s.sampled d t) s
  obtain ⟨hmax, hpeak⟩ := sampled_shows hs d t
  refine ⟨_, hex, (State.rd_congr hregs _ _ _).trans hmax, (State.rd_congr hregs _ _ _).trans hpeak, ?_, (congrArg Power.decided hpower :), hdict, hpk⟩
  rw [hpower]
  exact (sparseFind?_put ..).trans (if_pos rfl)

/-! A junction that is too hot, and rails. -/

theorem squelch_quiet {t : State} (h : Quiet s t) : Quiet s ((List.range 512).foldl (fun (a : State) n =>
    if a.hasDie (n / 64) ∧ a.portModeOf n ≠ 0 then a.emit (.link 2 n []) else a) t) :=
  h.foldl fun _ _ ha => .ite (ha.emit ..) ha

/-- A fault of source 0x18 has reactions PIN and INT, whatever FAULT_REACTION says (R460). -/
theorem fault_junction (hs : s.sound = true) (d cls location d0 : Nat) : Quiet s (s.fault d 0x18 cls location d0) := by
  have hm : s.reactionMask 0x18 cls = 0x11 := if_pos rfl
  obtain ⟨u, m, hu, h3, heq⟩ := recordFault_quiet hs
    { die := d, source := 0x18, cls := cls, location := location, detail0 := d0, detail1 := 0, spareUsed := false, repairing := false } (show 0x18 < 256 by decide)
    (.inr (show 2 < 0x18 by decide))
  have hm3 : bitOf m 3 = false := h3 (by rw [hm]; decide)
  rw [if_neg (by simp [hm3])] at heq
  have hf : s.fault d 0x18 cls location d0 = u := heq
  rw [hf]
  exact hu

theorem junctionTrip_runs (hs : s.sound = true) {d sensor temp : Nat} (hd : s.hasDie d = true) (ht : 1100 ≤ temp) (htrip : s.recov.trip = false) :
    Runs (.junctionTrip d sensor temp) s fun u => u.recov.trip = true ∧ u.stopped = true ∧ u.power.tripSensor = sensor ∧ u.packets = s.packets ∧
      u.tables = s.tables := by
  have hq := squelch_quiet (fault_junction hs d 3 sensor temp)
  have hex : exec (.junctionTrip d sensor temp) s = .next _ :=
    (if_neg (by simp [hd])).trans (if_neg (show ¬(temp < 1100 ∨ s.recov.trip = true) by simp [htrip]; omega))
  refine ⟨_, hex, ?_⟩
  dsimp only
  generalize (List.range 512).foldl (fun (a : State) n =>
    if a.hasDie (n / 64) ∧ a.portModeOf n ≠ 0 then a.emit (.link 2 n []) else a) (s.fault d 0x18 3 sensor temp) = u at hq
  unfold State.driveAlert
  split <;> exact ⟨rfl, rfl, rfl, hq.packets, hq.tables⟩

/-- A rail that leaves its limits raises a fault, whose reset of the engine keeps the rails. -/
theorem fault_rail (hs : s.sound = true) (d rail : Nat) : ∃ u m, Quiet s u ∧ (bitOf (s.reactionMask 0x19 3) 3 = false → bitOf m 3 = false) ∧
    s.fault d 0x19 3 rail = if bitOf m 3 then u.engineReset 3 (d * 256 + 0x19) else u :=
  recordFault_quiet hs { die := d, source := 0x19, cls := 3, location := rail, detail0 := 0, detail1 := 0, spareUsed := false, repairing := false }
    (show 0x19 < 256 by decide) (.inr (show 2 < 0x19 by decide))

theorem exec_railFault {rail : Nat} {t : State} (hr : rail < 8) (hc : s.power.railsOut.contains rail = false)
    (ht : (if decide (s.rd Od.powerState = 4) || s.boot.held then s else s.fault (s.rd Od.leadDie) 0x19 3 rail) = t) :
    exec (.railFault rail) s = .next { t with
      power := { t.power with railsOut := rail :: t.power.railsOut,
                              railsLate := if decide (s.rd Od.powerState = 4) then t.power.railsLate ++ [rail] else t.power.railsLate }
      boot := { t.boot with held := true } } := by
  show execRailFault rail s = _
  unfold execRailFault
  rw [if_neg (by omega), if_neg (by simp only [hc]; decide)]
  dsimp only
  rw [ht]
  simp only [decide_eq_true_eq]

theorem railFault_runs (hs : s.sound = true) {rail : Nat} (hr : rail < 8) (hc : s.power.railsOut.contains rail = false) (hp : s.rd Od.powerState ≠ 4) :
    Runs (.railFault rail) s fun u => u.boot.held = true ∧ u.stopped = true ∧ u.power.railsOut = rail :: s.power.railsOut ∧
      u.power.railsLate = s.power.railsLate ∧
      (bitOf (s.reactionMask 0x19 3) 3 = false → u.packets = s.packets ∧ u.tables = s.tables ∧ u.dict = s.dict ∧ u.time = s.time) := by
  have hk : ∃ t, (if decide (s.rd Od.powerState = 4) || s.boot.held then s else s.fault (s.rd Od.leadDie) 0x19 3 rail) = t ∧
      t.power.railsOut = s.power.railsOut ∧ t.power.railsLate = s.power.railsLate ∧ (bitOf (s.reactionMask 0x19 3) 3 = false → Quiet s t) := by
    refine ⟨_, rfl, ?_⟩
    split
    · exact ⟨rfl, rfl, fun _ => .refl s⟩
    · obtain ⟨u, m, hu, h3, heq⟩ := fault_rail hs (s.rd Od.leadDie) rail
      rw [heq]
      split
      · rename_i hm
        exact ⟨show u.power.railsOut = _ from congrArg Power.railsOut hu.power, show u.power.railsLate = _ from congrArg Power.railsLate hu.power,
          fun h => absurd hm (by simp [h3 h])⟩
      · exact ⟨congrArg Power.railsOut hu.power, congrArg Power.railsLate hu.power, fun _ => hu⟩
  obtain ⟨t, ht, hout, hlate, hq⟩ := hk
  have hex := exec_railFault hr hc ht
  rw [if_neg (by simpa using hp)] at hex
  exact ⟨_, hex, rfl, by simp [State.stopped], congrArg _ hout, hlate, fun h => ⟨(hq h).packets, (hq h).tables, (hq h).dict, (hq h).time⟩⟩

theorem railFault_banked {rail : Nat} (hr : rail < 8) (hc : s.power.railsOut.contains rail = false) (hp : s.rd Od.powerState = 4) :
    exec (.railFault rail) s = .next { s with
      power := { s.power with railsOut := rail :: s.power.railsOut, railsLate := s.power.railsLate ++ [rail] }, boot := { s.boot with held := true } } := by
  have hex := exec_railFault (t := s) hr hc (by simp [hp])
  rw [if_pos (by simpa using hp)] at hex
  exact hex

end

/-- Settles O22: each row follows the branches of its command; what a fault or a fire of events leaves alone comes from `Quiet`. -/
theorem powerAndHeat : Obligations.PowerAndHeat := by
  refine ⟨fun s hs hst => ⟨fun h2 h3 hd hp hc => ?_, fun h3 ht hp => ?_, fun h6 hp => ?_, fun h0 => ?_, fun k s1 hk hk0 hd hs1 => ⟨fun h5 => ⟨fun hlt => ?_, fun hge => ?_⟩,
      fun h5 => ⟨fun h3 ht => ?_, fun h3 h6 => ?_⟩⟩, fun hk hd => ?_, fun us hus h4 => ?_, fun us h => ?_, fun h5 h0 ht => ?_, fun t s' h5 h0 ht hs' => ?_,
      fun d rail hd hr => ?_, fun d k hd hk hne s1 hs1 => ?_, fun d hd hn => ?_, fun d k s1 hd hc hm hup h2 hs1 => ⟨fun hr => ?_, fun hr => ?_⟩,
      fun d at_ hd hc hm hup h1 => ?_, fun d hd h => throttleRelax_idle hst hd h⟩, fun s hs => ⟨fun d t hst hd h0 => ?_,
      fun d first rest hst hd t peak above ht hpk hab s1 s2 s3 hs1 hs2 hs3 => ?_, fun d hst hd => ?_, fun d sensor temp hd hlt htrip => ?_, fun d sensor temp hd h => ?_,
      fun rail hr hc hp => ?_, fun rail hr hc hp => ?_, fun rail hr hc => ?_, fun rail hr => ?_, fun rail left hr hl s1 hs1 => ⟨fun hne => ?_, fun hnil s2 hs2 => ?_⟩⟩⟩
  · rw [exec_powerEntryStep hst (by omega) hd, endEntryStep_two h2, dropDeliveries_none hp hc, if_neg (by omega), if_neg (by omega), if_neg (by omega),
      if_neg (by omega), if_neg (by omega), h2, if_neg (by decide)]
    rfl
  · rw [exec_powerEntryStep hst (by omega) (stepDrained_other (by omega) (by omega)), endEntryStep_other (by omega) (by omega) (by omega), if_neg (by omega),
      if_pos ⟨h3, ht⟩]
  · rw [exec_powerEntryStep hst (by omega) (stepDrained_other (by omega) (by omega)), endEntryStep_other (by omega) (by omega) (by omega), if_neg (by omega),
      if_neg (by omega), if_neg (by omega), if_neg (by omega), if_pos h6]
  · exact (running_live hst _).trans (congrArg _ (if_pos h0))
  · subst hk hs1
    rw [exec_powerEntryStep hst hk0 hd, if_pos h5, if_pos hlt, if_pos hlt]
  · subst hk hs1
    rw [exec_powerEntryStep hst hk0 hd, if_pos h5, if_neg (by omega), if_neg (by omega)]
  · subst hk hs1
    rw [exec_powerEntryStep hst hk0 hd, if_neg h5, if_neg (fun h => ht h.2), if_pos h3]
  · subst hk hs1
    rw [exec_powerEntryStep hst hk0 hd, if_neg h5, if_neg (fun h => h3 h.1), if_neg h3]
    by_cases h5' : s.power.entryStep = 5
    · rw [if_pos h5', h5', if_neg (by decide), if_pos rfl]
    · rw [if_neg h5', if_neg h6, if_neg h5']
  · exact (running_live hst _).trans (congrArg _ ((if_neg hk).trans (if_pos hd)))
  · exact (running_live hst _).trans (congrArg _ ((if_neg (Nat.not_lt.mpr hus)).trans (startWake_banked h4 _ _)))
  · refine (running_live hst _).trans (congrArg _ ?_)
    rcases h with h | h
    · exact if_pos h
    · split
      · rfl
      · exact if_pos (.inl h)
  · show execSmoulderWake s = _
    unfold execSmoulderWake
    rw [running_live hst, if_pos ⟨h5, h0, by omega⟩]
  · exact exec_bankedWake hst h5 h0 ht hs'
  · exact (withDie_live hd hst _).trans (congrArg _ (if_pos hr))
  · subst hs1
    exact exec_throttleStep hst hd hk hne
  · refine (withDie_live hd hst _).trans (congrArg _ ?_)
    rw [hn]
  · subst hs1
    rw [exec_throttleRelax hst hd hc, if_pos ⟨hm, hup, by omega⟩, if_neg (by omega)]
  · subst hs1
    rw [exec_throttleRelax hst hd hc, if_pos ⟨hm, hup, by omega⟩, if_pos ⟨by omega, hr⟩]
  · rw [exec_throttleRelax hst hd hc, if_pos ⟨hm, hup, by omega⟩, h1, if_neg (by omega)]
  · exact thermalSample_boot hs hst hd h0
  · subst ht hpk hab hs1 hs2 hs3
    refine exec_thermalSample hst hd ?_
    unfold State.warnHot State.sampled State.readings
    simp only [Bool.and_eq_true, Bool.not_eq_true']
  · exact withDie_live hd hst _
  · exact junctionTrip_runs hs hd hlt htrip
  · exact (if_neg (by simp [hd])).trans (if_pos h)
  · exact railFault_runs hs hr hc hp
  · exact railFault_banked hr hc hp
  · exact (if_neg (by omega)).trans (if_pos (by simpa using hc))
  · exact if_pos (by simpa using hr)
  · subst hl hs1
    exact (if_neg (by simpa using hr)).trans (if_pos hne)
  · subst hl hs1 hs2
    exact (if_neg (by simpa using hr)).trans (if_neg (not_not_intro hnil))
end Sys2Proof.Machine
end

section
namespace Sys2Proof.Machine

-- Many short lemmas: in turn, as each thread of its own takes stack.
set_option Elab.async false

/-! What a function reset leaves after its queues have been cleared: every register of a queue, the pairing of the interfaces, what has been sent, and the
parts that no event and no pool touches. -/

/-- The registers of queues, and those of the pairing of the PCIe interfaces. -/
def QueueOrPair (j : Nat) : Prop := 0x2000 ≤ j / 16777216 % 65536 ∨ j = Od.pciePairing.key 0 0 ∨ j = Od.pcieActiveDie.key 0 0

theorem not_queueOrPair {o : Obj} {inst k : Nat} (hi : inst < 0x2000 := by decide) (hlt : o.key 0 k < 16777216 := by decide)
    (h1 : o.key 0 k ≠ Od.pciePairing.key 0 0 := by decide) (h2 : o.key 0 k ≠ Od.pcieActiveDie.key 0 0 := by decide) : ¬QueueOrPair (o.key inst k) := by
  have hkey : o.key inst k = inst * 16777216 + o.key 0 k := by
    simp only [Obj.key, dictKey]
    omega
  have hp : Od.pciePairing.key 0 0 = 0xA00101 := by decide
  have ha : Od.pcieActiveDie.key 0 0 = 0xA00102 := by decide
  rw [hp] at h1
  rw [ha] at h2
  unfold QueueOrPair
  rw [hkey, hp, ha]
  omega

/-- `t` comes from `s` by steps that write no register of a queue or of the pairing. -/
structure FunctionKept (s t : State) : Prop where
  rising : sparseRising none t.regs = true
  held : ∀ j, QueueOrPair j → sparseGet Od.defaultAt t.regs j = sparseGet Od.defaultAt s.regs j
  sent : ∀ o ∈ s.out, o ∈ t.out
  part : t.part = s.part
  packets : t.packets = s.packets
  tables : t.tables = s.tables
  time : t.time = s.time
  rings : t.rings = s.rings
  dict : t.dict = s.dict

namespace FunctionKept
section
variable {s t : State}

theorem refl (h : sparseRising none s.regs = true) : FunctionKept s s := ⟨h, fun _ _ => rfl, fun _ h => h, rfl, rfl, rfl, rfl, rfl, rfl⟩

theorem ite {u : State} {p : Prop} [Decidable p] (h : FunctionKept s t) (k : FunctionKept s u) : FunctionKept s (if p then t else u) := by
  split <;> assumption

theorem foldl {α : Type} {g : State → α → State} {l : List α} (h : FunctionKept s t) (hg : ∀ a, ∀ x ∈ l, FunctionKept s a → FunctionKept s (g a x)) :
    FunctionKept s (l.foldl g t) := by
  induction l generalizing t with
  | nil => exact h
  | cons x l ih => exact ih (hg t x List.mem_cons_self h) fun a y hy => hg a y (List.mem_cons_of_mem _ hy)

variable (h : FunctionKept s t)
include h

theorem activeDie : t.rd Od.pcieActiveDie = s.rd Od.pcieActiveDie := h.held _ (.inr (.inr rfl))

theorem trans {u : State} (k : FunctionKept t u) : FunctionKept s u :=
  ⟨k.rising, fun j hj => (k.held j hj).trans (h.held j hj), fun o ho => k.sent o (h.sent o ho), k.part.trans h.part, k.packets.trans h.packets,
    k.tables.trans h.tables, k.time.trans h.time, k.rings.trans h.rings, k.dict.trans h.dict⟩

theorem wr {o : Obj} {inst k : Nat} (v : Nat) (hn : ¬QueueOrPair (o.key inst k) := by exact not_queueOrPair) : FunctionKept s (t.wr o v inst k) where
  rising := sparseRising_wr o v inst k h.rising
  held j hj := (State.regs_wr t o v inst k j h.rising).trans ((if_neg fun e : o.key inst k = j => hn (e ▸ hj)).trans (h.held j hj))
  sent := h.sent
  part := h.part
  packets := h.packets
  tables := h.tables
  time := h.time
  rings := h.rings
  dict := h.dict

theorem emit (o : Out) : FunctionKept s (t.emit o) where
  rising := h.rising
  held := h.held
  sent x hx := List.mem_cons_of_mem _ (h.sent x hx)
  part := h.part
  packets := h.packets
  tables := h.tables
  time := h.time
  rings := h.rings
  dict := h.dict

theorem same {u : State} (k : ({ u with events := t.events, agenda := t.agenda, bufs := t.bufs, fams := t.fams } : State) = t := by rfl) : FunctionKept s u where
  rising := (congrArg State.regs k :).symm ▸ h.rising
  held j hj := (congrArg (fun v : State => sparseGet Od.defaultAt v.regs j) k :).trans (h.held j hj)
  sent x hx := (congrArg State.out k :).symm ▸ h.sent x hx
  part := (congrArg State.part k :).trans h.part
  packets := (congrArg State.packets k :).trans h.packets
  tables := (congrArg State.tables k :).trans h.tables
  time := (congrArg State.time k :).trans h.time
  rings := (congrArg State.rings k :).trans h.rings
  dict := (congrArg State.dict k :).trans h.dict

theorem setSource (key : Nat) (e : EventSource) : FunctionKept s (t.setSource key e) := h.same

theorem setActive (kind target : Nat) (l : List ActiveEvent) : FunctionKept s (t.setActive kind target l) := h.same

theorem unpresent (target : Nat) (keep : Option Nat) : FunctionKept s (t.unpresent target keep) := h.same

theorem later (n : Nat) (i : Instr) : FunctionKept s (t.later n i) := h.same

theorem setEnabling (k fn : Nat) : FunctionKept s (t.setEnabling k fn) := h.same

theorem setPoolBuffer (k b : Nat) (x : PoolBuffer) : FunctionKept s (t.setPoolBuffer k b x) := h.same

theorem setFam (f : Nat) (x : Family) : FunctionKept s (t.setFam f x) := h.same

end

section
variable {s t : State}

theorem activate (h : FunctionKept s t) (key kind target : Nat) : FunctionKept s (t.activate key kind target) := .setActive (h.setSource ..) ..

theorem presentCore (h : FunctionKept s t) (target : Nat) : FunctionKept s (t.presentCore target) :=
  .ite (by split; (exact .ite (h.unpresent ..) (.emit (.setSource (h.unpresent ..) ..) ..); exact h.unpresent ..)) (h.unpresent ..)

theorem sendVector (h : FunctionKept s t) (n target : Nat) : FunctionKept s (State.sendVector n t target) := by
  induction n generalizing t with
  | zero => exact h
  | succ n ih =>
    unfold State.sendVector
    split
    · split
      · exact ih (.emit (h.activate ..) ..)
      · exact h
    · exact h

theorem serveTarget (h : FunctionKept s t) (kind target : Nat) : FunctionKept s (t.serveTarget kind target) :=
  .ite (h.presentCore ..) (.ite (h.sendVector ..) h)

theorem startWake (h : FunctionKept s t) (reason source : Nat) : FunctionKept s (t.startWake reason source) :=
  .ite h (.ite (.later (.later (.wr (.wr (h.wr _) _) _) ..) ..) (.later (.wr (.wr (h.wr _) _) _) ..))

theorem wakePackage (h : FunctionKept s t) (wake : Bool) (code : Nat) : FunctionKept s (t.wakePackage wake code) := .ite (h.startWake ..) h

theorem wakeTarget (h : FunctionKept s t) (kind target : Nat) : FunctionKept s (t.wakeTarget kind target) := .ite (.emit h.same ..) h

theorem signalPme (h : FunctionKept s t) (kind target : Nat) : FunctionKept s (t.signalPme kind target) := .ite (h.emit ..) h

theorem fire (h : FunctionKept s t) (d n : Nat) : FunctionKept s (t.fire d n) := by
  unfold State.fire
  dsimp only
  split
  · exact h
  · rename_i hc
    have hd : t.hasDie d = true := by
      simp only [Bool.or_eq_true, Bool.not_eq_true', not_or, Bool.not_eq_false, State.sourceExists, Bool.and_eq_true] at hc
      exact hc.1.1.1.1
    have hlt := hasDie_lt hd
    split
    · exact .wr (h.setSource ..) _ (not_queueOrPair (dieInst_lt hlt))
    · exact .serveTarget (.signalPme (.wakeTarget (.wakePackage (h.setSource ..) ..) ..) ..) ..

theorem fireLead (h : FunctionKept s t) (n : Nat) : FunctionKept s (t.fireLead n) := h.fire ..

theorem endEvent (h : FunctionKept s t) (kind target code : Nat) : FunctionKept s (t.endEvent kind target code) :=
  .serveTarget (.setSource (h.setActive ..) ..) ..

theorem dropName (h : FunctionKept s t) {o : Obj} {inst k : Nat} (fn : Nat) (hn : ¬QueueOrPair (o.key inst k)) :
    FunctionKept s (if t.rd o inst k ≠ 0xFFFF ∧ t.cqOwnerOf o inst k = fn then t.wr o 0xFFFF inst k else t) := .ite (h.wr _ hn) h

theorem dropCqNames (h : FunctionKept s t) (fn : Nat) : FunctionKept s (t.dropCqNames fn) := by
  unfold State.dropCqNames
  refine .foldl (.foldl (.dropName (.dropName h fn not_queueOrPair) fn not_queueOrPair) fun a r hr ha => .dropName ha fn ?_) fun a d hd ha =>
    .dropName ha fn (not_queueOrPair (dieInst_lt (List.mem_range.mp hd)))
  have hkey : Od.puntRing.key 0 r = 0xA10001 + r * 256 := by
    simp only [Obj.key, dictKey, Od.puntRing]
    omega
  have hr' := List.mem_range.mp hr
  have hp : Od.pciePairing.key 0 0 = 0xA00101 := by decide
  have ha : Od.pcieActiveDie.key 0 0 = 0xA00102 := by decide
  exact not_queueOrPair (by decide) (by omega) (by omega) (by omega)

theorem not_pool {o : Obj} {k : Nat} (ho : ∃ n, n < 256 ∧ o.key 0 k = 0x610000 + k * 256 + n) (hk : k < 64) : ¬QueueOrPair (o.key 0 k) := by
  obtain ⟨n, hn, hkey⟩ := ho
  have hp : Od.pciePairing.key 0 0 = 0xA00101 := by decide
  have ha : Od.pcieActiveDie.key 0 0 = 0xA00102 := by decide
  exact not_queueOrPair (by decide) (by omega) (by omega) (by omega)

theorem poolState_key (k : Nat) : ∃ n, n < 256 ∧ Od.poolState.key 0 k = 0x610000 + k * 256 + n :=
  ⟨6, by decide, by simp only [Obj.key, dictKey, Od.poolState]; omega⟩

theorem poolEnable_key (k : Nat) : ∃ n, n < 256 ∧ Od.poolEnable.key 0 k = 0x610000 + k * 256 + n :=
  ⟨5, by decide, by simp only [Obj.key, dictKey, Od.poolEnable]; omega⟩

theorem poolFunction_key (k : Nat) : ∃ n, n < 256 ∧ Od.poolFunction.key 0 k = 0x610000 + k * 256 + n :=
  ⟨7, by decide, by simp only [Obj.key, dictKey, Od.poolFunction]; omega⟩

theorem settlePool (h : FunctionKept s t) {k : Nat} (hk : k < 64) : FunctionKept s (t.settlePool k) :=
  .ite h (.ite (.wr (h.wr _ (not_pool (poolState_key k) hk)) _ (not_pool (poolFunction_key k) hk))
    (.ite (.setEnabling (.wr (h.wr _ (not_pool (poolState_key k) hk)) _ (not_pool (poolFunction_key k) hk)) ..) h))

theorem resetPools (h : FunctionKept s t) (fn : Nat) : FunctionKept s (t.resetPools fn) :=
  h.foldl fun _ _ hk ha => .ite (.settlePool (ha.foldl fun _ _ _ hb => hb.setPoolBuffer ..) (List.mem_range.mp hk)) ha

theorem disablePools (h : FunctionKept s t) (fn : Nat) : FunctionKept s (t.disablePools fn) :=
  h.foldl fun _ k hk ha => .ite (.wr (.wr (.wr (ha.resetPools ..) _ (not_pool (poolState_key k) (List.mem_range.mp hk))) _
    (not_pool (poolEnable_key k) (List.mem_range.mp hk))) _ (not_pool (poolFunction_key k) (List.mem_range.mp hk))) ha

theorem endEvents (h : FunctionKept s t) (fn : Nat) : FunctionKept s (t.endEvents fn) := h.foldl fun _ _ _ ha => ha.endEvent ..

theorem orphan (h : FunctionKept s t) (writer : Nat) : FunctionKept s (t.orphan writer) := by
  unfold State.orphan
  extract_lets hit m s1
  have hs1 : FunctionKept s s1 := h.foldl fun _ _ _ ha => ha.setFam ..
  exact .ite hs1 (.fireLead (hs1.wr _) ..)

end
end FunctionKept

section
variable {s : State}

/-- The requests, the mailbox and the queues of a function are gone; its pools and events are not yet. -/
def State.clearFunction (s : State) (fn : Nat) : State :=
  ((s.dropRequests (.pcie (fn / 4) (fn % 4)) false).setMailbox fn { buffer := [], busy := false, done := false }).clearQueues fn

/-- The pools and events of a function whose queues are cleared. -/
def State.quietFunction (s : State) (fn : Nat) : State := ((s.dropCqNames fn).disablePools fn).endEvents fn

theorem functionReset_eq (fn : Nat) : s.functionReset fn false =
    (((s.clearFunction fn).quietFunction fn).dropSessionRegs (.pcie (fn / 4) (fn % 4))).orphan (s.principal (.pcie (fn / 4) (fn % 4))) := rfl

theorem clearFunction_regs (fn : Nat) : (s.clearFunction fn).regs = s.regs.filter fun e => !(e.1 / 16777216 / 65536 = fn &&
    decide (0x2000 ≤ e.1 / 16777216 % 65536) && decide (e.1 / 16777216 % 65536 < 0x2800)) := rfl

theorem sound_rising (hs : s.sound = true) : sparseRising none s.regs = true := by
  simp only [State.sound, sparseWf, Bool.and_eq_true] at hs
  exact hs.1.1.1.1

theorem clearFunction_rising (h : sparseRising none s.regs = true) (fn : Nat) : sparseRising none (s.clearFunction fn).regs = true :=
  sparseRising_filter _ _ _ h

theorem quietFunction_kept (h : sparseRising none s.regs = true) (fn : Nat) : FunctionKept s (s.quietFunction fn) :=
  (((FunctionKept.refl h).dropCqNames fn).disablePools fn).endEvents fn

theorem dropSessionRegs_rising {t : State} (h : FunctionKept s t) (x : Session) : sparseRising none (t.dropSessionRegs x).regs = true := h.rising

/-- What a function reset leaves of a part, given that the queues' part of the reset and the session registers leave it. -/
theorem orphan_kept {t : State} (h : FunctionKept s t) (x : Session) (w : Nat) : FunctionKept (t.dropSessionRegs x) ((t.dropSessionRegs x).orphan w) :=
  (FunctionKept.refl (dropSessionRegs_rising h x)).orphan w

/-- A key that the filter keeps is found in what is left. -/
theorem sparseFind?_filter {α : Type} {p : Nat × α → Bool} {j : Nat} (hp : ∀ e : Nat × α, e.1 = j → p e = true) (m : Sparse α) (lo : Option Nat)
    (hm : sparseRising lo m = true) : sparseFind? (m.filter p) j = sparseFind? m j := by
  induction m generalizing lo with
  | nil => rfl
  | cons e rest ih =>
    obtain ⟨a, v⟩ := e
    have hrest := sparseRising_tail hm
    by_cases hpe : p (a, v) = true
    · rw [List.filter_cons_of_pos hpe]
      simp only [sparseFind?, ih _ hrest]
    · have ha : a ≠ j := fun h => hpe (hp _ h)
      rw [List.filter_cons_of_neg hpe, ih _ hrest]
      simp only [sparseFind?, if_neg ha]
      split
      · exact sparseFind?_of_rising rest a j hrest (by omega)
      · rfl

theorem ofInst_wq {fn q : Nat} (hq : q < 1024) : InstKind.ofInst (wqInst fn q) = .wq := by
  unfold InstKind.ofInst wqInst
  have : (fn * 65536 + 8192 + q) % 65536 = 8192 + q := by omega
  simp only [this]
  rw [if_neg (by omega), if_neg (by omega), if_neg (by omega), if_neg (by omega), if_pos (by omega)]

theorem ofInst_cq {fn q : Nat} (hq : q < 1024) : InstKind.ofInst (cqInst fn q) = .cq := by
  unfold InstKind.ofInst cqInst
  have : (fn * 65536 + 9216 + q) % 65536 = 9216 + q := by omega
  simp only [this]
  rw [if_neg (by omega), if_neg (by omega), if_neg (by omega), if_neg (by omega), if_neg (by omega), if_pos (by omega)]

theorem queue_default {o : Obj} {inst : Nat} {c : InstClass} (hc : InstKind.ofInst inst = c) (hi : o.index < 65536 := by decide)
    (hs : o.sub < 256 := by decide)
    (h0 : (((Od.areaOf (o.index / 256)).find? fun x => x.covers o.index o.sub && x.kindFits c).map fun x => x.dfltAt (x.member o.index o.sub)).getD 0 = 0 := by
      decide +kernel) : Od.defaultAt (dictKey inst o.index o.sub) = 0 := by
  rw [defaultAt_dictKey inst o.index o.sub hi hs, hc]
  exact h0

theorem clearFunction_absent {fn : Nat} {inst n : Nat} (hfn : inst / 65536 = fn) (hlo : 0x2000 ≤ inst % 65536) (hhi : inst % 65536 < 0x2800)
    (hn : n < 16777216) : ∀ e ∈ (s.clearFunction fn).regs, e.1 ≠ inst * 16777216 + n := by
  intro e he h
  rw [clearFunction_regs, List.mem_filter] at he
  have hdiv : e.1 / 16777216 = inst := by omega
  have hkept := he.2
  rw [hdiv] at hkept
  simp [hfn, hlo, hhi] at hkept

/-- A function reset, from the state with the queues of the function cleared. -/
theorem functionReset_kept (hs : sparseRising none s.regs = true) (fn : Nat) : ∃ q, FunctionKept (s.clearFunction fn) q ∧
    FunctionKept (q.dropSessionRegs (.pcie (fn / 4) (fn % 4))) (s.functionReset fn false) := by
  have hq := quietFunction_kept (clearFunction_rising hs fn) fn
  rw [functionReset_eq]
  exact ⟨_, hq, orphan_kept hq _ _⟩

/-- A register of a queue has its default after the reset of the queue's function. -/
theorem functionReset_queueRegister (hs : sparseRising none s.regs = true) {fn inst : Nat} {o : Obj} (ho : o.key inst 0 = dictKey inst o.index o.sub)
    (hfn : inst / 65536 = fn) (hlo : 0x2000 ≤ inst % 65536) (hhi : inst % 65536 < 0x2800) (hi : o.index < 65536) (hsub : o.sub < 256)
    (hd : Od.defaultAt (dictKey inst o.index o.sub) = 0) : (s.functionReset fn false).rd o inst = 0 := by
  obtain ⟨q, hq, ht⟩ := functionReset_kept hs fn
  have hkey : o.key inst 0 = inst * 16777216 + (o.index * 256 + o.sub) := ho.trans (by unfold dictKey; omega)
  have hheld : QueueOrPair (o.key inst 0) := .inl (by omega)
  refine (ht.held _ hheld).trans ((hq.held _ hheld).trans ?_)
  rw [hkey, sparseGet_absent _ (clearFunction_absent hfn hlo hhi (by omega)), ← hkey, ho, hd]

theorem functionReset_wq (hs : sparseRising none s.regs = true) {fn q : Nat} (hq : q < 1024) :
    (s.functionReset fn false).rd Od.wqState (wqInst fn q) = 0 ∧ (s.functionReset fn false).rd Od.wqEnable (wqInst fn q) = 0 := by
  have hfn : wqInst fn q / 65536 = fn := by unfold wqInst; omega
  have hlo : 0x2000 ≤ wqInst fn q % 65536 := by unfold wqInst; omega
  have hhi : wqInst fn q % 65536 < 0x2800 := by unfold wqInst; omega
  exact ⟨functionReset_queueRegister hs rfl hfn hlo hhi (by decide) (by decide) (queue_default (ofInst_wq hq)),
    functionReset_queueRegister hs rfl hfn hlo hhi (by decide) (by decide) (queue_default (ofInst_wq hq))⟩

theorem functionReset_cq (hs : sparseRising none s.regs = true) {fn q : Nat} (hq : q < 1024) :
    (s.functionReset fn false).rd Od.cqState (cqInst fn q) = 0 ∧ (s.functionReset fn false).rd Od.cqEnable (cqInst fn q) = 0 := by
  have hfn : cqInst fn q / 65536 = fn := by unfold cqInst; omega
  have hlo : 0x2000 ≤ cqInst fn q % 65536 := by unfold cqInst; omega
  have hhi : cqInst fn q % 65536 < 0x2800 := by unfold cqInst; omega
  exact ⟨functionReset_queueRegister hs rfl hfn hlo hhi (by decide) (by decide) (queue_default (ofInst_cq hq)),
    functionReset_queueRegister hs rfl hfn hlo hhi (by decide) (by decide) (queue_default (ofInst_cq hq))⟩

/-- The pairing of the interfaces and what has been sent stand after a function reset. -/
theorem functionReset_pair (hs : sparseRising none s.regs = true) (fn : Nat) : sparseRising none (s.functionReset fn false).regs = true ∧
    (s.functionReset fn false).rd Od.pciePairing = s.rd Od.pciePairing ∧ (s.functionReset fn false).rd Od.pcieActiveDie = s.rd Od.pcieActiveDie ∧
    ∀ o ∈ s.out, o ∈ (s.functionReset fn false).out := by
  obtain ⟨q, hq, ht⟩ := functionReset_kept hs fn
  have hfind : ∀ j, j / 16777216 = 0 → sparseGet Od.defaultAt (s.clearFunction fn).regs j = sparseGet Od.defaultAt s.regs j := fun j hj => by
    unfold sparseGet
    rw [clearFunction_regs, sparseFind?_filter (fun e he => by simp [he, hj]) _ _ hs]
  have hp : QueueOrPair (Od.pciePairing.key 0 0) := .inr (.inl rfl)
  have ha : QueueOrPair (Od.pcieActiveDie.key 0 0) := .inr (.inr rfl)
  exact ⟨ht.rising, (ht.held _ hp).trans ((hq.held _ hp).trans (hfind _ (by decide))), (ht.held _ ha).trans ((hq.held _ ha).trans (hfind _ (by decide))),
    fun o ho => ht.sent o (hq.sent o ho)⟩

/-- The queues' part of the state, and the session registers, after a function reset. -/
theorem functionReset_rings (hs : sparseRising none s.regs = true) (fn : Nat) : (∀ e ∈ (s.functionReset fn false).rings.wqs, e.1 / 1024 ≠ fn) ∧
    (∀ e ∈ (s.functionReset fn false).rings.cqs, e.1 / 1024 ≠ fn) ∧ (∀ o ∈ (s.functionReset fn false).rings.ops, o.fn ≠ fn) ∧
    (∀ o ∈ (s.functionReset fn false).rings.timed, o.fn ≠ fn) ∧ (∀ o ∈ (s.functionReset fn false).rings.injects, o.fn ≠ fn) ∧
    ∀ e ∈ (s.functionReset fn false).dict.sessionRegs, e.1 / 2 ≠ fn := by
  obtain ⟨q, hq, ht⟩ := functionReset_kept hs fn
  rw [ht.rings.trans hq.rings, ht.dict]
  refine ⟨fun e he => of_decide_eq_true (List.mem_filter.mp he).2, fun e he => of_decide_eq_true (List.mem_filter.mp he).2,
    fun e he => of_decide_eq_true (List.mem_filter.mp he).2, fun e he => of_decide_eq_true (List.mem_filter.mp he).2,
    fun e he => of_decide_eq_true (List.mem_filter.mp he).2, fun e he => ?_⟩
  have hne : e.1 / 2 ≠ fnKey (fn / 4) (fn % 4) := of_decide_eq_true (List.mem_filter.mp he).2
  unfold fnKey at hne
  omega

theorem functionReset_data (hs : sparseRising none s.regs = true) (fn : Nat) : (s.functionReset fn false).packets = s.packets ∧
    (s.functionReset fn false).tables = s.tables ∧ (s.functionReset fn false).time = s.time ∧ (s.functionReset fn false).dict.live = s.dict.live := by
  obtain ⟨q, hq, ht⟩ := functionReset_kept hs fn
  rw [ht.dict]
  exact ⟨ht.packets.trans hq.packets, ht.tables.trans hq.tables, ht.time.trans hq.time, show q.dict.live = s.dict.live by rw [hq.dict]; rfl⟩

/-- The reset of the first `n` functions of an interface. -/
def State.resetFunctions (h : Nat) (s : State) (n : Nat) : State := (List.range n).foldl (fun (a : State) f => a.functionReset (a.fnOf h f) false) s

theorem resetFunctions_pair (hs : sparseRising none s.regs = true) (h n : Nat) : sparseRising none (s.resetFunctions h n).regs = true ∧
    (s.resetFunctions h n).rd Od.pciePairing = s.rd Od.pciePairing ∧ (s.resetFunctions h n).rd Od.pcieActiveDie = s.rd Od.pcieActiveDie ∧
    ∀ o ∈ s.out, o ∈ (s.resetFunctions h n).out := by
  induction n with
  | zero => exact ⟨hs, rfl, rfl, fun _ h => h⟩
  | succ n ih =>
    obtain ⟨hr, hp, ha, ho⟩ := ih
    obtain ⟨hr', hp', ha', ho'⟩ := functionReset_pair hr ((s.resetFunctions h n).fnOf h n)
    unfold State.resetFunctions at hr' hp' ha' ho' ⊢
    simp only [List.range_succ, List.foldl_append, List.foldl_cons, List.foldl_nil]
    exact ⟨hr', hp'.trans hp, ha'.trans ha, fun o hx => ho' o (ho o hx)⟩

theorem resetFunctions_unpaired (hs : sparseRising none s.regs = true) (hp : s.rd Od.pciePairing ≠ 1) (h : Nat) : s.resetFunctions h 4 =
    (((s.functionReset (4 * h) false).functionReset (4 * h + 1) false).functionReset (4 * h + 2) false).functionReset (4 * h + 3) false := by
  have hstep : ∀ n, s.resetFunctions h (n + 1) = (s.resetFunctions h n).functionReset (4 * h + n) false := fun n => by
    have hpn := (resetFunctions_pair hs h n).2.1
    have hfn : (s.resetFunctions h n).fnOf h n = 4 * h + n := by
      unfold State.fnOf fnKey
      rw [hpn, if_neg hp]
      omega
    rw [← hfn]
    unfold State.resetFunctions
    simp only [List.range_succ, List.foldl_append, List.foldl_cons, List.foldl_nil]
  have h0 : s.resetFunctions h 0 = s := rfl
  rw [hstep 3, hstep 2, hstep 1, hstep 0, h0, Nat.add_zero]

end

/-- Settles O23: the queues of a function are cleared first, and nothing that follows writes a queue's register; PERST_N repeats this for its four functions. -/
theorem functionResets : Obligations.FunctionResets := by
  refine fun s hs hst => ⟨fun h f fn hh hf hfn => ?_, fun h hh hp => ?_, fun h hh hp ha => ?_, fun n k hk => ⟨fun hle => ?_, fun hlt => ?_⟩⟩
  · subst hfn
    have hex : exec (.functionLevelReset h f) s = .next (s.functionReset (s.fnOf h f) false) := (if_pos ⟨hh, hf⟩).trans (running_live hst _)
    obtain ⟨hwqs, hcqs, hops, htimed, hinj, hregs⟩ := functionReset_rings (sound_rising hs) (s.fnOf h f)
    refine ⟨_, hex, fun q hq => ?_, hwqs, hcqs, hops, htimed, hinj, hregs, functionReset_data (sound_rising hs) (s.fnOf h f)⟩
    obtain ⟨hw, hwe⟩ := functionReset_wq (sound_rising hs) hq
    obtain ⟨hc, hce⟩ := functionReset_cq (sound_rising hs) hq
    exact ⟨hw, hc, hwe, hce⟩
  · show execPerstN h s = _
    unfold execPerstN
    rw [if_neg (by omega), running_live hst]
    dsimp only
    rw [if_neg fun k => hp k.1]
    exact congrArg (fun t : State => Host.Outcome.next (t.emit (.link 22 h []))) (resetFunctions_unpaired (sound_rising hs) hp h)
  · obtain ⟨t, ht⟩ : ∃ t, t = ((s.wr Od.pcieActiveDie (s.hostDie (1 - h))).emit (.link 21 (1 - h) [])).fireLead 0x177 := ⟨_, rfl⟩
    have hex : exec (.perstN h) s = .next ((t.resetFunctions h 4).emit (.link 22 h [])) := by
      show execPerstN h s = _
      unfold execPerstN
      rw [if_neg (by omega), running_live hst, if_pos ⟨hp, ha⟩, ht]
      rfl
    have hw : sparseRising none (s.wr Od.pcieActiveDie (s.hostDie (1 - h))).regs = true := sparseRising_wr _ _ _ _ (sound_rising hs)
    have hk : FunctionKept (s.wr Od.pcieActiveDie (s.hostDie (1 - h))) t := by
      rw [ht]
      exact ((FunctionKept.refl hw).emit ..).fireLead ..
    have hm : FunctionKept ((s.wr Od.pcieActiveDie (s.hostDie (1 - h))).emit (.link 21 (1 - h) [])) t := by
      rw [ht]
      exact (FunctionKept.refl (s := (s.wr Od.pcieActiveDie (s.hostDie (1 - h))).emit (.link 21 (1 - h) [])) hw).fireLead _
    obtain ⟨-, -, hact, hout⟩ := resetFunctions_pair hk.rising h 4
    have hactive := State.rd_wr_same hs Od.pcieActiveDie (s.hostDie (1 - h)) 0 0
    refine ⟨_, hex, List.mem_cons_of_mem _ (hout _ (hm.sent _ List.mem_cons_self)), ?_⟩
    exact (State.rd_congr (State.emit_regs ..) ..).trans (hact.trans (hk.activeDie.trans hactive))
  · show running s _ = _
    rw [running_live hst, hk]
    exact congrArg _ (if_pos hle)
  · show running s _ = _
    rw [running_live hst, hk]
    exact congrArg _ (if_neg (Nat.not_le.mpr hlt))

end Sys2Proof.Machine
end

section
namespace Sys2Proof.Machine

/-! A block of one operation, and a descriptor that the engine takes. -/

section
variable {s t : State} {b : Block} {j : Job} {o : DictOp} {x : OpResult} {pcie ex : Bool}

theorem plainOf_iff : b.plainOf pcie ex o = true ↔ b.known = true ∧ b.kind = 1 ∧ b.slot = 255 ∧ b.critical = false ∧ b.ops? pcie ex = some [o] := by
  simp only [Block.plainOf, Bool.and_eq_true, Bool.not_eq_true', decide_eq_true_eq, and_assoc]

/-- A request of a function without a key runs at once. -/
theorem request_plain {h f : Nat} {m c : List Byte} (hsess : j.session = .pcie h f) (hslot : j.slot = 255) (hkey : j.key = 0) (hcrit : j.critical = false) :
    s.request j m c = State.runJob 33 s j := by
  have hj : ({ j with slot := s.answerSlot j.slot, key := if j.slot < 8 then low 256 (s.slotKey j.slot) else 0 } : Job) = j := by
    obtain ⟨sess, slot, key, counter, tag, crit, reply, ops, done⟩ := j
    obtain rfl : slot = 255 := hslot
    obtain rfl : key = 0 := hkey
    simp [State.answerSlot]
  have hauth : s.authentic true false 255 m c = true := rfl
  unfold State.request
  dsimp only
  rw [hj]
  obtain ⟨sess, slot, key, counter, tag, crit, reply, ops, done⟩ := j
  obtain rfl : sess = .pcie h f := hsess
  obtain rfl : slot = 255 := hslot
  obtain rfl : crit = false := hcrit
  rfl

theorem request_one {h f : Nat} {m c : List Byte} (hsess : j.session = .pcie h f) (hslot : j.slot = 255) (hkey : j.key = 0) (hcrit : j.critical = false)
    (hdone : j.done = []) (hops : j.ops = [o]) (hcopy : copyFamilyOf o.addr = none) (hreset : ¬(o.addr.index = 0x1011 ∧ o.addr.sub = 3))
    (hd : s.doOp j o = (x, t)) : s.request j m c = t.sendReply { j with ops := [], done := [(o, x)] } .ok := by
  rw [request_plain hsess hslot hkey hcrit, runJob_one 31 s j o hops hdone hcopy hreset, hd]
  simp [State.finishJob, State.keepLast, hsess]

theorem serveBlock_plain {h f : Nat} {reply : Reply} (hb : b.plainOf true ex o = true) (hcopy : copyFamilyOf o.addr = none)
    (hreset : ¬(o.addr.index = 0x1011 ∧ o.addr.sub = 3)) (hd : s.doOp { b.job (.pcie h f) reply [o] with key := 0 } o = (x, t)) :
    s.serveBlock b true ex (.pcie h f) reply = t.sendReply { b.job (.pcie h f) reply [] with done := [(o, x)] } .ok := by
  obtain ⟨-, -, hslot, hcrit, hops⟩ := plainOf_iff.mp hb
  unfold State.serveBlock
  rw [hops]
  exact request_one rfl hslot rfl hcrit rfl rfl hcopy hreset hd

theorem block_plain (hslot : j.slot = 255) (hdone : j.done = [(o, x)]) (be : Bool) (head : List Byte) :
    j.block be head .ok = responseBlock be head .ok [resultRecord be o x] none := by
  unfold Job.block
  rw [if_pos rfl, if_neg (by omega), hdone]
  rfl

theorem sendReply_mailbox {fn : Nat} {head : List Byte} (hr : j.reply = .mailbox fn head) {r : List Byte} (h : j.block false head .ok = r) :
    s.sendReply j .ok = (s.setMailbox fn { buffer := r, busy := false, done := true }).emit (.octets (s.hostDie (fn / 4)) 0 r) := by
  unfold State.sendReply
  rw [hr, ← h]

theorem sendReply_queue {fn w token address : Nat} {head : List Byte} (hr : j.reply = .queue fn w token address head) {r : List Byte}
    (h : j.block false head .ok = r) :
    s.sendReply j .ok = (s.emit (.dma (s.dmaHost fn) (fn % 4) address r)).completeToken fn w token .ok r.length := by
  unfold State.sendReply
  rw [hr, ← h]

theorem sendReply_kdp {die : Nat} {head : List Byte} (hr : j.reply = .kdp die head) {r : List Byte} (h : j.block true head .ok = r) :
    s.sendReply j .ok = s.emit (.octets die 1 r) := by
  unfold State.sendReply
  rw [hr, ← h]

theorem doOp_hostDie (hd : s.doOp j o = (x, t)) (n : Nat) : t.hostDie n = s.hostDie n := by
  have hk := (Keeps.refl s).doOp j o
  rw [hd] at hk
  unfold State.hostDie
  rw [hk.part]

/-- What the engine has taken a descriptor with. -/
theorem takes_iff {fn w op d : Nat} {desc : Option Nat} : s.takes fn w op desc d = true ↔ s.stopped = false ∧ s.hostUp = true ∧ w < 1024 ∧
    s.fetches fn w = true ∧ s.mustWait fn w op = false ∧ (s.wq fn w).chain = none ∧ (s.peekDesc fn w desc).word = d ∧ (s.peekDesc fn w desc).sound = true ∧
    dOp d = op ∧ headOk (s.rd Od.wqKind (wqInst fn w)) d = true ∧ dFirst d = true := by
  simp only [State.takes, Bool.and_eq_true, Bool.not_eq_true', decide_eq_true_eq, Option.isNone_iff_eq_none, and_assoc]

theorem peekDesc_at (fn w : Nat) (desc : Option Nat) : (s.peekDesc fn w desc).at_ = (s.wq fn w).fetch := by
  unfold State.peekDesc
  dsimp only
  split
  · rfl
  · split <;> rfl

theorem wq_setWq (ho : sparseRising none s.rings.wqs = true) (fn w : Nat) (q : WqRun) : (s.setWq fn w q).wq fn w = q :=
  (sparseGet_set _ _ _ _ _ ho).trans (if_pos rfl)

theorem fetched_chain (ho : sparseRising none s.rings.wqs = true) {fn w : Nat} (hc : (s.wq fn w).chain = none) : ((s.fetched fn w).wq fn w).chain = none := by
  unfold State.fetched
  rw [wq_setWq ho]
  exact hc

theorem descStep_takes {fn w op d : Nat} {desc : Option Nat} {run : State → Taken → State} (ho : sparseRising none s.rings.wqs = true)
    (h : s.takes fn w op desc d = true) : s.descStep fn w op desc run = run (s.fetched fn w) { at_ := (s.wq fn w).fetch, word := d, sound := true } := by
  obtain ⟨-, -, -, hf, hw, hc, hd, hsound, hop, hk, hfirst⟩ := takes_iff.mp h
  have ht : s.peekDesc fn w desc = { at_ := (s.wq fn w).fetch, word := d, sound := true } := by
    rw [← peekDesc_at fn w desc, ← hd, ← hsound]
  have hsome : (s.wq fn w).chain.isSome = false := by simp [hc]
  unfold State.descStep
  simp only [ht, hf, hop, hw, hsome, hk, hfirst, ne_eq, not_true_eq_false, and_false, Bool.not_true, Bool.and_false, Bool.false_eq_true,
    if_false, or_false, Bool.true_eq_false, Bool.false_and]
  exact congrArg (fun u => run u _) (breakChain_none (fetched_chain ho hc))

theorem withQueue_takes {h f w op d : Nat} {desc : Option Nat} {g : State} (hh : h < 2) (hf : f < 4) (ht : s.takes (s.fnOf h f) w op desc d = true) :
    withQueue s h f w g = .next g := by
  obtain ⟨hst, hup, hw, -⟩ := takes_iff.mp ht
  unfold withQueue
  rw [if_pos ⟨hh, hf, hw⟩, running_live hst, if_pos hup]

theorem answerSlot_authentic {slot : Nat} {m c : List Byte} (hlt : slot < 8) (h : s.authentic false false slot m c = true) :
    s.answerSlot slot = slot := by
  unfold State.authentic at h
  rw [if_neg (by omega)] at h
  simp only [Bool.and_eq_true, decide_eq_true_eq] at h
  unfold State.answerSlot
  rw [if_pos ⟨hlt, h.1.2⟩]

/-- A fresh request of an open KDP session, heard and with its counter kept, runs. -/
theorem request_kdp {n nonce slot : Nat} {k : KdpSession} {m c : List Byte} (hsess : j.session = .kdp n nonce) (hslot : j.slot = slot) (hlt : slot < 8)
    (hcrit : j.critical = false) (hk : sparseFind? s.dict.kdp n = some k) (hnonce : k.nonce = nonce) (hfresh : k.counter < j.counter)
    (hauth : s.authentic false false slot m c = true) :
    s.request j m c = State.runJob 33 { s.hear n with dict := { s.dict with
        kdp := sparsePut (sparsePut s.dict.kdp n { k with heard := s.up }) n { k with heard := s.up, counter := j.counter } } }
      { j with key := low 256 (s.slotKey slot) } := by
  subst hnonce
  have hhear : s.hear n = ({ s with dict := { s.dict with kdp := sparsePut s.dict.kdp n { k with heard := s.up } } } : State).later
      (s.rd Od.kdpSessionIdle * 1000000000) (.kdpSessionIdleExpire n) := by
    unfold State.hear
    rw [hk]
  have hfind : sparseFind? (s.hear n).dict.kdp n = some { k with heard := s.up } := by
    rw [hhear]
    exact (sparseFind?_put ..).trans (if_pos rfl)
  have hdict : (s.hear n).dict = { s.dict with kdp := sparsePut s.dict.kdp n { k with heard := s.up } } := by
    rw [hhear]
    rfl
  obtain ⟨sess, slot', key, counter, tag, crit, reply, ops, done⟩ := j
  obtain rfl : sess = .kdp n k.nonce := hsess
  obtain rfl : slot' = slot := hslot
  obtain rfl : crit = false := hcrit
  unfold State.request
  dsimp only
  rw [hk, answerSlot_authentic hlt hauth, if_pos hlt, hauth]
  simp only [Option.any_some, decide_true, Bool.not_true, Bool.false_eq_true, if_false, Bool.true_eq_false, State.runRequest, hfind]
  rw [if_pos hfresh, hdict]

theorem serveBlock_kdp {n : Nat} {k : KdpSession} {reply : Reply} (hops : b.ops? false true = some [o]) (hlt : b.slot < 8) (hcrit : b.critical = false)
    (hcopy : copyFamilyOf o.addr = none) (hreset : ¬(o.addr.index = 0x1011 ∧ o.addr.sub = 3)) (hk : sparseFind? s.dict.kdp n = some k)
    (hfresh : k.counter < b.counter) (hauth : s.authentic false false b.slot b.message b.check = true) :
    ∃ j s1 x t, s1.doOp j o = (x, t) ∧ s1 = { s.hear n with dict := { s.dict with
        kdp := sparsePut (sparsePut s.dict.kdp n { k with heard := s.up }) n { k with heard := s.up, counter := b.counter } } } ∧
      j = { b.job (.kdp n k.nonce) reply [o] with key := low 256 (s.slotKey b.slot) } ∧
      s.serveBlock b false true (.kdp n k.nonce) reply = t.finishJob { j with ops := [], done := [(o, x)] } .ok := by
  refine ⟨_, _, _, _, rfl, rfl, rfl, ?_⟩
  unfold State.serveBlock
  rw [hops]
  dsimp only
  rw [request_kdp (j := b.job (.kdp n k.nonce) reply [o]) rfl rfl hlt hcrit hk rfl hfresh hauth, runJob_one 31 _ _ o rfl rfl hcopy hreset]
  rfl

theorem kdpDatagram_block {d : Nat} {bytes : List Byte} (hb : b = { be := true, bytes := bytes }) (hh : s.hearsKdp d = true) : s.kdpDatagram d bytes =
    if b.known = false then s.bump Od.kdpDiscards
    else if b.kind = 1 then s.serveBlock b false true (.kdp b.session b.nonce) (.kdp d b.head)
    else if b.kind = 3 then s.openKdp d b
    else if b.kind = 5 then s.closeBlock d b
    else s.bump Od.kdpDiscards := by
  subst hb
  unfold State.kdpDatagram
  dsimp only
  rw [hh, if_neg (by decide)]

theorem openKdp_free {d n : Nat} (hshaped : b.shaped false true = true) (hcount : b.count = 0) (hlen : b.length = 0) (hcrit : b.critical = false)
    (hlt : b.slot < 8) (hauth : s.authentic false false b.slot b.message b.check = true)
    (hn : ((List.range 32).find? fun n => (sparseFind? s.dict.kdp (n + 1)).isNone) = some n) :
    sparseFind? (s.openKdp d b).dict.kdp (n + 1) =
        some { slot := b.slot, nonce := s.freeBits 32, counter := 0, lastOps := [], lastResults := [], die := d, heard := s.up } ∧
      (s.openKdp d b).out = .octets d 1 (openAck b .ok (n + 1) (s.freeBits 32) (some (low 256 (s.slotKey b.slot)))) :: s.out ∧
      (s.openKdp d b).regs = s.regs := by
  unfold State.openKdp
  simp only [hshaped, hcount, hlen, hcrit, hauth, hn, answerSlot_authentic hlt hauth, hlt, if_true, Bool.true_eq_false, Bool.false_eq_true, ne_eq,
    not_true_eq_false, or_self, if_false]
  exact ⟨(sparseFind?_put ..).trans (if_pos rfl), rfl, rfl⟩

theorem closeBlock_open {d : Nat} {k : KdpSession} (hshaped : b.shaped false true = true) (hcount : b.count = 0) (hlen : b.length = 0)
    (hcrit : b.critical = false) (hlt : b.slot < 8) (hk : sparseFind? s.dict.kdp b.session = some k) (hnonce : k.nonce = b.nonce)
    (hauth : s.authentic false false b.slot b.message b.check = true) :
    s.closeBlock d b = (s.finishJob { b.job (.kdp b.session b.nonce) (.kdp d b.head) [] with key := low 256 (s.slotKey b.slot) } .ok).closeKdp b.session := by
  have hany : ((sparseFind? s.dict.kdp b.session).any fun (k : KdpSession) => k.nonce = b.nonce) = true := by simp [hk, hnonce]
  have hslot : (b.job (.kdp b.session b.nonce) (.kdp d b.head) []).slot = b.slot := rfl
  unfold State.closeBlock
  simp only [hshaped, hcount, hlen, hcrit, hauth, hany, hslot, answerSlot_authentic hlt hauth, hlt, if_true, Bool.true_eq_false, Bool.false_eq_true, ne_eq,
    not_true_eq_false, or_self, if_false]

/-- While the package serves its hosts an operation of SMBus runs as it stands. -/
theorem boardOp_up {a : Session} (hup : s.hostUp = true) (h : o.op ≠ 2 ∨ (o.addr.index ≠ 0x1100 ∧ o.addr.index ≠ 0x1011)) : s.boardOp a o =
    s.doOp { session := a, slot := 255, key := 0, counter := 0, tag := 0, critical := false, reply := .row, ops := [], done := [] } o := by
  simp only [State.hostUp, Bool.and_eq_true, Bool.not_eq_true', Bool.or_eq_true, decide_eq_true_eq] at hup
  have hk : (decide (s.rd Od.bootStage < 2) || decide (s.rd Od.bootStage = 4)) = false := by
    obtain h | h := hup.1 <;> simp [h]
  unfold State.boardOp
  rw [hk, hup.2]
  dsimp only
  rw [if_neg (by decide), if_neg (by decide)]
  obtain h | ⟨h1, h2⟩ := h
  · rw [if_pos (.inl h)]
  · rw [if_neg h1, if_neg h2]
    split <;> rfl

end

/-- Settles O24: each transport hands the one operation of its block to `doOp` and answers with its outcome. -/
theorem transports : Obligations.Transports := by
  refine fun s hst hup => ⟨fun h f fn bytes b o hh hf hfn hready hb => ⟨fun hbusy => ?_, fun hbusy hplain hcopy hreset s1 j x t r hs1 hj hd hr => ?_⟩,
    fun d bytes b hdie hhears hb => ⟨fun hkn => ?_, fun o k hkn hkind hlt hcrit hops hcopy hreset hk hnonce hfresh hauth => ?_,
      fun n hkn hkind hshaped hcount hlen hcrit hlt hauth hn => ?_, fun k hkn hkind hshaped hcount hlen hcrit hlt hk hnonce hauth => ?_⟩,
    fun h f fn w desc d block b o hh hf hfn ho ht hlast hb hok hplain hcopy hreset s1 x t r hs1 hd hr => ?_,
    fun h f fn w desc d hh hf hfn ho ht hlast hok hslot hcopy hreset s1 j x t hs1 hj hd => ?_,
    fun a => running_live hst _, fun hnone => ?_, fun a j x t hsel hj => ⟨fun hd => ?_, fun data h1 h2 hd => ?_⟩, running_live hst _⟩
  · subst hfn hb
    show execMbxDoorbell h f 1 bytes s = _
    unfold execMbxDoorbell
    rw [if_neg (by omega), running_live hst]
    exact congrArg _ (if_pos (.inr (.inr (.inr hbusy))))
  · obtain ⟨hkn, hkind, hslot, -, -⟩ := plainOf_iff.mp hplain
    have hserve := serveBlock_plain hplain hcopy hreset (hj ▸ hd)
    have hpart : t.hostDie (fn / 4) = s.hostDie (fn / 4) := (doOp_hostDie hd _).trans (by rw [hs1]; rfl)
    rw [sendReply_mailbox rfl (block_plain hslot rfl ..), ← hr] at hserve
    show execMbxDoorbell h f 1 bytes s = _
    unfold execMbxDoorbell
    rw [if_neg (by omega), running_live hst]
    dsimp only
    rw [← hb, ← hfn, if_neg (by simp [hup, hready, hbusy]), if_neg (by simp [hkn, hkind])]
    subst hb
    rw [← hs1]
    refine congrArg _ (hserve.trans ?_)
    rw [hpart]
  · exact (withDie_live hdie hst _).trans (congrArg _ ((kdpDatagram_block hb hhears).trans (if_pos hkn)))
  · obtain ⟨j, s1, x, t, hd, hs1, hj, hserve⟩ := serveBlock_kdp (reply := .kdp d b.head) hops hlt hcrit hcopy hreset hk hfresh hauth
    rw [hnonce] at hj hserve
    refine ⟨j, s1, x, t, hd, hs1, hj, (withDie_live hdie hst _).trans (congrArg _ ?_)⟩
    rw [kdpDatagram_block hb hhears, if_neg (by simp [hkn]), if_pos hkind, hserve, State.finishJob, if_pos rfl]
    refine sendReply_kdp (by rw [hj]; rfl) ?_
    subst hj
    exact congrArg (responseBlock true b.head .ok _) (if_pos hlt)
  · refine ⟨_, withDie_live hdie hst _, ?_⟩
    rw [kdpDatagram_block hb hhears, if_neg (by simp [hkn]), if_neg (by omega), if_pos hkind]
    exact openKdp_free hshaped hcount hlen hcrit hlt hauth hn
  · have hclose := closeBlock_open (d := d) hshaped hcount hlen hcrit hlt hk hnonce hauth
    have hex : exec (.closeSession d bytes) s = .next (s.kdpDatagram d bytes) := withDie_live hdie hst _
    rw [kdpDatagram_block hb hhears, if_neg (by simp [hkn]), if_neg (by omega), if_neg (by omega), if_pos hkind, hclose] at hex
    exact ⟨_, hex, rfl, rfl, rfl⟩
  · subst hfn
    refine (withQueue_takes hh hf ht).trans (congrArg _ ?_)
    obtain ⟨hkn, hkind, hslot, -, -⟩ := plainOf_iff.mp hplain
    rw [descStep_takes ho ht]
    dsimp only
    rw [← hb, if_neg (by simp [hlast, hok])]
    have hserve := serveBlock_plain (reply := .queue (s.fnOf h f) w s.rings.nextToken (bits (dBody d) 127 64) b.head) hplain hcopy hreset hd
    rw [sendReply_queue rfl (block_plain hslot rfl ..), ← hr, hs1] at hserve
    exact hserve
  · subst hfn
    refine (withQueue_takes hh hf ht).trans (congrArg _ ?_)
    rw [descStep_takes ho ht]
    dsimp only
    rw [if_neg (by simp [hlast, hok])]
    subst hs1 hj
    rw [hslot]
    refine (request_one rfl rfl rfl rfl rfl rfl hcopy hreset hd).trans ?_
    rfl
  · show running s _ = _
    rw [running_live hst, hnone]
    rfl
  · subst hj
    show running s _ = _
    rw [running_live hst, hsel]
    dsimp only
    rw [boardOp_up hup (.inl (show 1 ≠ 2 by decide))]
    exact congrArg (fun r : OpResult × State => Host.Outcome.next (r.2.emit (.octets 0 3 (leBytes 1 r.1.status.code ++ leBytes 1 r.1.type ++
      wireValue false r.1)))) hd
  · subst hj
    show running s _ = _
    rw [running_live hst, hsel]
    dsimp only
    rw [boardOp_up hup (.inr ⟨h1, h2⟩), hd]

end Sys2Proof.Machine
end

section
namespace Sys2Proof.Machine

/-! The commit of a critical request whose queue is empty behind it. -/

section
variable {s : State} {c : CritJob} {r : OpResult} {o : DictOp}

theorem serveCritical_empty (h : s.dict.critQueue = []) (n : Nat) : State.serveCritical n s = s := by
  cases n with
  | zero => rfl
  | succ n =>
    unfold State.serveCritical
    rw [h]

/-- A fault that resets no port leaves an empty critical queue empty, whatever else it resets. -/
theorem fault_critQueue (h : s.dict.critQueue = []) (d cls location : Nat) : (s.fault d 0x15 cls location).dict.critQueue = [] := by
  obtain ⟨u, m, hu, -, heq⟩ := recordFault_reacts (s := s)
    { die := d, source := 0x15, cls := cls, location := location, detail0 := 0, detail1 := 0, spareUsed := false, repairing := false } (.inr (show 2 < 0x15 by decide))
  have hf : s.fault d 0x15 cls location = _ := heq
  rw [hf]
  split
  · rfl
  · rw [hu.dict, h]

theorem commitNvs_critQueue (h : s.dict.critQueue = []) : s.commitNvs.dict.critQueue = [] := by
  unfold State.commitNvs
  extract_lets live body gen put dict s1
  have hs1 : s1.dict.critQueue = [] := h
  split
  · exact hs1
  · exact fault_critQueue hs1 ..

/-- The key that the committed operation sets. -/
def keySetBy (c : CritJob) (r : OpResult) (o : DictOp) : Option (Nat × Nat) :=
  if o.op = 2 ∧ o.addr.index = 0x1100 ∧ o.addr.sub = 4 ∧ r.status = .ok then unwrapKey c.job.key c.job.counter o.value else none

/-- What the NVS keeps once the request is committed. -/
def State.withResponse (s : State) (c : CritJob) (r : OpResult) (o : DictOp) (keys : Sparse KeySlot) : NvsBody :=
  { s.dict.live with counters := sparseSet (fun _ => 0) s.dict.live.counters c.job.slot c.job.counter,
                     stored := sparsePut s.dict.live.stored c.job.slot { op := o, result := r }, keys := keys }

/-- The commit of the only request in the queue, from a function. -/
theorem nvsCommit_single {keys : Sparse KeySlot} {t : State} {h f : Nat} (hst : s.stopped = false) (hq : s.dict.critQueue = [c]) (hres : c.result = some r)
    (hops : c.job.ops = [o]) (hmute : c.mute = false) (hrow : c.job.reply = .row) (hsess : c.job.session = .pcie h f)
    (hkeys : (match keySetBy c r o with
      | some k => sparsePut s.dict.live.keys k.1 { key := k.2, state := 1 }
      | none => s.dict.live.keys) = keys)
    (ht : t = ((({ s with dict := { s.dict with critQueue := [] } } : State).setLive (s.withResponse c r o keys)).commitNvs).emit
      (.response c.job.session c.job.tag r.status r.type r.epoch r.len r.value)) :
    t.dict.critQueue = [] ∧ exec .nvsCommit s = .next (State.serveCritical 9 (if r.status = .ok then t.afterCritical c.job o else t)) := by
  have ht' : t = ((({ s with dict := { s.dict with critQueue := [] } } : State).setLive (s.withResponse c r o keys)).commitNvs).finishJob
      { c.job with ops := [], done := [(o, r)] } .ok :=
    ht.trans (finishJob_row_one (j := { c.job with ops := [], done := [(o, r)] }) hsess hrow rfl).symm
  refine ⟨by rw [ht]; exact commitNvs_critQueue rfl, ?_⟩
  show running s _ = _
  rw [running_live hst, hq]
  dsimp only
  rw [hres, hops]
  dsimp only
  rw [hmute, if_neg (show ¬(false = true) by decide), ht', ← hkeys]
  rfl

end

/-- Settles O25: behind the committed request the queue is empty, so nothing but what follows the response is left to do. -/
theorem commitsAnswer : Obligations.CommitsAnswer := by
  intro s c r o hst hq hres hops hmute hrow hfn body keys hkeys hbody t ht
  obtain ⟨h, f, -, -, hsess⟩ := (isFunction_iff c.job.session).mp hfn
  have hset : (match keySetBy c r o with
      | some k => sparsePut s.dict.live.keys k.1 { key := k.2, state := 1 }
      | none => s.dict.live.keys) = keys := by
    unfold keySetBy
    obtain ⟨hne, rfl⟩ | ⟨hop, haddr, hok, k, hk, rfl⟩ := hkeys
    · rw [if_neg fun x => hne x.2.1]
    · rw [if_pos ⟨hop, by rw [haddr]; rfl, by rw [haddr]; rfl, hok⟩, hk]
  subst hbody
  obtain ⟨hempty, hex⟩ := nvsCommit_single hst hq hres hops hmute hrow hsess hset ht
  refine ⟨fun h1 h2 => ?_, fun hop haddr hok => ?_⟩
  · rw [hex]
    have hafter : t.afterCritical c.job o = t := (if_neg fun x => h1 x.2.1).trans (if_neg fun x => h2 x.2.1)
    rw [hafter, ite_self, serveCritical_empty hempty]
  · rw [hex, if_pos hok]
    unfold State.afterCritical
    rw [if_neg fun x => absurd (haddr ▸ x.2.1) (by decide), if_pos ⟨hop, by rw [haddr]; rfl, by rw [haddr]; rfl⟩]
    exact congrArg _ (serveCritical_empty (by exact hempty) _)

end Sys2Proof.Machine
end

section
namespace Sys2Proof.Machine

-- Many short lemmas: in turn, as each thread of its own takes stack.
set_option Elab.async false

/-! Which registers a chain of steps writes, named by their places among the registers of one unit; all others read as before, and what was sent stays sent. -/

/-- `t` comes from `s` by writes of registers at the places `l` alone. -/
structure Writes (l : List Nat) (s t : State) : Prop where
  rising : sparseRising none t.regs = true
  held : ∀ j, j % 16777216 ∉ l → sparseGet Od.defaultAt t.regs j = sparseGet Od.defaultAt s.regs j
  sent : ∀ o ∈ s.out, o ∈ t.out
  part : t.part = s.part

theorem key_mod (o : Obj) (inst k : Nat) : o.key inst k % 16777216 = o.key 0 k % 16777216 := by
  simp only [Obj.key, dictKey]
  omega

namespace Writes
section
variable {l : List Nat} {s t u : State}

theorem refl (h : s.sound = true) : Writes l s s := ⟨sound_rising h, fun _ _ => rfl, fun _ h => h, rfl⟩

theorem rd (h : Writes l s t) (o : Obj) (inst k : Nat) (hn : o.key 0 k % 16777216 ∉ l) : t.rd o inst k = s.rd o inst k :=
  h.held _ (by rwa [key_mod])

theorem trans (h : Writes l s t) (k : Writes l t u) : Writes l s u :=
  ⟨k.rising, fun j hj => (k.held j hj).trans (h.held j hj), fun o ho => k.sent o (h.sent o ho), k.part.trans h.part⟩

theorem mono {m : List Nat} (h : Writes l s t) (hm : ∀ n ∈ l, n ∈ m) : Writes m s t :=
  ⟨h.rising, fun j hj => h.held j fun hl => hj (hm _ hl), h.sent, h.part⟩

theorem wr (h : Writes l s t) {o : Obj} {v inst k : Nat} (hn : o.key 0 k % 16777216 ∈ l) : Writes l s (t.wr o v inst k) where
  rising := sparseRising_wr o v inst k h.rising
  held j hj := by
    refine (State.regs_wr t o v inst k j h.rising).trans ((if_neg fun e : o.key inst k = j => hj ?_).trans (h.held j hj))
    rwa [← e, key_mod]
  sent := h.sent
  part := h.part

theorem bump (h : Writes l s t) {o : Obj} {inst k n : Nat} (hn : o.key 0 k % 16777216 ∈ l) : Writes l s (t.bump o inst k n) := h.wr hn

theorem emit (h : Writes l s t) (o : Out) : Writes l s (t.emit o) := ⟨h.rising, h.held, fun x hx => List.mem_cons_of_mem _ (h.sent x hx), h.part⟩

theorem same (h : Writes l s t) (hr : u.regs = t.regs := by rfl) (ho : u.out = t.out := by rfl) (hp : u.part = t.part := by rfl) : Writes l s u :=
  ⟨hr ▸ h.rising, fun j hj => by rw [hr]; exact h.held j hj, fun x hx => by rw [ho]; exact h.sent x hx, hp.trans h.part⟩

theorem ite {p : Prop} [Decidable p] (h : Writes l s t) (k : Writes l s u) : Writes l s (if p then t else u) := by
  split <;> assumption

theorem foldl {α : Type} {g : State → α → State} {m : List α} (h : Writes l s t) (hg : ∀ a x, Writes l s a → Writes l s (g a x)) :
    Writes l s (m.foldl g t) := by
  induction m generalizing t with
  | nil => exact h
  | cons x m ih => exact ih (hg t x h)

theorem setSource (h : Writes l s t) (key : Nat) (e : EventSource) : Writes l s (t.setSource key e) := h.same

theorem setActive (h : Writes l s t) (kind target : Nat) (a : List ActiveEvent) : Writes l s (t.setActive kind target a) := h.same

theorem unpresent (h : Writes l s t) (target : Nat) (keep : Option Nat) : Writes l s (t.unpresent target keep) := h.same

theorem later (h : Writes l s t) (n : Nat) (i : Instr) : Writes l s (t.later n i) := h.same

theorem activate (h : Writes l s t) (key kind target : Nat) : Writes l s (t.activate key kind target) := .setActive (h.setSource ..) ..

theorem presentCore (h : Writes l s t) (target : Nat) : Writes l s (t.presentCore target) :=
  .ite (by split; (exact .ite (h.unpresent ..) (.emit (.setSource (h.unpresent ..) ..) ..); exact h.unpresent ..)) (h.unpresent ..)

theorem sendVector (h : Writes l s t) (n target : Nat) : Writes l s (State.sendVector n t target) := by
  induction n generalizing t with
  | zero => exact h
  | succ n ih =>
    unfold State.sendVector
    split
    · split
      · exact ih (.emit (h.activate ..) ..)
      · exact h
    · exact h

theorem serveTarget (h : Writes l s t) (kind target : Nat) : Writes l s (t.serveTarget kind target) := .ite (h.presentCore ..) (.ite (h.sendVector ..) h)

theorem wakeTarget (h : Writes l s t) (kind target : Nat) : Writes l s (t.wakeTarget kind target) := .ite (.emit h.same ..) h

theorem signalPme (h : Writes l s t) (kind target : Nat) : Writes l s (t.signalPme kind target) := .ite (h.emit ..) h

theorem endEvent (h : Writes l s t) (kind target code : Nat) : Writes l s (t.endEvent kind target code) := .serveTarget (.setSource (h.setActive ..) ..) ..

end
end Writes

/-- The registers that a fire of an event can write: POWER_STATE, WAKE_REASON, WAKE_SOURCE and EVC_LOST_TOTAL. -/
def fired : List Nat := [0x900001, 0x900004, 0x900005, 0xA39101]

namespace Writes
section
variable {l : List Nat} {s t : State}

theorem startWake (h : Writes l s t) (reason source : Nat) (hl : fired ⊆ l := by decide) : Writes l s (t.startWake reason source) :=
  have h1 := ((h.wr (o := Od.powerState) (v := 5) (inst := 0) (k := 0) (hl (by decide))).wr (o := Od.wakeReason) (v := reason) (inst := 0) (k := 0)
    (hl (by decide))).wr (o := Od.wakeSource) (v := source) (inst := 0) (k := 0) (hl (by decide))
  .ite h (.ite (.later (.later h1 ..) ..) (.later h1 ..))

theorem wakePackage (h : Writes l s t) (wake : Bool) (code : Nat) (hl : fired ⊆ l := by decide) : Writes l s (t.wakePackage wake code) :=
  .ite (h.startWake _ _ hl) h

theorem fire (h : Writes l s t) (d n : Nat) (hl : fired ⊆ l := by decide) : Writes l s (t.fire d n) :=
  .ite h (.ite (.bump (h.setSource ..) (hl (show Od.evcLostTotal.key 0 0 % 16777216 ∈ fired by decide)))
    (.serveTarget (.signalPme (.wakeTarget (.wakePackage (h.setSource ..) _ _ hl) ..) ..) ..))

theorem fireLead (h : Writes l s t) (n : Nat) (hl : fired ⊆ l := by decide) : Writes l s (t.fireLead n) := h.fire _ _ hl

end
end Writes

theorem fireLead_rd {s : State} (hs : s.sound = true) (n : Nat) (o : Obj) (inst k : Nat) (hn : o.key 0 k % 16777216 ∉ fired) :
    (s.fireLead n).rd o inst k = s.rd o inst k := ((Writes.refl hs).fireLead n).rd o inst k hn

theorem fire_rd {s : State} (hs : s.sound = true) (d n : Nat) (o : Obj) (inst k : Nat) (hn : o.key 0 k % 16777216 ∉ fired) :
    (s.fire d n).rd o inst k = s.rd o inst k := ((Writes.refl hs).fire d n).rd o inst k hn

end Sys2Proof.Machine
end

section
namespace Sys2Proof.Machine

/-! The states of the time unit and what brings it from one to the other. -/

section
variable {s : State}

/-- What a change of TIME_STATE leaves of the time unit. -/
def State.timeIn (s : State) (v : Nat) : TimeUnit :=
  let t := if v = 3 ∧ s.rd Od.timeState = 2 then s.time.averaged
    else if v = 2 then { s.time with lockedOnce := true, lockedAt := s.up, corrections := [] }
    else s.time
  { t with goodCount := 0, fromFreerun := if v = 1 then s.rd Od.timeState = 0 else t.fromFreerun }

/-- The state that announces the new TIME_STATE. -/
def State.enterTime (s : State) (v : Nat) : State :=
  { (s.wr Od.timeState v).wr Od.holdoverSince (if v = 3 then time96 s.time.now else 0) with time := s.timeIn v }

theorem toTimeState_eq {v : Nat} (h : s.rd Od.timeState ≠ v) : s.toTimeState v = (s.enterTime v).fireLead 0x140 := if_neg h

theorem toTimeState_same {v : Nat} (h : s.rd Od.timeState = v) : s.toTimeState v = s := if_pos h

theorem timeIn_now (v : Nat) : (s.timeIn v).now = s.time.now ∧ (s.timeIn v).slew = s.time.slew := by
  unfold State.timeIn
  dsimp only
  split
  · exact ⟨rfl, rfl⟩
  · split <;> exact ⟨rfl, rfl⟩

theorem enterTime_sound (hs : s.sound = true) (v : Nat) : (s.enterTime v).sound = true :=
  State.sound_wr (State.sound_wr hs Od.timeState v 0 0) Od.holdoverSince (if v = 3 then time96 s.time.now else 0) 0 0

/-- TIME_STATE, HOLDOVER_SINCE and the time unit after a change of the state, whose announcement fires an event of the lead die. -/
theorem toTimeState_shows (hs : s.sound = true) {v : Nat} (h : s.rd Od.timeState ≠ v) :
    (s.toTimeState v).rd Od.timeState = v ∧ (s.toTimeState v).rd Od.holdoverSince = (if v = 3 then time96 s.time.now else 0) ∧
      (s.toTimeState v).time = s.timeIn v ∧ (s.toTimeState v).packets = s.packets ∧ (s.toTimeState v).dict = s.dict ∧
      ∀ o ∈ s.out, o ∈ (s.toTimeState v).out := by
  have hw := State.sound_wr hs Od.timeState v 0 0
  have hq := (Quiet.refl (s.enterTime v)).fireLead 0x140
  have hf := (Writes.refl (l := fired) (enterTime_sound hs v)).fireLead (s := s.enterTime v) 0x140
  have hstate : (s.enterTime v).rd Od.timeState = v :=
    (State.rd_wr_ne hw (show Od.holdoverSince.key 0 0 ≠ Od.timeState.key 0 0 by decide)).trans (State.rd_wr_same hs ..)
  have hsince : (s.enterTime v).rd Od.holdoverSince = (if v = 3 then time96 s.time.now else 0) := State.rd_wr_same hw ..
  rw [toTimeState_eq h]
  exact ⟨(hf.rd Od.timeState 0 0 (by decide)).trans hstate, (hf.rd Od.holdoverSince 0 0 (by decide)).trans hsince, hq.time, hq.packets, hq.dict, hf.sent⟩

/-- A LOCKED time unit, or an ACQUIRING one that was locked before, holds over when its source is lost. -/
theorem sourceLost_holdover (hs : s.sound = true) (h : s.rd Od.timeState = 2 ∨ (s.rd Od.timeState = 1 ∧ s.time.lockedOnce = true)) :
    s.sourceLost.rd Od.timeState = 3 ∧ s.sourceLost.rd Od.holdoverSince = time96 s.time.now ∧ s.sourceLost.time.goodCount = 0 ∧
      s.sourceLost.time.now = s.time.now ∧ s.sourceLost.packets = s.packets ∧ s.sourceLost.dict = s.dict := by
  have hl : s.sourceLost = s.toTimeState 3 := by
    unfold State.sourceLost
    obtain h | ⟨h, hk⟩ := h
    · rw [if_pos h]
    · rw [if_neg (by omega), if_pos h, if_pos hk]
  obtain ⟨h1, h2, h3, h4, h5, -⟩ := toTimeState_shows hs (v := 3) (by omega)
  rw [hl, h3]
  exact ⟨h1, h2, rfl, (timeIn_now 3).1, h4, h5⟩

theorem sourceLost_freerun (hs : s.sound = true) (h : s.rd Od.timeState = 1) (hk : s.time.lockedOnce = false) :
    s.sourceLost.rd Od.timeState = 0 ∧ s.sourceLost.rd Od.holdoverSince = 0 := by
  have hl : s.sourceLost = s.toTimeState 0 := by
    unfold State.sourceLost
    rw [if_neg (by omega), if_pos h, hk]
    rfl
  obtain ⟨h1, h2, -⟩ := toTimeState_shows hs (v := 0) (by omega)
  rw [hl]
  exact ⟨h1, h2⟩

theorem sourceLost_idle (h : s.rd Od.timeState = 0 ∨ s.rd Od.timeState = 3) : s.sourceLost = s := by
  unfold State.sourceLost
  rw [if_neg (by omega), if_neg (by omega)]

/-- What loses its source leaves the state of `sourceLost`, but for the count of missed edges. -/
theorem exec_lost {i : Instr} (h : (i = .ppsInMissed ∧ s.rd Od.timeSource = 2 ∧ 2 ≤ s.time.missedPps) ∨
    (i = .ptpAnnounceTimeout ∧ s.rd Od.timeSource = 1) ∨ (i = .freqSourceLost ∧ s.rd Od.freqSource ≠ 0)) :
    ∃ n, exec i s = .next (State.sourceLost { s with time := { s.time with missedPps := n } }) := by
  obtain ⟨rfl, h2, hn⟩ | ⟨rfl, h1⟩ | ⟨rfl, h0⟩ := h
  · exact ⟨_, (if_neg (by simpa using h2)).trans (if_pos (show 3 ≤ s.time.missedPps + 1 by omega))⟩
  · exact ⟨s.time.missedPps, if_pos h1⟩
  · exact ⟨s.time.missedPps, if_pos h0⟩

theorem sourceQualifies_idle (h : s.rd Od.timeState = 1 ∨ s.rd Od.timeState = 2) : s.sourceQualifies = s := by
  unfold State.sourceQualifies
  rw [if_neg (by omega)]

/-- A source that qualifies lets a FREERUN or HOLDOVER time unit acquire. -/
theorem sourceQualifies_shows (hs : s.sound = true) (h : s.rd Od.timeState = 0 ∨ s.rd Od.timeState = 3) : s.sourceQualifies.rd Od.timeState = 1 ∧
    s.sourceQualifies.time.fromFreerun = decide (s.rd Od.timeState = 0) ∧ ∀ o ∈ s.out, o ∈ s.sourceQualifies.out := by
  have hq : s.sourceQualifies = s.toTimeState 1 := if_pos h
  obtain ⟨h1, -, htime, -, -, hsent⟩ := toTimeState_shows hs (v := 1) (by omega)
  rw [hq, htime]
  exact ⟨h1, rfl, hsent⟩

/-- An ACQUIRING time unit locks. -/
theorem locks_shows (hs : s.sound = true) (h : s.rd Od.timeState = 1) (x : Int) (good : Nat) :
    (State.toTimeState { s with time := { s.time with slew := x, goodCount := good } } 2).rd Od.timeState = 2 ∧
    (State.toTimeState { s with time := { s.time with slew := x, goodCount := good } } 2).time.lockedOnce = true ∧
    (State.toTimeState { s with time := { s.time with slew := x, goodCount := good } } 2).time.slew = x ∧
    (State.toTimeState { s with time := { s.time with slew := x, goodCount := good } } 2).rd Od.holdoverSince = 0 := by
  obtain ⟨h1, h2, h3, -⟩ := toTimeState_shows (s := { s with time := { s.time with slew := x, goodCount := good } }) hs (v := 2)
    (show s.rd Od.timeState ≠ 2 by omega)
  rw [h3]
  exact ⟨h1, rfl, rfl, h2⟩

theorem withLane_live {n : Nat} {f : State} (hn : n < 512) (hd : s.hasDie (n / 64) = true) (hst : s.stopped = false) : withLane s n f = .next f :=
  (withLane_next s f n hn hd).trans (running_live hst f)

/-! A measured offset. -/

theorem measured_rd (hs : s.sound = true) (x : Int) : (s.wr Od.timeOffset (ofSigned 64 x)).rd Od.timeState = s.rd Od.timeState ∧
    (s.wr Od.timeOffset (ofSigned 64 x)).rd Od.stepThreshold = s.rd Od.stepThreshold ∧
    (s.wr Od.timeOffset (ofSigned 64 x)).rd Od.stepLimit = s.rd Od.stepLimit :=
  ⟨State.rd_wr_ne hs (show Od.timeOffset.key 0 0 ≠ Od.timeState.key 0 0 by decide),
    State.rd_wr_ne hs (show Od.timeOffset.key 0 0 ≠ Od.stepThreshold.key 0 0 by decide),
    State.rd_wr_ne hs (show Od.timeOffset.key 0 0 ≠ Od.stepLimit.key 0 0 by decide)⟩

/-- The measurement of an offset, with the registers read before it is shown. -/
theorem exec_measure (hs : s.sound = true) {x : Int} {u : State} (hu : u = s.wr Od.timeOffset (ofSigned 64 x)) :
    exec (.timeOffsetMeasure x) s = .next (
      if s.rd Od.timeState = 1 then
        if s.rd Od.stepThreshold * 65536 < x.natAbs then
          if s.rd Od.stepLimit * 65536 < x.natAbs ∧ ¬ (u.time.fromFreerun = true ∧ u.time.steppedOnce = false) then u.refuseStep x
          else u.decideStep x
        else if 16 ≤ (if x.natAbs ≤ 50 * 65536 then s.time.goodCount + 1 else 0) then
          ({ u with time := { u.time with slew := x, goodCount := if x.natAbs ≤ 50 * 65536 then s.time.goodCount + 1 else 0 } } : State).toTimeState 2
        else { u with time := { u.time with slew := x, goodCount := if x.natAbs ≤ 50 * 65536 then s.time.goodCount + 1 else 0 } }
      else if s.rd Od.timeState = 2 then { u with time := { u.time with slew := x, corrections := (s.up, x) :: s.time.recent } }
      else u) := by
  obtain ⟨h1, h2, h3⟩ := measured_rd hs x
  subst hu
  refine congrArg Host.Outcome.next ?_
  unfold State.measure
  dsimp only
  rw [h1, h2, h3]
  rfl

theorem refuseStep_shows (hs : s.sound = true) (x : Int) : (s.refuseStep x).time = { s.time with refused := some x, goodCount := 0 } ∧
    (s.refuseStep x).rd Od.timeStepPending = ofSigned 64 (x / 65536) ∧ (s.refuseStep x).rd Od.timeState = if s.time.lockedOnce then 3 else 0 := by
  unfold State.refuseStep
  extract_lets back src s1 s2
  have h1 : s1.sound = true := hs
  have hp : (s1.wr Od.timeStepPending (ofSigned 64 (x / 65536))).sound = true := State.sound_wr h1 ..
  have h2 : s2.sound = true := State.sound_wr hp Od.timeState back 0 0
  have hpend : s2.rd Od.timeStepPending = ofSigned 64 (x / 65536) :=
    (State.rd_wr_ne hp (show Od.timeState.key 0 0 ≠ Od.timeStepPending.key 0 0 by decide)).trans (State.rd_wr_same h1 ..)
  have hstate : s2.rd Od.timeState = back := State.rd_wr_same hp ..
  have htime : s2.time = { s.time with refused := some x, goodCount := 0 } := rfl
  have hw : ∀ t : State, t.sound = true → t.time = s2.time → t.rd Od.timeStepPending = s2.rd Od.timeStepPending → t.rd Od.timeState = s2.rd Od.timeState →
      (t.fireLead 0x142).time = { s.time with refused := some x, goodCount := 0 } ∧
      (t.fireLead 0x142).rd Od.timeStepPending = ofSigned 64 (x / 65536) ∧ (t.fireLead 0x142).rd Od.timeState = back := fun t ht h1 h2 h3 =>
    ⟨((Quiet.refl t).fireLead 0x142).time.trans (h1.trans htime), (fireLead_rd ht _ _ _ _ (by decide)).trans (h2.trans hpend),
      (fireLead_rd ht _ _ _ _ (by decide)).trans (h3.trans hstate)⟩
  split
  · exact hw _ (State.sound_wr h2 ..) rfl (State.rd_wr_ne h2 (show Od.holdoverSince.key 0 0 ≠ Od.timeStepPending.key 0 0 by decide))
      (State.rd_wr_ne h2 (show Od.holdoverSince.key 0 0 ≠ Od.timeState.key 0 0 by decide))
  · exact hw _ h2 rfl rfl rfl

end

/-- Settles O26: every row is a branch of its command, and the rows that change TIME_STATE share what `toTimeState` shows. -/
theorem timeSources : Obligations.TimeSources := by
  refine fun s hs => ⟨fun h hne => if_pos hne, fun s1 hs1 => ⟨fun h2 => ?_, fun v h2 htod => ?_, fun v h2 htod => ?_, fun h2 htod hk hst => ?_⟩,
    fun h2 hn => ?_, fun lost hlost i hi => ⟨fun h => ?_, fun h hk => ?_, fun h => ?_⟩, fun n hst hn hd => ⟨fun h0 m => ?_, fun h0 => ?_, fun h0 h1 hs03 => ?_⟩,
    fun x u hu => ⟨fun h2 => ?_, fun h03 => ?_, fun h1 hle => ⟨fun hbig => ?_, fun hgood hc => ?_, fun hgood hc => ?_⟩, fun h1 hlt hle => ?_,
      fun h1 hlt hlim hstep => ?_⟩, fun h1 => ?_, fun h2 h0 => ?_, fun h2 h0 => ?_, fun h0 => ?_⟩
  · subst hs1
    exact (if_neg (by simp)).trans (if_pos h2)
  · subst hs1
    refine (if_neg (by simp)).trans ((if_neg (by simpa using h2)).trans ?_)
    rw [htod]
    rfl
  · subst hs1
    refine (if_neg (by simp)).trans ((if_neg (by simpa using h2)).trans ?_)
    rw [htod]
    rfl
  · subst hs1
    refine (if_neg (by simp)).trans ((if_neg (by simpa using h2)).trans ?_)
    rw [htod, hk]
    exact (if_pos rfl).trans (congrArg (fun t : State => Host.Outcome.next (t.measure _)) (sourceQualifies_idle hst))
  · exact (if_neg (by simpa using h2)).trans (if_neg (show ¬3 ≤ s.time.missedPps + 1 by omega))
  · obtain ⟨n, hex⟩ := exec_lost ((hlost i).mp hi)
    exact ⟨_, hex, sourceLost_holdover hs h⟩
  · obtain ⟨n, hex⟩ := exec_lost ((hlost i).mp hi)
    exact ⟨_, hex, sourceLost_freerun hs h hk⟩
  · obtain ⟨n, hex⟩ := exec_lost ((hlost i).mp hi)
    exact ⟨_, hex.trans (congrArg _ (sourceLost_idle (by exact h))), rfl, rfl⟩
  · exact (withLane_live hn hd hst).trans (congrArg _ (if_pos h0))
  · exact (withLane_live hn hd hst).trans (congrArg _ ((if_neg h0).trans (if_neg (by simp))))
  · have hex : exec (.ptpMessageRx n true) s = .next (s.emit (.ptp n (time96 (s.rxStamp n)) (toSigned 32 (s.rd Od.ptpAsymmetry (portInst n))))).sourceQualifies :=
      (withLane_live hn hd hst).trans (congrArg Host.Outcome.next ((if_neg h0).trans (if_pos ⟨rfl, h1⟩)))
    obtain ⟨h1, hfree, hsent⟩ := sourceQualifies_shows (s := s.emit (.ptp n (time96 (s.rxStamp n)) (toSigned 32 (s.rd Od.ptpAsymmetry (portInst n)))))
      (by exact hs) hs03
    exact ⟨_, hex, h1, hfree, hsent _ List.mem_cons_self⟩
  · rw [exec_measure hs hu, if_neg (by omega), if_pos h2]
  · rw [exec_measure hs hu, if_neg (by omega), if_neg (by omega)]
  · rw [exec_measure hs hu, if_pos h1, if_neg (by omega), if_neg (show ¬x.natAbs ≤ 50 * 65536 by omega), if_neg (by omega)]
  · rw [exec_measure hs hu, if_pos h1, if_neg (by omega), if_pos hgood, if_neg (by omega)]
  · have hex := exec_measure hs hu
    rw [if_pos h1, if_neg (by omega), if_pos (show 16 ≤ if x.natAbs ≤ 50 * 65536 then s.time.goodCount + 1 else 0 by rw [if_pos hgood]; omega)] at hex
    refine ⟨_, hex, ?_⟩
    subst hu
    exact locks_shows (State.sound_wr hs ..) ((measured_rd hs x).1.trans h1) _ _
  · rw [exec_measure hs hu, if_pos h1, if_pos hlt, if_neg (fun h => by omega)]
  · have hex := exec_measure hs hu
    rw [if_pos h1, if_pos hlt, if_pos ⟨hlim, fun h => absurd (hstep.symm.trans (hu ▸ h.2)) (by decide)⟩] at hex
    subst hu
    obtain ⟨ht, hp, hstate⟩ := refuseStep_shows (State.sound_wr hs Od.timeOffset (ofSigned 64 x) 0 0) x
    refine ⟨_, hex, ?_, hp, hstate, ?_, ?_⟩ <;> rw [ht] <;> rfl
  · exact if_pos h1
  · exact (if_neg (by omega)).trans ((if_pos h2).trans (congrArg _ (if_pos h0)))
  · exact (if_neg (by omega)).trans ((if_pos h2).trans (congrArg _ (if_neg h0)))
  · exact (if_neg (by omega)).trans (if_neg (by omega))

end Sys2Proof.Machine
end

section
namespace Sys2Proof.Machine

/-! A time step: what the timers do when package time moves. -/

/-- The registers that a fire or the end of a timer can write. -/
def retimed : List Nat := fired ++ (List.range 16).map fun k => 0xA30004 + k * 256

section
variable {s t : State}

theorem timerArm_retimed (n : Nat) : Od.timerArm.key 0 (n % 16) % 16777216 ∈ retimed := by
  have hkey : Od.timerArm.key 0 (n % 16) % 16777216 = 0xA30004 + n % 16 * 256 := by
    simp only [Obj.key, dictKey, Od.timerArm]
    omega
  rw [hkey]
  exact List.mem_append_right _ (List.mem_map_of_mem (List.mem_range.mpr (Nat.mod_lt n (by decide))))

/-- What happens to one timer when package time moves. -/
theorem retimeTimer_steps (forward : Bool) (a : State) (e : Nat × Nat) (P : State → Prop) (h : P a) (hfire : ∀ d n, P a → P (a.fire d n))
    (hwr : ∀ b : State, P b → P (b.wr Od.timerArm 0 (dieInst (e.1 / 16)) (e.1 % 16)))
    (hev : ∀ b : State, ∀ x, P b → P { b with events := { b.events with timers := x } }) :
    P (let d := e.1 / 16
      let k := e.1 % 16
      let start := ofTime96 (s.rd Od.timerStart (dieInst d) k) / 65536
      let period := s.rd Od.timerPeriod (dieInst d) k
      let ns := a.ns
      let t1 := if forward ∧ e.2 ≤ ns then a.fire d (0x180 + k) else a
      if period = 0 then
        if e.2 ≤ ns then
          ({ t1 with events := { t1.events with timers := sparseErase t1.events.timers e.1 } }).wr Od.timerArm 0 (dieInst d) k
        else t1
      else
        let next := if ns < start then start else start + ((ns - start) / period + 1) * period
        { t1 with events := { t1.events with timers := sparsePut t1.events.timers e.1 next } }) := by
  extract_lets d k start period ns t1 next
  have ht1 : P t1 := by
    unfold t1
    split
    · exact hfire _ _ h
    · exact h
  split
  · split
    · exact hwr _ (hev _ _ ht1)
    · exact ht1
  · exact hev _ _ ht1

theorem Writes.retimeTimers (h : Writes retimed s t) (forward : Bool) : Writes retimed s (t.retimeTimers forward) :=
  h.foldl fun a e ha => retimeTimer_steps forward a e (Writes retimed s) ha (fun _ _ hb => hb.fire ..) (fun _ hb => hb.wr (timerArm_retimed _))
    fun _ _ hb => hb.same

theorem Quiet.retimeTimers (h : Quiet s t) (forward : Bool) : Quiet s (t.retimeTimers forward) :=
  h.foldl fun a e ha => retimeTimer_steps forward a e (Quiet s) ha (fun _ _ hb => hb.fire ..) (fun _ hb => hb.wr ..) fun _ _ hb => hb.same

/-- The gates of commits whose epoch a step skips. -/
def State.skipGates (s : State) (e : Nat) : State :=
  (s.sched.changes.filter fun c => decide (c.epoch ≤ e)).foldl (fun (t : State) c => match c.commits with
    | some set => t.moveGates set c.epoch (e + 1)
    | none => t) s

theorem skipGates_eq (s : State) (e : Nat) : ∃ a, s.skipGates e = { s with asa := a } := by
  have h : ∀ (l : List Change) (t : State), (∃ a, t = { s with asa := a }) → ∃ a, l.foldl (fun (t : State) c => match c.commits with
      | some set => t.moveGates set c.epoch (e + 1)
      | none => t) t = { s with asa := a } := by
    intro l
    induction l with
    | nil => exact fun t h => h
    | cons c l ih =>
      rintro t ⟨a, rfl⟩
      refine ih _ ?_
      dsimp only
      split
      · exact ⟨_, rfl⟩
      · exact ⟨a, rfl⟩
  exact h _ s ⟨s.asa, rfl⟩

/-- The state that a time step announces: package time has moved, and nothing waits for the step. -/
def State.stepped (s : State) (now : Nat) : State :=
  { s.skipGates (now / 65536 / s.epochNs) with
    time := { s.time with now := now, epoch := max (now / 65536 / s.epochNs) s.time.epoch, held := decide (now / 65536 / s.epochNs < s.time.epoch),
                          decided := none, slew := 0 },
    ctrs := { s.ctrs with stepAt := some (now / 65536) } }

theorem exec_timeStep {x : Int} {b now : Nat} (hd : s.time.decided = some (x, b)) (hnow : now = ((s.time.now : Int) + x).toNat) (hb : b ≤ s.time.epoch) :
    exec .timeStep s = .next (((((s.stepped now).wr Od.timeStepPending 0).emit (.timeStep x)).retimeTimers (decide (0 < x))).fireLead 0x143) := by
  show execTimeStep s = _
  unfold execTimeStep
  rw [hd]
  dsimp only
  rw [if_neg (by omega), hnow]
  rfl

theorem timeStep_shows (hs : s.sound = true) {x : Int} {b now : Nat} (hd : s.time.decided = some (x, b)) (hnow : now = ((s.time.now : Int) + x).toNat)
    (hb : b ≤ s.time.epoch) : Runs .timeStep s fun t => t.time.now = now ∧ t.time.decided = none ∧ t.time.epoch = max (now / 65536 / s.epochNs) s.time.epoch ∧
      t.time.held = decide (now / 65536 / s.epochNs < s.time.epoch) ∧ t.rd Od.timeStepPending = 0 ∧ t.ctrs.stepAt = some (now / 65536) ∧
      .timeStep x ∈ t.out ∧ t.packets = s.packets ∧ t.fams = s.fams := by
  have hex := exec_timeStep hd hnow hb
  obtain ⟨u, hu⟩ : ∃ u, u = ((s.stepped now).wr Od.timeStepPending 0).emit (.timeStep x) := ⟨_, rfl⟩
  have hstep : (s.stepped now).sound = true := by
    obtain ⟨a, ha⟩ := skipGates_eq s (now / 65536 / s.epochNs)
    unfold State.stepped
    rw [ha]
    exact hs
  have hdata : (s.stepped now).packets = s.packets ∧ (s.stepped now).fams = s.fams := by
    obtain ⟨a, ha⟩ := skipGates_eq s (now / 65536 / s.epochNs)
    unfold State.stepped
    rw [ha]
    exact ⟨rfl, rfl⟩
  have hsound : u.sound = true := by
    rw [hu]
    exact (((Keeps.refl (s.stepped now)).wr Od.timeStepPending 0 0 0).emit _).sound hstep
  have hq : Quiet u ((u.retimeTimers (decide (0 < x))).fireLead 0x143) := .fireLead (.retimeTimers (.refl u) _) _
  have hw : Writes retimed u ((u.retimeTimers (decide (0 < x))).fireLead 0x143) := .fireLead (.retimeTimers (.refl hsound) _) _
  have hregs : u.regs = ((s.stepped now).wr Od.timeStepPending 0 0 0).regs := by rw [hu, State.emit_regs]
  have hpend := (State.rd_congr hregs Od.timeStepPending 0 0).trans (State.rd_wr_same hstep Od.timeStepPending 0 0 0)
  have htime : u.time = (s.stepped now).time := by rw [hu]; rfl
  have hpk : u.packets = s.packets ∧ u.fams = s.fams := by
    rw [hu]
    simpa only [State.emit, State.wr] using hdata
  have hctrs : u.ctrs = (s.stepped now).ctrs := by rw [hu]; rfl
  refine ⟨_, hu ▸ hex, ?_⟩
  dsimp only
  rw [hq.time, hq.ctrs, htime, hctrs]
  exact ⟨rfl, rfl, rfl, rfl, (hw.rd _ _ _ (by decide)).trans hpend, rfl, hw.sent _ (hu ▸ List.mem_cons_self), hq.packets.trans hpk.1, hq.fams.trans hpk.2⟩

/-! A boundary. -/

/-- Package time at the next boundary. -/
def State.nextEpoch (s : State) : State :=
  let now := max s.time.now ((s.time.epoch + 1) * s.epochNs * 65536)
  { s with time := { s.time with epoch := s.time.epoch + 1, now := now, up := s.time.up + (now - s.time.now) / 65536 } }

/-- What stands pending after the boundary of epoch `e`. -/
def State.keepLater (s : State) (e : Nat) : State := { s with sched := { s.sched with changes := s.sched.changes.filter fun c => decide (e < c.epoch) } }

theorem boundary_noTables (hops : s.rings.ops = []) {due : List Change}
    (hdue : sortBy Change.before (s.sched.changes.filter fun c => decide (c.epoch ≤ s.time.epoch + 1)) = due) : s.boundary =
    ((due.foldl (fun (t : State) c => t.applyChange (s.time.epoch + 1) c)
      (if due.any (fun c => c.ingress && !(s.nextEpoch.keepLater (s.time.epoch + 1)).vetoed c) then (s.nextEpoch.keepLater (s.time.epoch + 1)).advanceGen
        else s.nextEpoch.keepLater (s.time.epoch + 1))).releaseBanks.clearPend).boundaryAgenda := by
  have hs1 : ∀ n, State.settleTables n s.nextEpoch = s.nextEpoch := fun n => by
    have hn : s.nextEpoch.rings.ops = [] := hops
    cases n with
    | zero => rfl
    | succ n =>
      unfold State.settleTables
      rw [hn]
  subst hdue
  unfold State.boundary
  extract_lets e now t s1 s2 due sched s3 s4
  have hs2 : s2 = s1 := hs1 _
  unfold s4 s3 sched due
  clear_value s2
  subst hs2
  rfl

theorem releaseBanks_none (h : ∀ x ∈ s.sched.holds, s.holdDone x = false) : s.releaseBanks = s := by
  unfold State.releaseBanks
  rw [List.filter_eq_nil_iff.mpr fun x hx => by rw [h x hx]; decide]
  rfl

theorem clearPend_none (h : s.learning.pend = []) : s.clearPend = s := by
  obtain ⟨f, hf⟩ : ∃ f : Nat × Nat × Bool → Bool, f = fun e => !decide (e.2.1 * s.epochNs + 64000 ≤ s.ns) := ⟨_, rfl⟩
  have hpend : s.learning.pend.filter f = s.learning.pend := by rw [h]; rfl
  have hs1 : ({ s with learning := { s.learning with pend := s.learning.pend.filter f } } : State) = s := by rw [hpend]
  subst hf
  unfold State.clearPend
  dsimp only
  rw [hs1, h]
  simp only [List.filter_nil, List.foldl_nil, List.any_nil, Bool.and_false]
  rw [List.filter_eq_nil_iff.mpr fun _ _ => by decide]
  rfl

/-- The boundary puts commands on the agenda at its end, and changes nothing else. -/
theorem boundaryAgenda_eq (s : State) : ∃ a, s.boundaryAgenda = { s with agenda := a } := by
  have hl : ∀ {α : Type} (l : List α) (g : State → α → State), (∀ a x, ∃ b, g { s with agenda := a } x = { s with agenda := b }) →
      ∀ a, ∃ b, l.foldl g { s with agenda := a } = { s with agenda := b } := by
    intro α l g hg
    induction l with
    | nil => exact fun a => ⟨a, rfl⟩
    | cons x l ih =>
      intro a
      obtain ⟨b, hb⟩ := hg a x
      rw [List.foldl_cons, hb]
      exact ih b
  unfold State.boundaryAgenda
  extract_lets due s1 s2 s3
  have h1 : ∃ a, s1 = { s with agenda := a } := hl _ _ (fun a x => by
    split
    · exact ⟨_, rfl⟩
    · exact ⟨a, rfl⟩) s.agenda
  have h2 : ∃ a, s2 = { s with agenda := a } := by
    obtain ⟨a, ha⟩ := h1
    unfold s2
    rw [ha]
    split
    · exact ⟨_, rfl⟩
    · exact ⟨a, rfl⟩
  have h3 : ∃ a, s3 = { s with agenda := a } := by
    obtain ⟨a, ha⟩ := h2
    unfold s3
    rw [ha]
    split
    · exact hl _ _ (fun a x => by
        split
        · exact ⟨a, rfl⟩
        · exact ⟨_, rfl⟩) a
    · exact ⟨a, rfl⟩
  obtain ⟨a, ha⟩ := h3
  rw [ha]
  split
  · split
    · exact ⟨_, rfl⟩
    · exact ⟨a, rfl⟩
  · exact ⟨a, rfl⟩

/-- A boundary that leaves `t` after its changes, where no bank is due for release. -/
theorem boundary_after {t : State} (hh : ∀ x ∈ t.sched.holds, t.holdDone x = false) (hp : t.learning.pend = []) :
    ∃ a, t.releaseBanks.clearPend.boundaryAgenda = { t with agenda := a } := by
  rw [releaseBanks_none hh, clearPend_none hp]
  exact boundaryAgenda_eq t

theorem boundary_idle (hops : s.rings.ops = []) (hholds : s.sched.holds = []) (hpend : s.learning.pend = []) (h : ∀ c ∈ s.sched.changes, s.time.epoch + 1 < c.epoch) :
    ∃ a, s.boundary = { s.nextEpoch with agenda := a } := by
  have hdue : s.sched.changes.filter (fun c => decide (c.epoch ≤ s.time.epoch + 1)) = [] :=
    List.filter_eq_nil_iff.mpr fun c hc => by simpa using h c hc
  have hkeep : s.nextEpoch.keepLater (s.time.epoch + 1) = s.nextEpoch := by
    have : s.sched.changes.filter (fun c => decide (s.time.epoch + 1 < c.epoch)) = s.sched.changes :=
      List.filter_eq_self.mpr fun c hc => by simpa using h c hc
    unfold State.keepLater
    rw [show s.nextEpoch.sched.changes = s.sched.changes from rfl, this]
    rfl
  rw [boundary_noTables hops (due := []) (by rw [hdue]; rfl), hkeep]
  exact boundary_after (t := s.nextEpoch) (fun x hx => absurd hx (by rw [show s.nextEpoch.sched.holds = s.sched.holds from rfl, hholds]; exact List.not_mem_nil)) hpend

/-! A change of one register. -/

theorem settleShapers_eq (s : State) (a : Address) : ∃ tm, s.settleShapers a = { s with tm := tm } := by
  unfold State.settleShapers
  dsimp only
  split
  · exact ⟨_, rfl⟩
  · split
    · exact ⟨_, rfl⟩
    · exact ⟨s.tm, rfl⟩

/-- The state with a new value of a register, before an event tells of it. -/
def State.changed (s : State) (c : Change) : State := (s.settleShapers c.addr).changeReg (addrKey c.addr) c.value c.ingress

theorem changed_regs (s : State) (c : Change) : (s.changed c).regs = sparseSet Od.defaultAt s.regs (addrKey c.addr) c.value := by
  obtain ⟨tm, htm⟩ := settleShapers_eq s c.addr
  unfold State.changed
  rw [htm]
  rfl

theorem changed_sched (s : State) (c : Change) : (s.changed c).sched.changes = s.sched.changes ∧ (s.changed c).sched.gen = s.sched.gen ∧
    (s.changed c).sched.holds = s.sched.holds ∧ (s.changed c).time = s.time ∧ (s.changed c).learning = s.learning := by
  obtain ⟨tm, htm⟩ := settleShapers_eq s c.addr
  unfold State.changed
  rw [htm]
  exact ⟨rfl, rfl, rfl, rfl, rfl⟩

theorem changed_sound (hs : s.sound = true) (c : Change) : (s.changed c).sound = true := (((Keeps.refl s).settleShapers _).changeReg ..).sound hs

theorem changed_at (hs : s.sound = true) (c : Change) (j : Nat) :
    sparseGet Od.defaultAt (s.changed c).regs j = if addrKey c.addr = j then c.value else sparseGet Od.defaultAt s.regs j := by
  rw [changed_regs]
  exact sparseGet_set _ _ _ _ _ (sound_rising hs)

theorem changeValue_eq (s : State) (c : Change) : s.changeValue c =
    if c.keeper = true ∧ 0x6400 ≤ c.index ∧ c.index < 0x6408 ∧ c.sub = 2 then (s.changed c).fireLead 0x14D else s.changed c := rfl

/-- A threshold's register is none that an event writes. -/
theorem addrKey_mod_of_threshold {c : Change} (h1 : 0x6400 ≤ c.index) (h2 : c.index < 0x6408) (h3 : c.sub = 2) : addrKey c.addr % 16777216 ∉ fired := by
  have hkey : addrKey c.addr % 16777216 = c.index * 256 + 2 := by
    unfold addrKey Change.addr dictKey
    rw [h3]
    dsimp only
    omega
  rw [hkey]
  simp only [fired, List.mem_cons, List.not_mem_nil, or_false, not_or]
  omega

/-- A new value of a register above 0x3000, and what it leaves. -/
theorem changeValue_shows (hs : s.sound = true) {c : Change} (hlo : 0x3000 ≤ c.index) :
    sparseGet Od.defaultAt (s.changeValue c).regs (addrKey c.addr) = c.value ∧ (s.changeValue c).rd Od.schedReportCq = s.rd Od.schedReportCq ∧
      (s.changeValue c).sched.changes = s.sched.changes ∧ (s.changeValue c).sched.gen = s.sched.gen ∧ (s.changeValue c).sched.holds = s.sched.holds ∧
      (s.changeValue c).time = s.time ∧ (s.changeValue c).learning = s.learning := by
  have hcq : (s.changed c).rd Od.schedReportCq = s.rd Od.schedReportCq := by
    have hkey : Od.schedReportCq.key 0 0 = 0x140803 := by decide
    refine (changed_at hs c _).trans (if_neg ?_)
    rw [hkey]
    unfold addrKey Change.addr dictKey
    dsimp only
    omega
  have hval : sparseGet Od.defaultAt (s.changed c).regs (addrKey c.addr) = c.value := (changed_at hs c _).trans (if_pos rfl)
  have hsched := changed_sched s c
  rw [changeValue_eq]
  split
  · rename_i h
    have hw := (Writes.refl (l := fired) (changed_sound hs c)).fireLead (s := s.changed c) 0x14D
    have hq := (Quiet.refl (s.changed c)).fireLead 0x14D
    rw [hq.sched, hq.time, hq.learning]
    exact ⟨(hw.held _ (addrKey_mod_of_threshold h.2.1 h.2.2.1 h.2.2.2)).trans hval, (hw.rd _ _ _ (by decide)).trans hcq, hsched⟩
  · exact ⟨hval, hcq, hsched⟩

theorem schedReport_none (h : s.rd Od.schedReportCq = 0xFFFF) (entry : Nat) : s.schedReport entry = s := if_pos h

/-- The generation in force once the boundary has moved it on for an ingress change. -/
def State.generation (s : State) (p : Bool) : State := if p then s.advanceGen else s

theorem generation_shows (hs : s.sound = true) (p : Bool) : (s.generation p).sound = true ∧
    (s.generation p).sched.gen = (if p then (s.sched.gen + 1) % 4 else s.sched.gen) ∧ (s.generation p).sched.changes = s.sched.changes ∧
    (s.generation p).sched.holds = s.sched.holds ∧ (s.generation p).rd Od.schedReportCq = s.rd Od.schedReportCq ∧ (s.generation p).time = s.time ∧
    (s.generation p).learning = s.learning ∧ (s.generation p).fams = s.fams ∧ (s.generation p).packets = s.packets := by
  cases p with
  | false => exact ⟨hs, rfl, rfl, rfl, rfl, rfl, rfl, rfl, rfl⟩
  | true =>
    have hw := State.rd_wr_ne hs (show Od.genCurrent.key 0 0 ≠ Od.schedReportCq.key 0 0 by decide) (v := (s.sched.gen + 1) % 4)
    exact ⟨((Keeps.refl s).advanceGen).sound hs, rfl, rfl, rfl, hw, rfl, rfl, rfl, rfl⟩

/-- The boundary of a single change. -/
theorem boundary_single {c : Change} (hops : s.rings.ops = []) (hc : s.sched.changes = [c]) (he : c.epoch = s.time.epoch + 1) : s.boundary =
    ((((s.nextEpoch.keepLater (s.time.epoch + 1)).generation (c.ingress && !(s.nextEpoch.keepLater (s.time.epoch + 1)).vetoed c)).applyChange
      (s.time.epoch + 1) c).releaseBanks.clearPend).boundaryAgenda := by
  have hdue : sortBy Change.before (s.sched.changes.filter fun c => decide (c.epoch ≤ s.time.epoch + 1)) = [c] := by
    rw [hc, List.filter_cons_of_pos (by simp [he])]
    rfl
  rw [boundary_noTables hops hdue]
  simp only [List.any_cons, List.any_nil, Bool.or_false, List.foldl_cons, List.foldl_nil]
  rfl

theorem keepLater_single {c : Change} (hc : s.sched.changes = [c]) (he : c.epoch = s.time.epoch + 1) :
    (s.nextEpoch.keepLater (s.time.epoch + 1)).sched.changes = [] := by
  show s.sched.changes.filter (fun c => decide (s.time.epoch + 1 < c.epoch)) = []
  rw [hc, List.filter_cons_of_neg (by simp [he])]
  rfl

/-- A register takes its new value at the boundary. -/
theorem boundary_register (hs : s.sound = true) {c : Change} (hops : s.rings.ops = []) (hholds : s.sched.holds = []) (hpend : s.learning.pend = [])
    (hc : s.sched.changes = [c]) (he : c.epoch = s.time.epoch + 1) (hlo : 0x3000 ≤ c.index) (hhi : c.index < 0x7000) (hswap : swapFamily c.addr = none)
    (hcommit : c.commits = none) (hcq : s.rd Od.schedReportCq = 0xFFFF) : sparseGet Od.defaultAt s.boundary.regs (addrKey c.addr) = c.value ∧
      s.boundary.sched.changes = [] ∧ s.boundary.time.epoch = s.time.epoch + 1 ∧
      s.boundary.sched.gen = if c.ingress then (s.sched.gen + 1) % 4 else s.sched.gen := by
  obtain ⟨b, hb⟩ : ∃ b, b = s.nextEpoch.keepLater (s.time.epoch + 1) := ⟨_, rfl⟩
  have hveto : b.vetoed c = false := by
    unfold State.vetoed
    rw [hswap]
  have hbs : b.sound = true := by rw [hb]; exact hs
  obtain ⟨hgs, hggen, hgch, hghold, hgcq, hgtime, hglearn, -, -⟩ := generation_shows hbs c.ingress
  obtain ⟨hval, hvcq, hvch, hvgen, hvhold, hvtime, hvlearn⟩ := changeValue_shows hgs hlo
  have happly : (b.generation c.ingress).applyChange (s.time.epoch + 1) c = (b.generation c.ingress).changeValue c := by
    unfold State.applyChange
    dsimp only
    rw [hswap, hcommit]
    dsimp only
    rw [if_neg (by show ¬c.index = _; omega), if_neg (by show ¬c.index = _; omega)]
    refine schedReport_none ?_ _
    rw [hvcq, hgcq, hb]
    exact hcq
  have hbound := boundary_single hops hc he
  rw [← hb, hveto, Bool.not_false, Bool.and_true, happly] at hbound
  obtain ⟨a, ha⟩ := boundary_after (t := (b.generation c.ingress).changeValue c)
    (by rw [hvhold, hghold, hb]; show ∀ x ∈ s.sched.holds, _; rw [hholds]; exact fun x hx => absurd hx List.not_mem_nil)
    (by rw [hvlearn, hglearn, hb]; exact hpend)
  rw [hbound, ha]
  refine ⟨hval, hvch.trans (hgch.trans (hb ▸ keepLater_single hc he)), ?_, hvgen.trans (hggen.trans (by rw [hb]; rfl))⟩
  show ((b.generation c.ingress).changeValue c).time.epoch = _
  rw [hvtime, hgtime, hb]
  rfl

/-! A swap of the parser's banks. -/

theorem fam_setFam (hf : sparseRising none s.fams = true) (f : Nat) (x : Family) : (s.setFam f x).fam f = x :=
  (sparseGet_set _ _ _ _ _ hf).trans (if_pos rfl)

theorem setFam_rising (hf : sparseRising none s.fams = true) (f : Nat) (x : Family) : sparseRising none (s.setFam f x).fams = true :=
  sparseRising_set (fun _ => Family.fresh) s.fams f x hf

theorem adopt_shows (hf : sparseRising none s.fams = true) (f : Nat) : (s.adopt f).fam f = { s.fam f with orphaned := false } ∧
    (s.adopt f).sched = s.sched ∧ (s.adopt f).time = s.time ∧ (s.adopt f).learning = s.learning ∧ (s.adopt f).packets = s.packets := by
  unfold State.adopt
  extract_lets x s1
  have h1 : s1.fam f = { s.fam f with orphaned := false } := fam_setFam hf f _
  split <;> exact ⟨h1, rfl, rfl, rfl, rfl⟩

/-- A swap of the parser's banks: the other bank is live, and the old one is held. -/
theorem swapBanks_parser (hf : sparseRising none s.fams = true) (hcq : s.rd Od.schedReportCq = 0xFFFF) (e : Nat) (c : Change) :
    ((s.swapBanks 0x30 e c).fam 0x30).live = 1 - (s.fam 0x30).live ∧
      (∃ h : Hold, (s.swapBanks 0x30 e c).sched.holds = s.sched.holds ++ [h] ∧ h.fam = 0x30 ∧ h.bank = (s.fam 0x30).live ∧ h.epoch = e) ∧
      (s.swapBanks 0x30 e c).sched.gen = s.sched.gen ∧ (s.swapBanks 0x30 e c).sched.changes = s.sched.changes ∧
      (s.swapBanks 0x30 e c).time = s.time ∧ (s.swapBanks 0x30 e c).learning = s.learning ∧ (s.swapBanks 0x30 e c).packets = s.packets := by
  unfold State.swapBanks
  extract_lets x s1 s2 s3
  have h32 : s3 = s2 := if_neg (by decide)
  have hf1 : sparseRising none s1.fams = true := setFam_rising hf ..
  have hf2 : sparseRising none s2.fams = true := setFam_rising hf1 0x30 { s1.fam 0x30 with live := 1 - (s1.fam 0x30).live, disagree := [] }
  have hlive1 : (s1.fam 0x30).live = (s.fam 0x30).live := by
    unfold s1
    rw [fam_setFam hf]
  have hlive2 : (s2.fam 0x30).live = 1 - (s.fam 0x30).live :=
    (congrArg Family.live (fam_setFam hf1 0x30 { s1.fam 0x30 with live := 1 - (s1.fam 0x30).live, disagree := [] }) :).trans (by rw [← hlive1])
  have hq := (Quiet.refl s2).fireLead evSwapDone
  unfold State.swapDone
  rw [h32, schedReport_none (s := s2) hcq]
  obtain ⟨hfam, hsched, htime, hlearn, hpk⟩ := adopt_shows (s := s2.fireLead evSwapDone) (by rw [hq.fams]; exact hf2) 0x30
  have hfam2 : (s2.fireLead evSwapDone).fam 0x30 = s2.fam 0x30 := by
    unfold State.fam
    rw [hq.fams]
  rw [hsched, htime, hlearn, hpk, hq.sched, hq.time, hq.learning, hq.packets, hfam, hfam2]
  exact ⟨hlive2, ⟨_, rfl, rfl, hlive1, rfl⟩, rfl, rfl, rfl, rfl, rfl⟩

theorem boundary_parserSwap (hs : s.sound = true) {c : Change} (hops : s.rings.ops = []) (hholds : s.sched.holds = []) (hpend : s.learning.pend = [])
    (hc : s.sched.changes = [c]) (he : c.epoch = s.time.epoch + 1) (hf : sparseRising none s.fams = true) (ha : c.addr = Obj.at_ Od.parserSwap 0 0)
    (hd : (s.fam 0x30).disagree = []) (hcq : s.rd Od.schedReportCq = 0xFFFF) : (s.boundary.fam 0x30).live = 1 - (s.fam 0x30).live ∧
      s.boundary.sched.gen = (s.sched.gen + 1) % 4 ∧ s.boundary.sched.changes = [] ∧
      (∃ h ∈ s.boundary.sched.holds, h.fam = 0x30 ∧ h.bank = (s.fam 0x30).live ∧ h.epoch = s.time.epoch + 1) ∧ s.boundary.packets = s.packets := by
  have hswap : swapFamily c.addr = some 0x30 := by rw [ha]; rfl
  have hing : c.ingress = true := by
    unfold Change.ingress
    rw [hswap]
    rfl
  obtain ⟨b, hb⟩ : ∃ b, b = s.nextEpoch.keepLater (s.time.epoch + 1) := ⟨_, rfl⟩
  have hbs : b.sound = true := by rw [hb]; exact hs
  have hbfam : b.fam 0x30 = s.fam 0x30 := by rw [hb]; rfl
  have hveto : b.vetoed c = false := by
    unfold State.vetoed
    rw [hswap]
    dsimp only
    rw [hbfam, hd]
    rfl
  obtain ⟨-, hggen, hgch, hghold, hgcq, hgtime, hglearn, hgfams, hgpk⟩ := generation_shows hbs true
  have hgfam : (b.generation true).fam 0x30 = s.fam 0x30 := by
    unfold State.fam at hbfam ⊢
    rw [hgfams, hbfam]
  have hgveto : (b.generation true).vetoed c = false := by
    unfold State.vetoed
    rw [hswap]
    dsimp only
    rw [hgfam, hd]
    rfl
  have happly : (b.generation true).applyChange (s.time.epoch + 1) c = (b.generation true).swapBanks 0x30 (s.time.epoch + 1) c := by
    unfold State.applyChange
    dsimp only
    rw [hswap, hgveto]
    rfl
  obtain ⟨hlive, ⟨h, hholds', hfam, hbank, hep⟩, hgen, hch, htime, hlearn, hpk⟩ := swapBanks_parser (s := b.generation true) (by rw [hgfams, hb]; exact hf)
    (by rw [hgcq, hb]; exact hcq) (s.time.epoch + 1) c
  have hbound := boundary_single hops hc he
  rw [← hb, hveto, hing, Bool.not_false, Bool.and_true, happly] at hbound
  generalize (b.generation true).swapBanks 0x30 (s.time.epoch + 1) c = t at hlive hholds' hgen hch htime hlearn hpk hbound
  have hnone : (b.generation true).sched.holds = [] := by
    rw [hghold, hb]
    exact hholds
  have hepoch : (b.generation true).time.epoch = s.time.epoch + 1 := by
    rw [hgtime, hb]
    rfl
  obtain ⟨a, ha⟩ := boundary_after (t := t)
    (by
      rw [hholds', hnone]
      intro x hx
      obtain rfl := List.mem_singleton.mp hx
      unfold State.holdDone
      rw [hep, htime, hepoch]
      simp)
    (by rw [hlearn, hglearn, hb]; exact hpend)
  rw [hbound, ha]
  refine ⟨hlive.trans (by rw [hgfam]), hgen.trans (hggen.trans (by rw [hb]; rfl)), hch.trans (hgch.trans (hb ▸ keepLater_single hc he)),
    ⟨h, ?_, hfam, hbank.trans (by rw [hgfam]), hep⟩, hpk.trans (hgpk.trans (by rw [hb]; rfl))⟩
  show h ∈ t.sched.holds
  rw [hholds']
  exact List.mem_append_right _ List.mem_cons_self

/-! A fence, and the time master. -/

theorem timeMasterFail_takes (hs : s.sound = true) {offset : Nat} (hm : s.time.master = 0) (hr : bitOf (s.reactionMask 0x13 1) 3 = false) :
    Runs (.timeMasterFail offset) s fun t => t.time.master = 1 ∧ t.time.now = s.time.now ∧ t.packets = s.packets := by
  obtain ⟨u, m, hu, h3, heq⟩ := recordFault_quiet hs
    { die := s.hostDie s.time.master, source := 0x13, cls := 1, location := s.hostDie s.time.master, detail0 := offset, detail1 := 0,
      spareUsed := s.time.master = 0, repairing := false } (show 0x13 < 256 by decide) (.inr (show 2 < 0x13 by decide))
  rw [if_neg (by simp [h3 hr])] at heq
  have hex : exec (.timeMasterFail offset) s = .next u.takeTime := by
    show execTimeMasterFail offset s = _
    unfold execTimeMasterFail
    dsimp only
    rw [if_pos hm, heq]
  have hq : Quiet { u with time := { u.time with master := 1 - u.time.master, ppsHigh := none } } u.takeTime :=
    .fireLead (.ite (.emit (.refl _) _) (.refl _)) _
  refine ⟨_, hex, ?_⟩
  dsimp only
  rw [hq.time, hq.packets]
  exact ⟨show 1 - u.time.master = 1 by rw [hu.time, hm], show u.time.now = _ by rw [hu.time], hu.packets⟩

end

/-- Settles O27: a step and a boundary are cut at the state that they announce; what follows is quiet. -/
theorem epochsAndSteps : Obligations.EpochsAndSteps := by
  refine fun s hs hst => ⟨fun x b now hd hnow => ⟨fun hlt => ?_, fun hle => timeStep_shows hs hd hnow hle⟩, fun hheld => ?_, fun hheld => ?_,
    fun hheld hops htimed hholds hdec hpend e he => ⟨fun hall => ?_, fun c hc hce => ⟨fun hlo hhi hswap hcommit hcq => ?_, fun hf ha hd hcq => ?_⟩⟩,
    fun d idle hd => ⟨fun hall => ?_, fun h hh hdone => ?_⟩, fun d c hd hc hack => ?_, fun d hd => ⟨fun hall => ?_, fun hfen hex => ?_⟩,
    fun offset hm hr => timeMasterFail_takes hs hm hr⟩
  · show execTimeStep s = _
    unfold execTimeStep
    rw [hd]
    exact if_pos hlt
  · exact (running_live hst _).trans (congrArg _ (if_pos hheld))
  · exact (running_live hst _).trans (congrArg _ (if_pos hheld))
  · subst he
    obtain ⟨a, ha⟩ := boundary_idle hops hholds hpend hall
    have hex : exec .epochBoundary s = .next s.boundary := (running_live hst _).trans (congrArg _ (if_neg (by simp [hheld])))
    rw [ha] at hex
    exact ⟨_, hex, rfl, rfl, rfl, rfl, rfl, rfl⟩
  · subst he
    exact ⟨s.boundary, (running_live hst _).trans (congrArg _ (if_neg (by simp [hheld]))),
      boundary_register hs hops hholds hpend hc hce hlo hhi hswap hcommit hcq⟩
  · subst he
    exact ⟨s.boundary, (running_live hst _).trans (congrArg _ (if_neg (by simp [hheld]))), boundary_parserSwap hs hops hholds hpend hc hce hf ha hd hcq⟩
  · exact (withDie_live hd hst _).trans (congrArg _ (releaseBanks_none hall))
  · refine (withDie_live hd hst _).trans (congrArg _ ?_)
    have hdone' : (s.reportIdle d idle).holdDone h = true := hdone
    unfold State.releaseBanks
    rw [hh, List.filter_cons_of_pos hdone']
    rfl
  · refine (withDie_live hd hst _).trans ?_
    rw [hc, List.map_cons, List.map_nil, if_pos ⟨rfl, hack⟩]
  · refine (withDie_live hd hst _).trans (congrArg _ (if_neg ?_))
    unfold State.ackOverdue
    simp only [List.any_eq_true, Bool.and_eq_true, Bool.not_eq_true', decide_eq_true_eq, List.contains_eq_mem, not_exists, not_and]
    intro c hc hn
    obtain h | h := hall c hc
    · simp [h] at hn
    · omega
  · obtain ⟨c, hc, hn, hle⟩ := hex
    refine (withDie_live hd hst _).trans (congrArg _ (if_pos ?_))
    unfold State.ackOverdue
    exact List.any_eq_true.mpr ⟨c, hc, by simp [hn, hle]⟩

end Sys2Proof.Machine
end

section
namespace Sys2Proof.Machine

-- One evaluation of the model at a time.
set_option Elab.async false

/-! A lane in step 3 that has seen 15 frames with PAM6. -/

/-- Port 0 of one lane in the L400 profile trains; its lane is in step 3 and has seen 15 frames with PAM6. -/
def fifteenFrames : State :=
  let s := (State.reset.wr Od.portMode 9 (portInst 0)).wr Od.portState 1 (portInst 0)
  s.setLaneLink 0 { LaneLink.fresh with step := 3, pamSeen := 15 }

theorem fifteenFrames_trains : fifteenFrames.sound = true ∧ fifteenFrames.stopped = false ∧ fifteenFrames.hasDie (0 / 64) = true ∧
    fifteenFrames.portOfLane 0 = some 0 ∧ fifteenFrames.portStateOf 0 = 1 ∧ modeGroup (fifteenFrames.portModeOf 0) = 1 ∧
    sparseRising none fifteenFrames.links.lanes = true ∧ (fifteenFrames.laneLink 0).step = 3 ∧ (fifteenFrames.laneLink 0).pamSeen = 15 := by
  decide +kernel

/-- The step of lane 0 after a command. -/
def Answer.laneStep : Answer → Nat
  | .next t => (t.laneLink 0).step
  | _ => 0

theorem fifteenFrames_waits : Answer.laneStep (exec (.trainingFrameRx 0 0x1020 0x1000 true) fifteenFrames) = 3 := by decide +kernel

/-- Refutes O28: step 3 ends only on a frame after the sixteenth with PAM6 has been counted, not on the sixteenth itself. -/
theorem not_linkTraining : ¬ Obligations.LinkTraining := by
  intro h
  obtain ⟨hs, hst, hd, hp, hstate, hgroup, hl, hstep, hseen⟩ := fifteenFrames_trains
  obtain ⟨-, -, -, htrain, -⟩ := h fifteenFrames 0 hs hst (by decide) hd
  obtain ⟨t, ht, hnext, -⟩ := htrain 0 (fifteenFrames.laneLink 0) 0x1020 0x1000 true hp hstate hgroup (by decide) (by decide) hl rfl
  have hwait := fifteenFrames_waits
  rw [ht] at hwait
  rw [hstep, hseen] at hnext
  have hlane : (t.laneLink 0).step = 3 := hwait
  rw [hlane] at hnext
  exact absurd hnext (by decide)

end Sys2Proof.Machine
end

section
namespace Sys2Proof.Machine

-- Many short lemmas: in turn, as each thread of its own takes stack.
set_option Elab.async false

/-! What a fire of an event leaves: all but the registers, the events, the agenda and what is sent. -/

/-- The state without the parts that a fire changes. -/
def State.calm (s : State) : State := { s with regs := [], events := State.reset.events, out := [], agenda := [] }

/-- `t` is `s` but for registers, events, agenda and output. -/
def Calm (s t : State) : Prop := t.calm = s.calm

namespace Calm
section
variable {s t : State} (h : Calm s t)
include h

theorem eq : t.calm = s.calm := h

theorem recov : t.recov = s.recov := (congrArg State.recov (eq h) :)
theorem packets : t.packets = s.packets := (congrArg State.packets (eq h) :)
theorem links : t.links = s.links := (congrArg State.links (eq h) :)
theorem time : t.time = s.time := (congrArg State.time (eq h) :)
theorem dict : t.dict = s.dict := (congrArg State.dict (eq h) :)
theorem rings : t.rings = s.rings := (congrArg State.rings (eq h) :)
theorem power : t.power = s.power := (congrArg State.power (eq h) :)
theorem boot : t.boot = s.boot := (congrArg State.boot (eq h) :)
theorem tables : t.tables = s.tables := (congrArg State.tables (eq h) :)
theorem bufs : t.bufs = s.bufs := (congrArg State.bufs (eq h) :)
theorem tm : t.tm = s.tm := (congrArg State.tm (eq h) :)
theorem fabric : t.fabric = s.fabric := (congrArg State.fabric (eq h) :)
theorem ctrs : t.ctrs = s.ctrs := (congrArg State.ctrs (eq h) :)
theorem learning : t.learning = s.learning := (congrArg State.learning (eq h) :)
theorem ae : t.ae = s.ae := (congrArg State.ae (eq h) :)
theorem part : t.part = s.part := (congrArg State.part (eq h) :)

theorem same {u : State} (k : u.calm = t.calm := by unfold State.calm; rfl) : Calm s u := Eq.trans k h

theorem trans {u : State} (k : Calm t u) : Calm s u := Eq.trans k h

theorem wr (o : Obj) (v inst k : Nat) : Calm s (t.wr o v inst k) := h.same

theorem bump (o : Obj) (inst k n : Nat) : Calm s (t.bump o inst k n) := h.wr ..

theorem emit (o : Out) : Calm s (t.emit o) := h.same

theorem later (n : Nat) (i : Instr) : Calm s (t.later n i) := h.same

theorem setSource (key : Nat) (e : EventSource) : Calm s (t.setSource key e) := h.same

theorem setActive (kind target : Nat) (l : List ActiveEvent) : Calm s (t.setActive kind target l) := h.same

theorem unpresent (target : Nat) (keep : Option Nat) : Calm s (t.unpresent target keep) := h.same
end

section
variable {s t : State}

theorem refl (s : State) : Calm s s := rfl

theorem ite {u : State} {p : Prop} [Decidable p] (h : Calm s t) (k : Calm s u) : Calm s (if p then t else u) := by
  split <;> assumption

theorem foldl {α : Type} {g : State → α → State} {l : List α} (h : Calm s t) (hg : ∀ a x, Calm s a → Calm s (g a x)) : Calm s (l.foldl g t) := by
  induction l generalizing t with
  | nil => exact h
  | cons x l ih => exact ih (hg t x h)

theorem activate (h : Calm s t) (key kind target : Nat) : Calm s (t.activate key kind target) := .setActive (h.setSource ..) ..

theorem presentCore (h : Calm s t) (target : Nat) : Calm s (t.presentCore target) :=
  .ite (by split; (exact .ite (h.unpresent ..) (.emit (.setSource (h.unpresent ..) ..) ..); exact h.unpresent ..)) (h.unpresent ..)

theorem sendVector (h : Calm s t) (n target : Nat) : Calm s (State.sendVector n t target) := by
  induction n generalizing t with
  | zero => exact h
  | succ n ih =>
    unfold State.sendVector
    split
    · split
      · exact ih (.emit (h.activate ..) ..)
      · exact h
    · exact h

theorem serveTarget (h : Calm s t) (kind target : Nat) : Calm s (t.serveTarget kind target) := .ite (h.presentCore ..) (.ite (h.sendVector ..) h)

theorem startWake (h : Calm s t) (reason source : Nat) : Calm s (t.startWake reason source) :=
  .ite h (.ite (.later (.later (.wr (.wr (h.wr ..) ..) ..) ..) ..) (.later (.wr (.wr (h.wr ..) ..) ..) ..))

theorem wakePackage (h : Calm s t) (wake : Bool) (code : Nat) : Calm s (t.wakePackage wake code) := .ite (h.startWake ..) h

theorem wakeTarget (h : Calm s t) (kind target : Nat) : Calm s (t.wakeTarget kind target) := .ite (.emit h.same ..) h

theorem signalPme (h : Calm s t) (kind target : Nat) : Calm s (t.signalPme kind target) := .ite (h.emit ..) h

theorem fire (h : Calm s t) (d n : Nat) : Calm s (t.fire d n) :=
  .ite h (.ite (.bump (h.setSource ..) ..) (.serveTarget (.signalPme (.wakeTarget (.wakePackage (h.setSource ..) ..) ..) ..) ..))

theorem fireLead (h : Calm s t) (n : Nat) : Calm s (t.fireLead n) := h.fire ..

theorem fireLane (h : Calm s t) (n : Nat) : Calm s (t.fireLane n) := h.fire ..

theorem endEvent (h : Calm s t) (kind target code : Nat) : Calm s (t.endEvent kind target code) := .serveTarget (.setSource (h.setActive ..) ..) ..

end
end Calm

section
variable {l : List Nat} {s t : State}

theorem Writes.fireLane (h : Writes l s t) (n : Nat) (hl : fired ⊆ l := by decide) : Writes l s (t.fireLane n) := h.fire _ _ hl

theorem Quiet.fireLane (h : Quiet s t) (n : Nat) : Quiet s (t.fireLane n) := h.fire ..

end
/-- A write of one object leaves every other as it is, on all instances. -/
theorem State.rd_wr_other {s : State} (hs : s.sound = true) {o o' : Obj} {v inst k inst' k' : Nat} (h : o.key 0 k % 16777216 ≠ o'.key 0 k' % 16777216) :
    (s.wr o v inst k).rd o' inst' k' = s.rd o' inst' k' :=
  State.rd_wr_ne hs fun e => h (by rw [← key_mod o inst, ← key_mod o' inst', e])

end Sys2Proof.Machine
end

section
namespace Sys2Proof.Machine

/-! The lane repair trigger. -/

section
variable {s : State} {n o : Nat}

theorem countWindow_sched (s : State) (n p trigger heavy lost : Nat) : (s.countWindow n p trigger heavy lost).sched = s.sched := by
  unfold State.countWindow
  dsimp only
  split
  · split <;> rfl
  · rfl

theorem preempt_none (h : s.sched.changes = []) (o lane : Nat) : s.preempt o lane = s := by
  unfold State.preempt
  rw [cancelChanges_none (by rw [h]; exact fun _ hc => absurd hc List.not_mem_nil), h]
  rfl

/-- A trigger on a lane that runs on its own slice, with no changeover of its octet under way. -/
theorem exec_laneRepairTrigger {p heavy lost : Nat} {s1 : State} (hst : s.stopped = false) (hn : n < 512) (hd : s.hasDie (n / 64) = true)
    (hp : s.portOfLane n = some p) (hsl : s.rd Od.laneSlice (portInst n) = 0) (hjob : (s.spareSlice (n / 8)).job = none)
    (hnext : (s.spareSlice (n / 8)).next = none) (hs1 : s1 = s.countWindow n p 2 heavy lost) : exec (.laneRepairTrigger n 2 heavy lost) s = .next (
      if s.heavyLane p heavy = false then s1
      else if s.sliceState (n / 8) < 3 then (s1.preempt (n / 8) (n % 8)).startJob (n / 8)
        { lane := n % 8, repair := true, back := false, rxDone := false, began := s.up, loaded := false, trigger := 2, lost := lost }
      else match (s.spareSlice (n / 8)).planned with
        | some l =>
          if l = n % 8 then s1
          else (s1.preempt (n / 8) (n % 8)).setSlice (n / 8) { s.spareSlice (n / 8) with
            job := some { lane := l, repair := false, back := true, rxDone := true, began := s.up, loaded := false, trigger := 0, lost := 0 },
            next := some { lane := n % 8, repair := true, back := false, rxDone := false, began := s.up, loaded := false, trigger := 2, lost := lost } }
        | none => s1.fault (n / 64) 0x00 2 n 2 (low 32 lost)) := by
  subst hs1
  refine (withLane_live hn hd hst).trans (congrArg Host.Outcome.next ?_)
  dsimp only
  rw [hp]
  dsimp only
  rw [hsl, hjob, hnext]
  simp only [true_and, Nat.zero_ne_one, false_and, if_false, Option.any_none, Bool.false_eq_true, Option.isSome_none, or_self] <;> rfl

/-! The end of a changeover. -/

theorem spareSlice_setSlice (hl : sparseRising none s.links.slices = true) (o : Nat) (x : Slice) : (s.setSlice o x).spareSlice o = x :=
  (sparseGet_set _ _ _ _ _ hl).trans (if_pos rfl)

/-- The lane takes slice `v`, and the spare shows its state and its lane. -/
def State.switched (s : State) (o n v st lane : Nat) : State :=
  ((s.wr Od.laneSlice v (portInst n)).wr Od.spareSliceState st (portInst (o * 8))).wr Od.spareSliceLane lane (portInst (o * 8))

theorem switched_sound (hs : s.sound = true) (o n v st lane : Nat) : (s.switched o n v st lane).sound = true :=
  State.sound_wr (State.sound_wr (State.sound_wr hs Od.laneSlice v (portInst n) 0) Od.spareSliceState st (portInst (o * 8)) 0) Od.spareSliceLane lane
    (portInst (o * 8)) 0

theorem switched_shows (hs : s.sound = true) (o n v st lane : Nat) : (s.switched o n v st lane).rd Od.laneSlice (portInst n) = v ∧
    (s.switched o n v st lane).rd Od.spareSliceState (portInst (o * 8)) = st ∧ (s.switched o n v st lane).rd Od.spareSliceLane (portInst (o * 8)) = lane := by
  have h1 := State.sound_wr hs Od.laneSlice v (portInst n) 0
  have h2 := State.sound_wr h1 Od.spareSliceState st (portInst (o * 8)) 0
  unfold State.switched
  refine ⟨?_, ?_, State.rd_wr_same h2 _ _ _ _⟩
  · rw [State.rd_wr_other h2 (by decide), State.rd_wr_other h1 (by decide), State.rd_wr_same hs]
  · rw [State.rd_wr_other h2 (by decide), State.rd_wr_same h1]

/-- A switch of slices leaves the modes and states of the ports. -/
theorem switched_ports (hs : s.sound = true) (o n v st lane m : Nat) : (s.switched o n v st lane).portModeOf m = s.portModeOf m ∧
    (s.switched o n v st lane).rd Od.portState (portInst m) = s.rd Od.portState (portInst m) := by
  have h1 := State.sound_wr hs Od.laneSlice v (portInst n) 0
  have h2 := State.sound_wr h1 Od.spareSliceState st (portInst (o * 8)) 0
  unfold State.switched State.portModeOf
  constructor
  · rw [State.rd_wr_other h2 (by decide), State.rd_wr_other h1 (by decide), State.rd_wr_other hs (by decide)]
  · rw [State.rd_wr_other h2 (by decide), State.rd_wr_other h1 (by decide), State.rd_wr_other hs (by decide)]

theorem laneUp_congr {t : State} (hm : ∀ m, t.portModeOf m = s.portModeOf m) (hp : ∀ m, t.rd Od.portState (portInst m) = s.rd Od.portState (portInst m))
    (m : Nat) : t.laneUp m = s.laneUp m := by
  unfold State.laneUp State.portOfLane State.portStateOf
  simp only [hm, hp]

theorem nextListen_congr {t : State} (hu : ∀ m, t.laneUp m = s.laneUp m) (o l : Nat) : t.nextListen o l = s.nextListen o l := by
  unfold State.nextListen
  simp only [hu]

theorem sliceReady_congr {t : State} (hu : ∀ m, t.laneUp m = s.laneUp m) (ht : t.time = s.time) {x : Slice} (hx : (t.spareSlice o) = x)
    (htest : x.tested = (s.spareSlice o).tested) (hsets : x.sets = (s.spareSlice o).sets) : t.sliceReady o = s.sliceReady o := by
  unfold State.sliceReady State.up
  simp only [hx, htest, hsets, hu, ht]

/-- A spare that has just been given back is judged: it starts to listen on the first lane that is up. -/
theorem judgeSlice_released (hs : s.sound = true) (h1 : s.sliceState o = 1) (hj : (s.spareSlice o).job = none)
    (hl : s.rd Od.spareSliceLane (portInst (o * 8)) = 0xFF) (n : Nat) :
    (s.judgeSlice o).sound = true ∧ (s.judgeSlice o).rd Od.spareSliceState (portInst (o * 8)) = (if s.sliceReady o then 2 else 1) ∧
      (s.judgeSlice o).rd Od.spareSliceLane (portInst (o * 8)) = s.nextListen o 7 ∧
      (s.judgeSlice o).rd Od.laneSlice (portInst n) = s.rd Od.laneSlice (portInst n) := by
  obtain ⟨v, hv⟩ : ∃ v, v = if s.sliceReady o then 2 else 1 := ⟨_, rfl⟩
  have hw := State.sound_wr hs Od.spareSliceState v (portInst (o * 8)) 0
  have hstate : (s.wr Od.spareSliceState v (portInst (o * 8))).rd Od.spareSliceState (portInst (o * 8)) = v := State.rd_wr_same hs _ _ _ _
  have hlane : (s.wr Od.spareSliceState v (portInst (o * 8))).rd Od.spareSliceLane (portInst (o * 8)) = 0xFF :=
    (State.rd_wr_other hs (by decide)).trans hl
  have hslice : (s.wr Od.spareSliceState v (portInst (o * 8))).rd Od.laneSlice (portInst n) = s.rd Od.laneSlice (portInst n) := State.rd_wr_other hs (by decide)
  have hsnd : (s.judgeSlice o).sound = true := ((Keeps.refl s).judgeSlice o).sound hs
  refine ⟨hsnd, ?_⟩
  unfold State.judgeSlice
  rw [h1, hj, if_pos (by simp), hl, ← hv]
  dsimp only
  split
  · rename_i hn
    have hn' : s.nextListen o 7 = 0xFF := hn.resolve_left fun h => absurd h.1 (by decide)
    exact ⟨hstate, hlane.trans hn'.symm, hslice⟩
  · have hset : ∀ x, ((s.wr Od.spareSliceState v (portInst (o * 8))).setSlice o x).sound = true := fun x => hw
    unfold State.listenOn
    refine ⟨(State.rd_wr_other (hset _) (by decide)).trans hstate, State.rd_wr_same (hset _) _ _ _ _, (State.rd_wr_other (hset _) (by decide)).trans hslice⟩

theorem endJob_planned_eq {j : SliceJob} {n : Nat} {u : State} (hn : n = o * 8 + j.lane) (hback : j.back = false) (hrep : j.repair = false)
    (hu : u = s.setSlice o { s.spareSlice o with job := none, planned := some j.lane }) : s.endJob o j = (u.switched o n 1 3 j.lane).fireLane n := by
  unfold State.endJob State.switched
  simp only [hback, hrep, hn, hu, Bool.false_eq_true, if_false]

/-- A switch of slices writes registers alone. -/
theorem switched_calm (s : State) (o n v st lane : Nat) : Calm s (s.switched o n v st lane) := (((Calm.refl s).wr ..).wr ..).wr ..

theorem setSlice_kept (s : State) (o : Nat) (x : Slice) : (s.setSlice o x).recov = s.recov ∧ (s.setSlice o x).packets = s.packets ∧
    (s.setSlice o x).time = s.time ∧ (∀ m, (s.setSlice o x).portModeOf m = s.portModeOf m) ∧
    ∀ m, (s.setSlice o x).rd Od.portState (portInst m) = s.rd Od.portState (portInst m) := by
  have hr : (s.setSlice o x).regs = s.regs := rfl
  exact ⟨rfl, rfl, rfl, fun m => State.rd_congr hr .., fun m => State.rd_congr hr ..⟩

theorem endJob_back_eq {j : SliceJob} {n : Nat} {u : State} (hn : n = o * 8 + j.lane) (hback : j.back = true) (hnext : (s.spareSlice o).next = none)
    (hu : u = s.setSlice o { s.spareSlice o with job := none, next := none, planned := none }) :
    s.endJob o j = ((u.switched o n 0 1 0xFF).judgeSlice o).fireLane n := by
  unfold State.endJob State.switched
  simp only [hback, hnext, hn, hu, if_true]

/-- The changeover to the spare that a plan asked for ends. -/
theorem endJob_planned (hs : s.sound = true) (hlinks : sparseRising none s.links.slices = true) {j : SliceJob} {n : Nat} (hn : n = o * 8 + j.lane)
    (hback : j.back = false) (hrep : j.repair = false) : (s.endJob o j).rd Od.laneSlice (portInst n) = 1 ∧
      (s.endJob o j).rd Od.spareSliceState (portInst (o * 8)) = 3 ∧ (s.endJob o j).rd Od.spareSliceLane (portInst (o * 8)) = j.lane ∧
      ((s.endJob o j).spareSlice o).planned = some j.lane ∧ (s.endJob o j).recov = s.recov ∧ (s.endJob o j).packets = s.packets := by
  obtain ⟨u, hu⟩ : ∃ u, u = s.setSlice o { s.spareSlice o with job := none, planned := some j.lane } := ⟨_, rfl⟩
  have hus : u.sound = true := by rw [hu]; exact hs
  have he : s.endJob o j = (u.switched o n 1 3 j.lane).fireLane n := endJob_planned_eq hn hback hrep hu
  have hslice : u.spareSlice o = { s.spareSlice o with job := none, planned := some j.lane } := by
    rw [hu]
    exact spareSlice_setSlice hlinks ..
  obtain ⟨hrecov, hpk, -⟩ := setSlice_kept s o { s.spareSlice o with job := none, planned := some j.lane }
  obtain ⟨h1, h2, h3⟩ := switched_shows hus o n 1 3 j.lane
  have hw := (Writes.refl (l := fired) (switched_sound hus o n 1 3 j.lane)).fireLane n
  have hc := (Calm.refl (u.switched o n 1 3 j.lane)).fireLane n
  have hplan : ((s.endJob o j).spareSlice o) = u.spareSlice o := by
    unfold State.spareSlice
    rw [he, hc.links, (switched_calm ..).links]
  rw [hplan, hslice, he]
  exact ⟨(hw.rd _ _ _ (by decide)).trans h1, (hw.rd _ _ _ (by decide)).trans h2, (hw.rd _ _ _ (by decide)).trans h3, rfl,
    hc.recov.trans ((switched_calm ..).recov.trans (by rw [hu, hrecov])), hc.packets.trans ((switched_calm ..).packets.trans (by rw [hu, hpk]))⟩

/-- The changeover back to a lane's own slice ends, with no repair waiting for the spare. -/
theorem endJob_back (hs : s.sound = true) (hlinks : sparseRising none s.links.slices = true) {j : SliceJob} {n : Nat} (hn : n = o * 8 + j.lane)
    (hback : j.back = true) (hnext : (s.spareSlice o).next = none) : (s.endJob o j).rd Od.laneSlice (portInst n) = 0 ∧
      (s.endJob o j).rd Od.spareSliceState (portInst (o * 8)) = (if s.sliceReady o then 2 else 1) ∧
      (s.endJob o j).rd Od.spareSliceLane (portInst (o * 8)) = s.nextListen o 7 := by
  obtain ⟨u, hu⟩ : ∃ u, u = s.setSlice o { s.spareSlice o with job := none, next := none, planned := none } := ⟨_, rfl⟩
  have hus : u.sound = true := by rw [hu]; exact hs
  have hw := switched_sound hus o n 0 1 0xFF
  obtain ⟨h1, h2, h3⟩ := switched_shows hus o n 0 1 0xFF
  have he : s.endJob o j = ((u.switched o n 0 1 0xFF).judgeSlice o).fireLane n := endJob_back_eq hn hback hnext hu
  obtain ⟨-, -, htime, hmode, hport⟩ := setSlice_kept s o { s.spareSlice o with job := none, next := none, planned := none }
  have hslice : (u.switched o n 0 1 0xFF).spareSlice o = { s.spareSlice o with job := none, next := none, planned := none } := by
    unfold State.spareSlice
    rw [(switched_calm ..).links, hu]
    exact spareSlice_setSlice hlinks ..
  have hup : ∀ m, (u.switched o n 0 1 0xFF).laneUp m = s.laneUp m := laneUp_congr
    (fun m => (switched_ports hus o n 0 1 0xFF m).1.trans (by rw [hu, hmode])) (fun m => (switched_ports hus o n 0 1 0xFF m).2.trans (by rw [hu, hport]))
  obtain ⟨hsnd, hstate, hlane, hown⟩ := judgeSlice_released hw h2 (by rw [hslice]) h3 n
  have hf := (Writes.refl (l := fired) hsnd).fireLane n
  rw [he]
  refine ⟨(hf.rd _ _ _ (by decide)).trans (hown.trans h1), ?_, (hf.rd _ _ _ (by decide)).trans (hlane.trans (nextListen_congr hup ..))⟩
  rw [hf.rd _ _ _ (by decide), hstate, sliceReady_congr hup ((switched_calm ..).time.trans (by rw [hu, htime])) hslice rfl rfl]

/-! The end of a drain. -/

/-- The state of a port whose last copies are gone, before it is DISABLED or trains. -/
def State.drained (s : State) (n : Nat) : State :=
  let s1 := (s.copiesAt n).foldl (fun (a : State) e =>
    ((((a.endThreadsOf e.2.k.pipe true e.1).outOfEngine (engineOf e.2.k.pipe true) e.1).bump Od.portDrainDiscards (portInst n) 0
      e.2.cells).restoreStanding e.2).endCopy e.1 e.2) s
  { (List.range 8).foldl (fun (a : State) t => a.setTxQueue (n * 8 + t) []) s1 with
    tm := { ((List.range 8).foldl (fun (a : State) t => a.setTxQueue (n * 8 + t) []) s1).tm with sending := sparseErase s1.tm.sending n } }

theorem drained_sound (hs : s.sound = true) (n : Nat) : (s.drained n).sound = true := by
  refine Keeps.sound (s := s) ?_ hs
  unfold State.drained
  extract_lets s1
  have hs1 : Keeps s s1 := .foldl (.refl s) fun _ _ h => .endCopy (.restoreStanding (.bump (.outOfEngine (.endThreadsOf h ..) ..) ..) ..) ..
  exact .tm (.foldl hs1 fun _ _ h => h.setTxQueue ..) _

theorem exec_portDrainEnd {expired : Bool} (hst : s.stopped = false) (hn : n < 512) (hd : s.hasDie (n / 64) = true)
    (hstate : s.portStateOf n = 4 ∨ s.portStateOf n = 5) (h : s.copiesAt n = [] ∨ (expired = true ∧ s.drainExpired n = true)) :
    exec (.portDrainEnd n expired) s = .next (if s.portStateOf n = 5 then (s.drained n).startTraining n false else (s.drained n).squelch n) := by
  refine (withLane_live hn hd hst).trans (congrArg Host.Outcome.next (if_neg ?_))
  rintro (hne | ⟨hleft, hexp⟩)
  · omega
  · obtain h | ⟨h1, h2⟩ := h
    · exact hleft h
    · simp [h1, h2] at hexp

/-- A DISABLED port is squelched. -/
theorem squelch_shows (hs : s.sound = true) (n : Nat) : (s.squelch n).rd Od.portState (portInst n) = 0 ∧ .link 2 n [] ∈ (s.squelch n).out := by
  have hkeep : ∀ (l : List Nat) (t : State), (l.foldl (fun (a : State) m => a.setLaneLink m LaneLink.fresh) t).regs = t.regs ∧
      (l.foldl (fun (a : State) m => a.setLaneLink m LaneLink.fresh) t).out = t.out := by
    intro l
    induction l with
    | nil => exact fun t => ⟨rfl, rfl⟩
    | cons m l ih => exact fun t => ih (t.setLaneLink m LaneLink.fresh)
  obtain ⟨hr, ho⟩ := hkeep (s.lanesOf n) ((s.wr Od.portState 0 (portInst n)).emit (.link 2 n []))
  have hw := State.rd_wr_same hs Od.portState 0 (portInst n) 0
  constructor
  · exact (State.rd_congr (hr.trans (State.emit_regs ..)) ..).trans hw
  · unfold State.squelch
    rw [ho]
    exact List.mem_cons_self

/-- The registers that training writes beside the state of its port: LANE_TX_TAPS. -/
def tapRegisters : List Nat := [0x210002]

theorem beginLane_writes {t : State} (h : Writes tapRegisters s t) (p : Nat) (again : Bool) (m : Nat) : Writes tapRegisters s (t.beginLane p again m) :=
  Writes.emit (Writes.same (u := (((t.setLaneLink m { LaneLink.fresh with step := 1, since := t.up, prbs := t.freeBits 31 }).useFree).setLaneLink m _)) h) _

/-- A port that trains is in TRAINING. -/
theorem startTraining_state (hs : s.sound = true) (n : Nat) (quick : Bool) : (s.startTraining n quick).rd Od.portState (portInst n) = 1 := by
  unfold State.startTraining
  extract_lets i l taps s1 s2 medium
  have hs1 : s1.sound = true := ((((Keeps.refl s).setPortLink n _).wr Od.portState 1 i 0).sound hs : _)
  have h1 : s1.rd Od.portState (portInst n) = 1 := State.rd_wr_same (s := s.setPortLink n _) hs Od.portState 1 (portInst n) 0
  have h2 : Writes tapRegisters s1 s2 := .foldl (.refl hs1) fun _ _ h => h.wr (by decide)
  split
  · exact (Writes.rd (.foldl h2 fun _ _ h => beginLane_writes h ..) _ _ _ (by decide)).trans h1
  · exact (Writes.rd (.emit (.foldl h2 fun _ _ h => h.same) _) _ _ _ (by decide)).trans h1

end

/-- Settles O29: the spare's commands are branches, and the ends of a changeover and of a drain show their registers. -/
theorem sliceRows : Obligations.SliceRows := by
  refine fun s n hs hst hn hd o x ho hx => ⟨fun ok hstate hjob hup hlane hle => ?_, fun ok h => ?_, fun p lost heavy s1 hp hsl hjob hnext hs1 =>
      ⟨fun hh => ?_, fun hh hlt hch => ?_, fun hh hle hplan => ?_⟩,
    fun j hj hlane => ⟨fun hle => ?_, fun hlt => ?_, fun hrx => ?_, fun hrx => ?_, fun hrx hback hrep hl => ?_, fun hrx hback hnext hl => ?_⟩, fun hj => ⟨?_, ?_⟩,
    fun expired h => ⟨fun h4 => ?_, fun h5 => ?_⟩, fun expired hne h => ?_⟩ <;> subst ho hx
  · exact (withLane_live hn hd hst).trans (congrArg _ (if_pos ⟨hstate, by rw [hjob]; rfl, hup, hlane, hle⟩))
  · refine (withLane_live hn hd hst).trans (congrArg _ (if_neg ?_))
    rintro ⟨-, -, h1, h2, h3⟩
    obtain h | h | h := h
    · rw [h1] at h
      exact Bool.noConfusion h
    · exact h h2
    · omega
  · rw [exec_laneRepairTrigger hst hn hd hp hsl hjob hnext hs1, if_pos hh]
  · rw [exec_laneRepairTrigger hst hn hd hp hsl hjob hnext hs1, if_neg (by simp [hh]), if_pos hlt,
      preempt_none (by rw [hs1, countWindow_sched, hch])]
  · rw [exec_laneRepairTrigger hst hn hd hp hsl hjob hnext hs1, if_neg (by simp [hh]), if_neg (by omega), hplan]
  · refine (withLane_live hn hd hst).trans (congrArg Host.Outcome.next ?_)
    dsimp only
    rw [hj]
    exact if_pos ⟨hlane, hle⟩
  · refine (withLane_live hn hd hst).trans (congrArg Host.Outcome.next ?_)
    dsimp only
    rw [hj]
    exact if_neg fun h => absurd h.2 (by omega)
  · refine (withLane_live hn hd hst).trans (congrArg Host.Outcome.next ?_)
    rw [hj]
    exact if_neg fun h => by simp [hrx] at h
  · refine (withLane_live hn hd hst).trans (congrArg Host.Outcome.next ?_)
    rw [hj]
    exact if_pos ⟨hlane, hrx⟩
  · refine ⟨s.endJob (n / 8) j, (withLane_live hn hd hst).trans (congrArg Host.Outcome.next ?_), ?_⟩
    · rw [hj]
      exact if_pos ⟨hlane, hrx⟩
    · rw [← hlane]
      exact endJob_planned hs hl (by omega) hback hrep
  · refine ⟨s.endJob (n / 8) j, (withLane_live hn hd hst).trans (congrArg Host.Outcome.next ?_), ?_⟩
    · rw [hj]
      exact if_pos ⟨hlane, hrx⟩
    · exact endJob_back hs hl (by omega) hback hnext
  · refine (withLane_live hn hd hst).trans (congrArg Host.Outcome.next ?_)
    dsimp only
    rw [hj]
  · refine (withLane_live hn hd hst).trans (congrArg Host.Outcome.next ?_)
    rw [hj]
  · have hex := exec_portDrainEnd hst hn hd (.inl h4) h
    rw [if_neg (by omega)] at hex
    exact ⟨_, hex, squelch_shows (drained_sound hs n) n⟩
  · have hex := exec_portDrainEnd hst hn hd (.inr h5) h
    rw [if_pos h5] at hex
    exact ⟨_, hex, startTraining_state (drained_sound hs n) n false⟩
  · exact (withLane_live hn hd hst).trans (congrArg _ (if_pos (.inr ⟨hne, h⟩)))

end Sys2Proof.Machine
end

section
namespace Sys2Proof.Machine

/-! FRAME_RECEIVE, FRAME_END and PFC_XOFF_REFRESH. -/

section
variable {s : State}

/-- A frame at a port of a running part. -/
theorem exec_frameReceive {n : Nat} (frame : List Byte) (hst : s.stopped = false) (hn : n < 512) (hd : s.hasDie (n / 64) = true) :
    exec (.frameReceive n frame) s = .next (if s.portStateOf n ≠ 2 then s else
      let s1 := s.bwCount n frame.length false
      if frame.length < 64 then s1.macCount n 3 1
      else if frame.length ≤ 516 ∧ goodFcs frame = false then s1.macCount n 2 1
      else if beNat (slice frame 12 2) = 0x8808 then s
      else (if frame.length ≤ 516 then (s1.macCount n 0 1).macCount n 1 frame.length else s1).tryStart n (frame.take 10241)) :=
  withLane_live hn hd hst

/-- A frame that finds nothing waiting in its octet and may not start is dropped where its class has the DROP policy (R261). -/
theorem tryStart_drops {n : Nat} {frame : List Byte} (hw : s.waitingAt (n / 64) (n % 64 / 8) = [])
    (hm : s.mayStart n (s.framePg n frame) = false) (hpol : s.rd Od.bpmClassPolicy 0 (s.framePg n frame) ≠ 0) :
    s.tryStart n frame =
      (((s.addFlight (n / 64) (hvGen (s.freshHv n frame.length))).bump Od.bpmClassNoBuffer (dieInst (n / 64)) (s.framePg n frame)).dropFlight
        (n / 64) (hvGen (s.freshHv n frame.length))).dropStart n (s.framePg n frame) := by
  have hm' : (s.addFlight (n / 64) (hvGen (s.freshHv n frame.length))).mayStart n (s.framePg n frame) = false := hm
  simp only [State.tryStart, State.retryStarts, hw, List.foldl_nil, hm', hpol, false_and, if_false, Bool.false_eq_true]

/-- Where its class has the WAIT policy it waits for as long as its class lets it (R261). -/
theorem tryStart_lines {n : Nat} {frame : List Byte} (hw : s.waitingAt (n / 64) (n % 64 / 8) = [])
    (hm : s.mayStart n (s.framePg n frame) = false) (hpol : s.rd Od.bpmClassPolicy 0 (s.framePg n frame) = 0) (hlen : frame.length ≤ 20480) :
    s.tryStart n frame =
      (((s.addFlight (n / 64) (hvGen (s.freshHv n frame.length))).bump Od.bpmClassNoBuffer (dieInst (n / 64)) (s.framePg n frame)).setWaiting
        (n / 64) (n % 64 / 8) [{ port := n, frame := frame, pg := s.framePg n frame, since := s.up, hv := s.freshHv n frame.length }]).later
          (s.rd Od.bpmClassWaitLimit 0 (s.framePg n frame)) (.classWaitExpire (n / 64) (n % 64 / 8)) := by
  have hm' : (s.addFlight (n / 64) (hvGen (s.freshHv n frame.length))).mayStart n (s.framePg n frame) = false := hm
  have hw' : (s.addFlight (n / 64) (hvGen (s.freshHv n frame.length))).waitingAt (n / 64) (n % 64 / 8) = [] := hw
  simp only [State.tryStart, State.retryStarts, hw, List.foldl_nil, hm', hw', hpol, List.nil_append, Nat.zero_add, hlen, and_self, if_true,
    Bool.false_eq_true, if_false]

/-- The stamps, the tag and the port of a frame do not depend on what is counted. -/
theorem freshHv_ctrs (c : Counters) (n len : Nat) : State.freshHv { s with ctrs := c } n len = s.freshHv n len := by
  unfold State.freshHv
  rfl

/-- Nor does its priority group. -/
theorem framePg_ctrs (c : Counters) (n : Nat) (frame : List Byte) : State.framePg { s with ctrs := c } n frame = s.framePg n frame := rfl

/-- The packet of a frame of up to 516 bytes that starts: whole, received, on its port in its PG (R260). -/
theorem startFrame_packet (n g hv born : Nat) {frame : List Byte} (hlen : frame.length ≤ 516) :
    ∃ k, (s.startFrame n g hv born frame).packet? s.nextPacket = some k ∧ k.stage = .received ∧ k.frame = frame ∧ k.port = n ∧ k.pg = g ∧
      k.hv = hv ∧ k.born = born ∧ k.ended = true := by
  have hlong : ¬ 516 < frame.length := by omega
  unfold State.startFrame
  simp only [List.take_of_length_le (show frame.length ≤ 10240 by omega), hlong, decide_false, if_false, Bool.false_eq_true]
  generalize s.openRecord (n / 64) (n % 64 / 8) (n % 64 / 8) g frame.length 1 (n / 64 * 16 + s.pipeOf (n / 64) false (n % 64 / 8)) = x
  apply Exists.intro
  apply And.intro
  · rw [State.packet?, (refill_sameCharges _ _ _).packets, State.chargePg, (judgePfc_sameCharges _ n g).packets]
    exact (sparseFind?_put ..).trans (if_pos rfl)
  · exact ⟨rfl, rfl, rfl, rfl, rfl, rfl, rfl⟩

/-- A good short frame that is no MAC control frame is presented once its MAC has counted it; the count changes the counters alone. -/
theorem frameReceive_shortGood {n : Nat} {frame : List Byte} (hst : s.stopped = false) (hn : n < 512) (hd : s.hasDie (n / 64) = true)
    (hup : s.portStateOf n = 2) (hmin : 64 ≤ frame.length) (hmax : frame.length ≤ 516) (hfcs : goodFcs frame = true)
    (hctl : beNat (slice frame 12 2) ≠ 0x8808) : exec (.frameReceive n frame) s =
      .next ((((s.bwCount n frame.length false).macCount n 0 1).macCount n 1 frame.length).tryStart n frame) := by
  rw [exec_frameReceive frame hst hn hd]
  simp only [ne_eq, hup, not_true_eq_false, Nat.not_lt.mpr hmin, hfcs, Bool.true_eq_false, and_false, hctl, hmax, if_false, if_true,
    List.take_of_length_le (show frame.length ≤ 10241 by omega)]

/-- PFC_XOFF_REFRESH at a port of a running part. -/
theorem exec_pfcXoffRefresh {n : Nat} (g : Nat) (hst : s.stopped = false) (hn : n < 512) (hd : s.hasDie (n / 64) = true) :
    exec (.pfcXoffRefresh n g) s = .next (match sparseFind? (s.judgePfc n g).bufs.xoff (n * 8 + g) with
      | some at_ => if at_ + (s.judgePfc n g).xoffTime n ≤ (s.judgePfc n g).up then (s.judgePfc n g).sendXoff n g else s.judgePfc n g
      | none => s.judgePfc n g) :=
  withLane_live hn hd hst

/-- A pair that is not in XOFF stays so while its cells are below its level (R284). -/
theorem judgePfc_stays_on {n g : Nat} (hx : sparseFind? s.bufs.xoff (n * 8 + g) = none)
    (hl : s.rd Od.pgPfc (portInst n) g = 0 ∨ s.rd Od.pgCells (portInst n) g < s.pgLevel n g) : s.judgePfc n g = s := by
  unfold State.judgePfc
  dsimp only
  rw [hx]
  exact if_neg (by omega)

/-- A pair in XOFF stays so until its cells have fallen below its level by PFC_XON_DELTA (R284). -/
theorem judgePfc_stays_off {n g since : Nat} (hx : sparseFind? s.bufs.xoff (n * 8 + g) = some since)
    (hl : s.pgLevel n g < s.rd Od.pgCells (portInst n) g + s.rd Od.pfcXonDelta (portInst n)) : s.judgePfc n g = s := by
  unfold State.judgePfc
  dsimp only
  rw [hx]
  exact if_neg (by omega)

/-- XON is sent then (R284). -/
theorem judgePfc_xon {n g since : Nat} (hx : sparseFind? s.bufs.xoff (n * 8 + g) = some since)
    (hl : s.rd Od.pgCells (portInst n) g + s.rd Od.pfcXonDelta (portInst n) ≤ s.pgLevel n g) : s.judgePfc n g =
      (({ s with bufs := { s.bufs with xoff := sparseErase s.bufs.xoff (n * 8 + g) } } : State).countControl n true true).emit
        (.pfc n (s.pgPriorities n g) 0) := by
  unfold State.judgePfc
  dsimp only
  rw [hx]
  exact if_pos hl

/-- A map that keeps the keys is seen by a look-up. -/
theorem sparseFind?_map {α : Type} {f : Nat × α → Nat × α} (hf : ∀ e, (f e).1 = e.1) (m : Sparse α) (p : Nat) :
    sparseFind? (m.map f) p = (sparseFind? m p).map fun v => (f (p, v)).2 := by
  induction m with
  | nil => rfl
  | cons e rest ih =>
    obtain ⟨a, v⟩ := e
    have hcons : ((a, v) :: rest).map f = (a, (f (a, v)).2) :: rest.map f := congrArg (· :: rest.map f) (Prod.ext (hf (a, v)) rfl)
    rw [hcons]
    simp only [sparseFind?, ih]
    split
    · rename_i h; subst h; rfl
    · split <;> rfl

/-- The first entry of a key is the one that a look-up finds. -/
theorem head?_filter_key {α : Type} {m : Sparse α} {p : Nat} {v : α} {q : Nat × α → Bool} (hq : ∀ e ∈ m, q e = decide (e.1 = p))
    (h : sparseFind? m p = some v) : (m.filter q).head? = some (p, v) := by
  induction m with
  | nil => exact absurd h (by simp [sparseFind?])
  | cons e rest ih =>
    obtain ⟨a, w⟩ := e
    have hhead := hq (a, w) (by simp)
    by_cases ha : a = p
    · subst ha
      simp only [sparseFind?, if_true, Option.some.injEq] at h
      rw [List.filter_cons, if_pos (hhead.trans (decide_eq_true rfl)), h]
      rfl
    · have hrest : sparseFind? rest p = some v := by
        simp only [sparseFind?, ha, if_false] at h
        split at h
        · exact absurd h (by simp)
        · exact h
      simp only [List.filter_cons, hhead, ha, decide_false, Bool.false_eq_true, if_false]
      exact ih (fun e he => hq e (List.mem_cons_of_mem _ he)) hrest

/-- Counting changes the counters alone, however often. -/
theorem CountersApart.foldl {α : Type} {f : State → α → State} (hf : ∀ a x, CountersApart a (f a x)) (l : List α) (s : State) :
    CountersApart s (l.foldl f s) := by
  induction l generalizing s with
  | nil => exact ⟨s.ctrs, rfl⟩
  | cons x l ih => exact (hf s x).trans (ih _)

/-- A reserve is filled from the free cells; no packet and no record changes. -/
theorem refill_shows (s : State) (d o : Nat) : ∃ b, s.refill d o = { s with bufs := b } ∧ b.records = s.bufs.records := ⟨_, rfl, rfl⟩

/-- What is in flight does not decide whether a frame may start. -/
theorem mayStart_addFlight (s : State) (d gen n g : Nat) : (s.addFlight d gen).mayStart n g = s.mayStart n g := rfl

/-- The end of a frame whose packet still stands and claims no more than the frame held: the packet has ended, with what its MAC found of it, and the counts
that waited for its length are made (R69, R111). -/
theorem frameEnd_ends {p n : Nat} {frame : List Byte} {parsed : Option Packet} {truncated : Bool} {k : Packet} (hk : s.packet? p = some k)
    (horigin : ∀ e ∈ s.packets, e.1 ≠ p → e.2.origin ≠ p) (hcopies : s.tm.copies = []) (hend : hvL3End k.hv ≤ frame.length - 4) :
    (s.frameEnd p n frame parsed truncated).packet? p =
        some { k with ended := true, bad := k.bad || (truncated || !goodFcs frame), origin := 0 } ∧
      (s.frameEnd p n frame parsed truncated).ae.late = s.ae.late.filter (fun e => e.1 ≠ p) ∧
      (s.frameEnd p n frame parsed truncated).nextPacket = s.nextPacket ∧ (s.frameEnd p n frame parsed truncated).tables = s.tables ∧
      (s.frameEnd p n frame parsed truncated).bufs.records = s.bufs.records := by
  unfold State.frameEnd
  extract_lets d o fcs held copies whole late bad s1 s2 s3 s4 adds src s5
  have hheld : held.head? = some k := by
    show ((s.packets.filter _).map (·.2)).head? = some k
    rw [List.head?_map, head?_filter_key (v := k) (p := p) (fun e he => ?_) hk]
    · rfl
    · by_cases hp : e.1 = p
      · simp [hp]
      · simp [hp, horigin e he hp]
  have hnone : copies = [] := by
    show s.tm.copies.filter _ = []
    rw [hcopies]; rfl
  have hwhole : whole = some k := by
    show ((held ++ copies.map _).head?).or parsed = some k
    rw [hnone, List.map_nil, List.append_nil, hheld]; rfl
  have hlate : late = false := by
    show (whole.map _).getD false = false
    rw [hwhole]
    exact decide_eq_false (by omega)
  have hbad : bad = (truncated || !goodFcs frame) := (congrArg ((truncated || !goodFcs frame) || ·) hlate).trans (Bool.or_false _)
  obtain ⟨c, hs1⟩ : CountersApart s s1 := by
    show CountersApart s (if _ then _ else if _ then _ else _)
    split
    · exact macCount_countersApart ..
    · split
      · exact (macCount_countersApart ..).trans (macCount_countersApart ..)
      · exact macCount_countersApart ..
  have hs2 : s2 = s1 := by
    simp only [s2, hlate]
  have hs4 : s4 = s3 := congrArg (List.foldl _ s3) hnone
  obtain ⟨c', hs5⟩ : CountersApart _ s5 := .foldl (fun a e => ⟨_, rfl⟩) adds _
  have hpackets : s5.packets = s.packets.map fun e =>
      if e.1 = p || e.2.origin = p then (e.1, { e.2 with ended := true, bad := e.2.bad || bad, origin := 0 }) else e := by
    rw [hs5]
    show s4.packets = _
    rw [hs4]
    show s2.packets.map _ = _
    rw [hs2, hs1]
  have hrest : s5.ae.late = s.ae.late.filter (fun e => e.1 ≠ p) ∧ s5.nextPacket = s.nextPacket ∧ s5.tables = s.tables ∧
      s5.bufs.records = s.bufs.records := by
    rw [hs5]
    show s4.ae.late.filter _ = _ ∧ s4.nextPacket = _ ∧ s4.tables = _ ∧ s4.bufs.records = _
    rw [hs4]
    show s2.ae.late.filter _ = _ ∧ s2.nextPacket = _ ∧ s2.tables = _ ∧ s2.bufs.records = _
    rw [hs2, hs1]
    exact ⟨rfl, rfl, rfl, rfl⟩
  clear_value s5
  obtain ⟨hlate5, hnext5, htables5, hrecords5⟩ := hrest
  obtain ⟨b, hb, hrecords⟩ := refill_shows { s5 with bufs := { s5.bufs with tails := sparseErase s5.bufs.tails p } } d o
  rw [hb]
  refine ⟨?packet, hlate5, hnext5, htables5, hrecords.trans hrecords5⟩
  show sparseFind? s5.packets p = _
  rw [hpackets, sparseFind?_map (fun e => by split <;> rfl), show sparseFind? s.packets p = some k from hk, ← hbad]
  simp
end

/-- Settles O30: each clause is the branch of frame start, frame end or XOFF that the frame or the pair takes. -/
theorem framesIn : Obligations.FramesIn := by
  unfold Obligations.FramesIn
  intro s hs hst
  refine ⟨fun n frame s1 hn hd hs1 => ?receive, fun p x frame k truncated hx hframe hk horigin hcopies hend => ?ends,
    fun p truncated hx => ?gone, fun n g level cells hn hd hlevel hcells => ?refresh⟩
  case receive =>
    subst hs1
    have hexec := exec_frameReceive frame hst hn hd
    refine ⟨fun hp => by rw [hexec, if_pos hp], fun hp => ⟨fun hmin => ?runt, fun hmin hmax hfcs => ?bad, fun hmin hmax hfcs hctl => ?control,
      fun hmin hmax hfcs hctl s2 g hv hs2 hg hhv hw => ?good⟩⟩
    case runt =>
      rw [hexec, if_neg (not_not_intro hp)]
      exact congrArg _ (if_pos hmin)
    case bad =>
      rw [hexec, if_neg (not_not_intro hp)]
      exact congrArg _ ((if_neg (by omega)).trans (if_pos ⟨hmax, hfcs⟩))
    case control =>
      rw [hexec, if_neg (not_not_intro hp)]
      exact congrArg _ ((if_neg (by omega)).trans ((if_neg (by simp [hfcs])).trans (if_pos hctl)))
    case good =>
      rw [frameReceive_shortGood hst hn hd hp hmin hmax hfcs hctl]
      obtain ⟨c, hc⟩ : CountersApart s (((s.bwCount n frame.length false).macCount n 0 1).macCount n 1 frame.length) :=
        ((bwCount_countersApart ..).trans (macCount_countersApart ..)).trans (macCount_countersApart ..)
      rw [hc] at hs2 ⊢
      rw [← framePg_ctrs c] at hg
      rw [← freshHv_ctrs c] at hhv
      have hw' : State.waitingAt { s with ctrs := c } (n / 64) (n % 64 / 8) = [] := hw
      rw [hs2]
      rw [mayStart_addFlight, hg, hhv]
      refine ⟨fun hm => ⟨congrArg _ (tryStart_starts hw' hm), startFrame_packet _ _ _ _ hmax⟩, fun hm hpol => ?_, fun hm hpol => ?_⟩
      · exact congrArg _ (tryStart_drops hw' hm hpol)
      · exact congrArg _ (tryStart_lines hw' hm hpol (by omega))
  case ends =>
    subst hframe
    have hexec : exec (.frameEnd p truncated) s =
          .next (s.frameEnd p x.port (x.frame.take 10240) x.parsed (truncated || decide (10240 < x.frame.length))) := by
      show execFrameEnd p truncated s = _
      unfold execFrameEnd
      rw [hx]
      exact running_live hst _
    exact ⟨_, hexec, frameEnd_ends hk horigin hcopies hend⟩
  case gone =>
    show execFrameEnd p truncated s = _
    unfold execFrameEnd
    rw [hx]
  case refresh =>
    subst hlevel hcells
    have hexec := exec_pfcXoffRefresh g hst hn hd
    refine ⟨fun hx hl => ?_, fun since hx => ⟨fun hl ht => ?_, fun hl ht => ?_, fun hrise hl => ?_⟩⟩
    · rw [hexec, judgePfc_stays_on hx hl, hx]
    · rw [hexec, judgePfc_stays_off hx hl, hx]
      exact congrArg _ (if_pos ht)
    · rw [hexec, judgePfc_stays_off hx hl, hx]
      exact congrArg _ (if_neg (by omega))
    · rw [hexec, judgePfc_xon hx hl]
      obtain ⟨c, hc⟩ := countControl_countersApart { s with bufs := { s.bufs with xoff := sparseErase s.bufs.xoff (n * 8 + g) } } n true true
      rw [hc]
      have hgone : sparseFind? (sparseErase s.bufs.xoff (n * 8 + g)) (n * 8 + g) = none := by
        rw [sparseFind?_erase _ _ _ ⟨none, hrise⟩, if_pos rfl]
      generalize s.pgPriorities n g = pri
      show Host.Outcome.next (match sparseFind? (sparseErase s.bufs.xoff (n * 8 + g)) (n * 8 + g) with
        | some at_ => _
        | none => _) = _
      rw [hgone]

end Sys2Proof.Machine
end

section
namespace Sys2Proof.Machine

/-! Placement: the look-up, the credits and the read that returns. -/

section
variable {s : State}

/-- A step of a packet that stands at the step's stage. -/
theorem withPacket_live {p : Nat} {k : Packet} {ok : Packet → Bool} (hst : s.stopped = false) (hk : s.packet? p = some k) (hok : ok k = true)
    (f : Packet → State) : withPacket s p ok f = .next (f k) := by
  unfold withPacket
  rw [hk]
  exact (running_live hst _).trans (congrArg _ (if_pos hok))

/-- There is no such step for a packet at another stage. -/
theorem withPacket_other {p : Nat} {k : Packet} {ok : Packet → Bool} (hst : s.stopped = false) (hk : s.packet? p = some k) (hok : ok k = false)
    (f : Packet → State) : withPacket s p ok f = .next s := by
  unfold withPacket
  rw [hk]
  exact (running_live hst _).trans (congrArg _ (if_neg (by rw [hok]; decide)))

/-- The place read of a packet is issued and counted. -/
theorem issuePlace_shows {p : Nat} {k : Packet} (hk : s.packet? p = some k) :
    s.issuePlace p = (s.setPacket p { k with place := .issued }).bump Od.placeLookups k.inst := by
  unfold State.issuePlace
  rw [hk]

/-- `t` is `s` but for its placement credits. -/
def CreditsApart (s t : State) : Prop := ∃ c, t = { s with placing := { s.placing with credits := c } }

theorem CreditsApart.trans {t u : State} (h : CreditsApart s t) (k : CreditsApart t u) : CreditsApart s u := by
  obtain ⟨c, rfl⟩ := h
  obtain ⟨c', rfl⟩ := k
  exact ⟨c', rfl⟩

theorem CreditsApart.queue {t : State} (h : CreditsApart s t) (o : Nat) : t.placeQueue o = s.placeQueue o := by
  obtain ⟨c, rfl⟩ := h
  rfl

theorem setPlaceCredits_apart (s : State) (o v : Nat) : CreditsApart s (s.setPlaceCredits o v) := ⟨_, rfl⟩

theorem placeCredits_set (hr : sparseRising none s.placing.credits = true) (o j v : Nat) :
    (s.setPlaceCredits o v).placeCredits j = if o = j then v else s.placeCredits j :=
  sparseGet_set _ _ o j v hr

/-- With no packet waiting in its octet no credit is used. -/
theorem usePlaceCredits_none {o : Nat} (hq : s.placeQueue o = []) (fuel : Nat) : s.usePlaceCredits o fuel = s := by
  cases fuel with
  | zero => rfl
  | succ fuel =>
    unfold State.usePlaceCredits
    rw [hq]

/-- With no packet waiting in a die's octets no credit is lent. -/
theorem lendCredit_none {d : Nat} (hq : ∀ i, i < 8 → s.placeQueue (d * 8 + i) = []) : s.lendCredit d = s := by
  unfold State.lendCredit
  dsimp only
  rw [List.find?_eq_none.mpr]
  intro o ho
  obtain ⟨i, -, rfl⟩ := List.mem_map.mp ho
  simp [hq _ (Nat.mod_lt _ (show 0 < 8 by decide))]

theorem setPlaceCredits_rising (hr : sparseRising none s.placing.credits = true) (o v : Nat) :
    sparseRising none (s.setPlaceCredits o v).placing.credits = true :=
  sparseRising_set (fun _ => 0) s.placing.credits o v hr

/-- Every octet of a list has its credits changed once. -/
theorem foldl_credits {g : State → Nat → State} {f : Nat → Nat} {l : List Nat}
    (hg : ∀ a, CreditsApart s a → ∀ o ∈ l, g a o = a.setPlaceCredits o (f (a.placeCredits o))) (hl : l.Nodup) (t : State) (ht : CreditsApart s t)
    (hr : sparseRising none t.placing.credits = true) :
    CreditsApart s (l.foldl g t) ∧ sparseRising none (l.foldl g t).placing.credits = true ∧
      ∀ j, (l.foldl g t).placeCredits j = if j ∈ l then f (t.placeCredits j) else t.placeCredits j := by
  induction l generalizing t with
  | nil => exact ⟨ht, hr, fun j => by simp⟩
  | cons o l ih =>
    obtain ⟨ho, hl⟩ := List.nodup_cons.mp hl
    rw [List.foldl_cons, hg t ht o (by simp)]
    obtain ⟨hapart, hrise, hget⟩ := ih (fun a ha o ho => hg a ha o (List.mem_cons_of_mem _ ho)) hl _ (ht.trans (setPlaceCredits_apart t o _))
      (setPlaceCredits_rising hr o _)
    refine ⟨hapart, hrise, fun j => ?_⟩
    rw [hget, placeCredits_set hr]
    by_cases hj : o = j
    · subst hj
      simp [ho]
    · simp [hj, Ne.symm hj]

/-- The 15 credits of each octet of a refill, and their use. -/
def State.giveCredits (s : State) (octets : List Nat) : State :=
  octets.foldl (fun t o => ((t.setPlaceCredits o (t.placeCredits o + 15))).usePlaceCredits o ((t.setPlaceCredits o (t.placeCredits o + 15)).placeCredits o)) s

/-- The 16 credits that stay. -/
def State.capCredits (s : State) (octets : List Nat) : State := octets.foldl (fun t o => t.setPlaceCredits o (min 16 (t.placeCredits o))) s

theorem exec_placeCreditRefill {d : Nat} (hst : s.stopped = false) (hd : s.hasDie d = true) : ∃ spare,
    exec (.placeCreditRefill d) s = .next ((List.range spare).foldl (fun t _ => t.lendCredit d)
      ((s.giveCredits ((List.range 8).map fun i => d * 8 + i)).capCredits ((List.range 8).map fun i => d * 8 + i))) :=
  ⟨_, withDie_live hd hst _⟩

theorem giveCredits_idle {octets : List Nat} (hq : ∀ o ∈ octets, s.placeQueue o = []) (hl : octets.Nodup)
    (hr : sparseRising none s.placing.credits = true) :
    CreditsApart s (s.giveCredits octets) ∧ sparseRising none (s.giveCredits octets).placing.credits = true ∧
      ∀ j, (s.giveCredits octets).placeCredits j = if j ∈ octets then s.placeCredits j + 15 else s.placeCredits j :=
  foldl_credits (f := (· + 15))
    (fun a ha o ho => usePlaceCredits_none (((ha.trans (setPlaceCredits_apart a o _)).queue o).trans (hq o ho)) _) hl s ⟨_, rfl⟩ hr

theorem capCredits_shows {octets : List Nat} (hl : octets.Nodup) (hr : sparseRising none s.placing.credits = true) :
    CreditsApart s (s.capCredits octets) ∧ sparseRising none (s.capCredits octets).placing.credits = true ∧
      ∀ j, (s.capCredits octets).placeCredits j = if j ∈ octets then min 16 (s.placeCredits j) else s.placeCredits j :=
  foldl_credits (f := min 16) (fun _ _ _ _ => rfl) hl s ⟨_, rfl⟩ hr

/-- A refill where no packet waits gives each octet 15 credits, at most 16 of which stay. -/
theorem placeCreditRefill_idle {d : Nat} (hst : s.stopped = false) (hd : s.hasDie d = true) (hq : ∀ i, i < 8 → s.placeQueue (d * 8 + i) = [])
    (hr : sparseRising none s.placing.credits = true) :
    Runs (.placeCreditRefill d) s fun t => (∀ i, i < 8 → t.placeCredits (d * 8 + i) = min 16 (s.placeCredits (d * 8 + i) + 15)) ∧
      t = { s with placing := { s.placing with credits := t.placing.credits } } := by
  obtain ⟨spare, hexec⟩ := exec_placeCreditRefill hst hd
  have hmem : ∀ i, i < 8 → d * 8 + i ∈ (List.range 8).map fun i => d * 8 + i := fun i hi => List.mem_map_of_mem (List.mem_range.mpr hi)
  have hocts : ∀ o ∈ (List.range 8).map fun i => d * 8 + i, s.placeQueue o = [] := fun o ho => by
    obtain ⟨i, hi, rfl⟩ := List.mem_map.mp ho
    exact hq i (List.mem_range.mp hi)
  have hnodup : ((List.range 8).map fun i => d * 8 + i).Nodup := List.pairwise_map.mpr (List.nodup_range.imp fun h => by omega)
  generalize (List.range 8).map (fun i => d * 8 + i) = octets at hexec hmem hocts hnodup
  obtain ⟨hapart, hrise, hgive⟩ := giveCredits_idle hocts hnodup hr
  obtain ⟨hapart', -, hcap⟩ := capCredits_shows hnodup hrise
  have hboth := hapart.trans hapart'
  have hlend : ((s.giveCredits octets).capCredits octets).lendCredit d = (s.giveCredits octets).capCredits octets :=
    lendCredit_none fun i hi => (hboth.queue _).trans (hq i hi)
  rw [foldl_id _ _ fun _ _ => hlend] at hexec
  refine ⟨_, hexec, fun i hi => ?_, ?_⟩
  · rw [hcap, if_pos (hmem i hi), hgive, if_pos (hmem i hi)]
  · obtain ⟨c, hc⟩ := hboth
    rw [hc]
end

/-- Settles O33: each clause is the branch of the look-up, the refill or the read that the packet takes. -/
theorem placementRows : Obligations.PlacementRows := by
  unfold Obligations.PlacementRows
  intro s hst
  refine ⟨fun p k o hk hstage hplace ho => ?lookup, fun d hd hq hr => placeCreditRefill_idle hst hd hq hr,
    fun p k bank dom n pos b ns hk hstage hplace hbank hdom hn hpos hb hns => ?read⟩
  case lookup =>
    subst ho
    have hexec := withPacket_live (ok := fun k => k.place = .needed && k.stage = .searching) hst hk (by simp [hstage, hplace])
    refine ⟨fun hc hq => ?_, fun hc hm => ?_, fun hc hm => ⟨fun hlen => ?_, fun hlen hx => ?_⟩⟩
    · refine ((hexec _).trans (congrArg _ (if_pos ⟨hc, hq⟩))).trans (congrArg _ (issuePlace_shows ?_))
      exact hk
    · exact (hexec _).trans (congrArg _ ((if_neg (by simp [hc])).trans (if_pos hm)))
    · exact (hexec _).trans (congrArg _ ((if_neg (by simp [hc])).trans ((if_neg (by simp [hm])).trans (if_pos hlen))))
    · exact (hexec _).trans (congrArg _ ((if_neg (by simp [hc])).trans ((if_neg (by simp [hm])).trans
        ((if_neg (by omega)).trans (if_pos (by rw [hx]; rfl))))))
  case read =>
    subst hns hb hpos hn hdom hbank
    have hexec := withPacket_live (ok := fun k => k.place = .issued && k.stage = .searching) hst hk (by simp [hstage, hplace])
    refine ⟨fun hbad => ?_, fun hgood hgood' => ⟨fun hmiss => ?_, fun hlt hne => ?_⟩⟩
    · exact (hexec _).trans (congrArg _ (if_pos hbad))
    · exact (hexec _).trans (congrArg _ ((if_neg (by simpa using hgood)).trans ((if_neg (by simpa using hgood')).trans (if_pos hmiss))))
    · exact (hexec _).trans (congrArg _ ((if_neg (by simpa using hgood)).trans ((if_neg (by simpa using hgood')).trans
        (if_neg (not_or.mpr ⟨by omega, hne⟩)))))

end Sys2Proof.Machine
end

section
namespace Sys2Proof.Machine

/-! The units of a microword: ALU0 and ALU1. -/

section
variable {s : State} {p : Nat} {eg : Bool} {t : Nat} {th : Thread} {k : Packet} {w : Nat}

theorem withPipe_live {f : State} (hp : p % 16 ≤ 8) (hd : s.hasDie (p / 16) = true) (hst : s.stopped = false) : withPipe s p f = .next f := by
  unfold withPipe
  rw [if_pos ⟨hp, hd⟩, running_live hst]

/-- The row of a unit that the word drives runs the unit. -/
theorem OnWord.unitRow (h : OnWord s p eg t th k w) {u op : Nat} (hop : unitOp w u = op) : s.unitRow p eg t u op = .next (s.runUnit p eg t u) := by
  refine (withPipe_live h.pipe h.die h.runs).trans (congrArg _ ?_)
  rw [h.thread]
  exact if_pos (by rw [h.word, hop])

/-- A unit of a clear word that has not run may. -/
theorem OnWord.mayRun (h : OnWord s p eg t th k w) {u : Nat} (hu : u ∉ th.unitsRun) : ¬ th.mayRun u = false := by
  simp [Thread.mayRun, h.clear, h.free, hu]

/-- ALU0 or ALU1 runs. -/
theorem OnWord.runAlu (h : OnWord s p eg t th k w) {u : Nat} (hu : u ≤ 1) (hran : u ∉ th.unitsRun) :
    s.runUnit p eg t u = s.setThread p eg t (th.alu w u) := by
  unfold State.runUnit
  rw [h.thread]
  dsimp only
  rw [h.item]
  dsimp only
  rw [if_neg (h.mayRun hran), if_pos hu, h.word]

/-- A driven ALU has its result for the end of the word (R205, R210). -/
theorem Thread.alu_latched (th : Thread) {w u op x y : Nat} (hu : u ≤ 1) (hop : wAlu w u = (op, x, y)) (hne : op ≠ 0) :
    th.alu w u = th.latched u (aluResult op (th.operand w x) (th.operand w y)).1 (aluResult op (th.operand w x) (th.operand w y)).2.1
      (aluResult op (th.operand w x) (th.operand w y)).2.2 := by
  unfold Thread.alu Thread.latched
  rw [hop]
  dsimp only
  rw [if_neg hne]
  obtain rfl | rfl : u = 0 ∨ u = 1 := by omega
  · rfl
  · rfl

/-- The row of an ALU operation. -/
theorem OnWord.aluRow (h : OnWord s p eg t th k w) {u op x y v f : Nat} {c : Bool} (hu : u ≤ 1) (hran : u ∉ th.unitsRun) (hop : wAlu w u = (op, x, y))
    (hne : op ≠ 0) (hr : aluResult op (th.operand w x) (th.operand w y) = (v, f, c)) :
    s.unitRow p eg t (u % 2) op = .next (s.setThread p eg t (th.latched u v f c)) := by
  have hunit : unitOp w u = op := by
    unfold unitOp
    rw [if_pos (by omega), hop]
  rw [show u % 2 = u by omega, h.unitRow hunit, h.runAlu hu hran, th.alu_latched hu hop hne, hr]

/-- The byte swap of a word (R205). -/
theorem leNat_beBytes_four (a : Nat) : low 32 (leNat (beBytes 4 a)) =
    a % 256 * 2 ^ 24 + a / 256 % 256 * 2 ^ 16 + a / 65536 % 256 * 256 + a / 2 ^ 24 % 256 := by
  simp only [low, leNat, beBytes, List.foldr_cons, List.foldr_nil, BitVec.toNat_ofNat, Nat.reducePow, Nat.div_one]
  omega
end

/-- Settles O34: each row is the value of its operation in `aluResult`. -/
theorem aluRows : Obligations.AluRows := by
  unfold Obligations.AluRows
  intro s p eg t th k w u op x y a b h hu hran hop ha hb ends hends
  subst ha hb
  have row := fun (op' v f : Nat) (c : Bool) (hop' : op = op') (hne : op' ≠ 0) (hr : aluResult op' (th.operand w x) (th.operand w y) = (v, f, c)) =>
    (h.aluRow hu hran (hop.trans (by rw [hop'])) hne hr).trans (congrArg _ (hends v f c).symm)
  generalize th.operand w x = a at row ⊢
  generalize th.operand w y = b at row ⊢
  refine ⟨fun ho => ?nop, fun ho => row _ _ _ _ ho (by decide) rfl, fun ho => row _ _ _ _ ho (by decide) rfl, fun ho => row _ _ _ _ ho (by decide) rfl,
    fun ho => row _ _ _ _ ho (by decide) rfl, fun ho => row _ _ _ _ ho (by decide) rfl, fun ho => row _ _ _ _ ho (by decide) rfl,
    fun ho => row _ _ _ _ ho (by decide) rfl, fun ho v hv => ?sar, fun ho => row _ _ _ _ ho (by decide) rfl,
    fun ho => row _ _ _ _ ho (by decide) rfl, fun ho => row _ _ _ _ ho (by decide) rfl, fun ho => row _ _ _ _ ho (by decide) rfl,
    fun ho v hv => ?extract, fun ho sum v hsum hv => ?addoc, fun ho v hv => ?bswap, fun ho => ?mul, fun ho v hv => ?crc⟩
  case nop =>
    have hunit : unitOp w u = 0x00 := by
      unfold unitOp
      rw [if_pos (by omega), hop, ho]
    have halu : th.alu w u = th.ran u := by
      unfold Thread.alu
      rw [hop, ho]
      rfl
    show s.unitRow p eg t (u % 2) 0x00 = _
    rw [show u % 2 = u by omega, h.unitRow hunit, h.runAlu hu hran, halu]
  case sar => exact row _ _ _ _ ho (by decide) (by rw [hv]; rfl)
  case extract => exact row _ _ _ _ ho (by decide) (by rw [hv]; rfl)
  case addoc =>
    have hlow : low 32 (if 65536 ≤ sum then sum - 65535 else sum) = v := by
      simp only [low]
      split <;> split at hv <;> omega
    exact row _ _ _ _ ho (by decide) (by rw [← hlow, hsum]; rfl)
  case bswap => exact row _ _ _ _ ho (by decide) (by rw [hv, ← leNat_beBytes_four]; rfl)
  case mul =>
    have hlt : a % 65536 * (b % 65536) < 65536 * 65536 := Nat.mul_lt_mul'' (Nat.mod_lt _ (by decide)) (Nat.mod_lt _ (by decide))
    have hlow : low 32 (a % 65536 * (b % 65536)) = a % 65536 * (b % 65536) := Nat.mod_eq_of_lt hlt
    have hr : aluResult 0x10 a b = (low 32 (a % 65536 * (b % 65536)), low 32 (a % 65536 * (b % 65536)), false) := rfl
    rw [hlow] at hr
    exact row _ _ _ _ ho (by decide) hr
  case crc => exact row _ _ _ _ ho (by decide) (by rw [hv]; rfl)

end Sys2Proof.Machine
end

section
namespace Sys2Proof.Machine

/-! The other units of a microword. -/

section
variable {s : State} {p : Nat} {eg : Bool} {t : Nat} {th : Thread} {k : Packet} {w : Nat}

/-- What a unit that has not run in a clear word does. -/
theorem OnWord.runUnit (h : OnWord s p eg t th k w) {u : Nat} (hran : u ∉ th.unitsRun) :
    s.runUnit p eg t u = (if u ≤ 1 then s.setThread p eg t (th.alu w u)
      else if u = 2 then s.setThread p eg t (th.move w)
      else if u = 3 then s.setThread p eg t (th.hvw w)
      else if u = 4 then (if wCtxOp w = 0 then s.setThread p eg t (th.ran 4) else s.ctxUnit p eg t th k w 0 0)
      else if u = 5 then s.setThread p eg t (th.cnt w)
      else if u = 6 then (if wMetOp w = 0 then s.setThread p eg t (th.ran 6) else s.metUnit p eg t th k w)
      else if u = 7 then s.setThread p eg t (th.emit w)
      else if u = 8 then s.setThread p eg t (th.repl w)
      else s.setThread p eg t (th.perf w)) := by
  unfold State.runUnit
  rw [h.thread]
  dsimp only
  rw [h.item]
  dsimp only
  rw [if_neg (h.mayRun hran), h.word]

/-- The row of a unit that the word drives. -/
theorem OnWord.driven (h : OnWord s p eg t th k w) {u op : Nat} (hop : unitOp w u = op) {v : State}
    (hv : s.runUnit p eg t u = v) : s.unitRow p eg t u op = .next v :=
  (h.unitRow hop).trans (congrArg _ hv)

/-- A MOVE that has a destination stages its write (R207). -/
theorem Thread.move_writes (th : Thread) (hd : wMoveDst w ≠ 0x7F) :
    th.move w = { th.ran 2 with nextMove := some (wMoveDst w, th.operand w (wMoveSrc w)) } := if_neg hd

/-- Four bits that are all set. -/
theorem filter_four_bits {f : Nat} (hf : bits f 6 3 = 15) : (List.range 4).filter (fun i => bitOf f (6 - i)) = List.range 4 := by
  refine List.filter_eq_self.mpr fun i hi => ?_
  have hi' : i < 4 := List.mem_range.mp hi
  have hmod : f / 8 % 16 = 15 := hf
  obtain rfl | rfl | rfl | rfl : i = 0 ∨ i = 1 ∨ i = 2 ∨ i = 3 := by omega
  all_goals simp only [bitOf, beq_iff_eq]
  all_goals omega

/-- The header vector writer with all four bytes of A0 (R207). -/
theorem Thread.hvw_bytes (th : Thread) (ho : bitOf (wHvw w) 15 = true) (hf : bits (wHvw w) 6 3 = 15) (hs : bits (wHvw w) 2 0 = 0) :
    (th.hvw w).nextHv = th.nextHv ++ (List.range 4).map fun i =>
      (6143 - 32 * bits (wHvw w) 14 7 - 8 * i, 6143 - 32 * bits (wHvw w) 14 7 - 8 * i - 7, bits th.a0 (31 - 8 * i) (24 - 8 * i)) := by
  unfold Thread.hvw
  dsimp only
  rw [if_pos ho, filter_four_bits hf, hs]
  rfl

/-- A context whose lock the packet holds is operated on at once (R218). -/
theorem ctxUnit_holds {ecc bad : Nat} (hh : sparseFind? s.ae.holders (k.die * 65536 + low 16 (th.reg (wCtxReg w))) = some th.item) :
    s.ctxUnit p eg t th k w ecc bad = s.ctxOperate p eg t th k w ecc bad := if_pos hh

/-- The first that asks for a context that another holds waits for its lock (R218). -/
theorem ctxUnit_waits {ecc bad other c : Nat} (hc : c = low 16 (th.reg (wCtxReg w))) (hh : sparseFind? s.ae.holders (k.die * 65536 + c) = some other)
    (hne : other ≠ th.item) (hw : s.ctxWaiters (k.die * 65536 + c) = []) : s.ctxUnit p eg t th k w ecc bad =
      (((s.setCtxWaiters (k.die * 65536 + c) [th.item * 2]).setItem eg th.item { k with lock := some c }).setThread p eg t
        { th with ctxWaiting := true }) := by
  subst hc
  unfold State.ctxUnit
  dsimp only
  rw [hh, hw]
  rw [if_neg (by simpa using hne), if_neg (by simp)]
  rfl

/-- The row of CTX_READ on the word of a thread. -/
theorem OnWord.ctxRead (h : OnWord s p eg t th k w) (hran : 4 ∉ th.unitsRun) (hop : wCtxOp w = 1) (ecc bad : Nat) :
    exec (.ctxRead p eg t ecc bad) s = .next (s.ctxUnit p eg t th k w ecc bad) := by
  refine (withPipe_live h.pipe h.die h.runs).trans (congrArg _ ?_)
  rw [h.thread]
  dsimp only
  rw [h.item]
  dsimp only
  rw [h.word]
  exact if_pos ⟨hop, by simpa using h.mayRun hran⟩

/-- A meter that the packet has charged before returns the reserved colour (R217). -/
theorem metUnit_again {h : MeterHold} (hh : k.meters.find? (fun h => h.meter = low 16 (th.reg (wMetReg w))) = some h) :
    s.metUnit p eg t th k w = s.setThread p eg t { th.ran 6 with metReady := some (h.colour, th.occupancy + 6) } := by
  unfold State.metUnit
  dsimp only
  rw [hh]

/-- Another meter is charged, by the colour of the word's operation (R217). -/
theorem metUnit_first {x : State × MeterHold} {colour : Nat} (hh : k.meters.find? (fun h => h.meter = low 16 (th.reg (wMetReg w))) = none)
    (hcol : (if wMetOp w = 2 then min 2 (hvDp th.hv) else 0) = colour)
    (hx : s.chargeMeter k.die (low 16 (th.reg (wMetReg w))) (meterBytes k.hv) colour = x) : s.metUnit p eg t th k w =
      (x.1.setItem eg th.item { k with meters := k.meters ++ [x.2] }).setThread p eg t { th.ran 6 with metReady := some (x.2.colour, th.occupancy + 6) } := by
  unfold State.metUnit
  dsimp only
  rw [hh, hcol, hx]
end

/-- Settles O35: the row of a unit runs it, and each clause is the operation that the word gives the unit. -/
theorem unitRows : Obligations.UnitRows := by
  unfold Obligations.UnitRows
  intro s p eg t th k w h ends hends
  refine ⟨fun hran hd => ?move, fun hran ho => ⟨?hvw, fun hf hsrc => th.hvw_bytes ho hf hsrc⟩,
    fun hran c key hc hkey => ⟨fun hh => ?held, fun other hh hne hop hw ecc bad => ?waits⟩, fun hran => ?cnt, fun hran m hm => ?met,
    fun hran r hr => ?emit, fun hran reason hreason => ?repl, fun hran => ?perf⟩
  case move =>
    have hop : unitOp w 2 = 1 := if_neg hd
    rw [hends, ← th.move_writes hd]
    exact h.driven hop (h.runUnit hran)
  case hvw =>
    have hop : unitOp w 3 = 1 := congrArg b2n ho
    rw [hends]
    exact h.driven hop (h.runUnit hran)
  case held =>
    subst hc hkey
    have hunit : ∀ ecc bad, s.ctxUnit p eg t th k w ecc bad = s.ctxOperate p eg t th k w ecc bad := fun _ _ => ctxUnit_holds hh
    have hrun : wCtxOp w ≠ 0 → s.runUnit p eg t 4 = s.ctxOperate p eg t th k w 0 0 := fun hne =>
      (h.runUnit hran).trans ((if_neg hne).trans (hunit 0 0))
    refine ⟨fun bad hop => ?_, fun hop => ?_, fun hop => ?_, fun bad hop => ?_⟩
    · rw [h.ctxRead hran hop, hunit, hends]
      exact congrArg _ ((if_pos hop).trans (if_neg (by decide)))
    · rw [hends]
      exact h.driven (u := 4) hop ((hrun (by omega)).trans ((if_neg (by omega)).trans (if_pos hop)))
    · rw [hends]
      exact h.driven (u := 4) hop ((hrun (by omega)).trans ((if_neg (by omega)).trans (if_neg (by omega))))
    · rw [h.ctxRead hran hop, hunit]
      exact congrArg _ ((if_pos hop).trans (if_pos rfl))
  case waits =>
    subst hkey
    rw [h.ctxRead hran hop, ctxUnit_waits hc hh hne hw]
  case cnt =>
    have hrun : ∀ op, wCntOp w = op → ∀ x, th.cnt w = x → s.unitRow p eg t 5 op = .next (ends x) := fun op hop x hx => by
      rw [hends]
      exact h.driven (u := 5) hop ((h.runUnit hran).trans (congrArg (s.setThread p eg t) hx))
    exact ⟨fun hop => hrun 1 hop _ (if_pos hop), fun hop => hrun 2 hop _ ((if_neg (by omega)).trans (if_pos hop))⟩
  case met =>
    subst hm
    have hrun : wMetOp w ≠ 0 → s.runUnit p eg t 6 = s.metUnit p eg t th k w := fun hne => (h.runUnit hran).trans (if_neg hne)
    refine ⟨fun x hx => ⟨fun hop => ?_, fun hop => ?_⟩, fun hx x => ⟨fun hop hcharge => ?_, fun hop hcharge => ?_⟩⟩
    · rw [hends]
      exact h.driven (u := 6) hop ((hrun (by omega)).trans (metUnit_again hx))
    · rw [hends]
      exact h.driven (u := 6) hop ((hrun (by omega)).trans (metUnit_again hx))
    · exact h.driven (u := 6) hop ((hrun (by omega)).trans (metUnit_first hx (if_neg (by omega)) hcharge))
    · exact h.driven (u := 6) hop ((hrun (by omega)).trans (metUnit_first hx (if_pos hop) hcharge))
  case emit =>
    subst hr
    have hrun : ∀ op, op ≠ 0 → wEmitOp w = op → s.runUnit p eg t 7 = ends ((th.ran 7).logged (.emit op (th.reg (wEmitReg w)))) := fun op hne hop => by
      rw [hends, h.runUnit hran, ← hop]
      exact congrArg (s.setThread p eg t) (if_neg (by omega))
    exact ⟨fun hop => h.driven (u := 7) hop (hrun 1 (by decide) hop), fun hop => h.driven (u := 7) hop (hrun 2 (by decide) hop),
      fun hop => h.driven (u := 7) hop (hrun 3 (by decide) hop), fun hop => h.driven (u := 7) hop (hrun 4 (by decide) hop)⟩
  case repl =>
    subst hreason
    have hrun : ∀ op, wRepl w = op → ∀ x, th.repl w = x → s.unitRow p eg t 8 op = .next (ends x) := fun op hop x hx => by
      rw [hends]
      exact h.driven (u := 8) hop ((h.runUnit hran).trans (congrArg (s.setThread p eg t) hx))
    exact ⟨fun hop => hrun 1 hop _ (if_pos hop), fun hop => hrun 2 hop _ ((if_neg (by omega)).trans (if_pos hop)),
      fun hop => hrun 3 hop _ ((if_neg (by omega)).trans ((if_neg (by omega)).trans (if_pos hop))),
      fun hop => hrun 4 hop _ ((if_neg (by omega)).trans ((if_neg (by omega)).trans ((if_neg (by omega)).trans (if_pos hop)))),
      fun hop => hrun 5 hop _ ((if_neg (by omega)).trans ((if_neg (by omega)).trans ((if_neg (by omega)).trans ((if_neg (by omega)).trans (if_pos hop)))))⟩
  case perf =>
    have hrun : ∀ op, wPerf w = op → ∀ x, th.perf w = x → s.unitRow p eg t 9 op = .next (ends x) := fun op hop x hx => by
      rw [hends]
      exact h.driven (u := 9) hop ((h.runUnit hran).trans (congrArg (s.setThread p eg t) hx))
    refine ⟨fun hop hlen => hrun 1 hop _ ((if_pos hop).trans ?_), fun hop hlog => hrun 2 hop _ ((if_neg (by omega)).trans (if_pos ⟨hop, hlog⟩)),
      fun hop hlog => hrun 2 hop _ ((if_neg (by omega)).trans (if_neg (by simp [hlog])))⟩
    rw [if_pos hlen]

end Sys2Proof.Machine
end

section
namespace Sys2Proof.Machine

/-! The sequencer. -/

section
variable {s : State} {p : Nat} {eg : Bool} {t : Nat} {th : Thread} {k : Packet} {w : Nat}

/-- A unit that has run in the word does not run again. -/
theorem OnWord.runUnit_again (h : OnWord s p eg t th k w) {u : Nat} (hran : u ∈ th.unitsRun) : s.runUnit p eg t u = s := by
  unfold State.runUnit
  rw [h.thread]
  dsimp only
  rw [h.item]
  exact if_pos (by simp [Thread.mayRun, hran])

/-- Once all units have run, nothing of the word is left to run. -/
theorem OnWord.runWord_done (h : OnWord s p eg t th k w) (hran : ∀ u, u < 10 → u ∈ th.unitsRun) : s.runWord p eg t = s := by
  have hfix : ∀ l : List Nat, (∀ u ∈ l, u ∈ th.unitsRun) → l.foldl (fun a u => a.runUnit p eg t u) s = s := by
    intro l hl
    induction l with
    | nil => rfl
    | cons u l ih =>
      rw [List.foldl_cons, h.runUnit_again (hl u (by simp))]
      exact ih fun v hv => hl v (List.mem_cons_of_mem _ hv)
  exact hfix _ fun u hu => hran u (List.mem_range.mp hu)

/-- The row of a word's own SEQ ends the word. -/
theorem OnWord.seqRow (h : OnWord s p eg t th k w) (hran : ∀ u, u < 10 → u ∈ th.unitsRun) {seq : Nat} (hseq : wSeq w = seq) (wait ecc : Nat) :
    s.seqRow p eg t seq wait ecc = .next (s.stepWord p eg t w wait ecc) := by
  refine (withPipe_live h.pipe h.die h.runs).trans (congrArg _ ?_)
  rw [h.thread]
  dsimp only
  rw [h.item, h.word]
  dsimp only
  rw [if_neg (by simp [hseq, h.free]), if_neg (by simp [h.clear]), h.runWord_done hran]

/-- The row of another SEQ does nothing. -/
theorem OnWord.seqRow_other (h : OnWord s p eg t th k w) {seq : Nat} (hseq : wSeq w ≠ seq) (wait ecc : Nat) : s.seqRow p eg t seq wait ecc = .next s := by
  refine (withPipe_live h.pipe h.die h.runs).trans (congrArg _ ?_)
  rw [h.thread]
  dsimp only
  rw [h.item, h.word]
  exact if_pos (.inl hseq)

/-- The end of a word leaves where the thread is, what it calls back, what it has logged and whether it is to be retired. -/
theorem Thread.closeWord_keeps (th : Thread) (w : Nat) : (th.closeWord w).pc = th.pc ∧ (th.closeWord w).stack = th.stack ∧
    (th.closeWord w).log = th.log ∧ (th.closeWord w).reclaim = th.reclaim ∧ (th.closeWord w).item = th.item := by
  unfold Thread.closeWord
  extract_lets until_ t1 t2 t3 t4
  have h1 : t1.pc = th.pc ∧ t1.stack = th.stack ∧ t1.log = th.log ∧ t1.reclaim = th.reclaim ∧ t1.item = th.item := by
    simp only [t1]; split <;> exact ⟨rfl, rfl, rfl, rfl, rfl⟩
  have h2 : t2.pc = th.pc ∧ t2.stack = th.stack ∧ t2.log = th.log ∧ t2.reclaim = th.reclaim ∧ t2.item = th.item := by
    simp only [t2]; split <;> exact h1
  have h3 : t3.pc = th.pc ∧ t3.stack = th.stack ∧ t3.log = th.log ∧ t3.reclaim = th.reclaim ∧ t3.item = th.item := by
    simp only [t3]; split <;> exact h2
  have h4 : t4.pc = th.pc ∧ t4.stack = th.stack ∧ t4.log = th.log ∧ t4.reclaim = th.reclaim ∧ t4.item = th.item := by
    simp only [t4]
    split
    · split
      · exact h3
      · split <;> exact h3
    · exact h3
  exact h4

/-- The watchdog traps a word that takes its thread beyond 512 cycles (R222). -/
theorem OnWord.stepWord_watchdog (h : OnWord s p eg t th k w) (hlong : 512 < (th.closeWord w).occupancy - (th.closeWord w).lockWait) (wait ecc : Nat) :
    s.stepWord p eg t w wait ecc = s.trapItem p eg t { th.closeWord w with pc := th.pc } k 1 := by
  unfold State.stepWord
  rw [h.thread]
  dsimp only
  rw [h.item]
  dsimp only
  rw [if_neg (by simp [h.free]), if_pos hlong]

/-- The pc and the stack that a word's SEQ gives its thread (R202). -/
def Thread.target (th : Thread) (w : Nat) : Nat × List Nat :=
  let hold := th.holds (wCond w)
  if wSeq w = 1 then (wTarget w, th.stack)
  else if wSeq w = 2 then (if hold then wTarget w else th.pc + 1, th.stack)
  else if wSeq w = 3 then (if hold then wTarget w else th.pc + 1, if hold then (th.pc + 1) :: th.stack else th.stack)
  else if wSeq w = 4 then (if hold then th.stack.headD 0 else th.pc + 1, if hold then th.stack.tail else th.stack)
  else if wSeq w = 5 then (wTarget w + th.a0 % 16, th.stack)
  else (th.pc + 1, th.stack)

/-- The next word of a thread is that of its target. -/
theorem Thread.nextPc_target {x : Thread} (hpc : x.pc = th.pc) (hstack : x.stack = th.stack) :
    x.nextPc th w = { x with pc := (th.target w).1, stack := (th.target w).2 } := by
  unfold Thread.nextPc Thread.target
  dsimp only
  rw [← hstack, ← hpc]
  split
  · rfl
  · split
    · rfl
    · split
      · split <;> rfl
      · split
        · split <;> rfl
        · split <;> rfl

/-- A fetch whose word is good only takes its time (R199). -/
theorem fetchNext_clean (s : State) (p : Nat) (eg : Bool) (th : Thread) (wait : Nat) :
    s.fetchNext p eg th wait 0 = (s, { th with occupancy := th.occupancy + wait, fetchWait := th.fetchWait + wait }) := rfl

theorem setItem_badRows (s : State) (eg : Bool) (i : Nat) (k : Packet) : (s.setItem eg i k).badRows = s.badRows := by
  unfold State.setItem
  split
  · split <;> rfl
  · rfl

/-- What a word within the watchdog's time ends in: a trap, the end of its routine, or the fetch of the next word (R202). -/
theorem OnWord.stepWord_timely (h : OnWord s p eg t th k w) (hshort : (th.closeWord w).occupancy - (th.closeWord w).lockWait ≤ 512) (wait : Nat) :
    (wSeq w = 7 → s.stepWord p eg t w wait 0 = s.trapItem p eg t (th.closeWord w) k 0) ∧
    (wSeq w = 6 → s.stepWord p eg t w wait 0 = s.endRoutine p eg t (th.closeWord w) k) ∧
    (wSeq w ≠ 7 → wSeq w ≠ 6 → ∀ pc stack, (th.closeWord w).nextPc th w = { th.closeWord w with pc := pc, stack := stack } →
      s.rowBad (p / 16) 0x60 (rowIndex (p % 16 * 2 + b2n eg) pc) = false →
      s.stepWord p eg t w wait 0 = s.wordEnds p eg t th k w wait pc stack) := by
  unfold State.stepWord
  rw [h.thread]
  dsimp only
  rw [h.item]
  dsimp only
  rw [if_neg (by simp [h.free]), if_neg (by omega)]
  refine ⟨fun hseq => if_pos hseq, fun hseq => (if_neg (by omega)).trans (if_pos hseq), fun h7 h6 pc stack hpc hgood => ?_⟩
  rw [if_neg h7, if_neg h6, hpc, fetchNext_clean]
  refine if_neg (?_ : ¬ State.wordBad _ p eg pc = true)
  rw [State.wordBad, State.rowBad]
  show ¬ ((State.setItem s eg th.item _).badRows.any _) = true
  rw [setItem_badRows]
  exact (Bool.not_eq_true _).mpr hgood

/-- The routine of a packet ends: the packet goes to its exit check with the HV and the log of its thread (R202, R214). -/
theorem endRoutine_shows {th1 : Thread} (hreclaim : th1.reclaim = false) : ∃ k1, (s.endRoutine p false t th1 k).packet? th1.item = some k1 ∧
    k1.stage = .checking ∧ k1.hv = th1.hv ∧ k1.log = th1.log ∧ k1.frame = k.frame ∧
    s.endRoutine p false t th1 k = { s with regs := (s.endRoutine p false t th1 k).regs, ae := (s.endRoutine p false t th1 k).ae,
                                             packets := (s.endRoutine p false t th1 k).packets } := by
  unfold State.endRoutine
  dsimp only
  rw [hreclaim]
  exact ⟨_, (sparseFind?_put ..).trans (if_pos rfl), rfl, rfl, rfl, rfl, rfl⟩
end

/-- Settles O36: the row of a word's SEQ runs the word to its end, and its SEQ says what the end is. -/
theorem sequencerRows : Obligations.SequencerRows := by
  unfold Obligations.SequencerRows
  intro s p eg t th k w wait h hran
  obtain ⟨hpc, hstack, hlog, hreclaim, hitem⟩ := th.closeWord_keeps w
  refine ⟨fun hshort goes hgoes pc stack hgood => ?timely, fun hlong hseq ecc => ?watchdog, fun hseq ecc => h.seqRow_other hseq wait ecc,
    fun hseq heg hshort hrec => ?ends⟩
  case timely =>
    obtain ⟨-, -, hnext⟩ := h.stepWord_timely hshort wait
    have goesOn : ∀ seq, wSeq w = seq → seq < 6 → ∀ stack, th.target w = (pc, stack) →
        s.seqRow p eg t seq wait 0 = .next (goes pc stack) := fun seq hseq hlt stack hto => by
      rw [hgoes, h.seqRow hran hseq,
        hnext (by omega) (by omega) pc stack ((Thread.nextPc_target hpc hstack).trans (by rw [hto])) hgood]
    refine ⟨fun hseq hp => goesOn 0 hseq (by decide) _ ?_, fun hseq hp => goesOn 1 hseq (by decide) _ ?_, fun hseq hp => goesOn 2 hseq (by decide) _ ?_,
      fun hseq hp hst => goesOn 3 hseq (by decide) _ ?_, fun hseq hp hst => goesOn 4 hseq (by decide) _ ?_,
      fun hseq hp => goesOn 5 hseq (by decide) _ ?_, fun hseq => ?_, fun hseq => ?_⟩
    · simp [Thread.target, hseq, hp]
    · simp [Thread.target, hseq, hp]
    · simp [Thread.target, hseq, hp]
    · simp [Thread.target, hseq, hp, hst]
    · simp [Thread.target, hseq, hp, hst]
    · simp [Thread.target, hseq, hp]
    · exact (h.seqRow hran hseq 0 0).trans (congrArg _ ((h.stepWord_timely hshort 0).2.1 hseq))
    · exact (h.seqRow hran hseq 0 0).trans (congrArg _ ((h.stepWord_timely hshort 0).1 hseq))
  case watchdog => exact (h.seqRow hran hseq wait ecc).trans (congrArg _ (h.stepWord_watchdog hlong wait ecc))
  case ends =>
    subst heg
    refine ⟨_, (h.seqRow hran hseq 0 0).trans (congrArg _ ((h.stepWord_timely hshort 0).2.1 hseq)), ?_⟩
    have hshows := endRoutine_shows (s := s) (p := p) (t := t) (k := k) (hreclaim.trans hrec)
    rw [hitem, hlog] at hshows
    obtain ⟨k1, hfound, hstage, hhv, hlogs, hframe, hu⟩ := hshows
    exact ⟨k1, hfound, hstage, hhv, hlogs, hframe, hu⟩

end Sys2Proof.Machine
end

section
namespace Sys2Proof.Machine

/-! AE_DISPATCH. -/

section
variable {s : State} {p : Nat} {eg : Bool} {i : Nat} {k : Packet}

/-- `t` is `s` but for what an engine changes of it as it takes an item: registers, engines, packets, copies, counters and free choices. -/
def Dispatched (s t : State) : Prop :=
  t = { s with regs := t.regs, ae := t.ae, packets := t.packets, tm := t.tm, ctrs := t.ctrs, freeCount := t.freeCount }

theorem Dispatched.trans {t u : State} (h : Dispatched s t) (k : Dispatched t u) : Dispatched s u := by
  unfold Dispatched at h k ⊢
  rw [h] at k
  exact k

/-- The choice of a sample changes counters, registers and the free choices alone. -/
theorem sampleDispatch_shows (s : State) (p : Nat) (eg : Bool) :
    ∃ r c f, (s.sampleDispatch p eg).1 = { s with regs := r, ctrs := c, freeCount := f } := by
  unfold State.sampleDispatch
  generalize s.rd (if eg = true then Od.sampleMode.egress else Od.sampleMode) (pipeInst p) = mode
  dsimp only
  split
  · exact ⟨_, _, _, rfl⟩
  · split
    · exact ⟨_, _, _, rfl⟩
    · split <;> exact ⟨_, _, _, rfl⟩

/-- An item that stands is written. -/
theorem setItem_shows (hk : s.item? eg i = some k) (k1 : Packet) :
    (s.setItem eg i k1).item? eg i = some k1 ∧ ∃ ps tm, s.setItem eg i k1 = { s with packets := ps, tm := tm } := by
  cases eg with
  | false => exact ⟨(sparseFind?_put ..).trans (if_pos rfl), _, _, rfl⟩
  | true =>
    obtain ⟨c, hc, -⟩ : ∃ c, s.copy? i = some c ∧ c.k = k := by
      simpa [State.item?] using hk
    have hset : s.setItem true i k1 = s.setCopy i { c with k := k1 } := by
      unfold State.setItem
      rw [if_pos rfl, hc]
    rw [hset]
    refine ⟨?_, _, _, rfl⟩
    show Option.map _ (sparseFind? (sparsePut s.tm.copies i _) i) = _
    rw [sparseFind?_put, if_pos rfl]
    rfl

/-- A thread at dispatch enters its first word as it is. -/
theorem enterWord_dispatch (s : State) (eg : Bool) (k : Packet) (item bank pc profile opcode began hv : Nat) :
    ∃ th, s.enterWord eg k (.atDispatch item bank pc profile opcode began hv) = th ∧ th.item = item ∧ th.pc = pc ∧ th.profile = profile ∧
      th.opcode = opcode ∧ th.hv = hv ∧ th.g = List.replicate 32 0 ∧ th.a0 = 0 ∧ th.a1 = 0 ∧ th.stack = [] ∧ th.log = [] ∧ th.committed = false ∧
      th.occupancy = 0 := by
  refine ⟨_, rfl, ?_⟩
  unfold State.enterWord
  dsimp only
  split
  · exact ⟨rfl, rfl, rfl, rfl, rfl, rfl, rfl, rfl, rfl, rfl, rfl, rfl⟩
  · exact ⟨rfl, rfl, rfl, rfl, rfl, rfl, rfl, rfl, rfl, rfl, rfl, rfl⟩

/-- A line that is not empty is kept as it is. -/
theorem exitOrder_set {e : Nat} {l : List Nat} (hl : l ≠ []) : (s.setExitOrder e l).exitOrder e = l := by
  unfold State.setExitOrder State.exitOrder sparseGet sparseSet
  rw [if_neg hl]
  show (sparseFind? (sparsePut s.ae.order e l) e).getD [] = l
  rw [sparseFind?_put, if_pos rfl]
  rfl

/-- AE_DISPATCH of a ready item of the engine. -/
theorem exec_aeDispatch (hst : s.stopped = false) (hp : p % 16 ≤ 8) (hd : s.hasDie (p / 16) = true) (hk : s.item? eg i = some k)
    (hstage : k.stage = .ready) (hpipe : k.pipe = p) (t ecc : Nat) : exec (.aeDispatch p eg i ⟨t, ecc⟩) s =
      .next (if bitOf (s.itemEntry eg i k) 31 = false then s.noRoutine p eg i k
        else if 64 ≤ ((s.exitOrder (engineOf p eg)).filter fun i => ((s.item? eg i).map fun (k : Packet) => decide (k.stage = .passed)).getD false).length ∨
            s.threadsBusy p eg = true then s.aeCount p eg Od.aeStallClocks
        else if ((s.thread? p eg t).isSome || !s.threadInService p eg t) = true ∨ k.avoid = some t ∨
            (s.restartQueue (engineOf p eg) ≠ [] ∧ (s.restartQueue (engineOf p eg)).head? ≠ some i) then s
        else s.dispatchItem p eg i t ecc k) := by
  refine (withPipe_live hp hd hst).trans (congrArg _ ?_)
  dsimp only
  rw [hk]
  exact if_neg (by simp [hstage, hpipe])

/-- A dispatched item runs from the first word of its routine on a thread all of whose state is zero (R194, R211). -/
theorem dispatchItem_runs (hk : s.item? eg i = some k) {t : Nat}
    (hgood : s.rowBad (p / 16) 0x60 (rowIndex (p % 16 * 2 + b2n eg) (bits (s.itemEntry eg i k) 29 16)) = false) :
    ∃ th k1 u, s.dispatchItem p eg i t 0 k = u ∧ u.thread? p eg t = some th ∧ u.item? eg i = some k1 ∧ k1.stage = .running ∧ k1.hv = k.hv ∧
      k1.frame = k.frame ∧ k1.restarts = k.restarts ∧ th.item = i ∧ th.pc = bits (s.itemEntry eg i k) 29 16 ∧
      th.profile = bits (s.itemEntry eg i k) 15 8 ∧ th.opcode = bits k.hv 607 600 ∧ th.hv = k.hv ∧ th.g = List.replicate 32 0 ∧ th.a0 = 0 ∧
      th.a1 = 0 ∧ th.stack = [] ∧ th.log = [] ∧ th.committed = false ∧ th.occupancy = 0 ∧
      u.exitOrder (engineOf p eg) = (if (s.exitOrder (engineOf p eg)).contains i then s.exitOrder (engineOf p eg)
        else s.exitOrder (engineOf p eg) ++ [i]) ∧ Dispatched s u := by
  unfold State.dispatchItem
  extract_lets e counts bank ent s0 x s1 k1 line s2 th s3 s4
  have hs1 : ∃ r c f, s1 = { s0 with regs := r, ctrs := c, freeCount := f } := by
    obtain ⟨r, c, f, hx⟩ := sampleDispatch_shows s0 p eg
    show ∃ r c f, (if counts = true then x.1.aeCount p eg Od.aePackets else x.1) = _
    by_cases hc : counts = true
    · rw [if_pos hc, show x = s0.sampleDispatch p eg from if_pos hc, hx]
      exact ⟨_, _, _, rfl⟩
    · rw [if_neg hc, show x = (s0, k.picked) from if_neg hc]
      exact ⟨_, _, _, rfl⟩
  obtain ⟨r, c, f, hs1⟩ := hs1
  have hline : line = s.exitOrder e := by
    show s1.exitOrder e = _
    rw [hs1]
    rfl
  have hk1 : s1.item? eg i = some k := by
    rw [hs1]
    exact hk
  have hstage : k1.stage = .running ∧ k1.hv = k.hv ∧ k1.frame = k.frame ∧ k1.restarts = k.restarts := ⟨rfl, rfl, rfl, rfl⟩
  let line1 := if line.contains i then line else line ++ [i]
  have hne : line1 ≠ [] := by
    show (if _ then _ else _) ≠ []
    split
    · next hc => exact fun hnil => by rw [hnil] at hc; exact absurd hc (by simp)
    · simp
  obtain ⟨hitem, ps, tm, hs2⟩ := setItem_shows (s := s1.setExitOrder e line1) (eg := eg) (i := i) hk1 k1
  have hs2 : s2 = { s1.setExitOrder e line1 with packets := ps, tm := tm } := hs2
  obtain ⟨th1, hth, hfields⟩ := enterWord_dispatch s2 eg k1 i bank (bits ent 29 16) (bits ent 15 8) (bits k.hv 607 600) s2.time.now k.hv
  have hs4 : s4 = s2.setThread p eg t th1 := congrArg (s2.setThread p eg t) hth
  have hbad : ¬ s4.wordBad p eg th.pc = true := by
    rw [hs4, hs2, hs1]
    show ¬ s.rowBad (p / 16) 0x60 (rowIndex (p % 16 * 2 + b2n eg) (bits ent 29 16)) = true
    exact (Bool.not_eq_true _).mpr hgood
  rw [if_neg hbad]
  obtain ⟨h1, h2, h3, h4, h5, h6, h7, h8, h9, h10, h11, h12⟩ := hfields
  obtain ⟨k1stage, k1hv, k1frame, k1restarts⟩ := hstage
  refine ⟨th1, k1, s4, rfl, ?thread, ?item, k1stage, k1hv, k1frame, k1restarts, h1, h2, h3, h4, h5, h6, h7, h8, h9, h10, h11, h12, ?order, ?frame⟩
  case thread =>
    rw [hs4]
    exact (sparseFind?_put ..).trans (if_pos rfl)
  case item =>
    rw [hs4]
    exact hitem
  case order =>
    rw [hs4, ← hline, hs2]
    exact exitOrder_set (s := s1) hne
  case frame =>
    rw [hs4, hs2, hs1]
    rfl
end

/-- Settles O37: the branch of the dispatch that the item takes, and what a dispatched item has. -/
theorem dispatchRow : Obligations.DispatchRow := by
  unfold Obligations.DispatchRow
  intro s p eg i t ecc k e hst hp hd he hk hstage hpipe op ent waiting hop hent hwaiting
  subst he hop hent hwaiting
  have hexec := exec_aeDispatch hst hp hd hk hstage hpipe t ecc
  refine ⟨fun hbit s1 hs1 => ?none, fun hbit hfull => ?stalled, fun hbit hroom hfree hup havoid hfirst => ?goes⟩
  case none =>
    subst hs1
    have hnone := hexec.trans (congrArg _ (if_pos hbit))
    refine ⟨fun hnew hnot => hnone.trans (congrArg _ (congrArg (State.dropItem · eg i k) (if_pos ?_))),
      fun hold => hnone.trans (congrArg _ (congrArg (State.dropItem · eg i k) (if_neg ?_)))⟩
    · simp [State.counted, hnew, hnot]
    · simp only [State.counted, Bool.and_eq_true, Bool.not_eq_true', List.contains_eq_mem, decide_eq_false_iff_not, not_and, Bool.not_eq_false]
      exact fun hnot => hold.resolve_right hnot
  case stalled =>
    have hentry : ¬ bitOf (s.itemEntry eg i k) 31 = false := (Bool.not_eq_false _).mpr hbit
    refine hexec.trans (congrArg _ ((if_neg hentry).trans (if_pos (hfull.imp_right fun h => ?_))))
    exact List.all_eq_true.mpr fun u hu => by simpa using h u (List.mem_range.mp hu)
  case goes =>
    have hentry : ¬ bitOf (s.itemEntry eg i k) 31 = false := (Bool.not_eq_false _).mpr hbit
    have hfits : t < 32 := by
      simp only [State.threadInService, Bool.and_eq_true, decide_eq_true_eq] at hup
      exact hup.1
    have hidle : ¬ s.threadsBusy p eg = true := fun hb => by
      have := List.all_eq_true.mp hb t (List.mem_range.mpr hfits)
      simp [hfree, hup] at this
    refine ⟨hexec.trans (congrArg _ ((if_neg hentry).trans ((if_neg (not_or.mpr ⟨by omega, hidle⟩)).trans (if_neg ?_)))), fun hecc hgood => ?_⟩
    · rintro (hbusy | havoid' | ⟨hne, hhead⟩)
      · simp [hfree, hup] at hbusy
      · exact havoid havoid'
      · exact hfirst.elim hne hhead
    · subst hecc
      exact dispatchItem_runs hk hgood

end Sys2Proof.Machine
end

section
namespace Sys2Proof.Machine

/-! Events of threads: lock grants, faults, retirement and the exit. -/

section
variable {s : State} {p : Nat} {eg : Bool} {t : Nat} {th : Thread} {k : Packet}

/-- A context that is held, or that nobody waits for, is granted to nobody. -/
theorem ctxLockGrant_none {d c : Nat} (hst : s.stopped = false) (hd : s.hasDie d = true)
    (h : (sparseFind? s.ae.holders (d * 65536 + c)).isSome = true ∨ s.ctxWaiters (d * 65536 + c) = []) (waited ecc bad : Nat) :
    exec (.ctxLockGrant d c waited ecc bad) s = .next s := by
  refine (withDie_live hd hst _).trans (congrArg _ ?_)
  dsimp only
  by_cases hh : (sparseFind? s.ae.holders (d * 65536 + c)).isSome = true
  · exact if_pos hh
  · rw [if_neg hh, h.resolve_left hh]

/-- The lock of a free context is the packet's (R218). -/
def State.granted (s : State) (key i : Nat) (rest : List Nat) : State :=
  { s.setCtxWaiters key rest with ae := { (s.setCtxWaiters key rest).ae with holders := sparsePut s.ae.holders key i } }

/-- The packet at the front of a free context's queue has its lock, and its thread goes on with its operation. -/
theorem exec_ctxLockGrant {d c i : Nat} {rest : List Nat} (hst : s.stopped = false) (hd : s.hasDie d = true)
    (hfree : sparseFind? s.ae.holders (d * 65536 + c) = none) (hline : s.ctxWaiters (d * 65536 + c) = i * 2 :: rest) (ht : t < 64)
    (hth : s.ae.threads.find? (fun (e : Nat × Thread) => e.2.item = i && e.2.ctxWaiting && e.1 / 64 % 2 = 0) = some (p * 128 + t, th))
    (hk : s.packet? i = some k) (waited ecc bad : Nat) : exec (.ctxLockGrant d c waited ecc bad) s =
      .next (((s.granted (d * 65536 + c) i rest).aeCount p false Od.aeLockWaitCycles waited).ctxOperate p false t
        { th with occupancy := th.occupancy + waited, lockWait := th.lockWait + waited } k
        ((s.granted (d * 65536 + c) i rest).word false th.bank th.pc) ecc bad) := by
  have hpipe : (p * 128 + t) / 128 = p := by omega
  have hthread : (p * 128 + t) % 64 = t := by omega
  refine (withDie_live hd hst _).trans (congrArg _ ?_)
  dsimp only
  rw [hfree, hline]
  dsimp only
  rw [if_neg (by simp), if_neg (by omega), show i * 2 / 2 = i by omega]
  show (match s.ae.threads.find? _ with
    | none => _
    | some (_, _) => _) = _
  rw [hth]
  show (match s.packet? i with
    | none => _
    | some _ => _) = _
  rw [hk, hpipe, hthread]
  rfl

/-- Its thread has the window of the context it reads (R218). -/
theorem ctxLockGrant_front {d c waited bad i : Nat} {rest : List Nat} {w : Nat} (hst : s.stopped = false) (hd : s.hasDie d = true)
    (hfree : sparseFind? s.ae.holders (d * 65536 + c) = none) (hline : s.ctxWaiters (d * 65536 + c) = i * 2 :: rest) (ht : t < 64)
    (hth : s.ae.threads.find? (fun (e : Nat × Thread) => e.2.item = i && e.2.ctxWaiting && e.1 / 64 % 2 = 0) = some (p * 128 + t, th))
    (hk : s.packet? i = some k) (hw : w = s.word false th.bank th.pc) (hop : wCtxOp w = 1) (hc : low 16 (th.reg (wCtxReg w)) = c) (hdie : k.die = d) :
    Runs (.ctxLockGrant d c waited 0 bad) s fun u => sparseFind? u.ae.holders (d * 65536 + c) = some i ∧
      u.thread? p false t = some { ({ th with occupancy := th.occupancy + waited, lockWait := th.lockWait + waited } : Thread).ran 4 with
        ctxWaiting := false, ctxReady := some (ctxWords (s.context d c), th.occupancy + waited + 8) } ∧
      u = { s with regs := u.regs, ae := u.ae } := by
  refine ⟨_, exec_ctxLockGrant hst hd hfree hline ht hth hk waited 0 bad, ?_⟩
  have hword : (s.granted (d * 65536 + c) i rest).word false th.bank th.pc = w := hw.symm
  rw [hword]
  have hread : ∀ v : State, ∀ th1 : Thread, th1.reg (wCtxReg w) = th.reg (wCtxReg w) → v.ctxOperate p false t th1 k w 0 bad =
      v.setThread p false t { th1.ran 4 with ctxWaiting := false, ctxReady := some (ctxWords (v.context d c), th1.occupancy + 8) } := by
    intro v th1 hreg
    subst hdie hc
    rw [← hreg]
    exact (if_pos hop).trans (if_neg (by decide))
  rw [hread _ { th with occupancy := th.occupancy + waited, lockWait := th.lockWait + waited } rfl]
  exact ⟨(sparseFind?_put ..).trans (if_pos rfl), (sparseFind?_put ..).trans (if_pos rfl), rfl⟩

/-- A fault of a thread's routine, by what it is. -/
theorem exec_threadFault (hst : s.stopped = false) (hp : p % 16 ≤ 8) (hd : s.hasDie (p / 16) = true) (hth : s.thread? p eg t = some th)
    (hk : s.item? eg th.item = some k) (kind : Nat) : exec (.threadFault p eg t kind) s =
      .next (if kind = 2 then (if th.committed = true then s.setThread p eg t { th with reclaim := true }
          else (s.restartItem p eg t th k false).retireThread p eg t)
        else if kind = 1 then s.wordEvent p eg t th k else s.threadEvent p eg t th k) := by
  refine (withPipe_live hp hd hst).trans (congrArg _ ?_)
  rw [hth]
  dsimp only
  rw [hk]

/-- A packet that a fault reaches for the first or second time restarts (R221). -/
theorem restartItem_again (hr : k.restarts < 2) {s3 : State}
    (hs3 : s3 = ((((s.endThread p eg t).aeCount p eg Od.aeCycles th.occupancy).noteRestart p eg t).aeCount p eg Od.aeRestarts).fault
      (p / 16) 0x05 0 (p * 256 + t) th.pc th.opcode) : s.restartItem p eg t th k true =
      (s3.setItem eg th.item { k with stage := .ready, restarts := k.restarts + 1, avoid := some t, log := [], ctxNew := none }).setRestartQueue
        (engineOf p eg) (s3.restartQueue (engineOf p eg) ++ [th.item]) := by
  unfold State.restartItem
  dsimp only
  rw [if_neg (by omega), if_pos rfl, ← hs3]

/-- The third time it is punted (R221). -/
theorem restartItem_punts (hr : 2 ≤ k.restarts) (faulted : Bool) : s.restartItem p eg t th k faulted =
      (((((s.endThread p eg t).aeCount p eg Od.aeCycles th.occupancy).aeCount p eg Od.aeRestartLimitPunts).fault (p / 16) 0x05 2
        (p * 256 + t) th.pc th.opcode).puntItem eg th.item k 0x05) := by
  unfold State.restartItem
  exact if_pos hr

theorem threadEvent_committed (hc : th.committed = true) :
    s.threadEvent p eg t th k = s.setItem eg th.item { k with marked := some (t, th.pc, th.opcode) } := if_pos hc

theorem threadEvent_restarts (hc : th.committed = false) : s.threadEvent p eg t th k = s.restartItem p eg t th k true :=
  if_neg (by simp [hc])

/-- A thread without a routine is retired at once (R224). -/
theorem threadRetire_idle (hst : s.stopped = false) (hp : p % 16 ≤ 8) (hd : s.hasDie (p / 16) = true) {failed : Bool}
    (hcause : failed = true ∨
      2 ≤ ((sparseGet (fun _ => []) s.ae.faults (engineOf p eg * 64 + t)).filter fun n => decide (s.up < n + 1000000000)).length)
    (hup : s.threadInService p eg t = true) (hth : s.thread? p eg t = none) : exec (.threadRetire p eg t failed) s = .next (s.retireThread p eg t) := by
  have hfault : execThreadFault p eg t 2 s = .next (s.retireThread p eg t) := by
    refine (withPipe_live hp hd hst).trans (congrArg _ ?_)
    rw [hth]
    exact if_pos ⟨rfl, hup⟩
  have hcause' : (failed || decide (2 ≤ ((sparseGet (fun _ => []) s.ae.faults (engineOf p eg * 64 + t)).filter fun n =>
      decide (s.up < n + 1000000000)).length)) = true := by simpa using hcause
  exact (if_pos hcause').trans ((if_pos hup).trans hfault)

/-- A thread without faults is not retired. -/
theorem threadRetire_none (hst : s.stopped = false) (hp : p % 16 ≤ 8) (hd : s.hasDie (p / 16) = true)
    (hnone : sparseGet (fun _ => []) s.ae.faults (engineOf p eg * 64 + t) = []) : exec (.threadRetire p eg t false) s = .next s := by
  show execThreadRetire p eg t false s = _
  unfold execThreadRetire
  rw [hnone]
  exact withPipe_live hp hd hst

/-- The earliest item of an engine, by its stage. -/
theorem exec_aeExit {i : Nat} {rest : List Nat} (hst : s.stopped = false) (hp : p % 16 ≤ 8) (hd : s.hasDie (p / 16) = true)
    (hline : s.exitOrder (engineOf p eg) = i :: rest) (hk : s.item? eg i = some k) : exec (.aeExit p eg) s =
      .next (if k.stage = .passed then (s.setExitOrder (engineOf p eg) rest).setItem eg i { k with stage := .left } else s) := by
  refine (withPipe_live hp hd hst).trans (congrArg _ ?_)
  dsimp only
  rw [hline]
  dsimp only
  rw [hk]
end

/-- Settles O38: the branch of the grant, the fault, the retirement or the exit that the thread takes. -/
theorem threadRows : Obligations.ThreadRows := by
  unfold Obligations.ThreadRows
  intro s hst
  refine ⟨fun d c waited ecc bad key hd hkey => ⟨fun h => ?idle, fun i rest p t th k w hfree hline ht hth hk hw hop hc hdie => ?grant⟩,
    fun p eg t th k e hp hd hth hk he s1 hs1 => ?fault, fun p eg t f hp hd hf => ⟨fun u failed hu hcause hup hth => ?retire, fun hnone => ?stays⟩,
    fun p eg i rest k hp hd hline hk => ?exit⟩
  case idle =>
    subst hkey
    exact ctxLockGrant_none hst hd h waited ecc bad
  case grant =>
    subst hkey
    exact ctxLockGrant_front hst hd hfree hline ht hth hk hw hop hc hdie
  case fault =>
    subst he hs1
    have hexec := exec_threadFault hst hp hd hth hk
    have hevent : exec (.threadFault p eg t 0) s = .next (s.threadEvent p eg t th k) :=
      (hexec 0).trans (congrArg _ ((if_neg (by decide)).trans (if_neg (by decide))))
    refine ⟨fun hc => ?_, fun hc hr s3 hs3 => ?_, fun hc hr => ?_, hexec 1, fun hc => (hexec 2).trans (congrArg _ (if_pos hc))⟩
    · rw [hevent, threadEvent_committed hc]
    · rw [hevent, threadEvent_restarts hc, restartItem_again hr hs3]
    · rw [hevent, threadEvent_restarts hc, restartItem_punts hr]
  case retire =>
    subst hu hf
    exact threadRetire_idle hst hp hd hcause hup hth
  case stays => exact threadRetire_none hst hp hd hnone
  case exit =>
    have hexec := exec_aeExit hst hp hd hline hk
    exact ⟨fun hpassed => hexec.trans (congrArg _ (if_pos hpassed)), fun hnot => hexec.trans (congrArg _ (if_neg hnot))⟩

end Sys2Proof.Machine
end

section
namespace Sys2Proof.Machine

-- One evaluation of the model at a time.
set_option Elab.async false

/-! An exit check of a packet whose context has two queues of waiters. -/

/-- A packet in its exit check that holds the lock of context 0 of die 0 and is to write 5 there. -/
def checkedPacket : Packet :=
  { stage := .checking, port := 0, pipe := 0, frame := [], ended := true, bad := false, hv := 0, hv0 := 0, born := 0, lport := 0, bd := 0, limit := 0,
    tcEarly := 0, place := .none, searched := true, matchIds := [], head := 0, tag := 0, pg := 0, restarts := 0, replays := 0, meters := [],
    lock := some 0, log := [.ctx 0], ctxNew := some 5, picked := false, record := 0, marked := none, avoid := none, charged := false, flying := false,
    mirror := none, since := 0, owns := false, origin := 0, cut := false, atEgress := false }

/-- A host write of the same context. -/
def hostWrite : TimedWrite := { seq := 0, table := 0x50, die := 0, index := 0, record := [], epoch := 0, fn := 0, wq := 0, token := 0 }

/-- The waiters of the context are listed twice, first with nobody and then with the host write. -/
def twoQueues : State :=
  let s := State.reset.setPacket 1 checkedPacket
  { s with ae := { s.ae with holders := [(0, 1)], waiters := [(0, []), (0, [1])] }, rings := { s.rings with timed := [hostWrite] } }

theorem twoQueues_checks : twoQueues.stopped = false ∧ twoQueues.item? false 1 = some checkedPacket ∧
    sparseFind? twoQueues.ae.holders (checkedPacket.die * 65536 + 0) = some 1 ∧ twoQueues.ctxWaiters (checkedPacket.die * 65536 + 0) = [] ∧
    sparseRising none twoQueues.ae.contexts = true ∧ sparseRising none twoQueues.ae.holders = true ∧ twoQueues.rings.timed.length = 1 := by
  decide +kernel

/-- The host writes that stand after a command. -/
def Answer.timedWrites : Answer → Nat
  | .next t => t.rings.timed.length
  | _ => 0

theorem twoQueues_serves : Answer.timedWrites (exec (.exitCheck false 1 0) twoQueues) = 0 := by decide +kernel

/-- Refutes O39: where the waiters of a context are listed twice, the release of its lock serves the host write of the second list, and the work queues
change with it. -/
theorem not_exitChecks : ¬ Obligations.ExitChecks := by
  intro h
  obtain ⟨hst, hk, hheld, hline, hctx, hholders, htimed⟩ := twoQueues_checks
  obtain ⟨hitem, -⟩ := h twoQueues hst
  obtain ⟨-, hpass, -⟩ := hitem false 1 checkedPacket hk
  obtain ⟨-, hrelease⟩ := hpass rfl rfl _ rfl
  obtain ⟨u, hu, -, -, -, hframe⟩ := hrelease 0 5 rfl rfl rfl rfl hheld hline hctx hholders
  have hserved := twoQueues_serves
  rw [hu] at hserved
  have hleft : u.rings.timed.length = 1 := by
    rw [hframe]
    exact htimed
  exact absurd (hleft.symm.trans hserved) (by decide)

end Sys2Proof.Machine
end

section
namespace Sys2Proof.Machine

/-! TM_ENQUEUE: the fate of a packet. -/

section
variable {s : State} {p : Nat} {k : Packet}

/-- A log without host copies and mirror invocations gives no side copies. -/
theorem sideCopies_none (hlog : k.log = []) : s.sideCopies p k = (s, 0) := by
  unfold State.sideCopies
  rw [hlog]
  rfl

theorem sideCopies_one {o : LogOp} (hlog : k.log = [o]) (ho : o = .drop ∨ (∃ r, o = .punt r) ∨ ∃ q, o = .recirc q) : s.sideCopies p k = (s, 0) := by
  unfold State.sideCopies
  rw [hlog]
  obtain rfl | ⟨r, rfl⟩ | ⟨q, rfl⟩ := ho
  · rfl
  · rfl
  · rfl

/-- Without mirror copies the packet is dropped. -/
theorem leaveToMirrors_none (s : State) (p : Nat) (k : Packet) : s.leaveToMirrors p k 0 = s.dropPacket p k := if_pos rfl

/-- A destination with a target. -/
theorem toFound_target {f : Found} {t : Target} (hash kind users : Nat) (hst : f.st = s) (ht : f.target = some t) :
    s.toFound p k hash f kind users = s.unicast p k hash t kind users := by
  unfold State.toFound
  rw [ht, hst]

/-- A destination that drops, its count made. -/
theorem toFound_drop {u : State} (hash kind : Nat) (hu : u = { s with regs := u.regs, learning := u.learning }) :
    s.toFound p k hash (.none_ u) kind 0 = u.dropPacket p k := by
  have hfate : ¬ (Found.none_ u).fate = 2 := fun h => absurd (show 1 = 2 from h) (by decide)
  unfold State.toFound
  refine (if_neg hfate).trans ?_
  rw [leaveToMirrors_none]
  exact congrArg (State.dropPacket · p k) hu.symm

theorem recirc_limit (hpass : hvPass k.hv = 3) (profile users : Nat) :
    s.recirc p k profile users = (s.bump Od.recircLimitCount (dieInst k.die)).puntEnqueued p k 0x09 users := if_pos hpass

theorem recirc_late (hpass : hvPass k.hv ≠ 3) (hage : 32000 < s.age k) (profile users : Nat) :
    s.recirc p k profile users = (s.bump Od.recircDropLate (dieInst k.die)).leaveToMirrors p k users := (if_neg hpass).trans (if_pos hage)

theorem recirc_noPath (hpass : hvPass k.hv ≠ 3) (hage : s.age k ≤ 32000) (hshare : s.loopShare 0 = false) (profile users : Nat) :
    s.recirc p k profile users = (s.bump Od.loopbackNoPath (dieInst k.die)).leaveToMirrors p k users :=
  (if_neg hpass).trans ((if_neg (by omega)).trans (if_pos hshare))

/-- A logical port of the part is its own target (R233). -/
theorem toLport_port {d g hash l nh replica : Nat} (hl : l < 4096) (htype : bits (s.tbl (s.liveFor 0x40 g) 0x40 l) 127 126 = 1)
    (hport : s.portExists l = true) :
    s.toLport d g hash l nh replica = { st := s, target := some { port := l, nh := nh, lport := l, replica := replica }, fate := 0 } := by
  unfold State.toLport
  dsimp only
  rw [htype, if_neg (by omega), if_pos rfl, if_pos hport]

/-- An unused logical port is none (R233). -/
theorem toLport_unused {d g hash l nh replica : Nat} (htype : bits (s.tbl (s.liveFor 0x40 g) 0x40 l) 127 126 = 0) :
    s.toLport d g hash l nh replica = .none_ (s.bump Od.tmBadDest (dieInst d)) := by
  unfold State.toLport
  dsimp only
  rw [htype, if_pos (.inr rfl)]

/-- An ECMP group whose member is bad is none (R169). -/
theorem toEcmp_bad {d g hash grp replica : Nat} (h : s.ecmpMember g hash grp = none) : s.toEcmp d g hash grp replica = .none_ (s.bump Od.ecmpBadMember) := by
  unfold State.toEcmp
  rw [h]

/-- A next hop of KIND DROP drops (R159). -/
theorem toNexthop_drop {d g hash nh replica : Nat} (h : bits (s.nextHop (s.liveFor 0x4A g) nh) 127 126 = 2) :
    s.toNexthop d g hash nh replica = .none_ s := by
  unfold State.toNexthop
  dsimp only
  rw [h]
  rfl

section
variable (hm : k.mirror = none) (hlog : k.log = [])
include hm hlog

theorem tmEnqueue_port (hkind : hvKind k.hv = 1) (hdest : hvDest k.hv < 4096) : s.tmEnqueue p k =
    s.toFound p k (s.flowHash k.hv) (s.toLport k.die (hvGen k.hv) (s.flowHash k.hv) (hvDest k.hv) 0 0) 0 0 := by
  have hbit : bitOf (hvDest k.hv) 27 = false := by simp [bitOf]; omega
  have hbits : bits (hvDest k.hv) 26 12 = 0 := by simp [bits]; omega
  unfold State.tmEnqueue
  dsimp only
  rw [hm, sideCopies_none hlog, hlog, hkind, hbit, hbits]
  rfl

theorem tmEnqueue_none (hkind : hvKind k.hv = 0) : s.tmEnqueue p k = (s.bump Od.tmBadDest (dieInst k.die)).dropPacket p k := by
  unfold State.tmEnqueue
  dsimp only
  rw [hm, sideCopies_none hlog, hlog, hkind]
  exact leaveToMirrors_none ..

theorem tmEnqueue_punt (hkind : hvKind k.hv = 5) : s.tmEnqueue p k = s.puntEnqueued p k (bits k.hv 599 592) 0 := by
  unfold State.tmEnqueue
  dsimp only
  rw [hm, sideCopies_none hlog, hlog, hkind]
  rfl

theorem tmEnqueue_drop (hkind : hvKind k.hv = 6) : s.tmEnqueue p k = s.dropPacket p k := by
  unfold State.tmEnqueue
  dsimp only
  rw [hm, sideCopies_none hlog, hlog, hkind]
  exact leaveToMirrors_none ..

theorem tmEnqueue_ecmp (hkind : hvKind k.hv = 2) (hdest : hvDest k.hv < 16384) : s.tmEnqueue p k =
    s.toFound p k (s.flowHash k.hv) (s.toEcmp k.die (hvGen k.hv) (s.flowHash k.hv) (hvDest k.hv) 0) 0 0 := by
  have hbits : bits (hvDest k.hv) 27 14 = 0 := by simp [bits]; omega
  unfold State.tmEnqueue
  dsimp only
  rw [hm, sideCopies_none hlog, hlog, hkind, hbits]
  rfl

/-- A replication group that is not valid drops its packet (R243). -/
theorem tmEnqueue_noGroup {grp : Nat} (hkind : hvKind k.hv = 3) (hdest : hvDest k.hv < 65535)
    (hgrp : s.replGroup? s.rewriteBank (hvDest k.hv) = some grp) (hvalid : bitOf grp 255 = false) : s.tmEnqueue p k = s.dropPacket p k := by
  have hbits : bits (hvDest k.hv) 27 16 = 0 := by simp [bits]; omega
  have hmask : ¬ (0 ≠ 0 ∨ hvDest k.hv = 0xFFFF) := by omega
  unfold State.tmEnqueue
  dsimp only
  rw [hm, sideCopies_none hlog, hlog, hkind, hbits]
  dsimp only
  rw [hgrp]
  refine (if_neg (by decide)).trans ((if_neg (by decide)).trans ((if_neg (by decide)).trans ((if_neg hmask).trans ((if_pos hvalid).trans ?_))))
  exact leaveToMirrors_none ..

/-- A placement without copies has a bad destination (R186). -/
theorem tmEnqueue_noCopies (hkind : hvKind k.hv = 4) (hcount : bits (hvDest k.hv) 22 18 = 0) :
    s.tmEnqueue p k = (s.bump Od.tmBadDest (dieInst k.die)).dropPacket p k := by
  unfold State.tmEnqueue
  dsimp only
  rw [hm, sideCopies_none hlog, hlog, hkind, hcount]
  refine (if_neg (by decide)).trans ((if_neg (by decide)).trans ((if_neg (by decide)).trans ((if_pos (.inr (.inl rfl))).trans ?_)))
  exact leaveToMirrors_none ..
end

/-- The last fate of a log of one operation is that operation's (R249). -/
theorem tmEnqueue_one {o : LogOp} (hm : k.mirror = none) (hlog : k.log = [o]) : 
    (o = .drop → s.tmEnqueue p k = s.dropPacket p k) ∧ (∀ r, o = .punt r → s.tmEnqueue p k = s.puntEnqueued p k r 0) ∧
      (∀ q, o = .recirc q → s.tmEnqueue p k = s.recirc p k q 0) := by
  refine ⟨?_, ?_, ?_⟩
  · rintro rfl
    unfold State.tmEnqueue
    dsimp only
    rw [hm, sideCopies_one hlog (.inl rfl), hlog]
    exact leaveToMirrors_none ..
  · rintro r rfl
    unfold State.tmEnqueue
    dsimp only
    rw [hm, sideCopies_one hlog (.inr (.inl ⟨r, rfl⟩)), hlog]
    rfl
  · rintro q rfl
    unfold State.tmEnqueue
    dsimp only
    rw [hm, sideCopies_one hlog (.inr (.inr ⟨q, rfl⟩)), hlog]
    rfl

/-- A mirror copy goes to its session's next hop (R252). -/
theorem tmEnqueue_mirror {sess : Nat} (hm : k.mirror = some sess) : s.tmEnqueue p k = s.toFound p k (bits k.hv 699 668)
    (s.toNexthop k.die (hvGen k.hv) (bits k.hv 699 668) (bits (s.tbl s.rewriteBank 0x57 sess) 102 85) 0) 3 0 := by
  unfold State.tmEnqueue
  rw [hm]
end

/-- Settles O40: each clause is the fate that the log or the HV gives the packet. -/
theorem enqueueRow : Obligations.EnqueueRow := by
  unfold Obligations.EnqueueRow
  intro s p k hst hk
  have run : k.stage = .left → ∀ t, s.tmEnqueue p k = t → exec (.tmEnqueue p) s = .next t := fun hstage t ht =>
    (withPacket_live hst hk (decide_eq_true hstage) _).trans (congrArg _ ht)
  refine ⟨fun hstage => withPacket_other hst hk (decide_eq_false hstage) _,
    fun hstage hm => ⟨fun hlog dest l r hdest hl hr => ?plain, fun hlog => ?drop, fun reason hlog => ?punt, fun profile hlog => ?recirc⟩,
    fun hstage sess hm hhop => ?mirror⟩
  case plain =>
    subst hdest hl hr
    refine ⟨fun hkind hd htype hport => run hstage _ ?_, fun hkind hd htype => run hstage _ ?_, fun hkind => run hstage _ (tmEnqueue_none hm hlog hkind),
      fun hkind => run hstage _ (tmEnqueue_punt hm hlog hkind), fun hkind => run hstage _ (tmEnqueue_drop hm hlog hkind),
      fun hkind hd hbad => run hstage _ ?_, fun grp hkind hd hgrp hvalid => run hstage _ (tmEnqueue_noGroup hm hlog hkind hd hgrp hvalid),
      fun hkind hcount => run hstage _ (tmEnqueue_noCopies hm hlog hkind hcount)⟩
    · have hlt : hvDest k.hv < 4096 := by omega
      rw [Nat.mod_eq_of_lt hlt] at htype hport ⊢
      rw [tmEnqueue_port hm hlog hkind hlt, toLport_port hlt htype hport]
      exact toFound_target _ _ _ rfl rfl
    · have hlt : hvDest k.hv < 4096 := by omega
      rw [Nat.mod_eq_of_lt hlt] at htype
      rw [tmEnqueue_port hm hlog hkind hlt, toLport_unused htype]
      exact toFound_drop _ _ rfl
    · rw [tmEnqueue_ecmp hm hlog hkind (by omega), toEcmp_bad hbad]
      exact toFound_drop _ _ rfl
  case drop => exact run hstage _ ((tmEnqueue_one hm hlog).1 rfl)
  case punt => exact run hstage _ ((tmEnqueue_one hm hlog).2.1 reason rfl)
  case recirc =>
    have hrecirc := (tmEnqueue_one (s := s) (p := p) hm hlog).2.2 profile rfl
    refine ⟨fun hpass => run hstage _ (hrecirc.trans (recirc_limit hpass _ _)),
      fun hpass hage => run hstage _ (hrecirc.trans ((recirc_late hpass hage _ _).trans (leaveToMirrors_none ..))),
      fun hpass hage h1 h3 => run hstage _ (hrecirc.trans ((recirc_noPath hpass hage ?_ _ _).trans (leaveToMirrors_none ..)))⟩
    simp [State.loopShare, h1, h3]
  case mirror =>
    refine run hstage _ ?_
    rw [tmEnqueue_mirror hm, toNexthop_drop hhop]
    exact toFound_drop _ _ rfl

end Sys2Proof.Machine
end

section
namespace Sys2Proof.Machine

/-! Request and grant. -/

section
variable {s : State}

/-- A step of a copy that stands at the step's stage. -/
theorem withCopy_live {i : Nat} {c : Copy} {ok : Copy → Bool} (hst : s.stopped = false) (hc : s.copy? i = some c) (hok : ok c = true)
    (f : Copy → State) : withCopy s i ok f = .next (f c) := by
  unfold withCopy
  rw [hc]
  exact (running_live hst _).trans (congrArg _ (if_pos hok))

/-- There is no such step for a copy at another stage. -/
theorem withCopy_other {i : Nat} {c : Copy} {ok : Copy → Bool} (hst : s.stopped = false) (hc : s.copy? i = some c) (hok : ok c = false)
    (f : Copy → State) : withCopy s i ok f = .next s := by
  unfold withCopy
  rw [hc]
  exact (running_live hst _).trans (congrArg _ (if_neg (by rw [hok]; decide)))

/-- A request of a part's die is kept at its port class or at the replication admission (R277, R281). -/
theorem exec_request {d : Nat} (hst : s.stopped = false) (hd : s.hasDie d = true) (source v cells : Nat) : exec (.request d source v cells) s =
    .next (if v < 4096 then s.setRequests v (s.requestsAt v ++ [(source, v, cells)])
      else s.setFanRequests d (s.fanRequestsAt d ++ [(source, v, cells)])) :=
  withDie_live hd hst _

/-- The arbiter of a port class. -/
theorem exec_arbiterGrant {v : Nat} (hst : s.stopped = false) (hv : v < 4096) (hd : s.hasDie (v / 8 / 64) = true) :
    exec (.arbiterGrant v) s = .next (s.arbitrate v) :=
  (if_pos hv).trans (withLane_live (by omega) hd hst)

/-- The arbiter of the replication admission of a die. -/
theorem exec_arbiterGrant_fan {v : Nat} (hst : s.stopped = false) (hv : 4096 ≤ v) (hd : s.hasDie ((v - 4096) / 8) = true) {q : Nat × Nat × Nat}
    {rest : List (Nat × Nat × Nat)} (hl : s.fanRequestsAt ((v - 4096) / 8) = q :: rest) : exec (.arbiterGrant v) s =
      .next (if s.fanHeld ((v - 4096) / 8) < s.rd Od.replCellLimit then (s.setFanRequests ((v - 4096) / 8) rest).giveGrant ((v - 4096) / 8) q else s) := by
  refine (if_neg (by omega)).trans ((withDie_live hd hst _).trans (congrArg _ ?_))
  rw [hl]

theorem arbitrate_none {v : Nat} (hl : s.requestsAt v = []) : s.arbitrate v = s := by
  unfold State.arbitrate
  dsimp only
  rw [hl]

/-- The die whose turn it is where one die alone asks and is not in deficit (R277). -/
theorem deficitTurn_only {pc d : Nat} {dies : List Nat} (hd : d ∈ dies) (hall : ∀ e ∈ dies, e = d) (hdef : 0 < s.deficit pc d) (fuel : Nat) :
    s.deficitTurn pc dies (fuel + 1) = (s, some d) := by
  unfold State.deficitTurn
  have hfind : dies.find? (fun d => decide (0 < s.deficit pc d)) = some d := by
    cases dies with
    | nil => exact absurd hd (by simp)
    | cons e rest =>
      obtain rfl := hall e (by simp)
      exact List.find?_cons_of_pos (by simpa using hdef)
  rw [hfind]

section
variable {v : Nat} {q : Nat × Nat × Nat} {rest : List (Nat × Nat × Nat)} (hl : s.requestsAt v = q :: rest)
include hl

theorem arbitrate_drains (hp : s.portStateOf (v / 8) = 4 ∨ s.portStateOf (v / 8) = 5) : s.arbitrate v = s := by
  unfold State.arbitrate
  dsimp only
  rw [hl]
  exact if_pos hp

/-- At a port that is down a request is granted at once (R280). -/
theorem arbitrate_down (h2 : s.portStateOf (v / 8) ≠ 2) (h4 : s.portStateOf (v / 8) ≠ 4) (h5 : s.portStateOf (v / 8) ≠ 5) :
    s.arbitrate v = ((s.setRequests v rest).setInFlight v (s.inFlight v + q.2.2)).giveGrant (v / 8 / 64) q := by
  unfold State.arbitrate
  dsimp only
  rw [hl]
  exact (if_neg (not_or.mpr ⟨h4, h5⟩)).trans (if_pos (.inl h2))

theorem arbitrate_full (h2 : s.portStateOf (v / 8) = 2) (hstorm : s.inStorm v = false)
    (hwin : s.txWindow (v / 8) ≤ s.txCells v + s.inFlight v) : s.arbitrate v = s := by
  unfold State.arbitrate
  dsimp only
  rw [hl]
  exact (if_neg (by omega)).trans ((if_neg (by simp [h2, hstorm])).trans (if_neg (by omega)))

/-- Below the window of an UP port the only die that asks is granted its first request (R277). -/
theorem arbitrate_grants (h2 : s.portStateOf (v / 8) = 2) (hstorm : s.inStorm v = false) (hwin : s.txCells v + s.inFlight v < s.txWindow (v / 8))
    (honly : ∀ r ∈ rest, r.1 = q.1) (hd : q.1 ∈ s.part.dies) (hdef : 0 < s.deficit v q.1) : s.arbitrate v =
      (((s.setDeficit v q.1 (s.deficit v q.1 - q.2.2)).setRequests v rest).setInFlight v (s.inFlight v + q.2.2)).giveGrant (v / 8 / 64) q := by
  have hturn : s.deficitTurn v (s.part.dies.filter fun e => (q :: rest).any fun r => r.1 = e) 4 = (s, some q.1) := by
    refine deficitTurn_only (List.mem_filter.mpr ⟨hd, by simp⟩) (fun e he => ?_) hdef 3
    obtain ⟨r, hr, hre⟩ := List.any_eq_true.mp (List.mem_filter.mp he).2
    obtain rfl | hrest := List.mem_cons.mp hr
    · exact (of_decide_eq_true hre).symm
    · exact (of_decide_eq_true hre).symm.trans (honly r hrest)
  unfold State.arbitrate
  dsimp only
  rw [hl]
  refine (if_neg (by omega)).trans ((if_neg (by simp [h2, hstorm])).trans ((if_pos hwin).trans ?_))
  rw [hturn]
  simp only [Option.bind_some, List.find?_cons, decide_true, List.erase_cons_head]
end

/-- The packets of a queue that has no request out are not sent. -/
theorem grant_none {d v : Nat} (hst : s.stopped = false) (hd : s.hasDie d = true) (h : ∀ i ∈ s.queueOf d v, ∀ c, s.copy? i = some c → c.stage ≠ .requested) :
    exec (.grant d v) s = .next s := by
  refine (withDie_live hd hst _).trans (congrArg _ ?_)
  dsimp only
  rw [List.find?_eq_none.mpr]
  intro i hi
  cases hc : s.copy? i with
  | none => simp
  | some c => simpa using h i hi c hc

/-- The only packet of a queue that has a request out is sent (R277). -/
theorem grant_only {d v i : Nat} {c : Copy} (hst : s.stopped = false) (hd : s.hasDie d = true) (hq : s.queueOf d v = [i]) (hc : s.copy? i = some c)
    (hstage : c.stage = .requested) : exec (.grant d v) s =
      .next (((((s.setQueue d v []).sendCells i c).pumpRequests d v 16).noteReturn d v).joinStaged d v 1) := by
  have hfind : [i].find? (fun i => (s.copy? i).any fun c => c.stage = .requested) = some i := List.find?_cons_of_pos (by simp [hc, hstage])
  have hleft : [i].filter (· ≠ i) = [] := by simp
  refine (withDie_live hd hst _).trans (congrArg _ ?_)
  dsimp only
  rw [hq, hfind]
  dsimp only
  rw [hc, hleft]
  rfl
end

/-- Settles O41: the branch of the request, the arbiter, the grant or the arrival. -/
theorem grantRows : Obligations.GrantRows := by
  unfold Obligations.GrantRows
  intro s hst
  refine ⟨fun d source v cells hd => ⟨fun hv => ?_, fun hv => ?_⟩, fun v q rest hv hd hl => ?arbiter,
    fun v hv hd hl => (exec_arbiterGrant hst hv hd).trans (congrArg _ (arbitrate_none hl)),
    fun v q rest hv hd hl => ?fan, fun d v hd => ⟨grant_none hst hd, fun i c hq hc hstage => grant_only hst hd hq hc hstage⟩,
    fun d n cells hd => withDie_live hd hst _, fun i c hc hfan hstage t l hl => ?arrival⟩
  · exact (exec_request hst hd source v cells).trans (congrArg _ (if_pos hv))
  · exact (exec_request hst hd source v cells).trans (congrArg _ (if_neg (by omega)))
  case arbiter =>
    have run := fun t (h : s.arbitrate v = t) => (exec_arbiterGrant hst hv hd).trans (congrArg Host.Outcome.next h)
    exact ⟨fun hp => run _ (arbitrate_drains hl hp), fun h2 h4 h5 => run _ (arbitrate_down hl h2 h4 h5),
      fun h2 hstorm hwin => run _ (arbitrate_full hl h2 hstorm hwin),
      fun h2 hstorm hwin honly hin hdef => run _ (arbitrate_grants hl h2 hstorm hwin honly hin hdef)⟩
  case fan =>
    have hexec := exec_arbiterGrant_fan hst hv hd hl
    exact ⟨fun hlt => hexec.trans (congrArg _ (if_pos hlt)), fun hle => hexec.trans (congrArg _ (if_neg (by omega)))⟩
  case arrival =>
    have hexec := withCopy_live (ok := fun c => c.isFan && c.stage = .arrived) hst hc (by simp [hfan, hstage])
      fun c => let x := s.portCopies c 0
        if x.2 = [] then x.1.endCopy i { c with last := true } else { x.1 with tm := { x.1.tm with copies := sparseErase x.1.tm.copies i } }
    dsimp only at hexec
    rw [hl] at hexec
    exact ⟨fun hnil => hexec.trans (congrArg _ (if_pos hnil)), fun hne => hexec.trans (congrArg _ (if_neg hne))⟩

end Sys2Proof.Machine
end

section
namespace Sys2Proof.Machine

/-! Egress entry and rewriting. -/

/-- A field that is written stands between what is above it and what is below it. -/
theorem putBits_eq_parts {hi lo : Nat} (n v : Nat) (hlo : lo ≤ hi) :
    putBits n hi lo v = (n / 2 ^ (hi + 1) * 2 ^ (hi + 1 - lo) + low (hi + 1 - lo) v) * 2 ^ lo + n % 2 ^ lo := by
  have hpow : 2 ^ (hi + 1) = 2 ^ lo * 2 ^ (hi + 1 - lo) := by
    rw [← Nat.pow_add]
    congr 1
    omega
  have h1 : n / 2 ^ lo / 2 ^ (hi + 1 - lo) * 2 ^ (hi + 1 - lo) + bits n hi lo = n / 2 ^ lo := by
    rw [Nat.mul_comm]
    exact Nat.div_add_mod ..
  have h2 : n / 2 ^ lo * 2 ^ lo + n % 2 ^ lo = n := by
    rw [Nat.mul_comm]
    exact Nat.div_add_mod ..
  rw [Nat.div_div_eq_div_mul, ← hpow] at h1
  have hsplit : (n / 2 ^ (hi + 1) * 2 ^ (hi + 1 - lo)) * 2 ^ lo + bits n hi lo * 2 ^ lo + n % 2 ^ lo = n := by
    rw [← Nat.add_mul, h1, h2]
  unfold putBits
  rw [Nat.add_mul]
  omega

/-- Fields above the one that is written stand. -/
theorem putBits_div_above {hi lo m : Nat} (n v : Nat) (hlo : lo ≤ hi) (hm : hi < m) : putBits n hi lo v / 2 ^ m = n / 2 ^ m := by
  have hfield : low (hi + 1 - lo) v < 2 ^ (hi + 1 - lo) := Nat.mod_lt _ (Nat.two_pow_pos _)
  have hbelow : n % 2 ^ lo < 2 ^ lo := Nat.mod_lt _ (Nat.two_pow_pos _)
  have hm' : 2 ^ m = 2 ^ lo * 2 ^ (hi + 1 - lo) * 2 ^ (m - (hi + 1)) := by
    rw [← Nat.pow_add, ← Nat.pow_add]
    congr 1
    omega
  have htop : 2 ^ (hi + 1) = 2 ^ lo * 2 ^ (hi + 1 - lo) := by
    rw [← Nat.pow_add]
    congr 1
    omega
  rw [hm', ← Nat.div_div_eq_div_mul, ← Nat.div_div_eq_div_mul, ← Nat.div_div_eq_div_mul, putBits_eq_parts n v hlo, Nat.mul_comm _ (2 ^ lo),
    Nat.mul_add_div (Nat.two_pow_pos _), Nat.div_eq_of_lt hbelow, Nat.add_zero, Nat.mul_comm _ (2 ^ (hi + 1 - lo)), Nat.mul_add_div (Nat.two_pow_pos _),
    Nat.div_eq_of_lt hfield, Nat.add_zero, htop, ← Nat.div_div_eq_div_mul]

/-- The field that is written. -/
theorem bits_putBits_same {hi lo : Nat} (n v : Nat) (hlo : lo ≤ hi) : bits (putBits n hi lo v) hi lo = low (hi + 1 - lo) v := by
  have hfield : low (hi + 1 - lo) v < 2 ^ (hi + 1 - lo) := Nat.mod_lt _ (Nat.two_pow_pos _)
  have hbelow : n % 2 ^ lo < 2 ^ lo := Nat.mod_lt _ (Nat.two_pow_pos _)
  unfold bits
  rw [putBits_eq_parts n v hlo, Nat.mul_comm _ (2 ^ lo), Nat.mul_add_div (Nat.two_pow_pos _), Nat.div_eq_of_lt hbelow, Nat.add_zero,
    Nat.mul_comm _ (2 ^ (hi + 1 - lo)), Nat.mul_add_mod, Nat.mod_eq_of_lt hfield]

theorem bits_putBits_above {hi lo hi' lo' : Nat} (n v : Nat) (hlo : lo ≤ hi) (h : hi < lo') : bits (putBits n hi lo v) hi' lo' = bits n hi' lo' := by
  unfold bits
  rw [putBits_div_above n v hlo h]

section
variable {s : State} {i : Nat} {c : Copy}

/-- A copy arrives at an engine with a free thread (R236). -/
theorem exec_egressEntry (hst : s.stopped = false) (hc : s.copy? i = some c) (hfan : c.isFan = false) (hstage : c.stage = .arrived)
    (hfree : s.threadsBusy (s.egressPipe c) true = false) : exec (.egressEntry i) s = .next (s.egressEntry i c) :=
  withCopy_live hst hc (by simp [hfan, hstage, hfree]) _

/-- The stages of a copy whose logical port is good, whose EGRESS_VLAN has no entry and whose port has no rule set (R158). -/
theorem egressStages_plain {d hv : Nat} (hrow : s.rowBad d 0x40 (rowIndex (c.bank 0) (bits hv 787 776)) = false)
    (hlook : s.hashLookup d 0x41 (c.bank 4) (27, 2 ^ 26 + bits hv 787 776 * 2 ^ 14 + bits hv 757 744) = (none, none)) (hset : 12 ≤ c.bank 6) :
    s.egressStages d c hv = (s, putHit hv 16, bits (bits hv 757 744) 11 0, false) := by
  have hsearch : s.egressSearch d c (putHit hv 16) = (s, putHit hv 16, false) := if_pos (.inl hset)
  unfold State.egressStages
  dsimp only
  rw [hrow, hlook]
  dsimp only
  rw [hsearch]
  rfl

/-- The NEXTHOP of a copy with an empty rewrite list is that of its HV (R240). -/
theorem hopAfter_nil (hv : Nat) : hopAfter hv [] = bits hv 775 758 := rfl

/-- A copy as it enters its pipeline (R236). -/
def Copy.entered (c : Copy) (pipe hv hv0 : Nat) (banks : List Nat) (vid mtu : Nat) : Copy :=
  { c with stage := .egress, banks := banks, vid := vid, mtu := mtu, k := { c.k with stage := .ready, pipe := pipe, hv := hv, hv0 := hv0 } }

theorem putFields_two (hv hi lo v hi' lo' v' : Nat) : putFields hv [(hi, lo, v), (hi', lo', v')] = putBits (putBits hv hi lo v) hi' lo' v' := rfl

/-- A copy without a next hop enters its pipeline with the banks and the rule set then live, its VID and its port's EGRESS_MTU (R236). -/
theorem egressEntry_enters (hstage : c.stage = .arrived) (hlist : hvEntries c.k.hv = []) (hhop : bits c.k.hv 775 758 = 0) {hv0 : Nat}
    (hhv : hv0 = putFields c.k.hv [(775, 758, 0), (757, 744, bits c.k.hv 757 744)])
    (hrow : s.rowBad (c.port / 64) 0x40 (rowIndex (s.fam 0x40).live (bits hv0 787 776)) = false)
    (hlook : s.hashLookup (c.port / 64) 0x41 (s.fam 0x41).live (27, 2 ^ 26 + bits hv0 787 776 * 2 ^ 14 + bits hv0 757 744) = (none, none))
    (hset : 12 ≤ s.rd Od.egressAsaSet (portInst (bits hv0 799 791))) : s.egressEntry i c = s.setCopy i
      { c with stage := .egress, mtu := s.rd Od.egressMtu (portInst c.port),
               vid := if s.rd Od.egressTagging (portInst c.port) = 1 then bits (bits hv0 757 744) 11 0 else 0,
               banks := [0x40, 0x54, 0x4A, 0x201, 0x41, 0x42].map (fun f => (s.fam f).live) ++ s.egressSet c.port,
               k := { c.k with stage := .ready, pipe := c.port / 64 * 16 + s.pipeOf (c.port / 64) true (c.port % 64 / 8), hv := putHit hv0 16, hv0 := hv0 } } := by
  have hport : bits hv0 799 791 = c.port := by
    rw [hhv, putFields_two, bits_putBits_above _ _ (by decide) (by decide), bits_putBits_above _ _ (by decide) (by decide), Copy.port]
  rw [hport] at hset
  unfold State.egressEntry
  extract_lets n d first pipe c0 nh bd hv1 x tagged src c1 s1
  have hnh : nh = 0 := by
    show hopAfter c.k.hv (hvEntries c.k.hv) = 0
    rw [hlist, hopAfter_nil, hhop]
  have hbd : bd = bits c.k.hv 757 744 := if_pos hnh
  have hhv1 : hv1 = hv0 := (congr (congrArg (fun a b => putFields c.k.hv [(775, 758, a), (757, 744, b)]) hnh) hbd).trans hhv.symm
  have hbanks : c0.banks = s.entryBanks n := if_pos hstage
  obtain ⟨hbank0, hbank4, hbank6⟩ : c0.bank 0 = (s.fam 0x40).live ∧ c0.bank 4 = (s.fam 0x41).live ∧ c0.bank 6 = s.rd Od.egressAsaSet (portInst n) := by
    simp only [Copy.bank, hbanks, State.entryBanks, State.egressSet, List.cons_append, List.nil_append, List.getD_cons_zero, List.getD_cons_succ, and_self]
  have hx : x = (s, putHit hv0 16, bits (bits hv0 757 744) 11 0, false) := by
    show s.egressStages d c0 hv1 = _
    rw [hhv1]
    refine egressStages_plain ?_ ?_ ?_
    · rw [hbank0]
      exact hrow
    · rw [hbank4]
      exact hlook
    · rw [hbank6]
      exact hset
  have hpipe : pipe = c.port / 64 * 16 + s.pipeOf (c.port / 64) true (c.port % 64 / 8) := if_pos hstage
  have hmtu : c0.mtu = s.rd Od.egressMtu (portInst n) := if_pos hstage
  have hvid : (if tagged = true then x.2.2.1 else 0) = if s.rd Od.egressTagging (portInst n) = 1 then bits (bits hv0 757 744) 11 0 else 0 := by
    rw [hx]
    simp only [tagged, decide_eq_true_eq]
  have hc1 : c1 = c.entered pipe x.2.1 hv1 c0.banks (if tagged = true then x.2.2.1 else 0) c0.mtu := rfl
  have hhit : x.2.1 = putHit hv0 16 := congrArg (·.2.1) hx
  rw [hpipe, hhit, hhv1, hbanks, hvid, hmtu] at hc1
  have hs1 : s1 = s.setCopy i c1 := congrArg (fun y => State.setCopy y.1 i c1) hx
  have hpunt : ¬ x.2.2.2 = true := by
    rw [hx]
    exact Bool.false_ne_true
  clear_value x pipe
  exact (if_neg hpunt).trans (hs1.trans (congrArg _ hc1))

/-! The rewrite of a copy. -/

/-- A copy whose log has no host copy and no mirror copy leaves none. -/
theorem egressSide_none (made : Option (List Byte)) (hlog : c.k.log = []) : s.egressSide c made = s := by
  unfold State.egressSide
  rw [hlog]
  rfl

theorem egressSide_one {o : LogOp} (made : Option (List Byte)) (hlog : c.k.log = [o]) (ho : o = .drop ∨ (∃ r, o = .punt r) ∨ ∃ q, o = .recirc q) :
    s.egressSide c made = s := by
  unfold State.egressSide
  rw [hlog]
  obtain rfl | ⟨r, rfl⟩ | ⟨q, rfl⟩ := ho
  · rfl
  · rfl
  · rfl

/-- A copy that has left its engine is rewritten (R236). -/
theorem exec_rewriteCopy (hst : s.stopped = false) (hc : s.copy? i = some c) (hstage : c.stage = .egress) (hleft : c.k.stage = .left) :
    exec (.rewriteCopy i) s = .next (s.rewriteStep i c) :=
  withCopy_live hst hc (by simp [hstage, hleft]) _

/-- The fate of a copy with a log of one operation (R249). -/
theorem rewriteStep_one {o : LogOp} (hlog : c.k.log = [o]) : (∀ q, o = .recirc q → s.rewriteStep i c = s.dropEgress i c Od.egressRecircDrop) ∧
    (o = .drop → s.rewriteStep i c = s.dropEgress i c Od.egressDrops) ∧ (∀ r, o = .punt r → s.rewriteStep i c = s.puntEgress i c r) := by
  refine ⟨?_, ?_, ?_⟩
  · rintro q rfl
    unfold State.rewriteStep
    dsimp only
    rw [egressSide_one _ hlog (.inr (.inr ⟨q, rfl⟩)), hlog]
    exact if_pos rfl
  · rintro rfl
    unfold State.rewriteStep
    dsimp only
    rw [egressSide_one _ hlog (.inl rfl), hlog]
    exact (if_neg (by decide)).trans (if_pos rfl)
  · rintro r rfl
    have h3 : ¬ (fateOf [.punt r]).1 = 3 := fun h => absurd (show 2 = 3 from h) (by decide)
    have h1 : ¬ (fateOf [.punt r]).1 = 1 := fun h => absurd (show 2 = 1 from h) (by decide)
    unfold State.rewriteStep
    dsimp only
    rw [egressSide_one _ hlog (.inr (.inl ⟨r, rfl⟩)), hlog]
    exact (if_neg h3).trans ((if_neg h1).trans (if_pos rfl))

section
variable (hlog : c.k.log = [])
include hlog

/-- The fate of a copy without a log follows its HV. -/
theorem rewriteStep_drop (hkind : hvKind c.k.hv = 6) : s.rewriteStep i c = s.dropEgress i c Od.egressDrops := by
  unfold State.rewriteStep
  dsimp only
  rw [egressSide_none _ hlog, hlog]
  exact (if_neg (by decide)).trans ((if_neg (by decide)).trans ((if_neg (by decide)).trans (if_pos hkind)))

theorem rewriteStep_punt (hkind : hvKind c.k.hv = 5) : s.rewriteStep i c = s.puntEgress i c (bits c.k.hv 599 592) := by
  unfold State.rewriteStep
  dsimp only
  rw [egressSide_none _ hlog, hlog]
  exact (if_neg (by decide)).trans ((if_neg (by decide)).trans ((if_neg (by decide)).trans ((if_neg (by omega)).trans (if_pos hkind))))

theorem rewriteStep_badDest (h0 : hvKind c.k.hv ≠ 0) (h5 : hvKind c.k.hv ≠ 5) (h6 : hvKind c.k.hv ≠ 6) :
    s.rewriteStep i c = s.dropEgress i c Od.egressBadDest := by
  unfold State.rewriteStep
  dsimp only
  rw [egressSide_none _ hlog, hlog]
  exact (if_neg (by decide)).trans ((if_neg (by decide)).trans ((if_neg (by decide)).trans ((if_neg h6).trans ((if_neg h5).trans (if_pos h0)))))

theorem rewriteStep_bad (h0 : hvKind c.k.hv = 0) (hmade : s.rewriteJob c = .bad) : s.rewriteStep i c = s.dropEgress i c Od.rewriteBadRecord := by
  unfold State.rewriteStep
  dsimp only
  rw [egressSide_none _ hlog, hlog, hmade]
  exact (if_neg (by decide)).trans ((if_neg (by decide)).trans ((if_neg (by decide)).trans ((if_neg (by omega)).trans ((if_neg (by omega)).trans
    (if_neg (by omega))))))

/-- An output that nothing was trimmed from is queued, or dropped beyond the MTU (R242). -/
theorem rewriteStep_made (h0 : hvKind c.k.hv = 0) {body : List Byte} (hmade : s.rewriteJob c = .made body 0) : s.rewriteStep i c =
    if c.k.ended = true ∧ min 10240 c.mtu < body.length + 4 then s.dropEgress i c Od.rewriteMtuDrop
    else (s.setCopy i { c with stage := .queued, out := body }).setTxQueue c.pc (s.txQueue c.pc ++ [i]) := by
  unfold State.rewriteStep
  dsimp only
  rw [egressSide_none _ hlog, hlog, hmade]
  exact (if_neg (by decide)).trans ((if_neg (by decide)).trans ((if_neg (by decide)).trans ((if_neg (by omega)).trans ((if_neg (by omega)).trans
    (if_neg (by omega))))))

/-- The job of a copy with an empty rewrite list and no next hop. -/
theorem rewriteJob_plain (hlist : hvEntries c.k.hv = []) (hhop : bits c.k.hv 775 758 = 0) : ∃ router encap, s.rewriteJob c =
    ({ body := c.k.frame.take (c.k.frame.length - 4), hv := c.k.hv, entries := [], hop := none, router := router, vid := c.vid, encap := encap } :
      RewriteJob).run := by
  unfold State.rewriteJob
  dsimp only
  rw [hlist, hlog, show emitsOf [] = [] from rfl, List.append_nil, hopAfter_nil, hhop, if_pos rfl]
  exact ⟨_, _, rfl⟩
end

/-- Without a next hop a header that needs a new Ethernet header cannot have one (R240). -/
theorem RewriteJob.run_bad {j : RewriteJob} {e : Nat} (hentries : j.entries = []) (hhop : j.hop = none) (he : (hvInstances j.hv).head? = some e)
    (hne : instType e ≠ 0x01) : j.run = .bad := by
  have hget : (hvInstances j.hv).getD 0 (0x01 * 2 ^ 24) = e := by
    rw [List.getD_eq_getElem?_getD, ← List.head?_eq_getElem?, he]
    rfl
  unfold RewriteJob.run
  simp only [hentries, List.filter_nil, List.map_nil, List.any_nil, Bool.false_eq_true, if_false, List.getLast?_nil, Option.getD_none, hget]
  exact if_pos ⟨eq_false hne, .inr hhop⟩

/-- Without a next hop and a list an Ethernet frame without tags leaves as it is (R240). -/
theorem RewriteJob.run_same {j : RewriteJob} (hentries : j.entries = []) (hhop : j.hop = none) (hl3 : hvL3End j.hv = 0)
    (hfirst : instType ((hvInstances j.hv).getD 0 (0x01 * 2 ^ 24)) = 0x01) (hvid : j.vid = 0) (htag : isTpid (beNat (slice j.body 12 2)) = false) :
    j.run = .made j.body 0 := by
  have houter : j.outerHop = none := by
    unfold RewriteJob.outerHop
    rw [hhop, ite_self]
  have hstrip : stripTags j.body j.body.length = j.body := by
    cases hn : j.body.length with
    | zero => rfl
    | succ n =>
      unfold stripTags
      rw [htag]
      rfl
  have hlayer : j.layer2 j.body = j.body := by
    unfold RewriteJob.layer2
    dsimp only
    rw [houter, hstrip, if_pos hvid]
  unfold RewriteJob.run
  simp only [hentries, List.filter_nil, List.map_nil, List.any_nil, Bool.false_eq_true, if_false, List.getLast?_nil, Option.getD_none, hfirst, hhop, houter]
  simp [show bitOf 0 17 = false by decide, show bits 0 37 18 = 0 by decide, hl3, hlayer]
end

/-- Settles O42: the entry of a copy that finds a free thread, and the branch of the rewrite that its log, its HV or its size takes. -/
theorem egressRows : Obligations.EgressRows := by
  unfold Obligations.EgressRows
  intro s i c hst hc
  refine ⟨fun hfan hstage hbusy => withCopy_other hst hc (by simp [hstage, hbusy]) _,
    fun hfan hstage hfree hlist hhop n d bd hv0 hn hd hbd hhv hrow hlook hset => ?entry,
    fun hstage hnot => withCopy_other hst hc (by simp [hstage, hnot]) _, fun hstage hnot => withCopy_other hst hc (by simp [hstage, hnot]) _,
    fun hstage hleft => ?rewrite⟩
  case entry =>
    subst hd hn hbd
    exact (exec_egressEntry hst hc hfan hstage hfree).trans (congrArg _ (egressEntry_enters hstage hlist hhop hhv hrow hlook hset))
  case rewrite =>
    have run := fun t (h : s.rewriteStep i c = t) => (exec_rewriteCopy hst hc hstage hleft).trans (congrArg Host.Outcome.next h)
    refine ⟨fun q hlog => run _ ((rewriteStep_one hlog).1 q rfl), fun hlog => run _ ((rewriteStep_one hlog).2.1 rfl),
      fun reason hlog => run _ ((rewriteStep_one hlog).2.2 reason rfl), fun hlog => ⟨fun h6 => run _ (rewriteStep_drop hlog h6),
      fun h5 => run _ (rewriteStep_punt hlog h5), fun h0 h5 h6 => run _ (rewriteStep_badDest hlog h0 h5 h6), fun h0 hlist hhop => ?plain⟩⟩
    obtain ⟨router, encap, hjob⟩ := rewriteJob_plain hlog hlist hhop (s := s)
    refine ⟨fun e he htype hne => run _ (rewriteStep_bad hlog h0 (hjob.trans (RewriteJob.run_bad rfl rfl he hne))),
      fun hvid hl3 hfirst body hbody htag => ?_⟩
    have hmade : s.rewriteJob c = .made body 0 := by
      rw [hjob, hbody]
      exact RewriteJob.run_same rfl rfl hl3 hfirst hvid (by rw [← hbody]; exact htag)
    refine ⟨fun hfits => run _ ((rewriteStep_made hlog h0 hmade).trans (if_neg ?_)),
      fun hended hlong => run _ ((rewriteStep_made hlog h0 hmade).trans (if_pos ⟨hended, hlong⟩))⟩
    rintro ⟨hended, hlong⟩
    obtain hopen | hshort := hfits
    · exact absurd (hopen.symm.trans hended) (by decide)
    · omega

end Sys2Proof.Machine
end

section
namespace Sys2Proof.Machine

/-! The start and the end of a transmitted frame. -/

section
variable {s : State} {n : Nat}

/-- A port without a gate list has nothing to settle (R296). -/
theorem settleGate_none (hg : (s.gate n).length = 0) : s.settleGate n = s := if_pos hg

/-- With neither list nor swap every gate is open without end (R296). -/
theorem gateOpen_none (hg : (s.gate n).length = 0) (hswap : (s.gate n).swap = none) (t : Nat) : s.gateOpen n t = (true, none) := by
  have hlist : s.listOpen n t = none := if_pos hg
  unfold State.gateOpen
  dsimp only
  rw [hswap, hlist, hg]
  rfl

/-- A queue whose head is not bad keeps it (R111). -/
theorem dropBad_good {pc : Nat} (h : ∀ j l, s.txQueue pc = j :: l → ∃ x, s.copy? j = some x ∧ x.k.bad = false) (fuel : Nat) : s.dropBad pc fuel = s := by
  cases fuel with
  | zero => rfl
  | succ fuel =>
    unfold State.dropBad
    cases hq : s.txQueue pc with
    | nil => rfl
    | cons j l =>
      obtain ⟨x, hx, hgood⟩ := h j l hq
      dsimp only
      rw [hx]
      exact if_neg (by rw [hgood]; decide)

/-- A class without copies is not ready. -/
theorem classReady_empty {t : Nat} (hq : s.txQueue (n * 8 + t) = []) : s.classReady n t = (false, false) := by
  unfold State.classReady
  dsimp only
  rw [hq]
  rfl

/-- With every gate open no class is held back by the length of its period. -/
theorem classReady_open (hgate : ∀ t, s.gateOpen n t = (true, none)) (t : Nat) : (s.classReady n t).2 = false := by
  unfold State.classReady
  dsimp only
  split
  · rfl
  · rw [hgate]
    simp

/-- A class at whose head a stored copy stands, neither paused nor shaped, is ready (R293). -/
theorem classReady_head {t i : Nat} {rest : List Nat} {c : Copy} (hgate : s.gateOpen n t = (true, none)) (hq : s.txQueue (n * 8 + t) = i :: rest)
    (hc : s.copy? i = some c) (hstored : s.storedEnough n c = true) (hpause : s.paused (n * 8 + t) = false)
    (hshape : s.rd Od.shapeRate (portInst n) t = 0) : (s.classReady n t).1 = true := by
  have hhead : (s.txQueue (n * 8 + t)).head?.bind s.copy? = some c := by
    rw [hq]
    exact hc
  unfold State.classReady
  dsimp only
  rw [hhead, hgate]
  simp [hstored, hpause, hshape]

/-- The highest of some classes is the last of them. -/
theorem getLast?_filter_range {q : Nat → Bool} {t m : Nat} (ht : t < m) (hq : q t = true) (hhigh : ∀ u, u < m → t < u → q u = false) :
    ((List.range m).filter q).getLast? = some t := by
  induction m with
  | zero => omega
  | succ m ih =>
    rw [List.range_succ, List.filter_append]
    by_cases hm : t = m
    · subst hm
      simp [hq]
    · rw [show [m].filter q = [] by simp [hhigh m (by omega) (by omega)], List.append_nil]
      exact ih (by omega) fun u hu htu => hhigh u (by omega) htu

/-- The highest strict class that is ready is served (R293). -/
theorem pickClass_strict {q : Nat → Bool} {t : Nat} (ht : t < 8) (hq : q t = true) (hmode : s.rd Od.schedMode (portInst n) t = 0)
    (hhigh : ∀ u, u < 8 → t < u → q u = false) : s.pickClass n ((List.range 8).filter q) = (s, some t) := by
  have hlast : (((List.range 8).filter q).filter fun t => s.rd Od.schedMode (portInst n) t = 0).getLast? = some t := by
    rw [List.filter_filter]
    exact getLast?_filter_range ht (by simp [hq, hmode]) fun u hu htu => by simp [hhigh u hu htu]
  unfold State.pickClass
  rw [hlast]

/-- A copy of a strict class of a port without shapers begins (R293, R294). -/
theorem beginFrame_strict {t i : Nat} {rest : List Nat} {c : Copy} (ht : t < 8) (hq : s.txQueue (n * 8 + t) = i :: rest) (hc : s.copy? i = some c)
    (hshape : s.rd Od.shapeRate (portInst n) t = 0) (hport : s.rd Od.portShapeRate (portInst n) = 0) (hmode : s.rd Od.schedMode (portInst n) t = 0)
    {u : State} (hu : u = (s.setTxQueue (n * 8 + t) rest).setCopy i { c with stage := .sending, stamp := s.txStamp n, charged := c.wireLength }) :
    s.beginFrame n t = { u with tm := { u.tm with sending := sparsePut u.tm.sending n i } } := by
  have hcharge : u.chargeShapers (n * 8 + t) c.wireLength = u := by
    have hn : (n * 8 + t) / 8 = n := by omega
    have ht' : (n * 8 + t) % 8 = t := by omega
    have hregs : u.regs = s.regs := by
      rw [hu]
      rfl
    have hclass : u.rd Od.shapeRate (portInst n) t = 0 := (State.rd_congr hregs Od.shapeRate (portInst n) t).trans hshape
    have hall : u.rd Od.portShapeRate (portInst n) = 0 := (State.rd_congr hregs Od.portShapeRate (portInst n) 0).trans hport
    unfold State.chargeShapers
    dsimp only
    rw [hn, ht', if_pos hclass, if_pos hall]
  unfold State.beginFrame
  dsimp only
  rw [hq]
  dsimp only
  rw [hc]
  dsimp only
  rw [← hu, hcharge, if_pos hmode]

/-- A port that is free serves its highest strict class that has a copy (R293). -/
theorem frameStart_strict {t i : Nat} {rest : List Nat} {c : Copy} (ht : t < 8) (hfree : sparseFind? s.tm.sending n = none) (hup : s.portStateOf n = 2)
    (hg : (s.gate n).length = 0) (hswap : (s.gate n).swap = none) (hport : s.rd Od.portShapeRate (portInst n) = 0)
    (hq : s.txQueue (n * 8 + t) = i :: rest) (hc : s.copy? i = some c) (hstored : s.storedEnough n c = true) (hpause : s.paused (n * 8 + t) = false)
    (hshape : s.rd Od.shapeRate (portInst n) t = 0) (hmode : s.rd Od.schedMode (portInst n) t = 0)
    (hgood : ∀ u j l, u < 8 → s.txQueue (n * 8 + u) = j :: l → ∃ x, s.copy? j = some x ∧ x.k.bad = false)
    (hhigh : ∀ u, u < 8 → t < u → s.txQueue (n * 8 + u) = []) : s.frameStart n = s.beginFrame n t := by
  have hgate := gateOpen_none hg hswap
  have hdrop : (List.range 8).foldl (fun a t => a.dropBad (n * 8 + t) (a.txQueue (n * 8 + t)).length) s = s :=
    List.foldlRecOn (List.range 8) _ (motive := (· = s)) rfl fun a ha u hu => by
      rw [ha]
      exact dropBad_good (fun j l hl => hgood u j l (List.mem_range.mp hu) hl) _
  have hheld : (List.range 8).foldl (fun a t => if (s.classReady n t).2 then a.countHeld n t else a) s = s :=
    List.foldlRecOn (List.range 8) _ (motive := (· = s)) rfl fun a ha u _ => by
      rw [ha]
      exact if_neg (by rw [classReady_open hgate]; decide)
  have hpick := pickClass_strict (s := s) (n := n) (q := fun t => (s.classReady n t).1) ht
    (classReady_head (hgate t) hq hc hstored hpause hshape) hmode fun u hu htu => by rw [classReady_empty (hhigh u hu htu)]
  unfold State.frameStart
  dsimp only
  rw [if_neg (by rw [hfree]; decide), if_neg (by simp [State.portTakes, hup]), settleGate_none hg, hdrop, if_neg (by simp [hport]), hheld, hpick]

/-- The queues of a port that is down are discarded (R89). -/
theorem frameStart_down (hfree : sparseFind? s.tm.sending n = none) (h2 : s.portStateOf n ≠ 2) (h4 : s.portStateOf n ≠ 4) (h5 : s.portStateOf n ≠ 5) :
    s.frameStart n = s.discardQueues n :=
  (if_neg (by rw [hfree]; decide)).trans (if_pos (by simp [State.portTakes, h2, h4, h5]))

/-- PTP writes nothing at a port on which it does not run (R41). -/
theorem ptpOut_off (hoff : s.rd Od.ptpPortEnable (portInst n) = 0) (c : Copy) (frame : List Byte) : s.ptpOut n c frame = frame := if_pos hoff

/-- The last byte of a copy has passed. -/
theorem exec_transmitDone (hst : s.stopped = false) (hn : n < 512) (hd : s.hasDie (n / 64) = true) {i : Nat} {c : Copy}
    (hi : sparseFind? s.tm.sending n = some i) (hc : s.copy? i = some c) :
    exec (.transmitDone n) s = .next (if c.k.ended = true then s.transmitDone n i c else s) := by
  refine (withLane_live hn hd hst).trans (congrArg _ ?_)
  rw [hi]
  dsimp only
  rw [hc]

/-- A frame that is good at its end is counted and sent with its FCS, a bad one with its complement (R70, R111). -/
theorem transmitDone_sends {i : Nat} {c : Copy} {bytes : List Byte} (hbytes : bytes = frameOf (s.ptpOut n c c.out) (!c.k.bad)) {u v : State}
    (hu : u = ((s.ptpStamp n c c.out).codeFrame n bytes).settleCharge n c bytes.length)
    (hv : v = { u with tm := { u.tm with sending := sparseErase u.tm.sending n } }) :
    (c.k.bad = false → s.transmitDone n i c = (((((v.macCount n 6 1).macCount n 7 bytes.length).bwCount n bytes.length true).emit
      (.frame n bytes)).restoreStanding c).endCopy i c) ∧
    (c.k.bad = true → s.transmitDone n i c = ((((v.macCount n 8 1).bwCount n bytes.length true).emit (.frame n bytes)).restoreStanding c).endCopy i c) := by
  unfold State.transmitDone
  dsimp only
  rw [← hbytes, ← hu, ← hv]
  exact ⟨fun hgood => by rw [if_neg (by rw [hgood]; decide)], fun hbad => by rw [if_pos hbad]⟩
end

/-- Settles O43: the branch of the start or of the end of a frame that the port takes. -/
theorem transmitRows : Obligations.TransmitRows := by
  unfold Obligations.TransmitRows
  intro s n hst hn hd
  have start : ∀ t, s.frameStart n = t → exec (.portFrameStart n) s = .next t := fun t ht => (withLane_live hn hd hst).trans (congrArg _ ht)
  refine ⟨fun hbusy => start _ (if_pos hbusy), fun hfree h2 h4 h5 => start _ (frameStart_down hfree h2 h4 h5),
    fun t i rest c ht hfree hup hg hswap hport hq hc hstored hpause hshape hmode hgood hhigh u hu =>
      start _ ((frameStart_strict ht hfree hup hg hswap hport hq hc hstored hpause hshape hmode hgood hhigh).trans
        (beginFrame_strict ht hq hc hshape hport hmode hu)),
    fun hfree => ?idle, fun i c hi hc => ⟨fun hopen => ?going, fun hended out padded hout hpadded bytes hbytes u v hu hv => ?sent⟩⟩
  case idle =>
    refine (withLane_live hn hd hst).trans (congrArg _ ?_)
    rw [hfree]
  case going => exact (exec_transmitDone hst hn hd hi hc).trans (congrArg _ (if_neg (by rw [hopen]; decide)))
  case sent =>
    have hmade : bytes = frameOf (s.ptpOut n c c.out) (!c.k.bad) := by
      have hptp : out = s.ptpOut n c c.out := by
        rw [hout]
        split
        · next hoff => exact (ptpOut_off hoff c c.out).symm
        · rfl
      rw [hbytes, hpadded, hptp]
      unfold frameOf
      cases c.k.bad <;> rfl
    have hdone := (exec_transmitDone hst hn hd hi hc).trans (congrArg _ (if_pos hended))
    obtain ⟨hgood, hbad⟩ := transmitDone_sends (i := i) hmade hu hv
    exact ⟨fun h => hdone.trans (congrArg _ (hgood h)), fun h => hdone.trans (congrArg _ (hbad h))⟩

end Sys2Proof.Machine
end

section
namespace Sys2Proof.Machine

/-! The loopback path. -/

section
variable {s : State}

theorem loopHead_empty {d share : Nat} (hq : s.loopQueue d share = []) : s.loopHead d share = none := by
  unfold State.loopHead
  rw [hq]

/-- A share's packet whose frame has not ended cannot use a slot (R247). -/
theorem loopHead_front {d share p : Nat} {rest : List Nat} {k : Packet} (hq : s.loopQueue d share = p :: rest) (hk : s.packet? p = some k) :
    s.loopHead d share = if k.ended then some (p, k) else none := by
  unfold State.loopHead
  rw [hq]
  dsimp only
  rw [hk]
  rfl

/-- With nothing of the mirror share to serve the slot is the other share's (R247). -/
theorem loopTurn_recirc {d : Nat} (h1 : s.loopQueue d 1 = []) : s.loopTurn d = s.loopHead d 0 := by
  unfold State.loopTurn
  dsimp only
  split
  · rw [loopHead_empty h1, Option.or_none]
  · rw [loopHead_empty h1, Option.none_or]

/-- A slot of the loopback path. -/
theorem exec_loopbackSlot {d : Nat} (hst : s.stopped = false) (hd : s.hasDie d = true) {x : Option (Nat × Packet)} (hx : s.loopTurn d = x) :
    (x = none → exec (.loopbackSlot d) s = .next s) ∧ (∀ p k, x = some (p, k) → exec (.loopbackSlot d) s = .next (s.serveLoop d p k)) := by
  refine ⟨fun hnone => (withDie_live hd hst _).trans (congrArg _ ?_), fun p k hsome => (withDie_live hd hst _).trans (congrArg _ ?_)⟩
  · rw [hx, hnone]
  · rw [hx, hsome]

/-- A recirculated packet that is served enters new cells of class 9, or is dropped where it is bad at its end (R247, R258). -/
theorem serveLoop_recirc {d p : Nat} {k : Packet} (hm : k.mirror = none) {s1 s2 : State}
    (h1 : s1 = s.setLoopQueue d 0 ((s.loopQueue d 0).filter (· ≠ p)))
    (h2 : s2 = ({ s1 with tm := { s1.tm with loopServed := sparsePut s.tm.loopServed (d * 2) (s.loopServedOf d 0 + cellsOf k.frame.length) } } :
      State).leaveOldCells k) :
    (k.bad = true → s.serveLoop d p k = s2.endIngress p k) ∧
    (k.bad = false → ∀ x, x = s2.openRecord d 15 8 9 k.frame.length 4 0 →
      s.serveLoop d p k = x.1.setPacket p { k with stage := .renewed, head := x.2.1, tag := x.2.2, owns := true, since := s.up }) := by
  have hshare : k.share = 0 := by
    unfold Packet.share
    rw [hm]
    rfl
  subst h1
  unfold State.serveLoop
  dsimp only
  rw [hshare, hm]
  dsimp only [Option.isSome]
  simp only [Bool.false_eq_true, if_false, Nat.add_zero]
  rw [← h2]
  exact ⟨fun hbad => if_pos hbad, fun hgood x hx => by rw [if_neg (by rw [hgood]; decide), hx]⟩

/-- A renewed packet is injected on a free clock, or once it has waited for 1 µs (R248). -/
theorem exec_loopbackInject {p : Nat} {k : Packet} (hst : s.stopped = false) (hk : s.packet? p = some k) (hstage : k.stage = .renewed) (free : Bool) :
    exec (.loopbackInject p free) s = .next (if (free || decide (k.since + 1000 ≤ s.up)) = true then
      ((if free then s else s.bump Od.loopbackInjectClocks (dieInst k.die)).giveTo k.die k.head 1
        (k.die * 16 + s.pipeOf k.die false (k.octet % 8)) 0).setPacket p
          { k with stage := .received, pipe := k.die * 16 + s.pipeOf k.die false (k.octet % 8), owns := false } else s) := by
  by_cases hgo : (free || decide (k.since + 1000 ≤ s.up)) = true
  · rw [if_pos hgo]
    exact withPacket_live hst hk (by simp only [hstage, decide_true, Bool.true_and, hgo]) _
  · rw [if_neg hgo]
    exact withPacket_other hst hk (by simp only [hstage, decide_true, Bool.true_and, (Bool.not_eq_true _).mp hgo]) _

/-- The only packet of a part is removed from its die by its age (R250). -/
theorem exec_lateRemoval {d p : Nat} {k : Packet} (hst : s.stopped = false) (hd : s.hasDie d = true) (hk : s.packets = [(p, k)]) (hdie : k.die = d)
    {s1 : State} (hs1 : s1 = (List.range 8).foldl (fun (a : State) o => a.removeLateStarts d o) s) (hpackets : s1.packets = s.packets) :
    exec (.lateRemoval d) s = .next (s1.removeLate p k) := by
  refine (withDie_live hd hst _).trans (congrArg _ ?_)
  dsimp only
  rw [← hs1, hpackets, hk, List.filter_cons, if_pos (by simpa using hdie)]
  rfl

theorem removeLate_looping {p : Nat} {k : Packet} (hm : k.mirror = none) (hstage : k.stage = .looping) : s.removeLate p k =
    if 36000 ≤ s.age k then (s.bump Od.recircDropLate (dieInst k.die)).dropLoop p k else s := by
  unfold State.removeLate
  dsimp only
  rw [if_neg (by rw [hm]; decide), hstage]
  by_cases hage : 36000 ≤ s.age k
  · rw [if_pos ⟨.inl rfl, hage⟩, if_pos rfl, if_pos hage]
  · rw [if_neg (fun h => hage h.2), if_neg (by simp [Packet.inPass, hstage]), if_neg hage]

theorem removeLate_inPass {p : Nat} {k : Packet} (hm : k.mirror = none) (hpass : k.inPass = true) : s.removeLate p k =
    if 40000 ≤ s.age k then
      ((s.bump (if hvPass k.hv = 0 then Od.ingressDropLate else Od.recircDropLate) (dieInst k.die)).leaveLookups p k).dropItem false p k
    else s := by
  have hloop : ¬ (k.stage = .looping ∨ k.stage = .renewed) := by
    rintro (h | h)
    · simp [Packet.inPass, h] at hpass
    · simp [Packet.inPass, h] at hpass
  unfold State.removeLate
  dsimp only
  rw [if_neg (by rw [hm]; decide), if_neg (fun h => hloop h.1)]
  simp only [hpass, true_and]
end

/-- Settles O44: the branch of the slot, the injection or the removal that the packet takes. -/
theorem loopRows : Obligations.LoopRows := by
  unfold Obligations.LoopRows
  intro s hst
  refine ⟨fun d hd h0 h1 => ?empty, fun d p rest k hd h0 h1 hk hm => ?slot, fun p k pipe hk hstage hpipe => ?inject,
    fun d p k s1 hd hk hdie hm hs1 hpackets htime => ?late⟩
  case empty => exact (exec_loopbackSlot hst hd ((loopTurn_recirc h1).trans (loopHead_empty h0))).1 rfl
  case slot =>
    obtain ⟨hidle, hserve⟩ := exec_loopbackSlot hst hd ((loopTurn_recirc h1).trans (loopHead_front h0 hk))
    refine ⟨fun hopen => hidle (if_neg (by rw [hopen]; decide)), fun hended s1 s2 hs1 hs2 => ?_⟩
    have hrun := hserve p k (if_pos hended)
    obtain ⟨hbad, hgood⟩ := serveLoop_recirc (p := p) hm (by rw [h0]; exact hs1) hs2
    exact ⟨fun h => hrun.trans (congrArg _ (hbad h)), fun h x hx => hrun.trans (congrArg _ (hgood h x hx))⟩
  case inject =>
    subst hpipe
    have hexec := exec_loopbackInject hst hk hstage
    exact ⟨hexec true, fun hwaited => (hexec false).trans (congrArg _ (if_pos (by simpa using hwaited))),
      fun hshort => (hexec false).trans (congrArg _ (if_neg (by simpa using hshort)))⟩
  case late =>
    have hexec := exec_lateRemoval hst hd hk hdie hs1 hpackets
    have hage : s1.age k = s.age k := by
      unfold State.age State.up
      rw [htime]
    subst hdie
    refine ⟨fun hstage hold => hexec.trans (congrArg _ ((removeLate_looping hm hstage).trans (if_pos (by rw [hage]; exact hold)))),
      fun hstage hyoung => hexec.trans (congrArg _ ((removeLate_looping hm hstage).trans (if_neg (by rw [hage]; omega)))),
      fun hpass hold hfirst => hexec.trans (congrArg _ ((removeLate_inPass hm hpass).trans ((if_pos (by rw [hage]; exact hold)).trans (by rw [if_pos hfirst])))),
      fun hpass hyoung => hexec.trans (congrArg _ ((removeLate_inPass hm hpass).trans (if_neg (by rw [hage]; omega))))⟩

end Sys2Proof.Machine
end

section
namespace Sys2Proof.Machine

/-! Frees and releases of a packet's cells. -/

section
variable {s : State} {d head : Nat} {r : PacketRecord}

theorem freePacket_none (hr : s.record? d head = none) (tag kind id : Nat) :
    s.freePacket d head tag kind id = s.cellFault Od.bpmDoubleFree d head tag kind id := by
  unfold State.freePacket
  rw [hr]

theorem freePacket_some (hr : s.record? d head = some r) (tag kind id : Nat) : s.freePacket d head tag kind id =
    if r.refcount then s.decrement d head kind id r
    else if r.kind = 0 ∨ r.tag ≠ tag ∨ r.freePending = true then s.cellFault Od.bpmDoubleFree d head tag kind id
    else if r.kind ≠ kind ∨ r.id ≠ id then s.cellFault Od.bpmNotOwner d head tag kind id
    else if r.users = 0 then s.returnCells d head
    else s.setRecord d head { r with freePending := true } := by
  unfold State.freePacket
  rw [hr]

theorem releasePacket_none (hr : s.record? d head = none) (kind id : Nat) :
    s.releasePacket d head kind id = s.cellFault Od.bpmNotOwner d head 0 kind id := by
  unfold State.releasePacket
  rw [hr]

theorem releasePacket_some (hr : s.record? d head = some r) (kind id : Nat) : s.releasePacket d head kind id =
    if r.refcount then s.decrement d head kind id r
    else if r.kind = 0 then s.cellFault Od.bpmNotOwner d head r.tag kind id
    else if r.freePending = true ∧ r.kind = kind ∧ r.id = id then s.cellFault Od.bpmDoubleFree d head r.tag kind id
    else if r.users = 0 then s.cellFault Od.bpmNotOwner d head r.tag kind id
    else if r.users = 1 ∧ r.freePending = true then (s.setRecord d head { r with users := r.users - 1 }).returnCells d head
    else s.setRecord d head { r with users := r.users - 1 } := by
  unfold State.releasePacket
  rw [hr]

/-- A packet without a record has no record's owner: a fault is recorded with the packet's TAG where there is one (R264). -/
theorem cellFault_shows (s : State) (o : Obj) (d head tag kind id : Nat) : s.cellFault o d head tag kind id =
    (s.bump o (dieInst d)).fault d 0x0E 2 head (((s.record? d head).map (·.tag)).getD tag) (kind * 65536 + id) := rfl
end

/-- Settles O45: each clause is the branch of the free or of the release that the record takes. -/
theorem cellOwners : Obligations.CellOwners := by
  unfold Obligations.CellOwners
  intro s d head kind id hst hd
  have free : ∀ tag t, s.freePacket d head tag kind id = t → exec (.cellFree d head tag kind id) s = .next t := fun tag t ht =>
    (withDie_live hd hst _).trans (congrArg _ ht)
  have release : ∀ t, s.releasePacket d head kind id = t → exec (.cellRelease d head kind id) s = .next t := fun t ht =>
    (withDie_live hd hst _).trans (congrArg _ ht)
  refine ⟨fun o tag => cellFault_shows ..,
    fun hr => ⟨release _ (releasePacket_none hr kind id), fun tag => free tag _ (freePacket_none hr tag kind id)⟩, fun r hr => ?_⟩
  have hfree := freePacket_some hr
  have hrel := releasePacket_some hr kind id
  refine ⟨fun hc h0 => ⟨?_, fun tag => ?_⟩, fun hc h0 => ⟨fun hp hk hi => ⟨fun hu => ?_, fun hu => ?_⟩, fun tag ht => ?_, fun hp hne => ?_,
    fun hu hp => ?_, fun hu hp hne => ?_, fun hu hp => ?_, fun hp hk hi => ?_⟩, fun hc i tag hi => ?_⟩
  · exact release _ (hrel.trans (by rw [if_neg (by simp [hc]), if_pos h0]))
  · exact free tag _ ((hfree tag kind id).trans (by rw [if_neg (by simp [hc]), if_pos (.inl h0)]))
  · exact free r.tag _ ((hfree r.tag kind id).trans
      (by rw [if_neg (by simp [hc]), if_neg (by simp [h0, hp]), if_neg (by simp [hk, hi]), if_pos hu]))
  · exact free r.tag _ ((hfree r.tag kind id).trans
      (by rw [if_neg (by simp [hc]), if_neg (by simp [h0, hp]), if_neg (by simp [hk, hi]), if_neg (by omega)]))
  · exact free tag _ ((hfree tag kind id).trans (by rw [if_neg (by simp [hc]), if_pos (.inr ht)]))
  · exact free r.tag _ ((hfree r.tag kind id).trans (by rw [if_neg (by simp [hc]), if_neg (by simp [h0, hp]), if_pos hne]))
  · exact release _ (hrel.trans
      (by rw [if_neg (by simp [hc]), if_neg h0, if_neg (by simp [hp]), if_neg (by omega), if_neg (by simp [hp])]))
  · exact release _ (hrel.trans (by
      rw [if_neg (by simp [hc]), if_neg h0, if_neg (fun h => hne.elim (· h.2.1) (· h.2.2)), if_neg (by omega), if_pos ⟨hu, hp⟩, hu]))
  · exact release _ (hrel.trans (by rw [if_neg (by simp [hc]), if_neg h0, if_neg (by simp [hp]), if_pos hu]))
  · exact release _ (hrel.trans (by rw [if_neg (by simp [hc]), if_neg h0, if_pos ⟨hp, hk, hi⟩]))
  · have hrun : ∀ t, s.decrement d head kind id r = t → exec i s = .next t := fun t ht => by
      obtain rfl | rfl := hi
      · exact release t (hrel.trans ((if_pos hc).trans ht))
      · exact free tag t ((hfree tag kind id).trans ((if_pos hc).trans ht))
    exact ⟨fun hu => hrun _ (if_pos hu), fun hu => hrun _ ((if_neg (by omega)).trans (if_pos hu)),
      fun hu => hrun _ ((if_neg (by omega)).trans (if_neg (by omega)))⟩

end Sys2Proof.Machine
end

section
namespace Sys2Proof.Machine

-- One evaluation of the model at a time.
set_option Elab.async false

/-! A refused request in a state whose register file is out of order. -/

/-- The count of NO_BUFFER of class 0 stands at its end, before an entry of BPM_CLASS_POLICY that it hides; no cell of the die is free. -/
def hiddenPolicy : State :=
  { State.reset with
      regs := [(Od.bpmClassNoBuffer.key (dieInst 0) 0, 2 ^ 64 - 1), (Od.bpmClassPolicy.key 0 0, 0)],
      bufs := { State.reset.bufs with reserve := [(31, 524288)] } }

theorem hiddenPolicy_drops : hiddenPolicy.stopped = false ∧ hiddenPolicy.hasDie 0 = true ∧
    sparseGet (fun _ => (0, [])) hiddenPolicy.bufs.order 0 = (0, []) ∧ (∀ i, i < 8 → hiddenPolicy.waitingAt 0 i = []) ∧
    hiddenPolicy.rings.injects = [] ∧ (∀ x ∈ hiddenPolicy.bufs.refill, x / 8 ≠ 0) ∧ hiddenPolicy.cellsFree 0 = 0 ∧
    hiddenPolicy.rd Od.bpmClassPolicy 0 0 ≠ 0 := by
  decide +kernel

/-- The requests that stay at a die's ports after a command. -/
def Answer.requestsKept : Answer → Nat
  | .next t => (sparseGet (fun _ => (0, [])) t.bufs.order 0).2.length
  | _ => 0

theorem hiddenPolicy_keeps : Answer.requestsKept (exec (.cellAllocate 0 [(8, 0, false)]) hiddenPolicy) = 1 := by decide +kernel

/-- Refutes O46: where the register file is out of order, the count of NO_BUFFER that comes round to 0 uncovers another BPM_CLASS_POLICY, and the refused
request waits under it. -/
theorem not_cellClocks : ¬ Obligations.CellClocks := by
  intro h
  obtain ⟨hst, hd, horder, hwaits, hinjects, hrefill, hfull, hpolicy⟩ := hiddenPolicy_drops
  obtain ⟨halloc, -⟩ := h hiddenPolicy 0 hst hd
  obtain ⟨hrefused, -⟩ := halloc 8 0 false 0 _ (by decide) (.inl (by decide)) horder hwaits hinjects hrefill rfl
  obtain ⟨-, hdrop⟩ := hrefused hfull (.inl (by decide)) _ rfl
  have hkept := congrArg Answer.requestsKept (hdrop hpolicy _ rfl)
  rw [hiddenPolicy_keeps] at hkept
  exact absurd hkept (by decide +kernel)

end Sys2Proof.Machine
end

section
namespace Sys2Proof.Machine

-- One evaluation of the model at a time.
set_option Elab.async false

/-! A delivery that starts to wait in a state whose register file is out of order. -/

/-- A packet of 64 octets on the punt path of die 0, all of it arrived. -/
def queuedDelivery : Packet := { checkedPacket with stage := .punted, frame := List.replicate 64 0, hv := 0, since := 0, ended := true, bad := false }

/-- The delivery is for a ring of pool 0, which has no buffer; the count of POOL_NO_BUFFER stands at its end, before an entry of POOL_WAIT_LIMIT that it
hides. -/
def hiddenLimit : State :=
  { State.reset with
      regs := [(Od.poolState.key 0 0, 1), (Od.poolNoBuffer.key 0 0, 2 ^ 64 - 1), (Od.poolWaitLimit.key 0 0, 20), (Od.puntRing.key 0 0, 0)],
      packets := [(0, queuedDelivery)],
      tm := { State.reset.tm with punts := [(0, [0])] } }

theorem hiddenLimit_delivers : hiddenLimit.stopped = false ∧ hiddenLimit.hasDie 0 = true ∧ hiddenLimit.puntQueue 0 = [0] ∧
    hiddenLimit.packet? 0 = some queuedDelivery ∧ hiddenLimit.rd Od.puntPriority 0 (bits queuedDelivery.hv 599 592 % 64) ≤ 3 ∧
    (∀ e ∈ hiddenLimit.packets, e.2.stage = .punted → e.2.since ≠ 0 → e = (0, queuedDelivery)) := by
  decide +kernel

/-- The instant of the newest entry of the agenda after a command. -/
def Answer.newestDue : Answer → Nat
  | .next t => (t.agenda.getLast?.map (·.1)).getD 0
  | _ => 0

theorem hiddenLimit_waits : Answer.newestDue (exec (.puntDeliver 0) hiddenLimit) = 20000 := by decide +kernel

/-- Refutes O47: where the register file is out of order, the count of POOL_NO_BUFFER that comes round to 0 uncovers another POOL_WAIT_LIMIT, and the
delivery waits that long. -/
theorem not_puntRows : ¬ Obligations.PuntRows := by
  intro h
  obtain ⟨hst, hd, hqueue, hpacket, hpriority, honly⟩ := hiddenLimit_delivers
  obtain ⟨-, hdeliver⟩ := h hiddenLimit hst
  obtain ⟨-, -, hgood⟩ := hdeliver 0 0 _ hd hqueue hpacket hpriority
  obtain ⟨-, -, -, hring, -⟩ := hgood rfl rfl honly _ _ _ _ _ _ _ 0 rfl rfl rfl rfl rfl rfl rfl
  obtain ⟨-, -, hnone⟩ := hring (by decide +kernel) (by decide +kernel) (by decide +kernel)
  obtain ⟨-, hwait⟩ := hnone (by decide +kernel) rfl
  have hdue := congrArg Answer.newestDue (hwait (by decide +kernel))
  rw [hiddenLimit_waits] at hdue
  exact absurd hdue (by decide +kernel)

end Sys2Proof.Machine
end

section
namespace Sys2Proof.Machine

/-! The HBM spill: its writer, its reader, and the pseudo-channels. -/

section
variable {s : State}

/-- A single class whose deficit is above 0 has the turn, and no quantum is added. -/
theorem spillTurn_single (d base t fuel : Nat) (hp : 0 < s.spillDeficit d (base + t)) : s.spillTurn d base [t] (fuel + 1) = (s, some t) := by
  unfold State.spillTurn
  rw [List.find?_cons_of_pos (by exact decide_eq_true hp)]

theorem filter_range_eq {t : Nat} (ht : t < 8) (p : Nat → Bool) (hp : ∀ n, p n = decide (t = n)) : (List.range 8).filter p = [t] := by
  have hall : ∀ t < 8, (List.range 8).filter (fun n => decide (t = n)) = [t] := by decide
  rw [funext hp]
  exact hall t ht

/-- A class of traffic is one of eight. -/
theorem copy_tc_lt (c : Copy) : c.tc < 8 := Nat.mod_lt _ (by decide)

/-- A die's only staged copy has the turn at the writer. -/
theorem spillWrite_picked {d i : Nat} {c : Copy} (hl : s.stagedOn d = [(i, c)]) (hp : 0 < s.spillDeficit d c.tc) :
    s.spillWrite d =
      if s.cellsIn (s.queueOf d c.queue) Copy.isSpilled = 0 ∧ s.cellsIn (s.queueOf d c.queue) (fun (y : Copy) => y.stage = .writing) = 0
          ∧ s.cellsIn (s.queueOf d c.queue) Copy.isOnDie < s.rd Od.spillReturn then s.joinStaged d c.queue (s.queueOf d c.queue).length
      else if s.spillPagesFree d < s.pagesNeeded d c.queue c.cells then s.noteFull d
      else
        let u := ((s.setSpillDeficit d c.tc (s.spillDeficit d c.tc - (c.cells * 256 : Nat))).fillPages d c.queue i
          ((s.record? d c.k.head).map fun r => ({ copy := i, head := c.k.head, record := r } : SpillRecord)) 4 c.cells).setCopy i { c with stage := .writing }
        if u.spillPagesFree d = 0 then u.noteFull d else u := by
  have hclasses : (List.range 8).filter (fun t => [(i, c)].any fun e => e.2.tc = t) = [c.tc] :=
    filter_range_eq (copy_tc_lt c) _ fun n => by simp
  have hturn := spillTurn_single d 0 c.tc 63 (by rwa [Nat.zero_add])
  unfold State.spillWrite
  dsimp only
  rw [hl, hclasses, hturn]
  simp only [Option.bind_some, List.find?_cons, decide_true]

theorem execSpillWrite_picked {d i : Nat} {c : Copy} (hst : s.stopped = false) (hd : s.hasDie d = true) (hl : s.stagedOn d = [(i, c)])
    (hp : 0 < s.spillDeficit d c.tc) :
    (s.cellsIn (s.queueOf d c.queue) Copy.isSpilled ≠ 0 →
      (s.pagesNeeded d c.queue c.cells ≤ s.spillPagesFree d → ∀ u : State,
        u = ((s.setSpillDeficit d c.tc (s.spillDeficit d c.tc - (c.cells * 256 : Nat))).fillPages d c.queue i
          ((s.record? d c.k.head).map fun r => ({ copy := i, head := c.k.head, record := r } : SpillRecord)) 4 c.cells).setCopy i { c with stage := .writing } →
        exec (.spillWrite d) s = .next (if u.spillPagesFree d = 0 then u.noteFull d else u)) ∧
      (s.spillPagesFree d < s.pagesNeeded d c.queue c.cells → exec (.spillWrite d) s = .next (s.noteFull d))) ∧
    (s.cellsIn (s.queueOf d c.queue) Copy.isSpilled = 0 → s.cellsIn (s.queueOf d c.queue) (fun (y : Copy) => y.stage = .writing) = 0 →
      s.cellsIn (s.queueOf d c.queue) Copy.isOnDie < s.rd Od.spillReturn →
      exec (.spillWrite d) s = .next (s.joinStaged d c.queue (s.queueOf d c.queue).length)) := by
  have hexec : exec (.spillWrite d) s = .next (s.spillWrite d) := withDie_live hd hst _
  rw [hexec, spillWrite_picked hl hp]
  refine ⟨fun hspilled => ⟨fun hroom u hu => ?_, fun hfull => ?_⟩, fun h1 h2 h3 => ?_⟩
  · rw [if_neg (fun h => hspilled h.1), if_neg (Nat.not_lt.2 hroom), hu]
  · rw [if_neg (fun h => hspilled h.1), if_pos hfull]
  · rw [if_pos ⟨h1, h2, h3⟩]

/-- SPILL_FULL is raised once. -/
theorem noteFull_once (d : Nat) : (d ∈ s.tm.full → s.noteFull d = s) ∧
    (d ∉ s.tm.full → s.noteFull d = ({ s with tm := { s.tm with full := s.tm.full ++ [d] } } : State).fire d 0x151) := by
  unfold State.noteFull
  exact ⟨fun h => if_pos (List.contains_iff_mem.2 h), fun h => if_neg (fun hc => h (List.contains_iff_mem.1 hc))⟩

theorem execSpillWriteDone_ends {i : Nat} {c : Copy} (hst : s.stopped = false) (hc : s.copy? i = some c) (hw : c.stage = .writing) :
    exec (.spillWriteDone i) s =
      .next (((if c.last then s.toSpill c.die i c.k.head c.queue else s.releasePacket c.die c.k.head c.kind c.id).setCopy i
        { c with stage := .spilled, k := { c.k with head := noCells } }).noteReturn c.die c.queue) :=
  withCopy_live hst hc (decide_eq_true hw) _

/-- The reader serves a die's only returning VOQ, where it may. -/
theorem spillRead_picked {d v i : Nat} {c : Copy} (hr : s.returning d = [v]) (hn : s.nextSpilled d v = some (i, c)) (hv : v % 8 = c.tc)
    (hp : 0 < s.spillDeficit d (8 + c.tc)) :
    s.spillRead d =
      if s.cellsIn (s.queueOf d v) Copy.isOnDie < s.rd Od.spillReturn then
        if s.cellsFree d < c.cells then s
        else ((s.setSpillDeficit d (8 + c.tc) (s.spillDeficit d (8 + c.tc) - (c.cells * 256 : Nat))).setReserved d 11 (s.reserved d 11 + c.cells)).setCopy i
          { c with stage := .reading }
      else s := by
  have hable : (s.returning d).filter (fun v => (s.nextSpilled d v).isSome && decide (s.cellsIn (s.queueOf d v) Copy.isOnDie < s.rd Od.spillReturn)) =
      if s.cellsIn (s.queueOf d v) Copy.isOnDie < s.rd Od.spillReturn then [v] else [] := by
    rw [hr, List.filter_cons, hn]
    by_cases h : s.cellsIn (s.queueOf d v) Copy.isOnDie < s.rd Od.spillReturn <;> simp [h]
  unfold State.spillRead
  rw [hable]
  by_cases h : s.cellsIn (s.queueOf d v) Copy.isOnDie < s.rd Od.spillReturn
  · have hclasses : (List.range 8).filter (fun t => [v].any fun v => v % 8 = t) = [c.tc] :=
      filter_range_eq (copy_tc_lt c) _ fun n => by simp [hv]
    rw [if_pos h, if_pos h]
    dsimp only
    rw [hclasses, spillTurn_single d 8 c.tc 63 hp]
    simp only [Option.bind_some, List.find?_cons, hv, decide_true, hn]
    rfl
  · rw [if_neg h, if_neg h]
    rfl

/-- A read that found a cell uncorrectable discards the copy. -/
theorem execSpillReadDone_lost {i : Nat} {c : Copy} (hst : s.stopped = false) (hc : s.copy? i = some c) (hw : c.stage = .reading) (ch : Nat) :
    exec (.spillReadDone i true ch) s = .next (s.loseSpilled i c ch) :=
  (withCopy_live hst hc (decide_eq_true hw) _).trans (congrArg _ (if_pos rfl))

/-- A copy that has been read is on die again, in cells of class 10, with the users that it still has. -/
theorem execSpillReadDone_back {i : Nat} {c : Copy} (hst : s.stopped = false) (hc : s.copy? i = some c) (hw : c.stage = .reading) (ch : Nat)
    {x : State × Nat × Nat}
    (hx : x = ((s.leavePages c.die i).setReserved c.die 11 (s.reserved c.die 11 - c.cells)).openRecord c.die 16 11 10 (max 1 c.k.frame.length) c.kind c.id)
    {u : State}
    (hu : u = ((s.spillRecord? c.die i).map fun r => x.1.moveUsers c.die r.head x.2.1 { r.record with kind := c.kind, id := c.id }).getD x.1) :
    exec (.spillReadDone i false ch) s =
      .next (((u.setCopy i { c with stage := .onDie, last := true, k := { c.k with head := x.2.1, tag := x.2.2 } }).pumpRequests c.die c.queue
        16).settleReturn c.die c.queue) := by
  refine (withCopy_live hst hc (decide_eq_true hw) _).trans (congrArg _ ((if_neg (by decide)).trans ?_))
  dsimp only
  rw [← hx, hu]
  cases s.spillRecord? c.die i <;> rfl

theorem loseSpilled_reading {i : Nat} {c : Copy} (hw : c.stage = .reading) (ch : Nat) (s1 : State)
    (h1 : s1 = ((s.leavePages c.die i).setQueue c.die c.queue ((s.queueOf c.die c.queue).filter (· ≠ i))).bump Od.spillEccLoss (dieInst c.die)) :
    s.loseSpilled i c ch =
      (((s1.setReserved c.die 11 (s1.reserved c.die 11 - c.cells)).endCopy i c).fault c.die 0x10 2 ch).settleReturn c.die c.queue := by
  unfold State.loseSpilled
  dsimp only
  rw [h1, if_pos hw]

/-- A channel under repair has a spare that shadows it, or is mapped out. -/
theorem execHbmChannelRepair_idle {d ch : Nat} (trigger : Nat) (hst : s.stopped = false) (hd : s.hasDie d = true) (hch : ch < 32)
    (hready : s.spareState 8 d 0 ch = 3) (hnone : s.bufs.channels = []) :
    (∀ u, (spareUnits 8).find? (fun u => decide (s.spareState 8 d 0 u < 3)) = some u →
      exec (.hbmChannelRepair d ch trigger) s =
        .next ((({ s with bufs := { s.bufs with channels := [(d, ch, u)] } } : State).recordFault
          { die := d, source := 0x10, cls := 1, location := ch, detail0 := trigger, detail1 := 0, spareUsed := true, repairing := true }).later
          100000000 (.hbmChannelCopyDone d ch))) ∧
    ((spareUnits 8).find? (fun u => decide (s.spareState 8 d 0 u < 3)) = none → s.tm.copies = [] → ∀ s0 : State,
      s0 = { s with bufs := { s.bufs with lostChannels := s.bufs.lostChannels ++ [(d, s.logicalChannel d ch)] } } →
      exec (.hbmChannelRepair d ch trigger) s =
        .next (((((s0.setSpare 8 d 0 ch 4).wr Od.hbmChannelsActive (s.rd Od.hbmChannelsActive (dieInst d) - 1) (dieInst d)).retire 8 d 0 ch 0x10).fault d
          0x10 2 ch trigger).fire d 0x150)) := by
  have hspare : (fun u => decide (s.spareState 8 d 0 u < 3) && !(s.bufs.channels.any fun c => c.1 = d && c.2.2 = u)) =
      fun u => decide (s.spareState 8 d 0 u < 3) := by
    funext u
    rw [hnone]
    exact Bool.and_true _
  have hbusy : ¬ (32 ≤ ch ∨ s.spareState 8 d 0 ch ≠ 3 ∨ (s.bufs.channels.any fun c => c.1 = d && c.2.1 = ch) = true) := by
    rw [hready, hnone]
    simp [hch]
  constructor
  · intro u hu
    refine (withDie_live hd hst _).trans (congrArg _ ?_)
    rw [if_neg hbusy, hspare, hu, hnone]
    rfl
  · intro hu hcopies s0 h0
    refine (withDie_live hd hst _).trans (congrArg _ ?_)
    rw [if_neg hbusy, hspare, hu, hcopies, h0]
    rfl

theorem execHbmChannelCopyDone_ends {d ch u : Nat} (hst : s.stopped = false) (hd : s.hasDie d = true) (hone : s.bufs.channels = [(d, ch, u)]) (s1 : State)
    (h1 : s1 = ((s.setSpare 8 d 0 ch 4).setSpare 8 d 0 u 3).retire 8 d 0 ch 0x10) :
    exec (.hbmChannelCopyDone d ch) s =
      .next (({ s1 with bufs := { s1.bufs with channels := [] },
                        recov := { s1.recov with replaced := sparsePut s1.recov.replaced (spareKey 8 d 0 (s.logicalChannel d ch)) u } } : State).fire d
        0x14F) := by
  have hkept : s1.bufs.channels = [(d, ch, u)] := by
    have hq : Quiet s s1 := h1 ▸ .retire (.wrOctet (.wrOctet (.refl s) ..) ..) ..
    rw [hq.bufs, hone]
  refine (withDie_live hd hst _).trans (congrArg _ ?_)
  rw [hone, List.find?_cons_of_pos (by simp)]
  dsimp only
  rw [← h1, hkept, List.filter_cons_of_neg (by simp), List.filter_nil]

theorem execHbmChannelCopyDone_none {d : Nat} (ch : Nat) (hst : s.stopped = false) (hd : s.hasDie d = true) (hnone : s.bufs.channels = []) :
    exec (.hbmChannelCopyDone d ch) s = .next s := by
  refine (withDie_live hd hst _).trans (congrArg _ ?_)
  rw [hnone]
  rfl

end

/-- Settles O48: the writer and the reader at a single candidate, the ends of a write and of a read, and the two ends of a channel's repair. -/
theorem spillRows : Obligations.SpillRows := by
  intro s hst
  refine ⟨?_, ?_, ?_, ?_, ?_, ?_, fun d ch hd => execHbmChannelCopyDone_none ch hst hd⟩
  · intro d i c v hd hl hv hp
    subst hv
    obtain ⟨hspilled, hjoin⟩ := execSpillWrite_picked hst hd hl hp
    refine ⟨fun hs => ⟨fun hroom own hown u hu => ?_, fun hfull hm => ?_, fun hfull hm => ?_⟩, hjoin⟩
    · exact (hspilled hs).1 hroom u (by rw [hu, hown])
    · rw [(hspilled hs).2 hfull, (noteFull_once d).1 hm]
    · rw [(hspilled hs).2 hfull, (noteFull_once d).2 hm]
  · intro i c hc hw u hu
    rw [execSpillWriteDone_ends hst hc hw, hu]
  · intro d v i c hd hr hn hv hp
    have hexec : exec (.spillRead d) s = .next (s.spillRead d) := withDie_live hd hst _
    rw [hexec, spillRead_picked hr hn hv hp]
    refine ⟨fun h => ?_, fun hlow hroom s1 h1 => ?_⟩
    · obtain hfull | hhigh := h
      · rw [if_pos hfull, ite_self]
      · rw [if_neg (Nat.not_lt.2 hhigh)]
    · rw [if_pos hlow, if_neg (Nat.not_lt.2 hroom), h1]
  · intro i c ch hc hw d v hd hv
    subst hd hv
    refine ⟨fun x hx u hu => execSpillReadDone_back hst hc hw ch hx hu, fun s1 h1 s2 h2 => ?_⟩
    rw [execSpillReadDone_lost hst hc hw ch, loseSpilled_reading hw ch s1 h1, h2]
  · intro d ch trigger hd hch hready hnone
    obtain ⟨hspare, hout⟩ := execHbmChannelRepair_idle trigger hst hd hch hready hnone
    refine ⟨fun u hu e he => ?_, fun hu hcopies s0 s1 h0 h1 => ?_⟩
    · rw [hspare u hu, he]
    · rw [hout (List.find?_eq_none.2 fun u hm => by simpa using hu u hm) hcopies s0 h0, h1]
  · intro d ch u hd hone s1 h1
    exact execHbmChannelCopyDone_ends hst hd hone s1 h1

end Sys2Proof.Machine
end

section
namespace Sys2Proof.Machine

-- One evaluation of the model at a time.
set_option Elab.async false

/-! A swap to an empty gate list in a state whose gates list a port twice. -/

/-- Port 0 waits for the swap to an empty list of the default cycle, whose start has come; a second entry of the port shows a list of one entry. -/
def twoGates : State :=
  { State.reset with tm := { State.reset.tm with gates :=
      [(0, { Gate.fresh with swap := some { start := 0, base := 0, cycle := 1000000, length := 0, epoch := 0, named := 0 } }),
       (0, { Gate.fresh with length := 1, entry := 7 })] } }

theorem twoGates_swaps : twoGates.stopped = false ∧ twoGates.hasDie (0 / 64) = true ∧
    (twoGates.gate 0).swap = some { start := 0, base := 0, cycle := 1000000, length := 0, epoch := 0, named := 0 } ∧ 0 ≤ twoGates.ns ∧
    twoGates.time.epoch < 0 + 2 := by
  decide +kernel

/-- The entry of port 0's gate list after a command. -/
def Answer.gateEntry : Answer → Nat
  | .next t => (t.gate 0).entry
  | _ => 0

theorem twoGates_settles : Answer.gateEntry (exec (.gclSwapApply 0) twoGates) = 0 := by decide +kernel

/-- Refutes O49: where a port's gate is listed twice, the swap to an empty list erases the first entry alone, and the second one is settled. -/
theorem not_pauseAndGates : ¬ Obligations.PauseAndGates := by
  intro h
  obtain ⟨hst, hd, hswap, hstart, hepoch⟩ := twoGates_swaps
  obtain ⟨hports, -⟩ := h twoGates hst
  obtain ⟨-, -, -, -, -, -, -, -, happly⟩ := hports 0 (by decide) hd
  obtain ⟨-, hdue⟩ := happly _ hswap
  obtain ⟨hempty, -⟩ := hdue hstart hepoch _ rfl _ _ rfl rfl
  have hentry := congrArg Answer.gateEntry (hempty rfl)
  rw [twoGates_settles] at hentry
  exact absurd hentry (by decide +kernel)

end Sys2Proof.Machine
end

section
namespace Sys2Proof.Machine

/-! Superframes leave alone what a group has acknowledged. -/

/-- `t` answers on every group as `s` does: the last superframe acknowledged, and NAK. -/
structure AnswersKept (s t : State) : Prop where
  rising : sparseRising none t.fabric.groups = true
  nak : ∀ d g, (t.group d g).nak = (s.group d g).nak
  acked : ∀ d g, (t.group d g).acked = (s.group d g).acked

namespace AnswersKept

theorem refl {s : State} (hs : sparseRising none s.fabric.groups = true) : AnswersKept s s := ⟨hs, fun _ _ => rfl, fun _ _ => rfl⟩

section
variable {s t : State} (h : AnswersKept s t)
include h

theorem same {u : State} (hu : u.fabric = t.fabric) : AnswersKept s u := by
  have hgroup : ∀ d g, u.group d g = t.group d g := fun d g => by unfold State.group; rw [hu]
  exact ⟨hu ▸ h.rising, fun d g => (congrArg Group.nak (hgroup d g)).trans (h.nak d g), fun d g => (congrArg Group.acked (hgroup d g)).trans (h.acked d g)⟩

theorem setGroup (d g : Nat) (x : Group) (hn : x.nak = (t.group d g).nak) (ha : x.acked = (t.group d g).acked) : AnswersKept s (t.setGroup d g x) := by
  have hget : ∀ e k, (t.setGroup d g x).group e k = if d * 8 + g = e * 8 + k then x else t.group e k :=
    fun e k => sparseGet_set _ _ _ _ _ h.rising
  have hrising : sparseRising none (t.setGroup d g x).fabric.groups = true := by
    unfold State.setGroup
    exact sparseRising_set (fun _ => Group.fresh) t.fabric.groups (d * 8 + g) x h.rising
  refine ⟨hrising, fun e k => ?_, fun e k => ?_⟩
  · rw [hget, ← h.nak e k]
    split
    next hk => exact hn.trans (by unfold State.group; rw [hk])
    next => rfl
  · rw [hget, ← h.acked e k]
    split
    next hk => exact ha.trans (by unfold State.group; rw [hk])
    next => rfl

theorem emit (o : Out) : AnswersKept s (t.emit o) := h.same rfl
theorem bump (o : Obj) (inst k n : Nat) : AnswersKept s (t.bump o inst k n) := h.same (by simp)

theorem relayed (d : Nat) (c : Nat × FabricCell) : AnswersKept s (t.relayed d c) := by
  unfold State.relayed State.freeTransit
  dsimp only
  refine .bump (h.setGroup _ _ _ ?_ ?_) .. <;> rfl

theorem takeSlots (d g : Nat) : AnswersKept s (t.takeSlots d g).1 := by
  unfold State.takeSlots
  exact List.foldlRecOn _ _ (h.setGroup _ _ _ rfl rfl) fun _ hb c _ => relayed hb d c

theorem newSuperframe (d g : Nat) : AnswersKept s (t.newSuperframe d g).1 := (h.takeSlots d g).setGroup _ _ _ rfl rfl

theorem sendAlignment (d p g : Nat) : AnswersKept s (t.sendAlignment d p g) := .setGroup (h.emit _) _ _ _ rfl rfl

theorem sendSuperframe (d p g : Nat) (f : Superframe) : AnswersKept s (t.sendSuperframe d p g f) := .setGroup (h.emit _) _ _ _ rfl rfl

theorem formFrame (d p g : Nat) : AnswersKept s (t.formFrame d p g).1 := by
  unfold State.formFrame
  extract_lets x n e f r y
  have he : AnswersKept s e.1 := by
    unfold e
    cases x.resend with
    | nil => exact h.newSuperframe d g
    | cons => exact h.setGroup _ _ _ rfl rfl
  have hr : AnswersKept s r.1 := by
    unfold r
    by_cases hn : n % 4096 = 0
    · rw [if_pos hn]
      exact h.sendAlignment d p g
    · rw [if_neg hn]
      exact he.sendSuperframe ..
  split
  · exact h
  · exact hr.setGroup d g { y with sfSeq := (n + 1) % 4096, window := y.window ++ [r.2] } rfl rfl

end
end AnswersKept

/-! The next superframe of a group. -/

section
variable {s : State}

theorem group_setGroup_other {d g : Nat} {x : Group} (hx : x ≠ Group.fresh) : (s.setGroup d g x).group d g = x := by
  unfold State.setGroup State.group sparseSet sparseGet
  rw [if_neg hx]
  simp only [sparseFind?_put, if_true, Option.getD_some]

theorem formFrame_full {p d g : Nat} (hr : (s.group p g).resend = []) (hw : 32 ≤ (s.group p g).window.length) : s.formFrame p d g = (s, none) :=
  if_pos ⟨hr, hw⟩

/-- A group without transit cells, and with no credit due onward, fills a superframe with its own cells. -/
theorem newSuperframe_own {p g : Nat} (hn : (s.group p g).sfSeq ≠ 0) (ht : (s.group p g).transit = []) (hs : (s.group p g).slotsFreed = []) :
    (s.newSuperframe p g).2 =
      { seq := 0, cells := (s.group p g).own.take 10, fifo := min 255 (s.group p g).fifoFreed, onward := 0, slots := 0,
        time := (s.group p g).times.headD (0, 0), again := false } := by
  generalize hx : s.group p g = x at hn ht hs
  have hslots : s.takeSlots p g = (s.setGroup p g { x with own := x.own.drop (x.own.take 10).length, transit := [] }, x.own.take 10) := by
    unfold State.takeSlots
    rw [hx]
    dsimp only
    simp [ht]
  have hgroup : (s.takeSlots p g).1.group p g = { x with own := x.own.drop (x.own.take 10).length, transit := [] } := by
    rw [hslots]
    exact group_setGroup_other fun h => hn (congrArg Group.sfSeq h)
  unfold State.newSuperframe
  dsimp only
  rw [hgroup, hslots]
  dsimp only
  rw [hs]
  rfl

theorem formFrame_new {p d g : Nat} (hr : (s.group p g).resend = []) (hw : (s.group p g).window.length < 32) (hn : (s.group p g).sfSeq % 4096 ≠ 0) :
    (s.formFrame p d g).2 = some { (s.newSuperframe p g).2 with seq := (s.group p g).sfSeq } := by
  unfold State.formFrame
  dsimp only
  rw [if_neg (fun h => absurd h.2 (Nat.not_le.2 hw)), if_neg hn, hr]

end

section
variable {s : State} {d g p : Nat}

theorem withGroup_live (hst : s.stopped = false) (hd : s.hasDie d = true) (hp : groupPeer s.part d g = some p) (f : Nat → State) :
    withGroup s d g f = .next (f p) := by
  unfold withGroup
  rw [hp]
  exact withDie_live hd hst _

/-! Training blocks. -/

/-- A block whose CRC fails is ignored, and so is one on a group that does not train. -/
theorem execTrainingBlockRx_ignored (hst : s.stopped = false) (hd : s.hasDie d = true) (hp : groupPeer s.part d g = some p) {block : List Byte}
    (hbad : s.groupState d g ≠ 1 ∨ beNat (slice block 124 4) ≠ crc32c (block.take 124)) : exec (.trainingBlockRx d g block) s = .next s := by
  refine (withGroup_live hst hd hp _).trans (congrArg _ (if_neg ?_))
  rintro ⟨htrains, -, -, -, -, hcrc⟩
  exact hbad.elim (· htrains) (· hcrc)

theorem execTrainingBlockRx_reads (hst : s.stopped = false) (hd : s.hasDie d = true) (hp : groupPeer s.part d g = some p) {block : List Byte}
    (htrains : s.groupState d g = 1) (hlen : block.length = 128) (hmark : beNat (block.take 4) = 0x7E1DC3A5)
    (hcrc : beNat (slice block 124 4) = crc32c (block.take 124)) (hlane : (byteAt block 4).toNat < 44) (hstep : (byteAt block 5).toNat ≤ 2) {u : State}
    (hu : s.readBlock d g block = u) :
    exec (.trainingBlockRx d g block) s = .next (u.emit (.lanes d g [u.blockOf d g (byteAt block 4).toNat])) := by
  refine (withGroup_live hst hd hp _).trans (congrArg _ ((if_pos ⟨htrains, hlen, hmark, hlane, hstep, hcrc⟩).trans ?_))
  unfold State.trainingBlock
  rw [hu]

/-- In step 1 a block of the peer's step 1 locks its lane; with the last lane step 2 begins. -/
theorem readBlock_locks {block : List Byte} {x : Group} (hx : x = s.group d g) (hstep : x.step = 1) (hpeer : (byteAt block 5).toNat = 0)
    (hlane : (byteAt block 4).toNat ∉ x.locked) {y : Group} (hy : y = { x with locked := x.locked ++ [(byteAt block 4).toNat] }) :
    s.readBlock d g block =
      if y.locked.length = 44 then (s.setGroup d g { y with step := 2 }).later (x.since + 4000000 - s.up) (.fabricTrainTimeout d g) else s.setGroup d g y := by
  have hnew : x.locked.contains (byteAt block 4).toNat = false := by simpa using hlane
  unfold State.readBlock
  dsimp only
  rw [← hx, hpeer, hnew, if_neg (show ¬ (false = true) from Bool.false_ne_true), if_pos hstep,
    if_pos (show 0 = 0 ∨ x.peerLocked.contains (byteAt block 4).toNat = true from .inl rfl), if_neg (show ¬ (0 = 2) by decide), hy]
  rfl

/-- In step 3 a block of the peer's step 3 shows its map, and is counted where it echoes the own one; the 16th in a row ends the step. -/
theorem readBlock_echoes {block : List Byte} {x : Group} (hx : x = s.group d g) (hstep : x.step = 3) (hpeer : (byteAt block 5).toNat = 2)
    (hlane : (byteAt block 4).toNat ∈ x.locked) (hboth : (byteAt block 4).toNat ∈ x.peerLocked) {map : List Nat}
    (hmap : map = (slice block 8 40).map (·.toNat)) {n : Nat} (hn : n = if (slice block 48 40).map (·.toNat) = x.map then x.echoes + 1 else 0) :
    s.readBlock d g block =
      if n = 16 then (s.setGroup d g { x with peerMap := map, echoes := n, step := 4 }).later (x.since + 7000000 - s.up) (.fabricTrainTimeout d g)
      else s.setGroup d g { x with peerMap := map, echoes := n } := by
  have hold : x.locked.contains (byteAt block 4).toNat = true := List.contains_iff_mem.2 hlane
  have holdPeer : x.peerLocked.contains (byteAt block 4).toNat = true := List.contains_iff_mem.2 hboth
  unfold State.readBlock
  dsimp only
  rw [← hx, hpeer, hold, holdPeer, if_neg (show ¬ x.step = 1 by rw [hstep]; decide), if_neg (show ¬ x.step = 2 by rw [hstep]; decide), if_pos hstep,
    if_pos (show true = true from rfl), if_pos (show 2 = 0 ∨ true = true from .inr rfl), if_pos (show 2 = 2 from rfl)]
  dsimp only
  simp only [true_and, ← hmap, ← hn]
  rfl

/-! The limits of training. -/

theorem execFabricTrainTimeout_fenced (hst : s.stopped = false) (hd : s.hasDie d = true) (hp : groupPeer s.part d g = some p) (hf : s.isFenced d = true) :
    exec (.fabricTrainTimeout d g) s = .next s :=
  (withGroup_live hst hd hp _).trans (congrArg _ (if_pos (.inl hf)))

theorem execFabricTrainTimeout_open (hst : s.stopped = false) (hd : s.hasDie d = true) (hp : groupPeer s.part d g = some p) (hf : s.isFenced d = false)
    (hg : s.isFenced p = false) {x : Group} (hx : x = s.group d g) :
    exec (.fabricTrainTimeout d g) s = .next (
      if s.groupState d g = 3 then if x.since + 10000000 ≤ s.up then s.restartGroup d g else s
      else if s.groupState d g ≠ 1 ∨ s.up < x.since + trainLimit x.step then s
      else if x.step = 1 ∧ 40 ≤ x.locked.length then s.trainStep d g 2 x
      else if x.step = 2 ∧ 40 ≤ (s.goodLanes d g x).length then s.buildMap d g x
      else if x.step ≤ 2 then
        if s.up < x.since + 10000000 then
          ((s.fire d 0x154).fault d 0x01 0 (g * 256)).later (x.since + 10000000 - s.up) (.fabricTrainTimeout d g)
        else ((s.fire d 0x154).fault d 0x01 0 (g * 256)).restartGroup d g
      else if s.up < x.since + 10000000 then s.later (x.since + 10000000 - s.up) (.fabricTrainTimeout d g)
      else s.restartGroup d g) := by
  subst hx
  exact (withGroup_live hst hd hp _).trans (congrArg _ (if_neg (by rw [hf, hg]; decide)))

theorem restartGroup_sends (u : State)
    (hu : u = ((s.setGroup d g { Group.fresh with since := s.up, step := 1 }).later 2000000 (.fabricTrainTimeout d g)).wr Od.fabricGroupState 1 (dieInst d) g) :
    s.restartGroup d g = u.emit (.lanes d g ((List.range 44).map (u.blockOf d g))) := by
  have hlimit : s.up + trainLimit 1 - s.up = 2000000 := Nat.add_sub_cancel_left ..
  unfold State.restartGroup State.trainStep
  dsimp only
  rw [hlimit, ← hu]

/-! Superframes. -/

theorem execSuperframeRx_up (hst : s.stopped = false) (hd : s.hasDie d = true) (hp : groupPeer s.part d g = some p) (corrected : Nat)
    (hup : s.groupState d g = 2) (ok : Bool) (bad : List Nat) :
    exec (.superframeRx d g corrected ok bad) s = .next (
      if ok then (s.bump Od.fabricCorrectedSymbols (dieInst d) g corrected).superframeGood d p g bad
      else (s.bump Od.fabricCorrectedSymbols (dieInst d) g corrected).superframeBad d p g) :=
  (withGroup_live hst hd hp _).trans (congrArg _ (if_pos hup))

theorem execSuperframeRx_trains (hst : s.stopped = false) (hd : s.hasDie d = true) (hp : groupPeer s.part d g = some p) (corrected : Nat)
    (htrains : s.groupState d g = 1) (ok : Bool) (bad : List Nat) :
    exec (.superframeRx d g corrected ok bad) s = .next (
      if ok = true ∧ (s.group d g).step = 4 then
        (s.bump Od.fabricCorrectedSymbols (dieInst d) g corrected).setGroup d g { s.group d g with step := 5 }
      else if ok = true ∧ (s.group d g).step = 5 then (s.bump Od.fabricCorrectedSymbols (dieInst d) g corrected).groupUp d g
      else s) := by
  refine (withGroup_live hst hd hp _).trans (congrArg _ ((if_neg (by rw [htrains]; decide)).trans ?_))
  rw [htrains]
  simp only [true_and]

theorem superframeBad_none (h : (s.formFrame p d g).2 = none) : s.superframeBad d p g = s := by
  unfold State.superframeBad
  dsimp only
  rw [h]

theorem superframeGood_none (h : (s.formFrame p d g).2 = none) (bad : List Nat) : s.superframeGood d p g bad = s := by
  unfold State.superframeGood
  dsimp only
  rw [h]

theorem superframeBad_some {f : Superframe} (h : (s.formFrame p d g).2 = some f) :
    s.superframeBad d p g =
      if (s.group d g).nak ∧ f.again = false then (s.formFrame p d g).1 else (s.formFrame p d g).1.countRetry d g f.seq := by
  unfold State.superframeBad
  dsimp only
  rw [h]

theorem superframeGood_some {r : State} (hr : r = (s.formFrame p d g).1) {f : Superframe} (h : (s.formFrame p d g).2 = some f) (bad : List Nat)
    {y : Group} (hy : y = r.group d g) :
    s.superframeGood d p g bad =
      if y.nak ∧ f.again = false then r
      else (f.cells.zipIdx).foldl (fun (a : State) (e : FabricCell × Nat) => a.cellIn d g e.1 (bad.contains e.2))
        (if f.seq % 4096 = 0 then (r.setGroup d g { y with acked := f.seq, nak := false, fifoFreed := y.fifoFreed + f.cells.length }).checkSpare d g
          else (r.setGroup d g { y with acked := f.seq, nak := false, fifoFreed := y.fifoFreed + f.cells.length }).takeControl d g f (s.group p g).acked
            (s.group p g).nak) := by
  unfold State.superframeGood
  dsimp only
  rw [h, ← hr, ← hy]

/-- A resend that is asked for, and a lane check with the 17th in a millisecond. -/
theorem countRetry_counts {seq n : Nat} {fresh : Bool} {y : Group} (hy : y = s.group d g) (hfresh : fresh = decide (y.retryFrom + 1000000 ≤ s.up))
    (hn : n = if fresh then 1 else y.retries + 1) {u : State}
    (hu : u = ((s.setGroup d g { y with retries := n, retryFrom := if fresh then s.up else y.retryFrom, nak := true }).bump Od.fabricRetries
      (dieInst d) g).fault d 0x02 0 g seq n) :
    s.countRetry d g seq = if n = 17 then u.emit (.link 6 (d * 8 + g) [0x101]) else u := by
  unfold State.countRetry
  dsimp only
  rw [← hy, ← hfresh, ← hn, ← hu]

theorem cellIn_here {c : FabricCell} (hc : bits c.header 121 119 = d) (bad : Bool) : s.cellIn d g c bad = s.recvCell d c bad := if_pos hc

theorem recvCell_bad (c : FabricCell) : s.recvCell d c true = s.bump Od.fabricCellCrc (dieInst d) := if_pos rfl

/-- A good superframe after an answer that was not NAK: its acknowledgement, its control block and its cells. -/
theorem superframeGood_takes (hs : sparseRising none s.fabric.groups = true) {r : State} (hr : r = (s.formFrame p d g).1) {f : Superframe}
    (h : (s.formFrame p d g).2 = some f) (hnak : (s.group d g).nak = false) {y : Group} (hy : y = r.group d g) (bad : List Nat) :
    s.superframeGood d p g bad =
      (f.cells.zipIdx).foldl (fun (a : State) (e : FabricCell × Nat) => a.cellIn d g e.1 (bad.contains e.2))
        (if f.seq % 4096 = 0 then (r.setGroup d g { y with acked := f.seq, nak := false, fifoFreed := y.fifoFreed + f.cells.length }).checkSpare d g
          else (r.setGroup d g { y with acked := f.seq, nak := false, fifoFreed := y.fifoFreed + f.cells.length }).takeControl d g f (r.group p g).acked
            (r.group p g).nak) := by
  have hkept : AnswersKept s r := hr ▸ (AnswersKept.refl hs).formFrame p d g
  have hopen : y.nak = false := by rw [hy, hkept.nak, hnak]
  rw [superframeGood_some hr h bad hy, if_neg (by rw [hopen]; exact fun h => Bool.false_ne_true h.1), hkept.nak, hkept.acked]

end

/-- Settles O50: each training block by the step that it meets, each limit by the group's state, and each superframe through the frame that the peer forms. -/
theorem groupTraining : Obligations.GroupTraining := by
  intro s d g p x hst hd hp hx
  refine ⟨fun block => execTrainingBlockRx_ignored hst hd hp, ?_, execFabricTrainTimeout_fenced hst hd hp, ?_, ?_⟩
  · rintro block lane htrains hlen hmark hcrc rfl hlane
    refine ⟨fun hstep hpeer hnew y hy => ?_, fun hstep hpeer hlock hboth map hmap => ?_⟩
    · have hread := readBlock_locks hx hstep hpeer hnew hy
      refine ⟨fun hn u hu => ?_, fun hn u hu => ?_⟩
      · exact execTrainingBlockRx_reads hst hd hp htrains hlen hmark hcrc hlane (by omega) (by rw [hread, if_neg hn, hu])
      · exact execTrainingBlockRx_reads hst hd hp htrains hlen hmark hcrc hlane (by omega) (by rw [hread, if_pos hn, hu])
    · have hread := readBlock_echoes hx hstep hpeer hlock hboth hmap rfl
      refine ⟨fun hne u hu => ?_, fun he hn u hu => ?_, fun he hn u hu => ?_⟩
      · refine execTrainingBlockRx_reads hst hd hp htrains hlen hmark hcrc hlane (by omega) ?_
        rw [hread, if_neg hne, if_neg (by decide), hu]
      · refine execTrainingBlockRx_reads hst hd hp htrains hlen hmark hcrc hlane (by omega) ?_
        rw [hread, if_pos he, if_neg (by omega), hu]
      · refine execTrainingBlockRx_reads hst hd hp htrains hlen hmark hcrc hlane (by omega) ?_
        rw [hread, if_pos he, hn, if_pos rfl, hu]
  · intro hf hg
    have hexec := execFabricTrainTimeout_open hst hd hp hf hg hx
    refine ⟨fun hstate hover u hu => ?_, fun hstate => ?_, fun hstate hstep hearly => ?_, fun hstate hstep hlate hl => ?_,
      fun hstate hstep hlate hearly hl => ?_⟩
    · rw [hexec, if_pos hstate, if_pos hover, restartGroup_sends u hu]
    · rw [hexec, if_neg (by omega), if_pos (.inl (by omega))]
    · rw [hexec, if_neg (by omega), if_pos (.inr (by rw [hstep]; exact hearly))]
    · rw [hexec, if_neg (by omega), if_neg (by rw [hstep, hstate]; exact fun h => h.elim (· rfl) (Nat.not_lt.2 hlate)), if_pos ⟨hstep, hl⟩]
      rfl
    · rw [hexec, if_neg (by omega), if_neg (by rw [hstep, hstate]; exact fun h => h.elim (· rfl) (Nat.not_lt.2 hlate)), if_neg (by omega),
        if_neg (by omega), if_pos (by omega), if_pos hearly]
  · intro corrected s1 h1
    have hgroup : ∀ e, s1.group e g = s.group e g := fun e => by
      unfold State.group
      rw [h1, State.bump_fabric]
    refine ⟨fun hstate hstep bad => ?_, fun hstate hstep bad => ?_, fun hstate bad => ?_, fun hup hnone ok bad => ?_, fun hup hrising r f bad hr hf => ?_,
      fun y hy hresend => ⟨fun hw => formFrame_full (hy ▸ hresend) (hy ▸ hw), fun hw hn ht hs => ?_⟩⟩
    · rw [execSuperframeRx_trains hst hd hp corrected hstate, ← hx, if_pos ⟨rfl, hstep⟩, h1]
    · rw [execSuperframeRx_trains hst hd hp corrected hstate, ← hx, if_neg (by omega), if_pos ⟨rfl, hstep⟩, ← h1]
      unfold State.groupUp
      rw [hgroup, ← hx]
    · rw [execSuperframeRx_trains hst hd hp corrected hstate, if_neg (by simp), if_neg (by simp)]
    · rw [execSuperframeRx_up hst hd hp corrected hup, ← h1, superframeGood_none hnone, superframeBad_none hnone, ite_self]
    · have hrising1 : sparseRising none s1.fabric.groups = true := by rw [h1, State.bump_fabric]; exact hrising
      have hkept : AnswersKept s1 r := hr ▸ (AnswersKept.refl hrising1).formFrame p d g
      have hnak : (s1.group d g).nak = x.nak := by rw [hgroup, hx]
      have hexec := execSuperframeRx_up hst hd hp corrected hup
      rw [← h1] at hexec
      refine ⟨fun hn hagain ok => ?_, fun hn y n fresh hy hfresh hcount u hu => ?_, fun hn y u hy => ⟨fun hseq hcells hu => ?_, fun c hseq hcells hc hu => ?_⟩⟩
      · have hdiscarded : x.nak = true ∧ f.again = false := ⟨hn, hagain⟩
        rw [hexec, superframeGood_some hr hf bad rfl, superframeBad_some hf, hnak, hkept.nak, hnak, ← hr, if_pos hdiscarded, if_pos hdiscarded, ite_self]
      · have hbad : exec (.superframeRx d g corrected false bad) s = .next (if n = 17 then u.emit (.link 6 (d * 8 + g) [0x101]) else u) := by
          rw [hexec, if_neg Bool.false_ne_true, superframeBad_some hf, hnak, hn, if_neg (fun h => Bool.false_ne_true h.1), ← hr,
            countRetry_counts hy hfresh hcount hu]
        exact ⟨fun h => hbad.trans (congrArg _ (if_neg h)), fun h => hbad.trans (congrArg _ (if_pos h))⟩
      · rw [hexec, if_pos rfl, superframeGood_takes hrising1 hr hf (hnak.trans hn) hy, if_pos hseq, hcells, hu]
        rfl
      · have hgood : ∀ bad : List Nat, exec (.superframeRx d g corrected true bad) s = .next (u.cellIn d g c (bad.contains 0)) := fun bad => by
          rw [hexec, if_pos rfl, superframeGood_takes hrising1 hr hf (hnak.trans hn) hy, if_neg hseq, hcells, hu]
          rfl
        exact ⟨(hgood [0]).trans (congrArg _ ((cellIn_here hc _).trans (recvCell_bad c))), (hgood []).trans (congrArg _ (cellIn_here hc _))⟩
    · subst hy
      rw [formFrame_new hresend hw hn, newSuperframe_own (by omega) ht hs]

end Sys2Proof.Machine
end

section
namespace Sys2Proof.Machine

/-! Cells on the fabric. -/

/-- A field stands under the writes of fields below it. -/
theorem bits_putFields_below {hi lo : Nat} (l : List (Nat × Nat × Nat)) (hl : ∀ f ∈ l, f.2.1 ≤ f.1 ∧ f.1 < lo) (n : Nat) :
    bits (putFields n l) hi lo = bits n hi lo := by
  induction l generalizing n with
  | nil => rfl
  | cons f rest ih =>
    obtain ⟨hf, habove⟩ := hl f List.mem_cons_self
    exact (ih (fun e he => hl e (List.mem_cons_of_mem _ he)) _).trans (bits_putBits_above n _ hf habove)

/-- A field that is written before fields below it. -/
theorem bits_putFields_at {hi lo v : Nat} {l : List (Nat × Nat × Nat)} (k : Nat) (hk : l.drop k = (hi, lo, v) :: l.drop (k + 1)) (hlo : lo ≤ hi)
    (hafter : ∀ f ∈ l.drop (k + 1), f.2.1 ≤ f.1 ∧ f.1 < lo) (n : Nat) : bits (putFields n l) hi lo = low (hi + 1 - lo) v := by
  have hsplit : putFields n l = putFields (putBits (putFields n (l.take k)) hi lo v) (l.drop (k + 1)) :=
    calc putFields n l = putFields n (l.take k ++ (hi, lo, v) :: l.drop (k + 1)) := by rw [← hk, List.take_append_drop]
      _ = _ := List.foldl_append ..
  rw [hsplit, bits_putFields_below _ hafter, bits_putBits_same _ _ hlo]

/-- The fields of a cell's header above its CRC. -/
def headerFields (src dst via v seq : Nat) (x : CellDraft) : List (Nat × Nat × Nat) :=
  [(127, 127, 1), (124, 122, src), (121, 119, dst), (118, 116, via), (115, 103, v), (102, 87, seq), (86, 79, x.payload.length - 1), (78, 70, x.first),
    (69, 69, b2n (x.ends.getD 0 false)), (68, 68, b2n (x.ends.getD 1 false)), (67, 67, b2n (x.ends.getD 2 false))]

theorem cellHeader_above (src dst via v seq : Nat) (x : CellDraft) {hi lo : Nat} (h : 66 < lo) :
    bits (cellHeader src dst via v seq x) hi lo = bits (putFields 0 (headerFields src dst via v seq x)) hi lo :=
  bits_putBits_above _ _ (by decide) h

/-- The fields of a cell's header that name its source, destination, path and place. -/
theorem cellHeader_fields {src dst via v seq : Nat} (x : CellDraft) (hsrc : src < 8) (hdst : dst < 8) (hvia : via < 8) (hv : v < 8192) (hseq : seq < 65536) :
    bits (cellHeader src dst via v seq x) 124 122 = src ∧ bits (cellHeader src dst via v seq x) 121 119 = dst ∧
      bits (cellHeader src dst via v seq x) 118 116 = via ∧ bits (cellHeader src dst via v seq x) 115 103 = v ∧
      bits (cellHeader src dst via v seq x) 102 87 = seq := by
  refine ⟨?_, ?_, ?_, ?_, ?_⟩ <;> rw [cellHeader_above _ _ _ _ _ _ (by decide)]
  · exact (bits_putFields_at 1 rfl (by decide) (by simp [headerFields]) 0).trans (low_of_lt (Nat.lt_of_lt_of_eq hsrc (by decide)))
  · exact (bits_putFields_at 2 rfl (by decide) (by simp [headerFields]) 0).trans (low_of_lt (Nat.lt_of_lt_of_eq hdst (by decide)))
  · exact (bits_putFields_at 3 rfl (by decide) (by simp [headerFields]) 0).trans (low_of_lt (Nat.lt_of_lt_of_eq hvia (by decide)))
  · exact (bits_putFields_at 4 rfl (by decide) (by simp [headerFields]) 0).trans (low_of_lt (Nat.lt_of_lt_of_eq hv (by decide)))
  · exact (bits_putFields_at 5 rfl (by decide) (by simp [headerFields]) 0).trans (low_of_lt (Nat.lt_of_lt_of_eq hseq (by decide)))

section
variable {s : State} {d dst v : Nat}

theorem setGroup_put {g : Nat} {x : Group} (hx : x ≠ Group.fresh) :
    s.setGroup d g x = { s with fabric := { s.fabric with groups := sparsePut s.fabric.groups (d * 8 + g) x } } := by
  unfold State.setGroup sparseSet
  rw [if_neg hx]

/-- A cell of a stream that takes the direct group. -/
theorem sendCell_direct {g : Nat} {x : SendStream} {y : CellDraft}
    (hx : x = sparseGet (fun _ => SendStream.fresh) s.fabric.sends ((d * 8 + dst) * 8192 + v))
    (hg : nextOf (sparseGet (fun _ => 6) s.fabric.turn (d * 8 + dst)) (s.openGroups d dst) = some g)
    (hy : s.fillCell x.packets { payload := [], parts := [], first := 256, ends := [], left := [] } = some y) (hp : y.payload ≠ []) {q : Group}
    (hq : q = { s.group d g with
      own := (s.group d g).own ++ [{ header := cellHeader d dst d v x.seq y, payload := y.payload, parts := y.parts }],
      fifoUsed := (s.group d g).fifoUsed + 1 }) :
    s.sendCell d dst v = { s with fabric := { s.fabric with
      groups := sparsePut s.fabric.groups (d * 8 + g) q,
      sends := sparsePut s.fabric.sends ((d * 8 + dst) * 8192 + v) { seq := (x.seq + 1) % 65536, packets := y.left },
      turn := sparsePut s.fabric.turn (d * 8 + dst) g } } := by
  have hpath : s.cellPath d dst = some (g, d) := by
    unfold State.cellPath
    rw [hg]
  have hset := setGroup_put (s := s) (d := d) (g := g) (x := q) fun hfresh => by
    have hused : (s.group d g).fifoUsed + 1 = 0 := (congrArg Group.fifoUsed hq).symm.trans (congrArg Group.fifoUsed hfresh)
    exact absurd hused (Nat.succ_ne_zero _)
  unfold State.sendCell
  dsimp only
  rw [hpath, ← hx, hy]
  dsimp only
  rw [if_neg hp, if_pos rfl, if_pos rfl, if_pos rfl, if_pos rfl, ← hq, hset]

/-- Without a group that is UP no cell has a path. -/
theorem sendCell_waits (h : ∀ g, g < 7 → groupPeer s.part d g = none ∨ s.groupState d g ≠ 2) : s.sendCell d dst v = s := by
  have hclosed : ∀ p, s.openGroups d p = [] := fun p => by
    refine List.filter_eq_nil_iff.2 fun g hg => ?_
    obtain hnone | hdown := h g (List.mem_range.1 hg)
    · simp [hnone]
    · simp [hdown]
  have hpath : s.cellPath d dst = none := by
    unfold State.cellPath
    dsimp only
    split
    · rename_i hsome
      simp [hclosed, nextOf] at hsome
    · split
      · rfl
      · rename_i hsome
        rw [List.filter_eq_nil_iff.2 fun m _ => by simp [hclosed]] at hsome
        simp [nextOf] at hsome
  unfold State.sendCell
  dsimp only
  rw [hpath]

/-! A gap that is given up. -/

/-- An error leaves no copy and no held cell where there was none, whether or not it resets the engine. -/
theorem fault_nothingHeld {key : Nat} (source cls location d0 d1 : Nat) (hsrc : 2 < source) (hcopies : s.tm.copies = []) (hheld : (s.recv key).held = []) :
    (s.fault d source cls location d0 d1).tm.copies = [] ∧ ((s.fault d source cls location d0 d1).recv key).held = [] := by
  obtain ⟨u, m, hq, -, heq⟩ := recordFault_reacts (s := s)
    { die := d, source := source, cls := cls, location := location, detail0 := d0, detail1 := d1, spareUsed := false, repairing := false } (.inr hsrc)
  unfold State.fault
  rw [heq]
  split
  · exact ⟨rfl, rfl⟩
  · refine ⟨by rw [hq.tm, hcopies], ?_⟩
    unfold State.recv at hheld ⊢
    rw [hq.fabric, hheld]

theorem takePart_absent (hcopies : s.tm.copies = []) (key : Nat) (part : Nat × Nat) : s.takePart key part = s := by
  have hnone : s.copy? part.1 = none := by
    unfold State.copy?
    rw [hcopies]
    rfl
  unfold State.takePart
  rw [hnone]

theorem deliverCells_nothingHeld {key : Nat} (hheld : (s.recv key).held = []) (fuel : Nat) : s.deliverCells key fuel = s := by
  cases fuel with
  | zero => rfl
  | succ n =>
    unfold State.deliverCells
    dsimp only
    rw [hheld]
    rfl

theorem watchGap_nothingHeld {src : Nat} (hheld : (s.recv ((src * 8 + d) * 8192 + v)).held = []) (before : Nat) : s.watchGap d src v before = s :=
  if_pos (.inl hheld)

/-- A stream of one held cell in which no packet begins gives it up. -/
theorem giveUpGap_discards {src seq : Nat} {c : FabricCell} {x : RecvStream} (hx : x = s.recv ((src * 8 + d) * 8192 + v)) (hheld : x.held = [(seq, c)])
    (hfirst : bits c.header 78 70 = 256) : s.giveUpGap d src v = s.setRecv ((src * 8 + d) * 8192 + v) { x with held := [] } := by
  unfold State.giveUpGap
  dsimp only
  rw [← hx, hheld, List.filter_cons_of_neg (by simp [hfirst])]
  rfl

/-- A stream of one held cell in which a packet begins goes on after it. -/
theorem giveUpGap_resumes {src seq : Nat} {c : FabricCell} {x : RecvStream} (hx : x = s.recv ((src * 8 + d) * 8192 + v)) (hheld : x.held = [(seq, c)])
    (hcopies : s.tm.copies = []) (hfirst : bits c.header 78 70 ≠ 256) {t : State}
    (ht : t = s.setRecv ((src * 8 + d) * 8192 + v) { expected := (seq + 1) % 65536, held := [], since := 0, got := [] }) :
    s.giveUpGap d src v = t.fault d 0x03 2 (src * 65536 + v) x.expected 0 := by
  have hrecv : (t.recv ((src * 8 + d) * 8192 + v)).held = [] := by
    unfold State.recv
    rw [ht]
    simp [State.setRecv, sparseGet, sparseFind?_put]
  obtain ⟨hcopies2, hheld2⟩ := fault_nothingHeld (d := d) (s := t) 3 2 (src * 65536 + v) x.expected 0 (by decide) (by rw [ht]; exact hcopies) hrecv
  unfold State.giveUpGap
  dsimp only
  rw [← hx, hheld, List.filter_cons_of_pos (by simpa using hfirst), List.filter_nil, List.find?_cons_of_pos (by simp), hcopies]
  dsimp only
  rw [List.filter_cons_of_neg (by simp), List.filter_nil, List.filter_nil, List.foldl_nil, ← ht]
  have hparts : ∀ l : List (Nat × Nat), l.foldl (fun (a : State) p => a.takePart ((src * 8 + d) * 8192 + v) p)
      (t.fault d 3 2 (src * 65536 + v) x.expected 0) = t.fault d 3 2 (src * 65536 + v) x.expected 0 :=
    fun l => foldl_id _ l fun p _ => takePart_absent hcopies2 _ p
  rw [List.length_nil, hparts, deliverCells_nothingHeld hheld2, watchGap_nothingHeld hheld2]

end

/-- Settles O51: a cell is sent on the direct group or waits, and a gap is given up as its only held cell tells. -/
theorem fabricCells : Obligations.FabricCells := by
  intro s d hst hd
  refine ⟨fun dst v h => ?_, fun dst v x hne hdst hx => ⟨fun hclosed => ?_, fun g y hg hd8 hdst8 hv hseq hy hp => ?_⟩, fun src v x hx => ⟨fun h => ?_, fun hover seq c hheld hcopies => ?_⟩⟩
  · refine (withDie_live hd hst _).trans (congrArg _ (if_neg ?_))
    rintro ⟨hthere, hother⟩
    exact h.elim hother fun hgone => absurd (hgone.symm.trans hthere) (by decide)
  · refine (withDie_live hd hst _).trans (congrArg _ ((if_pos ⟨hdst, hne⟩).trans ?_))
    exact sendCell_waits hclosed
  · obtain ⟨hfrom, hto, hvia, hstream, hplace⟩ := cellHeader_fields y hd8 hdst8 hd8 hv hseq
    have hsent : exec (.fabricCellSend d dst v) s = .next _ :=
      (withDie_live hd hst _).trans (congrArg _ ((if_pos ⟨hdst, hne⟩).trans (sendCell_direct hx hg hy hp rfl)))
    refine ⟨_, hsent, { header := cellHeader d dst d v x.seq y, payload := y.payload, parts := y.parts }, ?_, ?_, rfl, rfl, hfrom, hto, hvia, hstream, hplace,
      ?_, rfl⟩
    · simp [State.group, sparseGet, sparseFind?_put]
    · simp [State.group, sparseGet, sparseFind?_put]
    · simp [sparseFind?_put]
  · refine (withDie_live hd hst _).trans (congrArg _ (if_neg ?_))
    rintro ⟨hsome, hlate⟩
    rw [← hx] at hsome hlate
    exact h.elim hsome (Nat.not_lt.2 hlate)
  · have hgap : exec (.reseqTimeout d src v) s = .next (s.giveUpGap d src v) := by
      refine (withDie_live hd hst _).trans (congrArg _ (if_pos ?_))
      rw [← hx, hheld]
      exact ⟨List.cons_ne_nil _ _, hover⟩
    refine ⟨fun hfirst => ?_, fun hfirst => ?_⟩
    · rw [hgap, giveUpGap_discards hx hheld hfirst]
    · rw [hgap, giveUpGap_resumes hx hheld hcopies hfirst rfl]

end Sys2Proof.Machine
end

section
namespace Sys2Proof.Machine

/-! Spare lanes of the fabric, and its time alignment. -/

section
variable {s : State} {d g p : Nat}

/-! Lanes that are lost. -/

/-- A lost lane is erased, and its replacement begins, where none is in progress and a spare or the code is left. -/
theorem laneTrigger_erases {x : Group} {l : Nat} (hx : x = s.group d g) (hjob : x.job = none) (hl : l ∉ x.erased)
    (hleft : s.spareLane d g = none → x.erased = []) :
    s.laneTrigger d g l 1 = (s.setGroup d g { x with erased := x.erased ++ [l] }).replaceLane d g l := by
  have hnew : x.erased.contains l = false := by simpa using hl
  unfold State.laneTrigger
  dsimp only
  rw [← hx, hnew, if_neg (fun h => h.2.1.2.1 (hleft h.2.1.2.2)), if_pos (by simp)]
  split
  next j hj => exact absurd (hjob.symm.trans hj) (by simp)
  next => rfl

theorem replaceLane_some {l i : Nat} (hspare : s.spareLane d g = some i) :
    s.replaceLane d g l = (s.setGroup d g { s.group d g with job := some { lane := l, spare := i, step := 0, back := false } }).emit
      (.link 6 (d * 8 + g) [1, i, l]) := by
  unfold State.replaceLane
  rw [hspare]

theorem replaceLane_none {l : Nat} (hspare : s.spareLane d g = none) :
    s.replaceLane d g l = (s.fire d 0x154).fault d 0x01 0 (g * 256 + s.laneOf d g l) := by
  unfold State.replaceLane
  rw [hspare]

/-- A second one without a spare takes the group down. -/
theorem laneTrigger_breaks {x : Group} {l : Nat} (hx : x = s.group d g) (hjob : x.job = none) (hl : l ∉ x.erased) (hsome : x.erased ≠ [])
    (hspare : s.spareLane d g = none) : s.laneTrigger d g l 1 = (s.breakGroup d g 3).fault d 0x02 2 g x.sfSeq x.retries := by
  have hnew : x.erased.contains l = false := by simpa using hl
  unfold State.laneTrigger
  dsimp only
  rw [← hx, if_pos ⟨rfl, ⟨by rw [hjob]; rfl, hsome, hspare⟩, hnew⟩]
  unfold State.groupLost
  rw [← hx]

/-- A replacement whose SWITCH has come: the map names the spare, which is in service, and the old lane is retired. -/
theorem switchLane_takes {x : Group} {i l : Nat} {s1 s2 s3 : State} (hx : x = s.group d g) (hold : s.laneOf d g l < 40)
    (h1 : s1 = s.setGroup d g { x with job := none, erased := x.erased.filter (· ≠ l) })
    (h2 : s2 = (((s1.wrOctet Od.fabricLaneMap (dieInst d) g l (40 + i)).setSpare 1 d g i 3).bump Od.fabricLaneSwitchovers (dieInst d) g))
    (h3 : s3 = ((s2.faultSpare d 0x01 1 (g * 256 + s.laneOf d g l) (if l ∈ x.erased then 1 else 2)).fire d 0x153).retire 1 d g (s.laneOf d g l) 0x01)
    (hwait : (s3.group d g).waiting = []) :
    s.switchLane d g { lane := l, spare := i, step := 2, back := false } = s3 := by
  have hcause : (if x.erased.contains l then 1 else 2) = if l ∈ x.erased then 1 else 2 := by simp
  unfold State.switchLane
  dsimp only
  rw [if_neg Bool.false_ne_true, ← hx, ← h1, ← h2, if_neg (Nat.not_le.2 hold), hcause, ← h3]
  unfold State.nextLane
  dsimp only
  rw [hwait]

/-! Time alignment. -/

/-- The stamps that go out on a list of groups. -/
theorem foldl_sendTime (kind value : Nat) (l : List Nat) (hl : l.Nodup) (hg : ∀ h ∈ l, h < 7) (t : State) :
    ∃ m, l.foldl (fun (a : State) g => a.sendTime d g kind value) t = { t with fabric := { t.fabric with groups := m } } ∧
      ∀ h, h < 7 → (({ t with fabric := { t.fabric with groups := m } } : State).group d h).times =
        (t.group d h).times ++ if h ∈ l then [(kind, value)] else [] := by
  induction l generalizing t with
  | nil => exact ⟨t.fabric.groups, rfl, fun h _ => (List.append_nil _).symm⟩
  | cons g rest ih =>
    obtain ⟨hnot, hrest⟩ := List.nodup_cons.1 hl
    obtain ⟨m, hm, htimes⟩ := ih hrest (fun h hh => hg h (List.mem_cons_of_mem _ hh)) (t.sendTime d g kind value)
    have hset : t.sendTime d g kind value = { t with fabric := { t.fabric with
        groups := sparsePut t.fabric.groups (d * 8 + g) { t.group d g with times := (t.group d g).times ++ [(kind, value)] } } } :=
      setGroup_put fun h => absurd (congrArg Group.times h) (List.concat_ne_nil _ _)
    refine ⟨m, ?_, fun h hh => ?_⟩
    · rw [List.foldl_cons, hm, hset]
    · have hkept := htimes h hh
      have hgroup : ((t.sendTime d g kind value).group d h).times = (t.group d h).times ++ if h = g then [(kind, value)] else [] := by
        by_cases heq : h = g
        · subst heq
          rw [hset]
          simp [State.group, sparseGet, sparseFind?_put]
        · rw [hset]
          have hne : ¬ g = h := fun e => heq e.symm
          simp [State.group, sparseGet, sparseFind?_put, heq, hne]
      rw [hgroup] at hkept
      refine (Eq.trans ?_ hkept).trans ?_
      · rw [hset]
      · by_cases heq : h = g
        · subst heq
          simp [hnot]
        · simp [heq]

/-- The die to align to is the other end of the group. -/
theorem execTimeStampRx_kept (hst : s.stopped = false) (hd : s.hasDie d = true) (hp : groupPeer s.part d g = some p) (value arrival : Nat) {s1 : State}
    (h1 : s1 = s.setGroup d g { s.group d g with times := (s.group d g).times ++ [(2, arrival % 2 ^ 64)] }) :
    (s.alignTo d = none → exec (.timeStampRx d g value arrival) s = .next (s1.wr Od.fabricTimeRelayed 0 (dieInst d))) ∧
    (∀ r relayed, s.alignTo d = some (r, relayed) → ∀ s2 : State, s2 = s1.wr Od.fabricTimeRelayed (if relayed then 1 else 0) (dieInst d) →
      (r ≠ p → exec (.timeStampRx d g value arrival) s = .next s2) ∧
      (r = p → exec (.timeStampRx d g value arrival) s =
        .next (s2.setExchange d { s.exchange d with t1 := value % 2 ^ 64, t2 := arrival % 2 ^ 64 }))) := by
  have hsend : s.sendTime d g 2 (low 64 arrival) = s1 := h1.symm
  refine ⟨fun halign => ?_, fun r relayed halign s2 h2 => ?_⟩
  · refine (withGroup_live hst hd hp _).trans (congrArg _ ?_)
    dsimp only
    rw [halign, hsend]
  · have hrelayed : s1.wr Od.fabricTimeRelayed (b2n relayed) (dieInst d) = s2 := by rw [h2]; cases relayed <;> rfl
    have hexchange : s2.exchange d = s.exchange d := by rw [h2, h1]; rfl
    have hexec : exec (.timeStampRx d g value arrival) s =
        .next (if r = p then s2.setExchange d { s2.exchange d with t1 := low 64 value, t2 := low 64 arrival } else s2) := by
      refine (withGroup_live hst hd hp _).trans (congrArg _ ?_)
      dsimp only
      rw [halign, hsend]
      dsimp only
      rw [hrelayed]
    rw [hexec, hexchange]
    exact ⟨fun h => congrArg _ (if_neg h), fun h => congrArg _ (if_pos h)⟩

theorem timeEcho_takes {value n : Nat} {e : TimeExchange} {offset : Int} (he : e = s.exchange d)
    (hoffset : offset = (timeDiff e.t2 e.t1 - timeDiff value e.t3) / 2) (hn : n = if offset.natAbs ≤ 65536 then 0 else e.offCount + 1) {s1 : State}
    (h1 : s1 = (s.setExchange d { e with offCount := n }).wr Od.fabricTimeOffset (ofSigned 32 offset) (dieInst d)) :
    s.timeEcho d value = if n = 16 then (s1.fire d 0x155).fault d 0x13 0 d (ofSigned 32 (offset / 65536)) else s1 := by
  unfold State.timeEcho
  dsimp only
  rw [← he, ← hoffset, ← hn, ← h1]

end

/-- Settles O52: each lane command against the lane and the spare in hand, and each time message against the die to align to. -/
theorem fabricLanes : Obligations.FabricLanes := by
  intro s d g p x hst hd hp hx
  have hexec : ∀ {f : Nat → State}, withGroup s d g f = .next (f p) := fun {f} => withGroup_live hst hd hp f
  refine ⟨fun l cause h => hexec.trans (congrArg _ (if_neg ?_)), fun l hl hup hjob u hnew hu => ?_, fun i l hl hi => ?_, fun i l hother => ?_,
    fun i l s1 s2 s3 hjob _ hold h1 h2 h3 hwait => ?_, ?_, fun value arrival s1 h1 => execTimeStampRx_kept hst hd hp value arrival (by rw [h1, hx]),
    fun value e offset hvalue he hoffset => ⟨fun r relayed halign hr => ?_, fun relayed halign n s1 hn h1 => ?_⟩⟩
  · rintro ⟨hlow, hup⟩
    exact h.elim (Nat.not_le.2 hlow) (· hup)
  · have htrigger : exec (.fabricLaneTrigger d g l 1) s = .next (s.laneTrigger d g l 1) := hexec.trans (congrArg _ (if_pos ⟨hl, hup⟩))
    have hgroup : u.group d g = { x with erased := x.erased ++ [l] } := by
      rw [hu]
      exact group_setGroup_other fun h => absurd (congrArg Group.erased h) (List.concat_ne_nil _ _)
    have hspares : u.spareLane d g = s.spareLane d g := by rw [hu]; rfl
    have hlane : u.laneOf d g l = s.laneOf d g l := by rw [hu]; rfl
    refine ⟨fun i hi => ?_, fun hnone hempty => ?_, fun hnone hsome => ?_⟩
    · rw [htrigger, laneTrigger_erases hx hjob hnew (fun h => absurd (hi.symm.trans h) (by simp)), ← hu, replaceLane_some (hspares.trans hi), hgroup]
    · rw [htrigger, laneTrigger_erases hx hjob hnew (fun _ => hempty), ← hu, replaceLane_none (hspares.trans hnone), hlane]
    · rw [htrigger, laneTrigger_breaks hx hjob hnew hsome hnone]
  · subst hx
    refine ⟨fun hm => hexec.trans (congrArg _ (if_pos ⟨hl, hi, hm⟩)), fun hm => hexec.trans (congrArg _ (if_neg fun h => hm h.2.2)),
      fun hm => hexec.trans (congrArg _ (if_pos hm)), fun hm => hexec.trans (congrArg _ (if_neg hm)), fun y hy hm hjob hlane hfree => ?_,
      fun hlane => hexec.trans (congrArg _ (if_neg fun h => hlane h.2.2.2.2.1))⟩
    subst hy
    exact hexec.trans (congrArg _ (if_pos ⟨hl, hi, hm, hjob, hlane, hfree⟩))
  · refine hexec.trans (congrArg _ ?_)
    rw [← hx]
    split
    next j hj =>
      refine if_neg fun h => ?_
      obtain ⟨hlane, hspare, hstep⟩ := h
      exact (hother j hj).elim (· hlane) fun h => h.elim (· hspare) (· hstep)
    next => rfl
  · refine hexec.trans (congrArg _ ?_)
    rw [← hx, hjob]
    exact (if_pos ⟨rfl, rfl, rfl⟩).trans (switchLane_takes hx hold h1 h2 h3 hwait)
  · obtain ⟨m, hm, htimes⟩ := foldl_sendTime (d := d) 1 (low 64 (time96 s.time.now)) ((List.range 7).filter fun g => (groupPeer s.part d g).isSome)
      (List.nodup_range.filter _) (fun h hh => List.mem_range.1 (List.mem_filter.1 hh).1)
      (s.setExchange d { s.exchange d with t3 := low 64 (time96 s.time.now) })
    refine ⟨_, (withDie_live hd hst _).trans (congrArg _ hm), ?_, fun h hh hrouted => ?_, rfl⟩
    · simp [State.exchange, State.setExchange, sparseGet, sparseFind?_put, low]
    · refine (htimes h hh).trans ?_
      rw [if_pos (List.mem_filter.2 ⟨List.mem_range.2 hh, hrouted⟩)]
      rfl
  · refine hexec.trans (congrArg _ (if_neg ?_))
    rw [halign]
    exact fun h => hr (Option.some.inj h)
  · have htake : exec (.timeEchoRx d g value) s = .next (if n = 16 then (s1.fire d 0x155).fault d 0x13 0 d (ofSigned 32 (offset / 65536)) else s1) := by
      refine hexec.trans (congrArg _ ((if_pos ?_).trans ?_))
      · rw [halign]
        rfl
      · rw [low_of_lt hvalue]
        exact timeEcho_takes he hoffset hn h1
    exact ⟨fun h => htake.trans (congrArg _ (if_neg h)), fun h => htake.trans (congrArg _ (if_pos h))⟩

end Sys2Proof.Machine
end

section
namespace Sys2Proof.Machine

/-! Learning, aging and the rebalancing of ECMP groups. -/

section
variable {s : State}

/-! Learn requests. -/

theorem execLearnApply_waits (hst : s.stopped = false) (h : ∀ q ∈ s.learning.queue, s.time.now < q.stamp + 2000 * 65536 ∨ q.waits = true) :
    exec .learnApply s = .next s := by
  have hnone : s.dueLearns = [] := by
    have hfilter : (s.learning.queue.filter fun q => decide (q.stamp + 2000 * 65536 ≤ s.time.now) && !q.waits) = [] := by
      refine List.filter_eq_nil_iff.2 fun q hq => ?_
      obtain hearly | hwaits := h q hq
      · simp [Nat.not_le.2 hearly]
      · simp [hwaits]
    unfold State.dueLearns
    rw [hfilter]
    rfl
  refine (running_live hst _).trans (congrArg _ ?_)
  rw [hnone]

/-- The only request, once it is due, is applied. -/
theorem execLearnApply_due {q : LearnRequest} (hst : s.stopped = false) (hq : s.learning.queue = [q]) (hw : q.waits = false)
    (hdue : q.stamp + 2000 * 65536 ≤ s.time.now) : exec .learnApply s = .next (s.applyLearn q) := by
  have hone : s.dueLearns = [q] := by
    unfold State.dueLearns
    rw [hq, List.filter_cons_of_pos (by simp [hw, hdue])]
    rfl
  refine (running_live hst _).trans (congrArg _ ?_)
  rw [hone]

section
variable {q : LearnRequest} (hq : s.learning.queue = [q])
include hq

theorem dropLearn_only : s.dropLearn q = { s with learning := { s.learning with queue := [] } } := by
  unfold State.dropLearn
  rw [hq, List.erase_cons_head]

theorem sameWaiting_only : s.sameWaiting q = false := by
  unfold State.sameWaiting
  rw [hq, List.erase_cons_head]
  rfl

/-- A request for an address that is known: its entry stays, or moves where neither a guard nor PEND holds it. -/
theorem applyLearn_known {r : Nat} (hr : s.macEntry q.bd q.mac = some r) {s1 : State} (h1 : s1 = { s with learning := { s.learning with queue := [] } })
    {guarded : Bool} (hg : guarded = (sparseFind? s.learning.guards (macNumber q.bd q.mac)).any fun t =>
      decide (t ≤ q.stamp) && decide (q.stamp < t + s.rd Od.moveGuard * 1000 * 65536)) :
    s.applyLearn q =
      if bits r 53 42 = q.lport then s1
      else if bitOf r 126 then (s1.bump Od.staticMoveRefused).learnReport 0x16 0 q.bd q.mac q.lport (bits r 53 42) 0
      else if guarded then ((s1.bump Od.moveContention).fireLead 0x149).learnReport 0x13 0 q.bd q.mac q.lport (bits r 53 42) 0
      else if bitOf r 124 then s.holdLearn q
      else match s1.putMac (macRecord true (s.time.epoch + 4) q.bd q.mac q.lport (bits r 53 42)) with
        | some t => ((t.noteLearn q.bd q.mac q.stamp).fireLead 0x14A).learnReport 0x11 0 q.bd q.mac q.lport (bits r 53 42) (s.time.epoch + 4)
        | none => ((s1.bump Od.learnTableFull).rehash 0x43).learnReport 0x15 Status.tableFull.code q.bd q.mac q.lport (bits r 53 42) 0 := by
  unfold State.applyLearn
  dsimp only
  rw [hr, dropLearn_only hq, ← h1, sameWaiting_only hq, hg]
  simp only [Bool.false_eq_true, false_or]
  cases sparseFind? s.learning.guards (macNumber q.bd q.mac) <;> rfl

/-- A request for a new address is learned pending, unless a limit is reached. -/
theorem applyLearn_new (hr : s.macEntry q.bd q.mac = none) {s1 : State} (h1 : s1 = { s with learning := { s.learning with queue := [] } }) {full : Bool}
    (hf : full = (s.limitReached (bits (s.tbl (s.fam 0x42).live 0x42 q.bd) 48 29) (fun r => bits r 115 102 = q.bd) ||
      s.limitReached (bits (s.tbl (s.fam 0x40).live 0x40 q.lport) 62 43) (fun r => bits r 53 42 = q.lport))) :
    s.applyLearn q =
      if full then (s1.bump Od.learnLimitHits).learnReport 0x14 0 q.bd q.mac q.lport 0xFFF 0
      else match s1.putMac (macRecord true (s.time.epoch + 4) q.bd q.mac q.lport 0xFFF) with
        | some t => ((t.freshMac q.bd q.mac).noteLearn q.bd q.mac q.stamp).learnReport 0x10 0 q.bd q.mac q.lport 0xFFF (s.time.epoch + 4)
        | none => ((s1.bump Od.learnTableFull).rehash 0x43).learnReport 0x15 Status.tableFull.code q.bd q.mac q.lport 0xFFF 0 := by
  unfold State.applyLearn
  dsimp only
  rw [hr, dropLearn_only hq, ← h1, sameWaiting_only hq, ← hf]
  simp only [Bool.false_eq_true, if_false] <;> rfl

end

/-! Aging. -/

/-- The only dynamic entry of a BD that ages is visited. -/
theorem execMacAgeVisit_visits {i r : Nat} (hst : s.stopped = false) (hp : s.rd Od.macAgePeriod ≠ 0)
    (hl : s.bankRecords 0x43 (s.fam 0x43).live = [(i, r)]) (hd : bitOf r 126 = false) (ha : bitOf (s.tbl (s.fam 0x42).live 0x42 (bits r 115 102)) 49 = true) :
    exec .macAgeVisit s = .next (s.ageVisit r) := by
  refine (running_live hst _).trans (congrArg _ ((if_neg hp).trans ?_))
  dsimp only
  rw [hl, List.filter_cons_of_pos (by simp [hd, ha])]
  rfl

theorem ageVisit_ages {r k : Nat} (hk : k = bits r 115 102 * 2 ^ 48 + bits r 101 54) :
    s.ageVisit r =
      if s.learning.hits.any (fun h => h.2 = k) then
        { s with learning := { s.learning with hits := s.learning.hits.filter (fun h => h.2 ≠ k), idle := s.learning.idle.filter (· ≠ k) } }
      else if s.learning.idle.contains k = false then
        { s with learning := { s.learning with hits := s.learning.hits.filter (fun h => h.2 ≠ k), idle := s.learning.idle ++ [k] } }
      else if bits r 53 42 = 0xFFF then { s with learning := { s.learning with hits := s.learning.hits.filter (fun h => h.2 ≠ k) } }
      else
        let t := ({ s with learning := { s.learning with hits := s.learning.hits.filter (fun h => h.2 ≠ k), idle := s.learning.idle.filter (· ≠ k) } } :
          State).rewriteMac (bits r 115 102) (bits r 101 54) (fun _ => macRecord true (s.time.epoch + 4) (bits r 115 102) (bits r 101 54) 0xFFF (bits r 53 42))
        (({ t with learning := { t.learning with pend := (t.learning.pend.filter fun (e : Nat × Nat × Bool) => e.1 ≠ k) ++ [(k, s.time.epoch + 4, true)] } } :
          State).bump Od.agedOut).learnReport 0x12 0 (bits r 115 102) (bits r 101 54) 0xFFF (bits r 53 42) (s.time.epoch + 4) := by
  subst hk
  rfl

/-! Rebalancing. -/

/-- Two lists of one length differ at no place just where they are the same. -/
theorem changed_eq_nil_iff {next now : List Nat} (h : next.length = now.length) :
    (next.zipIdx.filter fun m => decide (now.getD m.2 0 ≠ m.1)) = [] ↔ next = now := by
  rw [List.filter_eq_nil_iff]
  refine ⟨fun hall => List.ext_getElem h fun i h1 h2 => ?_, fun heq m hm => ?_⟩
  · have hm := hall (next[i], i) (List.mem_zipIdx_iff_getElem?.2 (List.getElem?_eq_getElem h1))
    rw [decide_eq_true_iff, Classical.not_not, List.getD_eq_getElem?_getD, List.getElem?_eq_getElem h2, Option.getD_some] at hm
    exact hm.symm
  · subst heq
    have hget := List.mem_zipIdx_iff_getElem?.1 hm
    simp [List.getD_eq_getElem?_getD, hget]

theorem moveBucket_length (b : Nat) (fit l : List Nat) (j : Nat) : (moveBucket b fit l j).length = l.length := by
  unfold moveBucket
  dsimp only
  split
  · split
    · exact List.length_set
    · rfl
  · rfl

/-- What the Keeper writes is free of what it knows of unused buckets. -/
theorem logWrite_learning (l : Learning) (f : Nat) (x : LoggedWrite) :
    ({ s with learning := l } : State).logWrite f x = { s.logWrite f x with learning := l } := by
  have hsynced : ({ s with learning := l } : State).tableSynced x.table = s.tableSynced x.table := rfl
  have hfam : ({ s with learning := l } : State).fam f = s.fam f := rfl
  unfold State.logWrite
  dsimp only
  rw [hsynced, hfam]
  split
  · rfl
  · split <;> rfl

/-- A logged write leaves the live bank of its family. -/
theorem logWrite_live (f : Nat) (x : LoggedWrite) : ((s.logWrite f x).fam f).live = (s.fam f).live := by
  have hset : ∀ y : Family, y ≠ Family.fresh → (s.setFam f y).fam f = y := fun y hy => by
    unfold State.setFam State.fam sparseSet sparseGet
    rw [if_neg hy]
    simp only [sparseFind?_put, if_true, Option.getD_some]
  unfold State.logWrite
  dsimp only
  split
  · rfl
  · split
    · rw [hset _ fun h => Bool.noConfusion (show true = false from congrArg Family.spoiled h)]
    · rw [hset _ fun h => absurd (congrArg Family.log h) (List.cons_ne_nil _ _)]

/-- The writes of the Keeper to the shadow of the ECMP family. -/
theorem foldl_keeperWrite {live : Nat} (l : Learning) (ws : List (Nat × Nat × Nat)) (t : State) (ht : (t.fam 0x4B).live = live) :
    { ws.foldl (fun (a : State) w => a.keeperWrite w.1 w.2.1 w.2.2) t with learning := l } =
      ws.foldl (fun (a : State) w => (a.setTbl (1 - live) w.1 w.2.1 w.2.2).logWrite 0x4B { table := w.1, index := w.2.1, record := w.2.2, delete := false })
        { t with learning := l } := by
  induction ws generalizing t with
  | nil => rfl
  | cons w rest ih =>
    have hwrite : t.keeperWrite w.1 w.2.1 w.2.2 =
        (t.setTbl (1 - live) w.1 w.2.1 w.2.2).logWrite 0x4B { table := w.1, index := w.2.1, record := w.2.2, delete := false } := by
      unfold State.keeperWrite State.shadowOf
      rw [ht]
    have hlive : ((t.keeperWrite w.1 w.2.1 w.2.2).fam 0x4B).live = live := by
      rw [hwrite]
      exact (logWrite_live ..).trans ht
    rw [List.foldl_cons, List.foldl_cons]
    refine (ih _ hlive).trans (congrArg (fun u => List.foldl _ u rest) ?_)
    rw [hwrite]
    exact (logWrite_learning ..).symm

/-- A bucket that alone has gone unused is the only one that may move. -/
theorem rebalance_moves {grp j live r b : Nat} {targets now fit next : List Nat} (hlive : live = (s.fam 0x4B).live) (hr : r = s.tbl live 0x4B grp)
    (hn : bits r 44 35 ≠ 0) (hlen : targets.length = bits r 44 35) (hb : b = 2 ^ bits r 13 10) (h16 : 16 ≤ b) (hj : j < b)
    (hused : ∀ i, i < b → (grp * 4096 + i ∈ s.learning.buckets ↔ i ≠ j))
    (hnow : now = (List.range b).map (fun i => bits (s.tbl live 0x4D (bits r 34 14 + i)) 15 7))
    (hfit : fit = targets.zipIdx.map (fun w => max (bits (s.tbl live 0x4C (bits r 63 45 + w.2)) 37 30)
      (min (bits (s.tbl live 0x4C (bits r 63 45 + w.2)) 29 22) w.1)))
    (hweights : ∀ w ∈ fit.zipIdx, s.memberWeight live grp w.2 = w.1) (hnext : next = moveBucket b fit now j) :
    s.rebalance grp targets = (next.zipIdx.filter fun m => decide (now.getD m.2 0 ≠ m.1)).map fun m => (0x4D, bits r 34 14 + m.2, m.1 * 128) := by
  have hidle : (List.range b).filter (fun i => !(s.learning.buckets.contains (grp * 4096 + i))) = [j] := by
    have hsame : (List.range b).filter (fun i => !(s.learning.buckets.contains (grp * 4096 + i))) = (List.range b).filter (· = j) :=
      List.filter_congr fun i hi => by simp [hused i (List.mem_range.1 hi)]
    rw [hsame, List.filter_eq, List.Nodup.count List.nodup_range, if_pos (List.mem_range.2 hj), List.replicate_one]
  have hkept : (fit.zipIdx.filter fun w => decide (s.memberWeight live grp w.2 ≠ w.1)) = [] :=
    List.filter_eq_nil_iff.2 fun w hw => by simp [hweights w hw]
  unfold State.rebalance
  dsimp only
  rw [← hlive, ← hr, if_neg (by simp [hn, hlen]), ← hb, hidle, ← hnow, ← hfit, hkept, List.map_nil, List.append_nil, List.foldl_cons, List.foldl_nil,
    if_neg (show ¬ b / 16 = 0 by omega), ← hnext]

theorem execEcmpRebalance_idle {grp : Nat} {targets : List Nat} {others : List (Nat × List Nat)} (hst : s.stopped = false)
    (h : s.rd Od.ecmpMode = 1 ∨ s.bankState 0x4B ≠ 0 ∨ s.changeRoom = false) :
    exec (.ecmpRebalance grp targets others) s = .next { s with learning := { s.learning with buckets := [] } } :=
  (running_live hst _).trans (congrArg _ (if_pos h))

/-- Without a change nothing is scheduled; a change is written to the shadow, and its swap is. -/
theorem execEcmpRebalance_group {grp : Nat} {targets : List Nat} (hst : s.stopped = false)
    (h : ¬ (s.rd Od.ecmpMode = 1 ∨ s.bankState 0x4B ≠ 0 ∨ s.changeRoom = false)) :
    (s.rebalance grp targets = [] → exec (.ecmpRebalance grp targets []) s = .next { s with learning := { s.learning with buckets := [] } }) ∧
    (s.rebalance grp targets ≠ [] → ∀ t : State,
      t = (s.rebalance grp targets).foldl (fun (a : State) w => (a.setTbl (1 - (s.fam 0x4B).live) w.1 w.2.1 w.2.2).logWrite 0x4B
        { table := w.1, index := w.2.1, record := w.2.2, delete := false }) { s with learning := { s.learning with buckets := [] } } →
      exec (.ecmpRebalance grp targets []) s = .next ((t.addChange (t.time.epoch + 4) (swapObject 0x4B) 1 true (4 * 65536)).fireLead 0x14C)) := by
  have hlearning : ∀ ws : List (Nat × Nat × Nat), (ws.foldl (fun (a : State) w => a.keeperWrite w.1 w.2.1 w.2.2) s).learning = s.learning := fun ws =>
    List.foldlRecOn (motive := fun (a : State) => a.learning = s.learning) ws _ rfl fun (a : State) ha w _ =>
      (congrArg State.learning (logWrite_learning (s := a.setTbl (a.shadowOf 0x4B) w.1 w.2.1 w.2.2) a.learning 0x4B
        { table := w.1, index := w.2.1, record := w.2.2, delete := false })).trans ha
  have hwrites : [(grp, targets)].flatMap (fun g => s.rebalance g.1 g.2) = s.rebalance grp targets := List.flatMap_singleton ..
  refine ⟨fun hsame => ?_, fun hmoved t ht => ?_⟩
  · refine (running_live hst _).trans (congrArg _ ((if_neg h).trans ?_))
    dsimp only
    rw [hwrites, hsame]
    rfl
  · have hidle := foldl_keeperWrite { s.learning with buckets := [] } (s.rebalance grp targets) s rfl
    refine (running_live hst _).trans (congrArg _ ((if_neg h).trans ?_))
    dsimp only
    rw [hwrites, if_neg hmoved, hlearning, ht, ← hidle]

end

/-- Settles O53: a request by the first row that matches, a visit by HIT and the visit before it, and a rebalance by the one bucket that may move. -/
theorem learningRows : Obligations.LearningRows := by
  intro s hst
  refine ⟨?_, execLearnApply_waits hst, ?_, fun hp => (running_live hst _).trans (congrArg _ (if_pos hp)), ?_,
    fun grp targets others h => execEcmpRebalance_idle hst h, ?_⟩
  · rintro bd mac lport stamp port q rfl
    exact ⟨fun hfull => (running_live hst _).trans (congrArg _ (if_pos hfull)), fun hroom => (running_live hst _).trans (congrArg _ (if_neg (Nat.not_le.2 hroom)))⟩
  · rintro q hq hw hdue s1 h1 number rfl
    have hexec := execLearnApply_due hst hq hw hdue
    refine ⟨fun r hr => ?_, fun hnew full hfull => ?_⟩
    · have hknown := applyLearn_known hq hr h1 rfl
      refine ⟨fun hsame => ?_, fun hmove hstatic => ?_, fun hmove hdyn moved hmoved hle hlt => ?_, fun hmove hdyn hpend hfree => ?_,
        fun hmove hdyn hsettled hfree t ht => ?_⟩
      · rw [hexec, hknown, if_pos hsame]
      · rw [hexec, hknown, if_neg hmove, if_pos hstatic]
      · have hguard : (sparseFind? s.learning.guards (macNumber q.bd q.mac)).any (fun t =>
            decide (t ≤ q.stamp) && decide (q.stamp < t + s.rd Od.moveGuard * 1000 * 65536)) = true := by
          rw [show sparseFind? s.learning.guards (macNumber q.bd q.mac) = some moved from hmoved]
          simp [hle, hlt]
        rw [hexec, hknown, if_neg hmove, if_neg (by rw [hdyn]; decide), if_pos hguard]
      · have hguard : sparseFind? s.learning.guards (macNumber q.bd q.mac) = none := hfree
        rw [hexec, hknown, if_neg hmove, if_neg (by rw [hdyn]; decide), hguard, if_neg (by simp), if_pos hpend]
        unfold State.holdLearn
        rw [hq]
        simp
      · have hguard : sparseFind? s.learning.guards (macNumber q.bd q.mac) = none := hfree
        rw [hexec, hknown, if_neg hmove, if_neg (by rw [hdyn]; decide), hguard, if_neg (by simp), if_neg (by rw [hsettled]; decide), ht]
    · have happly := applyLearn_new hq hnew h1 hfull
      refine ⟨fun h => ?_, fun h t ht => ?_⟩
      · rw [hexec, happly, if_pos h]
      · rw [hexec, happly, if_neg (by rw [h]; decide), ht]
  · intro hp i r k hl hd ha hk
    have hexec := execMacAgeVisit_visits hst hp hl hd ha
    rw [ageVisit_ages hk] at hexec
    have hmiss : (∀ h ∈ s.learning.hits, h.2 ≠ k) → ¬ (s.learning.hits.any fun h => h.2 = k) = true := fun h hany => by
      obtain ⟨e, he, hk⟩ := List.any_eq_true.1 hany
      exact h e he (of_decide_eq_true hk)
    refine ⟨fun ⟨h, hh, hk⟩ => ?_, fun hnone hbusy => ?_, fun hnone hidle hgone => ?_, fun hnone hidle hthere t ht => ?_⟩
    · rw [hexec, if_pos (List.any_eq_true.2 ⟨h, hh, decide_eq_true hk⟩)]
    · rw [hexec, if_neg (hmiss hnone), if_pos (by simpa using hbusy)]
    · rw [hexec, if_neg (hmiss hnone), if_neg (by simpa using hidle), if_pos hgone]
    · rw [hexec, if_neg (hmiss hnone), if_neg (by simpa using hidle), if_neg hthere, ht]
  · intro grp targets j live r b now fit next hmode hlive hr hn hlen hfree hroom hb h16 hj hused hnow hfit hweights hnext
    obtain ⟨hsame, hmoved⟩ := execEcmpRebalance_group (grp := grp) (targets := targets) hst (by simp [hmode, hfree, hroom])
    have hlength : next.length = now.length := hnext ▸ moveBucket_length b fit now j
    have hmoves := rebalance_moves hlive hr hn hlen hb h16 hj hused hnow hfit hweights hnext
    refine ⟨fun heq => hsame (by rw [hmoves, (changed_eq_nil_iff hlength).2 heq, List.map_nil]), fun hne s1 h1 => hmoved (fun hnil => ?_) s1 ?_⟩
    · rw [hmoves, List.map_eq_nil_iff] at hnil
      exact hne ((changed_eq_nil_iff hlength).1 hnil)
    · rw [h1, hmoves, List.foldl_map, List.foldl_filter, ← hlive]
      congr 1
      funext t m
      by_cases hm : now.getD m.2 0 = m.1
      · rw [if_pos hm, if_neg (by simp only [hm, ne_eq, not_true_eq_false, decide_false, Bool.false_eq_true, not_false_eq_true])]
      · rw [if_neg hm, if_pos (decide_eq_true hm)]

end Sys2Proof.Machine
end

section
namespace Sys2Proof.Machine

/-! Scrubs, and the repair of memories. -/

section
variable {s : State} {d : Nat}

/-- The first failure of a search row in 24 hours replaces no bank. -/
theorem searchRowFail_first (hnone : s.asa.rowFails = []) (key : Nat) :
    s.searchRowFail d key = ({ s with asa := { s.asa with rowFails := [[d, key, s.seconds]] } } : State).fault d 0x0B 0
      (rowLocation (s.setOfBank (key / 65536) (key / 4096 % 16)) key) := by
  unfold State.searchRowFail
  dsimp only
  rw [hnone, List.filter_nil, if_neg (by simp)]
  rfl

/-- A bank that is being copied is replaced by its array's spare; no other is. -/
theorem execAsaBankSpareSwitch_copied (hst : s.stopped = false) (hd : s.hasDie d = true) (array bank : Nat) :
    ([d, array, bank] ∉ s.asa.copying → exec (.asaBankSpareSwitch d array bank) s = .next s) ∧
    ([d, array, bank] ∈ s.asa.copying → ∀ s1 : State,
      s1 = { s with asa := { s.asa with copying := s.asa.copying.filter (· ≠ [d, array, bank]) },
                    badRows := s.badRows.filter fun b => !(b.die = d && (b.kind = 0x38 || b.kind = 0x39) && b.index / 4096 = array * 16 + bank),
                    recov := { s.recov with replaced := sparsePut s.recov.replaced (spareKey 7 d array bank) 0 } } →
      exec (.asaBankSpareSwitch d array bank) s =
        .next ((((s1.setSpare 7 d array 0 3).faultSpare d 0x0B 1 (rowLocation (s.setOfBank array bank) ((array * 16 + bank) * 4096))).retire 7 d array
          (1000000 + bank) 0x0B).fireLead 0x170)) := by
  refine ⟨fun h => (withDie_live hd hst _).trans (congrArg _ (if_neg fun hc => h (List.contains_iff_mem.1 hc))), fun h s1 h1 => ?_⟩
  refine (withDie_live hd hst _).trans (congrArg _ ((if_pos (List.contains_iff_mem.2 h)).trans ?_))
  dsimp only
  rw [← h1]

/-- A failing row of a memory other than a tile takes a spare row where one is left. -/
theorem execSramRowRepair_row (hst : s.stopped = false) (hd : s.hasDie d = true) {kind : Nat} (hk : kind ≠ 0) (mac row : Nat) :
    (∀ u, s.pickSpare 6 d (kind * 4096 + mac) = some u → exec (.sramRowRepair d kind mac row) s =
      .next (({ s with recov := { s.recov with rowFails := [d, kind, mac, row, s.seconds] :: s.recov.rowFails,
                                               copying := s.recov.copying ++ [[d, kind, mac, row, u, 0]] } } : State).recordFault
        { die := d, source := memorySource kind, cls := 1, location := mac * 65536 + row, detail0 := 0, detail1 := 0, spareUsed := true, repairing := true })) ∧
    (s.pickSpare 6 d (kind * 4096 + mac) = none → exec (.sramRowRepair d kind mac row) s =
      .next { s with recov := { s.recov with rowFails := [d, kind, mac, row, s.seconds] :: s.recov.rowFails } }) := by
  refine ⟨fun u hu => ?_, fun hu => ?_⟩
  · refine (withDie_live hd hst _).trans (congrArg _ ?_)
    dsimp only
    rw [if_neg fun h => hk h.1, hu]
  · refine (withDie_live hd hst _).trans (congrArg _ ?_)
    dsimp only
    rw [if_neg fun h => hk h.1, hu]

/-- The copy of a row ends: its spare replaces it. -/
theorem execSramSpareSwitch_row (hst : s.stopped = false) (hd : s.hasDie d = true) {kind mac row u : Nat}
    (hc : s.recov.copying = [[d, kind, mac, row, u, 0]]) {s1 : State}
    (h1 : s1 = { s with recov := { s.recov with copying := [], replaced := sparsePut s.recov.replaced (spareKey 6 d (kind * 4096 + mac) row) u } }) :
    exec (.sramSpareSwitch d kind mac) s =
      .next (((s1.setSpare 6 d (kind * 4096 + mac) u 3).retire 6 d (kind * 4096 + mac) (1000000 + row) (memorySource kind)).fireLead 0x170) := by
  refine (withDie_live hd hst _).trans (congrArg _ ?_)
  rw [hc, List.find?_cons_of_pos (by simp)]
  dsimp only
  rw [List.filter_cons_of_neg (by simp), List.filter_nil, h1]
  rfl

theorem execSramSpareSwitch_none (hst : s.stopped = false) (hd : s.hasDie d = true) (hc : s.recov.copying = []) (kind mac : Nat) :
    exec (.sramSpareSwitch d kind mac) s = .next s := by
  refine (withDie_live hd hst _).trans (congrArg _ ?_)
  rw [hc]
  rfl

end

/-- Settles O54: each scrub by the error that it finds, and each repair by the spare that is left. -/
theorem scrubRows : Obligations.ScrubRows := by
  intro s d hst hd fails hfails
  have hbad : ∀ (t : State) kind i, t.markBad d kind i = fails t kind i := fun t kind i => (hfails t kind i).symm
  have hlive : ∀ t : State, withDie s d t = .next t := fun t => withDie_live hd hst t
  refine ⟨fun kind bank e => ⟨hlive _, (hlive _).trans (congrArg _ (hbad ..))⟩, fun q pc => ⟨hlive _, (hlive _).trans (congrArg _ (hbad ..))⟩,
    fun c => ⟨hlive _, hlive _⟩, fun key s1 hnone h1 => ?_, ⟨hlive _, hlive _, hlive _, hlive _⟩, fun kind i => hlive _,
    execAsaBankSpareSwitch_copied hst hd, fun kind mac row u s1 hk hu h1 => ?_, fun kind mac row hk => (execSramRowRepair_row hst hd hk mac row).2,
    fun kind mac row u hc s1 => execSramSpareSwitch_row hst hd hc, fun hc kind mac => execSramSpareSwitch_none hst hd hc kind mac, fun q => hlive _⟩
  · have hfail : s.searchRowFail d key = s1 := (searchRowFail_first hnone key).trans h1.symm
    refine ⟨(hlive _).trans (congrArg _ hfail), ?_, ?_⟩
    · rw [← hbad, ← hfail]
      exact hlive _
    · rw [← hbad, ← hfail]
      exact hlive _
  · rw [(execSramRowRepair_row hst hd hk mac row).1 u hu, h1]

end Sys2Proof.Machine
end

section
namespace Sys2Proof.Machine

/-! Descriptors of one operation. -/

section
variable {s : State}

/-- What the row of an opcode makes of a descriptor that it takes. -/
theorem exec_taken {h f w op d : Nat} {desc : Option Nat} {run : State → Taken → State} (hh : h < 2) (hf : f < 4) (ho : sparseRising none s.rings.wqs = true)
    (ht : s.takes (s.fnOf h f) w op desc d = true) :
    withQueue s h f w (s.descStep (s.fnOf h f) w op desc run) =
      .next (run (s.fetched (s.fnOf h f) w) { at_ := (s.wq (s.fnOf h f) w).fetch, word := d, sound := true }) :=
  (withQueue_takes hh hf ht).trans (congrArg _ (descStep_takes ho ht))

theorem fetched_cellsFree (fn w d : Nat) : (s.fetched fn w).cellsFree d = s.cellsFree d := by
  have hused : ((s.fetched fn w).usedCells d).length + (s.fetched fn w).roomReserved d + (s.fetched fn w).lostCells d =
    (s.usedCells d).length + s.roomReserved d + s.lostCells d := rfl
  unfold State.cellsFree
  rw [hused]

theorem single_last {fn w : Nat} {t : Taken} {f : State → Status × Nat × State} (hl : dLast t.word = true) {st : Status} {aux : Nat} {u : State}
    (hu : f s = (st, aux, u)) : s.single fn w t f = u.endOp fn w t.at_ (dBatch t.word) (dUser t.word) st aux := by
  refine (if_neg (by rw [hl]; decide)).trans ?_
  rw [hu]

/-! Table writes and deletes. -/

section
variable {fn w last user t index r : Nat} {batch del : Bool}

theorem tableOp_malformed (hf : tableFormOk t index r del = false) : s.tableOp fn w last batch user t index r del = s.endOp fn w last batch user .malformed 0 :=
  if_pos hf

/-- A well-formed operation takes the next SEQ; before FORWARDING_READY it ends with STATE. -/
theorem tableOp_early (hf : tableFormOk t index r del = true) (hb : s.rd Od.bootStage ≠ 3) {s2 : State}
    (h2 : s2 = { s with rings := { s.rings with seq := nextSeq s.rings.seq } }) :
    s.tableOp fn w last batch user t index r del = s2.endOp fn w last batch user .state (nextSeq s.rings.seq) := by
  subst h2
  exact (if_neg (by rw [hf]; decide)).trans (if_pos hb)

/-- One on a counter is done at once. -/
theorem tableOp_counter (hf : tableFormOk 0x80 index r del = true) (hb : s.rd Od.bootStage = 3) (hd : s.hasDie (index / 2097152) = true) {s2 : State}
    (h2 : s2 = { s with rings := { s.rings with seq := nextSeq s.rings.seq } }) :
    s.tableOp fn w last batch user 0x80 index r del =
      (s2.setCounter (index / 2097152) (index % 2097152) r).endOp fn w last batch user .ok (nextSeq s.rings.seq) := by
  subst h2
  have hthere : ¬ (8 ≤ index / 2097152 ∨ s.hasDie (index / 2097152) = false) := by
    rw [hd]
    exact fun h => h.elim (Nat.not_le.2 (hasDie_lt hd)) (by simp)
  exact (if_neg (by rw [hf]; decide)).trans ((if_neg (not_not_intro hb)).trans ((if_pos rfl).trans (if_neg hthere)))

/-- One on a meter is timed for its epoch. -/
theorem tableOp_meter (hf : tableFormOk 0x64 index r del = true) (hb : s.rd Od.bootStage = 3) (hd : s.hasDie (index / 65536) = true) (hm : badMeter r = false)
    {s2 : State} (h2 : s2 = { s with rings := { s.rings with seq := nextSeq s.rings.seq } }) {x : State × Nat} (hx : x = s2.holdOp fn w last batch user) :
    s.tableOp fn w last batch user 0x64 index r del = { x.1 with rings := { x.1.rings with timed := x.1.rings.timed ++
      [{ seq := nextSeq s.rings.seq, table := 0x64, die := index / 65536, index := index, record := leBytes 16 r, epoch := s.time.epoch + 4, fn := fn,
         wq := w, token := s.rings.nextToken }] } } := by
  have hnone : s.timedFault 0x64 index r = none := by
    have hthere : ¬ (8 ≤ index / 65536 ∨ s.hasDie (index / 65536) = false) := by
      rw [hd]
      exact fun h => h.elim (Nat.not_le.2 (hasDie_lt hd)) (by simp)
    exact (if_neg hthere).trans (if_neg (by rw [hm]; simp))
  have htoken : x.2 = s.rings.nextToken := by rw [hx, h2]; rfl
  unfold State.tableOp
  dsimp only
  rw [if_neg (by rw [hf]; decide), if_neg (not_not_intro hb), if_neg (by decide), if_pos (.inr rfl), hnone]
  dsimp only
  rw [← h2, ← hx, htoken]
  rfl

/-- One on a table is sent to every die. -/
theorem tableOp_dies (hf : tableFormOk t index r del = true) (hb : s.rd Od.bootStage = 3) (h80 : t ≠ 0x80) (h50 : t ≠ 0x50) (h64 : t ≠ 0x64)
    {s2 : State} (h2 : s2 = { s with rings := { s.rings with seq := nextSeq s.rings.seq } }) {x : State × Nat} (hx : x = s2.holdOp fn w last batch user)
    {o : TableOp} (ho : o = { seq := nextSeq s.rings.seq, table := t, index := index, record := r, delete := del, fn := fn, wq := w,
                              token := s.rings.nextToken, received := [], acks := [], beforeSwap := s.swapComing (famOfOp t index r) })
    {s3 : State} (h3 : s3 = { x.1 with rings := { x.1.rings with ops := x.1.rings.ops ++ [o] } }) :
    s.tableOp fn w last batch user t index r del = s.part.dies.foldl (fun (a : State) e => a.emit (.control (s.rd Od.leadDie) e 0x10
      [nextSeq s.rings.seq, t, index, if del then 1 else 0, r])) s3 := by
  have htoken : x.2 = s.rings.nextToken := by rw [hx, h2]; rfl
  unfold State.tableOp
  dsimp only
  rw [if_neg (by rw [hf]; decide), if_neg (not_not_intro hb), if_neg h80, if_neg (fun h => h.elim h50 h64), ← h2, ← hx, htoken, ← ho, ← h3]
  rfl

end

/-! Reads, injects and buffer returns. -/

theorem tableRead_malformed {fn w : Nat} {t : Taken} (hl : dLast t.word = true) (hb : bits (dBody t.word) 127 68 ≠ 0) :
    s.tableRead fn w t = s.endOp fn w t.at_ (dBatch t.word) (dUser t.word) .malformed 0 := by
  exact single_last hl (if_pos (.inr (.inl hb)))

/-- A counter is read with the time of its capture. -/
theorem tableRead_counter {fn w b i : Nat} {t : Taken} (hl : dLast t.word = true) (ht : dTable t.word = 0x80) (hi : i = dIndex t.word) (hb : b = dBody t.word)
    (hd : s.hasDie (i / 2097152) = true) (h0 : s.hasDie 0 = true) (hlow : b < 2 ^ 64) (h64 : b % 64 = 0) :
    s.tableRead fn w t = ((s.bump Od.counterReads (dieInst (i / 2097152))).emit
      (.dma (s.dmaHost fn) (fn % 4) b (leBytes 16 (s.counterValue (i / 2097152) (i % 2097152) * 2 ^ 64 + s.capture)))).endOp fn w t.at_ (dBatch t.word)
        (dUser t.word) .ok 16 := by
  have habove : ∀ hi lo, 64 ≤ lo → bits b hi lo = 0 := fun hi lo hlo => by
    unfold bits
    rw [Nat.div_eq_of_lt (Nat.lt_of_lt_of_le hlow (Nat.pow_le_pow_right (by decide) hlo)), Nat.zero_mod]
  have haddr : bits b 63 0 = b := by
    unfold bits
    rw [Nat.pow_zero, Nat.div_one]
    exact Nat.mod_eq_of_lt hlow
  have hshadow : bitOf b 67 = false := by
    rw [bitOf_eq_testBit]
    exact Nat.testBit_lt_two_pow (Nat.lt_of_lt_of_le hlow (Nat.pow_le_pow_right (by decide) (by decide)))
  have hread : s.readEntry 0x80 i 0 0 false = (.ok, s.counterValue (i / 2097152) (i % 2097152) * 2 ^ 64 + s.capture) := by
    have hthere : ¬ (8 ≤ i / 2097152 ∨ s.hasDie (i / 2097152) = false ∨ false = true) := by
      rw [hd]
      exact fun h => h.elim (Nat.not_le.2 (hasDie_lt hd)) (by simp)
    unfold State.readEntry
    dsimp only
    rw [if_pos rfl, if_neg hthere]
  have hhash : isHash 0x80 = false := rfl
  refine single_last hl ?_
  dsimp only
  rw [ht, ← hi, ← hb, habove 127 68 (by decide), habove 383 128 (by decide), habove 66 64 (by decide), haddr, hshadow, hread, h0, h64, if_neg (by simp [hhash])]
  rfl

/-- An inject of too few octets ends with RANGE. -/
theorem inject_short {fn w h b : Nat} {t : Taken} {data : List Byte} {free : Bool} (hl : dLast t.word = true) (hb : b = dBody t.word)
    (hshort : bits b 79 64 < 60) (hres : bits b 91 89 = 0) (hlow : b < 2 ^ 96) :
    s.inject fn w h t data free = s.endOp fn w t.at_ (dBatch t.word) (dUser t.word) .range 0 := by
  have habove : bits b 383 96 = 0 := by
    unfold bits
    rw [Nat.div_eq_of_lt hlow, Nat.zero_mod]
  unfold State.inject
  dsimp only
  rw [← hb, if_neg (by rw [hl, hres, habove]; simp), if_pos (.inl hshort)]

/-- One into the ingress pipeline of a port that has the cells starts there. -/
theorem inject_starts {fn w h b : Nat} {t : Taken} {data : List Byte} {free : Bool} (hl : dLast t.word = true) (hb : b = dBody t.word)
    (hlen : 60 ≤ bits b 79 64) (hmost : bits b 79 64 ≤ 10236) (hres : bits b 91 89 = 0) (hlow : b < 2 ^ 96) (hin : bitOf b 92 = false)
    (hd : s.hasDie (bits b 88 80 / 64) = true) (hp : s.portModeOf (bits b 88 80) ≠ 0) (hcells : cellsOf (bits b 79 64 + 4) ≤ s.cellsFree (bits b 88 80 / 64)) :
    s.inject fn w h t data free =
      (s.startInject { die := bits b 88 80 / 64, fn := fn, wq := w, token := 0, egress := false, port := bits b 88 80, tc := bits b 95 93,
                       frame := slice data 0 (bits b 79 64), free := free, since := s.up }).endOp fn w t.at_ (dBatch t.word) (dUser t.word) .ok 0 := by
  have habove : bits b 383 96 = 0 := by
    unfold bits
    rw [Nat.div_eq_of_lt hlow, Nat.zero_mod]
  unfold State.inject
  dsimp only
  rw [← hb, if_neg (by rw [hl, hres, habove]; simp), if_neg (by rw [hd]; simp [hp]; omega), hin, if_neg Bool.false_ne_true, if_pos hcells]

/-- The checks of a buffer in use, at its address in its pool. -/
theorem checkBuffer_used {fn k i tag size address : Nat} (hk : k < 64) (hs : s.rd Od.poolState 0 k ≠ 0) (hsize : size = s.rd Od.poolBufferSize 0 k)
    (hpos : 0 < size) (hi : i < s.rd Od.poolCount 0 k) (ha : address = s.rd Od.poolBase 0 k + i * size) (hused : (s.poolBuffer k i).used = true) :
    s.checkBuffer fn k address tag =
      if s.rd Od.poolMode 0 k = 0 ∧ ((s.poolBuffer k i).owner ≠ fn ∨ (s.poolBuffer k i).tag ≠ tag) then (.notOwner, s.poolFault Od.poolNotOwner k i fn, i)
      else (.ok, s, i) := by
  have hoff : address - s.rd Od.poolBase 0 k = i * size := by omega
  have hend : i * size < s.rd Od.poolCount 0 k * size := Nat.mul_lt_mul_of_pos_right hi hpos
  unfold State.checkBuffer
  dsimp only
  rw [← hsize, if_neg (by omega), if_neg (by omega), hoff, Nat.mul_mod_left, if_neg (by simp), Nat.mul_div_cancel _ hpos, hused, if_neg (by simp)]

theorem freeBuffer_owned {fn k i tag address : Nat} (hc : s.checkBuffer fn k address tag = (.ok, s, i)) (hm : s.rd Od.poolMode 0 k = 0) :
    s.freeBuffer fn k address tag = (.ok, (s.setPoolBuffer k i { s.poolBuffer k i with used := false, count := 0 }).settlePool k) := by
  unfold State.freeBuffer
  dsimp only
  rw [hc]
  dsimp only
  rw [if_neg (by simp), if_neg (by simp [hm])]

theorem freeBuffer_refused {fn k tag address : Nat} {x : Status × State × Nat} (hc : s.checkBuffer fn k address tag = x) (hx : x.1 ≠ .ok) :
    s.freeBuffer fn k address tag = (x.1, x.2.1) := by
  subst hc
  exact if_pos hx

theorem addRefs_counted {fn k i tag address n : Nat} (hc : s.checkBuffer fn k address tag = (.ok, s, i)) (hm : s.rd Od.poolMode 0 k = 1)
    (hn : (s.poolBuffer k i).count + n ≤ 65535) :
    s.addRefs fn k address tag n = (.ok, s.setPoolBuffer k i { s.poolBuffer k i with count := (s.poolBuffer k i).count + n }) := by
  unfold State.addRefs
  dsimp only
  rw [hc]
  dsimp only
  rw [if_neg (by simp), if_neg (by simp [hm]), if_neg (Nat.not_lt.2 hn)]

/-! The first descriptor of a table operation. -/

theorem tableDesc_unknown {fn w : Nat} {t : Taken} (del : Bool) (h : opRecordSize (dTable t.word) = 0) :
    s.tableDesc fn w t del = s.endOp fn w t.at_ (dBatch t.word) (dUser t.word) .malformed 0 :=
  if_pos h

theorem opRecordSize_pos {n : Nat} (h : 0 < chainNeed n) : opRecordSize n ≠ 0 := fun h0 => by
  unfold chainNeed at h
  rw [h0] at h
  exact absurd h (by decide)

theorem tableDesc_only {fn w : Nat} {t : Taken} (del : Bool) (h : chainNeed (dTable t.word) = 1) (hl : dLast t.word = true) :
    s.tableDesc fn w t del = s.tableOp fn w t.at_ (dBatch t.word) (dUser t.word) (dTable t.word) (dIndex t.word) (dBody t.word) del :=
  (if_neg (opRecordSize_pos (by omega))).trans ((if_pos hl).trans (if_neg (not_not_intro h)))

theorem tableDesc_first {fn w : Nat} {t : Taken} (del : Bool) (h : 1 < chainNeed (dTable t.word)) (hl : dLast t.word = false) :
    s.tableDesc fn w t del = s.setWq fn w { s.wq fn w with chain := some { head := t.word, bodies := [dBody t.word], start := t.at_ } } :=
  (if_neg (opRecordSize_pos (by omega))).trans ((if_neg (by rw [hl]; decide)).trans (if_neg (by omega)))

end

/-- Settles O56: the row of each opcode, at the descriptor that it takes. -/
theorem descriptors : Obligations.Descriptors := by
  intro s h f fn w d b last desc hh hf hw hfn ho hb hlast s1 h1
  subst hfn hlast hb
  refine ⟨fun ht hl => ?_, fun op hop ht run del hdel hrun => ?_, fun ht hl => ⟨fun hres => ?_, fun i htable hi hd8 hd h0 hlow h64 => ?_⟩,
    fun data free ht hl => ⟨fun hshort hres hlow => ?_, fun hlen hmost hres hlow hin hd hp hcells x hx => ?_⟩,
    fun k i size x hk hsize hx hk64 hs hpos hi ha hl hlow hused => ?_⟩
  · refine (exec_taken hh hf ho ht).trans (congrArg _ ?_)
    rw [← h1]
    exact single_last hl rfl
  · have hexec : exec run s = .next (s1.tableDesc (s.fnOf h f) w { at_ := (s.wq (s.fnOf h f) w).fetch, word := d, sound := true } del) := by
      rw [hrun, h1]
      obtain rfl | rfl := hop
      · rw [hdel]
        exact exec_taken hh hf ho ht
      · rw [hdel]
        exact exec_taken hh hf ho ht
    have hstate : ∀ o inst k, s1.rd o inst k = s.rd o inst k := fun o inst k => by rw [h1]; rfl
    have hseq1 : s1.rings.seq = s.rings.seq := by rw [h1]; rfl
    refine ⟨fun hsize => ?_, fun hneed hl => ⟨fun hform => ?_, fun hform seq s2 hseq h2 => ⟨fun hearly => ?_, fun hready ht80 hd => ?_,
      fun x hx => ⟨fun hready ht64 hd hm e he => ?_, fun hready h80 h50 h64 o hop s3 h3 => ?_⟩⟩⟩, fun hneed hl => ?_⟩
    · exact hexec.trans (congrArg _ (tableDesc_unknown del hsize))
    · exact hexec.trans (congrArg _ ((tableDesc_only del hneed hl).trans (tableOp_malformed hform)))
    · rw [← hseq1] at hseq
      subst hseq
      exact hexec.trans (congrArg _ ((tableDesc_only del hneed hl).trans (tableOp_early hform (by rwa [hstate]) h2)))
    · rw [← hseq1] at hseq
      subst hseq
      have hthere : s1.hasDie (dIndex d / 2097152) = true := by rw [h1]; exact hd
      rw [ht80] at hform
      refine hexec.trans (congrArg _ ((tableDesc_only del hneed hl).trans ?_))
      dsimp only
      rw [ht80]
      exact tableOp_counter hform (by rwa [hstate]) hthere h2
    · rw [← hseq1] at hseq
      subst hseq
      have hthere : s1.hasDie (dIndex d / 65536) = true := by rw [h1]; exact hd
      have htoken : s1.rings.nextToken = s.rings.nextToken := by rw [h1]; rfl
      have hepoch : s1.time.epoch = s.time.epoch := by rw [h1]; rfl
      rw [ht64] at hform
      refine hexec.trans (congrArg _ ((tableDesc_only del hneed hl).trans ?_))
      dsimp only
      rw [ht64, tableOp_meter hform (by rwa [hstate]) hthere hm h2 hx, he, htoken, hepoch]
    · rw [← hseq1] at hseq
      subst hseq
      have htoken : s1.rings.nextToken = s.rings.nextToken := by rw [h1]; rfl
      have hswap : s1.swapComing (famOfOp (dTable d) (dIndex d) (dBody d)) = s.swapComing (famOfOp (dTable d) (dIndex d) (dBody d)) := by rw [h1]; rfl
      have hpart : s1.part = s.part := by rw [h1]; rfl
      refine hexec.trans (congrArg _ ((tableDesc_only del hneed hl).trans ?_))
      rw [tableOp_dies (o := o) hform (by rwa [hstate]) h80 h50 h64 h2 hx (by rw [hop, htoken, hswap]) h3, hpart, hstate]
    · exact hexec.trans (congrArg _ (tableDesc_first del hneed hl))
  · refine (exec_taken hh hf ho ht).trans (congrArg _ ?_)
    rw [← h1]
    exact tableRead_malformed hl hres
  · have hpart : s1.part = s.part := by rw [h1]; rfl
    have hthere : ∀ e, s1.hasDie e = s.hasDie e := fun e => by rw [h1]; rfl
    have hvalue : s1.counterValue (i / 2097152) (i % 2097152) * 2 ^ 64 + s1.capture = s.counterValue (i / 2097152) (i % 2097152) * 2 ^ 64 + s.capture := by
      rw [h1]
      rfl
    refine (exec_taken hh hf ho ht).trans (congrArg _ ?_)
    rw [← h1, tableRead_counter hl htable hi rfl (by rwa [hthere]) (by rwa [hthere]) hlow h64, hvalue]
    rfl
  · refine (exec_taken hh hf ho ht).trans (congrArg _ ?_)
    rw [← h1]
    exact inject_short hl rfl hshort hres hlow
  · refine (exec_taken hh hf ho ht).trans (congrArg _ ?_)
    have hup : s1.up = s.up := by rw [h1]; rfl
    have hthere : ∀ e, s1.hasDie e = s.hasDie e := fun e => by rw [h1]; rfl
    have hmode : ∀ n, s1.portModeOf n = s.portModeOf n := fun n => by rw [h1]; rfl
    have hfree : ∀ e, s1.cellsFree e = s.cellsFree e := fun e => by rw [h1, fetched_cellsFree]
    have hstart := inject_starts (s := s1) (fn := s.fnOf h f) (w := w) (h := h) (data := data) (free := free)
      (t := { at_ := (s.wq (s.fnOf h f) w).fetch, word := d, sound := true }) hl rfl hlen hmost hres hlow hin (by rwa [hthere]) (by rwa [hmode]) (by rwa [hfree])
    rw [hup, ← hx] at hstart
    rw [← h1]
    exact hstart
  · have hstate : ∀ o inst k, s1.rd o inst k = s.rd o inst k := fun o inst k => by rw [h1]; rfl
    have hbuffer : s1.poolBuffer k i = x := by rw [h1, hx]; rfl
    have hform : ¬ bits (dBody d) 383 88 ≠ 0 := by
      unfold bits
      rw [Nat.div_eq_of_lt hlow, Nat.zero_mod]
      exact fun h => h rfl
    have hcheck : ∀ t : State, (∀ o inst k, t.rd o inst k = s.rd o inst k) → t.poolBuffer k i = x → ∀ tag,
        t.checkBuffer (s.fnOf h f) k (bits (dBody d) 63 0) tag =
          if s.rd Od.poolMode 0 k = 0 ∧ (x.owner ≠ s.fnOf h f ∨ x.tag ≠ tag) then (.notOwner, t.poolFault Od.poolNotOwner k i (s.fnOf h f), i)
          else (.ok, t, i) := fun t hrd hb tag => by
      rw [checkBuffer_used (i := i) (size := size) hk64 (by rwa [hrd]) (by rw [hrd]; exact hsize) hpos (by rwa [hrd]) (by rwa [hrd]) (by rwa [hb]), hb, hrd]
    refine ⟨fun ht hm howner htag => ?_, fun ht hm howner => ?_, fun ht hm n hn hcount => ?_⟩
    · have hok := hcheck s1 hstate hbuffer (bits (dBody d) 87 72)
      rw [if_neg (by simp [howner, htag])] at hok
      refine (exec_taken hh hf ho ht).trans (congrArg _ ?_)
      rw [← h1]
      refine single_last hl ((if_neg hform).trans ?_)
      dsimp only
      rw [← hk, freeBuffer_owned hok (by rwa [hstate]), hbuffer]
    · have hrefused := hcheck s1 hstate hbuffer (bits (dBody d) 87 72)
      rw [if_pos ⟨hm, .inl howner⟩] at hrefused
      refine (exec_taken hh hf ho ht).trans (congrArg _ ?_)
      rw [← h1]
      refine single_last hl ((if_neg hform).trans ?_)
      dsimp only
      rw [← hk, freeBuffer_refused hrefused Status.noConfusion]
    · have hok : s1.useFree.checkBuffer (s.fnOf h f) k (bits (dBody d) 63 0) (bits (dBody d) 87 72) = (.ok, s1.useFree, i) := by
        rw [hcheck s1.useFree hstate hbuffer, if_neg (by simp [hm])]
      refine (exec_taken hh hf ho ht).trans (congrArg _ ?_)
      rw [← h1]
      have hfree : s1.freeBits 8 % 255 + 1 = n := by rw [hn, h1]; rfl
      have hsame : s1.useFree.poolBuffer k i = x := hbuffer
      refine single_last hl ((if_neg hform).trans ?_)
      dsimp only
      rw [← hk, hfree, addRefs_counted hok (by show s1.rd Od.poolMode 0 k = 1; rwa [hstate]) (by rwa [hsame]), hsame]

end Sys2Proof.Machine
end

section
namespace Sys2Proof.Machine

/-! Doorbells, pushes, chains, drains and acknowledgements. -/

section
variable {s : State} {h f w : Nat}

theorem withQueue_live (hh : h < 2) (hf : f < 4) (hw : w < 1024) (hst : s.stopped = false) (hup : s.hostUp = true) (t : State) :
    withQueue s h f w t = .next t := by
  unfold withQueue
  rw [if_pos ⟨hh, hf, hw⟩, running_live hst, if_pos hup]

/-! Doorbells. -/

/-- A CQ doorbell by its CI and its ARM. -/
theorem execCqDoorbell_rings (hh : h < 2) (hf : f < 4) (hw : w < 1024) (hst : s.stopped = false) (hup : s.hostUp = true) {value ci i n : Nat}
    (hci : ci = value % 2 ^ 31) (hi : i = cqInst (s.fnOf h f) w) (hn : n = s.rd Od.cqSize i) (hlow : ci < 2 * n) (hword : value < 2 ^ 32)
    (hbehind : ringDiff n (s.rd Od.cqPi i) ci ≤ ringDiff n (s.rd Od.cqPi i) (s.rd Od.cqCi i)) {armed : State}
    (ha : armed = (s.wr Od.cqCi ci i).setCq (s.fnOf h f) w { (s.wr Od.cqCi ci i).cq (s.fnOf h f) w with arm := true }) :
    exec (.cqDoorbell h f w value) s = .next ((if bitOf value 31 = false then s.wr Od.cqCi ci i
      else if s.rd Od.cqPi i = ci then armed else armed.fireCq (s.fnOf h f) w).serveCq (s.fnOf h f) w) := by
  have hbits : bits value 30 0 = ci := by
    unfold bits
    rw [Nat.pow_zero, Nat.div_one, hci]
  refine (withQueue_live hh hf hw hst hup _).trans (congrArg _ ?_)
  dsimp only
  rw [hbits, ← hi, ← hn, if_pos ⟨hlow, hword, hbehind⟩, ← ha]

theorem execCqDoorbell_wrong (hh : h < 2) (hf : f < 4) (hw : w < 1024) (hst : s.stopped = false) (hup : s.hostUp = true) {value i n : Nat}
    (hi : i = cqInst (s.fnOf h f) w) (hn : n = s.rd Od.cqSize i)
    (hbad : 2 * n ≤ value % 2 ^ 31 ∨ 2 ^ 32 ≤ value ∨ ringDiff n (s.rd Od.cqPi i) (s.rd Od.cqCi i) < ringDiff n (s.rd Od.cqPi i) (value % 2 ^ 31)) :
    exec (.cqDoorbell h f w value) s = .next (s.bump Od.cqDoorbellErrors i) := by
  have hbits : bits value 30 0 = value % 2 ^ 31 := by
    unfold bits
    rw [Nat.pow_zero, Nat.div_one]
  refine (withQueue_live hh hf hw hst hup _).trans (congrArg _ ?_)
  dsimp only
  rw [hbits, ← hi, ← hn, if_neg]
  rintro ⟨hlow, hword, hbehind⟩
  exact hbad.elim (Nat.not_le.2 hlow) fun h => h.elim (Nat.not_le.2 hword) (Nat.not_lt.2 hbehind)

/-! The push window. -/

/-- A push outside a slot of the window leaves it. -/
theorem pushSlot_outside {fn offset k : Nat} {bytes : List Byte} (hk : offset + bytes.length ≤ 64 * k) : s.pushSlot fn w offset bytes k = s :=
  if_pos (.inl hk)

/-- A push of one whole slot at the window's start fills that slot alone. -/
theorem execWqPush_first (hh : h < 2) (hf : f < 4) (hw : w < 1024) (hst : s.stopped = false) (hup : s.hostUp = true) {bytes : List Byte}
    (hl : bytes.length = 64) : exec (.wqPush h f w 0 bytes) s = .next (s.pushSlot (s.fnOf h f) w 0 bytes 0) := by
  have hpart : bytes.take (256 - 0) = bytes := List.take_of_length_le (by omega)
  have hsome : bytes ≠ [] := List.ne_nil_of_length_pos (by omega)
  refine (withQueue_live hh hf hw hst hup _).trans (congrArg _ ?_)
  dsimp only
  rw [hpart, if_neg hsome, show List.range 4 = [0, 1, 2, 3] from rfl]
  simp only [List.foldl_cons, List.foldl_nil]
  rw [pushSlot_outside (k := 1) (by omega), pushSlot_outside (k := 2) (by omega), pushSlot_outside (k := 3) (by omega)]

theorem pushSlot_first {fn i n pi : Nat} {bytes : List Byte} {q : WqRun} (hl : bytes.length = 64) (hi : i = wqInst fn w) (hq : q = s.wq fn w)
    (hn : n = s.rd Od.wqSize i) (hp : pi = s.rd Od.wqPi i) {old : PushCopy}
    (ho : old = sparseGet (fun _ => ({ bytes := 0, mask := 0 } : PushCopy)) q.copies (pi % n)) :
    s.pushSlot fn w 0 bytes 0 =
      if n < ringDiff n (pi + 1) (s.rd Od.wqCi i) then s.bump Od.wqPushErrors i
      else s.setWq fn w { q with copies := sparsePut q.copies (pi % n) (old.laid 0 0 bytes) } := by
  subst hi hq hn hp ho
  exact if_neg (by omega)

/-! Chains. -/

/-- A CONT on an open chain is taken by it. -/
theorem descStep_joins {fn d : Nat} {desc : Option Nat} {c : Chain} {run : State → Taken → State} (hc : (s.wq fn w).chain = some c)
    (hf : s.fetches fn w = true) (hm : s.mustWait fn w 0x0F = false) (hd : (s.peekDesc fn w desc).word = d) (hs : (s.peekDesc fn w desc).sound = true)
    (hop : dOp d = 0x0F) (hfirst : dFirst d = false) :
    s.descStep fn w 0x0F desc run = run (s.fetched fn w) { at_ := (s.wq fn w).fetch, word := d, sound := true } := by
  have ht : s.peekDesc fn w desc = { at_ := (s.wq fn w).fetch, word := d, sound := true } := by
    rw [← peekDesc_at fn w desc, ← hd, ← hs]
  have hsome : (s.wq fn w).chain.isSome = true := by rw [hc]; rfl
  unfold State.descStep
  dsimp only
  rw [ht]
  dsimp only
  rw [hop, hf, hm, hsome, hfirst, if_neg (by simp), if_neg (by simp), if_pos (by simp)]
  rfl

/-- Outside a chain it is malformed. -/
theorem descStep_stray {fn d : Nat} {desc : Option Nat} {run : State → Taken → State} (ho : sparseRising none s.rings.wqs = true)
    (hc : (s.wq fn w).chain = none) (hf : s.fetches fn w = true) (hm : s.mustWait fn w 0x0F = false) (hd : (s.peekDesc fn w desc).word = d)
    (hs : (s.peekDesc fn w desc).sound = true) (hop : dOp d = 0x0F) :
    s.descStep fn w 0x0F desc run = (s.fetched fn w).ends s fn w d .malformed 0 := by
  have ht : s.peekDesc fn w desc = { at_ := (s.wq fn w).fetch, word := d, sound := true } := by
    rw [← peekDesc_at fn w desc, ← hd, ← hs]
  have hnone : (s.wq fn w).chain.isSome = false := by rw [hc]; rfl
  have hhead : headOk (s.rd Od.wqKind (wqInst fn w)) d = false := by
    unfold headOk
    rw [hop]
    simp
  unfold State.descStep
  dsimp only
  rw [ht]
  dsimp only
  rw [hop, hf, hm, hnone, hhead, if_neg (by simp), if_neg (by simp), if_neg (by simp), if_pos (by simp), if_neg (by simp)]
  exact congrArg (fun u => State.ends u s fn w d .malformed 0) (breakChain_none (fetched_chain ho hc))

/-- A sound CONT goes on with its chain, ends it, or is malformed, by the descriptors that the record needs. -/
theorem contDesc_sound {fn d at_ : Nat} {c : Chain} (hc : (s.wq fn w).chain = some c) (hok : contOk d = true) {closed : State}
    (hclosed : closed = s.setWq fn w { s.wq fn w with chain := none }) :
    s.contDesc fn w { at_ := at_, word := d, sound := true } =
      if dLast d ≠ decide (c.bodies.length + 1 = chainNeed (dTable c.head)) then closed.endOp fn w at_ (dBatch d) (dUser c.head) .malformed 0
      else if dLast d then closed.tableOp fn w at_ (dBatch d) (dUser c.head) (dTable c.head) (dIndex c.head) (chainRecord (c.bodies ++ [dBody d]))
        (dOp c.head = 0x11)
      else s.setWq fn w { s.wq fn w with chain := some { c with bodies := c.bodies ++ [dBody d] } } := by
  have hlen : (c.bodies ++ [dBody d]).length = c.bodies.length + 1 := List.length_append
  unfold State.contDesc
  dsimp only
  rw [hc]
  dsimp only
  rw [hok, hlen, ← hclosed]
  simp only [Bool.true_eq_false, false_or]

/-! Drains. -/

theorem endDrain_keeps {fn : Nat} (hkept : (s.rd Od.wqState (wqInst fn w) ≠ 2 ∧ s.rd Od.wqState (wqInst fn w) ≠ 3) ∨ (s.wq fn w).inflight ≠ []) :
    s.endDrain fn w = s :=
  if_pos hkept

theorem endDrain_ends {fn : Nat} (hst : s.rd Od.wqState (wqInst fn w) = 2 ∨ s.rd Od.wqState (wqInst fn w) = 3) (hnone : (s.wq fn w).inflight = [])
    (hdone : (s.wq fn w).doneTo = s.rd Od.wqCi (wqInst fn w)) :
    s.endDrain fn w = s.wr Od.wqState (if s.rd Od.wqState (wqInst fn w) = 3 then 1 else 0) (wqInst fn w) := by
  unfold State.endDrain
  dsimp only
  rw [if_neg (by rw [hnone]; simp; omega), if_pos hdone]

end

/-! Acknowledgements. -/

section
variable {s : State} {d : Nat} {o : TableOp}

theorem execFabricTableWrite_received (hst : s.stopped = false) (hd : s.hasDie d = true) (hops : s.rings.ops = [o]) (hnew : d ∉ o.received) {s1 : State}
    (h1 : s1 = { s with rings := { s.rings with ops := [{ o with received := o.received ++ [d] }] } }) :
    exec (.fabricTableWrite d o.seq) s = .next (s1.emit (.control d (s.rd Od.leadDie) 0x11 [o.seq])) := by
  refine (withDie_live hd hst _).trans (congrArg _ ?_)
  rw [hops, List.find?_cons_of_pos (by simpa using hnew)]
  dsimp only
  rw [if_neg (by simp), h1, List.map_singleton, if_pos rfl]

theorem execFabricTableWrite_ignored (hst : s.stopped = false) (hd : s.hasDie d = true) (hops : s.rings.ops = [o]) {seq : Nat}
    (h : seq ≠ o.seq ∨ d ∈ o.received) : exec (.fabricTableWrite d seq) s = .next s := by
  refine (withDie_live hd hst _).trans (congrArg _ ?_)
  rw [hops]
  by_cases hr : d ∈ o.received
  · rw [List.find?_cons_of_neg (by simpa using hr)]
    rfl
  · rw [List.find?_cons_of_pos (by simpa using hr)]
    exact if_pos (Ne.symm (h.resolve_right hr))

theorem execTableAck_ignored (hst : s.stopped = false) (hd : s.hasDie d = true) (hops : s.rings.ops = [o]) {seq : Nat}
    (h : seq ≠ o.seq ∨ d ∉ o.received) : exec (.tableAck d seq none) s = .next s := by
  refine (withDie_live hd hst _).trans (congrArg _ ?_)
  rw [hops]
  by_cases ha : (o.acks.all fun a => decide (a.1 ≠ d)) = true
  · rw [List.find?_cons_of_pos (p := fun o : TableOp => o.acks.all fun a => decide (a.1 ≠ d)) ha]
    refine if_pos (h.imp Ne.symm fun hr => .inr ⟨rfl, ?_⟩)
    simpa using hr
  · rw [List.find?_cons_of_neg (p := fun o : TableOp => o.acks.all fun a => decide (a.1 ≠ d)) ha]
    rfl

/-- The only operation is done once each die that is not fenced has acknowledged it. -/
theorem settleTables_one (hops : s.rings.ops = [o]) :
    State.settleTables 1 s =
      if s.part.dies.all (fun e => s.isFenced e || o.acks.any fun a => a.1 = e) then ({ s with rings := { s.rings with ops := [] } } : State).finishTableOp o
      else s := by
  unfold State.settleTables
  rw [hops]
  rfl

/-- A die's acknowledgement joins the others. -/
theorem execTableAck_joins (hst : s.stopped = false) (hd : s.hasDie d = true) (hops : s.rings.ops = [o]) (hnew : ∀ a ∈ o.acks, a.1 ≠ d) (hr : d ∈ o.received)
    {o1 : TableOp} (ho : o1 = { o with acks := o.acks ++ [(d, none)] }) :
    exec (.tableAck d o.seq none) s = .next (
      if s.part.dies.all (fun e => s.isFenced e || o1.acks.any fun a => a.1 = e) then ({ s with rings := { s.rings with ops := [] } } : State).finishTableOp o1
      else { s with rings := { s.rings with ops := [o1] } }) := by
  refine (withDie_live hd hst _).trans (congrArg _ ?_)
  rw [hops, List.find?_cons_of_pos (by simpa using hnew)]
  dsimp only
  rw [if_neg (by simp [hr]), List.map_singleton, if_pos rfl, Option.map_none, Option.join_none, ← ho]
  exact settleTables_one rfl

end

/-- Settles O57: doorbells and pushes against the ring, a CONT against its chain, a drain against what is in flight, and a die's answer against the others. -/
theorem queueRows : Obligations.QueueRows := by
  intro s hst
  refine ⟨?_, fun d o hd hops => ⟨fun hnew s1 h1 => execFabricTableWrite_received hst hd hops hnew h1, fun seq => execFabricTableWrite_ignored hst hd hops,
    fun seq => execTableAck_ignored hst hd hops, fun hnew hr => ⟨?_, fun hall => ?_⟩⟩⟩
  · rintro h f w fn hh hf hw rfl hup
    have hexec : ∀ t : State, withQueue s h f w t = .next t := withQueue_live hh hf hw hst hup
    refine ⟨?_, ?_, hexec _, ?_, ?_, ?_, ?_⟩
    · rintro value i n ci rfl rfl rfl
      refine ⟨fun h1 h2 h3 => (hexec _).trans (congrArg _ (if_pos ⟨h1, h2, h3⟩)), fun hbad => (hexec _).trans (congrArg _ (if_neg ?_))⟩
      rintro ⟨h1, h2, h3⟩
      exact hbad.elim (Nat.not_le.2 h1) fun h => h.elim (Nat.not_lt.2 h3) (Nat.not_lt.2 h2)
    · intro value i n hi hn
      have hbit : value < 2 ^ 31 → bitOf value 31 = false := fun h => by
        rw [bitOf_eq_testBit]
        exact Nat.testBit_lt_two_pow h
      have hring := fun (v : Nat) (armed : State) => execCqDoorbell_rings (value := v) (ci := value) (i := i) (n := n) (armed := armed) hh hf hw hst hup
      refine ⟨fun hlow hsmall hbehind => ?_, fun hlow hsmall hbehind armed ha => ?_, execCqDoorbell_wrong hh hf hw hst hup hi hn⟩
      · rw [hring value _ (Nat.mod_eq_of_lt hsmall).symm hi hn hlow (by omega) hbehind rfl, if_pos (hbit hsmall)]
      · have harm : bitOf (2 ^ 31 + value) 31 = true := by
          unfold bitOf
          rw [Nat.add_div_left _ (by decide), Nat.div_eq_of_lt hsmall]
          rfl
        have hexec := hring (2 ^ 31 + value) armed (by omega) hi hn hlow (by omega) hbehind ha
        rw [harm, if_neg (by decide)] at hexec
        exact ⟨fun h => by rw [hexec, if_pos h], fun h => by rw [hexec, if_neg h]⟩
    · intro bytes q n i pi hl hi hq hn hp
      rw [execWqPush_first hh hf hw hst hup hl, pushSlot_first hl hi hq hn hp rfl]
      refine ⟨fun hfull => by rw [if_pos hfull], fun hroom old hold => ?_⟩
      rw [if_neg (Nat.not_lt.2 hroom), hold]
    · intro desc d q c s1 hq hc hfetch hm hd hs hop hfirst hok ho h1 closed hclosed
      subst hq
      have hchain : (s1.wq (s.fnOf h f) w).chain = some c := by
        rw [h1]
        unfold State.fetched
        rw [wq_setWq ho]
        exact hc
      have hcont : exec (.contDescriptor h f w desc) s = .next (s1.contDesc (s.fnOf h f) w { at_ := (s.wq (s.fnOf h f) w).fetch, word := d, sound := true }) := by
        refine (hexec _).trans (congrArg _ ?_)
        dsimp only
        rw [descStep_joins hc hfetch hm hd hs hop hfirst, h1]
      rw [contDesc_sound hchain hok hclosed] at hcont
      refine ⟨fun hl hn => ?_, fun hl hn => ?_, fun hl hn => ?_⟩
      · rw [hcont, hl, if_neg (by simp [hn]), if_neg (by decide)]
      · rw [hcont, hl, if_neg (by simp [hn]), if_pos rfl]
      · rw [hcont, hl, if_pos (by simp [hn])]
    · intro desc d hfetch hm hc hd hs hop ho
      refine (hexec _).trans (congrArg _ ?_)
      exact descStep_stray ho hc hfetch hm hd hs hop
    · rintro st i rfl rfl
      refine ⟨fun h2 h3 => (hexec _).trans (congrArg _ (endDrain_keeps (.inl ⟨h2, h3⟩))), fun h => (hexec _).trans (congrArg _ (endDrain_keeps (.inr h))),
        fun hnone hdone => ⟨fun h => ?_, fun h => ?_⟩⟩
      · refine (hexec _).trans (congrArg _ ((endDrain_ends (.inl h) hnone hdone).trans ?_))
        rw [h]
        rfl
      · refine (hexec _).trans (congrArg _ ((endDrain_ends (.inr h) hnone hdone).trans ?_))
        rw [h]
        rfl
  · rintro ⟨e, he, hed, hfree, hwait⟩
    rw [execTableAck_joins hst hd hops hnew hr rfl, if_neg]
    intro hall
    have hone := List.all_eq_true.1 hall e he
    rw [hfree, Bool.false_or, List.any_append, Bool.or_eq_true] at hone
    obtain hold | hnewest := hone
    · obtain ⟨a, ha, hae⟩ := List.any_eq_true.1 hold
      exact hwait a ha (of_decide_eq_true hae)
    · simp only [List.any_cons, List.any_nil, Bool.or_false, decide_eq_true_eq] at hnewest
      exact hed hnewest.symm
  · rw [execTableAck_joins hst hd hops hnew hr rfl, if_pos]
    refine List.all_eq_true.2 fun e he => ?_
    obtain rfl | hfenced | ⟨a, ha, hae⟩ := hall e he
    · simp
    · simp [hfenced]
    · simp only [Bool.or_eq_true, List.any_append]
      exact .inr (.inl (List.any_eq_true.2 ⟨a, ha, decide_eq_true hae⟩))

end Sys2Proof.Machine
end

section
namespace Sys2Proof.Machine

/-! Fault records and their reactions, the fence of a die, the Lamp. -/

section
variable {s : State}

/-! Reactions. -/

theorem react_none (s : State) (die source location : Nat) : s.react 0 die source location = s := by
  simp [State.react, bitOf]

theorem react_event (s : State) (die source location : Nat) : s.react 1 die source location = s.fire die source := by
  simp [State.react, bitOf]

theorem react_pin (s : State) (die source location : Nat) : s.react 16 die source location = s.pinReaction := by
  simp [State.react, bitOf]

theorem react_reset (s : State) (die source location : Nat) : s.react 8 die source location = s.engineReset 3 (die * 256 + source) := by
  simp [State.react, bitOf]

/-! Records of errors, in a package that is not asleep. -/

/-- The records of a fault log with one more error of those of its source, die and location that are open. -/
def State.mergedLog (s : State) (e : FaultError) (mask : Nat) : List FaultRecord :=
  s.recov.log.map fun x => if x.sameFault e then x.mergeError e s.up s.nanoseconds mask else x

theorem wakeFault_awake (hp : s.rd Od.powerState ≠ 2) (d source : Nat) : s.wakeFault d source = s := if_neg hp

/-- An error that no open record holds. -/
theorem recordFault_opens (hp : s.rd Od.powerState ≠ 2) {e : FaultError} (hno : ∀ r ∈ s.closeRecords.recov.log, r.sameFault e = false)
    (hroom : (s.closeRecords.recov.log.filter fun r => r.isOpen && r.die = e.die).length < 16) :
    s.recordFault e = s.closeRecords.newRecord e (s.reactionMask e.source e.cls) := by
  have hnone : (s.closeRecords.recov.log.find? fun r => r.sameFault e) = none := List.find?_eq_none.mpr fun r hr => by simp [hno r hr]
  unfold State.recordFault
  rw [wakeFault_awake hp]
  dsimp only
  rw [hnone]
  exact if_neg (Nat.not_le.mpr hroom)

/-- An error that no open record holds, on a die whose records are all in use. -/
theorem recordFault_overflows (hp : s.rd Od.powerState ≠ 2) {e : FaultError} (hno : ∀ r ∈ s.closeRecords.recov.log, r.sameFault e = false)
    (hfull : 16 ≤ (s.closeRecords.recov.log.filter fun r => r.isOpen && r.die = e.die).length) :
    s.recordFault e = (({ s.closeRecords with recov := { s.closeRecords.recov with overflow := e.die :: s.recov.overflow.filter (· ≠ e.die) } } :
      State).bump Od.faultOverflow (dieInst e.die)).react (s.reactionMask e.source e.cls) e.die e.source e.location := by
  have hnone : (s.closeRecords.recov.log.find? fun r => r.sameFault e) = none := List.find?_eq_none.mpr fun r hr => by simp [hno r hr]
  unfold State.recordFault
  rw [wakeFault_awake hp]
  dsimp only
  rw [hnone]
  exact if_pos hfull

/-- An error that an open record holds. -/
theorem recordFault_merges (hp : s.rd Od.powerState ≠ 2) {e : FaultError} {r : FaultRecord}
    (hr : (s.closeRecords.recov.log.find? fun x => x.sameFault e) = some r) :
    s.recordFault e =
      ({ s.closeRecords with recov := { s.closeRecords.recov with log := s.closeRecords.mergedLog e (s.reactionMask e.source e.cls) } } : State).react
        (if r.cls < e.cls then bitsMinus (s.reactionMask e.source e.cls) r.reacted else 0) e.die e.source e.location := by
  unfold State.recordFault
  rw [wakeFault_awake hp]
  dsimp only
  rw [hr]
  rfl

/-- What an error that reacts to nothing leaves: the dictionary, the packets and the tables. -/
structure OnlyRecorded (s t : State) : Prop where
  dict : t.dict = s.dict
  packets : t.packets = s.packets
  tables : t.tables = s.tables

namespace OnlyRecorded
variable {t u : State}

theorem closeRecords (s : State) : OnlyRecorded s s.closeRecords := ⟨rfl, rfl, rfl⟩

theorem keepHistory (h : OnlyRecorded s t) (e : FaultError) : OnlyRecorded s (t.keepHistory e) := by
  unfold State.keepHistory
  dsimp only
  split
  · exact ⟨h.dict, h.packets, h.tables⟩
  · exact h

theorem newRecord (h : OnlyRecorded s t) (e : FaultError) : OnlyRecorded s (t.newRecord e 0) := by
  unfold State.newRecord
  dsimp only
  rw [react_none]
  refine keepHistory ?_ e
  split <;> exact ⟨h.dict, h.packets, h.tables⟩

end OnlyRecorded

theorem recordFault_onlyRecorded (hp : s.rd Od.powerState ≠ 2) {e : FaultError} (hmask : s.reactionMask e.source e.cls = 0) :
    OnlyRecorded s (s.recordFault e) := by
  have hmask' : s.closeRecords.reactionMask e.source e.cls = 0 := hmask
  unfold State.recordFault
  rw [wakeFault_awake hp]
  dsimp only
  rw [hmask']
  split
  · have hnothing (a : Nat) : bitsMinus 0 a = 0 := by simp [bitsMinus]
    rw [hnothing, ite_self, react_none]
    exact ⟨rfl, rfl, rfl⟩
  · split
    · rw [react_none]
      exact ⟨rfl, rfl, rfl⟩
    · exact (OnlyRecorded.closeRecords s).newRecord e

/-! The fence of a die. -/

theorem portState_key_inj {i j : Nat} (h : Od.portState.key (portInst i) 0 = Od.portState.key (portInst j) 0) : i = j := by
  unfold Obj.key dictKey portInst at h
  simp only [Od.portState] at h
  omega

/-- The state of the port of a fenced die. -/
def fencedPort (v : Nat) : Nat := if v = 2 ∨ v = 1 then 3 else v

/-- One port of a fenced die. -/
def State.portDown (d : Nat) (s : State) (i : Nat) : State :=
  if s.rd Od.portState (portInst (d * 64 + i)) = 2 ∨ s.rd Od.portState (portInst (d * 64 + i)) = 1 then s.wr Od.portState 3 (portInst (d * 64 + i)) else s

theorem portDown_sound (hs : s.sound = true) (d i : Nat) : (s.portDown d i).sound = true := by
  unfold State.portDown
  split
  · exact State.sound_wr hs ..
  · exact hs

theorem portDown_rd (hs : s.sound = true) (d i j : Nat) : (s.portDown d i).rd Od.portState (portInst (d * 64 + j)) =
    if j = i then fencedPort (s.rd Od.portState (portInst (d * 64 + j))) else s.rd Od.portState (portInst (d * 64 + j)) := by
  unfold State.portDown fencedPort
  by_cases hj : j = i
  · subst hj
    rw [if_pos rfl]
    split
    · exact State.rd_wr_same hs ..
    · rfl
  · rw [if_neg hj]
    split
    · exact State.rd_wr_ne hs fun h => hj (by have := portState_key_inj h; omega)
    · rfl

/-- The first ports of a fenced die. -/
theorem portsDown_prefix (hs : s.sound = true) (d n : Nat) : ((List.range n).foldl (State.portDown d) s).sound = true ∧
    ∀ j, ((List.range n).foldl (State.portDown d) s).rd Od.portState (portInst (d * 64 + j)) =
      if j < n then fencedPort (s.rd Od.portState (portInst (d * 64 + j))) else s.rd Od.portState (portInst (d * 64 + j)) := by
  induction n with
  | zero => exact ⟨hs, fun j => by simp⟩
  | succ n ih =>
    obtain ⟨hsound, hrd⟩ := ih
    rw [List.range_succ, List.foldl_append, List.foldl_cons, List.foldl_nil]
    refine ⟨portDown_sound hsound d n, fun j => ?_⟩
    rw [portDown_rd hsound, hrd]
    by_cases hj : j = n
    · subst hj
      simp
    · have hlt : j < n + 1 ↔ j < n := by omega
      simp only [if_neg hj, hlt]

theorem portsDown_rd (hs : s.sound = true) (d : Nat) {i : Nat} (hi : i < 64) :
    (s.portsDown d).rd Od.portState (portInst (d * 64 + i)) = fencedPort (s.rd Od.portState (portInst (d * 64 + i))) :=
  ((portsDown_prefix hs d 64).2 i).trans (if_pos hi)

theorem fence_again {d : Nat} (h : d ∈ s.recov.fenced) (cause : Nat) : s.fence d cause = s := if_pos (List.contains_iff_mem.mpr h)

theorem fence_first {d : Nat} (h : d ∉ s.recov.fenced) (cause : Nat) {u v w : State}
    (hu : u = (({ s with recov := { s.recov with fenced := d :: s.recov.fenced } } : State).portsDown d).groupsDown d)
    (hv : v = if u.rd Od.leadDie = d then { u with recov := { u.recov with takeover := true } } else u)
    (hw : w = if v.hostDie v.time.master = d then v.takeTime else v) :
    s.fence d cause = (w.fault d 0x17 3 d cause).fire
      (if u.rd Od.leadDie = d then (if d = 0 then s.part.secondHost else 0) else w.rd Od.leadDie) 0x178 := by
  unfold State.fence
  rw [if_neg (show ¬ s.isFenced d = true from fun hc => h (List.contains_iff_mem.mp hc))]
  dsimp only
  rw [← hu, ← hv, ← hw]

/-! The Lamp. -/

theorem execLampRefresh_asserted (h : s.recov.pin = true) : exec .lampRefresh s = .next s := if_pos h

theorem execLampRefresh_running (h : s.recov.pin = false) (hl : s.recov.lampRunning = true) (hs : s.rd Od.lampState ≠ 3) :
    exec .lampRefresh s = .next { s with recov := { s.recov with lampRefreshed := s.up } } :=
  (if_neg (by simp [h])).trans (if_pos ⟨hl, hs⟩)

theorem execLampRefresh_starts (h : s.recov.pin = false) (hl : s.recov.lampRunning = false ∨ s.rd Od.lampState = 3) :
    exec .lampRefresh s = .next (s.wr Od.lampState s.lampLevel).startLamp :=
  (if_neg (by simp [h])).trans (if_neg fun ⟨hr, hs⟩ => hl.elim (fun hn => by simp [hn] at hr) hs)

theorem lampLapsed_iff : s.lampLapsed = true ↔ s.recov.lampRunning = true ∧ s.lampAlone = false ∧
    s.recov.lampRefreshed + max (s.rd Od.lampPeriod) 200 * 1000000 ≤ s.up := by
  unfold State.lampLapsed
  simp only [Bool.and_eq_true, Bool.not_eq_true', decide_eq_true_eq, and_assoc]

theorem execLampRefreshLapse_lapses (h : s.lampLapsed = true) :
    exec .lampRefreshLapse s = .next (({ s with recov := { s.recov with lampRunning := false } } : State).wr Od.lampState 3) := if_pos h

theorem execLampRefreshLapse_keeps (h : s.lampLapsed = false) : exec .lampRefreshLapse s = .next s := if_neg (by simp [h])

/-! The commands. -/

variable {d : Nat} (hst : s.stopped = false)
include hst

theorem execFaultRecordOpen_other {e : FaultError} (hd : s.hasDie e.die = true) (h : e.source ≠ 0x0D ∨ e.cls ≠ 2) :
    exec (.faultRecordOpen e) s = .next ((s.loseNvs e).recordFault e) :=
  (withDie_live hd hst _).trans (congrArg _ (if_neg fun hc => h.elim (fun hs => hs hc.1) fun hs => hs hc.2))

theorem execFaultRecordOpen_cell {e : FaultError} (hd : s.hasDie e.die = true) (hs : e.source = 0x0D) (hc : e.cls = 2) :
    exec (.faultRecordOpen e) s = .next (((s.loseNvs e).recordFault e).loseCell e.die e.location) :=
  (withDie_live hd hst _).trans (congrArg _ (if_pos ⟨hs, hc⟩))

/-- An error of a flash copy that reacts to nothing takes its image out of use. -/
theorem execFaultRecordOpen_nvs {e : FaultError} (hd : s.hasDie e.die = true) (hs : e.source = 0x15) (hc : e.cls = 1) (hl : e.location = 0)
    (hp : s.rd Od.powerState ≠ 2) (hmask : s.reactionMask 0x15 1 = 0) : Runs (.faultRecordOpen e) s fun t =>
      t.dict = { s.dict with nvs0 := { s.dict.nvs0 with writable := false } } ∧ t.packets = s.packets ∧ t.tables = s.tables := by
  have hlose : s.loseNvs e = { s with dict := { s.dict with nvs0 := { s.dict.nvs0 with writable := false } } } := by
    unfold State.loseNvs
    rw [if_neg (by simp [hs, hc]), if_pos hl]
  have hrec := recordFault_onlyRecorded (s := { s with dict := { s.dict with nvs0 := { s.dict.nvs0 with writable := false } } }) (e := e) hp
    (by rw [hs, hc]; exact hmask)
  refine ⟨_, execFaultRecordOpen_other hst hd (.inl (by rw [hs]; decide)), ?_⟩
  rw [hlose]
  exact ⟨hrec.dict, hrec.packets, hrec.tables⟩

theorem execFaultRecordClose_closes {source location : Nat} (hd : s.hasDie d = true) {records : List FaultRecord}
    (hr : records = s.recov.log.map fun r => if r.isOpen = true ∧ r.die = d ∧ r.source = source ∧ r.location = location then
        { r with repairing := false, isOpen := decide (s.up < r.last + s.rd Od.faultMergeWindow * 1000) }
      else { r with isOpen := r.isOpen && (r.repairing || decide (s.up < r.last + s.rd Od.faultMergeWindow * 1000)) }) :
    exec (.faultRecordClose d source location) s = .next { s with recov := { s.recov with log := records } } := by
  refine (withDie_live hd hst _).trans ?_
  unfold State.closeRecords
  dsimp only
  rw [List.map_map]
  have hlog : ∀ l, l = records → ({ s with recov := { s.recov with log := l } } : State) = { s with recov := { s.recov with log := records } } :=
    fun l hl => by rw [hl]
  refine congrArg Host.Outcome.next (hlog _ ?_)
  rw [hr]
  refine List.map_congr_left fun r _ => ?_
  dsimp only [Function.comp_apply]
  split
  · rename_i h
    rw [h.1, Bool.true_and, Bool.false_or]
    rfl
  · rfl

theorem execDieFence_fences {cause : Nat} (hd : s.hasDie d = true) : exec (.dieFence d cause) s = .next (s.fence d cause) := withDie_live hd hst _

end

/-- Settles O58: an error is judged once the records that have ended are closed; the fence and the Lamp act by what stands. -/
theorem faultRecords : Obligations.FaultRecords := by
  unfold Obligations.FaultRecords
  intro s hst
  refine ⟨?_, ?_, ?_, ?_, ?_, ?_, ?_, ?_, ?_⟩
  · rintro e hd t rfl
    exact ⟨execFaultRecordOpen_other hst hd, execFaultRecordOpen_cell hst hd⟩
  · rintro e c mask held hp rfl rfl hc
    have hclose : c = s.closeRecords := hc
    subst hclose
    refine ⟨?_, ?_, ?_⟩
    · rintro hno hroom seq entry rfl rfl v rfl u rfl
      refine (recordFault_opens hp hno hroom).trans ?_
      unfold State.newRecord
      dsimp only
      rw [show s.closeRecords.recov.log.length = s.recov.log.length from List.length_map ..]
      rfl
    · rintro r hr records rfl
      exact recordFault_merges hp hr
    · rintro hno hfull u rfl
      exact recordFault_overflows hp hno hfull
  · exact fun die source location => ⟨react_none .., react_event .., react_pin .., react_reset ..⟩
  · exact fun d d0 d1 used rep hd hp hmask => execFaultRecordOpen_nvs hst hd rfl rfl rfl hp hmask
  · rintro d source location hd records hr
    exact execFaultRecordClose_closes hst hd hr
  · intro d cause hd
    refine ⟨fun h => ?_, fun h u v w hu hv hw => ?_, fun hs i hi => ?_⟩
    · rw [execDieFence_fences hst hd, fence_again h]
    · rw [execDieFence_fences hst hd, fence_first h cause hu hv hw]
    · exact portsDown_rd hs d hi
  · exact execLampRefresh_asserted
  · refine fun hpin => ⟨execLampRefresh_running hpin, ?_⟩
    rintro hl u rfl
    exact execLampRefresh_starts hpin hl
  · rintro limit rfl
    refine ⟨fun hr ha hl => execLampRefreshLapse_lapses (lampLapsed_iff.mpr ⟨hr, ha, hl⟩), fun h => execLampRefreshLapse_keeps ?_⟩
    refine Bool.eq_false_iff.mpr fun hlapsed => ?_
    obtain ⟨hr, ha, hl⟩ := lampLapsed_iff.mp hlapsed
    obtain h | h | h := h
    · simp [h] at hr
    · simp [h] at ha
    · omega

end Sys2Proof.Machine
end

section
namespace Sys2Proof.Machine

/-! Spares, Keeper cores, PLLs, the lead role and the failover of a PCIe interface. -/

section
variable {s : State} {d : Nat}

/-! Keeper cores. -/

theorem coreUnit_eq {core unit : Nat} (hu : unit = if s.rdOctet Od.keeperCoreState (dieInst d) 0 core = 4 then 4 else core) : s.coreUnit d core = unit :=
  hu.symm

theorem takeCore_out {core unit : Nat} (hu : s.coreUnit d core = unit) (hout : s.rdOctet Od.keeperCoreState (dieInst d) 0 unit = 4) :
    s.takeCore d core = s := by
  subst hu
  exact if_pos hout

/-- A core that is taken out of use: the spare takes its number where it can, and the role of the lead moves with the second loss. -/
theorem takeCore_takes {core unit : Nat} (hu : s.coreUnit d core = unit) (hin : s.rdOctet Od.keeperCoreState (dieInst d) 0 unit ≠ 4) {u v w : State}
    (h1 : u = s.wrOctet Od.keeperCoreState (dieInst d) 0 unit 4)
    (h2 : v = if unit < 4 ∧ u.rdOctet Od.keeperCoreState (dieInst d) 0 4 < 3 then
        (({ u with recov := { u.recov with replaced := sparsePut u.recov.replaced (spareKey 9 d 0 core) 4 } } : State).wrOctet Od.keeperCoreState
          (dieInst d) 0 4 3).fire d 0x175
      else u)
    (h3 : w = (v.retire 9 d 0 unit 0x11).handCore (d * 8 + core)) :
    s.takeCore d core = if w.rd Od.leadDie = d ∧ 2 ≤ w.coresOut d then { w with recov := { w.recov with takeover := true } } else w := by
  subst hu
  unfold State.takeCore
  dsimp only
  rw [if_neg hin, ← h1, ← h2, ← h3]

/-- The first checkpoints of a die's cores, each at the present time. -/
theorem checkpoints_prefix (d n : Nat) : ∃ l, ((List.range n).foldl (fun a k =>
      { a with recov := { a.recov with checkpoints := sparsePut a.recov.checkpoints (d * 8 + k) s.up } }) s) =
        { s with recov := { s.recov with checkpoints := l } } ∧ ∀ k, k < n → sparseFind? l (d * 8 + k) = some s.up := by
  induction n with
  | zero => exact ⟨s.recov.checkpoints, rfl, fun k hk => absurd hk (Nat.not_lt_zero k)⟩
  | succ n ih =>
    obtain ⟨l, hl, hk⟩ := ih
    refine ⟨sparsePut l (d * 8 + n) s.up, ?_, fun k hkn => ?_⟩
    · rw [List.range_succ, List.foldl_append, List.foldl_cons, List.foldl_nil, hl]
    · rw [sparseFind?_put]
      by_cases hkeq : k = n
      · rw [if_pos (by rw [hkeq])]
      · rw [if_neg (by omega)]
        exact hk k (by omega)

/-! The lead role. -/

theorem execKeeperTakeover_fenced {new : Nat} (hn : new = if s.rd Od.leadDie = 0 then s.part.secondHost else 0) (h : new ∈ s.recov.fenced) :
    exec .keeperTakeover s = .next s := by
  subst hn
  exact if_pos (List.contains_iff_mem.mpr h)

theorem execKeeperTakeover_leads {new : Nat} (hn : new = if s.rd Od.leadDie = 0 then s.part.secondHost else 0) (h : new ∉ s.recov.fenced) :
    exec .keeperTakeover s = .next (((({ s with recov := { s.recov with takeover := false } } : State).wr Od.leadDie new).fault new
      0x1A 1 (s.rd Od.leadDie)).fire new 0x176) := by
  subst hn
  exact if_neg fun hc => h (List.contains_iff_mem.mp hc)

/-! A PCIe interface. -/

theorem execPcieFailover_alone {h f aer address : Nat} (hp : s.rd Od.pciePairing ≠ 1 ∨ s.spareState 11 0 0 (1 - h) = 4) :
    exec (.pcieFailover h f aer address) s = .next (s.fault (s.hostDie h) 0x14 2 (fnKey h f) aer (low 32 address)) :=
  if_neg fun hc => hp.elim (fun hn => hn hc.1) fun ho => hc.2 ho

/-- An interface of a pair hands over, if it is the active one, and is retired. -/
theorem execPcieFailover_pair {h f aer address : Nat} (hp : s.rd Od.pciePairing = 1) (ho : s.spareState 11 0 0 (1 - h) ≠ 4) {u : State}
    (hu : u = s.faultSpare (s.hostDie h) 0x14 1 (fnKey h f) aer (low 32 address)) :
    exec (.pcieFailover h f aer address) s = .next (((((if u.rd Od.pcieActiveDie = s.hostDie h then
      (u.wr Od.pcieActiveDie (s.hostDie (1 - h))).emit (.link 21 (1 - h) []) else u).setSpare 11 0 0 h 4).retire 11 0 0 h 0x14).fireLead 0x177)) := by
  subst hu
  exact if_pos ⟨hp, ho⟩

/-! The commands of a die. -/

variable (hst : s.stopped = false) (hd : s.hasDie d = true)
include hst hd

theorem execSpareTestStart_cold {cls group unit : Nat} (h : s.spareState cls d group unit = 0) :
    exec (.spareTestStart cls d group unit) s = .next (s.setSpare cls d group unit 1) := (withDie_live hd hst _).trans (congrArg _ (if_pos h))

theorem execSpareTestStart_other {cls group unit : Nat} (h : s.spareState cls d group unit ≠ 0) :
    exec (.spareTestStart cls d group unit) s = .next s := (withDie_live hd hst _).trans (congrArg _ (if_neg h))

theorem execSpareRetest_seasoned {cls group unit : Nat} (h : s.spareState cls d group unit = 2) :
    exec (.spareRetest cls d group unit) s = .next (s.emit (.link 20 (spareKey cls d group unit) [])) :=
  (withDie_live hd hst _).trans (congrArg _ (if_pos h))

theorem execSpareRetest_other {cls group unit : Nat} (h : s.spareState cls d group unit ≠ 2) :
    exec (.spareRetest cls d group unit) s = .next s := (withDie_live hd hst _).trans (congrArg _ (if_neg h))

theorem execMigrateDrainEnd_drained (h : s.rd Od.sparePipelineClaim (dieInst d) = 3) : exec (.migrateDrainEnd d) s =
    .next ((((s.wrOctet Od.sparePipelineState (dieInst d) 0 0 1).wrOctet Od.sparePipelineState (dieInst d) 0 1 1).wr Od.sparePipelineClaim 0
      (dieInst d)).dropHolder (Od.sparePipelineClaim.key (dieInst d) 0)) := (withDie_live hd hst _).trans (congrArg _ (if_pos h))

theorem execMigrateDrainEnd_idle (h : s.rd Od.sparePipelineClaim (dieInst d) ≠ 3) : exec (.migrateDrainEnd d) s = .next s :=
  (withDie_live hd hst _).trans (congrArg _ (if_neg h))

/-- A core's fault takes the core out of use, unless its record has changed what unit it runs on. -/
theorem execKeeperCoreFault_judged {core unit cause : Nat} (hu : s.coreUnit d core = unit) {t : State}
    (ht : t = if unit < 4 ∧ s.rdOctet Od.keeperCoreState (dieInst d) 0 4 < 3 then s.faultSpare d 0x11 1 core cause
      else s.fault d 0x11 (if core < 4 then 3 else 1) core cause) :
    exec (.keeperCoreFault d core cause) s = .next (if t.coreUnit d core = unit then t.takeCore d core else t) := by
  have husable : (decide (unit < 4) && decide (s.rdOctet Od.keeperCoreState (dieInst d) 0 4 < 3)) = true ↔
      unit < 4 ∧ s.rdOctet Od.keeperCoreState (dieInst d) 0 4 < 3 := by rw [Bool.and_eq_true, decide_eq_true_eq, decide_eq_true_eq]
  refine (withDie_live hd hst _).trans (congrArg _ ?_)
  dsimp only
  rw [hu]
  simp only [husable]
  rw [← ht]

theorem execKeeperCheckpoint_stamps : Runs (.keeperCheckpoint d) s fun t =>
    t = { s with recov := { s.recov with checkpoints := t.recov.checkpoints } } ∧ ∀ k, k < 4 → sparseFind? t.recov.checkpoints (d * 8 + k) = some s.up := by
  obtain ⟨l, hl, hk⟩ := checkpoints_prefix (s := s) d 4
  refine ⟨_, withDie_live hd hst _, ?_⟩
  rw [hl]
  exact ⟨rfl, hk⟩

theorem execPllFault_known {pll ppm : Nat} (h : s.spareState 10 d 0 pll = 4) : exec (.pllFault d pll ppm) s = .next s :=
  (withDie_live hd hst _).trans (congrArg _ (if_pos h))

theorem execPllFault_last {pll ppm : Nat} {u : State} (hu : u = s.setSpare 10 d 0 pll 4) (h : s.spareState 10 d 0 pll ≠ 4)
    (ho : u.spareState 10 d 0 (1 - pll) = 4) :
    exec (.pllFault d pll ppm) s = .next (((u.fault d 0x12 3 pll ppm).retire 10 d 0 pll 0x12).fence d 3) := by
  subst hu
  exact (withDie_live hd hst _).trans (congrArg _ ((if_neg h).trans (if_pos ho)))

theorem execPllFault_other {pll ppm : Nat} {u : State} (hu : u = s.setSpare 10 d 0 pll 4) (h : s.spareState 10 d 0 pll ≠ 4)
    (ho : u.spareState 10 d 0 (1 - pll) ≠ 4) {inUse : Bool} (hin : inUse = decide (s.rd Od.pllInUse (dieInst d) = pll)) :
    exec (.pllFault d pll ppm) s = .next ((bif inUse then ((u.wr Od.pllInUse (1 - pll) (dieInst d)).faultSpare d 0x12 1 pll ppm).fireLead 0x170
      else u.fault d 0x12 1 pll ppm).retire 10 d 0 pll 0x12) := by
  refine (withDie_live hd hst _).trans (congrArg _ ((if_neg h).trans ?_))
  dsimp only
  rw [← hu, if_neg ho, ← hin]
  cases inUse <;> rfl

end

/-- Settles O59: each command acts by the state of the spare, core, PLL or interface it names. -/
theorem spareRows : Obligations.SpareRows := by
  unfold Obligations.SpareRows
  intro s hst
  refine ⟨fun d hd => ⟨fun cls group unit => ?_, ?_, ?_, ?_, ?_, ?_, ?_, ?_⟩, ?_, ?_⟩
  · exact ⟨execSpareTestStart_cold hst hd, execSpareTestStart_other hst hd, execSpareRetest_seasoned hst hd, execSpareRetest_other hst hd⟩
  · exact execMigrateDrainEnd_drained hst hd
  · exact execMigrateDrainEnd_idle hst hd
  · intro core unit hcore hunit
    have hu := coreUnit_eq hunit
    refine ⟨fun cause t ht => ⟨fun h => ?_, fun h => ?_⟩, takeCore_out hu, fun hin u v w h1 h2 h3 => ⟨fun h => ?_, fun hlead hout => ?_⟩⟩
    · rw [execKeeperCoreFault_judged hst hd hu ht, if_pos h]
    · rw [execKeeperCoreFault_judged hst hd hu ht, if_neg h]
    · rw [takeCore_takes hu hin h1 h2 h3, if_neg fun hc => h.elim (fun hn => hn hc.1) fun hl => Nat.not_le.mpr hl hc.2]
    · rw [takeCore_takes hu hin h1 h2 h3, if_pos ⟨hlead, hout⟩]
  · exact execKeeperCheckpoint_stamps hst hd
  · exact fun pll ppm hp h => execPllFault_known hst hd h
  · exact fun pll ppm u hp hu h ho => execPllFault_last hst hd hu h ho
  · intro pll ppm u hp hu h ho
    refine ⟨fun hin => ?_, fun hin => ?_⟩
    · rw [execPllFault_other hst hd hu h ho (inUse := false) (by simp [hin])]
      rfl
    · rw [execPllFault_other hst hd hu h ho (inUse := true) (by simp [hin])]
      rfl
  · exact fun new hn => ⟨execKeeperTakeover_fenced hn, execKeeperTakeover_leads hn⟩
  · intro h f aer address hh hf
    refine ⟨execPcieFailover_alone, fun hp ho u hu => ⟨fun ha => ?_, fun ha => ?_⟩⟩
    · rw [execPcieFailover_pair hp ho hu, if_pos ha]
    · rw [execPcieFailover_pair hp ho hu, if_neg ha]

end Sys2Proof.Machine
end

section
namespace Sys2Proof.Machine

/-! Wear records, counter windows, bandwidth windows and samples. -/

section
variable {s : State}

/-! The forecast of wear. -/

/-- The forecast of a class has fallen: below two years where it was not, or to half of what it was when the event was last raised. -/
def State.forecastFalls (s : State) (m : List Nat) (c : Nat) : Bool :=
  (decide (m.getD c 0 < 24) && decide (24 ≤ s.rd Od.wearForecast / 65536 ^ (11 - c) % 65536)) ||
    decide (2 * m.getD c 0 ≤ s.recov.forecastAt.getD c 0 ∧ m.getD c 0 < s.recov.forecastAt.getD c 0)

theorem forecastFalls_iff (m : List Nat) (c : Nat) : s.forecastFalls m c = true ↔
    (m.getD c 0 < 24 ∧ 24 ≤ s.rd Od.wearForecast / 65536 ^ (11 - c) % 65536) ∨
      (2 * m.getD c 0 ≤ s.recov.forecastAt.getD c 0 ∧ m.getD c 0 < s.recov.forecastAt.getD c 0) := by
  unfold State.forecastFalls
  rw [Bool.or_eq_true, Bool.and_eq_true, decide_eq_true_eq, decide_eq_true_eq, decide_eq_true_eq]

theorem execWearForecast_shows {months m : List Nat} (hm : m = (List.range 12).map fun c => min 0xFFFF (months.getD c 0xFFFF)) {f : State}
    (hf : f = s.wr Od.wearForecast (m.foldl (fun (a x : Nat) => a * 65536 + x) 0)) :
    exec (.wearForecast months) s = .next (if (List.range 12).any (s.forecastFalls m) then
      ({ f with recov := { f.recov with forecastAt := m } } : State).fireLead 0x173 else f) := by
  subst hf hm
  exact (apply_ite Host.Outcome.next ..).symm

/-! Counter windows. -/

theorem execCwinValueRead_undefined {h f w j : Nat} (hno : bitOf (s.rd Od.cwinFunctionEnable) (s.fnOf h f) = false ∨ s.rd Od.cwinCount (s.fnOf h f * 65536) w ≤ j) :
    exec (.cwinValueRead h f w j) s = .next (s.emit (.readData 3 (s.fnOf h f * 65536 + w * 256 + j) 0)) := if_pos hno

theorem execCwinValueRead_latches {h f w j : Nat} (hen : bitOf (s.rd Od.cwinFunctionEnable) (s.fnOf h f) = true)
    (hj : j < s.rd Od.cwinCount (s.fnOf h f * 65536) w) {v : Nat}
    (hv : v = s.counterValue (s.rd Od.cwinDie (s.fnOf h f * 65536) w) (s.rd Od.cwinBase (s.fnOf h f * 65536) w + j)) :
    Runs (.cwinValueRead h f w j) s fun t =>
      t = { s with ctrs := { s.ctrs with latch := t.ctrs.latch }, out := .readData 3 (s.fnOf h f * 65536 + w * 256 + j) v :: s.out } ∧
      sparseFind? t.ctrs.latch (s.fnOf h f * 65536 + w * 256 + j) = some (v, low 64 (time96 s.time.now)) := by
  subst hv
  refine ⟨_, if_neg fun hc => hc.elim (fun hoff => by simp [hen] at hoff) fun hl => Nat.not_le.mpr hj hl, rfl, ?_⟩
  exact (sparseFind?_put ..).trans (if_pos rfl)

/-! Windows of bandwidth. -/

/-- What the end of a port's bandwidth window shows: its averages and peaks, unless package time stepped over the window. -/
def State.bwShown (s : State) (n : Nat) : State :=
  match s.bwEnded with
  | none => s
  | some (stop, tick, ticks) =>
    match s.ctrs.stepAt with
    | some a => if stop < a + tick * ticks * 1000 then s else s.bwReport n stop tick ticks
    | none => s.bwReport n stop tick ticks

theorem bwShown_none (h : s.bwEnded = none) (n : Nat) : s.bwShown n = s := by
  unfold State.bwShown
  rw [h]

theorem bwShown_stepped {stop tick ticks a : Nat} (h : s.bwEnded = some (stop, tick, ticks)) (ha : s.ctrs.stepAt = some a)
    (hlt : stop < a + tick * ticks * 1000) (n : Nat) : s.bwShown n = s := by
  unfold State.bwShown
  rw [h]
  dsimp only
  rw [ha]
  exact if_pos hlt

theorem bwShown_reports {stop tick ticks : Nat} (h : s.bwEnded = some (stop, tick, ticks))
    (hstep : s.ctrs.stepAt = none ∨ ∃ a, s.ctrs.stepAt = some a ∧ a + tick * ticks * 1000 ≤ stop) (n : Nat) :
    s.bwShown n = s.bwReport n stop tick ticks := by
  unfold State.bwShown
  rw [h]
  dsimp only
  obtain hnone | ⟨a, ha, hle⟩ := hstep
  · rw [hnone]
  · rw [ha]
    exact if_neg (Nat.not_lt.mpr hle)

theorem execBwWindowEnd_shows {n : Nat} (hn : n < 512) (hd : s.hasDie (n / 64) = true) (hst : s.stopped = false) {t : State} (ht : s.bwShown n = t)
    (hctrs : t.ctrs = s.ctrs) : exec (.bwWindowEnd n) s = .next { t with ctrs := { s.ctrs with bw := sparseErase s.ctrs.bw n } } := by
  rw [← hctrs, ← ht]
  exact withLane_live hn hd hst

/-! Samples. -/

variable {d : Nat} (hst : s.stopped = false) (hd : s.hasDie d = true)
include hst hd

theorem execWearSample_room {readings : List Nat} (h : s.recov.samples.length < 180) : exec (.wearSample d readings) s =
    .next { s with recov := { s.recov with samples := s.recov.samples ++ [d :: readings] } } := by
  refine (withDie_live hd hst _).trans ?_
  rw [if_pos h]

theorem execWearSample_full {readings : List Nat} (h : 180 ≤ s.recov.samples.length) : exec (.wearSample d readings) s = .next s := by
  refine (withDie_live hd hst _).trans ?_
  rw [if_neg (Nat.not_lt.mpr h)]

theorem execSampleDrain_none (h : sparseGet (fun _ => []) s.ctrs.samples d = []) : exec (.sampleDrain d) s = .next s := by
  refine (withDie_live hd hst _).trans ?_
  dsimp only
  rw [h]

/-- A sample waits where there is no ring for it, or no room in its ring. -/
theorem execSampleDrain_waits {i c fn : Nat} (hi : i = dieInst d) (hc : c = s.rd Od.sampleRing i) (hfn : fn = s.cqOwnerOf Od.sampleRing i)
    (h : c = 0xFFFF ∨ s.cqFull fn c = true) : exec (.sampleDrain d) s = .next s := by
  subst hi hc hfn
  refine (withDie_live hd hst _).trans ?_
  dsimp only
  split
  · rfl
  · rw [if_pos h]

theorem execSampleDrain_writes {i c fn : Nat} (hi : i = dieInst d) (hc : c = s.rd Od.sampleRing i) (hfn : fn = s.cqOwnerOf Od.sampleRing i)
    {record seq slot lost : Nat} {rest : List (Nat × Nat)} (hl : sparseGet (fun _ => []) s.ctrs.samples d = (record, seq) :: rest)
    (hring : c ≠ 0xFFFF) (hroom : s.cqFull fn c = false) (hslot : slot = s.rd Od.cqPi (cqInst fn c) % s.rd Od.cqSize (cqInst fn c))
    (hlost : lost = sparseGet (fun _ => 0) s.ctrs.sampleLost d) {s1 : State}
    (h1 : s1 = { s with ctrs := { s.ctrs with samples := sparseSet (fun _ => []) s.ctrs.samples d rest,
                                              sampleLost := sparseErase s.ctrs.sampleLost d } }) :
    exec (.sampleDrain d) s = .next ((((s1.wr Od.sampleBuffered rest.length i).bump Od.sampleRecords i).emit
      (.dma (s.dmaHost fn) (fn % 4) (s.rd Od.sampleAreaBase i + slot * 64) (leBytes 64 record))).postEntry fn c
        (seq * 2 ^ 64 + (min 255 lost) * 2 ^ 96 + d * 2 ^ 109 + 0x40 * 2 ^ 120)) := by
  have hentry : sampleEntry d lost seq = seq * 2 ^ 64 + (min 255 lost) * 2 ^ 96 + d * 2 ^ 109 + 0x40 * 2 ^ 120 := rfl
  rw [← hentry]
  subst hi hc hfn hslot hlost
  refine (withDie_live hd hst _).trans ?_
  dsimp only
  rw [hl]
  dsimp only
  rw [if_neg fun hw => hw.elim hring fun hf => Bool.noConfusion (hroom.symm.trans hf), ← h1]

end

/-- Settles O60: each window, sample and forecast by what the counters hold. -/
theorem counterRows : Obligations.CounterRows := by
  unfold Obligations.CounterRows
  intro s hst
  refine ⟨?_, ?_, ?_, ?_, ?_⟩
  · intro months m f hm hf
    refine ⟨fun h => ?_, fun h => ?_⟩
    · rw [execWearForecast_shows hm hf, if_neg]
      intro hany
      obtain ⟨c, hc, hfalls⟩ := List.any_eq_true.mp hany
      obtain ⟨hyears, hhalf⟩ := h c (List.mem_range.mp hc)
      rw [forecastFalls_iff] at hfalls
      omega
    · obtain ⟨c, hc, hfalls⟩ := h
      rw [execWearForecast_shows hm hf, if_pos (List.any_eq_true.mpr ⟨c, List.mem_range.mpr hc, (forecastFalls_iff m c).mpr hfalls⟩)]
  · exact fun d readings hd => ⟨execWearSample_room hst hd, execWearSample_full hst hd⟩
  · rintro h f w j fn i hh hf hw hj rfl rfl
    exact ⟨execCwinValueRead_undefined, fun hen hcount v hv => execCwinValueRead_latches hen hcount hv⟩
  · rintro n i hn hd rfl
    refine ⟨fun hend => execBwWindowEnd_shows hn hd hst (bwShown_none hend n) rfl, fun stop tick ticks b hend hb => ⟨fun hstep u hu => ?_, fun a ha hlate =>
      execBwWindowEnd_shows hn hd hst (bwShown_stepped hend ha hlate n) rfl⟩⟩
    have hreport : s.bwReport n stop tick ticks = u := by
      rw [hu, hb]
      rfl
    refine execBwWindowEnd_shows hn hd hst ((bwShown_reports hend hstep n).trans hreport) ?_
    rw [hu, State.wr_ctrs, State.wr_ctrs, State.wr_ctrs, State.wr_ctrs, State.wr_ctrs]
  · intro d i c fn hd hi hc hfn
    exact ⟨execSampleDrain_none hst hd, execSampleDrain_waits hst hd hi hc hfn, fun record seq rest slot lost hl hring hroom hslot hlost s1 h1 =>
      execSampleDrain_writes hst hd hi hc hfn hl hring hroom hslot hlost h1⟩

end Sys2Proof.Machine
end

section
namespace Sys2Proof.Machine

/-! The lookups of a packet, a clock of the search arrays and a sweep of the result cache. -/

section
variable {s t : State}

/-! What leaves the search arrays as they are. -/

/-- A step that leaves the search arrays, their queues and the result caches. -/
def AsaKept (s t : State) : Prop := t.asa = s.asa

namespace AsaKept

theorem refl (s : State) : AsaKept s s := rfl

theorem bump (h : AsaKept s t) (o : Obj) (inst k n : Nat) : AsaKept s (t.bump o inst k n) := h

theorem ite {c : Prop} [Decidable c] {a b : State} (ha : AsaKept s a) (hb : AsaKept s b) : AsaKept s (if c then a else b) := by
  split
  · exact ha
  · exact hb

theorem iteFst {α : Type} {c : Prop} [Decidable c] {a b : State × α} (ha : AsaKept s a.1) (hb : AsaKept s b.1) : AsaKept s (if c then a else b).1 := by
  split
  · exact ha
  · exact hb

theorem setPacket (h : AsaKept s t) (p : Nat) (k : Packet) : AsaKept s (t.setPacket p k) := h

theorem finishLookups (h : AsaKept s t) (p : Nat) : AsaKept s (t.finishLookups p) := by
  have hmissed : ∀ o : Obj, ∀ inst : Nat, AsaKept s (t.bump o inst) := fun o inst => h.bump ..
  unfold State.finishLookups
  split
  · exact h
  · refine .ite h (.ite (.setPacket (.iteFst h ?_) ..) (.setPacket (.iteFst h ?_) ..))
    · split
      · exact h
      · exact .iteFst (hmissed ..) (.iteFst (hmissed ..) (.iteFst (hmissed ..) (hmissed ..)))
      · exact h
      · exact h
    · split
      · exact h
      · exact .iteFst (hmissed ..) (.iteFst (hmissed ..) (.iteFst (hmissed ..) (hmissed ..)))
      · exact h
      · exact h

theorem applyOutcome (h : AsaKept s t) (k : Packet) (i : Nat) (set : Option Nat) (o : Option SearchOutcome) (hv : Nat) :
    AsaKept s (t.applyOutcome k i set o hv).1 := by
  unfold State.applyOutcome
  split
  · exact .iteFst h (.iteFst (.ite (h.bump ..) h) (.ite (h.bump ..) h))
  · exact h

theorem takeOutcomes (h : AsaKept s t) (p : Nat) (o : Option SearchOutcome × Option SearchOutcome) : AsaKept s (t.takeOutcomes p o) := by
  unfold State.takeOutcomes
  split
  · exact h
  · exact .ite (.setPacket (.applyOutcome (h.applyOutcome ..) ..) ..) (.finishLookups (.setPacket (.applyOutcome (h.applyOutcome ..) ..) ..) ..)

theorem asaQueue (h : AsaKept s t) (o : Nat) : t.asaQueue o = s.asaQueue o := by
  unfold State.asaQueue
  rw [h]

end AsaKept

theorem asaQueue_set (hr : sparseRising none s.asa.queues = true) (o j : Nat) (l : List AsaWait) :
    (s.setAsaQueue o l).asaQueue j = if o = j then l else s.asaQueue j := sparseGet_set _ _ _ _ _ hr

/-! The slots of a clock. -/

/-- No entry of an octet waits for a lookup of this kind. -/
theorem serveSlot_idle {o : Nat} {second : Bool} (h : ∀ w ∈ s.asaQueue o, (if second then w.set1 else w.set0) = none) (p : Nat → Bool) :
    s.serveSlot o second p = s := by
  have hnone : ((s.asaQueue o).find? fun w => w.follows.isNone && (if second then w.set1 else w.set0).any p) = none :=
    List.find?_eq_none.mpr fun w hw => by rw [h w hw]; simp
  unfold State.serveSlot
  dsimp only
  rw [hnone]

/-- The only entry of an octet's queue is searched. -/
theorem serveSlot_only {o p set : Nat} {out : SearchOutcome}
    (hq : s.asaQueue o = [{ packet := p, follows := none, set0 := some set, set1 := none, done0 := none, done1 := none }]) (hx : s.searchOne p set = (s, out)) :
    s.serveSlot o false (fun _ => true) =
      s.setAsaQueue o [{ packet := p, follows := none, set0 := none, set1 := none, done0 := some out, done1 := none }] := by
  unfold State.serveSlot
  dsimp only
  rw [hq, List.find?_cons_of_pos (by rfl)]
  dsimp only [Option.getD_some, Bool.false_eq_true, if_false]
  rw [show (if false = true then (none : Option Nat) else some set).getD 0 = set from rfl, hx, hq]
  simp

/-- A queue whose entries wait for no lookup is settled: none of them is there. -/
theorem settleQueue_empty {o : Nat} (hq : s.asaQueue o = []) (hs : sparseFind? s.asa.stalled o = none) : s.settleQueue o = s := by
  unfold State.settleQueue
  dsimp only
  rw [hq, List.filter_nil, List.foldl_nil, hs]

/-- Only one of the octets has something to do. -/
theorem foldl_only {f : State → Nat → State} {l : List Nat} {o : Nat} (hl : l.Nodup) (ho : o ∈ l) (hbefore : ∀ x ∈ l, x ≠ o → f s x = s) (hat : f s o = t)
    (hafter : ∀ x ∈ l, x ≠ o → f t x = t) : l.foldl f s = t := by
  obtain ⟨a, b, rfl⟩ := List.append_of_mem ho
  obtain ⟨-, hb, hdisjoint⟩ := List.nodup_append.mp hl
  have ha : ∀ x ∈ a, x ≠ o := fun x hx => hdisjoint x hx o (List.mem_cons_self ..)
  have hbo : ∀ x ∈ b, x ≠ o := fun x hx heq => (List.nodup_cons.mp hb).1 (heq ▸ hx)
  rw [List.foldl_append, List.foldl_cons, foldl_id _ _ fun x hx => hbefore x (List.mem_append_left _ hx) (ha x hx), hat]
  exact foldl_id _ _ fun x hx => hafter x (List.mem_append_right _ (List.mem_cons_of_mem _ hx)) (hbo x hx)

/-- The octets of a die. -/
def octetsOf (d : Nat) : List Nat := (List.range 8).map fun i => d * 8 + i

theorem mem_octetsOf {d o : Nat} : o ∈ octetsOf d ↔ ∃ i, i < 8 ∧ d * 8 + i = o := by
  unfold octetsOf
  simp [List.mem_map]

theorem octetsOf_nodup (d : Nat) : (octetsOf d).Nodup := List.pairwise_map.mpr (List.nodup_range.imp fun h => by omega)

/-- The window of a die's search arrays moves by one clock. -/
def State.asaTick (s : State) (d clock step : Nat) : State :=
  { s with asa := { s.asa with clock := sparsePut s.asa.clock d ((clock + 1) % 4), step := sparsePut s.asa.step d step } }

/-- A clock in which no octet waits for a lookup of side B: side A serves, the window moves, and the queues are settled. -/
theorem execAsaSearchSlot_sideA {d clock step : Nat} (hst : s.stopped = false) (hd : s.hasDie d = true) (hclock : clock = sparseGet (fun _ => 0) s.asa.clock d)
    (hstep : step = if clock = 0 then s.rd Od.searchThrottleStep (dieInst d) else sparseGet (fun _ => 0) s.asa.step d)
    (hA : (if slotOn false step clock then (octetsOf d).foldl (fun u o => u.serveSlot o false fun _ => true) s else s) = t)
    (hB : ∀ i, i < 8 → ∀ w ∈ t.asaQueue (d * 8 + i), w.set1 = none) :
    exec (.asaSearchSlot d) s = .next ((octetsOf d).foldl (fun u o => u.settleQueue o) (t.asaTick d clock step)) := by
  refine (withDie_live hd hst _).trans (congrArg _ ?_)
  extract_lets clock' step' octets parted s1 sideB s2
  have hc : clock' = clock := hclock.symm
  have hs : step' = step := by
    unfold step'
    rw [hc, ← hstep]
  have hs1 : s1 = t := by
    unfold s1
    rw [hc, hs]
    exact hA
  have hside : ∀ q, sideB t q = t := by
    intro q
    unfold sideB
    dsimp only
    split
    · rename_i o ho
      obtain ⟨hwaits, hmem⟩ := And.intro (List.find?_some ho) (List.mem_of_find?_eq_some ho)
      obtain ⟨i, -, rfl⟩ := List.mem_map.mp hmem
      obtain ⟨w, hw, hset⟩ := List.any_eq_true.mp (Bool.and_eq_true_iff.mp hwaits).2
      rw [hB _ (Nat.mod_lt _ (by decide)) w hw] at hset
      simp at hset
    · refine foldl_id _ _ fun o ho => serveSlot_idle (second := true) (fun w hw => ?_) _
      exact hB o (List.mem_range.mp (List.mem_filter.mp ho).1) w hw
  have hs2 : s2 = t := by
    unfold s2
    rw [hs1, hside, hside, ite_self]
  show (octetsOf d).foldl (fun u o => u.settleQueue o) (s2.asaTick d clock' step') = _
  rw [hs2, hc, hs]

/-- The clock of a die whose queues are empty moves the window alone. -/
theorem execAsaSearchSlot_idle {d clock step : Nat} (hst : s.stopped = false) (hd : s.hasDie d = true) (hclock : clock = sparseGet (fun _ => 0) s.asa.clock d)
    (hstep : step = if clock = 0 then s.rd Od.searchThrottleStep (dieInst d) else sparseGet (fun _ => 0) s.asa.step d)
    (hstalled : ∀ i, i < 8 → sparseFind? s.asa.stalled (d * 8 + i) = none) (hq : ∀ i, i < 8 → s.asaQueue (d * 8 + i) = []) :
    exec (.asaSearchSlot d) s = .next (s.asaTick d clock step) := by
  have hqueue : ∀ o ∈ octetsOf d, s.asaQueue o = [] := fun o ho => by
    obtain ⟨i, hi, rfl⟩ := mem_octetsOf.mp ho
    exact hq i hi
  have hA : (octetsOf d).foldl (fun u o => u.serveSlot o false fun _ => true) s = s :=
    foldl_id _ _ fun o ho => serveSlot_idle (fun w hw => by rw [hqueue o ho] at hw; exact absurd hw List.not_mem_nil) _
  rw [execAsaSearchSlot_sideA hst hd hclock hstep (t := s) (by rw [hA, ite_self]) fun i hi w hw => by rw [hq i hi] at hw; exact absurd hw List.not_mem_nil]
  refine congrArg _ (foldl_id _ _ fun o ho => ?_)
  obtain ⟨i, hi, rfl⟩ := mem_octetsOf.mp ho
  exact settleQueue_empty (hq i hi) (hstalled i hi)

/-- A lone entry whose searches are done leaves its queue, and its outcome enters the result cache and the packet. -/
theorem leaveQueue_only {o p : Nat} {k : Packet} {out : SearchOutcome} {w : AsaWait}
    (hw : w = { packet := p, follows := none, set0 := none, set1 := none, done0 := some out, done1 := none }) (hq : s.asaQueue o = [w])
    (hs : sparseFind? s.asa.stalled o = none) (hk : s.packet? p = some k) :
    s.leaveQueue o w = (((s.setRc k.pipe
      (if out.parity then (s.rcOf k.pipe).filter (fun e => !(e.leader = p && e.outcome.isNone))
       else (s.rcOf k.pipe).map (fun e => if e.leader = p && e.outcome.isNone then { e with outcome := some (some out, none) } else e))).bump
      Od.rcMisses k.inst).setAsaQueue o []).takeOutcomes p (some out, none) := by
  have hp : w.packet = p := by rw [hw]
  unfold State.leaveQueue
  split
  · rename_i hnone
    rw [hp, hk] at hnone
    exact absurd hnone (Option.some_ne_none k)
  · rename_i k' hk'
    obtain rfl : k' = k := Option.some.inj (by rw [← hk', hp, hk])
    extract_lets parity out' mine rc s1 follows held fol s2 recent s3
    have hheld : held = [] := by
      unfold held
      rw [show sparseFind? s1.asa.stalled o = none from hs]
      rfl
    have hq1 : s1.asaQueue o = [w] := hq
    have hfollows : ¬ follows w := fun h => Option.some_ne_none w.packet (h.symm.trans (by rw [hw]))
    have hfol : fol = [] := by
      unfold fol
      rw [hheld, hq1, List.append_nil, List.filter_cons_of_neg (by simpa using hfollows), List.filter_nil]
    have hs2 : s2 = s1.setAsaQueue o [] := by
      unfold s2
      rw [hq1, List.filter_cons_of_neg (by simp), List.filter_nil]
    have hs3 : s3 = s2 := if_pos hheld
    have hparity : parity = out.parity := by
      unfold parity
      rw [hw]
      exact Bool.or_false _
    have hs1 : s1 = (s.setRc k'.pipe
        (if out.parity then (s.rcOf k'.pipe).filter (fun e => !(e.leader = p && e.outcome.isNone))
         else (s.rcOf k'.pipe).map (fun e => if e.leader = p && e.outcome.isNone then { e with outcome := some (some out, none) } else e))).bump
        Od.rcMisses k'.inst := by
      unfold s1 mine out'
      rw [hparity, hp, hw]
    rw [hfol, List.foldl_nil, hs3, hs2, hs1]
    unfold out'
    rw [hp, hw]

/-- A lone entry whose searches are done is settled. -/
theorem settleQueue_only {o p : Nat} {out : SearchOutcome} {w : AsaWait}
    (hw : w = { packet := p, follows := none, set0 := none, set1 := none, done0 := some out, done1 := none }) (hq : s.asaQueue o = [w])
    (hl : s.leaveQueue o w = t) (ht : sparseFind? t.asa.stalled o = none) : s.settleQueue o = t := by
  unfold State.settleQueue
  dsimp only
  rw [hq, List.filter_cons_of_pos (by rw [hw]; rfl), List.filter_nil, List.foldl_cons, List.foldl_nil, hl, ht]

/-- The clock of a die in which one packet waits for one lookup: it is searched, and leaves with the outcome. -/
theorem execAsaSearchSlot_only {d clock o p set : Nat} {k : Packet} {out : SearchOutcome} (hst : s.stopped = false) (hd : s.hasDie d = true)
    (hclock : clock = sparseGet (fun _ => 0) s.asa.clock d)
    (hstep : 0 = if clock = 0 then s.rd Od.searchThrottleStep (dieInst d) else sparseGet (fun _ => 0) s.asa.step d)
    (hstalled : ∀ i, i < 8 → sparseFind? s.asa.stalled (d * 8 + i) = none) (ho : o / 8 = d)
    (hothers : ∀ i, i < 8 → d * 8 + i ≠ o → s.asaQueue (d * 8 + i) = []) (hr : sparseRising none s.asa.queues = true)
    (hq : s.asaQueue o = [{ packet := p, follows := none, set0 := some set, set1 := none, done0 := none, done1 := none }]) (hk : s.packet? p = some k)
    (hx : s.searchOne p set = (s, out)) :
    exec (.asaSearchSlot d) s = .next ((((((s.asaTick d clock 0).setAsaQueue o
        [{ packet := p, follows := none, set0 := none, set1 := none, done0 := some out, done1 := none }]).setRc k.pipe
        (if out.parity then (s.rcOf k.pipe).filter (fun e => !(e.leader = p && e.outcome.isNone))
         else (s.rcOf k.pipe).map (fun e => if e.leader = p && e.outcome.isNone then { e with outcome := some (some out, none) } else e))).bump
        Od.rcMisses k.inst).setAsaQueue o []).takeOutcomes p (some out, none)) := by
  have hempty : ∀ x ∈ octetsOf d, x ≠ o → s.asaQueue x = [] := fun x hx hne => by
    obtain ⟨i, hi, rfl⟩ := mem_octetsOf.mp hx
    exact hothers i hi hne
  have hunstalled : ∀ x ∈ octetsOf d, sparseFind? s.asa.stalled x = none := fun x hx => by
    obtain ⟨i, hi, rfl⟩ := mem_octetsOf.mp hx
    exact hstalled i hi
  have hmem : o ∈ octetsOf d := mem_octetsOf.mpr ⟨o % 8, Nat.mod_lt _ (by decide), by omega⟩
  generalize hdone : ({ packet := p, follows := none, set0 := none, set1 := none, done0 := some out, done1 := none } : AsaWait) = done
  have hset (x : Nat) : (s.setAsaQueue o [done]).asaQueue x = if o = x then [done] else s.asaQueue x := asaQueue_set hr ..
  have hA : (octetsOf d).foldl (fun u x => u.serveSlot x false fun _ => true) s = s.setAsaQueue o [done] := by
    refine foldl_only (octetsOf_nodup d) hmem (fun x hx hne => ?_) (hdone ▸ serveSlot_only hq hx) fun x hx hne => ?_
    · exact serveSlot_idle (fun w hw => by rw [hempty x hx hne] at hw; exact absurd hw List.not_mem_nil) _
    · exact serveSlot_idle (fun w hw => by rw [hset, if_neg hne.symm, hempty x hx hne] at hw; exact absurd hw List.not_mem_nil) _
  have hB : ∀ i, i < 8 → ∀ w ∈ (s.setAsaQueue o [done]).asaQueue (d * 8 + i), w.set1 = none := by
    intro i hi w hw
    rw [hset] at hw
    by_cases hio : o = d * 8 + i
    · rw [if_pos hio] at hw
      rw [List.mem_singleton.mp hw, ← hdone]
    · rw [if_neg hio, hothers i hi (Ne.symm hio)] at hw
      exact absurd hw List.not_mem_nil
  rw [execAsaSearchSlot_sideA hst hd hclock hstep (t := s.setAsaQueue o [done]) (by rw [hA]; exact if_pos rfl) hB]
  generalize hrc : (if out.parity then (s.rcOf k.pipe).filter (fun e => !(e.leader = p && e.outcome.isNone))
    else (s.rcOf k.pipe).map (fun e => if e.leader = p && e.outcome.isNone then { e with outcome := some (some out, none) } else e)) = rc
  have hleave : ((s.setAsaQueue o [done]).asaTick d clock 0).leaveQueue o done =
      ((((((s.asaTick d clock 0).setAsaQueue o [done]).setRc k.pipe rc).bump Od.rcMisses k.inst).setAsaQueue o []).takeOutcomes p (some out, none)) := by
    rw [← hrc]
    exact leaveQueue_only hdone.symm ((hset o).trans (if_pos rfl)) (hunstalled o hmem) hk
  generalize hu : ((((s.asaTick d clock 0).setAsaQueue o [done]).setRc k.pipe rc).bump Od.rcMisses k.inst).setAsaQueue o [] = u at hleave ⊢
  have hkept : AsaKept u (u.takeOutcomes p (some out, none)) := (AsaKept.refl u).takeOutcomes ..
  have hstall : ∀ x ∈ octetsOf d, sparseFind? (u.takeOutcomes p (some out, none)).asa.stalled x = none := fun x hx => by
    rw [hkept, ← hu]
    exact hunstalled x hx
  refine congrArg _ (foldl_only (octetsOf_nodup d) hmem (fun x hx hne => ?_) ?_ fun x hx hne => ?_)
  · exact settleQueue_empty ((hset x).trans ((if_neg hne.symm).trans (hempty x hx hne))) (hunstalled x hx)
  · exact settleQueue_only hdone.symm ((hset o).trans (if_pos rfl)) hleave (hstall o hmem)
  · refine settleQueue_empty ?_ (hstall x hx)
    have hrising : sparseRising none ((((s.asaTick d clock 0).setAsaQueue o [done]).setRc k.pipe rc).bump Od.rcMisses k.inst).asa.queues = true :=
      sparseRising_set (fun _ => []) s.asa.queues o [done] hr
    rw [hkept.asaQueue, ← hu, asaQueue_set hrising, if_neg hne.symm]
    exact (hset x).trans ((if_neg hne.symm).trans (hempty x hx hne))

/-! The lookups of a packet. -/

/-- A packet that its lookups neither drop nor punt, of a profile that names no set. -/
theorem beginSearch_none {p : Nat} {k : Packet} (hw : s.profileSets (hvProfile k.hv) (hvGen k.hv) = (none, none)) :
    s.beginSearch p k = (s.setPacket p { k with searched := true }).finishLookups p := by
  unfold State.beginSearch
  dsimp only
  rw [hw]
  exact if_pos ⟨rfl, rfl⟩

/-- A packet of a profile without a result cache waits for its search. -/
theorem beginSearch_uncached {p : Nat} {k : Packet} {w : Option Nat × Option Nat} (hw : w = s.profileSets (hvProfile k.hv) (hvGen k.hv)) (hne : w ≠ (none, none))
    (hrc : s.rd Od.rcEnable 0 (hvProfile k.hv) = 0) (hroom : (s.asaQueue k.octet).length < 64) {u : State}
    (hu : u = (s.setPacket p k).bump Od.rcUncacheable k.inst) :
    s.beginSearch p k = (u.setAsaQueue k.octet (u.asaQueue k.octet ++
      [{ packet := p, follows := none, set0 := w.1, set1 := w.2, done0 := none, done1 := none }])).bump Od.searchWaits k.inst := by
  have hroom' : (u.asaQueue k.octet).length < 64 := by
    rw [hu]
    exact hroom
  unfold State.beginSearch
  dsimp only
  rw [← hw, if_neg fun h => hne (Prod.ext h.1 h.2), if_pos (.inr hrc), ← hu]
  exact if_pos hroom'

/-! A sweep of a result cache. -/

theorem forall_mem_two {P : Nat → Nat → Prop} (a b c d : Nat) : (∀ x y, (x, y) ∈ [(a, b), (c, d)] → P x y) ↔ P a b ∧ P c d := by
  refine ⟨fun h => ⟨h a b (by simp), h c d (by simp)⟩, fun ⟨h1, h2⟩ x y hxy => ?_⟩
  rw [List.mem_cons, List.mem_singleton] at hxy
  obtain h | h := hxy
  · rwa [(Prod.mk.inj h).1, (Prod.mk.inj h).2]
  · rwa [(Prod.mk.inj h).1, (Prod.mk.inj h).2]

/-- A generation of a set is kept, or there is no set. -/
theorem genKept_iff (set gen : Nat) : (decide (set = 15) || (sparseGet (fun _ => [(0, 0)]) s.asa.gens set).any fun h => decide (h.1 = gen)) = true ↔
    set = 15 ∨ ∃ h ∈ sparseGet (fun _ => [(0, 0)]) s.asa.gens set, h.1 = gen := by
  rw [Bool.or_eq_true, decide_eq_true_eq, List.any_eq_true]
  simp only [decide_eq_true_eq]

theorem execRcSweep_keeps {p : Nat} (hst : s.stopped = false) (hp : p % 16 ≤ 8) (hd : s.hasDie (p / 16) = true) {kept : RcEntry → Bool}
    (hkept : ∀ e, kept e = true ↔ ∀ set gen, (set, gen) ∈ [((e.key / 16 / 2 ^ (if e.key % 16 = 15 then 0 else s.setWidth (e.key % 16))) % 16, e.g0),
        (e.key % 16, e.g1)] → set = 15 ∨ ∃ h ∈ sparseGet (fun _ => [(0, 0)]) s.asa.gens set, h.1 = gen) :
    exec (.rcSweep p) s = .next (s.setRc p ((s.rcOf p).filter kept)) := by
  refine ((withPipe_next s _ p hp hd).trans (running_live hst _)).trans ?_
  dsimp only
  refine congrArg Host.Outcome.next (congrArg (s.setRc p) (List.filter_congr fun e _ => Bool.eq_iff_iff.mpr ?_))
  rw [hkept e, forall_mem_two (P := fun set gen => set = 15 ∨ ∃ h ∈ sparseGet (fun _ => [(0, 0)]) s.asa.gens set, h.1 = gen), Bool.and_eq_true]
  exact and_congr (genKept_iff ..) (genKept_iff ..)

end

/-- Settles O32: the lookups by where their stages end, a clock of the arrays by the one entry that waits, a sweep by the generations that are kept. -/
theorem searchRows : Obligations.SearchRows := by
  unfold Obligations.SearchRows
  intro s hst
  refine ⟨?_, ?_, ?_, ?_⟩
  · intro p k l k1 hk hstage hasa hplace hl hk1
    have hok : (decide (k.stage = .parsed) && (sparseFind? s.asa.stalled k.octet).isNone && (sparseFind? s.placing.stalled k.octet).isNone) = true := by
      rw [hasa, hplace, hstage]
      rfl
    have hexec : exec (.ingressLookups p) s = .next (if l.leave = 1 then l.st.dropPacket p k1 else if l.leave = 2 then l.st.toPunt p k1 0x0B
        else l.st.beginSearch p k1) := by
      rw [hk1, hl]
      exact withPacket_live hst hk hok _
    refine ⟨fun h1 => ?_, fun h2 => ?_, fun h1 h2 w hw => ⟨fun hnone => ?_, fun hsome hrc hroom u hu => ?_⟩⟩
    · rw [hexec, if_pos h1]
    · rw [hexec, if_neg (by rw [h2]; decide), if_pos h2]
    · rw [hexec, if_neg h1, if_neg h2, beginSearch_none (hw.symm.trans hnone)]
    · have hoctet : k1.octet = k.octet := by rw [hk1, Packet.octet, Packet.octet]
      have hinst : k1.inst = k.inst := by rw [hk1, Packet.inst, Packet.inst]
      rw [hexec, if_neg h1, if_neg h2, beginSearch_uncached hw hsome hrc (by rwa [hoctet]) (hu.trans (by rw [hinst])), hoctet, hinst]
  · intro p k hk hstage
    exact withPacket_other hst hk (by simp [hstage]) _
  · intro d clock step hd hclock hstep hstalled s1 h1
    obtain rfl : s1 = s.asaTick d clock step := h1
    refine ⟨execAsaSearchSlot_idle hst hd hclock hstep hstalled, ?_⟩
    rintro o p k set out ho hothers hr rfl hq hk hx
    exact execAsaSearchSlot_only hst hd hclock hstep hstalled ho hothers hr hq hk hx
  · intro p hp hd kept hkept
    exact execRcSweep_keeps hst hp hd hkept

end Sys2Proof.Machine
end
